-- ==== Sys2Proof/Word.lean ====
section
/-! DEFINITION. Bytes and 32-bit words, and the plain arithmetic on them that the whole model shares. -/

namespace Sys2Proof

/-- A byte of SRAM, keep RAM or flash. -/
abbrev Byte := BitVec 8

/-- A 32-bit register or memory word. -/
abbrev Word := BitVec 32

/-- A saturating counter: `n` counts more, never above `top`. -/
def satAdd (top a n : Nat) : Nat := min top (a + n)

/-- Two's complement: the natural number below `2 ^ w` that stands for `i` in `w` bits. -/
def toBits (w : Nat) (i : Int) : Nat := (i % (2 ^ w : Int)).toNat

/-- Two's complement: the integer that the low `w` bits of `n` stand for. -/
def ofBits (w n : Nat) : Int :=
  let m := n % 2 ^ w
  if 2 * m < 2 ^ w then m else (m : Int) - 2 ^ w

/-- The little-endian value of a list of bytes (R8). -/
def leNat : List Nat → Nat
  | [] => 0
  | b :: bs => b + 256 * leNat bs

/-- `n` bytes of `v`, least significant first (R8). -/
def leBytes : Nat → Nat → List Nat
  | 0, _ => []
  | n + 1, v => v % 256 :: leBytes n (v / 256)

/-- `v` held to the range `lo` to `hi`. -/
def clampNat (lo hi v : Nat) : Nat := max lo (min hi v)

/-- `v` held to the range `lo` to `hi`. -/
def clampInt (lo hi v : Int) : Int := max lo (min hi v)

/-- The truth value as a bit. -/
def bit (b : Bool) : Nat := if b then 1 else 0

end Sys2Proof
end

