-- ==== Sys2Proof/Syntax.lean ====
section
/-! DEFINITION. The commands of the MB7140, one constructor of `Instr` per row of spec/opcode_table.json: host link
transactions, register writes and queue commands, and the events the device's own units and pins meet. What a row
leaves to its surroundings (the level of a pin, a measured voltage, what a converter read) is its operand. A queue
command's row names the tag its entry took at the fetch. -/

namespace Sys2Proof

/-- The sixteen rods, in the order of their numbers (R20). -/
inductive Rod where
  | core | link | flash | mover | therm | supply | print | raster | feed | cut | loop | vidin | enc | dec | scan | ledger
deriving DecidableEq, Repr

/-- A rod's number (R20). -/
def Rod.idx : Rod → Nat
  | .core => 0 | .link => 1 | .flash => 2 | .mover => 3 | .therm => 4 | .supply => 5 | .print => 6 | .raster => 7
  | .feed => 8 | .cut => 9 | .loop => 10 | .vidin => 11 | .enc => 12 | .dec => 13 | .scan => 14 | .ledger => 15

/-- Every rod, in the order of their numbers. -/
def Rod.all : List Rod :=
  [.core, .link, .flash, .mover, .therm, .supply, .print, .raster, .feed, .cut, .loop, .vidin, .enc, .dec, .scan, .ledger]

/-- The rod with number `n`, if there is one. -/
def Rod.ofNat? (n : Nat) : Option Rod := Rod.all.drop n |>.head?

/-- What FLASH finds at a negotiation (R256 to R261): every byte it reads is 0x00 or 0xFF; valid SFDP tables; from them the
size in MiB, the read modes whose reads of step 7 agree (bit m for mode code m) and suspend support; and the JEDEC ID. -/
structure FlashChip where
  blank : Bool
  sfdp : Bool
  sizeMib : BitVec 16
  modes : BitVec 8
  suspend : Bool
  jedec : BitVec 24
deriving DecidableEq, Repr

/-- What a print line's sample brings (R145, R367): measured VH in mV, and the code of HD_THM. -/
structure LineSample where
  vhMv : BitVec 16
  headCode : BitVec 12
deriving DecidableEq, Repr

/-- What an identification and a probe of the head measure (R388, R389): the HD_ID voltage and VH in mV, and for each
strobe group the current it draws, in 0.1 mA. -/
structure HeadMeas where
  idMv : BitVec 16
  vhMv : BitVec 16
  groups : List (BitVec 16)
deriving DecidableEq, Repr

/-- What a motor check measures (R426), for one winding or phase pair: resistance in 10 mΩ at 25 °C, inductance in 10 µH,
and the winding open. -/
structure WindingMeas where
  r : BitVec 16
  l : BitVec 16
  isOpen : Bool
deriving DecidableEq, Repr

/-- What the monitor converts (R303, R311): the die in 0.1 °C, and the codes of THM0–THM3 and HD_THM. -/
structure TempSample where
  die : BitVec 16
  thm0 : BitVec 12
  thm1 : BitVec 12
  thm2 : BitVec 12
  thm3 : BitVec 12
  head : BitVec 12
deriving DecidableEq, Repr

/-- What a calibration of the ADC converts (R289): the sums of the 16 codes of the internal ground and of the 16 of the bandgap, and the
conversions that were pre-empted and repeated (R308). -/
structure AdcReading where
  ground : BitVec 16
  bandgap : BitVec 16
  preempted : BitVec 16
deriving DecidableEq, Repr

/-- A wake source outside THERM (R126): WAKE0–WAKE3, the wake timer, the VIN comparator and the host wake pulse. -/
inductive WakeSource where
  | pin (k : Fin 4)
  | timer
  | vin
  | host
deriving DecidableEq, Repr

/-- What a negotiation of the sensor meets (R470): the ID read for each descriptor, none where nothing acknowledged; every
script write acknowledged; two whole frames in time. -/
structure Negotiation where
  ids : List (Option (BitVec 16))
  script : Bool
  frames : Bool
deriving DecidableEq, Repr

/-- How a rod's self-test ends (R68): it passes or fails on its own checks; PRINT's goes on with the head, FEED's with its
motor and hall code, and VIDIN's is the negotiation of R470. -/
inductive TestResult where
  | pass
  | fail
  | head (m : HeadMeas) (leak : BitVec 16)
  | motor (m : List WindingMeas) (hall : BitVec 3)
  | camera (n : Negotiation)
deriving DecidableEq, Repr

/-- The paper path's sensors (R429). -/
inductive Sensor where
  | paper | nearEnd | cover
deriving DecidableEq, Repr

/-- The clock sources that CORE starts and stops, LF source apart (R105). -/
inductive ClkSrc where
  | hfxo | frc | plls | pllv
deriving DecidableEq, Repr

/-- The two PLLs. -/
inductive PllId where
  | s | v
deriving DecidableEq, Repr

/-- How a frame from the sensor ends (R466): whole, with its samples in the order of delivery, or to be discarded. -/
inductive FrameEnd where
  | whole (samples : List (BitVec 16))
  | headerBad | crcBad | sizeBad
deriving DecidableEq, Repr

/-- A symbol that SCAN has read in a frame (R486 to R491): symbology code, header flags, QR version, level and corrected
codewords, the centre in tap S pixels, and the payload as it stands in the symbol. -/
structure Symbol where
  sym : BitVec 2
  flags : BitVec 5
  version : BitVec 8
  level : BitVec 2
  corrected : BitVec 16
  x : BitVec 16
  y : BitVec 16
  payload : List (BitVec 8)
deriving DecidableEq, Repr

/-- What SCAN's examination of a frame yields: the symbols read, the candidates not decoded, and its time in 0.1 ms. -/
structure ScanResult where
  read : List Symbol
  unread : BitVec 16
  ms : BitVec 16
deriving DecidableEq, Repr

/-- A block of a macroblock that is predicted from the reference (R501): its place and size in the macroblock, in luma pixels, and
its vector in quarter pixels, signed. -/
structure MvBlock where
  x : BitVec 5
  y : BitVec 5
  w : BitVec 5
  h : BitVec 5
  dx : BitVec 16
  dy : BitVec 16
deriving DecidableEq, Repr

/-- How ENC codes a macroblock (R500, R501, R504, R509): intra at a QP, flat mid-grey or not; as P_Skip, with the vector that this
implies; or by prediction. -/
inductive MbCode where
  | intra (qp : BitVec 6) (grey : Bool)
  | skip (dx dy : BitVec 16)
  | inter (blocks : List MvBlock)
deriving DecidableEq, Repr

/-- A slice as ENC codes it (R505): its QP, its macroblocks in order, how many were coded again, the NAL units ahead of it with
their start codes (R502), and its own NAL unit with its start code. -/
structure Slice where
  qp : BitVec 6
  mbs : List MbCode
  requant : BitVec 8
  params : List (BitVec 8)
  nal : List (BitVec 8)
deriving DecidableEq, Repr

/-- A macroblock as DEC has it after the last NAL unit (R518): no kept slice covers it, or it was decoded intra or by prediction,
with its vector in quarter pixels, signed. -/
inductive MbDec where
  | lost
  | intra
  | inter (dx dy : BitVec 16)
deriving DecidableEq, Repr

/-- A picture that DEC's parse of an access unit comes to (R516 to R520): IDR, I slices only, the recovery_frame_cnt of a recovery
point ahead of it, its size in macroblocks, frame_num, its macroblocks in raster order (one that the list lacks is lost), slices
discarded for syntax and for order, and gaps in frame_num. -/
structure AuPicture where
  idr : Bool
  intra : Bool
  recovery : Option (BitVec 16)
  w : BitVec 8
  h : BitVec 8
  frameNum : BitVec 16
  mbs : List MbDec
  syn : BitVec 8
  aso : BitVec 8
  gaps : BitVec 8
deriving DecidableEq, Repr

/-- What DEC's parse of an access unit comes to: a feature that R495 excludes, or a picture. -/
inductive AuResult where
  | unsupported
  | picture (p : AuPicture)
deriving DecidableEq, Repr

/-- A transaction's header as the MB7140 samples it (R162): OP, LEN, ADDR and HCRC. -/
structure Header where
  op : BitVec 8
  len : BitVec 16
  addr : BitVec 32
  hcrc : BitVec 8
deriving DecidableEq, Repr

/-- The banks of signal balls (R541). -/
inductive IoBank where
  | hl | fl | hd | mx | cam
deriving DecidableEq, Repr

/-- The commands: one constructor per row of spec/opcode_table.json, in its order. -/
inductive Instr where
  /-- READ (R166). -/
  | read (h : Header)
  /-- WRITE (R166). -/
  | write (h : Header) (data : List (BitVec 8)) (crc : BitVec 16)
  /-- POLL (R163). -/
  | poll (h : Header)
  /-- TRAIN (R176). -/
  | train (h : Header) (seen : Bool) (taps : BitVec 16)
  /-- LINK_RESET (R179). -/
  | linkReset
  /-- SHORT_TRANSACTION (R171). -/
  | shortTransaction (h : Option Header) (data : List (BitVec 8)) (crc : Option (BitVec 16))
  /-- TRANSACTION_TIMEOUT (R167). -/
  | transactionTimeout (h : Header) (data : List (BitVec 8)) (crc : BitVec 16) (done : BitVec 16)
  /-- HOST_WAKE_PULSE (R126). -/
  | hostWakePulse (bootSrc : Bool)
  /-- LINK_OFFER (R172). -/
  | linkOffer (w : BitVec 32)
  /-- LINK_SWITCH (R173). -/
  | linkSwitch (w : BitVec 32)
  /-- QUEUE_ENABLE (R196). -/
  | queueEnable (q : Fin 16) (w : BitVec 32)
  /-- QUEUE_DISABLE (R198). -/
  | queueDisable (q : Fin 16) (w : BitVec 32)
  /-- SUBMISSION_TAIL_DOORBELL (R207). -/
  | submissionTailDoorbell (q : Fin 16) (w : BitVec 32)
  /-- COMPLETION_HEAD_DOORBELL (R208). -/
  | completionHeadDoorbell (q : Fin 16) (w : BitVec 32)
  /-- ENTRY_FETCH (R210). -/
  | entryFetch
  /-- QCOAL_TIMER (R219). -/
  | qcoalTimer (q : Fin 16)
  /-- READY_WAIT_EXPIRY (R89). -/
  | readyWaitExpiry (tag : Fin 64)
  /-- PENDING_CLEAR (R218). -/
  | pendingClear (w : BitVec 32)
  /-- PINMASK_WRITE (R220). -/
  | pinmaskWrite (k : Fin 4) (w : BitVec 32)
  /-- NOP (R216). -/
  | nop (tag : Fin 64)
  /-- PARTIAL_APPLY (R63). -/
  | partialApply (tag : Fin 64)
  /-- IMAGE_CONFIRM (R51). -/
  | imageConfirm (tag : Fin 64)
  /-- FREEZE_COMMIT (R53). -/
  | freezeCommit (tag : Fin 64)
  /-- ABORT (R217). -/
  | abort (tag : Fin 64)
  /-- RELEASE_HELD (R531). -/
  | releaseHeld (tag : Fin 64) (vm : BitVec 16) (strobes : BitVec 8)
  /-- PARTIAL_APPLY_TIMEOUT (R69). -/
  | partialApplyTimeout
  /-- IMG_PUSH (R59). -/
  | imgPush (w : BitVec 32)
  /-- IMAGE_VERIFIED (R55). -/
  | imageVerified
  /-- POR (R76). -/
  | por (bootSrc : Bool)
  /-- PIN (R76). -/
  | pin
  /-- RESET_CTL_GO (R80). -/
  | resetCtlGo (w : BitVec 32)
  /-- SOFT (R80). -/
  | soft (bootSrc : Bool)
  /-- CORE_UV (R76). -/
  | coreUv (mv : BitVec 16) (bootSrc : Bool)
  /-- SVC_WDT (R76). -/
  | svcWdt (bootSrc : Bool)
  /-- BRAKE_HOLD_END (R83). -/
  | brakeHoldEnd
  /-- ZERO_FILL_DONE (R86). -/
  | zeroFillDone
  /-- ROD_RESET (R94). -/
  | rodReset (w : BitVec 32)
  /-- SELF_TEST_DONE (R68). -/
  | selfTestDone (r : Rod) (res : TestResult)
  /-- HEARTBEAT_KICK (R102). -/
  | heartbeatKick (w : BitVec 32)
  /-- HB_PERIOD_WRITE (R102). -/
  | hbPeriodWrite (w : BitVec 32)
  /-- HB_EXPIRED (R103). -/
  | hbExpired
  /-- LFXO_STABLE (R107). -/
  | lfxoStable
  /-- LFXO_LOSS (R107). -/
  | lfxoLoss
  /-- LFXO_RETRY (R107). -/
  | lfxoRetry
  /-- HFXO_FAIL (R108). -/
  | hfxoFail
  /-- HFXO_RETRY (R108). -/
  | hfxoRetry
  /-- CLOCK_GRANT (R109). -/
  | clockGrant (src : ClkSrc)
  /-- CLOCK_STOP (R109). -/
  | clockStop (src : ClkSrc)
  /-- PLLV_WARM_WRITE (R113). -/
  | pllvWarmWrite (w : BitVec 32)
  /-- GUARD_TRIP (R115). -/
  | guardTrip (p : PllId)
  /-- PLL_LOCK (R114). -/
  | pllLock (p : PllId)
  /-- RELOCK_FAIL (R117). -/
  | relockFail (p : PllId)
  /-- DVFS_POINT_WRITE (R120). -/
  | dvfsPointWrite (w : BitVec 32)
  /-- MODE_ALLOW_WRITE (R130). -/
  | modeAllowWrite (w : BitVec 32)
  /-- IDLE_HOLD_WRITE (R130). -/
  | idleHoldWrite (w : BitVec 32)
  /-- ENTER_TALLY (R123). -/
  | enterTally
  /-- ENTER_CLEARED (R123). -/
  | enterCleared (bootSrc : Bool)
  /-- TALLY_BURST (R300). -/
  | tallyBurst (vin : BitVec 16) (m : TempSample) (adc : AdcReading) (wake : Option (Fin 9 × WakeSource))
  /-- WAKE_PIN (R126). -/
  | wakePin (k : Fin 4) (level bootSrc : Bool)
  /-- WAKE_TIMER (R126). -/
  | wakeTimer (bootSrc : Bool)
  /-- VIN_COMPARATOR (R126). -/
  | vinComparator (bootSrc : Bool)
  /-- TALLY_EXIT_DONE (R128). -/
  | tallyExitDone
  /-- VCORE_TGT_WRITE (R133). -/
  | vcoreTgtWrite (w : BitVec 32)
  /-- VH_TGT_WRITE (R142). -/
  | vhTgtWrite (w : BitVec 32)
  /-- VH_CTL_WRITE (R144). -/
  | vhCtlWrite (w : BitVec 32)
  /-- VIN_FLOOR_WRITE (R146). -/
  | vinFloorWrite (w : BitVec 32)
  /-- VIN_CRIT_WRITE (R146). -/
  | vinCritWrite (w : BitVec 32)
  /-- VM_CEIL_WRITE (R150). -/
  | vmCeilWrite (w : BitVec 32)
  /-- VM_DUMP_WRITE (R150). -/
  | vmDumpWrite (w : BitVec 32)
  /-- VCORE_SETTLED (R135). -/
  | vcoreSettled (mv : BitVec 16)
  /-- VH_SETTLED (R135). -/
  | vhSettled
  /-- VH_DISCHARGED (R141). -/
  | vhDischarged
  /-- VIN_FLOOR (R147). -/
  | vinFloor
  /-- VIN_CRIT (R148). -/
  | vinCrit
  /-- VM_CEIL (R151). -/
  | vmCeil
  /-- VM_CEIL_CLEAR (R151). -/
  | vmCeilClear
  /-- VM_DUMP (R152). -/
  | vmDump
  /-- DUMP_RELEASE (R152). -/
  | dumpRelease
  /-- VM_TRIP (R153). -/
  | vmTrip (vm : BitVec 16)
  /-- DUMP_OVERRUN (R154). -/
  | dumpOverrun (vm : BitVec 16)
  /-- VH_OVP (R155). -/
  | vhOvp (vh : BitVec 16)
  /-- VH_OCP (R155). -/
  | vhOcp (vh : BitVec 16)
  /-- VH_SETTLE (R155). -/
  | vhSettle (vh : BitVec 16)
  /-- SUPPLY_MEAS (R308). -/
  | supplyMeas (vin : BitVec 16) (vm : BitVec 16)
  /-- SCRUB_PASS (R285). -/
  | scrubPass
  /-- SCRUB_NOW (R301). -/
  | scrubNow
  /-- CAL_NOW (R301). -/
  | calNow
  /-- HEADCHK_NOW (R291). -/
  | headchkNow
  /-- KEEP_RAM_SCRUB (R287). -/
  | keepRamScrub
  /-- FRC_CALIBRATION (R288). -/
  | frcCalibration (cycles : BitVec 32)
  /-- ADC_CALIBRATION (R289). -/
  | adcCalibration (adc : AdcReading)
  /-- HEAD_RECHECK (R292). -/
  | headRecheck
  /-- HEAD_RECHECK_DONE (R294). -/
  | headRecheckDone (m : HeadMeas) (leak : BitVec 16)
  /-- LEDGER_COMPACTION (R295). -/
  | ledgerCompaction
  /-- TELEMETRY_SAMPLE (R298). -/
  | telemetrySample (vin : BitVec 16) (m : TempSample)
  /-- FLOOR_GRANT (R284). -/
  | floorGrant
  /-- MONITOR_SAMPLE (R311). -/
  | monitorSample (m : TempSample)
  /-- DIE_OVERTEMP (R315). -/
  | dieOvertemp (t : BitVec 16)
  /-- PAUSE_TIMEOUT (R318). -/
  | pauseTimeout
  /-- SAMPLE (R309). -/
  | sample (tag : Fin 64) (codes : List (BitVec 16))
  /-- FLASH_NEGOTIATION (R256). -/
  | flashNegotiation (c : FlashChip)
  /-- SLOT_ERASE (R268). -/
  | slotErase (tag : Fin 64)
  /-- SLOT_WRITE (R268). -/
  | slotWrite (tag : Fin 64)
  /-- SLOT_VERIFY (R268). -/
  | slotVerify (tag : Fin 64)
  /-- SLOT_SWITCH (R268). -/
  | slotSwitch (tag : Fin 64)
  /-- READ_TO_SRAM (R267). -/
  | readToSram (tag : Fin 64)
  /-- SECTOR_ERASE_DONE (R262). -/
  | sectorEraseDone
  /-- PAGE_PROGRAM_DONE (R262). -/
  | pageProgramDone (left : Option (List (BitVec 8)))
  /-- STORE_SCAN (R345). -/
  | storeScan
  /-- READ_COUNTERS (R279). -/
  | readCounters (tag : Fin 64)
  /-- COMMIT_NOW (R279). -/
  | commitNow (tag : Fin 64)
  /-- EXPORT (R279). -/
  | exportRecords (tag : Fin 64)
  /-- DELTA_COMMIT (R277). -/
  | deltaCommit
  /-- LEDGER_COMMIT (R273). -/
  | ledgerCommit
  /-- MOVE (R239). -/
  | move (tag : Fin 64)
  /-- GO (R237). -/
  | go (ch : Fin 16) (w : BitVec 32)
  /-- STOP (R237). -/
  | stop (ch : Fin 16) (w : BitVec 32)
  /-- CLEAR (R237). -/
  | clear (ch : Fin 16) (w : BitVec 32)
  /-- APPEND (R243). -/
  | append (ch : Fin 16)
  /-- DESCRIPTOR_END (R228). -/
  | descriptorEnd (ch : Fin 16)
  /-- RECEIPT (R383). -/
  | receipt (tag : Fin 64)
  /-- HEAD_PROBE (R391). -/
  | headProbe (tag : Fin 64) (m : HeadMeas)
  /-- DRY_HEAD (R397). -/
  | dryHead (tag : Fin 64)
  /-- CHECK_PASS (R327). -/
  | checkPass
  /-- BAND_COMMIT (R356). -/
  | bandCommit
  /-- LINE_TIMER (R378). -/
  | lineTimer (m : LineSample)
  /-- SHIFT_END (R366). -/
  | shiftEnd
  /-- SLICE_END (R375). -/
  | sliceEnd
  /-- PASS_END (R375). -/
  | passEnd (m : LineSample)
  /-- STROBE_FAULT (R368). -/
  | strobeFault (levels : BitVec 8)
  /-- LEAKAGE_MEASURED (R394). -/
  | leakageMeasured (leak : BitVec 16)
  /-- DRY_PULSE (R396). -/
  | dryPulse (m : LineSample)
  /-- DRY_MEASURE (R396). -/
  | dryMeasure (leak : BitVec 16)
  /-- WET_HEAD (R396). -/
  | wetHead (leak : BitVec 16)
  /-- RES_REGISTER (R347). -/
  | resRegister (w : BitVec 32)
  /-- RES_REMOVE (R347). -/
  | resRemove (w : BitVec 32)
  /-- REGISTRATION_DONE (R347). -/
  | registrationDone
  /-- MOVE_PAPER (R425). -/
  | movePaper (tag : Fin 64)
  /-- MOTOR_CHECK (R428). -/
  | motorCheck (tag : Fin 64) (m : List WindingMeas)
  /-- ENCODER_COUNT (R408). -/
  | encoderCount (a : Bool) (b : Bool) (ticks : BitVec 32) (m : LineSample)
  /-- INDEX (R408). -/
  | index
  /-- SERIAL_READ (R409). -/
  | serialRead (frame : Option (BitVec 24)) (m : LineSample)
  /-- HALL_EDGE (R405). -/
  | hallEdge (code : BitVec 3) (ticks : BitVec 32)
  /-- HALL_INVALID (R405). -/
  | hallInvalid
  /-- FEEDBACK_LOSS (R412). -/
  | feedbackLoss
  /-- AT_REST (R416). -/
  | atRest
  /-- HOLD_END (R416). -/
  | holdEnd
  /-- REV_DWELL_END (R420). -/
  | revDwellEnd
  /-- SENSOR_CHANGE (R429). -/
  | sensorChange (x : Sensor) (level : Bool)
  /-- AUX_ON (R402). -/
  | auxOn (w : BitVec 32)
  /-- AUX_OFF (R402). -/
  | auxOff (w : BitVec 32)
  /-- AUX_PULL_END (R402). -/
  | auxPullEnd
  /-- AUX_RELEASE (R402). -/
  | auxRelease
  /-- BRIDGE_OCP (R407). -/
  | bridgeOcp (hb : Fin 6)
  /-- HELD_BRAKE_END (R529). -/
  | heldBrakeEnd
  /-- LOOP_SAMPLE (R454). -/
  | loopSample (k : Fin 4) (meas : BitVec 16)
  /-- LOOP_OUTPUT (R455). -/
  | loopOutput (k : Fin 4)
  /-- COEF_COMMIT (R460). -/
  | coefCommit (w : BitVec 32)
  /-- APPLY (R461). -/
  | apply (mask : BitVec 32)
  /-- CUT (R432). -/
  | cut (tag : Fin 64)
  /-- HOME (R434). -/
  | home (tag : Fin 64)
  /-- CUT_SWITCH (R432). -/
  | cutSwitch (homeLevel : Bool) (endLevel : Bool)
  /-- SWITCH_CONFLICT (R435). -/
  | switchConflict
  /-- JAM (R433). -/
  | jam
  /-- CUT_BRAKE_END (R432). -/
  | cutBrakeEnd
  /-- PARTIAL_MS_END (R432). -/
  | partialMsEnd
  /-- HOME_TIMEOUT (R433). -/
  | homeTimeout
  /-- CUT_TIMING_WRITE (R440). -/
  | cutTimingWrite (w : BitVec 32)
  /-- CAPTURE_START (R483). -/
  | captureStart (tag : Fin 64)
  /-- CAPTURE_STOP (R484). -/
  | captureStop (tag : Fin 64)
  /-- RENEGOTIATE (R485). -/
  | renegotiate (tag : Fin 64)
  /-- FRAME_START (R478). -/
  | frameStart
  /-- FRAME_END (R479). -/
  | frameEnd (corrected : BitVec 8) (r : FrameEnd)
  /-- CSI_LINK (R471). -/
  | csiLink
  /-- NEGOTIATION_RETRY (R472). -/
  | negotiationRetry (n : Negotiation)
  /-- CAM_SLEEP (R473). -/
  | camSleep
  /-- HOST_HOLD_RELEASE (R480). -/
  | hostHoldRelease (w : BitVec 32)
  /-- FRAME_RECORD_POP (R186). -/
  | frameRecordPop
  /-- EXPOSURE_WRITE (R476). -/
  | exposureWrite (w : BitVec 32)
  /-- SCAN (R488). -/
  | scan (tag : Fin 64)
  /-- SCAN_FRAME_DONE (R489). -/
  | scanFrameDone (r : ScanResult)
  /-- SCAN_TIME_LIMIT (R491). -/
  | scanTimeLimit
  /-- ENC_STREAM_OPEN (R497). -/
  | encStreamOpen (tag : Fin 64)
  /-- ENC_STREAM_CLOSE (R511). -/
  | encStreamClose (tag : Fin 64)
  /-- SLICE_BUF (R506). -/
  | sliceBuf (tag : Fin 64)
  /-- REFRESH (R503). -/
  | refresh (tag : Fin 64)
  /-- SLICE_DONE (R505). -/
  | sliceDone (r : Slice)
  /-- RATE_WRITE (R510). -/
  | rateWrite (w : BitVec 32)
  /-- DEC_STREAM_OPEN (R513). -/
  | decStreamOpen (tag : Fin 64)
  /-- DECODE_AU (R515). -/
  | decodeAu (tag : Fin 64)
  /-- DEC_STREAM_CLOSE (R522). -/
  | decStreamClose (tag : Fin 64)
  /-- AU_DECODED (R520). -/
  | auDecoded (r : AuResult)
  /-- PIC_HOLD_RELEASE (R514). -/
  | picHoldRelease (w : BitVec 32)
  /-- ACCEL_SAMPLE (R537). -/
  | accelSample (ident : Option (BitVec 8)) (data : Option (List (BitVec 8)))
  /-- ACCEL_RETRY (R539). -/
  | accelRetry (ident : Option (BitVec 8))
  /-- VIO_RISE (R542). -/
  | vioRise (b : IoBank)
  /-- VIO_CLASS_SELECT (R542). -/
  | vioClassSelect (b : IoBank) (high : Bool)
  /-- VIO_FALL (R543). -/
  | vioFall (b : IoBank)
  /-- REGISTER_WRITE (R10). -/
  | registerWrite (a : BitVec 32) (w : BitVec 32)
  /-- VIN_POWER_OFF (R76). -/
  | vinPowerOff
  /-- RESET_N_RELEASE (R57). -/
  | resetNRelease (bootSrc : Bool)
  /-- ERASE_TIME_EXCEEDED (R268). -/
  | eraseTimeExceeded
  /-- MICROSTEP (R417). -/
  | microstep (m : LineSample)
  /-- COMMUTATION_ADVANCE (R406). -/
  | commutationAdvance
deriving DecidableEq, Repr

end Sys2Proof
end

