-- ==== Sys2Proof/Decode.lean ====
section
/-! DEFINITION. The commands that the opcode table's bits spell: none, since no row of the table gives bits. -/

namespace Sys2Proof

/-- The command that a word spells by the bits of spec/opcode_table.json. No row gives bits, so no word spells one. -/
def decodeTableWord (_nbits _w : Nat) : Option Instr := none

end Sys2Proof
end

