-- ==== Sys2Proof/Config.lean ====
section
/-! DEFINITION. The free values: constants with no body for what the spec leaves open, so that no proof can lean on a
value of theirs. -/

namespace Sys2Proof

/-- What a thermistor at an end of its code range, where the formula of R303 has no value, is reported as (log entry 33). -/
opaque Config.thermistorEnd : Nat → Int

/-- VH in µV as measured when it starts, and while it runs (R137, R141; log entry 16). -/
opaque Config.vhMeasured : Nat → Nat

/-- Beats that background work had in its busiest window of the beam (R282; log entry 28). -/
opaque Config.beamShare : Nat → Nat

/-- The vendor key hash in OTP, the SHA-256 of the vendor's public key (R41, R49; log entry 4). -/
opaque Config.vendorHash : List Nat

/-- The service firmware section carries a Brixuewyn seal that is good against the vendor key hash (R50; log entry 52). -/
opaque Config.sealOk : List Nat → Option (List Nat) → Bool

/-- The word of a result that the spec does not state (log entry 25). -/
opaque Config.openWord : Nat → Nat

/-- A byte of keep RAM where the MB7140 keeps what the spec does not lay out (R255), by its offset (log entry 43). -/
opaque Config.keepByte : Nat → Nat → Nat

/-- The bytes of pictures whose arithmetic the spec leaves to the standard it names or to the implementation (log
entry 46). -/
opaque Config.pixel : Nat → Nat → Nat

/-- A byte of a picture after deblocking, which is the standard's (R494, R518): from an open value, the picture before it and the
byte's offset (log entry 46). -/
opaque Config.deblocked : Nat → List Nat → Nat → Nat

/-- The demosaic of R474: Bayer order, width and the corrected samples give R, G and B of each pixel (log entry 46). -/
opaque Config.demosaic : Nat → Nat → List Nat → List (Nat × Nat × Nat)

/-- The conversion of R, G and B to Y′, Cb and Cr (R474; log entry 46). -/
opaque Config.colour : Nat × Nat × Nat → Nat × Nat × Nat

/-- A component of the scaled picture (R474): from the cropped rows, the tap's width and height, and the row and column
(log entry 46). -/
opaque Config.scaled : List (List Nat) → Nat → Nat → Nat → Nat → Nat

/-- A byte of the line that RASTER's self-test writes (R363): its pattern is not stated (log entry 35). -/
opaque Config.testByte : Nat → Nat → Nat

/-- The duty in ‰ with which CUT holds a braking current at VM_BRAKE_MA (R419): the spec gives no duty for a current (log entry 40). -/
opaque Config.cutBrakeDuty : Nat → Int

end Sys2Proof
end

