-- ==== Sys2Proof/Machine/Registers.lean ====
section
/-! DEFINITION. The register map of spec/: one `Fld` per named field (its host address, its lowest bit, its width),
one row of `regTable` per register (its host address and which bits have each type code of R10), and the words the
registers hold after a device reset where the spec's tables give one that is not zero (R10: an "img" field reads 0
until an image loads). Per-queue, per-channel and per-loop registers take their index as an argument. -/

namespace Sys2Proof.Machine

/-- A register field: the host address of its register, its lowest bit and its width. -/
structure Fld where
  addr : Nat
  lo : Nat
  wid : Nat
deriving DecidableEq, Repr

/-- A register: its host address, and its read-write, write-one-to-clear, read-clears and readable bits (R10). -/
structure RegInfo where
  addr : Nat
  rw : Nat
  w1c : Nat
  rc : Nat
  readable : Nat
deriving DecidableEq, Repr

/-! ### CORE -/

def CORE.IMG_STAT_STATE : Fld := ⟨0x40000100, 0, 3⟩
def CORE.IMG_STAT_SOURCE : Fld := ⟨0x40000100, 3, 2⟩
def CORE.IMG_STAT_FALLBACK : Fld := ⟨0x40000100, 5, 1⟩
def CORE.IMG_STAT_PARTIAL_ACTIVE : Fld := ⟨0x40000100, 6, 1⟩
def CORE.IMG_STAT_FAIL_STEP : Fld := ⟨0x40000100, 8, 8⟩
def CORE.IMG_STAT_UNKNOWN_BEADS : Fld := ⟨0x40000100, 16, 8⟩
def CORE.IMG_VER_ROLLBACK : Fld := ⟨0x40000104, 0, 8⟩
def CORE.IMG_VER_OTP_ROLLBACK : Fld := ⟨0x40000104, 8, 8⟩
def CORE.IMG_SERIAL_SERIAL : Fld := ⟨0x40000108, 0, 32⟩
def CORE.IMG_ADDR_ADDR : Fld := ⟨0x4000010C, 4, 19⟩
def CORE.IMG_PUSH_GO : Fld := ⟨0x40000110, 0, 1⟩
def CORE.IMG_BEAD_ERR_BEAD : Fld := ⟨0x40000114, 0, 16⟩
def CORE.IMG_BEAD_ERR_CAUSE : Fld := ⟨0x40000114, 16, 8⟩
def CORE.OTP_STAT_VENDOR_KEY : Fld := ⟨0x40000118, 0, 1⟩
def CORE.OTP_STAT_INT_KEY1 : Fld := ⟨0x40000118, 1, 1⟩
def CORE.OTP_STAT_INT_KEY2 : Fld := ⟨0x40000118, 2, 1⟩
def CORE.OTP_STAT_FROZEN : Fld := ⟨0x40000118, 3, 1⟩
def CORE.OTP_STAT_SVC_CLOSED : Fld := ⟨0x40000118, 4, 1⟩
def CORE.ROD_READY_READY : Fld := ⟨0x40000200, 0, 16⟩
def CORE.ROD_FAULT_FAULT : Fld := ⟨0x40000204, 0, 16⟩
def CORE.RESET_CAUSE_KIND : Fld := ⟨0x40000208, 0, 3⟩
def CORE.RESET_CAUSE_TORN_PENDING : Fld := ⟨0x40000208, 3, 1⟩
def CORE.RESET_CAUSE_CUT_INTERRUPTED : Fld := ⟨0x40000208, 4, 1⟩
def CORE.RESET_CAUSE_LEDGER_DISCARD : Fld := ⟨0x40000208, 5, 1⟩
def CORE.RESET_CAUSE_COUNT : Fld := ⟨0x40000208, 8, 8⟩
def CORE.RESET_CTL_GO : Fld := ⟨0x4000020C, 0, 1⟩
def CORE.RESET_CTL_KEY : Fld := ⟨0x4000020C, 16, 16⟩
def CORE.ROD_RESET_MASK : Fld := ⟨0x40000210, 0, 16⟩
def CORE.READY_WAIT_DEFAULT_MS : Fld := ⟨0x40000214, 0, 16⟩
def CORE.READY_WAIT_POOL_USED : Fld := ⟨0x40000214, 16, 6⟩
def CORE.HEARTBEAT_KICK : Fld := ⟨0x40000218, 0, 16⟩
def CORE.HB_PERIOD_PERIOD_MS : Fld := ⟨0x4000021C, 0, 16⟩
def CORE.HB_PERIOD_EXPIRED : Fld := ⟨0x4000021C, 16, 1⟩
def CORE.ID_REV : Fld := ⟨0x40000000, 0, 8⟩
def CORE.ID_VARIANT : Fld := ⟨0x40000000, 8, 8⟩
def CORE.ID_PART : Fld := ⟨0x40000000, 16, 16⟩
def CORE.MODE_MODE : Fld := ⟨0x40000004, 0, 3⟩
def CORE.MODE_WOKE : Fld := ⟨0x40000004, 3, 1⟩
def CORE.MODE_WAKE_SRC : Fld := ⟨0x40000004, 4, 4⟩
def CORE.MODE_ALLOW_TALLY : Fld := ⟨0x40000008, 0, 1⟩
def CORE.MODE_ALLOW_CLEARED : Fld := ⟨0x40000008, 1, 1⟩
def CORE.IDLE_HOLD_TALLY_MS : Fld := ⟨0x4000000C, 0, 16⟩
def CORE.IDLE_HOLD_CLEARED_S : Fld := ⟨0x4000000C, 16, 16⟩
def CORE.WAKE_CFG_PIN_EN : Fld := ⟨0x40000010, 0, 4⟩
def CORE.WAKE_CFG_PIN_POL : Fld := ⟨0x40000010, 4, 4⟩
def CORE.WAKE_CFG_PIN_EDGE : Fld := ⟨0x40000010, 8, 4⟩
def CORE.WAKE_CFG_TIMER_EN : Fld := ⟨0x40000010, 12, 1⟩
def CORE.WAKE_CFG_VIN_EN : Fld := ⟨0x40000010, 13, 1⟩
def CORE.WAKE_CFG_HOST_EN : Fld := ⟨0x40000010, 14, 1⟩
def CORE.WAKE_CFG_SAMPLE_EN : Fld := ⟨0x40000010, 15, 1⟩
def CORE.WAKE_CFG_VIN_LEVEL : Fld := ⟨0x40000010, 16, 4⟩
def CORE.WAKE_TIMER_COUNT : Fld := ⟨0x40000014, 0, 32⟩
def CORE.TALLY_CFG_PERIOD_MS : Fld := ⟨0x40000018, 0, 16⟩
def CORE.CLK_REQ_PLLV_WARM : Fld := ⟨0x40000020, 0, 1⟩
def CORE.CLK_REQ_PLLV_REQ : Fld := ⟨0x40000020, 16, 16⟩
def CORE.CLK_STAT_LF_SRC : Fld := ⟨0x40000024, 0, 1⟩
def CORE.CLK_STAT_HFXO_OK : Fld := ⟨0x40000024, 1, 1⟩
def CORE.CLK_STAT_FRC_ON : Fld := ⟨0x40000024, 2, 1⟩
def CORE.CLK_STAT_FRC_CAL : Fld := ⟨0x40000024, 3, 1⟩
def CORE.CLK_STAT_PLLS_LOCK : Fld := ⟨0x40000024, 4, 1⟩
def CORE.CLK_STAT_PLLS_FALLBACK : Fld := ⟨0x40000024, 5, 1⟩
def CORE.CLK_STAT_PLLV_LOCK : Fld := ⟨0x40000024, 6, 1⟩
def CORE.CLK_STAT_PLLV_FALLBACK : Fld := ⟨0x40000024, 7, 1⟩
def CORE.CLK_STAT_GUARD_TRIPS : Fld := ⟨0x40000024, 12, 4⟩
def CORE.CLK_STAT_PLLS_MHZ : Fld := ⟨0x40000024, 16, 9⟩
def CORE.CLK_GATE_UNGATED : Fld := ⟨0x40000028, 0, 16⟩
def CORE.PLLV_FREQ_MHZ : Fld := ⟨0x4000002C, 0, 9⟩
def CORE.DVFS_POINT : Fld := ⟨0x40000030, 0, 2⟩
def CORE.DVFS_STAT_CUR_POINT : Fld := ⟨0x40000034, 0, 2⟩
def CORE.DVFS_STAT_BUSY : Fld := ⟨0x40000034, 2, 1⟩
def CORE.DVFS_STAT_PENDING : Fld := ⟨0x40000034, 3, 1⟩
def CORE.DVFS_STAT_LOW_REFUSED : Fld := ⟨0x40000034, 4, 1⟩
def CORE.DVFS_STAT_ATTEMPTS : Fld := ⟨0x40000034, 8, 4⟩
def CORE.OPP0_PLLS_MHZ : Fld := ⟨0x40000040, 0, 9⟩
def CORE.OPP0_VCORE_10MV : Fld := ⟨0x40000040, 16, 8⟩
def CORE.OPP1_PLLS_MHZ : Fld := ⟨0x40000044, 0, 9⟩
def CORE.OPP1_VCORE_10MV : Fld := ⟨0x40000044, 16, 8⟩
def CORE.OPP2_PLLS_MHZ : Fld := ⟨0x40000048, 0, 9⟩
def CORE.OPP2_VCORE_10MV : Fld := ⟨0x40000048, 16, 8⟩
def CORE.OPP3_PLLS_MHZ : Fld := ⟨0x4000004C, 0, 9⟩
def CORE.OPP3_VCORE_10MV : Fld := ⟨0x4000004C, 16, 8⟩
def CORE.ECC_CE_SRAM : Fld := ⟨0x40000300, 0, 16⟩
def CORE.ECC_CE_KEEP : Fld := ⟨0x40000300, 16, 16⟩
def CORE.ECC_UE_SRAM : Fld := ⟨0x40000304, 0, 16⟩
def CORE.ECC_UE_KEEP : Fld := ⟨0x40000304, 16, 16⟩
def CORE.ECC_LAST_ADDR : Fld := ⟨0x40000308, 0, 32⟩
def CORE.BANK_MAP0_OWNER_A : Fld := ⟨0x40000310, 0, 8⟩
def CORE.BANK_MAP0_OWNER_B : Fld := ⟨0x40000310, 8, 8⟩
def CORE.BANK_MAP0_OWNER_C : Fld := ⟨0x40000310, 16, 8⟩
def CORE.BANK_MAP0_OWNER_D : Fld := ⟨0x40000310, 24, 8⟩
def CORE.BANK_MAP1_OWNER_A : Fld := ⟨0x40000314, 0, 8⟩
def CORE.BANK_MAP1_OWNER_B : Fld := ⟨0x40000314, 8, 8⟩
def CORE.BANK_MAP1_OWNER_C : Fld := ⟨0x40000314, 16, 8⟩
def CORE.BANK_MAP1_OWNER_D : Fld := ⟨0x40000314, 24, 8⟩
def CORE.BANK_MAP2_OWNER_A : Fld := ⟨0x40000318, 0, 8⟩
def CORE.BANK_MAP2_OWNER_B : Fld := ⟨0x40000318, 8, 8⟩
def CORE.BANK_MAP2_OWNER_C : Fld := ⟨0x40000318, 16, 8⟩
def CORE.BANK_MAP2_OWNER_D : Fld := ⟨0x40000318, 24, 8⟩
def CORE.BG_CTL_SCRUB_EN : Fld := ⟨0x40000400, 0, 1⟩
def CORE.BG_CTL_HEADCHK_EN : Fld := ⟨0x40000400, 1, 1⟩
def CORE.BG_CTL_TELEM_EN : Fld := ⟨0x40000400, 2, 1⟩
def CORE.BG_CTL_SCRUB_NOW : Fld := ⟨0x40000400, 8, 1⟩
def CORE.BG_CTL_CAL_NOW : Fld := ⟨0x40000400, 9, 1⟩
def CORE.BG_CTL_HEADCHK_NOW : Fld := ⟨0x40000400, 10, 1⟩
def CORE.BG_SCRUB_PERIOD_S : Fld := ⟨0x40000404, 0, 16⟩
def CORE.BG_SCRUB_PASSES : Fld := ⟨0x40000404, 16, 16⟩
def CORE.BG_SCRUB_POS_WORD : Fld := ⟨0x40000408, 0, 19⟩
def CORE.BG_SCRUB_POS_ACTIVE : Fld := ⟨0x40000408, 19, 1⟩
def CORE.BG_CAL_FRC_TRIM : Fld := ⟨0x4000040C, 0, 8⟩
def CORE.BG_CAL_FRC_ERR_PPM : Fld := ⟨0x4000040C, 8, 16⟩
def CORE.BG_CAL_ADC_OK : Fld := ⟨0x4000040C, 24, 1⟩
def CORE.BG_HEAD_MEAN_DOHM : Fld := ⟨0x40000410, 0, 16⟩
def CORE.BG_HEAD_SINCE : Fld := ⟨0x40000410, 16, 8⟩
def CORE.BG_HEAD_SHIFT : Fld := ⟨0x40000410, 24, 1⟩
def CORE.BG_HEAD_ABANDONED : Fld := ⟨0x40000410, 25, 1⟩
def CORE.BG_LEDGER_COMPACTIONS : Fld := ⟨0x40000414, 0, 16⟩
def CORE.BG_LEDGER_SPREAD : Fld := ⟨0x40000414, 16, 16⟩
def CORE.BG_TELEM_NEXT : Fld := ⟨0x40000418, 0, 6⟩
def CORE.BG_TELEM_PERIOD_MS : Fld := ⟨0x40000418, 16, 16⟩
def CORE.BG_SHARE_PEAK : Fld := ⟨0x4000041C, 0, 5⟩
def CORE.BG_SHARE_FLOOR_GRANTS : Fld := ⟨0x4000041C, 16, 16⟩
def CORE.HELD_CAUSE : Fld := ⟨0x40000500, 0, 16⟩
def CORE.HELD_BLOCK : Fld := ⟨0x40000500, 16, 16⟩
def CORE.HELD_STAT_BRAKE : Fld := ⟨0x40000504, 0, 1⟩
def CORE.HELD_STAT_ENTRIES : Fld := ⟨0x40000504, 16, 16⟩
def CORE.FAULT_LOG_SUPPRESSED : Fld := ⟨0x40000508, 0, 16⟩
def CORE.FAULT_CODE0_CODE : Fld := ⟨0x40000540, 0, 16⟩
def CORE.FAULT_CODE0_PARAM : Fld := ⟨0x40000540, 16, 8⟩
def CORE.FAULT_CODE1_CODE : Fld := ⟨0x40000544, 0, 16⟩
def CORE.FAULT_CODE1_PARAM : Fld := ⟨0x40000544, 16, 8⟩
def CORE.FAULT_CODE2_CODE : Fld := ⟨0x40000548, 0, 16⟩
def CORE.FAULT_CODE2_PARAM : Fld := ⟨0x40000548, 16, 8⟩
def CORE.FAULT_CODE3_CODE : Fld := ⟨0x4000054C, 0, 16⟩
def CORE.FAULT_CODE3_PARAM : Fld := ⟨0x4000054C, 16, 8⟩
def CORE.FAULT_CODE4_CODE : Fld := ⟨0x40000550, 0, 16⟩
def CORE.FAULT_CODE4_PARAM : Fld := ⟨0x40000550, 16, 8⟩
def CORE.FAULT_CODE5_CODE : Fld := ⟨0x40000554, 0, 16⟩
def CORE.FAULT_CODE5_PARAM : Fld := ⟨0x40000554, 16, 8⟩
def CORE.FAULT_CODE6_CODE : Fld := ⟨0x40000558, 0, 16⟩
def CORE.FAULT_CODE6_PARAM : Fld := ⟨0x40000558, 16, 8⟩
def CORE.FAULT_CODE7_CODE : Fld := ⟨0x4000055C, 0, 16⟩
def CORE.FAULT_CODE7_PARAM : Fld := ⟨0x4000055C, 16, 8⟩
def CORE.FAULT_CODE8_CODE : Fld := ⟨0x40000560, 0, 16⟩
def CORE.FAULT_CODE8_PARAM : Fld := ⟨0x40000560, 16, 8⟩
def CORE.FAULT_CODE9_CODE : Fld := ⟨0x40000564, 0, 16⟩
def CORE.FAULT_CODE9_PARAM : Fld := ⟨0x40000564, 16, 8⟩
def CORE.FAULT_CODE10_CODE : Fld := ⟨0x40000568, 0, 16⟩
def CORE.FAULT_CODE10_PARAM : Fld := ⟨0x40000568, 16, 8⟩
def CORE.FAULT_CODE11_CODE : Fld := ⟨0x4000056C, 0, 16⟩
def CORE.FAULT_CODE11_PARAM : Fld := ⟨0x4000056C, 16, 8⟩
def CORE.FAULT_CODE12_CODE : Fld := ⟨0x40000570, 0, 16⟩
def CORE.FAULT_CODE12_PARAM : Fld := ⟨0x40000570, 16, 8⟩
def CORE.FAULT_CODE13_CODE : Fld := ⟨0x40000574, 0, 16⟩
def CORE.FAULT_CODE13_PARAM : Fld := ⟨0x40000574, 16, 8⟩
def CORE.FAULT_CODE14_CODE : Fld := ⟨0x40000578, 0, 16⟩
def CORE.FAULT_CODE14_PARAM : Fld := ⟨0x40000578, 16, 8⟩
def CORE.FAULT_CODE15_CODE : Fld := ⟨0x4000057C, 0, 16⟩
def CORE.FAULT_CODE15_PARAM : Fld := ⟨0x4000057C, 16, 8⟩
def CORE.IO_STAT_PRESENT : Fld := ⟨0x40000600, 0, 5⟩
def CORE.IO_STAT_CLASS33 : Fld := ⟨0x40000600, 8, 5⟩

/-! ### SUPPLY -/

def SUPPLY.VCORE_TGT_LEVEL : Fld := ⟨0x40050000, 0, 7⟩
def SUPPLY.VCORE_TGT_SLEW : Fld := ⟨0x40050000, 8, 4⟩
def SUPPLY.VCORE_STAT_RAMP : Fld := ⟨0x40050004, 0, 7⟩
def SUPPLY.VCORE_STAT_SETTLED : Fld := ⟨0x40050004, 7, 1⟩
def SUPPLY.VCORE_STAT_BUSY_REFUSED : Fld := ⟨0x40050004, 8, 1⟩
def SUPPLY.VCORE_STAT_RANGE_REFUSED : Fld := ⟨0x40050004, 9, 1⟩
def SUPPLY.VCORE_STAT_MEAS_MV : Fld := ⟨0x40050004, 16, 10⟩
def SUPPLY.VH_CTL_EN : Fld := ⟨0x40050010, 0, 1⟩
def SUPPLY.VH_TGT_CODE : Fld := ⟨0x40050014, 0, 8⟩
def SUPPLY.VH_SLEW_RATE : Fld := ⟨0x40050018, 0, 5⟩
def SUPPLY.VH_STAT_ON : Fld := ⟨0x4005001C, 0, 1⟩
def SUPPLY.VH_STAT_SETTLED : Fld := ⟨0x4005001C, 1, 1⟩
def SUPPLY.VH_STAT_DISCHARGING : Fld := ⟨0x4005001C, 2, 1⟩
def SUPPLY.VH_STAT_ILIM : Fld := ⟨0x4005001C, 3, 1⟩
def SUPPLY.VH_STAT_REFUSED : Fld := ⟨0x4005001C, 4, 1⟩
def SUPPLY.VH_STAT_RAMP : Fld := ⟨0x4005001C, 8, 8⟩
def SUPPLY.VH_STAT_MEAS_MV : Fld := ⟨0x4005001C, 16, 14⟩
def SUPPLY.VIN_FLOOR_LEVEL : Fld := ⟨0x40050020, 0, 8⟩
def SUPPLY.VIN_CRIT_LEVEL : Fld := ⟨0x40050024, 0, 8⟩
def SUPPLY.VM_CEIL_LEVEL : Fld := ⟨0x40050028, 0, 8⟩
def SUPPLY.VM_DUMP_LEVEL : Fld := ⟨0x4005002C, 0, 8⟩
def SUPPLY.VM_DUMP_DUMP_ON : Fld := ⟨0x4005002C, 8, 1⟩
def SUPPLY.MEAS_VIN_MV : Fld := ⟨0x40050030, 0, 16⟩
def SUPPLY.MEAS_VM_MV : Fld := ⟨0x40050030, 16, 16⟩
def SUPPLY.EVT_VCORE_SETTLED : Fld := ⟨0x40050034, 0, 1⟩
def SUPPLY.EVT_VH_SETTLED : Fld := ⟨0x40050034, 1, 1⟩
def SUPPLY.EVT_VIN_FLOOR : Fld := ⟨0x40050034, 2, 1⟩
def SUPPLY.EVT_VIN_CRIT : Fld := ⟨0x40050034, 3, 1⟩
def SUPPLY.EVT_VM_CEIL : Fld := ⟨0x40050034, 4, 1⟩
def SUPPLY.EVT_VM_DUMP : Fld := ⟨0x40050034, 5, 1⟩
def SUPPLY.EVT_LEVEL_REFUSED : Fld := ⟨0x40050034, 6, 1⟩
def SUPPLY.COUNT_FLOOR_LINES : Fld := ⟨0x40050038, 0, 16⟩
def SUPPLY.COUNT_CRIT_EVENTS : Fld := ⟨0x40050038, 16, 8⟩
def SUPPLY.COUNT_DUMP_EVENTS : Fld := ⟨0x40050038, 24, 8⟩
def SUPPLY.FAULT_CODE : Fld := ⟨0x4005003C, 0, 16⟩

/-! ### LINK -/

def LINK.CAP_LANES : Fld := ⟨0x40010000, 0, 3⟩
def LINK.CAP_MAX_MHZ : Fld := ⟨0x40010000, 8, 8⟩
def LINK.CAP_DCRC : Fld := ⟨0x40010000, 16, 1⟩
def LINK.CAP_PROTO : Fld := ⟨0x40010000, 24, 8⟩
def LINK.OFFER_LANES : Fld := ⟨0x40010004, 0, 3⟩
def LINK.OFFER_MHZ : Fld := ⟨0x40010004, 8, 8⟩
def LINK.OFFER_DCRC : Fld := ⟨0x40010004, 16, 1⟩
def LINK.AGREED_LANES : Fld := ⟨0x40010008, 0, 3⟩
def LINK.AGREED_MHZ : Fld := ⟨0x40010008, 8, 8⟩
def LINK.AGREED_DCRC : Fld := ⟨0x40010008, 16, 1⟩
def LINK.AGREED_TAP : Fld := ⟨0x40010008, 20, 4⟩
def LINK.AGREED_STATE : Fld := ⟨0x40010008, 24, 3⟩
def LINK.SWITCH_KEY : Fld := ⟨0x4001000C, 0, 16⟩
def LINK.ACTIVE_LANES : Fld := ⟨0x40010010, 0, 3⟩
def LINK.ACTIVE_MHZ : Fld := ⟨0x40010010, 8, 8⟩
def LINK.ACTIVE_DCRC : Fld := ⟨0x40010010, 16, 1⟩
def LINK.TRAIN_PASS : Fld := ⟨0x40010014, 0, 16⟩
def LINK.TRAIN_TAP : Fld := ⟨0x40010014, 16, 4⟩
def LINK.TRAIN_FAILS : Fld := ⟨0x40010014, 24, 3⟩
def LINK.ERR_ALIGN : Fld := ⟨0x40010018, 0, 1⟩
def LINK.ERR_HCRC : Fld := ⟨0x40010018, 1, 1⟩
def LINK.ERR_FRAME : Fld := ⟨0x40010018, 2, 1⟩
def LINK.ERR_LEN : Fld := ⟨0x40010018, 3, 1⟩
def LINK.ERR_DCRC : Fld := ⟨0x40010018, 4, 1⟩
def LINK.ERR_SHORT : Fld := ⟨0x40010018, 5, 1⟩
def LINK.ERR_UNTRAINED : Fld := ⟨0x40010018, 6, 1⟩
def LINK.ERR_TRAIN_FAIL : Fld := ⟨0x40010018, 7, 1⟩
def LINK.ERR_RESYNC : Fld := ⟨0x40010018, 8, 1⟩
def LINK.ERR_TIMEOUT : Fld := ⟨0x40010018, 9, 1⟩
def LINK.ERR_COUNT_COUNT : Fld := ⟨0x4001001C, 0, 16⟩

/-! ### VEC -/

def VEC.PENDING_PENDING : Fld := ⟨0x40100000, 0, 32⟩
def VEC.ENABLE_ENABLE : Fld := ⟨0x40100004, 0, 32⟩
def VEC.PINMASK0_MASK : Fld := ⟨0x40100010, 0, 32⟩
def VEC.PINMASK1_MASK : Fld := ⟨0x40100014, 0, 32⟩
def VEC.PINMASK2_MASK : Fld := ⟨0x40100018, 0, 32⟩
def VEC.PINMASK3_MASK : Fld := ⟨0x4010001C, 0, 32⟩
def VEC.PIN_STAT_ASSERTED : Fld := ⟨0x40100020, 0, 4⟩
def VEC.TAGS_IN_USE : Fld := ⟨0x40100030, 0, 7⟩
def VEC.TAGS_PEAK : Fld := ⟨0x40100030, 8, 7⟩
def VEC.Q_SQ_BASE_ADDR (i : Nat) : Fld := ⟨0x40100100 + 0x20 * (i % 16), 6, 17⟩
def VEC.Q_CQ_BASE_ADDR (i : Nat) : Fld := ⟨0x40100104 + 0x20 * (i % 16), 6, 17⟩
def VEC.Q_CFG_DEPTH (i : Nat) : Fld := ⟨0x40100108 + 0x20 * (i % 16), 0, 9⟩
def VEC.Q_CFG_EN (i : Nat) : Fld := ⟨0x40100108 + 0x20 * (i % 16), 16, 1⟩
def VEC.Q_COAL_COUNT (i : Nat) : Fld := ⟨0x4010010C + 0x20 * (i % 16), 0, 8⟩
def VEC.Q_COAL_TIME (i : Nat) : Fld := ⟨0x4010010C + 0x20 * (i % 16), 8, 8⟩
def VEC.Q_SQ_IDX_HEAD (i : Nat) : Fld := ⟨0x40100110 + 0x20 * (i % 16), 0, 9⟩
def VEC.Q_SQ_IDX_TAIL (i : Nat) : Fld := ⟨0x40100110 + 0x20 * (i % 16), 16, 9⟩
def VEC.Q_CQ_IDX_TAIL (i : Nat) : Fld := ⟨0x40100114 + 0x20 * (i % 16), 0, 9⟩
def VEC.Q_CQ_IDX_PHASE (i : Nat) : Fld := ⟨0x40100114 + 0x20 * (i % 16), 15, 1⟩
def VEC.Q_CQ_IDX_HEAD (i : Nat) : Fld := ⟨0x40100114 + 0x20 * (i % 16), 16, 9⟩
def VEC.Q_STAT_TAG_STALL (i : Nat) : Fld := ⟨0x40100118 + 0x20 * (i % 16), 0, 8⟩
def VEC.Q_STAT_QOVF_COUNT (i : Nat) : Fld := ⟨0x40100118 + 0x20 * (i % 16), 8, 8⟩
def VEC.Q_STAT_QOVF (i : Nat) : Fld := ⟨0x40100118 + 0x20 * (i % 16), 16, 1⟩
def VEC.Q_STAT_CQ_FULL (i : Nat) : Fld := ⟨0x40100118 + 0x20 * (i % 16), 17, 1⟩
def VEC.Q_STAT_ERR (i : Nat) : Fld := ⟨0x40100118 + 0x20 * (i % 16), 18, 2⟩
def VEC.Q_STAT_IN_FLIGHT (i : Nat) : Fld := ⟨0x40100118 + 0x20 * (i % 16), 24, 7⟩

/-! ### MOVER -/

def MOVER.CFG_UPPER : Fld := ⟨0x40030000, 0, 16⟩
def MOVER.STAT_RUN : Fld := ⟨0x40030004, 0, 16⟩
def MOVER.STAT_PARKED : Fld := ⟨0x40030004, 16, 16⟩
def MOVER.EVT_PARK_CH : Fld := ⟨0x40030010, 0, 16⟩
def MOVER.EVT_DESC_CH : Fld := ⟨0x40030014, 0, 16⟩
def MOVER.EVT_ERR_CH : Fld := ⟨0x40030018, 0, 16⟩
def MOVER.ECC_STAT_POISONED : Fld := ⟨0x40030020, 0, 16⟩
def MOVER.CH_CTRL_GO (i : Nat) : Fld := ⟨0x40030100 + 0x20 * (i % 16), 0, 1⟩
def MOVER.CH_CTRL_STOP (i : Nat) : Fld := ⟨0x40030100 + 0x20 * (i % 16), 1, 1⟩
def MOVER.CH_CTRL_CLEAR (i : Nat) : Fld := ⟨0x40030100 + 0x20 * (i % 16), 2, 1⟩
def MOVER.CH_CTRL_WEIGHT (i : Nat) : Fld := ⟨0x40030100 + 0x20 * (i % 16), 4, 4⟩
def MOVER.CH_CTRL_ECC_MODE (i : Nat) : Fld := ⟨0x40030100 + 0x20 * (i % 16), 8, 1⟩
def MOVER.CH_CTRL_PARK_EV (i : Nat) : Fld := ⟨0x40030100 + 0x20 * (i % 16), 9, 1⟩
def MOVER.CH_HEAD_ADDR (i : Nat) : Fld := ⟨0x40030104 + 0x20 * (i % 16), 5, 18⟩
def MOVER.CH_APPEND_APPEND (i : Nat) : Fld := ⟨0x40030108 + 0x20 * (i % 16), 0, 32⟩
def MOVER.CH_STATE_STATE (i : Nat) : Fld := ⟨0x4003010C + 0x20 * (i % 16), 0, 2⟩
def MOVER.CH_STATE_DECK (i : Nat) : Fld := ⟨0x4003010C + 0x20 * (i % 16), 2, 1⟩
def MOVER.CH_STATE_OWNER (i : Nat) : Fld := ⟨0x4003010C + 0x20 * (i % 16), 3, 2⟩
def MOVER.CH_STATE_CAUSE (i : Nat) : Fld := ⟨0x4003010C + 0x20 * (i % 16), 8, 4⟩
def MOVER.CH_STATE_APPEND_COUNT (i : Nat) : Fld := ⟨0x4003010C + 0x20 * (i % 16), 16, 8⟩
def MOVER.CH_STATE_APPEND_IGNORED (i : Nat) : Fld := ⟨0x4003010C + 0x20 * (i % 16), 24, 1⟩
def MOVER.CH_CUR_ADDR (i : Nat) : Fld := ⟨0x40030110 + 0x20 * (i % 16), 0, 32⟩
def MOVER.CH_PROGRESS_LINE (i : Nat) : Fld := ⟨0x40030114 + 0x20 * (i % 16), 0, 16⟩
def MOVER.CH_PROGRESS_DESC_DONE (i : Nat) : Fld := ⟨0x40030114 + 0x20 * (i % 16), 16, 16⟩
def MOVER.CH_ERR_ADDR_ADDR (i : Nat) : Fld := ⟨0x40030118 + 0x20 * (i % 16), 0, 32⟩
def MOVER.CH_REREADS_COUNT (i : Nat) : Fld := ⟨0x4003011C + 0x20 * (i % 16), 0, 16⟩

/-! ### FLASH -/

def FLASH.STAT_MODE : Fld := ⟨0x40020000, 0, 3⟩
def FLASH.STAT_SFDP : Fld := ⟨0x40020000, 3, 1⟩
def FLASH.STAT_ADDR4 : Fld := ⟨0x40020000, 4, 1⟩
def FLASH.STAT_SUSPEND : Fld := ⟨0x40020000, 5, 1⟩
def FLASH.STAT_GEOM : Fld := ⟨0x40020000, 6, 1⟩
def FLASH.STAT_BUSY : Fld := ⟨0x40020000, 7, 1⟩
def FLASH.STAT_MHZ : Fld := ⟨0x40020000, 8, 8⟩
def FLASH.STAT_SIZE_MIB : Fld := ⟨0x40020000, 16, 7⟩
def FLASH.JEDEC_ID_ID : Fld := ⟨0x40020004, 0, 24⟩
def FLASH.SLOTS_ACTIVE : Fld := ⟨0x40020008, 0, 2⟩
def FLASH.SLOTS_RUNNING : Fld := ⟨0x40020008, 2, 2⟩
def FLASH.SLOTS_A_STATE : Fld := ⟨0x40020008, 4, 4⟩
def FLASH.SLOTS_B_STATE : Fld := ⟨0x40020008, 8, 4⟩
def FLASH.JOURNAL_SEQ : Fld := ⟨0x4002000C, 0, 32⟩
def FLASH.PROGRESS_BYTES : Fld := ⟨0x40020010, 0, 32⟩
def FLASH.FAULT_CODE : Fld := ⟨0x40020014, 0, 16⟩
def FLASH.SUSPENDS_COUNT : Fld := ⟨0x40020018, 0, 16⟩

/-! ### LEDGER -/

def LEDGER.STAT_MOUNTED : Fld := ⟨0x400F0000, 0, 1⟩
def LEDGER.STAT_FREE_SECTORS : Fld := ⟨0x400F0000, 1, 4⟩
def LEDGER.STAT_BUF_PCT : Fld := ⟨0x400F0000, 8, 8⟩
def LEDGER.SEQ_SEQ : Fld := ⟨0x400F0004, 0, 32⟩
def LEDGER.ON_SECONDS_SECONDS : Fld := ⟨0x400F0008, 0, 32⟩
def LEDGER.LOSS_DROPPED : Fld := ⟨0x400F000C, 0, 16⟩
def LEDGER.LOSS_DISCARDED : Fld := ⟨0x400F000C, 16, 16⟩
def LEDGER.OLDEST_SEQ : Fld := ⟨0x400F0010, 0, 32⟩
def LEDGER.FAULT_CODE : Fld := ⟨0x400F0014, 0, 16⟩
def LEDGER.SHOCK_PEAK_MG : Fld := ⟨0x400F0018, 0, 16⟩
def LEDGER.SHOCK_AXIS : Fld := ⟨0x400F0018, 16, 2⟩
def LEDGER.SHOCK_COUNT : Fld := ⟨0x400F0018, 24, 8⟩

/-! ### THERM -/

def THERM.STAT_ACTIVE : Fld := ⟨0x40040000, 0, 5⟩
def THERM.STAT_HIGHEST : Fld := ⟨0x40040000, 5, 3⟩
def THERM.STAT_CROSSED : Fld := ⟨0x40040000, 16, 16⟩
def THERM.TEMP0_LO : Fld := ⟨0x40040004, 0, 16⟩
def THERM.TEMP0_HI : Fld := ⟨0x40040004, 16, 16⟩
def THERM.TEMP1_LO : Fld := ⟨0x40040008, 0, 16⟩
def THERM.TEMP1_HI : Fld := ⟨0x40040008, 16, 16⟩
def THERM.TEMP2_LO : Fld := ⟨0x4004000C, 0, 16⟩
def THERM.TEMP2_HI : Fld := ⟨0x4004000C, 16, 16⟩
def THERM.MON_PERIOD_MS : Fld := ⟨0x40040010, 0, 10⟩
def THERM.EVT_ACTION_ON : Fld := ⟨0x40040014, 0, 5⟩
def THERM.EVT_ACTION_OFF : Fld := ⟨0x40040014, 8, 5⟩
def THERM.SENSOR_OPEN : Fld := ⟨0x40040018, 0, 6⟩
def THERM.SENSOR_SHORT : Fld := ⟨0x40040018, 8, 6⟩
def THERM.FAULT_CODE : Fld := ⟨0x4004001C, 0, 16⟩
def THERM.ADC_STAT_PREEMPTS : Fld := ⟨0x40040020, 0, 16⟩
def THERM.LFXO_PPM_CORR : Fld := ⟨0x40040024, 0, 16⟩

/-! ### RASTER -/

def RASTER.CFG_HEAD_DOTS : Fld := ⟨0x40070000, 0, 11⟩
def RASTER.CFG_LINE_WORDS : Fld := ⟨0x40070000, 16, 4⟩
def RASTER.BAND_CFG_BAND_MAX : Fld := ⟨0x40070004, 0, 13⟩
def RASTER.BAND_CFG_BANK0 : Fld := ⟨0x40070004, 16, 4⟩
def RASTER.BAND_CFG_BANK1 : Fld := ⟨0x40070004, 20, 4⟩
def RASTER.BAND_CFG_BANK2 : Fld := ⟨0x40070004, 24, 4⟩
def RASTER.STAT_STATE : Fld := ⟨0x40070008, 0, 3⟩
def RASTER.STAT_STORE : Fld := ⟨0x40070008, 3, 2⟩
def RASTER.STAT_STORE_ENTRIES : Fld := ⟨0x40070008, 8, 8⟩
def RASTER.STAT_STORE_REJECTED : Fld := ⟨0x40070008, 16, 8⟩
def RASTER.STAT_RES_USED : Fld := ⟨0x40070008, 24, 6⟩
def RASTER.SHIFT_LAST : Fld := ⟨0x4007000C, 0, 8⟩
def RASTER.SHIFT_SMAX : Fld := ⟨0x4007000C, 8, 7⟩
def RASTER.SHIFT_NO_LEDGER : Fld := ⟨0x4007000C, 15, 1⟩
def RASTER.SHIFT_EN : Fld := ⟨0x4007000C, 16, 1⟩
def RASTER.ERR_OFFSET : Fld := ⟨0x40070010, 0, 18⟩
def RASTER.ERR_CAUSE : Fld := ⟨0x40070010, 24, 4⟩
def RASTER.COUNT_MISSING_GLYPHS : Fld := ⟨0x40070014, 0, 16⟩
def RASTER.COUNT_BAD_UTF8 : Fld := ⟨0x40070014, 16, 8⟩
def RASTER.COUNT_CLIPPED : Fld := ⟨0x40070014, 24, 8⟩
def RASTER.BAND0_STAT_STATE : Fld := ⟨0x40070020, 0, 2⟩
def RASTER.BAND0_STAT_SEQ : Fld := ⟨0x40070020, 8, 8⟩
def RASTER.BAND0_STAT_LINES : Fld := ⟨0x40070020, 16, 13⟩
def RASTER.BAND1_STAT_STATE : Fld := ⟨0x40070024, 0, 2⟩
def RASTER.BAND1_STAT_SEQ : Fld := ⟨0x40070024, 8, 8⟩
def RASTER.BAND1_STAT_LINES : Fld := ⟨0x40070024, 16, 13⟩
def RASTER.BAND2_STAT_STATE : Fld := ⟨0x40070028, 0, 2⟩
def RASTER.BAND2_STAT_SEQ : Fld := ⟨0x40070028, 8, 8⟩
def RASTER.BAND2_STAT_LINES : Fld := ⟨0x40070028, 16, 13⟩
def RASTER.RES_WIN0_ID : Fld := ⟨0x40070040, 0, 16⟩
def RASTER.RES_WIN0_TYPE : Fld := ⟨0x40070040, 16, 8⟩
def RASTER.RES_WIN0_REMOVE : Fld := ⟨0x40070040, 31, 1⟩
def RASTER.RES_WIN1_ADDR : Fld := ⟨0x40070044, 0, 23⟩
def RASTER.RES_WIN2_LEN : Fld := ⟨0x40070048, 0, 32⟩
def RASTER.RES_STAT_PENDING : Fld := ⟨0x40070050, 0, 1⟩
def RASTER.RES_STAT_RESULT : Fld := ⟨0x40070050, 4, 4⟩
def RASTER.RES_STAT_DONE : Fld := ⟨0x40070050, 8, 1⟩

/-! ### PRINT -/

def PRINT.CFG_DOTS : Fld := ⟨0x40060000, 0, 11⟩
def PRINT.CFG_GROUPS_M1 : Fld := ⟨0x40060000, 12, 3⟩
def PRINT.CFG_INPUTS2 : Fld := ⟨0x40060000, 15, 1⟩
def PRINT.CFG_DPMM12 : Fld := ⟨0x40060000, 16, 1⟩
def PRINT.CFG_PACING : Fld := ⟨0x40060000, 17, 1⟩
def PRINT.CFG_SHIFT_DIR : Fld := ⟨0x40060000, 18, 1⟩
def PRINT.CFG_STB_POL : Fld := ⟨0x40060000, 24, 8⟩
def PRINT.CLK_CLK_DIV : Fld := ⟨0x40060004, 0, 7⟩
def PRINT.CLK_LAT_TICKS : Fld := ⟨0x40060004, 8, 8⟩
def PRINT.CLK_T_SHIFT : Fld := ⟨0x40060004, 16, 16⟩
def PRINT.STAT_STATE : Fld := ⟨0x40060008, 0, 3⟩
def PRINT.STAT_WET : Fld := ⟨0x40060008, 3, 1⟩
def PRINT.STAT_CAP_LEVEL : Fld := ⟨0x40060008, 4, 2⟩
def PRINT.STAT_WAIT_REASON : Fld := ⟨0x40060008, 8, 4⟩
def PRINT.STAT_BACKLOG : Fld := ⟨0x40060008, 12, 4⟩
def PRINT.STAT_CEILING : Fld := ⟨0x40060008, 16, 1⟩
def PRINT.HEAD_ENTRY : Fld := ⟨0x4006000C, 0, 3⟩
def PRINT.HEAD_IDENTIFIED : Fld := ⟨0x4006000C, 3, 1⟩
def PRINT.HEAD_ID_OHM : Fld := ⟨0x4006000C, 16, 16⟩
def PRINT.PROBE_GROUP_LOW : Fld := ⟨0x40060010, 0, 8⟩
def PRINT.PROBE_LEAK : Fld := ⟨0x40060010, 16, 16⟩
def PRINT.ENERGY_E_BASE : Fld := ⟨0x40060020, 0, 11⟩
def PRINT.ENERGY_V_DRV : Fld := ⟨0x40060020, 16, 8⟩
def PRINT.ENERGY_R_SRC : Fld := ⟨0x40060020, 24, 8⟩
def PRINT.TCOMP_T_REF : Fld := ⟨0x40060024, 0, 8⟩
def PRINT.TCOMP_TC : Fld := ⟨0x40060024, 8, 8⟩
def PRINT.TCOMP_RANK_PCT : Fld := ⟨0x40060024, 16, 5⟩
def PRINT.CAP_I_PEAK : Fld := ⟨0x40060028, 0, 10⟩
def PRINT.CAP_SLICES : Fld := ⟨0x40060028, 12, 4⟩
def PRINT.CAP_FLOOR_PCT : Fld := ⟨0x40060028, 16, 8⟩
def PRINT.CAP_FLOOR_HOLD : Fld := ⟨0x40060028, 24, 8⟩
def PRINT.HIST0_ENTRY : Fld := ⟨0x40060030, 0, 32⟩
def PRINT.HIST1_ENTRY : Fld := ⟨0x40060034, 0, 32⟩
def PRINT.HIST2_ENTRY : Fld := ⟨0x40060038, 0, 32⟩
def PRINT.HIST3_ENTRY : Fld := ⟨0x4006003C, 0, 32⟩
def PRINT.LINE_CTL_MIN_PERIOD : Fld := ⟨0x40060040, 0, 24⟩
def PRINT.LINE_CTL_LATE_MAX : Fld := ⟨0x40060040, 24, 4⟩
def PRINT.LINE_STAT_LINE_TIME : Fld := ⟨0x40060044, 0, 24⟩
def PRINT.LINE_STAT_PASSES : Fld := ⟨0x40060044, 24, 4⟩
def PRINT.LINE_MEAS_VH_MV : Fld := ⟨0x40060048, 0, 16⟩
def PRINT.LINE_MEAS_HEAD_TEMP : Fld := ⟨0x40060048, 16, 16⟩
def PRINT.COUNT_LATE : Fld := ⟨0x4006004C, 0, 16⟩
def PRINT.COUNT_CLAMPED : Fld := ⟨0x4006004C, 16, 8⟩
def PRINT.COUNT_OVERCAP : Fld := ⟨0x4006004C, 24, 8⟩
def PRINT.TEAR_CAUSE : Fld := ⟨0x40060050, 0, 4⟩
def PRINT.TEAR_BAND_SEQ : Fld := ⟨0x40060050, 8, 8⟩
def PRINT.TEAR_LINES_BAND : Fld := ⟨0x40060050, 16, 16⟩
def PRINT.FAULT_CODE : Fld := ⟨0x40060054, 0, 16⟩
def PRINT.FAULT_PARAM : Fld := ⟨0x40060054, 16, 8⟩
def PRINT.EVT_TORN : Fld := ⟨0x40060058, 0, 1⟩
def PRINT.EVT_WET : Fld := ⟨0x40060058, 1, 1⟩
def PRINT.EVT_DRY_DONE : Fld := ⟨0x40060058, 2, 1⟩
def PRINT.EVT_CAP_DOWN : Fld := ⟨0x40060058, 3, 1⟩
def PRINT.EVT_CEILING : Fld := ⟨0x40060058, 4, 1⟩
def PRINT.DRY_ELAPSED_S : Fld := ⟨0x4006005C, 0, 16⟩
def PRINT.DRY_DRY_PCT : Fld := ⟨0x4006005C, 16, 8⟩

/-! ### FEED -/

def FEED.CFG_ARRANGEMENT : Fld := ⟨0x40080000, 0, 1⟩
def FEED.CFG_FB_TYPE : Fld := ⟨0x40080000, 1, 2⟩
def FEED.CFG_Z_USED : Fld := ⟨0x40080000, 3, 1⟩
def FEED.CFG_INVERT : Fld := ⟨0x40080000, 4, 1⟩
def FEED.CFG_PWM_KHZ : Fld := ⟨0x40080000, 8, 6⟩
def FEED.STAT_STATE : Fld := ⟨0x40080004, 0, 3⟩
def FEED.STAT_DIR : Fld := ⟨0x40080004, 3, 1⟩
def FEED.STAT_AT_REST : Fld := ⟨0x40080004, 4, 1⟩
def FEED.STAT_VM_LIMIT : Fld := ⟨0x40080004, 5, 1⟩
def FEED.STAT_PAPER : Fld := ⟨0x40080004, 6, 1⟩
def FEED.STAT_NEAR_END : Fld := ⟨0x40080004, 7, 1⟩
def FEED.STAT_COVER : Fld := ⟨0x40080004, 8, 1⟩
def FEED.STAT_WAIT_REASON : Fld := ⟨0x40080004, 12, 4⟩
def FEED.STAT_OVERSHOOT : Fld := ⟨0x40080004, 16, 16⟩
def FEED.POS_POS : Fld := ⟨0x40080008, 0, 32⟩
def FEED.SPEED_MEAS : Fld := ⟨0x4008000C, 0, 16⟩
def FEED.SPEED_SET : Fld := ⟨0x4008000C, 16, 16⟩
def FEED.DIV_N : Fld := ⟨0x40080010, 0, 16⟩
def FEED.DIV_M : Fld := ⟨0x40080010, 16, 16⟩
def FEED.LINE_VALUE : Fld := ⟨0x40080014, 0, 32⟩
def FEED.L_NEXT_VALUE : Fld := ⟨0x40080018, 0, 32⟩
def FEED.ZLATCH_VALUE : Fld := ⟨0x4008001C, 0, 32⟩
def FEED.MOTION_ACCEL : Fld := ⟨0x40080020, 0, 9⟩
def FEED.MOTION_DECEL : Fld := ⟨0x40080020, 16, 9⟩
def FEED.REV_REV_SPEED : Fld := ⟨0x40080024, 0, 7⟩
def FEED.REV_REV_DWELL_MS : Fld := ⟨0x40080024, 8, 8⟩
def FEED.REV_VM_BRAKE_MA : Fld := ⟨0x40080024, 16, 11⟩
def FEED.FB_STAT_GLITCH : Fld := ⟨0x40080028, 0, 16⟩
def FEED.FB_STAT_DISCARDS : Fld := ⟨0x40080028, 16, 16⟩
def FEED.SERIAL_FRAME : Fld := ⟨0x4008002C, 0, 24⟩
def FEED.SERIAL_ERRORS : Fld := ⟨0x4008002C, 24, 8⟩
def FEED.HALL_CODE : Fld := ⟨0x40080030, 0, 3⟩
def FEED.HALL_ADV_DEG : Fld := ⟨0x40080030, 8, 8⟩
def FEED.HALL_INVALID : Fld := ⟨0x40080030, 16, 16⟩
def FEED.MOTOR_R_MEAS : Fld := ⟨0x40080034, 0, 16⟩
def FEED.MOTOR_L_MEAS : Fld := ⟨0x40080034, 16, 16⟩
def FEED.EVT_PAPER_OUT : Fld := ⟨0x40080038, 0, 1⟩
def FEED.EVT_PAPER_IN : Fld := ⟨0x40080038, 1, 1⟩
def FEED.EVT_NEAR_END : Fld := ⟨0x40080038, 2, 1⟩
def FEED.EVT_COVER_OPEN : Fld := ⟨0x40080038, 3, 1⟩
def FEED.EVT_COVER_CLOSED : Fld := ⟨0x40080038, 4, 1⟩
def FEED.EVT_INDEX : Fld := ⟨0x40080038, 5, 1⟩
def FEED.EVT_AT_REST : Fld := ⟨0x40080038, 6, 1⟩
def FEED.FAULT_CODE : Fld := ⟨0x4008003C, 0, 16⟩
def FEED.FAULT_PARAM : Fld := ⟨0x4008003C, 16, 8⟩
def FEED.AUX_ON : Fld := ⟨0x40080040, 0, 1⟩
def FEED.AUX_HOLD_PCT : Fld := ⟨0x40080040, 8, 8⟩
def FEED.PHASE_ADV0_SPEED_A : Fld := ⟨0x40080050, 0, 8⟩
def FEED.PHASE_ADV0_ADV_A : Fld := ⟨0x40080050, 8, 8⟩
def FEED.PHASE_ADV0_SPEED_B : Fld := ⟨0x40080050, 16, 8⟩
def FEED.PHASE_ADV0_ADV_B : Fld := ⟨0x40080050, 24, 8⟩
def FEED.PHASE_ADV1_SPEED_A : Fld := ⟨0x40080054, 0, 8⟩
def FEED.PHASE_ADV1_ADV_A : Fld := ⟨0x40080054, 8, 8⟩
def FEED.PHASE_ADV1_SPEED_B : Fld := ⟨0x40080054, 16, 8⟩
def FEED.PHASE_ADV1_ADV_B : Fld := ⟨0x40080054, 24, 8⟩
def FEED.PHASE_ADV2_SPEED_A : Fld := ⟨0x40080058, 0, 8⟩
def FEED.PHASE_ADV2_ADV_A : Fld := ⟨0x40080058, 8, 8⟩
def FEED.PHASE_ADV2_SPEED_B : Fld := ⟨0x40080058, 16, 8⟩
def FEED.PHASE_ADV2_ADV_B : Fld := ⟨0x40080058, 24, 8⟩
def FEED.PHASE_ADV3_SPEED_A : Fld := ⟨0x4008005C, 0, 8⟩
def FEED.PHASE_ADV3_ADV_A : Fld := ⟨0x4008005C, 8, 8⟩
def FEED.PHASE_ADV3_SPEED_B : Fld := ⟨0x4008005C, 16, 8⟩
def FEED.PHASE_ADV3_ADV_B : Fld := ⟨0x4008005C, 24, 8⟩
def FEED.PHASE_ADV4_SPEED_A : Fld := ⟨0x40080060, 0, 8⟩
def FEED.PHASE_ADV4_ADV_A : Fld := ⟨0x40080060, 8, 8⟩
def FEED.PHASE_ADV4_SPEED_B : Fld := ⟨0x40080060, 16, 8⟩
def FEED.PHASE_ADV4_ADV_B : Fld := ⟨0x40080060, 24, 8⟩
def FEED.PHASE_ADV5_SPEED_A : Fld := ⟨0x40080064, 0, 8⟩
def FEED.PHASE_ADV5_ADV_A : Fld := ⟨0x40080064, 8, 8⟩
def FEED.PHASE_ADV5_SPEED_B : Fld := ⟨0x40080064, 16, 8⟩
def FEED.PHASE_ADV5_ADV_B : Fld := ⟨0x40080064, 24, 8⟩
def FEED.PHASE_ADV6_SPEED_A : Fld := ⟨0x40080068, 0, 8⟩
def FEED.PHASE_ADV6_ADV_A : Fld := ⟨0x40080068, 8, 8⟩
def FEED.PHASE_ADV6_SPEED_B : Fld := ⟨0x40080068, 16, 8⟩
def FEED.PHASE_ADV6_ADV_B : Fld := ⟨0x40080068, 24, 8⟩
def FEED.PHASE_ADV7_SPEED_A : Fld := ⟨0x4008006C, 0, 8⟩
def FEED.PHASE_ADV7_ADV_A : Fld := ⟨0x4008006C, 8, 8⟩
def FEED.PHASE_ADV7_SPEED_B : Fld := ⟨0x4008006C, 16, 8⟩
def FEED.PHASE_ADV7_ADV_B : Fld := ⟨0x4008006C, 24, 8⟩

/-! ### CUT -/

def CUT.STAT_STATE : Fld := ⟨0x40090000, 0, 3⟩
def CUT.STAT_HOME : Fld := ⟨0x40090000, 3, 1⟩
def CUT.STAT_END : Fld := ⟨0x40090000, 4, 1⟩
def CUT.STAT_WAIT_REASON : Fld := ⟨0x40090000, 8, 4⟩
def CUT.CURRENT_CFG_I_RUN : Fld := ⟨0x40090004, 0, 12⟩
def CUT.CURRENT_CFG_I_JAM : Fld := ⟨0x40090004, 16, 12⟩
def CUT.TIMING_END_MS : Fld := ⟨0x40090008, 0, 9⟩
def CUT.TIMING_HOME_MS : Fld := ⟨0x40090008, 16, 9⟩
def CUT.JAM_PARTIAL_MS : Fld := ⟨0x4009000C, 0, 8⟩
def CUT.JAM_JAM_MS : Fld := ⟨0x4009000C, 8, 6⟩
def CUT.JAM_JAM_RETRIES : Fld := ⟨0x4009000C, 14, 2⟩
def CUT.LAST_TIME_MS : Fld := ⟨0x40090010, 0, 16⟩
def CUT.LAST_JAMS : Fld := ⟨0x40090010, 16, 8⟩
def CUT.LAST_END_CAUSE : Fld := ⟨0x40090010, 24, 4⟩
def CUT.CURRENT_MEAS_MA : Fld := ⟨0x40090014, 0, 16⟩
def CUT.CURRENT_PEAK_MA : Fld := ⟨0x40090014, 16, 16⟩
def CUT.EVT_DONE : Fld := ⟨0x40090018, 0, 1⟩
def CUT.EVT_JAM_REV : Fld := ⟨0x40090018, 1, 1⟩
def CUT.EVT_REFUSED : Fld := ⟨0x40090018, 2, 1⟩
def CUT.FAULT_CODE : Fld := ⟨0x4009001C, 0, 16⟩

/-! ### LOOP -/

def LOOP.CFG_PRESENT : Fld := ⟨0x400A0000, 0, 4⟩
def LOOP.CFG_FIXED : Fld := ⟨0x400A0000, 4, 4⟩
def LOOP.CFG_PWM_LOCK : Fld := ⟨0x400A0000, 8, 4⟩
def LOOP.EVT_TRIP : Fld := ⟨0x400A0004, 0, 4⟩
def LOOP.EVT_APPLY_DONE : Fld := ⟨0x400A0004, 4, 1⟩
def LOOP.COEF_WIN0_LOOP : Fld := ⟨0x400A0010, 0, 2⟩
def LOOP.COEF_WIN0_STAGE : Fld := ⟨0x400A0010, 8, 4⟩
def LOOP.COEF_WIN0_INDEX : Fld := ⟨0x400A0010, 16, 3⟩
def LOOP.COEF_WIN1_VALUE : Fld := ⟨0x400A0014, 0, 32⟩
def LOOP.COEF_STAT_RESULT : Fld := ⟨0x400A0020, 0, 3⟩
def LOOP.COEF_STAT_PENDING : Fld := ⟨0x400A0020, 4, 4⟩
def LOOP.COEF_STAT_REFUSED : Fld := ⟨0x400A0020, 8, 4⟩
def LOOP.APPLY_MASK : Fld := ⟨0x400A0024, 0, 4⟩
def LOOP.L_STAT_STATE (i : Nat) : Fld := ⟨0x400A0100 + 0x40 * (i % 4), 0, 2⟩
def LOOP.L_STAT_CLAMPED (i : Nat) : Fld := ⟨0x400A0100 + 0x40 * (i % 4), 2, 1⟩
def LOOP.L_STAT_TRIP_CAUSE (i : Nat) : Fld := ⟨0x400A0100 + 0x40 * (i % 4), 4, 2⟩
def LOOP.L_STAT_CLIENT (i : Nat) : Fld := ⟨0x400A0100 + 0x40 * (i % 4), 8, 4⟩
def LOOP.L_TIMING_DIV (i : Nat) : Fld := ⟨0x400A0104 + 0x40 * (i % 4), 0, 16⟩
def LOOP.L_TIMING_PHASE (i : Nat) : Fld := ⟨0x400A0104 + 0x40 * (i % 4), 16, 16⟩
def LOOP.L_SP_VALUE (i : Nat) : Fld := ⟨0x400A0108 + 0x40 * (i % 4), 0, 32⟩
def LOOP.L_FB_VALUE (i : Nat) : Fld := ⟨0x400A010C + 0x40 * (i % 4), 0, 32⟩
def LOOP.L_ERR_VALUE (i : Nat) : Fld := ⟨0x400A0110 + 0x40 * (i % 4), 0, 32⟩
def LOOP.L_OUT_VALUE (i : Nat) : Fld := ⟨0x400A0114 + 0x40 * (i % 4), 0, 32⟩
def LOOP.L_FE_LIMIT_LIMIT (i : Nat) : Fld := ⟨0x400A0118 + 0x40 * (i % 4), 0, 31⟩
def LOOP.L_FE_TIME_LIMIT_MS (i : Nat) : Fld := ⟨0x400A011C + 0x40 * (i % 4), 0, 14⟩
def LOOP.L_FE_TIME_RUN_MS (i : Nat) : Fld := ⟨0x400A011C + 0x40 * (i % 4), 16, 14⟩
def LOOP.L_OSC_WIN_MS (i : Nat) : Fld := ⟨0x400A0120 + 0x40 * (i % 4), 0, 10⟩
def LOOP.L_OSC_COUNT (i : Nat) : Fld := ⟨0x400A0120 + 0x40 * (i % 4), 16, 7⟩
def LOOP.L_OSC_SIGNAL (i : Nat) : Fld := ⟨0x400A0120 + 0x40 * (i % 4), 23, 1⟩
def LOOP.L_OSC_REVERSALS (i : Nat) : Fld := ⟨0x400A0120 + 0x40 * (i % 4), 24, 7⟩
def LOOP.L_OSC_AMP_AMP (i : Nat) : Fld := ⟨0x400A0124 + 0x40 * (i % 4), 0, 31⟩
def LOOP.L_CTL_ACTION (i : Nat) : Fld := ⟨0x400A0128 + 0x40 * (i % 4), 0, 1⟩
def LOOP.L_COUNT_SAT (i : Nat) : Fld := ⟨0x400A012C + 0x40 * (i % 4), 0, 16⟩
def LOOP.L_COUNT_TRIPS (i : Nat) : Fld := ⟨0x400A012C + 0x40 * (i % 4), 16, 8⟩
def LOOP.L_SAMPLES_COUNT (i : Nat) : Fld := ⟨0x400A0130 + 0x40 * (i % 4), 0, 32⟩

/-! ### VIDIN -/

def VIDIN.STAT_STATE : Fld := ⟨0x400B0000, 0, 3⟩
def VIDIN.STAT_DESC : Fld := ⟨0x400B0000, 3, 2⟩
def VIDIN.STAT_MODE : Fld := ⟨0x400B0000, 5, 2⟩
def VIDIN.STAT_LANES2 : Fld := ⟨0x400B0000, 7, 1⟩
def VIDIN.STAT_SESSION : Fld := ⟨0x400B0000, 8, 2⟩
def VIDIN.STAT_WAIT_REASON : Fld := ⟨0x400B0000, 12, 4⟩
def VIDIN.STAT_RATE : Fld := ⟨0x400B0000, 16, 10⟩
def VIDIN.SENSOR_ID : Fld := ⟨0x400B0004, 0, 16⟩
def VIDIN.SENSOR_ADDR : Fld := ⟨0x400B0004, 16, 7⟩
def VIDIN.RING_E_FIRST : Fld := ⟨0x400B0008, 0, 4⟩
def VIDIN.RING_E_COUNT : Fld := ⟨0x400B0008, 4, 4⟩
def VIDIN.RING_E_SLOTS : Fld := ⟨0x400B0008, 8, 5⟩
def VIDIN.RING_E_HELD : Fld := ⟨0x400B0008, 16, 16⟩
def VIDIN.RING_S_FIRST : Fld := ⟨0x400B000C, 0, 4⟩
def VIDIN.RING_S_COUNT : Fld := ⟨0x400B000C, 4, 4⟩
def VIDIN.RING_S_SLOTS : Fld := ⟨0x400B000C, 8, 5⟩
def VIDIN.RING_S_HELD : Fld := ⟨0x400B000C, 16, 16⟩
def VIDIN.HOST_HOLD_E : Fld := ⟨0x400B0010, 0, 16⟩
def VIDIN.HOST_HOLD_S : Fld := ⟨0x400B0010, 16, 16⟩
def VIDIN.TIME_US : Fld := ⟨0x400B0014, 0, 32⟩
def VIDIN.WB_GAINS : Fld := ⟨0x400B0018, 0, 32⟩
def VIDIN.BLACK_LEVEL : Fld := ⟨0x400B001C, 0, 10⟩
def VIDIN.AE_EN : Fld := ⟨0x400B0020, 0, 1⟩
def VIDIN.AE_TARGET : Fld := ⟨0x400B0020, 8, 8⟩
def VIDIN.AE_MEAN : Fld := ⟨0x400B0020, 16, 8⟩
def VIDIN.EXPOSURE_EXP : Fld := ⟨0x400B0024, 0, 16⟩
def VIDIN.EXPOSURE_GAIN : Fld := ⟨0x400B0024, 16, 16⟩
def VIDIN.CSI_ERR_ECC_CORR : Fld := ⟨0x400B0028, 0, 8⟩
def VIDIN.CSI_ERR_HDR_BAD : Fld := ⟨0x400B0028, 8, 8⟩
def VIDIN.CSI_ERR_CRC : Fld := ⟨0x400B0028, 16, 8⟩
def VIDIN.CSI_ERR_SIZE : Fld := ⟨0x400B0028, 24, 8⟩
def VIDIN.DROP_E : Fld := ⟨0x400B002C, 0, 16⟩
def VIDIN.DROP_S : Fld := ⟨0x400B002C, 16, 16⟩
def VIDIN.EVT_FRAME : Fld := ⟨0x400B0030, 0, 1⟩
def VIDIN.EVT_DROP : Fld := ⟨0x400B0030, 1, 1⟩
def VIDIN.EVT_LINK : Fld := ⟨0x400B0030, 2, 1⟩
def VIDIN.EVT_FIFO_OVF : Fld := ⟨0x400B0030, 3, 1⟩
def VIDIN.FAULT_CODE : Fld := ⟨0x400B0034, 0, 16⟩
def VIDIN.FAULT_PARAM : Fld := ⟨0x400B0034, 16, 8⟩
def VIDIN.FRAME_WIN0_WORD : Fld := ⟨0x400B0040, 0, 32⟩
def VIDIN.FRAME_WIN1_WORD : Fld := ⟨0x400B0044, 0, 32⟩
def VIDIN.FRAME_WIN2_WORD : Fld := ⟨0x400B0048, 0, 32⟩
def VIDIN.FRAME_WIN3_WORD : Fld := ⟨0x400B004C, 0, 32⟩

/-! ### SCAN -/

def SCAN.CFG_SYMBOLOGIES : Fld := ⟨0x400E0000, 0, 4⟩
def SCAN.CFG_QR_MAX_VERSION : Fld := ⟨0x400E0000, 8, 5⟩
def SCAN.CFG_TIME_LIMIT : Fld := ⟨0x400E0000, 16, 16⟩
def SCAN.STAT_STATE : Fld := ⟨0x400E0004, 0, 2⟩
def SCAN.STAT_FRAMES : Fld := ⟨0x400E0004, 8, 8⟩
def SCAN.STAT_LAST_MS : Fld := ⟨0x400E0004, 16, 16⟩
def SCAN.COUNT_READS : Fld := ⟨0x400E0008, 0, 16⟩
def SCAN.COUNT_TIMEOUTS : Fld := ⟨0x400E0008, 16, 16⟩
def SCAN.FAIL_UNREAD : Fld := ⟨0x400E000C, 0, 16⟩
def SCAN.FAIL_REJECTED : Fld := ⟨0x400E000C, 16, 8⟩
def SCAN.FAIL_ECC : Fld := ⟨0x400E000C, 24, 8⟩

/-! ### ENC -/

def ENC.CFG_STORE_MODE : Fld := ⟨0x400C0000, 0, 1⟩
def ENC.CFG_BANKS : Fld := ⟨0x400C0000, 8, 12⟩
def ENC.STAT_STATE : Fld := ⟨0x400C0004, 0, 2⟩
def ENC.STAT_NO_BUF : Fld := ⟨0x400C0004, 2, 1⟩
def ENC.STAT_LENT : Fld := ⟨0x400C0004, 4, 5⟩
def ENC.STAT_SWEEP_POS : Fld := ⟨0x400C0004, 9, 7⟩
def ENC.STAT_QP : Fld := ⟨0x400C0004, 16, 6⟩
def ENC.RATE_KBPS : Fld := ⟨0x400C0008, 0, 16⟩
def ENC.RATE_MAX_KBPS : Fld := ⟨0x400C0008, 16, 16⟩
def ENC.BUCKET_FILL : Fld := ⟨0x400C000C, 0, 32⟩
def ENC.COUNT_SKIPPED : Fld := ⟨0x400C0010, 0, 8⟩
def ENC.COUNT_NO_BUF : Fld := ⟨0x400C0010, 8, 8⟩
def ENC.COUNT_REQUANT : Fld := ⟨0x400C0010, 16, 8⟩
def ENC.COUNT_ECC : Fld := ⟨0x400C0010, 24, 8⟩
def ENC.OVERSHOOT_BYTES : Fld := ⟨0x400C0014, 0, 32⟩
def ENC.EVT_SWEEP_DONE : Fld := ⟨0x400C0018, 0, 1⟩
def ENC.EVT_PAUSED : Fld := ⟨0x400C0018, 1, 1⟩
def ENC.EVT_RESUMED : Fld := ⟨0x400C0018, 2, 1⟩
def ENC.EVT_IDR : Fld := ⟨0x400C0018, 3, 1⟩

/-! ### DEC -/

def DEC.STAT_STATE : Fld := ⟨0x400D0000, 0, 3⟩
def DEC.STAT_RECOVERED : Fld := ⟨0x400D0000, 3, 1⟩
def DEC.STAT_QUEUED : Fld := ⟨0x400D0000, 4, 3⟩
def DEC.STAT_BUFFERS : Fld := ⟨0x400D0000, 8, 4⟩
def DEC.STAT_WIDTH_MB : Fld := ⟨0x400D0000, 16, 8⟩
def DEC.STAT_HEIGHT_MB : Fld := ⟨0x400D0000, 24, 8⟩
def DEC.PIC_HOLD_HOLD : Fld := ⟨0x400D0004, 0, 8⟩
def DEC.PIC_HOLD_REF : Fld := ⟨0x400D0004, 8, 8⟩
def DEC.PIC_BASE0_ADDR : Fld := ⟨0x400D0010, 0, 32⟩
def DEC.PIC_BASE1_ADDR : Fld := ⟨0x400D0014, 0, 32⟩
def DEC.PIC_BASE2_ADDR : Fld := ⟨0x400D0018, 0, 32⟩
def DEC.PIC_BASE3_ADDR : Fld := ⟨0x400D001C, 0, 32⟩
def DEC.PIC_BASE4_ADDR : Fld := ⟨0x400D0020, 0, 32⟩
def DEC.PIC_BASE5_ADDR : Fld := ⟨0x400D0024, 0, 32⟩
def DEC.PIC_BASE6_ADDR : Fld := ⟨0x400D0028, 0, 32⟩
def DEC.PIC_BASE7_ADDR : Fld := ⟨0x400D002C, 0, 32⟩
def DEC.COUNT_CONCEALED : Fld := ⟨0x400D0030, 0, 16⟩
def DEC.COUNT_SYNTAX : Fld := ⟨0x400D0030, 16, 8⟩
def DEC.COUNT_ASO : Fld := ⟨0x400D0030, 24, 8⟩
def DEC.COUNT2_GAPS : Fld := ⟨0x400D0034, 0, 8⟩
def DEC.COUNT2_UNSUPPORTED : Fld := ⟨0x400D0034, 8, 8⟩
def DEC.EVT_SYNC : Fld := ⟨0x400D0038, 0, 1⟩
def DEC.EVT_RECOVERED : Fld := ⟨0x400D0038, 1, 1⟩
def DEC.EVT_UNSUPPORTED : Fld := ⟨0x400D0038, 2, 1⟩

/-! ### The register table -/

/-- The registers of CORE. -/
def regsCORE : List RegInfo :=
  [⟨0x40000100, 0x00000000, 0x00000000, 0x00000000, 0x00FFFF7F⟩,
   ⟨0x40000104, 0x00000000, 0x00000000, 0x00000000, 0x0000FFFF⟩,
   ⟨0x40000108, 0x00000000, 0x00000000, 0x00000000, 0xFFFFFFFF⟩,
   ⟨0x4000010C, 0x007FFFF0, 0x00000000, 0x00000000, 0x007FFFF0⟩,
   ⟨0x40000110, 0x00000000, 0x00000000, 0x00000000, 0x00000000⟩,
   ⟨0x40000114, 0x00000000, 0x00000000, 0x00000000, 0x00FFFFFF⟩,
   ⟨0x40000118, 0x00000000, 0x00000000, 0x00000000, 0x0000001F⟩,
   ⟨0x40000200, 0x00000000, 0x00000000, 0x00000000, 0x0000FFFF⟩,
   ⟨0x40000204, 0x00000000, 0x00000000, 0x00000000, 0x0000FFFF⟩,
   ⟨0x40000208, 0x00000000, 0x00000030, 0x00000000, 0x0000FF3F⟩,
   ⟨0x4000020C, 0x00000000, 0x00000000, 0x00000000, 0x00000000⟩,
   ⟨0x40000210, 0x00000000, 0x00000000, 0x00000000, 0x00000000⟩,
   ⟨0x40000214, 0x0000FFFF, 0x00000000, 0x00000000, 0x003FFFFF⟩,
   ⟨0x40000218, 0x00000000, 0x00000000, 0x00000000, 0x00000000⟩,
   ⟨0x4000021C, 0x0000FFFF, 0x00010000, 0x00000000, 0x0001FFFF⟩,
   ⟨0x40000000, 0x00000000, 0x00000000, 0x00000000, 0xFFFFFFFF⟩,
   ⟨0x40000004, 0x00000000, 0x00000008, 0x00000000, 0x000000FF⟩,
   ⟨0x40000008, 0x00000003, 0x00000000, 0x00000000, 0x00000003⟩,
   ⟨0x4000000C, 0xFFFFFFFF, 0x00000000, 0x00000000, 0xFFFFFFFF⟩,
   ⟨0x40000010, 0x000FFFFF, 0x00000000, 0x00000000, 0x000FFFFF⟩,
   ⟨0x40000014, 0xFFFFFFFF, 0x00000000, 0x00000000, 0xFFFFFFFF⟩,
   ⟨0x40000018, 0x0000FFFF, 0x00000000, 0x00000000, 0x0000FFFF⟩,
   ⟨0x40000020, 0x00000001, 0x00000000, 0x00000000, 0xFFFF0001⟩,
   ⟨0x40000024, 0x00000000, 0x00000000, 0x0000F000, 0x01FFF0FF⟩,
   ⟨0x40000028, 0x00000000, 0x00000000, 0x00000000, 0x0000FFFF⟩,
   ⟨0x4000002C, 0x00000000, 0x00000000, 0x00000000, 0x000001FF⟩,
   ⟨0x40000030, 0x00000003, 0x00000000, 0x00000000, 0x00000003⟩,
   ⟨0x40000034, 0x00000000, 0x00000010, 0x00000000, 0x00000F1F⟩,
   ⟨0x40000040, 0x00000000, 0x00000000, 0x00000000, 0x00FF01FF⟩,
   ⟨0x40000044, 0x00000000, 0x00000000, 0x00000000, 0x00FF01FF⟩,
   ⟨0x40000048, 0x00000000, 0x00000000, 0x00000000, 0x00FF01FF⟩,
   ⟨0x4000004C, 0x00000000, 0x00000000, 0x00000000, 0x00FF01FF⟩,
   ⟨0x40000300, 0x00000000, 0x00000000, 0xFFFFFFFF, 0xFFFFFFFF⟩,
   ⟨0x40000304, 0x00000000, 0x00000000, 0xFFFFFFFF, 0xFFFFFFFF⟩,
   ⟨0x40000308, 0x00000000, 0x00000000, 0x00000000, 0xFFFFFFFF⟩,
   ⟨0x40000310, 0x00000000, 0x00000000, 0x00000000, 0xFFFFFFFF⟩,
   ⟨0x40000314, 0x00000000, 0x00000000, 0x00000000, 0xFFFFFFFF⟩,
   ⟨0x40000318, 0x00000000, 0x00000000, 0x00000000, 0xFFFFFFFF⟩,
   ⟨0x40000400, 0x00000007, 0x00000000, 0x00000000, 0x00000007⟩,
   ⟨0x40000404, 0x0000FFFF, 0x00000000, 0x00000000, 0xFFFFFFFF⟩,
   ⟨0x40000408, 0x00000000, 0x00000000, 0x00000000, 0x000FFFFF⟩,
   ⟨0x4000040C, 0x00000000, 0x00000000, 0x00000000, 0x01FFFFFF⟩,
   ⟨0x40000410, 0x00000000, 0x03000000, 0x00000000, 0x03FFFFFF⟩,
   ⟨0x40000414, 0x00000000, 0x00000000, 0x0000FFFF, 0xFFFFFFFF⟩,
   ⟨0x40000418, 0xFFFF0000, 0x00000000, 0x00000000, 0xFFFF003F⟩,
   ⟨0x4000041C, 0x00000000, 0x00000000, 0xFFFF001F, 0xFFFF001F⟩,
   ⟨0x40000500, 0x00000000, 0x00000000, 0x00000000, 0xFFFFFFFF⟩,
   ⟨0x40000504, 0x00000000, 0x00000000, 0xFFFF0000, 0xFFFF0001⟩,
   ⟨0x40000508, 0x00000000, 0x00000000, 0x0000FFFF, 0x0000FFFF⟩,
   ⟨0x40000540, 0x00000000, 0x00000000, 0x00000000, 0x00FFFFFF⟩,
   ⟨0x40000544, 0x00000000, 0x00000000, 0x00000000, 0x00FFFFFF⟩,
   ⟨0x40000548, 0x00000000, 0x00000000, 0x00000000, 0x00FFFFFF⟩,
   ⟨0x4000054C, 0x00000000, 0x00000000, 0x00000000, 0x00FFFFFF⟩,
   ⟨0x40000550, 0x00000000, 0x00000000, 0x00000000, 0x00FFFFFF⟩,
   ⟨0x40000554, 0x00000000, 0x00000000, 0x00000000, 0x00FFFFFF⟩,
   ⟨0x40000558, 0x00000000, 0x00000000, 0x00000000, 0x00FFFFFF⟩,
   ⟨0x4000055C, 0x00000000, 0x00000000, 0x00000000, 0x00FFFFFF⟩,
   ⟨0x40000560, 0x00000000, 0x00000000, 0x00000000, 0x00FFFFFF⟩,
   ⟨0x40000564, 0x00000000, 0x00000000, 0x00000000, 0x00FFFFFF⟩,
   ⟨0x40000568, 0x00000000, 0x00000000, 0x00000000, 0x00FFFFFF⟩,
   ⟨0x4000056C, 0x00000000, 0x00000000, 0x00000000, 0x00FFFFFF⟩,
   ⟨0x40000570, 0x00000000, 0x00000000, 0x00000000, 0x00FFFFFF⟩,
   ⟨0x40000574, 0x00000000, 0x00000000, 0x00000000, 0x00FFFFFF⟩,
   ⟨0x40000578, 0x00000000, 0x00000000, 0x00000000, 0x00FFFFFF⟩,
   ⟨0x4000057C, 0x00000000, 0x00000000, 0x00000000, 0x00FFFFFF⟩,
   ⟨0x40000600, 0x00000000, 0x00000000, 0x00000000, 0x00001F1F⟩]

/-- The registers of SUPPLY. -/
def regsSUPPLY : List RegInfo :=
  [⟨0x40050000, 0x00000F7F, 0x00000000, 0x00000000, 0x00000F7F⟩,
   ⟨0x40050004, 0x00000000, 0x00000300, 0x00000000, 0x03FF03FF⟩,
   ⟨0x40050010, 0x00000001, 0x00000000, 0x00000000, 0x00000001⟩,
   ⟨0x40050014, 0x000000FF, 0x00000000, 0x00000000, 0x000000FF⟩,
   ⟨0x40050018, 0x0000001F, 0x00000000, 0x00000000, 0x0000001F⟩,
   ⟨0x4005001C, 0x00000000, 0x00000010, 0x00000000, 0x3FFFFF1F⟩,
   ⟨0x40050020, 0x000000FF, 0x00000000, 0x00000000, 0x000000FF⟩,
   ⟨0x40050024, 0x000000FF, 0x00000000, 0x00000000, 0x000000FF⟩,
   ⟨0x40050028, 0x000000FF, 0x00000000, 0x00000000, 0x000000FF⟩,
   ⟨0x4005002C, 0x000000FF, 0x00000000, 0x00000000, 0x000001FF⟩,
   ⟨0x40050030, 0x00000000, 0x00000000, 0x00000000, 0xFFFFFFFF⟩,
   ⟨0x40050034, 0x00000000, 0x0000007F, 0x00000000, 0x0000007F⟩,
   ⟨0x40050038, 0x00000000, 0x00000000, 0xFFFFFFFF, 0xFFFFFFFF⟩,
   ⟨0x4005003C, 0x00000000, 0x00000000, 0x00000000, 0x0000FFFF⟩]

/-- The registers of LINK. -/
def regsLINK : List RegInfo :=
  [⟨0x40010000, 0x00000000, 0x00000000, 0x00000000, 0xFF01FF07⟩,
   ⟨0x40010004, 0x0001FF07, 0x00000000, 0x00000000, 0x0001FF07⟩,
   ⟨0x40010008, 0x00000000, 0x00000000, 0x00000000, 0x07F1FF07⟩,
   ⟨0x4001000C, 0x00000000, 0x00000000, 0x00000000, 0x00000000⟩,
   ⟨0x40010010, 0x00000000, 0x00000000, 0x00000000, 0x0001FF07⟩,
   ⟨0x40010014, 0x00000000, 0x00000000, 0x00000000, 0x070FFFFF⟩,
   ⟨0x40010018, 0x00000000, 0x000003FF, 0x00000000, 0x000003FF⟩,
   ⟨0x4001001C, 0x00000000, 0x00000000, 0x0000FFFF, 0x0000FFFF⟩]

/-- The registers of VEC. -/
def regsVEC : List RegInfo :=
  [⟨0x40100000, 0x00000000, 0xFFFFFFFF, 0x00000000, 0xFFFFFFFF⟩,
   ⟨0x40100004, 0xFFFFFFFF, 0x00000000, 0x00000000, 0xFFFFFFFF⟩,
   ⟨0x40100010, 0xFFFFFFFF, 0x00000000, 0x00000000, 0xFFFFFFFF⟩,
   ⟨0x40100014, 0xFFFFFFFF, 0x00000000, 0x00000000, 0xFFFFFFFF⟩,
   ⟨0x40100018, 0xFFFFFFFF, 0x00000000, 0x00000000, 0xFFFFFFFF⟩,
   ⟨0x4010001C, 0xFFFFFFFF, 0x00000000, 0x00000000, 0xFFFFFFFF⟩,
   ⟨0x40100020, 0x00000000, 0x00000000, 0x00000000, 0x0000000F⟩,
   ⟨0x40100030, 0x00000000, 0x00000000, 0x00007F00, 0x00007F7F⟩]

/-- The registers of one group of VEC. -/
def regsVECAt (i : Nat) : List RegInfo :=
  [⟨0x40100100 + 0x20 * i, 0x007FFFC0, 0x00000000, 0x00000000, 0x007FFFC0⟩,
   ⟨0x40100104 + 0x20 * i, 0x007FFFC0, 0x00000000, 0x00000000, 0x007FFFC0⟩,
   ⟨0x40100108 + 0x20 * i, 0x000101FF, 0x00000000, 0x00000000, 0x000101FF⟩,
   ⟨0x4010010C + 0x20 * i, 0x0000FFFF, 0x00000000, 0x00000000, 0x0000FFFF⟩,
   ⟨0x40100110 + 0x20 * i, 0x00000000, 0x00000000, 0x00000000, 0x01FF01FF⟩,
   ⟨0x40100114 + 0x20 * i, 0x00000000, 0x00000000, 0x00000000, 0x01FF81FF⟩,
   ⟨0x40100118 + 0x20 * i, 0x00000000, 0x00010000, 0x0000FFFF, 0x7F0FFFFF⟩]

/-- The registers of MOVER. -/
def regsMOVER : List RegInfo :=
  [⟨0x40030000, 0x00000000, 0x00000000, 0x00000000, 0x0000FFFF⟩,
   ⟨0x40030004, 0x00000000, 0x00000000, 0x00000000, 0xFFFFFFFF⟩,
   ⟨0x40030010, 0x00000000, 0x0000FFFF, 0x00000000, 0x0000FFFF⟩,
   ⟨0x40030014, 0x00000000, 0x0000FFFF, 0x00000000, 0x0000FFFF⟩,
   ⟨0x40030018, 0x00000000, 0x0000FFFF, 0x00000000, 0x0000FFFF⟩,
   ⟨0x40030020, 0x00000000, 0x00000000, 0x0000FFFF, 0x0000FFFF⟩]

/-- The registers of one group of MOVER. -/
def regsMOVERAt (i : Nat) : List RegInfo :=
  [⟨0x40030100 + 0x20 * i, 0x000003F0, 0x00000000, 0x00000000, 0x000003F0⟩,
   ⟨0x40030104 + 0x20 * i, 0x007FFFE0, 0x00000000, 0x00000000, 0x007FFFE0⟩,
   ⟨0x40030108 + 0x20 * i, 0x00000000, 0x00000000, 0x00000000, 0x00000000⟩,
   ⟨0x4003010C + 0x20 * i, 0x00000000, 0x01000000, 0x00000000, 0x01FF0F1F⟩,
   ⟨0x40030110 + 0x20 * i, 0x00000000, 0x00000000, 0x00000000, 0xFFFFFFFF⟩,
   ⟨0x40030114 + 0x20 * i, 0x00000000, 0x00000000, 0x00000000, 0xFFFFFFFF⟩,
   ⟨0x40030118 + 0x20 * i, 0x00000000, 0x00000000, 0x00000000, 0xFFFFFFFF⟩,
   ⟨0x4003011C + 0x20 * i, 0x00000000, 0x00000000, 0x0000FFFF, 0x0000FFFF⟩]

/-- The registers of FLASH. -/
def regsFLASH : List RegInfo :=
  [⟨0x40020000, 0x00000000, 0x00000000, 0x00000000, 0x007FFFFF⟩,
   ⟨0x40020004, 0x00000000, 0x00000000, 0x00000000, 0x00FFFFFF⟩,
   ⟨0x40020008, 0x00000000, 0x00000000, 0x00000000, 0x00000FFF⟩,
   ⟨0x4002000C, 0x00000000, 0x00000000, 0x00000000, 0xFFFFFFFF⟩,
   ⟨0x40020010, 0x00000000, 0x00000000, 0x00000000, 0xFFFFFFFF⟩,
   ⟨0x40020014, 0x00000000, 0x00000000, 0x00000000, 0x0000FFFF⟩,
   ⟨0x40020018, 0x00000000, 0x00000000, 0x0000FFFF, 0x0000FFFF⟩]

/-- The registers of LEDGER. -/
def regsLEDGER : List RegInfo :=
  [⟨0x400F0000, 0x00000000, 0x00000000, 0x00000000, 0x0000FF1F⟩,
   ⟨0x400F0004, 0x00000000, 0x00000000, 0x00000000, 0xFFFFFFFF⟩,
   ⟨0x400F0008, 0x00000000, 0x00000000, 0x00000000, 0xFFFFFFFF⟩,
   ⟨0x400F000C, 0x00000000, 0x00000000, 0xFFFFFFFF, 0xFFFFFFFF⟩,
   ⟨0x400F0010, 0x00000000, 0x00000000, 0x00000000, 0xFFFFFFFF⟩,
   ⟨0x400F0014, 0x00000000, 0x00000000, 0x00000000, 0x0000FFFF⟩,
   ⟨0x400F0018, 0x00000000, 0x00000000, 0xFF000000, 0xFF03FFFF⟩]

/-- The registers of THERM. -/
def regsTHERM : List RegInfo :=
  [⟨0x40040000, 0x00000000, 0x00000000, 0x00000000, 0xFFFF00FF⟩,
   ⟨0x40040004, 0x00000000, 0x00000000, 0x00000000, 0xFFFFFFFF⟩,
   ⟨0x40040008, 0x00000000, 0x00000000, 0x00000000, 0xFFFFFFFF⟩,
   ⟨0x4004000C, 0x00000000, 0x00000000, 0x00000000, 0xFFFFFFFF⟩,
   ⟨0x40040010, 0x000003FF, 0x00000000, 0x00000000, 0x000003FF⟩,
   ⟨0x40040014, 0x00000000, 0x00001F1F, 0x00000000, 0x00001F1F⟩,
   ⟨0x40040018, 0x00000000, 0x00000000, 0x00000000, 0x00003F3F⟩,
   ⟨0x4004001C, 0x00000000, 0x00000000, 0x00000000, 0x0000FFFF⟩,
   ⟨0x40040020, 0x00000000, 0x00000000, 0x0000FFFF, 0x0000FFFF⟩,
   ⟨0x40040024, 0x00000000, 0x00000000, 0x00000000, 0x0000FFFF⟩]

/-- The registers of RASTER. -/
def regsRASTER : List RegInfo :=
  [⟨0x40070000, 0x00000000, 0x00000000, 0x00000000, 0x000F07FF⟩,
   ⟨0x40070004, 0x00000000, 0x00000000, 0x00000000, 0x0FFF1FFF⟩,
   ⟨0x40070008, 0x00000000, 0x00000000, 0x00000000, 0x3FFFFF1F⟩,
   ⟨0x4007000C, 0x00010000, 0x00000000, 0x00000000, 0x0001FFFF⟩,
   ⟨0x40070010, 0x00000000, 0x00000000, 0x00000000, 0x0F03FFFF⟩,
   ⟨0x40070014, 0x00000000, 0x00000000, 0xFFFFFFFF, 0xFFFFFFFF⟩,
   ⟨0x40070020, 0x00000000, 0x00000000, 0x00000000, 0x1FFFFF03⟩,
   ⟨0x40070024, 0x00000000, 0x00000000, 0x00000000, 0x1FFFFF03⟩,
   ⟨0x40070028, 0x00000000, 0x00000000, 0x00000000, 0x1FFFFF03⟩,
   ⟨0x40070040, 0x00000000, 0x00000000, 0x00000000, 0x00000000⟩,
   ⟨0x40070044, 0x00000000, 0x00000000, 0x00000000, 0x00000000⟩,
   ⟨0x40070048, 0x00000000, 0x00000000, 0x00000000, 0x00000000⟩,
   ⟨0x4007004C, 0x00000000, 0x00000000, 0x00000000, 0x00000000⟩,
   ⟨0x40070050, 0x00000000, 0x00000100, 0x00000000, 0x000001F1⟩]

/-- The registers of PRINT. -/
def regsPRINT : List RegInfo :=
  [⟨0x40060000, 0x00000000, 0x00000000, 0x00000000, 0xFF07F7FF⟩,
   ⟨0x40060004, 0x00000000, 0x00000000, 0x00000000, 0xFFFFFF7F⟩,
   ⟨0x40060008, 0x00000000, 0x00000000, 0x00000000, 0x0001FF3F⟩,
   ⟨0x4006000C, 0x00000000, 0x00000000, 0x00000000, 0xFFFF000F⟩,
   ⟨0x40060010, 0x00000000, 0x00000000, 0x00000000, 0xFFFF00FF⟩,
   ⟨0x40060020, 0xFFFF07FF, 0x00000000, 0x00000000, 0xFFFF07FF⟩,
   ⟨0x40060024, 0x001FFFFF, 0x00000000, 0x00000000, 0x001FFFFF⟩,
   ⟨0x40060028, 0xFFFFF3FF, 0x00000000, 0x00000000, 0xFFFFF3FF⟩,
   ⟨0x40060030, 0xFFFFFFFF, 0x00000000, 0x00000000, 0xFFFFFFFF⟩,
   ⟨0x40060034, 0xFFFFFFFF, 0x00000000, 0x00000000, 0xFFFFFFFF⟩,
   ⟨0x40060038, 0xFFFFFFFF, 0x00000000, 0x00000000, 0xFFFFFFFF⟩,
   ⟨0x4006003C, 0xFFFFFFFF, 0x00000000, 0x00000000, 0xFFFFFFFF⟩,
   ⟨0x40060040, 0x0FFFFFFF, 0x00000000, 0x00000000, 0x0FFFFFFF⟩,
   ⟨0x40060044, 0x00000000, 0x00000000, 0x00000000, 0x0FFFFFFF⟩,
   ⟨0x40060048, 0x00000000, 0x00000000, 0x00000000, 0xFFFFFFFF⟩,
   ⟨0x4006004C, 0x00000000, 0x00000000, 0xFFFFFFFF, 0xFFFFFFFF⟩,
   ⟨0x40060050, 0x00000000, 0x00000000, 0x00000000, 0xFFFFFF0F⟩,
   ⟨0x40060054, 0x00000000, 0x00000000, 0x00000000, 0x00FFFFFF⟩,
   ⟨0x40060058, 0x00000000, 0x0000001F, 0x00000000, 0x0000001F⟩,
   ⟨0x4006005C, 0x00FF0000, 0x00000000, 0x00000000, 0x00FFFFFF⟩]

/-- The registers of FEED. -/
def regsFEED : List RegInfo :=
  [⟨0x40080000, 0x00000000, 0x00000000, 0x00000000, 0x00003F1F⟩,
   ⟨0x40080004, 0x00000000, 0x00000000, 0x00000000, 0xFFFFF1FF⟩,
   ⟨0x40080008, 0x00000000, 0x00000000, 0x00000000, 0xFFFFFFFF⟩,
   ⟨0x4008000C, 0x00000000, 0x00000000, 0x00000000, 0xFFFFFFFF⟩,
   ⟨0x40080010, 0x00000000, 0x00000000, 0x00000000, 0xFFFFFFFF⟩,
   ⟨0x40080014, 0x00000000, 0x00000000, 0x00000000, 0xFFFFFFFF⟩,
   ⟨0x40080018, 0x00000000, 0x00000000, 0x00000000, 0xFFFFFFFF⟩,
   ⟨0x4008001C, 0x00000000, 0x00000000, 0x00000000, 0xFFFFFFFF⟩,
   ⟨0x40080020, 0x01FF01FF, 0x00000000, 0x00000000, 0x01FF01FF⟩,
   ⟨0x40080024, 0x07FFFF7F, 0x00000000, 0x00000000, 0x07FFFF7F⟩,
   ⟨0x40080028, 0x00000000, 0x00000000, 0xFFFFFFFF, 0xFFFFFFFF⟩,
   ⟨0x4008002C, 0x00000000, 0x00000000, 0xFF000000, 0xFFFFFFFF⟩,
   ⟨0x40080030, 0x00000000, 0x00000000, 0xFFFF0000, 0xFFFFFF07⟩,
   ⟨0x40080034, 0x00000000, 0x00000000, 0x00000000, 0xFFFFFFFF⟩,
   ⟨0x40080038, 0x00000000, 0x0000007F, 0x00000000, 0x0000007F⟩,
   ⟨0x4008003C, 0x00000000, 0x00000000, 0x00000000, 0x00FFFFFF⟩,
   ⟨0x40080040, 0x0000FF01, 0x00000000, 0x00000000, 0x0000FF01⟩,
   ⟨0x40080050, 0x00000000, 0x00000000, 0x00000000, 0xFFFFFFFF⟩,
   ⟨0x40080054, 0x00000000, 0x00000000, 0x00000000, 0xFFFFFFFF⟩,
   ⟨0x40080058, 0x00000000, 0x00000000, 0x00000000, 0xFFFFFFFF⟩,
   ⟨0x4008005C, 0x00000000, 0x00000000, 0x00000000, 0xFFFFFFFF⟩,
   ⟨0x40080060, 0x00000000, 0x00000000, 0x00000000, 0xFFFFFFFF⟩,
   ⟨0x40080064, 0x00000000, 0x00000000, 0x00000000, 0xFFFFFFFF⟩,
   ⟨0x40080068, 0x00000000, 0x00000000, 0x00000000, 0xFFFFFFFF⟩,
   ⟨0x4008006C, 0x00000000, 0x00000000, 0x00000000, 0xFFFFFFFF⟩]

/-- The registers of CUT. -/
def regsCUT : List RegInfo :=
  [⟨0x40090000, 0x00000000, 0x00000000, 0x00000000, 0x00000F1F⟩,
   ⟨0x40090004, 0x0FFF0FFF, 0x00000000, 0x00000000, 0x0FFF0FFF⟩,
   ⟨0x40090008, 0x01FF01FF, 0x00000000, 0x00000000, 0x01FF01FF⟩,
   ⟨0x4009000C, 0x0000FFFF, 0x00000000, 0x00000000, 0x0000FFFF⟩,
   ⟨0x40090010, 0x00000000, 0x00000000, 0x00000000, 0x0FFFFFFF⟩,
   ⟨0x40090014, 0x00000000, 0x00000000, 0xFFFF0000, 0xFFFFFFFF⟩,
   ⟨0x40090018, 0x00000000, 0x00000007, 0x00000000, 0x00000007⟩,
   ⟨0x4009001C, 0x00000000, 0x00000000, 0x00000000, 0x0000FFFF⟩]

/-- The registers of LOOP. -/
def regsLOOP : List RegInfo :=
  [⟨0x400A0000, 0x00000000, 0x00000000, 0x00000000, 0x00000FFF⟩,
   ⟨0x400A0004, 0x00000000, 0x0000001F, 0x00000000, 0x0000001F⟩,
   ⟨0x400A0010, 0x00000000, 0x00000000, 0x00000000, 0x00000000⟩,
   ⟨0x400A0014, 0x00000000, 0x00000000, 0x00000000, 0x00000000⟩,
   ⟨0x400A0018, 0x00000000, 0x00000000, 0x00000000, 0x00000000⟩,
   ⟨0x400A001C, 0x00000000, 0x00000000, 0x00000000, 0x00000000⟩,
   ⟨0x400A0020, 0x00000000, 0x00000F00, 0x00000000, 0x00000FF7⟩,
   ⟨0x400A0024, 0x00000000, 0x00000000, 0x00000000, 0x00000000⟩]

/-- The registers of one group of LOOP. -/
def regsLOOPAt (i : Nat) : List RegInfo :=
  [⟨0x400A0100 + 0x40 * i, 0x00000000, 0x00000000, 0x00000000, 0x00000F37⟩,
   ⟨0x400A0104 + 0x40 * i, 0x00000000, 0x00000000, 0x00000000, 0xFFFFFFFF⟩,
   ⟨0x400A0108 + 0x40 * i, 0x00000000, 0x00000000, 0x00000000, 0xFFFFFFFF⟩,
   ⟨0x400A010C + 0x40 * i, 0x00000000, 0x00000000, 0x00000000, 0xFFFFFFFF⟩,
   ⟨0x400A0110 + 0x40 * i, 0x00000000, 0x00000000, 0x00000000, 0xFFFFFFFF⟩,
   ⟨0x400A0114 + 0x40 * i, 0x00000000, 0x00000000, 0x00000000, 0xFFFFFFFF⟩,
   ⟨0x400A0118 + 0x40 * i, 0x7FFFFFFF, 0x00000000, 0x00000000, 0x7FFFFFFF⟩,
   ⟨0x400A011C + 0x40 * i, 0x00003FFF, 0x00000000, 0x00000000, 0x3FFF3FFF⟩,
   ⟨0x400A0120 + 0x40 * i, 0x00FF03FF, 0x00000000, 0x00000000, 0x7FFF03FF⟩,
   ⟨0x400A0124 + 0x40 * i, 0x7FFFFFFF, 0x00000000, 0x00000000, 0x7FFFFFFF⟩,
   ⟨0x400A0128 + 0x40 * i, 0x00000001, 0x00000000, 0x00000000, 0x00000001⟩,
   ⟨0x400A012C + 0x40 * i, 0x00000000, 0x00000000, 0x00FFFFFF, 0x00FFFFFF⟩,
   ⟨0x400A0130 + 0x40 * i, 0x00000000, 0x00000000, 0x00000000, 0xFFFFFFFF⟩]

/-- The registers of VIDIN. -/
def regsVIDIN : List RegInfo :=
  [⟨0x400B0000, 0x00000000, 0x00000000, 0x00000000, 0x03FFF3FF⟩,
   ⟨0x400B0004, 0x00000000, 0x00000000, 0x00000000, 0x007FFFFF⟩,
   ⟨0x400B0008, 0x00000000, 0x00000000, 0x00000000, 0xFFFF1FFF⟩,
   ⟨0x400B000C, 0x00000000, 0x00000000, 0x00000000, 0xFFFF1FFF⟩,
   ⟨0x400B0010, 0x00000000, 0xFFFFFFFF, 0x00000000, 0xFFFFFFFF⟩,
   ⟨0x400B0014, 0x00000000, 0x00000000, 0x00000000, 0xFFFFFFFF⟩,
   ⟨0x400B0018, 0xFFFFFFFF, 0x00000000, 0x00000000, 0xFFFFFFFF⟩,
   ⟨0x400B001C, 0x000003FF, 0x00000000, 0x00000000, 0x000003FF⟩,
   ⟨0x400B0020, 0x0000FF01, 0x00000000, 0x00000000, 0x00FFFF01⟩,
   ⟨0x400B0024, 0xFFFFFFFF, 0x00000000, 0x00000000, 0xFFFFFFFF⟩,
   ⟨0x400B0028, 0x00000000, 0x00000000, 0xFFFFFFFF, 0xFFFFFFFF⟩,
   ⟨0x400B002C, 0x00000000, 0x00000000, 0xFFFFFFFF, 0xFFFFFFFF⟩,
   ⟨0x400B0030, 0x00000000, 0x0000000F, 0x00000000, 0x0000000F⟩,
   ⟨0x400B0034, 0x00000000, 0x00000000, 0x00000000, 0x00FFFFFF⟩,
   ⟨0x400B0040, 0x00000000, 0x00000000, 0x00000000, 0xFFFFFFFF⟩,
   ⟨0x400B0044, 0x00000000, 0x00000000, 0x00000000, 0xFFFFFFFF⟩,
   ⟨0x400B0048, 0x00000000, 0x00000000, 0x00000000, 0xFFFFFFFF⟩,
   ⟨0x400B004C, 0x00000000, 0x00000000, 0x00000000, 0xFFFFFFFF⟩]

/-- The registers of SCAN. -/
def regsSCAN : List RegInfo :=
  [⟨0x400E0000, 0xFFFF1F0F, 0x00000000, 0x00000000, 0xFFFF1F0F⟩,
   ⟨0x400E0004, 0x00000000, 0x00000000, 0x00000000, 0xFFFFFF03⟩,
   ⟨0x400E0008, 0x00000000, 0x00000000, 0xFFFFFFFF, 0xFFFFFFFF⟩,
   ⟨0x400E000C, 0x00000000, 0x00000000, 0xFFFFFFFF, 0xFFFFFFFF⟩]

/-- The registers of ENC. -/
def regsENC : List RegInfo :=
  [⟨0x400C0000, 0x00000000, 0x00000000, 0x00000000, 0x000FFF01⟩,
   ⟨0x400C0004, 0x00000000, 0x00000000, 0x00000000, 0x003FFFF7⟩,
   ⟨0x400C0008, 0xFFFFFFFF, 0x00000000, 0x00000000, 0xFFFFFFFF⟩,
   ⟨0x400C000C, 0x00000000, 0x00000000, 0x00000000, 0xFFFFFFFF⟩,
   ⟨0x400C0010, 0x00000000, 0x00000000, 0xFFFFFFFF, 0xFFFFFFFF⟩,
   ⟨0x400C0014, 0x00000000, 0x00000000, 0xFFFFFFFF, 0xFFFFFFFF⟩,
   ⟨0x400C0018, 0x00000000, 0x0000000F, 0x00000000, 0x0000000F⟩]

/-- The registers of DEC. -/
def regsDEC : List RegInfo :=
  [⟨0x400D0000, 0x00000000, 0x00000000, 0x00000000, 0xFFFF0F7F⟩,
   ⟨0x400D0004, 0x00000000, 0x000000FF, 0x00000000, 0x0000FFFF⟩,
   ⟨0x400D0010, 0x00000000, 0x00000000, 0x00000000, 0xFFFFFFFF⟩,
   ⟨0x400D0014, 0x00000000, 0x00000000, 0x00000000, 0xFFFFFFFF⟩,
   ⟨0x400D0018, 0x00000000, 0x00000000, 0x00000000, 0xFFFFFFFF⟩,
   ⟨0x400D001C, 0x00000000, 0x00000000, 0x00000000, 0xFFFFFFFF⟩,
   ⟨0x400D0020, 0x00000000, 0x00000000, 0x00000000, 0xFFFFFFFF⟩,
   ⟨0x400D0024, 0x00000000, 0x00000000, 0x00000000, 0xFFFFFFFF⟩,
   ⟨0x400D0028, 0x00000000, 0x00000000, 0x00000000, 0xFFFFFFFF⟩,
   ⟨0x400D002C, 0x00000000, 0x00000000, 0x00000000, 0xFFFFFFFF⟩,
   ⟨0x400D0030, 0x00000000, 0x00000000, 0xFFFFFFFF, 0xFFFFFFFF⟩,
   ⟨0x400D0034, 0x00000000, 0x00000000, 0x0000FFFF, 0x0000FFFF⟩,
   ⟨0x400D0038, 0x00000000, 0x00000007, 0x00000000, 0x00000007⟩]

/-- Every register of the device; an address of register space that no row names is a hole (R16). -/
def regTable : List RegInfo :=
  regsCORE ++
  regsSUPPLY ++
  regsLINK ++
  regsVEC ++
  (List.range 16).flatMap regsVECAt ++
  regsMOVER ++
  (List.range 16).flatMap regsMOVERAt ++
  regsFLASH ++
  regsLEDGER ++
  regsTHERM ++
  regsRASTER ++
  regsPRINT ++
  regsFEED ++
  regsCUT ++
  regsLOOP ++
  (List.range 4).flatMap regsLOOPAt ++
  regsVIDIN ++
  regsSCAN ++
  regsENC ++
  regsDEC

/-- The registers that do not read 0 after a device reset, with the word they hold: addresses rising. -/
def resetWords : List (Nat × Word) :=
  [(0x40000000, 0x714000B0),
   (0x40000004, 0x00000002),
   (0x4000000C, 0x025803E8),
   (0x40000010, 0x0000C000),
   (0x40000018, 0x000003E8),
   (0x40000024, 0x01080001),
   (0x40000028, 0x00000007),
   (0x40000214, 0x000007D0),
   (0x40000310, 0xFFFFFFFF),
   (0x40000314, 0xFFFFFFFF),
   (0x40000318, 0xFFFFFFFF),
   (0x40000600, 0x00001F1F),
   (0x40010000, 0x01016407),
   (0x40010004, 0x00001901),
   (0x40010008, 0x00801901),
   (0x40010010, 0x00001901),
   (0x40010014, 0x00080000),
   (0x40030100, 0x00000210),
   (0x40030120, 0x00000210),
   (0x40030140, 0x00000210),
   (0x40030160, 0x00000210),
   (0x40030180, 0x00000210),
   (0x400301A0, 0x00000210),
   (0x400301C0, 0x00000210),
   (0x400301E0, 0x00000210),
   (0x40030200, 0x00000210),
   (0x40030220, 0x00000210),
   (0x40030240, 0x00000210),
   (0x40030260, 0x00000210),
   (0x40030280, 0x00000210),
   (0x400302A0, 0x00000210),
   (0x400302C0, 0x00000210),
   (0x400302E0, 0x00000210),
   (0x40050000, 0x00000550),
   (0x40080004, 0x00000140),
   (0x40100004, 0xFFFFFFFF),
   (0x40100010, 0xFFFFFFFF),
   (0x4010010C, 0x00000001),
   (0x40100114, 0x00008000),
   (0x4010012C, 0x00000001),
   (0x40100134, 0x00008000),
   (0x4010014C, 0x00000001),
   (0x40100154, 0x00008000),
   (0x4010016C, 0x00000001),
   (0x40100174, 0x00008000),
   (0x4010018C, 0x00000001),
   (0x40100194, 0x00008000),
   (0x401001AC, 0x00000001),
   (0x401001B4, 0x00008000),
   (0x401001CC, 0x00000001),
   (0x401001D4, 0x00008000),
   (0x401001EC, 0x00000001),
   (0x401001F4, 0x00008000),
   (0x4010020C, 0x00000001),
   (0x40100214, 0x00008000),
   (0x4010022C, 0x00000001),
   (0x40100234, 0x00008000),
   (0x4010024C, 0x00000001),
   (0x40100254, 0x00008000),
   (0x4010026C, 0x00000001),
   (0x40100274, 0x00008000),
   (0x4010028C, 0x00000001),
   (0x40100294, 0x00008000),
   (0x401002AC, 0x00000001),
   (0x401002B4, 0x00008000),
   (0x401002CC, 0x00000001),
   (0x401002D4, 0x00008000),
   (0x401002EC, 0x00000001),
   (0x401002F4, 0x00008000)]

end Sys2Proof.Machine
end

