-- ==== Sys2Proof/Machine/Store.lean ====
section
/-! DEFINITION. Sparse storage: a list of (key, value) pairs in one canonical form, keys strictly rising and no entry
equal to the default that an unlisted key reads as, so that equal contents are equal lists. SRAM, keep RAM, the
external flash and the register file are stores. -/

namespace Sys2Proof.Machine

/-- A store: keys strictly rising, no entry equal to the default. -/
abbrev Store (α : Type) := List (Nat × α)

/-- What key `k` reads as: `d` where no entry lists it. -/
def Store.get {α : Type} (d : α) : Store α → Nat → α
  | [], _ => d
  | (k, v) :: m, a => if k = a then v else Store.get d m a

/-- The store without an entry for key `a`. -/
def Store.erase {α : Type} : Store α → Nat → Store α
  | [], _ => []
  | (k, v) :: m, a => if k = a then Store.erase m a else (k, v) :: Store.erase m a

/-- An entry put in its place by key. -/
def Store.insert {α : Type} (a : Nat) (v : α) : Store α → Store α
  | [] => [(a, v)]
  | (k, w) :: m => if a < k then (a, v) :: (k, w) :: m else (k, w) :: Store.insert a v m

/-- Key `a` made to read as `v`. -/
def Store.set {α : Type} [DecidableEq α] (d : α) (m : Store α) (a : Nat) (v : α) : Store α :=
  if v = d then m.erase a else Store.insert a v (m.erase a)

/-- The canonical form: keys strictly rising from above `lo`, no value equal to the default. -/
def Store.wfFrom {α : Type} [DecidableEq α] (d : α) : Nat → Store α → Bool
  | _, [] => true
  | lo, (k, v) :: m => decide (lo ≤ k) && decide (v ≠ d) && Store.wfFrom d (k + 1) m

/-- The canonical form of a store. -/
def Store.wf {α : Type} [DecidableEq α] (d : α) (m : Store α) : Bool := Store.wfFrom d 0 m

/-- The canonical form of a memory of bytes. -/
abbrev Memory.wf (d : Byte) (m : Store Byte) : Bool := Store.wf d m

end Sys2Proof.Machine
end

