-- ==== Sys2Proof/Machine/State.lean ====
section
/-! DEFINITION. The state of the MB7140: its register file, its memories with their error marks, OTP, and the state
that its rods hold beside their registers. A register field that the spec names has its one home in `regs`, unless the
docstring of a field here says that the register's value is computed from that field. -/

namespace Sys2Proof.Machine

/-- Why a step could stop with a fault: it never does. A fault of the MB7140 (R525) is state, not a stop. -/
inductive Fault where
deriving DecidableEq, Repr

/-- Why a step could be refused. -/
inductive Refusal where
  /-- Raised by an arm of `exec` that has no meaning yet. Safe: nothing is claimed of that command. -/
  | notModelled (mnemonic : String)
deriving DecidableEq, Repr

/-- The two parts (R4, R5). -/
inductive Part where
  | av | ap
deriving DecidableEq, Repr

/-- One bead of an image section: its number and its data bytes. -/
structure Bead where
  num : Nat
  data : List Nat
deriving DecidableEq, Repr

/-- A fault that is present (R525): its code and param 1. -/
structure FaultRec where
  code : Nat
  param : Nat
deriving DecidableEq, Repr

/-- A command in flight: the entry as fetched (R200), the rods in whose order it still holds a place (R36, R214), and
whether it has started. -/
structure Cmd where
  tag : Nat
  queue : Nat
  cmdId : Nat
  op : Nat
  rods : List Rod
  now : Bool
  wait : Nat
  p0 : Nat
  p1 : Nat
  p2 : Nat
  p3 : Nat
  p4 : Nat
  p5 : Nat
  started : Bool
  /-- The command that this ABORT has cancelled, and whose completion it awaits (R217). -/
  abortOf : Option Nat := none
deriving DecidableEq, Repr

/-- A completion that is ready but not yet written, because its queue is full (R205). -/
structure Compl where
  tag : Option Nat
  cmdId : Nat
  status : Nat
  origin : Nat
  now : Bool
  r0 : Nat
  r1 : Nat
deriving DecidableEq, Repr

/-- What a queue pair holds beside its registers: held completions in order (R205), the completions counted since its
vector was last set (R219), and whether a fetch stall has been counted (R211). -/
structure Queue where
  held : List Compl := []
  count : Nat := 0
  stalled : Bool := false
deriving DecidableEq, Repr

/-- One-time programmable memory: the key hashes of R41, the rollback counter, the freeze hash and the service port. -/
structure Otp where
  vendorKey : Option (List Nat) := none
  intKey1 : Option (List Nat) := none
  intKey2 : Option (List Nat) := none
  rollback : Nat := 0
  frozen : Option (List Nat) := none
  svcClosed : Bool := true
deriving DecidableEq, Repr

/-- The operating base under R37: RECKON and CARRY are told apart by the work that is running or queued. -/
inductive Base where
  | run | tally | cleared | held
deriving DecidableEq, Repr

/-- Where the boot stands (R76, R83, R86). -/
structure Boot where
  /-- VIN fell below the power-off threshold and has not yet risen through the power-on threshold (R76). -/
  off : Bool := false
  /-- RESET_N is low (R76). -/
  pinLow : Bool := false
  /-- The zero fill of main SRAM has not ended (R86). -/
  fill : Bool := true
  /-- A SOFT reset has been scheduled (R80). -/
  softDue : Bool := false
  /-- BOOT_SRC as sampled at the start of the boot (R57, R547). -/
  bootSrc : Bool := false
  /-- The always-on brake path holds these half-bridges low, one bit each (R83). -/
  brake : Nat := 0
  /-- A frame image has been applied since the last POR, so the strobes have an inactive level (R82). -/
  strobesKnown : Bool := false
  /-- The inactive level of the strobes, one bit each, held in the always-on domain (R81). -/
  strobeIdle : Nat := 0
  /-- Rods whose self-test has passed since their last reset or image (R68), one bit each. -/
  tested : Nat := 0
  /-- Rods in a rod reset (R94), from the write of CORE.ROD_RESET until they report READY or fault, one bit each. -/
  resetting : Nat := 0
deriving DecidableEq, Repr

/-- PLL-S while it locks or relocks (R114, R117): the frequency it is locking at, the last one it held, the failed
attempts so far, whether it is locking, and whether it has gone back to the previous frequency. -/
structure Pll where
  goal : Nat := 264
  prev : Nat := 264
  fails : Nat := 0
  active : Bool := true
  back : Bool := false
deriving DecidableEq, Repr

/-- Where a change of operating point stands (R120). -/
inductive DvfsPhase where
  | idle | rise | relockUp | relockDown | fall | level
deriving DecidableEq, Repr

/-- The clocks and the change of operating point, beside their registers. -/
structure Clk where
  plls : Pll := {}
  /-- Failed attempts to lock PLL-V, and whether it waits for a rod reset or a device reset (R111). -/
  pllvFails : Nat := 0
  pllvFailed : Bool := false
  /-- PLL-V has lost lock or tripped its guard and is being relocked (R114, R115). -/
  pllvRelock : Bool := false
  /-- FRC_CAL has been set since the last POR (R106). -/
  frcEver : Bool := false
  /-- The LFXO is being tried (R107). -/
  lfTry : Bool := true
  /-- The HFXO has been started and is not yet stable (R108). -/
  hfxoStart : Bool := true
  dvfs : DvfsPhase := .idle
  point : Nat := 0
  /-- The point last written while a change was busy (R121). -/
  nextPoint : Nat := 0
  /-- An operating point is in force (R119, R122). -/
  inForce : Bool := false
  /-- The clock when the heartbeat's count last restarted (R101). -/
  hbSince : Nat := 0
deriving DecidableEq, Repr

/-- The wake inputs and the way out of TALLY (R126, R128). -/
structure Wake where
  /-- The levels of WAKE0–WAKE3, one bit each. -/
  levels : Nat := 0
  /-- A wake source has fired in TALLY and the return to RECKON runs. -/
  waking : Bool := false
  /-- TALLY is being entered: a wake source, or a fall of HL_CS_N, returns the device to RECKON at once (R128, R161). -/
  entering : Bool := false
  /-- Fault conditions met in TALLY, raised on the return to RECKON: code, param 1, param 2. -/
  faults : List (Nat × Nat × Nat) := []
  /-- The clock when the IDLE_HOLD count last restarted, and when TALLY was last entered (R123, R130). -/
  idleSince : Nat := 0
  tallySince : Nat := 0
deriving DecidableEq, Repr

/-- Background work beside its registers (R281 to R290): the next keep RAM word to scrub and the bursts since TALLY was entered;
of the FRC's and of the ADC's calibration whether it is due, the clock of the last one, and the die temperature that counts for the
next; the step of the FRC's trim that waits for a line boundary; the ADC's offset in codes and its gain; and of the last compensation
update the correction of the LF clock in 0.01 ppm (R322) and the die temperature that the bandgap's correction is for (R324). -/
structure Bg where
  keepPos : Nat := 0
  bursts : Nat := 0
  frcDue : Bool := false
  frcAt : Nat := 0
  frcDie : Option Int := none
  trimStep : Int := 0
  adcDue : Bool := true
  adcAt : Nat := 0
  adcDie : Option Int := none
  adcOffset : Rat := 0
  adcGain : Rat := 1
  corr : Int := 0
  gapDie : Option Int := none
deriving DecidableEq, Repr

/-- The rails beside their registers: the ramp setpoints in µV (R133), the two reasons for which VH's discharge switch is on,
and VM above its ceiling (R151). -/
structure Supply where
  vcoreUv : Nat := 0
  vhUv : Nat := 0
  /-- The switch is on until VH is below 1.0 V (R141, R143). -/
  vhEmpty : Bool := false
  /-- The switch is on until VH is within 1 % of its ramp setpoint (R137). -/
  vhOver : Bool := false
  /-- VCORE is in the soft start of R138. -/
  softStart : Bool := true
  vmHigh : Bool := false
  /-- DUMP timed out and stays released until VM has fallen to its release level (R154). -/
  dumpSpent : Bool := false
deriving DecidableEq, Repr

/-- The drive of a half-bridge. -/
inductive Hb where
  | z | low | high | pwm
deriving DecidableEq, Repr

/-- A 128-bit write window: the stored lanes, one mask bit each, and their words (R185). -/
structure Window where
  mask : Nat := 0
  w0 : Nat := 0
  w1 : Nat := 0
  w2 : Nat := 0
  w3 : Nat := 0
deriving DecidableEq, Repr

/-- A glyph pack (type 1) or logo (type 2) that RASTER can use, in SRAM or in the flash store (R341 to R348). -/
structure Res where
  ty : Nat
  id : Nat
  store : Bool
  addr : Nat
  len : Nat
deriving DecidableEq, Repr

/-- What a band slot holds beside its register: the RECEIPT, and the band's speed and darkness (R357). -/
structure Slot where
  tag : Option Nat := none
  seq : Nat := 0
  speed : Nat := 0
  dark : Nat := 0
deriving DecidableEq, Repr

/-- What the check pass of a RECEIPT began with: its tag, the registrations, the store's entries once they have been scanned, and the
lateral shift S (R348, R361). -/
structure CheckStart where
  tag : Nat
  table : List Res
  store : Option (List Res)
  shift : Int
deriving DecidableEq, Repr

/-- RASTER beside its registers. -/
structure Raster where
  /-- Registered SRAM resources, 32 at most (R347). -/
  table : List Res := []
  /-- Store entries in use (R345). -/
  store : List Res := []
  /-- The registration being checked (R347). -/
  checking : Option Res := none
  win : Window := {}
  slots : List Slot := [{}, {}, {}]
  begun : Option CheckStart := none
  /-- The offset of the script item that waits for FLASH in WAIT_FLASH (R327, R358). -/
  waitAt : Nat := 0
deriving DecidableEq, Repr

/-- Where a RECEIPT stands (R383, R385). -/
inductive Stage where
  /-- Bands render, and the first line has not been allowed yet. -/
  | render
  /-- The torn-band record is OPEN and lines fire. -/
  | print
  /-- Between two bands, the paper coming to rest or at rest. -/
  | rest
  /-- The last line has fired and the paper moves to the cutter or to rest. -/
  | out
  /-- CUT drives the blade for it. -/
  | cutting
  /-- Torn: it completes once the paper is at rest. -/
  | torn
deriving DecidableEq, Repr

/-- A RECEIPT from its check pass to its completion. -/
structure Job where
  tag : Nat
  canvas : Nat
  x0 : Int
  shift : Int
  bands : Nat
  /-- The resources as they stood when the check pass began (R348). -/
  res : List Res
  /-- The lines of each band that the check pass has formed, and the offset of the last item that draws in it (R355). -/
  plan : List (Nat × Nat) := []
  /-- Bands committed, and why rendering stopped if it did (R358). -/
  committed : Nat := 0
  failed : Option Nat := none
  leakOk : Bool := false
  stage : Stage := .render
  /-- Lines fired, late lines, and the band in print, counted from 1. -/
  lines : Nat := 0
  late : Nat := 0
  band : Nat := 0
  cause : Nat := 0
  linesBand : Nat := 0
  /-- The status of the failed-cut row that awaits the paper's rest, or the end of the cut under way (R217, R431). -/
  noCut : Option Nat := none
  /-- The event that runs has torn it: a lower cause of the same event takes the place of the first (R384). -/
  justTorn : Bool := false
  /-- The lateral shift and whether it found the head wet (R395). -/
  wet : Bool := false
deriving DecidableEq, Repr

/-- One pass of a line (R373 to R375): its groups as a mask, its dots with the index of their level, the levels, the
ends of its slices in ticks from the strobe, and the energy that a tick gives each head segment through the dots of each level, in
the unit of the ledger's counters (R372). -/
structure Pass where
  groups : Nat
  dots : List (Nat × Nat)
  levels : List Nat
  ends : List Nat
  power : List (Nat × Nat × Rat)
deriving DecidableEq, Repr

/-- The line in firing (R367): its passes, the pass and slice reached, and its line time in ticks. -/
structure Firing where
  dots : List Bool
  passes : List Pass
  pass : Nat := 0
  slice : Nat := 0
  strobed : Bool := false
  ticks : Nat
deriving DecidableEq, Repr

/-- A dry-out in progress (R396): the command it serves if any, its limit in seconds, and the clock at its start. -/
structure Dry where
  tag : Option Nat
  maxS : Nat
  since : Nat
deriving DecidableEq, Repr

/-- PRINT beside its registers. -/
structure Print where
  /-- The RECEIPTs whose check pass has begun, in order. -/
  jobs : List Job := []
  firing : Option Firing := none
  /-- The dots of the last line and of the one before it (R370). -/
  hist1 : List Bool := []
  hist2 : List Bool := []
  /-- Lines since the last VIN floor crossing (R376), and a crossing during the line in firing (R147). -/
  floorRun : Nat := 0
  floorLine : Bool := false
  /-- The band slot in print, the line of it that fires next, and lines that may still be triggered before the paper
  must stop, with the bands that follow without a stop (R383). -/
  slot : Nat := 0
  line : Nat := 0
  toTrigger : Nat := 0
  chained : Nat := 0
  /-- The band's period and the present period in ticks (R377, R378), its darkness, and the last line time. -/
  bandPeriod : Nat := 0
  period : Nat := 0
  dark : Nat := 0
  lastTicks : Nat := 0
  /-- The line period of the speed ceiling, in ticks (R381). -/
  ceiling : Nat := 0
  /-- The bits of the pattern latched last as HD_DI0 and HD_DI1 shifted them, the first one first (R364). -/
  shifted : List (List Bool) := []
  /-- Strobes that are asserted, one bit per group. -/
  strobes : Nat := 0
  /-- VH has been SETTLED since it last started (R390). -/
  vhSettled : Bool := false
  /-- The head is identified and probed without fault, and the last leakage measurement found it dry (R390). -/
  probed : Bool := false
  dryHead : Bool := false
  /-- Leakage at the last probe that found the head dry, × 10 µA (R394). -/
  baseline : Nat := 0
  /-- A HEAD_PROBE waits for its leakage measurement. -/
  probe : Option Nat := none
  dry : Option Dry := none
  /-- A head recheck is due, or runs (R291 to R293). -/
  recheckDue : Bool := false
  recheck : Bool := false
  /-- The clock when the last RECEIPT completed (R292). -/
  lastReceipt : Nat := 0
deriving DecidableEq, Repr

/-- What FEED does with the paper (R416 to R425). -/
inductive FeedJob where
  | none
  /-- Runs for a RECEIPT's bands; no target. -/
  | lines
  /-- Runs to `target`. -/
  | target
  /-- Stops at DECEL with no target (R421). -/
  | stop
  /-- Returns behind a band's first line (R422). -/
  | back
deriving DecidableEq, Repr

/-- The AUX output (R402). -/
inductive AuxPhase where
  | off | pull | hold | release
deriving DecidableEq, Repr

/-- FEED beside its registers. -/
structure Feed where
  job : FeedJob := .none
  /-- The motion waits out REV_DWELL_MS before it starts in the other direction (R420). -/
  dwell : Bool := false
  /-- The MOVE_PAPER or MOTOR_CHECK that runs. -/
  tag : Option Nat := none
  /-- The position, the move's start and its target, unwrapped (R410), and the move's speed limit in mm/s. -/
  pos : Int := 0
  start : Int := 0
  target : Int := 0
  limit : Nat := 0
  /-- The status a stopping MOVE_PAPER ends with (R425), and IGNORE_PAPER. -/
  status : Nat := 0
  ignorePaper : Bool := false
  /-- The divider's accumulator (R413), and the position at the last line trigger. -/
  acc : Int := 0
  lastTrig : Int := 0
  /-- The always-on brake path has the bridges until BRAKE_HOLD_END (R32). -/
  onBrake : Bool := false
  /-- The levels of ENC_A and ENC_B, A in bit 0 (R408). -/
  encAB : Nat := 0
  /-- Intervals between the last counts in ticks, newest first, and the direction of the last count (R411). -/
  intervals : List Nat := []
  lastDir : Int := 0
  /-- The clock of the last valid interval (R411). -/
  lastCount : Nat := 0
  /-- Serial feedback: the last position and the frame errors in a row (R409). -/
  serial : Option Nat := none
  serialErrs : Nat := 0
  /-- Hall (R405, R406): the last valid place in the order, the last six intervals in ticks, edges or full steps since a
  start or a change of direction, invalid events in a row, and the sector that is driven. -/
  hallPlace : Option Nat := none
  hallTicks : List Nat := []
  hallDir : Int := 0
  steps : Nat := 0
  hallBad : Nat := 0
  sector : Nat := 0
  /-- Microsteps issued, unwrapped, whose angle modulo four full steps is θ (R404); their count at the last line trigger;
  and those still due for the line triggers (R417). -/
  theta : Int := 0
  lastTheta : Int := 0
  due : Nat := 0
  /-- The current command in mA, after FEED's limits (R403, R419). -/
  current : Int := 0
  /-- The stepper's winding currents in mA (R404). -/
  windA : Int := 0
  windB : Int := 0
  /-- The speed setpoint and the position loop's correction, in µm/s (R403, R416). -/
  setUm : Int := 0
  corrUm : Int := 0
  /-- POS_OUT's state, 0 to 3 (R415). -/
  posOut : Nat := 0
  aux : AuxPhase := .off
  /-- The drive of HB0 to HB3 (R400). -/
  hb : List Hb := [.z, .z, .z, .z]
deriving DecidableEq, Repr

/-- What follows the 5 ms brake of the cutter (R432, R433). -/
inductive CutNext where
  | back | jamBack | finish | stay
deriving DecidableEq, Repr

/-- CUT beside its registers. -/
structure Cutter where
  /-- The CUT, HOME or RECEIPT command that is served, and whether it is a RECEIPT's cut. -/
  tag : Option Nat := none
  receipt : Bool := false
  partialCut : Bool := false
  isCut : Bool := false
  /-- The cut goes on to its forward drive once the blade is home; the drive back follows a jam. -/
  thenCut : Bool := false
  jammed : Bool := false
  next : CutNext := .finish
  reversals : Nat := 0
  since : Nat := 0
  cause : Nat := 0
  /-- CUT_HOME has gone inactive in the present forward drive. -/
  left : Bool := false
  /-- The blade is to be homed before CUT is READY (R434). -/
  needHome : Bool := false
  /-- The duty LOOP last delivered, in ‰ (R443), and the drive of HB4 and HB5. -/
  duty : Int := 0
  hb : List Hb := [.z, .z]
deriving DecidableEq, Repr

/-- What one stage of a loop keeps between samples, in Q8.24 (R451, R452). -/
structure StageSt where
  i : Int := 0
  d : Int := 0
  e1 : Int := 0
  a1 : Int := 0
  a2 : Int := 0
  b1 : Int := 0
  y1 : Int := 0
  y2 : Int := 0
deriving DecidableEq, Repr

/-- A loop of the Reckoner beside its registers: the coefficients in use and their shadow (R460), the state of its stages,
whether the next sample is its first since activation (R452), the sign of R453, and the supervision timers (R456, R457). -/
structure LoopSt where
  coef : List (List Int) := []
  shadow : List (List Int) := []
  stages : List StageSt := []
  first : Bool := true
  pinned : Int := 0
  feTicks : Nat := 0
  oscSign : Int := 0
  oscMag : Rat := 0
  /-- The ages of the counted reversals in ticks. -/
  reversals : List Nat := []
  /-- The output delivered last and one that waits for its delivery (R455), in client units. -/
  delivered : Int := 0
  waiting : Option Int := none
deriving DecidableEq, Repr

/-- LOOP beside its registers. -/
structure Loops where
  loops : List LoopSt := [{}, {}, {}, {}]
  win : Window := {}
  /-- Loops named by the last APPLY that are not dealt with yet (R461). -/
  named : Nat := 0
deriving DecidableEq, Repr

/-- An entry of the thermal action table in work (R311, R312): whether it is crossed, and the clock when it last became
crossed. -/
structure ThermEntry where
  crossed : Bool := false
  since : Nat := 0
deriving DecidableEq, Repr

/-- A temperature source (R303 to R320): its samples as (clock, 0.1 °C), newest first; the samples in range in a row since
its mark; and the episode on it, if one is open: its start, highest action and peak. -/
structure ThermSrc where
  samples : List (Nat × Int) := []
  good : Nat := 0
  episode : Option (Nat × Nat × Int) := none
deriving DecidableEq, Repr

/-- THERM beside its registers: its entries and sources, and whether a monitor sample has been taken since THERM last became READY or
TALLY was left, before which no action changes (R314, R321). -/
structure Therm where
  mon : Bool := false
  entries : List ThermEntry := []
  srcs : List ThermSrc := [{}, {}, {}, {}, {}, {}]
deriving DecidableEq, Repr


/-- A descriptor as a channel has read it (R227). -/
structure Desc where
  src : Nat := 0
  dst : Nat := 0
  len : Nat := 0
  count : Nat := 0
  srcStride : Int := 0
  dstStride : Int := 0
  fill : Bool := false
  irq : Bool := false
deriving DecidableEq, Repr

/-- A MOVER channel beside its registers: its MOVE, the ECC mode that the MOVE asks for (R239), the descriptor in progress,
the descriptors ended, whether a destination byte of the chain has been written, and the first poisoned descriptor (R240); and
whether the flash has been erasing or programming, without suspend, ever since the descriptor was started (R232, R261). -/
structure Chan where
  tag : Option Nat := none
  poison : Bool := false
  desc : Desc := {}
  ended : Nat := 0
  wrote : Bool := false
  poisonAt : Option Nat := none
  stuck : Bool := false
deriving DecidableEq, Repr

/-- A frame record (R479): SEQ, the time of the frame start, the tap slots (31 for none), HELD, the mean Y′, and the exposure
and gain in force for the frame. -/
structure FrameRec where
  seq : Nat
  time : Nat
  e : Nat
  s : Nat
  held : Bool
  mean : Nat
  exp : Nat
  gain : Nat
deriving DecidableEq, Repr

/-- VIDIN beside its registers. -/
structure Vid where
  /-- The session's tap sizes (0 for a disabled tap), crop window, flags and SKIP (R482). -/
  eW : Nat := 0
  eH : Nat := 0
  sW : Nat := 0
  sH : Nat := 0
  cropX : Nat := 0
  cropY : Nat := 0
  cropW : Nat := 0
  cropH : Nat := 0
  frameEv : Bool := false
  hostHold : Bool := false
  skip : Nat := 0
  /-- Frame starts of the session, the frames that entered the pipeline, and the slots written last (R478). -/
  starts : Nat := 0
  seq : Nat := 0
  lastE : Option Nat := none
  lastS : Option Nat := none
  /-- The frame in progress: whether it enters the pipeline, its slots being filled, its start in µs of VIDIN.TIME and by the clock, the exposure and gain
  in force for it, and whether a tap dropped its output. -/
  inFrame : Bool := false
  piped : Bool := false
  fillE : Option Nat := none
  fillS : Option Nat := none
  time : Nat := 0
  start : Nat := 0
  exp : Nat := 0
  gain : Nat := 0
  dropped : Bool := false
  /-- What the sensor was last given, and a host write of EXPOSURE that it has not been given yet (R476). -/
  sensExp : Nat := 0
  sensGain : Nat := 0
  expDue : Bool := false
  /-- The frame records, oldest first (R479). -/
  fifo : List FrameRec := []
  /-- The CAPTURE_START, CAPTURE_STOP and RENEGOTIATE that run, and the session's frames recorded and dropped (R484). -/
  openTag : Option Nat := none
  stopTag : Option Nat := none
  renegTag : Option Nat := none
  recorded : Nat := 0
  drops : Nat := 0
deriving DecidableEq, Repr

/-- SCAN beside its registers: its command and mask, the frame it examines as slot and SEQ, the newest frame it has not
examined, and the frames examined (R489). -/
structure ScanSt where
  tag : Option Nat := none
  mask : Nat := 0
  cur : Option (Nat × Nat) := none
  cand : Option (Nat × Nat) := none
  frames : Nat := 0
deriving DecidableEq, Repr

/-- A source frame that ENC holds (R498): its tap E slot, SEQ, and the frame start in µs of VIDIN.TIME and by the clock. -/
structure EncFrame where
  slot : Nat
  seq : Nat
  time : Nat
  start : Nat
deriving DecidableEq, Repr

/-- ENC beside its registers. -/
structure Enc where
  /-- The stream (R497). -/
  w : Nat := 0
  h : Nat := 0
  vbr : Bool := false
  sweep : Nat := 1
  decim : Nat := 1
  level : Nat := 0
  sliceMax : Nat := 0
  /-- Frames considered since the stream opened, the frame that is encoded and the one that waits (R498). -/
  seen : Nat := 0
  cur : Option EncFrame := none
  wait : Option EncFrame := none
  /-- The frame that is encoded: its next macroblock, whether it is an IDR picture, carries parameter sets, or is the first
  after PAUSED; its QP and its bytes. -/
  nextMb : Nat := 0
  idr : Bool := false
  params : Bool := false
  resumed : Bool := false
  qp : Nat := 0
  bytes : Nat := 0
  /-- What the next frame is to be (R499, R503, R504): frame 0 of a new sweep, an IDR picture, the first after PAUSED. -/
  newSweep : Bool := false
  idrDue : Bool := false
  resume : Bool := false
  /-- The sweep frame of the next frame, the QP of the last frame, and the store of the next reconstruction. -/
  pos : Nat := 0
  lastQp : Option Nat := none
  store : Nat := 0
  /-- Lent buffers and pending REFRESH commands in order, and the STREAM_CLOSE that runs. -/
  lent : List Nat := []
  refresh : List Nat := []
  closeTag : Option Nat := none
  /-- The clock at the start of the frame encoded last, the bucket, its DRAIN in kbit/s and size B in bits (R509, R510). -/
  lastStart : Option Nat := none
  fill : Rat := 0
  drain : Nat := 0
  size : Nat := 0
  encoded : Nat := 0
  skipped : Nat := 0
deriving DecidableEq, Repr

/-- DEC beside its registers. -/
structure Dec where
  /-- The stream's largest size, and the DECODE_AU commands accepted, oldest first, with HOLD (R513, R515). -/
  w : Nat := 0
  h : Nat := 0
  queue : List (Nat × Bool) := []
  /-- The buffer of the access unit being decoded, the one last written, and the reference (R514). -/
  cur : Option Nat := none
  last : Option Nat := none
  ref : Option Nat := none
  /-- Pictures left of the recovery period in progress (R519), and an access unit behind the one in work has been lost to
  SHED_CODEC. -/
  period : Option Nat := none
  lossDue : Bool := false
  pictures : Nat := 0
  concealed : Nat := 0
  closeTag : Option Nat := none
deriving DecidableEq, Repr

/-- A shock in progress (R538): its peak in mg and the axis of it, the samples since the first that reached the threshold,
the number of the last one that did, and the samples in a row below three quarters of it. -/
structure Shock where
  peak : Nat
  axis : Nat
  n : Nat
  last : Nat
  quiet : Nat
deriving DecidableEq, Repr

/-- The accelerometer (R536 to R539): its initialisation has been done, the reads in a row that were not acknowledged, and
the shock in progress. -/
structure Accel where
  ready : Bool := false
  nacks : Nat := 0
  shock : Option Shock := none
deriving DecidableEq, Repr

/-- The image that is being verified (R55): a boot slot, with the slots still to try and whether the journal named it; a
pushed image at an SRAM address; or the partial image of a command. -/
inductive Verify where
  | none
  | slot (k : Nat) (rest : List Nat) (named : Bool)
  | push (addr : Nat)
  | partialImg (tag : Nat)
deriving DecidableEq, Repr

/-- A partial apply in steps 2 to 5 of R68: its command, its target rods, those that have finished step 5 and of these
those that reported READY, one bit each, and the clock at step 2. -/
structure Apply where
  tag : Nat
  targets : Nat
  done : Nat
  ok : Nat
  since : Nat
deriving DecidableEq, Repr

/-- The frame image in force and the image in work (R55 to R75). -/
structure Img where
  /-- The beads in force: of every rod, those that are defined and have no cause. -/
  beads : List Bead := []
  /-- The numbers of the beads that the sections in force carry. -/
  carried : List Nat := []
  /-- The bead causes in force (R72, R73): bead number and cause. -/
  causes : List (Nat × Nat) := []
  /-- The structural hash of the running FULL image (R52), and its FREEZE_SUBJECT. -/
  structHash : List Nat := []
  subject : Bool := false
  verify : Verify := .none
  apply : Option Apply := none
deriving DecidableEq, Repr

/-- A record in the ledger's append buffer (R274). -/
structure LedBuf where
  ty : Nat
  on : Nat
  payload : List Nat
deriving DecidableEq, Repr

/-- A compaction that erases (R295): the sector under erase, and whether an oldest sector has been taken. -/
structure Compaction where
  sector : Nat
  oldest : Bool
deriving DecidableEq, Repr

/-- LEDGER beside its registers: the append buffer and the accumulators (R274, R276), and whether one has changed since the last
DELTA (R277); the committed totals; on time in µs (R278) with the fraction that the correction of R322 has left over, in 10⁻⁸ µs, and
whether it resumes at the mount; the erase table (R296); the open sector with its last SSEQ and the offset of the next record; and
the compaction that erases. -/
structure Ledger where
  buf : List LedBuf := []
  acc : Store Rat := []
  changed : Bool := false
  base : Store Nat := []
  onUs : Nat := 0
  onFrac : Int := 0
  resume : Bool := true
  erases : List Nat := List.replicate 16 0
  sector : Option Nat := none
  sseq : Nat := 0
  off : Nat := 0
  compact : Option Compaction := none
deriving DecidableEq, Repr

/-- A SLOT_ERASE or SLOT_WRITE in progress (R268): its command, the slot, whether it erases, and the sectors erased or the
bytes programmed so far. -/
structure SlotJob where
  tag : Nat
  slot : Nat
  erase : Bool
  did : Nat
deriving DecidableEq, Repr

/-- FLASH beside its registers: the installed size in MiB, as its last negotiation found it, 0 where it found none (R256, R260);
the read modes that the flash carries, one bit per code (R256, R257); the slot command in progress; the pages programmed since
their slot's erase, by flash offset / 256; and the slot whose SLOT_ERASE or SLOT_WRITE a rod reset has cut short, or 0 (R266). -/
structure Flash where
  size : Nat := 0
  modes : Nat := 0
  job : Option SlotJob := none
  pages : List Nat := []
  broken : Nat := 0
deriving DecidableEq, Repr

/-- The state of the MB7140. A register is a word of `regs`; what a register only shows of something else is computed when it
is read (`Access`). -/
structure State where
  /-- The part, AV or AP (R4, R5). -/
  part : Part := .av
  /-- The operating mode (R37), RECKON and CARRY as one. -/
  base : Base := .run
  boot : Boot := {}
  /-- The model's own: microseconds since the first power-up (DESIGN CHOICE, log entry 1). -/
  clock : Nat := 0
  /-- The register file, by host address (R16); unlisted words are 0. -/
  regs : Store Word := resetWords
  /-- Main SRAM (R16, 6 MiB) by offset; unlisted bytes are 0 (DEDUCED, log entry 6). -/
  sram : Store Byte := []
  /-- Keep RAM (R255) by offset; unlisted bytes are 0. -/
  keep : Store Byte := []
  /-- The flash chip by offset; unlisted bytes are 0xFF, the erased value. -/
  flash : Store Byte := []
  /-- Protected words of main SRAM with an uncorrectable error, and with a correctable one (R253). -/
  sramUe : List Nat := []
  sramCe : List Nat := []
  /-- The same of keep RAM (R254). -/
  keepUe : List Nat := []
  keepCe : List Nat := []
  otp : Otp := {}
  img : Img := {}
  /-- The commands in flight, oldest first: each holds a tag (R211). -/
  cmds : List Cmd := []
  /-- Queue pairs 0 to 15 beside their registers. -/
  queues : List Queue := List.replicate 16 {}
  /-- The pair that is looked at first at the next fetch (R210). -/
  fetchNext : Nat := 1
  /-- The faults present, oldest first (R525). -/
  faults : List FaultRec := []
  /-- When each fault was last recorded in the ledger, by code (R540). -/
  faultLog : List (Nat × Nat) := []
  led : Ledger := {}
  fl : Flash := {}
  clk : Clk := {}
  wake : Wake := {}
  sup : Supply := {}
  bg : Bg := {}
  therm : Therm := {}
  raster : Raster := {}
  print : Print := {}
  feed : Feed := {}
  cut : Cutter := {}
  loops : Loops := {}
  /-- MOVER's sixteen channels beside their registers. -/
  chans : List Chan := List.replicate 16 {}
  vid : Vid := {}
  scan : ScanSt := {}
  enc : Enc := {}
  dec : Dec := {}
  accel : Accel := {}
  /-- The bytes that the MB7140 sent in the last host link transaction, from the status byte on (R164). -/
  reply : List Nat := []
  /-- The model's own: how many free values have been taken (log entry 54). -/
  free : Nat := 0
  /-- The model's own: the commands that wait, first in, first out (log entry 3). -/
  pending : List Instr := []
deriving DecidableEq, Repr

/-- The machine right after reset. The vendor key hash is in OTP, since an image that the vendor signs loads on every part
(R49). DESIGN CHOICE (log entries 4 and 5): the part, the rest of OTP, the flash contents, and the fields for which the spec
gives no reset value. -/
def State.reset : State := { otp := { vendorKey := some Config.vendorHash } }

end Sys2Proof.Machine
end

