-- ==== Sys2Proof/Machine/Ops.lean ====
section
/-! DEFINITION. The named operations every meaning is written with: register fields, vectors and events, memory with
its error correction, commands in flight and their completions, the ledger's buffer and accumulators, and the mode. -/

namespace Sys2Proof.Machine

/-! ### Registers and fields -/

/-- The word that the register file holds for the register at host address `a`. -/
def State.reg (s : State) (a : Nat) : Word := Store.get 0 s.regs a

/-- The register file with word `w` at host address `a`. -/
def State.setReg (s : State) (a : Nat) (w : Word) : State := { s with regs := Store.set 0 s.regs a w }

/-- The bits `lo` up to `lo + wid` of a word, as a number. -/
def field (w : Word) (lo wid : Nat) : Nat := w.toNat / 2 ^ lo % 2 ^ wid

/-- A word with the bits `lo` up to `lo + wid` replaced by the low `wid` bits of `v`. -/
def putField (w : Word) (lo wid v : Nat) : Word :=
  BitVec.ofNat 32 (w.toNat - field w lo wid * 2 ^ lo + v % 2 ^ wid * 2 ^ lo)

/-- The value of a register field. -/
def State.rd (s : State) (f : Fld) : Nat := field (s.reg f.addr) f.lo f.wid

/-- The state with a register field set. -/
def State.wr (s : State) (f : Fld) (v : Nat) : State := s.setReg f.addr (putField (s.reg f.addr) f.lo f.wid v)

/-- The signed value of a register field. -/
def State.rdI (s : State) (f : Fld) : Int := ofBits f.wid (s.rd f)

/-- The state with a register field set to a signed value. -/
def State.wrI (s : State) (f : Fld) (v : Int) : State := s.wr f (toBits f.wid v)

/-- A one-bit field, or any field, read as a flag. -/
def State.flag (s : State) (f : Fld) : Bool := s.rd f != 0

/-- The state with a flag set or cleared. -/
def State.wrB (s : State) (f : Fld) (b : Bool) : State := s.wr f (bit b)

/-- A saturating counter field advanced by `n`. -/
def State.bump (s : State) (f : Fld) (n : Nat := 1) : State := s.wr f (satAdd (2 ^ f.wid - 1) (s.rd f) n)

/-- Bit `i` of a field. -/
def State.rdBit (s : State) (f : Fld) (i : Nat) : Bool := (s.rd f).testBit i

/-- The state with bit `i` of a field set or cleared. -/
def State.wrBit (s : State) (f : Fld) (i : Nat) (b : Bool) : State :=
  let v := s.rd f
  s.wr f (if b then v ||| 2 ^ i else v - (v &&& 2 ^ i))

/-- Two fields share no bit. -/
def Fld.apart (f g : Fld) : Bool := f.addr != g.addr || decide (f.lo + f.wid ≤ g.lo) || decide (g.lo + g.wid ≤ f.lo)

/-! ### Parts, rods, modes -/

/-- The rods absent from the AP part (R4). -/
def Part.absent (p : Part) (r : Rod) : Bool :=
  p == .ap && (r == .vidin || r == .enc || r == .dec || r == .scan)

/-- The rod is on the part. -/
def State.has (s : State) (r : Rod) : Bool := !s.part.absent r

/-- The rod reports READY (R87). -/
def State.ready (s : State) (r : Rod) : Bool := s.rdBit CORE.ROD_READY_READY r.idx

/-- A command that engages or waits for one of `rs` is in flight. -/
def State.queuedFor (s : State) (rs : List Rod) : Bool := s.cmds.any fun c => c.rods.any fun r => rs.contains r

/-- Work of PRINT, FEED, CUT, VIDIN, ENC, DEC or SCAN is running or queued (R37). -/
def State.carrying (s : State) : Bool :=
  s.queuedFor [.print, .feed, .cut, .vidin, .enc, .dec, .scan] ||
  s.flag PRINT.STAT_STATE || [1, 2, 4, 5].contains (s.rd FEED.STAT_STATE) || [1, 2, 3, 4].contains (s.rd CUT.STAT_STATE) ||
  s.flag VIDIN.STAT_SESSION || s.flag ENC.STAT_STATE || s.flag DEC.STAT_STATE || s.flag SCAN.STAT_STATE

/-- CORE.MODE.MODE: 0 CLEARED, 1 TALLY, 2 RECKON, 3 CARRY, 4 HELD (R37). -/
def State.mode (s : State) : Nat :=
  match s.base with
  | .cleared => 0
  | .tally => 1
  | .run => if s.carrying then 3 else 2
  | .held => 4

/-- The core domain is in reset or without power (R76). -/
def State.inReset (s : State) : Bool := s.boot.off || s.boot.pinLow

/-- The core domain runs in RECKON, CARRY or HELD. -/
def State.awake (s : State) : Bool := !s.inReset && (s.base == .run || s.base == .held)

/-- The host link executes transactions (R160): LINK is READY, in RECKON, CARRY or HELD, and the bank HL has its supply
(R543). -/
def State.linkOn (s : State) : Bool := s.awake && s.ready .link && s.rdBit CORE.IO_STAT_PRESENT 0

/-- The link is in TRAINING or TRAIN_FAIL, where it executes TRAIN alone (R174). -/
def State.untrained (s : State) : Bool := s.rd LINK.AGREED_STATE == 2 || s.rd LINK.AGREED_STATE == 4

/-- A link error is recorded and counted (R193). -/
def State.linkErr (s : State) (f : Fld) : State := (s.wr f 1).bump LINK.ERR_COUNT_COUNT

def State.setWake (s : State) (f : Wake → Wake) : State := { s with wake := f s.wake }

/-- The IDLE_HOLD count restarts from the full time (R124, R130). -/
def State.idleRestart (s : State) : State := s.setWake fun w => { w with idleSince := s.clock }

/-- The rod is a target of a partial apply that has not finished with it (steps 2 to 5 of R68). -/
def State.inApply (s : State) (r : Rod) : Bool := s.img.apply.any fun a => a.targets.testBit r.idx && !a.done.testBit r.idx

/-- A rod does not take register writes now (R188): it is in steps 2 to 5 of a partial apply, or in a rod reset. -/
def State.writesBlocked (s : State) (r : Rod) : Bool := s.boot.resetting.testBit r.idx || s.inApply r

/-- The device runs in RECKON or CARRY. -/
def State.running (s : State) : Bool := !s.inReset && s.base == .run

/-! ### Vectors and events -/

/-- An event sets vector `v`, while its enable bit is 1 (R218); vectors of absent rods never assert (R4). -/
def State.vec (s : State) (v : Nat) : State :=
  if s.rdBit VEC.ENABLE_ENABLE v && !(s.part == .ap && 27 ≤ v && v ≤ 30) then s.wrBit VEC.PENDING_PENDING v true else s

/-- The vector of a rod (R20). -/
def State.rodVec (s : State) (r : Rod) : State := s.vec (16 + r.idx)

/-- An event bit that becomes set asserts its rod's vector. -/
def State.evt (s : State) (f : Fld) (r : Rod) : State := if s.flag f then s else (s.wr f 1).rodVec r

/-- As `evt`, for one bit of a wider event field. -/
def State.evtBit (s : State) (f : Fld) (i : Nat) (r : Rod) : State :=
  if s.rdBit f i then s else (s.wrBit f i true).rodVec r

/-- Vector `q` of a completion queue is set, which resets its count and so stops its timer (R219). -/
def State.queueVec (s : State) (q : Nat) : State :=
  { s.vec q with queues := s.queues.modify q fun x => { x with count := 0 } }

/-- A bank of signal balls has its VIO supply (R542): 0 HL, 1 FL, 2 HD, 3 MX, 4 CAM. -/
def State.bank (s : State) (b : Nat) : Bool := s.rdBit CORE.IO_STAT_PRESENT b

/-- The interrupt pins that are driven low, one bit each (R220). -/
def State.irqPins (s : State) : Nat :=
  if s.awake && s.bank 0 then
    let p := s.rd VEC.PENDING_PENDING
    bit (p &&& s.rd VEC.PINMASK0_MASK != 0) + 2 * bit (p &&& s.rd VEC.PINMASK1_MASK != 0) +
      4 * bit (p &&& s.rd VEC.PINMASK2_MASK != 0) + 8 * bit (p &&& s.rd VEC.PINMASK3_MASK != 0)
  else 0

/-! ### Memory -/

/-- The two memories with error correction (R251, R254). -/
inductive Ram where
  | sram | keep
deriving DecidableEq, Repr

/-- Bytes in one protected word: 16 in main SRAM (R23), 4 in keep RAM (R254). -/
def Ram.word : Ram → Nat
  | .sram => 16
  | .keep => 4

/-- The host address of a memory's first byte (R16). -/
def Ram.base : Ram → Nat
  | .sram => 0
  | .keep => 0x08000000

/-- Bytes in the memory (R16). -/
def Ram.size : Ram → Nat
  | .sram => 0x600000
  | .keep => 0x10000

/-- The stored bytes; an unlisted byte is 0, which the fill after a POR leaves (R78). -/
def State.cells (s : State) : Ram → Store Byte
  | .sram => s.sram
  | .keep => s.keep

/-- The memory's bytes replaced. -/
def State.setCells (s : State) (m : Ram) (c : Store Byte) : State :=
  match m with
  | .sram => { s with sram := c }
  | .keep => { s with keep := c }

/-- Words that hold an uncorrectable error (R253), by index. -/
def State.ue (s : State) : Ram → List Nat
  | .sram => s.sramUe
  | .keep => s.keepUe

/-- Words that hold a correctable error (R253), by index. -/
def State.ce (s : State) : Ram → List Nat
  | .sram => s.sramCe
  | .keep => s.keepCe

/-- A word's error marks cleared: new check bits were stored (R252). -/
def State.clearEcc (s : State) (m : Ram) (w : Nat) : State :=
  match m with
  | .sram => { s with sramUe := s.sramUe.filter (· != w), sramCe := s.sramCe.filter (· != w) }
  | .keep => { s with keepUe := s.keepUe.filter (· != w), keepCe := s.keepCe.filter (· != w) }

/-- One byte as stored, offset `a` within its memory. -/
def State.byte (s : State) (m : Ram) (a : Nat) : Nat := (Store.get 0 (s.cells m) a).toNat

/-- `n` bytes as stored. -/
def State.bytes (s : State) (m : Ram) (a : Nat) : Nat → List Nat
  | 0 => []
  | n + 1 => s.byte m a :: s.bytes m (a + 1) n

/-- Offsets of keep RAM whose contents are the MB7140's own and not laid out (R255): the wake state, the reserved range but
the telemetry ring of R298, and the append buffer. -/
def keepOpen (o : Nat) : Bool := o < 0x100 || (0x120 ≤ o && o < 0x200) || (0x600 ≤ o && o < 0xC000)

/-- `n` bytes as a reader outside their owner sees them. -/
def State.seenBytes (s : State) (m : Ram) (a n : Nat) : List Nat :=
  match m with
  | .sram => s.bytes .sram a n
  | .keep => (List.range n).map fun i => if keepOpen (a + i) then Config.keepByte s.free (a + i) % 256 else s.byte .keep (a + i)

/-- Bytes put in a store one after another. -/
def putBytes (c : Store Byte) (a : Nat) : List Nat → Store Byte
  | [] => c
  | b :: bs => putBytes (Store.set 0 c a (BitVec.ofNat 8 b)) (a + 1) bs

/-- Bytes stored without an error check. -/
def State.poke (s : State) (m : Ram) (a : Nat) (bs : List Nat) : State := s.setCells m (putBytes (s.cells m) a bs)

/-- The counter fields of CORE.ECC_CE and CORE.ECC_UE. -/
def Ram.ceFld : Ram → Fld
  | .sram => CORE.ECC_CE_SRAM
  | .keep => CORE.ECC_CE_KEEP
def Ram.ueFld : Ram → Fld
  | .sram => CORE.ECC_UE_SRAM
  | .keep => CORE.ECC_UE_KEEP

/-- The check that every read of a protected word makes (R253): a correctable error is counted, an uncorrectable one is
counted, its word's address recorded and vector 16 asserted. -/
def State.checkWord (s : State) (m : Ram) (w : Nat) : State :=
  if (s.ue m).contains w then ((s.bump m.ueFld).wr CORE.ECC_LAST_ADDR (m.base + m.word * w)).rodVec .core
  else if (s.ce m).contains w then s.bump m.ceFld
  else s

/-- The indexes of the protected words that `len` bytes at `a` touch. -/
def Ram.words (m : Ram) (a len : Nat) : List Nat :=
  if len = 0 then [] else (List.range ((a + len - 1) / m.word - a / m.word + 1)).map (· + a / m.word)

/-- The first uncorrectable word that `len` bytes at `a` touch. -/
def State.badWord (s : State) (m : Ram) (a len : Nat) : Option Nat := (m.words a len).find? fun w => (s.ue m).contains w

/-- A checked read: the state with the errors counted, and the bytes as stored. -/
def State.readMem (s : State) (m : Ram) (a len : Nat) : State × List Nat :=
  ((m.words a len).foldl (fun s w => s.checkWord m w) s, s.bytes m a len)

/-- The part of one protected word that a write covers (R252): a whole word stores new check bits; a partial one is
read, corrected or refused, and merged. -/
def State.writeWord (s : State) (m : Ram) (a : Nat) (bs : List Nat) (w : Nat) : State :=
  let lo := max a (m.word * w)
  let hi := min (a + bs.length) (m.word * w + m.word)
  let part := (bs.drop (lo - a)).take (hi - lo)
  if hi - lo = m.word then (s.poke m lo part).clearEcc m w
  else if (s.ue m).contains w then s.checkWord m w
  else ((s.checkWord m w).poke m lo part).clearEcc m w

/-- A checked write, word by word (R252). -/
def State.writeMem (s : State) (m : Ram) (a : Nat) (bs : List Nat) : State :=
  (m.words a bs.length).foldl (fun s w => s.writeWord m a bs w) s

/-- A word that a write of `len` bytes at `a` covers only in part and that holds an uncorrectable error. -/
def State.writeBad (s : State) (m : Ram) (a len : Nat) : Bool :=
  (m.words a len).any fun w => (s.ue m).contains w && !(a ≤ m.word * w && m.word * w + m.word ≤ a + len)

/-- A 32-bit little-endian word as stored. -/
def State.word32 (s : State) (m : Ram) (a : Nat) : Nat := leNat (s.bytes m a 4)

/-- `n` bytes of flash as stored; an erased byte is 0xFF. -/
def State.flashBytes (s : State) (a : Nat) : Nat → List Nat
  | 0 => []
  | n + 1 => (Store.get 0xFF s.flash a).toNat :: s.flashBytes (a + 1) n

/-- Flash bytes programmed: bits only fall from 1 to 0 (R265). -/
def State.flashProgram (s : State) (a : Nat) : List Nat → State
  | [] => s
  | b :: bs =>
    let old := (Store.get 0xFF s.flash a).toNat
    State.flashProgram { s with flash := Store.set 0xFF s.flash a (BitVec.ofNat 8 (old &&& b)) } (a + 1) bs

/-- The flash erases or programs and suspends nothing, so that a read waits (R261). -/
def State.flashHeld (s : State) : Bool := s.flag FLASH.STAT_BUSY && !s.flag FLASH.STAT_SUSPEND

/-- A read of flash: where the flash erases or programs, the operation is suspended for it, and FLASH.SUSPENDS counts that (R261). -/
def State.flashRead (s : State) : State :=
  if s.flag FLASH.STAT_BUSY && s.flag FLASH.STAT_SUSPEND then s.bump FLASH.SUSPENDS_COUNT else s

/-- A range of flash erased to 0xFF. -/
def State.flashErase (s : State) (a len : Nat) : State :=
  { s with flash := s.flash.filter fun c => c.1 < a || a + len ≤ c.1 }

/-! ### The bank map (R26, R251) -/

/-- Bytes of one bank. -/
def bankSize : Nat := 0x80000

/-- The owner byte of bank `n` in force: SHARED until a FULL image is applied (R251). -/
def State.bankByte (s : State) (n : Nat) : Nat :=
  let f : Fld := ⟨CORE.BANK_MAP0_OWNER_A.addr + 4 * (n / 4), 8 * (n % 4), 8⟩
  s.rd f

/-- The rod that owns bank `n`; none for SHARED, which a bank of an absent rod acts as (R251). -/
def State.bankOwner (s : State) (n : Nat) : Option Rod :=
  match Rod.ofNat? (s.bankByte n) with
  | some r => if s.has r then some r else none
  | none => none

/-- The suppliers of each rod (R32), of every kind. -/
def suppliers : Rod → List Rod
  | .print => [.raster, .supply, .therm, .feed, .mover, .core]
  | .raster => [.flash, .mover, .core]
  | .feed => [.loop, .supply, .mover, .core]
  | .cut => [.loop, .mover, .core]
  | .enc => [.vidin, .mover, .core]
  | .scan => [.vidin, .mover, .core]
  | .ledger => [.flash, .mover, .core]
  | .core => []
  | .link => [.core]
  | .flash => [.core]
  | .mover => [.core]
  | _ => [.mover, .core]

/-- The banks that `len` bytes at SRAM address `a` touch. -/
def banksOf (a len : Nat) : List Nat :=
  if len = 0 then [] else (List.range ((a + len - 1) / bankSize - a / bankSize + 1)).map (· + a / bankSize)

/-- A range lies in main SRAM. -/
def inSram (a len : Nat) : Bool := a + len ≤ 0x600000

/-- A range lies in SRAM and wholly in SHARED banks. -/
def State.inShared (s : State) (a len : Nat) : Bool := inSram a len && (banksOf a len).all fun b => s.bankOwner b == none

/-- A rod's engines may read the range (R26). -/
def State.mayRead (s : State) (r : Rod) (a len : Nat) : Bool :=
  inSram a len && (banksOf a len).all fun b =>
    match s.bankOwner b with
    | none => true
    | some o => o == r || (suppliers r).contains o

/-- A rod's engines may write the range (R26). -/
def State.mayWrite (s : State) (r : Rod) (a len : Nat) : Bool :=
  inSram a len && (banksOf a len).all fun b =>
    match s.bankOwner b with
    | none => true
    | some o => o == r

/-! ### Image settings -/

/-- A bead that a rod has in force. -/
def State.bead? (s : State) (n : Nat) : Option (List Nat) := (s.img.beads.find? fun b => b.num == n).map (·.data)

/-- A bead's data, or the default where the bead is absent. -/
def State.beadD (s : State) (n : Nat) (d : List Nat) : List Nat := (s.bead? n).getD d

/-- Byte `i` of a list of bytes. -/
def u8 (b : List Nat) (i : Nat) : Nat := b.getD i 0
/-- The 16-bit little-endian value at byte `i`. -/
def u16 (b : List Nat) (i : Nat) : Nat := leNat ((b.drop i).take 2)
/-- The 32-bit little-endian value at byte `i`. -/
def u32 (b : List Nat) (i : Nat) : Nat := leNat ((b.drop i).take 4)
/-- The signed 8-bit value at byte `i`. -/
def i8 (b : List Nat) (i : Nat) : Int := ofBits 8 (u8 b i)
/-- The signed 16-bit value at byte `i`. -/
def i16 (b : List Nat) (i : Nat) : Int := ofBits 16 (u16 b i)
/-- The signed 32-bit value at byte `i`. -/
def i32 (b : List Nat) (i : Nat) : Int := ofBits 32 (u32 b i)

/-- A FULL image is applied (R119, R124). -/
def State.imageApplied (s : State) : Bool := s.rd CORE.IMG_STAT_STATE == 3 || s.rd CORE.IMG_STAT_STATE == 4

/-- A word put in a lane of a write window (R185). -/
def Window.put (x : Window) (lane : Nat) (w : Word) : Window :=
  let x := { x with mask := x.mask ||| 2 ^ lane }
  match lane with
  | 0 => { x with w0 := w.toNat }
  | 1 => { x with w1 := w.toNat }
  | 2 => { x with w2 := w.toNat }
  | _ => { x with w3 := w.toNat }

/-! ### Free values -/

/-- CRC-32 of R264, one bit at a time, over a list of bytes. -/
def crcBits : Nat → Nat → Nat
  | 0, c => c
  | n + 1, c => crcBits n (if c % 2 == 1 then (c / 2) ^^^ 0xEDB88320 else c / 2)
def crc32 (l : List Nat) : Nat := (l.foldl (fun c b => crcBits 8 (c ^^^ b)) 0xFFFFFFFF) ^^^ 0xFFFFFFFF

/-- The index of the next free value, and the state past it. -/
def State.fresh (s : State) : Nat × State := (s.free, { s with free := s.free + 1 })

/-! ### The ledger's buffer (R274, R276, R277) -/

/-- Counter indexes of R275 in the order of its table: segment energies 0 to 15, then the rest. -/
def cntLines : Nat := 16
def cntFed : Nat := 17
def cntRevs : Nat := 18
def cntFull : Nat := 19
def cntPartial : Nat := 20
def cntJams : Nat := 21
def cntTorn : Nat := 22
def cntReceipts : Nat := 23
def cntShocks : Nat := 24
def cntTherm (a : Nat) : Nat := 24 + a
def cntDump : Nat := 30
def cntWet : Nat := 31

/-- An accumulator advanced (R276); fractions are kept. -/
def State.count (s : State) (k : Nat) (q : Rat := 1) : State :=
  { s with led := { s.led with acc := Store.set 0 s.led.acc k (Store.get 0 s.led.acc k + q), changed := s.led.changed || q != 0 } }

/-- A counter as LEDGER reports it (R276): what is committed and the accumulator, in whole units. -/
def State.counter (s : State) (k : Nat) : Nat := Store.get 0 s.led.base k + (Store.get 0 s.led.acc k).floor.toNat

/-- Event records the append buffer has room for: 32 KiB of records of 32 bytes (R255, R274). -/
def appendRoom : Nat := 1024

/-- Device-on time in whole seconds (R278). -/
def State.onSeconds (s : State) : Nat := s.led.onUs / 1000000

/-- An event record is buffered, or dropped and counted when the buffer is full (R277). -/
def State.bufferRecord (s : State) (ty : Nat) (payload : List Nat) : State :=
  if s.led.buf.length < appendRoom then
    { s with led := { s.led with buf := s.led.buf ++ [{ ty := ty, on := s.onSeconds, payload := payload }] } }
  else s.bump LEDGER.LOSS_DROPPED

/-- The FAULT record of a raised fault, unless its code was recorded within 60 s (R540). -/
def State.recordFault (s : State) (code p1 p2 : Nat) : State :=
  if s.faultLog.any fun e => e.1 == code && s.clock < e.2 + 60000000 then s.bump CORE.FAULT_LOG_SUPPRESSED
  else
    { s.bufferRecord 3 (leBytes 2 code ++ [s.mode, 0] ++ leBytes 4 p1 ++ leBytes 4 p2) with
      faultLog := (code, s.clock) :: s.faultLog.filter fun e => e.1 != code }

/-! ### Faults present (R525, R526) -/

/-- The fault is present. -/
def State.hasFault (s : State) (code : Nat) : Bool := s.faults.any fun f => f.code == code

/-- A rod's present faults, earliest raised first. -/
def State.faultsOf (s : State) (r : Rod) : List FaultRec := s.faults.filter fun f => f.code / 256 == r.idx

/-- A fault is recorded as present, behind those raised before it; its rod's vector is asserted and its ledger record
buffered (R525). A fault already present keeps its place. -/
def State.addFault (s : State) (code p1 p2 : Nat) : State :=
  let s := s.recordFault code p1 p2
  let s := if s.hasFault code then s else { s with faults := s.faults ++ [{ code := code, param := p1 }] }
  s.vec (16 + code / 256)

/-- A fault is cleared (R526). -/
def State.clearFault (s : State) (code : Nat) : State := { s with faults := s.faults.filter fun f => f.code != code }

/-- Every fault of a set of codes is cleared. -/
def State.clearFaults (s : State) (codes : List Nat) : State :=
  { s with faults := s.faults.filter fun f => !codes.contains f.code }

/-! ### Commands in flight -/

/-- The command that holds tag `t`. -/
def State.cmd? (s : State) (t : Nat) : Option Cmd := s.cmds.find? fun c => c.tag == t

/-- A command's record changed. -/
def State.modCmd (s : State) (t : Nat) (f : Cmd → Cmd) : State :=
  { s with cmds := s.cmds.map fun c => if c.tag == t then f c else c }

/-- The command has started. -/
def State.start (s : State) (t : Nat) : State := s.modCmd t fun c => { c with started := true }

/-- The command gives up its place in a rod's order (R214). -/
def State.release (s : State) (t : Nat) (r : Rod) : State := s.modCmd t fun c => { c with rods := c.rods.filter (· != r) }

/-- Tags that are held: by commands in flight and by completions not yet written (R211). -/
def State.tagsHeld (s : State) : List Nat :=
  s.cmds.map (·.tag) ++ s.queues.flatMap fun q => q.held.filterMap (·.tag)

/-- The lowest free tag of the 64 (R211). -/
def State.freeTag? (s : State) : Option Nat := (List.range 64).find? fun t => !s.tagsHeld.contains t

/-! ### Completions (R203 to R205) -/

/-- Status codes (R18). -/
def stOK : Nat := 0
def stNotReady : Nat := 1
def stBusy : Nat := 2
def stTorn : Nat := 3
def stAlign : Nat := 4
def stEcc : Nat := 5
def stTimeout : Nat := 6
def stUnsupported : Nat := 7
def stBadParam : Nat := 8
def stAuth : Nat := 9
def stQovf : Nat := 10
def stAborted : Nat := 11
def stHeld : Nat := 12
def stHole : Nat := 13

/-- The SRAM address of a ring from its base register: bits [22:6] (R195). -/
def State.sqBase (s : State) (q : Nat) : Nat := s.rd (VEC.Q_SQ_BASE_ADDR q) * 64
def State.cqBase (s : State) (q : Nat) : Nat := s.rd (VEC.Q_CQ_BASE_ADDR q) * 64
def State.depth (s : State) (q : Nat) : Nat := s.rd (VEC.Q_CFG_DEPTH q)
def State.qEn (s : State) (q : Nat) : Bool := s.flag (VEC.Q_CFG_EN q)

/-- The completion queue is full (R205). -/
def State.cqFull (s : State) (q : Nat) : Bool :=
  (s.rd (VEC.Q_CQ_IDX_TAIL q) + 1) % s.depth q == s.rd (VEC.Q_CQ_IDX_HEAD q)

/-- One completion entry is written at the completion tail in one beat, the tail advances with its phase, and the
vector coalescing of R219 counts it (R203, R204). -/
def State.writeCompl (s : State) (q : Nat) (c : Compl) : State :=
  let tail := s.rd (VEC.Q_CQ_IDX_TAIL q)
  let phase := s.rd (VEC.Q_CQ_IDX_PHASE q)
  let entry := leBytes 2 c.cmdId ++ [c.status, phase + 16 * c.origin] ++ leBytes 2 (s.rd (VEC.Q_SQ_IDX_HEAD q)) ++ [0, 0] ++
    leBytes 4 c.r0 ++ leBytes 4 c.r1
  let s := s.writeMem .sram (s.cqBase q + 16 * tail) entry
  let wrap := tail + 1 == s.depth q
  let s := s.wr (VEC.Q_CQ_IDX_TAIL q) (if wrap then 0 else tail + 1)
  let s := if wrap then s.wr (VEC.Q_CQ_IDX_PHASE q) (1 - phase) else s
  let n := (s.queues[q]?.map (·.count)).getD 0 + 1
  if n ≥ max 1 (s.rd (VEC.Q_COAL_COUNT q)) || c.status != stOK || c.now then s.queueVec q
  else { s with queues := s.queues.modify q fun x => { x with count := n } }

/-- A completion is ready for queue `q`: written at once, or held behind others while the queue is full (R205); of a
disabled queue it is dropped. -/
def State.post (s : State) (q : Nat) (c : Compl) : State :=
  if !s.qEn q then s
  else if s.cqFull q || ((s.queues[q]?.map (!·.held.isEmpty)).getD false) then
    { s with queues := s.queues.modify q fun x => { x with held := x.held ++ [c] } }
  else s.writeCompl q c

/-- The command with tag `t` leaves the commands in flight, and its completion is ready (R211). -/
def State.finish (s : State) (t status : Nat) (r0 r1 : Nat) : State :=
  match s.cmd? t with
  | none => s
  | some c =>
    let s := { s with cmds := s.cmds.filter fun x => x.tag != t }
    s.post c.queue { tag := some t, cmdId := c.cmdId, status := status, origin := c.queue, now := c.now,
                     r0 := r0 % 2 ^ 32, r1 := r1 % 2 ^ 32 }

/-- The completion of the command with tag `t` has been written, or will not be: an ABORT that has cancelled it completes, with
the status it was given (R217). -/
def State.endAborts (s : State) (t status : Nat) : State :=
  ((s.cmds.filter fun c => c.abortOf == some t).map (·.tag)).foldl (fun s a => s.finish a stOK status 0) s

/-- The command with tag `t` ends; an ABORT that has cancelled it completes after it, and so waits while its completion is held
(R205, R217). -/
def State.complete (s : State) (t status : Nat) (r0 r1 : Nat) : State :=
  let s := s.finish t status r0 r1
  if s.tagsHeld.contains t then s else s.endAborts t status

/-- A value that the spec leaves open. -/
def State.openWord (s : State) : Nat × State := let (n, s) := s.fresh; (Config.openWord n, s)

/-- RESULT1 of a MOVE: the cause and bits [22:5] of a descriptor's address (R240). -/
def moveResult (cause addr : Nat) : Nat := cause % 32 + addr % 2 ^ 23 / 32 * 32

/-- The command with tag `t` ends with a status for which the spec states no result words; for a RECEIPT before its first
line they are 0 but for a ready-wait that ends (R386), and for a MOVE that has not started no descriptor has ended and no cause was met (R240). -/
def State.endOpen (s : State) (t status : Nat) : State :=
  if ((s.cmd? t).map fun c => c.op == 0x60 && status != stNotReady).getD false then s.complete t status 0 0
  else if (s.cmd? t).any fun c => c.op == 0x30 then
    let (a, s) := s.openWord
    s.complete t status 0 (moveResult 0 a)
  else
    let (a, s) := s.openWord
    let (b, s) := s.openWord
    s.complete t status a b

/-- Every command of a list of tags ends alike. -/
def State.endAll (s : State) (ts : List Nat) (status : Nat) : State := ts.foldl (fun s t => s.endOpen t status) s

end Sys2Proof.Machine
end

