-- ==== Sys2Proof/Machine/Sense.lean ====
section
/-! DEFINITION. Temperatures and rounding: the thermistor law of R303 and the roundings that the rules share. -/

namespace Sys2Proof.Machine

/-- The nearest integer, halves toward +∞ (R445). -/
def roundInt (q : Rat) : Int := (q + 1 / 2).floor

/-- The nearest natural number; 0 below zero. -/
def roundNat (q : Rat) : Nat := (roundInt q).toNat

/-- 2 ^ 40: the scale of the logarithm below. -/
def lnOne : Nat := 1099511627776

/-- The series of artanh: terms z ^ (2i + 1) / (2i + 1) for odd numbers from `k`, at scale 2 ^ 40. -/
def lnSeries (zz : Nat) : Nat → Nat → Nat → Nat
  | 0, _, _ => 0
  | n + 1, k, p => p / k + lnSeries zz n (k + 2) (p * zz / lnOne)

/-- Halvings that bring `num / den` below 2, with the denominator they leave. -/
def lnHalve : Nat → Nat → Nat → Nat × Nat
  | 0, _, den => (0, den)
  | n + 1, num, den => if num < 2 * den then (0, den) else let r := lnHalve n num (2 * den); (r.1 + 1, r.2)

/-- ln (num / den) at scale 2 ^ 40, for `num ≥ den > 0` below 2 ^ 40 times it. -/
def lnUp (num den : Nat) : Nat :=
  let r := lnHalve 40 num den
  let z := (num - r.2) * lnOne / (num + r.2)
  762123384786 * r.1 + 2 * lnSeries (z * z / lnOne) 30 1 z

/-- ln (num / den), for positive numbers. -/
def lnRat (num den : Nat) : Rat :=
  if den ≤ num then mkRat (lnUp num den) lnOne else mkRat (-(lnUp den num : Int)) lnOne

/-- The series of the cosine at scale 2 ^ 40: `xx` the square of the angle, terms from x ^ k / k! on. -/
def cosSeries (xx : Int) : Nat → Nat → Int → Int
  | 0, _, _ => 0
  | n + 1, k, t => t + cosSeries xx n (k + 2) (-(t * xx / lnOne) / ((k + 1) * (k + 2) : Nat))

/-- The cosine of an angle in degrees. -/
def cosDeg (deg : Rat) : Rat :=
  let x := roundInt ((deg - 360 * ((deg + 180) / 360).floor) * 19190098069)
  mkRat (cosSeries (x * x / lnOne) 20 0 lnOne) lnOne

/-- The temperature in 0.1 °C of a thermistor code (R303), to the nearest unit and held to 16 bits; the two codes at
which the formula has no value read as free values (R303, R306). -/
def thermistor (code rNom b rPull : Nat) : Int :=
  if code = 0 || 4095 ≤ code || rNom = 0 || b = 0 || rPull = 0 then Config.thermistorEnd code
  else
    let k := 1 / (1 / (29815 / 100 : Rat) + lnRat (rPull * code) (rNom * (4095 - code)) / b)
    clampInt (-32768) 32767 (roundInt ((k - 27315 / 100) * 10))

/-- A code of the ADC, times `k`, with the offset and gain of its last calibration applied (R289). -/
def State.adcCode (s : State) (code : Nat) (k : Nat := 1) : Nat :=
  min (4095 * k) (roundNat (((code : Rat) - k * s.bg.adcOffset) * s.bg.adcGain))

/-- The constants of THM input `n` (bead 0x0401), and whether it is used. -/
def State.thmDesc (s : State) (n : Nat) : List Nat := ((s.beadD 0x0401 []).drop (8 * n)).take 8
def State.thmUsed (s : State) (n : Nat) : Bool := u8 (s.thmDesc n) 6 == 1

/-- The temperature of THM input `n` for a code. -/
def State.thmTemp (s : State) (n code : Nat) : Int :=
  let d := s.thmDesc n
  thermistor code (u16 d 0) (u16 d 2) (u16 d 4)

/-- The selected entry of HEAD_ID_TABLE (R388). -/
def State.headEntry (s : State) : List Nat := ((s.beadD 0x0602 []).drop (16 * s.rd PRINT.HEAD_ENTRY)).take 16

/-- The head temperature in 0.1 °C for a code of HD_THM (R303, R388). -/
def State.headTemp (s : State) (code : Nat) : Int :=
  let d := s.headEntry
  thermistor code (u16 d 8) (u16 d 10) (u16 d 12)

/-- The head temperature of a conversion of HD_THM. -/
def State.headConv (s : State) (code : BitVec 12) : Int := s.headTemp (s.adcCode code.toNat)

end Sys2Proof.Machine
end

