-- ==== Sys2Proof/Machine/Mech.lean ====
section
/-! DEFINITION. The mechanism's shared operations: switching a control loop on and off, starting, stopping and braking the
paper, driving and braking the blade, the torn-band record, and starting, tearing and ending a RECEIPT. -/

namespace Sys2Proof.Machine

/-! ### Loops (R443, R452) -/

def State.loopSt (s : State) (k : Nat) : LoopSt := s.loops.loops.getD k {}

def State.modLoop (s : State) (k : Nat) (f : LoopSt → LoopSt) : State :=
  { s with loops := { s.loops with loops := s.loops.loops.modify k f } }

/-- A loop named by APPLY has been dealt with; when every one has, APPLY_DONE is set (R461). -/
def State.applyDealt (s : State) (k : Nat) : State :=
  let left := s.loops.named - (s.loops.named &&& 2 ^ k)
  let t := { s with loops := { s.loops with named := left } }
  if s.loops.named != 0 && left == 0 then t.evt LOOP.EVT_APPLY_DONE .loop else t

/-- A pending shadow set comes into use (R461). -/
def State.applyNow (s : State) (k : Nat) : State :=
  if s.rdBit LOOP.COEF_STAT_PENDING k then
    ((s.modLoop k fun l => { l with coef := l.shadow }).wrBit LOOP.COEF_STAT_PENDING k false).applyDealt k
  else s

/-- The client of a loop has no output of it (R452, R459): it uses 0. -/
def State.clientZero (s : State) (k : Nat) : State :=
  match s.rd (LOOP.L_STAT_CLIENT k) with
  | 1 => { s with feed := { s.feed with current := 0, windA := 0, windB := 0 } }
  | 2 => { s with feed := { s.feed with corrUm := 0 } }
  | 3 => { s with cut := { s.cut with duty := 0 } }
  | _ => s

/-- The client activates its loop (R452): all stage state is 0, the shadow equals the coefficients in use, and supervision starts
afresh. -/
def State.loopOn (s : State) (k : Nat) : State :=
  if s.rd (LOOP.L_STAT_STATE k) == 0 || s.rd (LOOP.L_STAT_STATE k) == 2 then s
  else
    let s := (((s.modLoop k fun l => { coef := l.coef, shadow := l.coef, stages := l.coef.map fun _ => {} }).wr
      (LOOP.L_STAT_STATE k) 2).wr (LOOP.L_SAMPLES_COUNT k) 0).wr (LOOP.L_STAT_CLAMPED k) 0
    ((s.wr (LOOP.L_FE_TIME_RUN_MS k) 0).wr (LOOP.L_OSC_REVERSALS k) 0).clientZero k

/-- The client deactivates its loop (R452); a tripped loop stays tripped until its next activation (R459). -/
def State.loopOff (s : State) (k : Nat) : State :=
  if s.rd (LOOP.L_STAT_STATE k) == 2 then
    let s := s.applyNow k
    ((s.modLoop k fun l => { coef := l.coef, shadow := l.shadow }).wr (LOOP.L_STAT_STATE k) 1).clientZero k
  else s

/-- FEED's speed loop and its position loop (bead 0x0805). -/
def State.speedLoop (s : State) : Nat := u8 (s.beadD 0x0805 [0, 1]) 0
def State.posLoop (s : State) : Nat := u8 (s.beadD 0x0805 [0, 1]) 1
/-- CUT's loop (bead 0x0900). -/
def State.cutLoop (s : State) : Nat := u8 (s.beadD 0x0900 []) 2

/-! ### The paper -/

def State.setFeed (s : State) (f : Feed → Feed) : State := { s with feed := f s.feed }

/-- The arrangement is brushless (R400). -/
def State.brushless (s : State) : Bool := s.flag FEED.CFG_ARRANGEMENT
/-- Encoder-locked pacing (R377). -/
def State.encLocked (s : State) : Bool := s.flag PRINT.CFG_PACING
/-- Dots per mm of the head. -/
def State.dpmm (s : State) : Nat := if s.flag PRINT.CFG_DPMM12 then 12 else 8
/-- FEED is in motion, stopping or waiting to turn. -/
def State.feedMoving (s : State) : Bool := s.feed.job != .none

/-- The half-bridges of the six commutation sectors: one phase with PWM, one low, one high-impedance (R405). -/
def sectorBridges (n : Nat) : List Hb :=
  match n % 6 with
  | 0 => [.pwm, .low, .z]
  | 1 => [.pwm, .z, .low]
  | 2 => [.z, .pwm, .low]
  | 3 => [.low, .pwm, .z]
  | 4 => [.low, .z, .pwm]
  | _ => [.z, .low, .pwm]

/-- FEED's motor bridges set; AUX on HB3 keeps its own drive in the brushless arrangement. -/
def State.motorHb (s : State) (l : List Hb) : State :=
  s.setFeed fun f => { f with hb := if s.brushless then l.take 3 ++ f.hb.drop 3 else l }

/-- The bridges under a current: those of the driven sector, the opposite one where the current is a reverse one, or both windings
(R404, R405; log entry 40). -/
def State.driveHb (s : State) : State :=
  let back := s.feed.current < 0 || (s.feed.current == 0 && s.flag FEED.STAT_DIR)
  s.motorHb (if s.brushless then sectorBridges (if back then s.feed.sector + 3 else s.feed.sector) else [.pwm, .pwm, .pwm, .pwm])

/-- FEED drives its motor: its bridges are driven and its speed loop is active (R443). -/
def State.feedDrive (s : State) : State := s.driveHb.loopOn s.speedLoop

/-- The winding currents of the stepper with a phase advance in degrees (R404): the current command's magnitude, or at rest the holding
current, at the electrical angle. -/
def State.wind (s : State) (adv : Rat) : State :=
  if s.brushless then s
  else
    let b := s.beadD 0x0881 [250, 0, 250, 0, 50, 20, 50, 30]
    let i : Rat := if s.rd FEED.STAT_STATE == 3 then mkRat (u16 (s.beadD 0x0801 []) 4 * u8 b 7) 100 else (s.feed.current.natAbs : Nat)
    let angle := mkRat (90 * s.feed.theta) (max 1 (u8 (s.beadD 0x0804 []) 0)) + if s.flag FEED.STAT_DIR then -adv else adv
    s.setFeed fun f => { f with windA := roundInt (i * cosDeg angle), windB := roundInt (i * cosDeg (angle - 90)) }

/-- FEED drives no current any more. -/
def State.feedLoopsOff (s : State) : State :=
  let s := (s.loopOff s.speedLoop).setFeed fun f => { f with current := 0, corrUm := 0, windA := 0, windB := 0 }
  if s.posLoop < 4 then s.loopOff s.posLoop else s

/-- The speed setpoint, in µm/s, and its report in 0.1 mm/s; without feedback it is the measured speed too (R403). -/
def State.setSpeed (s : State) (um : Int) : State :=
  let s := (s.setFeed fun f => { f with setUm := um }).wrI FEED.SPEED_SET (um / 100)
  if s.rd FEED.CFG_FB_TYPE == 0 then s.wrI FEED.SPEED_MEAS (um / 100) else s

/-- FEED starts a motion, reverse or forward; before a change of direction it waits out the dwell (R420). -/
def State.feedGo (s : State) (job : FeedJob) (rev : Bool) : State :=
  let turn := s.flag FEED.STAT_DIR != rev
  let s := s.setFeed fun f => { f with job := job, dwell := turn, onBrake := false }
  let s := (s.wr FEED.STAT_STATE (if turn || rev then 4 else 1)).wr FEED.STAT_AT_REST 0
  let s := s.feedDrive
  if job == .target && s.posLoop < 4 then s.loopOn s.posLoop else if s.posLoop < 4 then s.loopOff s.posLoop else s

/-- A move to a target position at a speed limit (R418). -/
def State.feedTo (s : State) (target : Int) (limit : Nat) : State :=
  (s.setFeed fun f => { f with start := f.pos, target := target, limit := limit }).feedGo .target (target < s.feed.pos)

/-- A controlled stop (R421). -/
def State.feedStop (s : State) : State :=
  if s.feed.job == .none then s
  else
    let s := (s.setFeed fun f => { f with job := .stop, dwell := false, due := 0 }).wr FEED.STAT_STATE 2
    if s.posLoop < 4 then s.loopOff s.posLoop else s

/-- FEED's motor bridges are driven: moving, holding or checking (R529). -/
def State.feedDriving (s : State) : Bool := [1, 2, 3, 4, 5].contains (s.rd FEED.STAT_STATE)
/-- HB3 drives AUX. -/
def State.auxDriving (s : State) : Bool := s.feed.aux == .pull || s.feed.aux == .hold
/-- CUT's bridges are driven. -/
def State.cutDriving (s : State) : Bool := [1, 2, 3, 4].contains (s.rd CUT.STAT_STATE)

/-- The motor's bridges go low or high-impedance, out of FEED's hands; motion under way becomes a stop. -/
def State.feedCut (s : State) (h : Hb) : State :=
  let moving := s.feedMoving
  let s := (s.feedLoopsOff.motorHb [h, h, h, h]).setSpeed 0
  let s := s.setFeed fun f => { f with job := if moving then .stop else .none, dwell := false, due := 0 }
  s.wr FEED.STAT_STATE (if h == .low then 6 else if moving then 2 else 0)

/-- AUX pulls: HB3 is driven high for PULL_MS (R402). -/
def State.auxPull (s : State) : State := s.setFeed fun f => { f with aux := .pull, hb := f.hb.set 3 .high }

/-- The image makes AUX a solenoid output (bead 0x0807), and the MB7140 drives its bridges. -/
def State.auxUsed (s : State) : Bool := u8 (s.beadD 0x0807 [0, 0, 100, 0]) 0 == 1 && s.base == .run

/-- AUX is set high-impedance. -/
def State.auxOff (s : State) : State :=
  s.setFeed fun f => { f with aux := .off, hb := if f.aux == .off then f.hb else f.hb.set 3 .z }

/-- The always-on brake path takes FEED's bridges for 60 ms (R32, R83). -/
def State.feedBrakePath (s : State) : State :=
  if s.feedDriving then
    let mask := if s.brushless then 7 else 15
    let s := (s.feedCut .low).setFeed fun f => { f with onBrake := true }
    { s with boot := { s.boot with brake := s.boot.brake ||| mask } }
  else s

/-- The smallest number of counts that covers `lines` lines, with the sign of `lines` (R413, R425). -/
def State.linesToCounts (s : State) (lines : Int) : Int :=
  let n : Int := s.rd FEED.DIV_N
  let m : Int := max 1 (s.rd FEED.DIV_M)
  if 0 ≤ lines then (lines * n + m - 1) / m else -((-lines * n + m - 1) / m)

/-- A distance in counts as whole lines, rounded toward 0 (R425). -/
def State.countsToLines (s : State) (counts : Int) : Int :=
  Int.tdiv (counts * s.rd FEED.DIV_M) (max 1 (s.rd FEED.DIV_N))

/-- The line index I (R413). -/
def State.lineIndex (s : State) : Int := Int.fdiv s.feed.acc (max 1 (s.rd FEED.DIV_N))

/-! ### Memory, banks and bands -/

/-- The register of a band slot (R356): 0 FREE, 1 RENDERING, 2 COMMITTED, 3 PRINTING. -/
def bandState (i : Nat) : Fld := ⟨RASTER.BAND0_STAT_STATE.addr + 4 * (i % 3), 0, 2⟩
def bandSeq (i : Nat) : Fld := ⟨RASTER.BAND0_STAT_STATE.addr + 4 * (i % 3), 8, 8⟩
def bandLines (i : Nat) : Fld := ⟨RASTER.BAND0_STAT_STATE.addr + 4 * (i % 3), 16, 13⟩
def bandBank (i : Nat) : Fld := ⟨RASTER.BAND_CFG_BAND_MAX.addr, 16 + 4 * (i % 3), 4⟩

def State.modSlot (s : State) (i : Nat) (f : Slot → Slot) : State :=
  { s with raster := { s.raster with slots := s.raster.slots.modify i f } }

/-- A band slot becomes FREE (R356). -/
def State.freeSlot (s : State) (i : Nat) : State := (s.modSlot i fun _ => {}).wr (bandState i) 0

/-- The slots that hold a band of the RECEIPT. -/
def State.slotsOf (s : State) (t : Nat) : List Nat :=
  (List.range 3).filter fun i => (s.raster.slots.getD i {}).tag == some t && s.rd (bandState i) != 0

/-- Every band of a RECEIPT is released (R358, R385). -/
def State.releaseBands (s : State) (t : Nat) : State := (s.slotsOf t).foldl (fun s i => s.freeSlot i) s

/-- The slot of a RECEIPT's committed band `n`. -/
def State.committedSlot? (s : State) (t n : Nat) : Option Nat :=
  (s.slotsOf t).find? fun i => (s.raster.slots.getD i {}).seq == n && s.rd (bandState i) == 2

/-- Bank `b` holds a band that is committed or printing (R28). -/
def State.bandProtected (s : State) (b : Nat) : Bool :=
  (List.range 3).any fun i => 2 ≤ s.rd (bandState i) && s.rd (bandBank i) == b

/-- RASTER serves this RECEIPT no longer: it idles once its check pass or rendering has ended. A RECEIPT that has left RASTER
already changes nothing of what RASTER does for the next. -/
def State.rasterIdle (s : State) (t : Nat) : State :=
  if (s.cmd? t).any fun c => c.rods.contains .raster then (s.release t .raster).wr RASTER.STAT_STATE 0 else s

/-- The lines of a band are filled with zeros in bank `b`, with new check bits (R356). -/
def State.zeroLines (s : State) (b lines : Nat) : State :=
  let lo := b * bankSize
  let hi := lo + min bankSize (16 * s.rd RASTER.CFG_LINE_WORDS * lines)
  let off := fun w => decide (16 * w < lo) || decide (hi ≤ 16 * w)
  { s with sram := s.sram.filter (fun c => c.1 < lo || hi ≤ c.1), sramUe := s.sramUe.filter off, sramCe := s.sramCe.filter off }

/-- RASTER takes the lowest FREE slot for the next band of the RECEIPT that it renders, and fills its lines with zeros, or waits for one
(R356). -/
def State.takeSlot (s : State) : State :=
  if s.rd RASTER.STAT_STATE == 2 || s.rd RASTER.STAT_STATE == 3 then
    match s.print.jobs.find? fun j => j.committed < j.bands && j.failed == none && (s.cmd? j.tag).any fun c => c.rods.contains .raster with
    | none => s
    | some j =>
      if (s.slotsOf j.tag).any fun i => s.rd (bandState i) == 1 then s
      else
        match (List.range 3).find? fun i => s.rd (bandState i) == 0 with
        | none => s.wr RASTER.STAT_STATE 3
        | some i =>
          let s := (s.modSlot i fun _ => { tag := some j.tag, seq := j.committed + 1 }).wr RASTER.STAT_STATE 2
          let s := s.zeroLines (s.rd (bandBank i)) ((j.plan[j.committed]?).map (·.1) |>.getD 0)
          ((s.wr (bandState i) 1).wr (bandSeq i) (min 255 (j.committed + 1))).wr (bandLines i) 0
  else s

/-! ### The torn-band record (R96, R97) -/

def recOpen : Nat := 0x4E45504F
def recTorn : Nat := 0x4E524F54
def recSent : Nat := 0x544E4553
def recDone : Nat := 0x454E4F44

/-- The record's offset in keep RAM. -/
def recAt : Nat := 0x100

/-- A field of the record, with check bits stored for the words it touches. -/
def State.recPut (s : State) (off : Nat) (bs : List Nat) : State := s.writeMem .keep (recAt + off) bs
def State.recState (s : State) : Nat := leNat (s.bytes .keep recAt 4)

/-! ### Receipts -/

def State.setPrint (s : State) (f : Print → Print) : State := { s with print := f s.print }

def State.modJob (s : State) (t : Nat) (f : Job → Job) : State :=
  s.setPrint fun p => { p with jobs := p.jobs.map fun j => if j.tag == t then f j else j }

def State.job? (s : State) (t : Nat) : Option Job := s.print.jobs.find? fun j => j.tag == t

/-- The RECEIPT that prints, if one does: its record is OPEN and its last line has not fired (R148). -/
def State.printing? (s : State) : Option Job := s.print.jobs.find? fun j => j.stage == .print || j.stage == .rest

/-- A bit of a RECEIPT's flags in P2 (R382): 0 CUT, 1 PARTIAL, 2 FEED_OUT. -/
def State.receiptFlag (s : State) (t i : Nat) : Bool := ((s.cmd? t).map fun c => c.p2.testBit i).getD false

/-- The command stands first in a rod's order (R214). -/
def State.firstIn (s : State) (t : Nat) (r : Rod) : Bool :=
  ((s.cmds.find? fun c => c.rods.contains r).map fun c => c.tag == t).getD false

/-- A RECEIPT ends: its bands are released, the record that was opened for it becomes DONE (R97), and it completes. -/
def State.endReceipt (s : State) (t status : Nat) (r0 r1 : Nat := 0) : State :=
  let opened := ((s.job? t).map fun j => j.stage != .render).getD false
  let busy := !s.print.jobs.isEmpty && (s.cmd? t).any fun c => c.rods.contains .raster
  let s := s.releaseBands t
  let s := if opened then s.recPut 0 (leBytes 4 recDone) else s
  let s := if busy then s.wr RASTER.STAT_STATE 0 else s
  let s := s.setPrint fun p => { p with jobs := p.jobs.filter fun j => j.tag != t, lastReceipt := s.clock }
  let s := s.bump CORE.BG_HEAD_SINCE
  let s := if opened && s.rd PRINT.STAT_STATE ≤ 3 then s.wr PRINT.STAT_STATE (if s.print.jobs.isEmpty then 0 else 1)
    else if s.print.jobs.isEmpty && s.rd PRINT.STAT_STATE == 1 then s.wr PRINT.STAT_STATE 0 else s
  s.complete t status r0 r1

/-- RASTER.ERR records a failing item and its cause (R362). -/
def State.rasterErr (s : State) (off cause : Nat) : State := (s.wr RASTER.ERR_OFFSET off).wr RASTER.ERR_CAUSE cause

/-- The status with which a failure cause ends a RECEIPT that has no committed band (R358): 10 is ECC, 11 FLASH_WAIT. -/
def causeStatus (cause : Nat) : Nat := if cause == 10 then stEcc else if cause == 11 then stNotReady else stBadParam

/-- Rendering of a RECEIPT stops with a cause (R358): with no band committed it ends with the cause's status; else the bands
already committed print to their end, and the tear follows. -/
def State.renderStop (s : State) (j : Job) (off cause : Nat) : State :=
  let s := s.rasterErr off cause
  let s := ((s.slotsOf j.tag).filter fun i => s.rd (bandState i) == 1).foldl (fun s i => s.freeSlot i) s
  if j.committed == 0 then s.endReceipt j.tag (causeStatus cause)
  else (s.modJob j.tag fun j => { j with failed := some cause }).rasterIdle j.tag

/-- The result words of a RECEIPT whose lines have all fired (R386). -/
def Job.okR1 (j : Job) : Nat := j.bands % 256 + toBits 8 j.shift * 256 + min 65535 j.late * 65536

/-- The result words of a torn RECEIPT (R386). -/
def Job.tornR1 (j : Job) : Nat := min 65535 j.linesBand + min 255 j.band * 65536 + j.cause * 2 ^ 24

/-- The record and the counters of one more line of the RECEIPT in print (R97, R372). -/
def State.countLine (s : State) (t : Nat) : State :=
  let s := (s.modJob t fun j => { j with lines := j.lines + 1, linesBand := j.linesBand + 1 }).count cntLines
  match s.job? t with
  | none => s
  | some j => (s.recPut 8 (leBytes 4 j.lines ++ leBytes 2 j.linesBand)).recPut 0x10 (leBytes 4 (s.rd FEED.POS_POS))

/-- PRINT's state once a probe, a recheck or a dry-out has ended. -/
def State.printIdle (s : State) : State :=
  s.wr PRINT.STAT_STATE (if s.print.dry.isSome then 5 else if s.print.jobs.isEmpty then 0 else 1)

/-- A recheck that runs is abandoned, and stays due (R293). -/
def State.abandonRecheck (s : State) : State :=
  if s.print.recheck then
    ((s.setPrint fun p => { p with recheckDue := true, recheck := false }).printIdle).evt CORE.BG_HEAD_ABANDONED .core
  else s

/-- The trim of the FRC takes the step that waits for a print line boundary (R283, R288). -/
def State.trimFrc (s : State) : State :=
  { s with bg := { s.bg with trimStep := 0 } }.wrI CORE.BG_CAL_FRC_TRIM
    (clampInt (-128) 127 (s.rdI CORE.BG_CAL_FRC_TRIM + s.bg.trimStep))

/-- The energy of a pass, given the ticks for which the dots of each level were on (R372). -/
def State.addEnergy (s : State) (p : Pass) (ticks : Nat → Nat) : State :=
  p.power.foldl (fun s e => s.count e.1 (e.2.2 * (ticks e.2.1 : Rat))) s

/-- A pass is cut short: dots whose slice has ended were on to its end, the others to the cut, which lies within the present slice
(R372; log entry 38). -/
def State.cutPass (s : State) : State :=
  match s.print.firing with
  | none => s
  | some f =>
    match f.passes[f.pass]?, f.strobed with
    | some p, true =>
      let lo := if f.slice = 0 then 0 else p.ends.getD (f.slice - 1) 0
      let hi := p.ends.getD f.slice 0
      let (w, s) := s.openWord
      s.addEnergy p fun k => if k < f.slice then p.ends.getD k 0 else lo + w % (hi - lo + 1)
    | _, _ => s

/-- Every strobe goes inactive and no line fires or waits any more. -/
def State.quiet (s : State) : State :=
  ((((s.cutPass.setPrint fun p => { p with firing := none, floorLine := false, strobes := 0, toTrigger := 0, chained := 0 }).trimFrc).wr
    PRINT.STAT_BACKLOG 0).wr PRINT.STAT_CEILING 0)

/-- A torn RECEIPT completes once the paper is at rest (R385). -/
def State.endTorn (s : State) (t : Nat) : State :=
  match s.job? t with
  | none => s
  | some j => s.endReceipt t stTorn j.lines j.tornR1

/-- The line that fires has begun its first strobe: it is a printed line (R378). -/
def State.lineBegun (s : State) : Bool := s.print.firing.any fun f => f.strobed || f.pass != 0

/-- A cause of R384 that arises together with the one that has just torn a RECEIPT: the lowest is recorded. -/
def State.tearAlso (s : State) (cause : Nat) : State :=
  match s.print.jobs.find? (·.justTorn) with
  | none => s
  | some j => if cause < j.cause then (s.modJob j.tag fun j => { j with cause := cause }).wr PRINT.TEAR_CAUSE cause else s

/-- A cause of R384 tears the RECEIPT that is printing (R385); it completes once the paper is at rest (`settle`). A line counts as
printed from its first strobe on (R378). FEED stops under its own rules where `stop` is false. -/
def State.tear (s : State) (cause : Nat) (stop : Bool := true) : State :=
  match s.printing? with
  | none => s.tearAlso cause
  | some j =>
    let s := if s.lineBegun then s.countLine j.tag else s
    let s := s.quiet
    let s := ((s.releaseBands j.tag).wr PRINT.TEAR_CAUSE cause).wr PRINT.TEAR_BAND_SEQ (min 255 j.band)
    let lb := ((s.job? j.tag).map (·.linesBand)).getD 0
    let s := ((s.wr PRINT.TEAR_LINES_BAND (min 65535 lb)).evt PRINT.EVT_TORN .print).count cntTorn
    let s := (s.modJob j.tag fun j => { j with stage := .torn, cause := cause, justTorn := true }).rasterIdle j.tag
    let s := s.wr PRINT.STAT_STATE 3
    if stop then s.feedStop else s

/-- PAUSE comes into force: a RECEIPT whose first line has not fired does not fire it (R316). The paper stops, and the RECEIPT stands
before step 3 of R383 again, its record closed (log entry 38). -/
def State.pausePrint (s : State) : State :=
  match s.printing? with
  | none => s
  | some j =>
    if j.lines != 0 || s.lineBegun then s
    else
      let s := (s.quiet.modJob j.tag fun j => { j with stage := .render }).recPut 0 (leBytes 4 recDone)
      let slot := bandState s.print.slot
      ((if s.rd slot == 3 then s.wr slot 2 else s).wr PRINT.STAT_STATE 1).feedStop

/-- A started RECEIPT whose check pass has not ended ends, with both result words 0 (R386). -/
def State.endCheck (s : State) (t status : Nat) : State :=
  (({ s with raster := { s.raster with begun := none } }).wr RASTER.STAT_STATE 0).complete t status 0 0

/-- The least line period in force beside the band's own (R377): LONG_LINE, MIN_PERIOD and the ceiling. -/
def State.periodGoal (s : State) : Nat :=
  let p := s.print.bandPeriod
  let p := if s.rdBit THERM.STAT_ACTIVE 1 then max p (u16 (s.beadD 0x0481 [60, 30, 100, 0]) 2 * 640) else p
  let p := max p (s.rd PRINT.LINE_CTL_MIN_PERIOD)
  if s.flag PRINT.STAT_CEILING then max p s.print.ceiling else p

/-- The speed in µm/s of one line pitch per `p` ticks. -/
def State.pitchSpeed (s : State) (p : Nat) : Nat := 64000000 * 1000 / (s.dpmm * max 1 p)

/-- The line period of a band (R377), in ticks. -/
def State.bandPeriodOf (s : State) (speed : Nat) : Nat :=
  let v := min speed (if s.flag PRINT.CFG_DPMM12 then 150 else 250)
  let pct := if s.rdBit THERM.STAT_ACTIVE 0 then u8 (s.beadD 0x0481 [60, 30, 100, 0]) 0 else 100
  roundNat (mkRat 6400000000 (v * pct * s.dpmm))

/-- Band `n` of a RECEIPT, in slot `i`, is the band in print from here (R357, R377, R97). -/
def State.beginBand (s : State) (t n i : Nat) : State :=
  let slot := s.raster.slots.getD i {}
  let lines := s.rd (bandLines i)
  let s := s.wr PRINT.STAT_CEILING 0
  let period := s.bandPeriodOf slot.speed
  let s := s.setPrint fun p => { p with slot := i, line := 0, dark := slot.dark, bandPeriod := period }
  let s := s.modJob t fun j => { j with band := n, linesBand := 0 }
  (s.recPut 7 [min 255 n]).recPut 0xC (leBytes 2 0 ++ leBytes 2 lines)

/-- FEED starts the paper for a band: from the first band, or back behind a later band's first line (R414, R422). -/
def State.feedStart (s : State) (first : Bool) : State :=
  if first then (s.wrI FEED.L_NEXT_VALUE (s.lineIndex + 1)).feedGo .lines false
  else if s.encLocked then
    if s.lineIndex ≤ s.rdI FEED.L_NEXT_VALUE - 2 then s.feedGo .lines false else s.feedGo .back true
  else if s.feed.lastTheta + u16 (s.beadD 0x0804 []) 2 < s.feed.theta then s.feedGo .back true
  else s.feedGo .lines false

/-- The paper is present and the cover is closed (R430). -/
def State.paperOk (s : State) : Bool := s.flag FEED.STAT_PAPER && s.flag FEED.STAT_COVER

/-- Step 3 of R383: everything that the first line of a RECEIPT needs. -/
def State.mayPrint (s : State) (j : Job) : Bool :=
  let cut := s.receiptFlag j.tag 0
  s.base == .run && j.stage == .render && j.leakOk && !s.rdBit THERM.STAT_ACTIVE 2 && s.paperOk &&
    (s.committedSlot? j.tag 1).isSome &&
    ([Rod.print, Rod.feed] ++ if cut then [Rod.cut] else []).all (fun r => s.firstIn j.tag r && s.ready r) &&
    !s.feedMoving && s.print.probe == none && !s.print.recheck

/-- The first line of a RECEIPT is allowed: the record is OPEN, and the paper starts (R383). -/
def State.startPrint (s : State) (j : Job) (i : Nat) : State :=
  let (cid, q) := ((s.cmd? j.tag).map fun c => (c.cmdId, c.queue)).getD (0, 0)
  let s := s.recPut 0 (leBytes 4 recOpen ++ leBytes 2 cid ++ [q, 1] ++ leBytes 4 0 ++ leBytes 2 0 ++
    leBytes 2 (s.rd (bandLines i)) ++ leBytes 4 (s.rd FEED.POS_POS) ++ [0xFF] ++ List.replicate 11 0)
  let s := s.modJob j.tag fun j => { j with stage := .print }
  let s := ((s.beginBand j.tag 1 i).wr PRINT.STAT_STATE 2).wr PRINT.STAT_CAP_LEVEL 0
  let s := s.setPrint fun p =>
    { p with hist1 := [], hist2 := [], floorRun := 0, floorLine := false, period := 0, toTrigger := s.rd (bandLines i) }
  s.feedStart true

/-- The next band of a RECEIPT starts from rest (R383, R422), or its failed rendering tears it (R358). -/
def State.nextBand (s : State) (j : Job) : State :=
  match s.committedSlot? j.tag (j.band + 1) with
  | some i =>
    let s := s.modJob j.tag fun j => { j with stage := .print }
    let s := s.beginBand j.tag (j.band + 1) i
    let s := s.setPrint fun p => { p with period := 0, toTrigger := s.rd (bandLines i) }
    s.feedStart false
  | none => if j.failed.isSome then s.tear 11 else s

/-! ### The blade (R432 to R437) -/

def State.setCut (s : State) (f : Cutter → Cutter) : State := { s with cut := f s.cut }

/-- The blade is driven forward (STATE 1) or back (3, or 4 when homing); the forward polarity is in bead 0x0900. -/
def State.cutDrive (s : State) (st : Nat) : State :=
  let pol := u8 (s.beadD 0x0900 []) 0 == 1
  let fwd := st == 1
  let hb := if fwd == pol then [Hb.low, .pwm] else [.pwm, .low]
  ((s.loopOn s.cutLoop).setCut fun c => { c with hb := hb, left := if fwd then false else c.left }).wr CUT.STAT_STATE st

/-- The blade is braked on the low-side switches (STATE 2), with what follows. -/
def State.cutBrake (s : State) (n : CutNext) : State :=
  (((s.loopOff s.cutLoop).setCut fun c => { c with hb := [.low, .low], duty := 0, next := n })).wr CUT.STAT_STATE 2

/-- HB4 and HB5 go high-impedance; the blade is idle, or stopped where it stands (STATE 5). -/
def State.cutZ (s : State) : State :=
  let s := (s.loopOff s.cutLoop).setCut fun c => { c with hb := [.z, .z], duty := 0, thenCut := false, jammed := false }
  s.wr CUT.STAT_STATE (if s.flag CUT.STAT_HOME then 0 else 5)

/-- The status of an end cause (R437). -/
def cutStatus (cause : Nat) : Nat :=
  if cause == 0 then stOK else if cause == 5 then stHeld else if cause == 6 then stAborted else stTorn

/-- The command that the blade serves ends (R437); a RECEIPT completes under R386. -/
def State.cutEnd (s : State) (cause : Nat) : State :=
  match s.cut.tag with
  | none => s
  | some t =>
    let ms := (s.clock - s.cut.since) / 1000
    let rev := s.cut.reversals
    let s := ((s.wr CUT.LAST_TIME_MS (min 65535 ms)).wr CUT.LAST_JAMS rev).wr CUT.LAST_END_CAUSE cause
    let s := s.evt CUT.EVT_DONE .cut
    let s := if cause == 0 && s.cut.isCut then s.count (if s.cut.partialCut then cntPartial else cntFull) else s
    let receipt := s.cut.receipt
    let s := s.setCut fun c => { c with tag := none, receipt := false, thenCut := false }
    if receipt then
      match s.job? t with
      | none => s
      | some j =>
        let s := if cause == 0 then s.count cntReceipts else s
        s.endReceipt t (if cause == 0 then stOK else j.noCut.getD (cutStatus cause)) j.lines j.okR1
    else s.complete t (cutStatus cause) ms (rev + cause * 256)

/-- The blade is to be driven home before CUT reports READY; a cut under way is stopped with its cause. -/
def State.cutAbort (s : State) (cause : Nat) : State :=
  if s.cutDriving || s.cut.tag.isSome then
    let drive := s.cutDriving
    let s := (s.setCut fun c => { c with needHome := true }).cutEnd cause
    if drive then s.cutBrake .finish else s
  else s

/-- A cut starts: forward from HOME, or after homing (R432). -/
def State.cutStart (s : State) (t : Nat) (receipt part cut : Bool) : State :=
  let s := s.setCut fun c =>
    { c with tag := some t, receipt := receipt, partialCut := part, isCut := cut, reversals := 0, since := s.clock,
             jammed := false, thenCut := cut && !s.flag CUT.STAT_HOME }
  if cut && s.flag CUT.STAT_HOME then s.cutDrive 1 else s.cutDrive 4

/-- A homing that passes clears CUT's own faults (R434). -/
def State.homed (s : State) : State :=
  (s.setCut fun c => { c with needHome := false }).clearFaults [0x0901, 0x0902, 0x0904, 0x0910]

/-- The blade is homed on its own as soon as LOOP and the cover allow it (R434). -/
def State.advanceCut (s : State) : State :=
  if s.cut.needHome && s.boot.tested.testBit 9 && s.base == .run && s.boot.brake == 0 && s.ready .loop && s.flag FEED.STAT_COVER &&
      !s.cutDriving && s.cut.tag.isNone && !(s.flag CUT.STAT_HOME && s.flag CUT.STAT_END) then
    if s.flag CUT.STAT_HOME then s.homed else s.cutDrive 4
  else s

/-! ### The paper at rest (R416) -/

/-- A RECEIPT whose lines have fired and whose paper is at rest goes on to its cut, or completes (R383, R387). -/
def State.receiptOut (s : State) (j : Job) : State :=
  let s := s.release j.tag .feed
  match j.noCut with
  | some st => s.endReceipt j.tag st j.lines j.okR1
  | none =>
    if s.receiptFlag j.tag 0 then
      if !s.flag FEED.STAT_COVER then s.endReceipt j.tag stTorn j.lines j.okR1
      else if !s.ready .loop then s.endReceipt j.tag stAborted j.lines j.okR1
      else if !s.ready .cut then s.endReceipt j.tag stTorn j.lines j.okR1
      else
        let s := (s.recPut 0x15 [1]).modJob j.tag fun j => { j with stage := .cutting }
        s.cutStart j.tag true (s.receiptFlag j.tag 1) true
    else (s.count cntReceipts).endReceipt j.tag stOK j.lines j.okR1

/-- FEED holds the paper at rest, until HOLD_END (R416). -/
def State.feedHold (s : State) : State :=
  let s := s.setFeed fun f => { f with job := .none, dwell := false, target := f.pos, due := 0 }
  if s.feed.onBrake || s.rd FEED.STAT_STATE == 6 then s
  else if s.feedDriving && s.base == .run && s.ready .feed then
    let s := (s.wr FEED.STAT_STATE 3).wind 0
    if s.posLoop < 4 then s.loopOn s.posLoop else s
  else (s.motorHb [.z, .z, .z, .z]).wr FEED.STAT_STATE 0

/-- The commands that waited for the paper to come to rest end, or go on. -/
def State.afterRest (s : State) : State :=
  let s :=
    match s.feed.tag with
    | some t =>
      let st := s.feed.status
      let d := s.countsToLines (s.feed.pos - s.feed.start)
      (s.setFeed fun f => { f with tag := none, status := 0 }).complete t st (toBits 32 d) (s.rd FEED.POS_POS)
    | none => s
  match s.print.jobs.find? fun j => j.stage == .torn || j.stage == .out with
  | some j => if j.stage == .torn then s.endTorn j.tag else s.receiptOut j
  | none => s

/-- What may end or start now does: a RECEIPT whose paper is at rest, the first line of one, or its next band. -/
def State.advancePrint (s : State) : State :=
  let s := if s.feedMoving then s else
    match s.print.jobs.find? fun j => j.stage == .torn || j.stage == .out with
    | some j => if j.stage == .torn then s.endTorn j.tag else s.receiptOut j
    | none => s
  let s := s.setPrint fun p => { p with jobs := p.jobs.map fun j => { j with justTorn := false } }
  match s.printing? with
  | some j => if j.stage == .rest && !s.feedMoving && s.print.firing.isNone then s.nextBand j else s
  | none =>
    match s.print.jobs.find? fun j => j.stage == .render with
    | none => s
    | some j =>
      if s.mayPrint j then
        match s.committedSlot? j.tag 1 with
        | some i => s.startPrint j i
        | none => s
      else s

end Sys2Proof.Machine
end

