-- ==== Sys2Proof/Machine/Copy.lean ====
section
/-! DEFINITION. MOVER's copy engine: the bursts of a descriptor (R229, R232, R235), the ranges a write may not touch
(R190), poison (R248), and the bursts that an interrupted descriptor has done. -/

namespace Sys2Proof.Machine

def State.chan (s : State) (k : Nat) : Chan := s.chans.getD k {}

def State.modChan (s : State) (k : Nat) (f : Chan → Chan) : State := { s with chans := s.chans.modify k f }

/-- Channel states (R236) and owners. -/
def chIdle : Nat := 0
def chRun : Nat := 1
def chParked : Nat := 2
def chError : Nat := 3

/-- Error causes (R247). -/
def cDescAddr : Nat := 1
def cDescField : Nat := 2
def cRange : Nat := 3
def cOverlap : Nat := 4
def cProtected : Nat := 5
def cEccSrc : Nat := 6
def cEccDst : Nat := 7
def cEccDesc : Nat := 8
def cFlash : Nat := 9
def cPoisoned : Nat := 10

/-- The bytes of an image that starts at SRAM address `a` with its header's IMG_LEN, within main SRAM. -/
def State.imageSpan (s : State) (a : Nat) : Nat := min (0x600000 - a) (max 0x180 (s.word32 .sram (a + 8)))

/-- The SRAM ranges, address and length, that host and MOVER writes may not touch (R190): banks of committed and printing
bands (R28), a pushed image under verification (R59), and partial images from their fetch on (R63). -/
def State.protectedRanges (s : State) : List (Nat × Nat) :=
  let bands := ((List.range 3).filter fun i => 2 ≤ s.rd (bandState i)).map fun i => (s.rd (bandBank i) * bankSize, bankSize)
  let push := match s.img.verify with
    | .push a => [(a, s.imageSpan a)]
    | _ => []
  bands ++ push ++ (s.cmds.filter fun c => c.op == 0x01).map fun c => (c.p0, c.p1)

/-- The `len` bytes at SRAM address `a` touch a protected range. -/
def State.isProtected (s : State) (a len : Nat) : Bool := s.protectedRanges.any fun p => a < p.1 + p.2 && p.1 < a + len

/-- The memory that MOVER reads at host address `a`, with its base: a memory with error correction, or flash (R230). -/
def srcSpace (a : Nat) : Option Ram × Nat :=
  if a < 0x08000000 then (some .sram, 0) else if a < 0x10000000 then (some .keep, 0x08000000) else (none, 0x10000000)

/-- The base and size of the region that holds host address `a`, where MOVER may read it (R230). The flash read window counts up to
the installed flash size, which a rod reset of FLASH does not change. -/
def State.srcRegion (s : State) (a : Nat) : Option (Nat × Nat) :=
  if a < 0x600000 then some (0, 0x600000)
  else if 0x08000000 ≤ a && a < 0x08010000 then some (0x08000000, 0x10000)
  else if 0x10000000 ≤ a && a < 0x10000000 + s.fl.size * 0x100000 then some (0x10000000, s.fl.size * 0x100000)
  else none

/-- A descriptor whose source lies in flash. -/
def Desc.fromFlash (d : Desc) : Bool := !d.fill && (srcSpace d.src).1.isNone

/-- The lowest and highest byte address of a descriptor's lines (R231). -/
def spanOf (a : Nat) (stride : Int) (len count : Nat) : Int × Int :=
  let far : Int := a + ((count - 1 : Nat) : Int) * stride
  (min (a : Int) far, max (a : Int) far + len - 1)

/-- Some line's bytes run past 0xFFFF_FFFF or below 0, or leave the region (R230). -/
def State.srcOk (s : State) (d : Desc) : Bool :=
  d.fill ||
    match s.srcRegion d.src with
    | none => false
    | some (base, size) =>
      let p := spanOf d.src d.srcStride d.len d.count
      (base : Int) ≤ p.1 && p.2 < ((base + size : Nat) : Int)

/-- Every destination byte lies in main SRAM (R230). -/
def Desc.dstOk (d : Desc) : Bool :=
  let p := spanOf d.dst d.dstStride d.len d.count
  0 ≤ p.1 && p.2 < 0x600000

/-- The source and destination spans overlap (R231). -/
def Desc.overlaps (d : Desc) : Bool :=
  let p := spanOf d.src d.srcStride d.len d.count
  let q := spanOf d.dst d.dstStride d.len d.count
  !d.fill && p.1 ≤ q.2 && q.1 ≤ p.2

/-- A descriptor's transfer as it goes: the bursts that may still run, the line reached, whether a byte has been written,
the first poisoned word, and why it stopped: cause and address. -/
structure Xfer where
  s : State
  left : Nat
  line : Nat := 0
  wrote : Bool := false
  poisoned : Option Nat := none
  stop : Option (Nat × Nat) := none

/-- The part of a line that one destination word takes: its offset in the line and its bytes. -/
def linePieces (dst len : Nat) : List (Nat × Nat) :=
  (Ram.sram.words dst len).map fun w =>
    let lo := max dst (16 * w)
    (lo - dst, min (dst + len) (16 * w + 16) - lo)

/-- A list in groups of four. -/
def groups4 {α : Type} : List α → List (List α)
  | a :: b :: c :: d :: l => [a, b, c, d] :: groups4 l
  | [] => []
  | l => [l]

/-- The words of the source that the piece at offset `o` reads first: a word that the line has read already is not read
again (R232). -/
def newWords (m : Ram) (a o n : Nat) : List Nat :=
  (m.words a n).filter fun w => o == 0 || w != (a - 1) / m.word

/-- A word of SRAM is written with an uncorrectable check pattern (R248). -/
def State.poisonWord (s : State) (w : Nat) : State :=
  let s := if s.sramUe.contains w then s else { s with sramUe := s.sramUe ++ [w], sramCe := s.sramCe.filter (· != w) }
  s.bump MOVER.ECC_STAT_POISONED

/-- One destination word's part of a line: the source read with its errors, then the write (R232, R248). -/
def Xfer.piece (x : Xfer) (d : Desc) (poison : Bool) (src dst : Nat) (p : Nat × Nat) : Xfer :=
  if x.stop.isSome then x
  else
    let (o, n) := p
    let a := dst + o
    let rd : State × List Nat × Option Nat := match d.fill, srcSpace src with
      | true, _ => (x.s, (List.range n).map fun i => d.src / 256 ^ ((o + i) % 4) % 256, none)
      | false, (none, base) => (x.s, x.s.flashBytes (src + o - base) n, none)
      | false, (some m, base) =>
        let at_ := src + o - base
        ((newWords m at_ o n).foldl (fun s w => s.checkWord m w) { x.s with free := x.s.free + 1 }, x.s.seenBytes m at_ n,
          (x.s.badWord m at_ n).map fun w => m.base + m.word * w)
    let (s, bs, bad) := rd
    let w := a / 16
    let dstBad := n != 16 && s.sramUe.contains w
    match bad, poison with
    | some e, false => { x with s := s, stop := some (cEccSrc, e) }
    | _, _ =>
      if dstBad then
        let s := s.checkWord .sram w
        if poison then { x with s := s.poisonWord w, poisoned := x.poisoned <|> some (16 * w) }
        else { x with s := s, stop := some (cEccDst, 16 * w) }
      else
        let s := s.writeWord .sram a bs w
        if bad.isSome then { x with s := s.poisonWord w, wrote := true, poisoned := x.poisoned <|> some (16 * w) }
        else { x with s := s, wrote := true }

/-- One burst of up to four destination words (R235), the flash and the protected ranges looked at first (R247). A burst read from
flash that erases or programs suspends it (R261). -/
def Xfer.burst (x : Xfer) (d : Desc) (poison : Bool) (line src dst : Nat) (ps : List (Nat × Nat)) : Xfer :=
  if x.stop.isSome || x.left == 0 then x
  else
    let x := { x with left := x.left - 1, line := line }
    let o := ((ps.head?.map (·.1)).getD 0)
    let n := (ps.map (·.2)).foldl (· + ·) 0
    if d.fromFlash && !x.s.ready .flash then { x with stop := some (cFlash, src + o) }
    else if x.s.isProtected (dst + o) n then { x with stop := some (cProtected, dst + o) }
    else
      let x := if d.fromFlash then { x with s := x.s.flashRead } else x
      ps.foldl (fun x p => x.piece d poison src dst p) x

/-- One line (R229). -/
def Xfer.copyLine (x : Xfer) (d : Desc) (poison : Bool) (i : Nat) : Xfer :=
  let src := (d.src + i * d.srcStride).toNat
  let dst := (d.dst + i * d.dstStride).toNat
  (groups4 (linePieces dst d.len)).foldl (fun x ps => x.burst d poison i src dst ps) x

/-- Up to `bursts` bursts of a descriptor. -/
def State.transfer (s : State) (d : Desc) (poison : Bool) (bursts : Nat) : Xfer :=
  (List.range d.count).foldl (fun x i => x.copyLine d poison i) { s := s, left := bursts }

/-- The bursts of the whole descriptor. -/
def Desc.bursts (d : Desc) : Nat :=
  ((List.range d.count).map fun i => (groups4 (linePieces (d.dst + i * d.dstStride).toNat d.len)).length).foldl (· + ·) 0

/-- The channel runs in POISON mode (R248). -/
def State.poisonMode (s : State) (k : Nat) : Bool :=
  if s.rd (MOVER.CH_STATE_OWNER k) == 2 then (s.chan k).poison else s.flag (MOVER.CH_CTRL_ECC_MODE k)

/-- Channel `k` moves up to `bursts` bursts of its descriptor; what stopped it, if anything did. -/
def State.runBursts (s : State) (k bursts : Nat) : State × Option (Nat × Nat) :=
  let c := s.chan k
  let x := s.transfer c.desc (s.poisonMode k) bursts
  let cur := s.rd (MOVER.CH_CUR_ADDR k)
  let t := (x.s.wr (MOVER.CH_PROGRESS_LINE k) x.line).modChan k fun c =>
    { c with wrote := c.wrote || x.wrote, poisonAt := if x.poisoned.isSome then c.poisonAt <|> some cur else c.poisonAt }
  let t := match x.poisoned with
    | some a =>
      if c.poisonAt.isNone then (t.wr (MOVER.CH_STATE_CAUSE k) cPoisoned).wr (MOVER.CH_ERR_ADDR_ADDR k) a else t
    | none => t
  (t, x.stop)

/-- A channel in RUN is stopped from outside after a burst: how many bursts of its descriptor have run is open, and none of a
flash source has while the flash has been busy since the descriptor's start (R232). -/
def State.interrupt (s : State) (k : Nat) : State :=
  if s.rd (MOVER.CH_STATE_STATE k) == chRun && !(s.chan k).stuck then
    let (n, s) := s.openWord
    (s.runBursts k (n % ((s.chan k).desc.bursts + 1))).1
  else s

/-- Every channel in RUN is stopped from outside. -/
def State.interruptAll (s : State) : State := (List.range 16).foldl (fun s k => s.interrupt k) s

end Sys2Proof.Machine
end

