-- ==== Sys2Proof/Machine/Codec.lean ====
section
/-! DEFINITION. What readiness and thermal actions set going in the codecs: slots and holds (R477, R478), the frame that ENC
encodes next (R498 to R504, R509), its pauses and its closing (R499, R511), and the access unit that DEC decodes next (R514). -/

namespace Sys2Proof.Machine

def State.setVid (s : State) (f : Vid → Vid) : State := { s with vid := f s.vid }
def State.setScan (s : State) (f : ScanSt → ScanSt) : State := { s with scan := f s.scan }
def State.setEnc (s : State) (f : Enc → Enc) : State := { s with enc := f s.enc }
def State.setDec (s : State) (f : Dec → Dec) : State := { s with dec := f s.dec }

/-- PLL-V runs, or its consumers are on the fallback clock (R111, R114). -/
def State.pllvOn (s : State) : Bool := s.flag CORE.CLK_STAT_PLLV_LOCK || s.flag CORE.CLK_STAT_PLLV_FALLBACK

/-- SHED_CODEC is in force (R316). -/
def State.shed (s : State) : Bool := s.rdBit THERM.STAT_ACTIVE 3

/-! ### Slots (R477) -/

/-- Slots of `z` bytes in `count` banks, 16 at most. -/
def ringSlots (count z : Nat) : Nat :=
  if z = 0 then 0 else min 16 (if z ≤ bankSize then count * (bankSize / z) else count * bankSize / z)

/-- The SRAM address of slot `i` of a ring from bank `first`. -/
def slotAddr (first z i : Nat) : Nat :=
  if z ≤ bankSize then (first + i / (bankSize / z)) * bankSize + i % (bankSize / z) * z else first * bankSize + i * z

/-- The bytes of an NV12 picture (R475). -/
def nv12 (w h : Nat) : Nat := w * h + w * h / 2

/-- The run of consecutive banks that a rod owns, from its lowest: the first bank and how many (R496, R513). -/
def State.ownRun (s : State) (r : Rod) : Nat × Nat :=
  match (List.range 12).find? fun b => s.bankOwner b == some r with
  | none => (0, 0)
  | some f => (f, (((List.range (12 - f)).map (· + f)).takeWhile fun b => s.bankOwner b == some r).length)

/-- Tap E and tap S slots that are held (R478). -/
def State.heldE (s : State) (i : Nat) : Bool :=
  s.rdBit VIDIN.HOST_HOLD_E i || s.enc.cur.any (fun f => f.slot == i) || s.enc.wait.any (fun f => f.slot == i)
def State.heldS (s : State) (i : Nat) : Bool := s.rdBit VIDIN.HOST_HOLD_S i || s.scan.cur.any fun f => f.1 == i

/-- Open bytes: what the spec leaves to the implementation of a picture. -/
def State.openBytes (s : State) (n : Nat) : State × List Nat :=
  let (k, s) := s.fresh
  (s, (List.range n).map fun i => Config.pixel k i % 256)

/-! ### ENC -/

/-- Buffers lent, shown in ENC.STAT. -/
def State.setLent (s : State) (l : List Nat) : State := (s.setEnc fun e => { e with lent := l }).wr ENC.STAT_LENT l.length

/-- Macroblocks of the stream's picture. -/
def Enc.mbs (e : Enc) : Nat := e.w * e.h / 256

/-- A slice is due: with no buffer lent ENC waits, and the wait is counted (R507). -/
def State.sliceDue (s : State) : State :=
  if s.enc.lent.isEmpty && !s.flag ENC.STAT_NO_BUF then (s.wr ENC.STAT_NO_BUF 1).bump ENC.COUNT_NO_BUF else s

/-- B and DRAIN from ENC.RATE (R509, R510). -/
def State.encRate (s : State) : State :=
  let rate := if s.enc.vbr then s.rd ENC.RATE_MAX_KBPS else s.rd ENC.RATE_KBPS
  s.setEnc fun e => { e with drain := rate, size := rate * u16 (s.beadD 0x0C81 [0xF4, 1]) 0 }

/-- The bucket as F falls by DRAIN × Δt, never below 0 (R509). -/
def Enc.drained (e : Enc) (start : Nat) : Rat :=
  match e.lastStart with
  | none => e.fill
  | some t => max 0 (e.fill - ((e.drain * (start - t) : Nat) : Rat) / 1000)

/-- ENC.BUCKET shows F. -/
def State.showBucket (s : State) : State := s.wr ENC.BUCKET_FILL s.enc.fill.floor.toNat

/-- ENC starts its waiting frame: what it is to be is settled (R499 to R504), REFRESH commands complete (R503), and F
drains (R509). -/
def State.encBegin (s : State) (f : EncFrame) : State :=
  let s := s.encRate
  let e := s.enc
  let k := if e.newSweep then 0 else e.pos
  let s := s.setEnc fun e =>
    { e with cur := some f, wait := none, nextMb := 0, idr := e.idrDue, params := k == 0, resumed := e.resume, bytes := 0,
             newSweep := false, idrDue := false, resume := false, pos := k, refresh := [], fill := e.drained f.start,
             lastStart := some f.start }
  let s := (s.wr ENC.STAT_SWEEP_POS k).showBucket
  (e.refresh.foldl (fun s t => s.complete t stOK 0 0) s).sliceDue

/-- ENC gives up the frame it encodes; the next one is an IDR picture (R504, R512). -/
def State.encAbandon (s : State) : State :=
  if s.enc.cur.isSome then (s.setEnc fun e => { e with cur := none, idrDue := true }).wr ENC.STAT_NO_BUF 0 else s

/-- The stream closes; every lent buffer completes with `status`, and REFRESH commands that wait are ABORTED. -/
def State.encClosed (s : State) (status : Nat) : State :=
  let lent := s.enc.lent
  let refresh := s.enc.refresh
  let s := s.setEnc fun _ => {}
  let s := ((s.wr ENC.STAT_STATE 0).wr ENC.STAT_NO_BUF 0).setLent []
  (s.endAll lent status).endAll refresh stAborted

/-- The stream closes, and with it a STREAM_CLOSE that runs (R511, R512). -/
def State.encFinish (s : State) (status : Nat) : State :=
  match s.enc.closeTag with
  | none => s.encClosed status
  | some t => (s.encClosed status).complete t stOK s.enc.encoded s.enc.skipped

/-- The stream's source is gone: VIDIN is not READY, or no host session delivers the stream's size (R499). -/
def State.encStarved (s : State) : Bool :=
  !s.ready .vidin || s.rd VIDIN.STAT_SESSION != 1 || s.vid.eW != s.enc.w || s.vid.eH != s.enc.h

/-- ENC goes on: it closes, starts its waiting frame, or pauses. -/
def State.encAdvance (s : State) : State :=
  if !s.flag ENC.STAT_STATE then s
  else if s.enc.closeTag.isSome then if s.enc.cur.isNone || s.enc.lent.isEmpty then s.encFinish stAborted else s
  else
    match s.enc.cur, s.enc.wait with
    | some _, _ => s
    | none, some f => if s.pllvOn && !s.hasFault 0x0003 then s.encBegin f else s
    | none, none =>
      if s.rd ENC.STAT_STATE == 1 && s.encStarved then (s.wr ENC.STAT_STATE 2).evt ENC.EVT_PAUSED .enc else s

/-! ### DEC -/

/-- A picture buffer is busy (R514). -/
def State.picBusy (s : State) (i : Nat) : Bool := s.dec.ref == some i || s.dec.cur == some i || s.rdBit DEC.PIC_HOLD_HOLD i

/-- The first buffer that is not busy, in buffer order after the one last written (R514). -/
def State.freePic (s : State) : Option Nat :=
  let n := s.rd DEC.STAT_BUFFERS
  let from_ := match s.dec.last with
    | some i => i + 1
    | none => 0
  ((List.range n).map fun i => (from_ + i) % n).find? fun i => !s.picBusy i

/-- DEC.STAT.STATE and QUEUED. -/
def State.showDec (s : State) : State :=
  let st := if !s.flag DEC.STAT_STATE then 0 else if s.dec.cur.isSome then 2 else if !s.dec.queue.isEmpty && s.freePic.isNone then 3
    else if s.dec.ref.isNone then 1 else 4
  (s.wr DEC.STAT_STATE st).wr DEC.STAT_QUEUED s.dec.queue.length

/-- A loss of R519: no picture is recovered until the next IDR picture or recovery period. -/
def State.decLoss (s : State) : State := (s.wr DEC.STAT_RECOVERED 0).setDec fun d => { d with period := none, lossDue := false }

/-- An access unit has ended by SHED_CODEC (R519): a loss behind the access unit in work, where there is one. -/
def State.shedLoss (s : State) : State := if s.dec.cur.isSome then s.setDec fun d => { d with lossDue := true } else s.decLoss

/-- Access units not yet begun are dropped ABORTED (R316, R520, R522). -/
def State.decDrop (s : State) : State :=
  let keep := if s.dec.cur.isSome then s.dec.queue.take 1 else []
  let gone := if s.dec.cur.isSome then s.dec.queue.drop 1 else s.dec.queue
  gone.foldl (fun s a => s.complete a.1 stAborted 0 0) (s.setDec fun d => { d with queue := keep })

/-- SHED_CODEC drops the access units not yet begun; the pictures that follow are not recovered (R316, R519). -/
def State.decShed (s : State) : State :=
  if s.dec.queue.length ≤ (if s.dec.cur.isSome then 1 else 0) then s else s.decDrop.shedLoss

/-- The stream closes (R522); host holds end. -/
def State.decClosed (s : State) : State :=
  let s := s.setDec fun _ => {}
  let s := ((s.wr DEC.STAT_STATE 0).wr DEC.STAT_BUFFERS 0).wr DEC.STAT_RECOVERED 0
  let s := (s.wr DEC.PIC_HOLD_HOLD 0).wr DEC.PIC_HOLD_REF 0
  (List.range 8).foldl (fun s i => s.wr ⟨DEC.PIC_BASE0_ADDR.addr + 4 * (i % 8), 0, 32⟩ 0) s

/-- DEC goes on: it sheds access units, starts the next, or closes (R316, R514, R522). -/
def State.decAdvance (s : State) : State :=
  if !s.flag DEC.STAT_STATE then s
  else
    let s := if s.shed then s.decShed else s
    let s := match s.dec.cur, s.dec.queue with
      | none, _ :: _ => if s.pllvOn && !s.hasFault 0x0003 then s.setDec fun d => { d with cur := s.freePic } else s
      | _, _ => s
    match s.dec.closeTag with
    | some t => if s.dec.queue.isEmpty then s.decClosed.complete t stOK s.dec.pictures s.dec.concealed else s.showDec
    | none => s.showDec

end Sys2Proof.Machine
end

