-- ==== Sys2Proof/Machine/Held.lean ====
section
/-! DEFINITION. Faults and what they do (R525 to R534), HELD, and readiness (R87 to R92, R33, R34): the one operation
`raise` that every fault goes through, the entry into HELD, and `settle`, which brings readiness, VH and waiting work into
step after an event. -/

namespace Sys2Proof.Machine

/-! ### The catalogue (R527) -/

/-- Faults whose response is HELD. -/
def heldCodes : List Nat :=
  [0x0001, 0x0410, 0x0411, 0x0501, 0x0502, 0x0503, 0x0520, 0x0521, 0x0630, 0x0802, 0x0803, 0x0804, 0x0820, 0x0920]

/-- Of those, the faults at which the bridges go high-impedance rather than being braked (R529). -/
def freeCodes : List Nat := [0x0520, 0x0521, 0x0820, 0x0920]

/-- Faults that an OK release clears (R532). -/
def releaseCodes : List Nat := [0x0001, 0x0410, 0x0411, 0x0501, 0x0502, 0x0503, 0x0520, 0x0521, 0x0630, 0x0920]

/-- A bead cause or SELF_TEST (R73, R74). -/
def causeCode (code : Nat) : Bool := 0xE0 ≤ code % 256 && code % 256 ≤ 0xE3

/-- A rod's fault that keeps it from being READY (R527). -/
def notReadyCode (r : Rod) (code : Nat) : Bool :=
  if r == .core then false
  else if code % 256 == 0xD0 then true
  else if causeCode code then !(r == .link || r == .flash)
  else [0x0201, 0x0202, 0x0601, 0x0602, 0x0610, 0x0801, 0x0802, 0x0803, 0x0804, 0x0820, 0x0901, 0x0902, 0x0904, 0x0910,
        0x0920, 0x0B01, 0x0B02, 0x0B03, 0x0B04].contains code

/-- A rod has a bead cause or SELF_TEST. -/
def State.hasCause (s : State) (r : Rod) : Bool := (s.faultsOf r).any fun f => causeCode f.code

/-! ### Entry into HELD (R528, R529) -/

/-- The rod whose number an opcode carries (R215). -/
def Cmd.rod (c : Cmd) : Nat := c.op / 16

/-- A command of PRINT, FEED or CUT. -/
def Cmd.mech (c : Cmd) : Bool := c.rod == 6 || c.rod == 8 || c.rod == 9

/-- Why the discharge switch of VH is on, with its report: until VH is below 1.0 V (R141, R143), and while VH lies above its
ramp setpoint (R137). -/
def State.vhSwitch (s : State) (empty high : Bool) : State :=
  { s with sup := { s.sup with vhEmpty := empty, vhOver := high } }.wrB SUPPLY.VH_STAT_DISCHARGING (empty || high)

/-- VH stops: it no longer switches, and the discharge switch turns on (R141). -/
def State.vhStop (s : State) : State :=
  if s.flag SUPPLY.VH_STAT_ON then
    (((s.wr SUPPLY.VH_STAT_ON 0).wr SUPPLY.VH_STAT_SETTLED 0).vhSwitch true false).setPrint fun p => { p with vhSettled := false }
  else s

/-- Brake-path bridges that drive now, one bit each (R83). -/
def State.drivenMask (s : State) : Nat :=
  (if s.feedDriving then (if s.brushless then 7 else 15) else 0) ||| (if s.auxDriving then 8 else 0) |||
    (if s.cutDriving then 48 else 0)

/-- Every bridge goes high-impedance, which ends every hold of the low-side switches (R153, R154, R407, R529). -/
def State.bridgesZ (s : State) : State :=
  let s := { s with boot := { s.boot with brake := 0 } }
  let s := (s.setFeed fun f => { f with hb := [.z, .z, .z, .z], aux := .off, onBrake := false }).setCut fun c => { c with hb := [.z, .z] }
  let s := if s.rd FEED.STAT_STATE == 6 then s.wr FEED.STAT_STATE (if s.feedMoving then 2 else 0) else s
  s.wr CORE.HELD_STAT_BRAKE 0

/-- The bridges of FEED, CUT and AUX at an entry into HELD (R421, R529): those that drive are braked, or all six go
high-impedance. -/
def State.heldBridges (s : State) (z : Bool) : State :=
  let driven := s.drivenMask
  let h := if z then Hb.z else .low
  let s := if s.feedDriving || s.feedMoving then s.feedCut h else s
  let s := s.setFeed fun f => if f.aux == .off then f else { f with aux := .off, hb := f.hb.set 3 (if s.auxDriving then h else .z) }
  let s := if s.cutDriving then ((s.loopOff s.cutLoop).setCut fun c => { c with hb := [h, h], duty := 0 }).wr CUT.STAT_STATE 5 else s
  if z then s.bridgesZ else if driven != 0 then s.wr CORE.HELD_STAT_BRAKE 1 else s

/-- The work of PRINT, FEED and CUT at an entry into HELD (R529): the printing RECEIPT is torn with cause 5, the others and
every command that waits complete HELD, a cut ends with cause 5, a move ends HELD at rest, probes and dry-outs end. -/
def State.heldWork (s : State) : State :=
  let s := s.tear 5 false
  let s := (s.cmds.filter fun c => c.op == 0x60 && c.started && (s.job? c.tag).isNone).foldl (fun s c => s.endCheck c.tag stHeld) s
  let s := (s.print.jobs.filter fun j => j.stage == .render).foldl (fun s j => s.endReceipt j.tag stHeld) s
  let s := s.setPrint fun p => { p with jobs := p.jobs.map fun j => if j.stage == .out then { j with noCut := some stHeld } else j }
  let s := if s.feed.tag.isSome then s.setFeed fun f => { f with status := stHeld } else s
  let s := if s.cutDriving || s.cut.tag.isSome then (s.setCut fun c => { c with needHome := true }).cutEnd 5 else s
  let s := match s.print.probe with
    | some t => (s.setPrint fun p => { p with probe := none }).endOpen t stHeld
    | none => s
  let s := match s.print.dry with
    | some d => match d.tag with
      | some t => s.complete t stHeld ((s.clock - d.since) / 1000) (s.rd PRINT.PROBE_LEAK)
      | none => s
    | none => s
  let s := (s.setPrint fun p => { p with dry := none }).abandonRecheck
  (s.cmds.filter fun c => c.mech && !c.started).foldl (fun s c => s.endOpen c.tag stHeld) s

/-- The MB7140 enters HELD (R528, R529). -/
def State.enterHeld (s : State) (code : Nat) : State :=
  let s := ((s.wr CORE.HELD_CAUSE code).bump CORE.HELD_STAT_ENTRIES).rodVec .core
  let s := s.heldWork
  let s := (s.quiet).vhStop
  let s := s.heldBridges (freeCodes.contains code)
  let s := if s.feedMoving then s else s.afterRest
  let s := s.wr PRINT.STAT_STATE (if s.print.jobs.isEmpty then 0 else 3)
  { s with base := .held }

/-- The mark of a rod reset in progress (R94, R188). -/
def State.markReset (s : State) (r : Rod) (on : Bool) : State :=
  let m := s.boot.resetting - (s.boot.resetting &&& 2 ^ r.idx)
  { s with boot := { s.boot with resetting := if on then m + 2 ^ r.idx else m } }

/-- A rod that faults in its reset takes register writes again (R188). -/
def State.faultMark (s : State) (code : Nat) : State :=
  match Rod.ofNat? (code / 256) with
  | some r => if notReadyCode r code then s.markReset r false else s
  | none => s

/-- A rod raises a fault (R525): in TALLY the device wakes first (R128); a fault whose response is HELD enters HELD. -/
def State.raise (s : State) (code p1 p2 : Nat) : State :=
  match s.base with
  | .cleared => s
  | .tally =>
    let s := { s with wake := { s.wake with faults := s.wake.faults ++ [(code, p1, p2)] } }
    if s.wake.waking then s else { s with wake := { s.wake with waking := true } }.wr CORE.MODE_WAKE_SRC 9
  | .run =>
    let s := (s.addFault code p1 p2).faultMark code
    if heldCodes.contains code then s.enterHeld code else s
  | .held =>
    let s := (s.addFault code p1 p2).faultMark code
    if freeCodes.contains code then s.bridgesZ else s

/-- The first address of a range at which a bank check fails (R27). -/
def refusedAt (ok : Nat → Bool) (a len : Nat) : Nat :=
  match (banksOf a len).find? fun b => !ok (b * bankSize) with
  | some b => max a (b * bankSize)
  | none => a

/-- An access outside R26 is not performed: the rod raises BANK_ACCESS with the refused address, and the command that asked
for it ends as at a rod reset (R27, R94). The rod's READY falls with the fault. -/
def State.bankAccess (s : State) (r : Rod) (a t : Nat) : State := (s.raise (256 * r.idx + 0xD0) 0 a).endOpen t stAborted

/-- `bankAccess` for a buffer that the rod may not write. -/
def State.refuseWrite (s : State) (r : Rod) (a len t : Nat) : State := s.bankAccess r (refusedAt (s.mayWrite r · 1) a len) t

/-- `bankAccess` for a range that the rod may not read. -/
def State.refuseRead (s : State) (r : Rod) (a len t : Nat) : State := s.bankAccess r (refusedAt (s.mayRead r · 1) a len) t

/-! ### Readiness (R33, R87, R390, R427, R436) -/

/-- The suppliers of the kind "Always" beside CORE and MOVER (R32). -/
def always : Rod → List Rod
  | .print => [.raster, .supply, .therm]
  | .feed => [.loop, .supply]
  | .cut => [.loop]
  | .enc => [.vidin]
  | .scan => [.vidin]
  | .ledger => [.flash]
  | _ => []

/-- The suppliers of the kind "Always", with CORE and MOVER (R32). -/
def State.supplied (s : State) (r : Rod) : Bool :=
  (always r).all s.ready &&
    match r with
    | .core => true
    | .link | .flash | .mover => s.ready .core
    | _ => s.ready .core && s.ready .mover

/-- PLL-S is granted: locked, or with its consumers on the fallback clock (R109, R116). -/
def State.clocked (s : State) : Bool := s.flag CORE.CLK_STAT_PLLS_LOCK || s.flag CORE.CLK_STAT_PLLS_FALLBACK

/-- CORE has a bead cause (R74). -/
def State.coreCause (s : State) : Bool := s.img.causes.any fun c => c.1 < 0x100

/-- Rods beyond CORE, LINK and FLASH are READY only under an image whose section for CORE has no cause (R61, R74). -/
def State.configured (s : State) (r : Rod) : Bool :=
  r == .core || r == .link || r == .flash || (s.imageApplied && !s.coreCause)

/-- The rod's base clocks are granted (R110). PLL-S, once granted, stays so, and the FRC runs in every mode that serves; the
HFXO's loss clears VIDIN, ENC and DEC (R108), and PLL-V's third failure does (R111). CORE's own reset precedes them all. -/
def State.baseClocks (s : State) (r : Rod) : Bool :=
  match r with
  | .core => true
  | .print | .feed | .cut | .loop => s.clocked && s.flag CORE.CLK_STAT_FRC_ON
  | .vidin => s.clocked && s.flag CORE.CLK_STAT_HFXO_OK && !s.hasFault 0x0003
  | .enc | .dec => s.clocked && !s.hasFault 0x0003 && !s.hasFault 0x0004
  | _ => s.clocked

/-- Every rod but CORE and FLASH waits for the zero fill of main SRAM (R30, R86). -/
def State.filled (s : State) (r : Rod) : Bool := r == .core || r == .flash || !s.boot.fill

/-- A rod's own conditions for READY, its suppliers apart. -/
def State.ownReady (s : State) (r : Rod) : Bool :=
  s.has r && s.boot.tested.testBit r.idx && s.configured r && !(s.faultsOf r).any (fun f => notReadyCode r f.code) &&
    s.baseClocks r && s.filled r &&
    match r with
    | .print => s.clk.frcEver && s.print.vhSettled && s.print.probed && s.print.dryHead
    | .feed => s.boot.brake == 0 && (s.faultsOf .feed).isEmpty
    | .cut => s.boot.brake == 0 && (s.faultsOf .cut).isEmpty && !s.cut.needHome && s.flag FEED.STAT_COVER &&
        s.flag CUT.STAT_HOME
    | .ledger => s.flag LEDGER.STAT_MOUNTED
    | _ => true

/-- FEED has lost LOOP or SUPPLY: the paper is braked on the always-on brake path (R32). -/
def State.feedLost (s : State) : State :=
  let s := if s.feed.tag.isSome then s.setFeed fun f => { f with status := stTorn } else s
  if s.base == .run then s.feedBrakePath else s

/-- What a rod's loss does to work that runs (R32, R384). -/
def State.lost (s : State) (r : Rod) : State :=
  match r with
  | .supply => (s.tear 4 false).feedLost
  | .loop => (s.feedLost).cutAbort 6
  | .therm => s.tear 4
  | .feed => if s.encLocked then s.tear 4 else s
  | _ => s

/-- A rod's bit of ROD_READY follows its conditions; each change asserts its vector (R87, R34). -/
def State.updateReady (s : State) (r : Rod) : State :=
  let now := s.ownReady r && s.supplied r
  if s.ready r == now then s
  else
    let s := (s.wrBit CORE.ROD_READY_READY r.idx now).rodVec r
    let s := if now then s.markReset r false else s
    let s := if now && r == .therm then { s with therm := { s.therm with mon := false } } else s
    if now then (if r == .flash && s.imageApplied then s.wr RASTER.STAT_STORE 1 else s) else s.lost r

/-- The order in which readiness is brought into step: every supplier before its dependants. -/
def readyOrder : List Rod :=
  [.core, .link, .flash, .mover, .therm, .supply, .loop, .raster, .feed, .print, .cut, .vidin, .enc, .dec, .scan, .ledger]

/-- The first condition of R390 that fails, as PRINT.STAT.WAIT_REASON. -/
def State.printWait (s : State) : Nat :=
  if s.ready .print then 0
  else if !s.boot.tested.testBit 6 then 7
  else if !s.supplied .print then 1
  else if !s.clk.frcEver then 2
  else if !s.print.vhSettled then 3
  else if !s.print.probed then 4
  else if !s.print.dryHead then 5
  else 6

/-- FEED.STAT.WAIT_REASON (R427). -/
def State.feedWait (s : State) : Nat :=
  if s.ready .feed then 0
  else if !s.supplied .feed then 1
  else if s.boot.brake != 0 then 2
  else if s.hasCause .feed then 5
  else if !(s.faultsOf .feed).isEmpty then 4
  else 3

/-- CUT.STAT.WAIT_REASON (R436). -/
def State.cutWait (s : State) : Nat :=
  if s.ready .cut then 0
  else if !s.supplied .cut then 1
  else if !s.flag FEED.STAT_COVER then 2
  else if s.hasCause .cut || !s.boot.tested.testBit 9 then 5
  else if !(s.faultsOf .cut).isEmpty then 4
  else 3

/-- The rods whose readiness a command needs: its own; for the probe commands, MOTOR_CHECK and HOME, those that their own rules
name (R391, R428, R434). -/
def Cmd.needs (c : Cmd) : List Rod :=
  match c.op with
  | 0x61 | 0x62 => [.supply, .therm]
  | 0x81 => [.supply, .loop]
  | 0x91 => [.loop]
  | _ => c.rods

/-- A rod takes no command (R68, R94): it is in steps 2 to 5 of a partial apply, or its self-test after a reset is due. -/
def State.heldOff (s : State) (r : Rod) : Bool :=
  s.inApply r || (s.boot.resetting.testBit r.idx && !s.boot.tested.testBit r.idx)

/-- What a command needs READY is READY: the rods, and the conditions beside them that its own rule names (R391, R428, R430,
R434). A rod in a partial apply or in its reset takes no command (R68, R94). -/
def State.cmdReady (s : State) (c : Cmd) : Bool :=
  c.needs.all s.ready && !c.rods.any s.heldOff &&
    match c.op with
    | 0x61 | 0x62 => s.flag SUPPLY.VH_STAT_ON && !s.hasCause .print
    | 0x81 => !s.hasCause .feed
    | 0x91 => s.flag FEED.STAT_COVER && !s.hasCause .cut
    | 0x80 => s.flag FEED.STAT_COVER && (s.flag FEED.STAT_PAPER || c.p2.testBit 0 || ofBits 32 c.p0 < 0)
    | _ => true

/-- A command of the same rod that was fetched earlier runs: the wait behind it is one under R212. -/
def State.behind (s : State) (c : Cmd) : Bool :=
  ((s.cmds.takeWhile fun x => x.tag != c.tag).any fun x => x.started && x.rods.any fun r => c.rods.contains r)

/-- A RECEIPT stands at the head of the order of an engaged rod that is not READY (R214). RASTER's part of one that has started
goes on without it (R34). -/
def State.headWaits (s : State) (c : Cmd) : Bool :=
  c.rods.any fun r => s.firstIn c.tag r && !s.ready r && !(c.started && r == .raster)

/-- A started RECEIPT waits for readiness: RASTER for FLASH (R33, R358), or its first line for its rods, the paper or a dry
head (R214, R395, R430). -/
def State.receiptWaits (s : State) (c : Cmd) : Bool :=
  match s.job? c.tag with
  | none => s.rd RASTER.STAT_STATE == 4
  | some j =>
    (s.rd RASTER.STAT_STATE == 4 && j.committed < j.bands && j.failed == none) ||
      (j.stage == .render && (s.headWaits c || !s.paperOk || (j.wet && !s.print.dryHead)))

/-- A command waits for readiness (R88), other than behind a command of its rod that runs (R212, R214). -/
def State.waits (s : State) (c : Cmd) : Bool :=
  if c.op == 0x60 then if c.started then s.receiptWaits c else s.headWaits c
  else !c.started && !s.cmdReady c && !s.behind c

/-- Commands that wait for readiness (R90). -/
def State.waiting (s : State) : List Cmd := s.cmds.filter s.waits

/-- A command's wait ends NOT_READY at once: a rod that it needs is not READY and has a bead cause or SELF_TEST (R91), or its
ready-wait time is 0 (R88). -/
def State.waitEnds (s : State) (c : Cmd) : Bool :=
  c.wait == 0 || (c.needs ++ c.rods).any fun r => !s.ready r && s.hasCause r

/-- A command's wait ends without readiness, and it completes NOT_READY (R89, R214). A RECEIPT that waits for the flash store ends
with FLASH_WAIT at the item that waits (R327, R358). -/
def State.waitOver (s : State) (c : Cmd) : State :=
  if c.op == 0x60 && c.started then
    match s.job? c.tag with
    | none => (s.rasterErr s.raster.waitAt 11).endCheck c.tag stNotReady
    | some j =>
      if s.rd RASTER.STAT_STATE == 4 && j.committed < j.bands && j.failed == none then s.renderStop j s.raster.waitAt 11
      else
        let (a, s) := s.openWord
        let (b, s) := s.openWord
        s.endReceipt c.tag stNotReady a b
  else s.endOpen c.tag stNotReady

/-- The waits that end at once do, and of those that go on the 32 that were fetched first keep their tags (R88, R90, R91). -/
def State.dropWaiting (s : State) : State :=
  let s := (s.waiting.filter s.waitEnds).foldl (fun s c => s.waitOver c) s
  (s.waiting.drop 32).foldl (fun s c => s.waitOver c) s

/-- The conditions under which VH runs (R141). -/
def State.vhAllowed (s : State) : Bool :=
  s.flag SUPPLY.VH_CTL_EN && u8 (s.beadD 0x0500 []) 0 == 1 && s.ready .supply && s.base == .run && !s.inReset

/-- VH starts: the ramp setpoint rises from the measured VH (R141); a discharge that runs goes on until VH is below 1.0 V. -/
def State.vhStart (s : State) : State :=
  let from_ := Config.vhMeasured s.free
  let s := s.fresh.2
  let s := { s with sup := { s.sup with vhUv := from_ } }
  ((s.wr SUPPLY.VH_STAT_ON 1).wr SUPPLY.VH_STAT_SETTLED 0).wr SUPPLY.VH_STAT_RAMP (min 255 (from_ / 50000 - 100))

/-- VH starts or stops as its conditions begin or end (R141); a stop tears what prints (R384). -/
def State.updateVh (s : State) : State :=
  if s.flag SUPPLY.VH_STAT_ON then if s.vhAllowed then s else (s.vhStop).tear 2
  else if s.vhAllowed then s.vhStart else s

def State.setImg (s : State) (f : Img → Img) : State := { s with img := f s.img }

/-- A target rod has finished step 5 of R68: it is READY, or its self-test has passed, every target among its "Always"
suppliers has finished, and a supplier keeps it from READY. -/
def State.targetDone (s : State) (a : Apply) (r : Rod) : Bool :=
  s.ready r || (s.boot.tested.testBit r.idx && !s.supplied r &&
    (always r).all fun x => !a.targets.testBit x.idx || a.done.testBit x.idx)

/-- The targets of a partial apply that have now finished step 5. -/
def State.targetsDone (s : State) (a : Apply) : Apply :=
  readyOrder.foldl (fun a r =>
    if a.targets.testBit r.idx && !a.done.testBit r.idx && s.targetDone a r then
      { a with done := a.done ||| 2 ^ r.idx, ok := if s.ready r then a.ok ||| 2 ^ r.idx else a.ok }
    else a) a

/-- Steps 5 and 6 of R68: when every target rod has finished, the command completes (R69). -/
def State.advanceApply (s : State) : State :=
  match s.img.apply with
  | none => s
  | some a =>
    let a := s.targetsDone a
    if a.done == a.targets then
      ((s.setImg fun i => { i with apply := none }).wr CORE.IMG_STAT_STATE 3).complete a.tag
        (if a.ok == a.targets then stOK else stNotReady) a.ok (a.targets - a.ok)
    else s.setImg fun i => { i with apply := some a }

/-- After an event: readiness, waiting commands, VH, and work that may now start. -/
def State.settle (s : State) : State :=
  if !s.awake then s
  else
    let s := readyOrder.foldl (fun s r => s.updateReady r) s
    let s := s.dropWaiting
    let s := s.updateVh
    let s := (s.updateReady .print).advanceApply
    let s := (s.takeSlot.advancePrint.advanceCut.updateReady .cut).encAdvance.decAdvance
    ((s.wr PRINT.STAT_WAIT_REASON s.printWait).wr FEED.STAT_WAIT_REASON s.feedWait).wr CUT.STAT_WAIT_REASON s.cutWait

end Sys2Proof.Machine
end

