-- ==== Sys2Proof/Machine/Clocks.lean ====
section
/-! DEFINITION. Clock sources, the two PLLs and their relocking (R105 to R117), and the change of operating point
(R118 to R122). -/

namespace Sys2Proof.Machine

def State.setClk (s : State) (f : Clk → Clk) : State := { s with clk := f s.clk }

def State.setPll (s : State) (f : Pll → Pll) : State := s.setClk fun c => { c with plls := f c.plls }

/-! ### The low-frequency source (R107) -/

/-- LFXO_STABLE: the LFXO has run stably for 4096 cycles, and the LF source switches to it. -/
def execLfxoStable (s : State) : Host.Outcome State Fault Refusal :=
  if s.boot.off || !s.clk.lfTry then .next s
  else .next ((s.setClk fun c => { c with lfTry := false }).wr CORE.CLK_STAT_LF_SRC 0)

/-- LFXO_LOSS: the LF source switches back to the LFRC, and vector 16 is asserted. -/
def execLfxoLoss (s : State) : Host.Outcome State Fault Refusal :=
  if s.boot.off then .next s
  else
    let used := !s.flag CORE.CLK_STAT_LF_SRC
    let s := (s.setClk fun c => { c with lfTry := false }).wr CORE.CLK_STAT_LF_SRC 1
    .next (if used then s.rodVec .core else s)

/-- LFXO_RETRY: the LFXO is tried again. -/
def execLfxoRetry (s : State) : Host.Outcome State Fault Refusal :=
  if s.boot.off || !s.flag CORE.CLK_STAT_LF_SRC then .next s else .next (s.setClk fun c => { c with lfTry := true })

/-! ### PLL-S -/

/-- PLL-S is relocked at `mhz`: its consumers move to the fallback clock, and its output is gated (R114). A relock at the
present frequency is one at the previous frequency (R117). -/
def State.relock (s : State) (mhz : Nat) : State :=
  let cur := s.rd CORE.CLK_STAT_PLLS_MHZ
  let s := s.setPll fun _ => { goal := mhz, prev := cur, fails := 0, active := true, back := mhz == cur }
  (s.wr CORE.CLK_STAT_PLLS_LOCK 0).wr CORE.CLK_STAT_PLLS_FALLBACK 1

/-! ### The return to RECKON, and the host's register writes -/

/-- The heartbeat's count restarts from the full period (R101). -/
def State.hbRestart (s : State) : State := s.setClk fun c => { c with hbSince := s.clock }

/-- The clocks on the return to RECKON (R128, R129): PLL-S locked, or its consumers on the fallback clock where the HFXO
failed to start (R108). -/
def State.clocksOn (s : State) : State :=
  let s := s.wr CORE.CLK_STAT_FRC_ON 1
  if s.wake.faults.any fun f => f.1 == 0x0004 then (s.relock (s.rd CORE.CLK_STAT_PLLS_MHZ))
  else if s.clk.plls.active then (s.wr CORE.CLK_STAT_HFXO_OK 1).wr CORE.CLK_STAT_PLLS_FALLBACK 1
  else (s.wr CORE.CLK_STAT_HFXO_OK 1).wr CORE.CLK_STAT_PLLS_LOCK 1

/-- The HFXO has started: a calibration of the FRC is due (R106, R281). -/
def State.frcCalDue (s : State) : State := { s with bg := { s.bg with frcDue := s.bg.frcDue || s.flag CORE.CLK_STAT_HFXO_OK } }

/-- The device is in RECKON again (R101, R128): WOKE is set, vector 16 asserted, the heartbeat and the idle count restart, and
the fault conditions that were met in TALLY are raised, the lowest code first (R526, R528). -/
def State.exitTally (s : State) : State :=
  let faults := s.wake.faults
  let s := s.clocksOn.frcCalDue
  let s := { s.setWake (fun w => { w with waking := false, entering := false, faults := [] }) with base := .run }
  let s := (((s.wr CORE.MODE_WOKE 1).rodVec .core).hbRestart).idleRestart
  ((faults.insertionSort fun a b => a.1 ≤ b.1).foldl (fun s f => s.raise f.1 f.2.1 f.2.2) s).settle

/-- HL_CS_N falls: while TALLY is being entered the device returns to RECKON (R161). -/
def State.csFall (s : State) : State :=
  if s.base == .tally && s.wake.entering && !s.inReset && s.bank 0 then s.exitTally else s

/-- A host link transaction, a low period of HL_CS_N in which HL_CLK rises, restarts the idle count (R124). -/
def State.linkBegin (s : State) : State :=
  let s := s.csFall
  if s.awake && s.bank 0 then s.idleRestart else s

/-- A host write of one register of rod `r` as a command of its own: a WRITE transaction that the link executes (R160, R174)
restarts the idle count (R124), and writes nothing on a part that lacks the rod (R4) or while the rod takes no writes
(R188). -/
def State.hostReg (s : State) (r : Rod) (f : State → State) : State :=
  let s := s.linkBegin
  if !s.linkOn then s
  else if s.untrained then s.linkErr LINK.ERR_UNTRAINED
  else if !s.has r || s.writesBlocked r then s
  else f s

/-- A host read of a register of rod `r` that has an effect, as a command of its own: a READ transaction that the link executes
(R160, R174, R186). -/
def State.hostRead (s : State) (r : Rod) (f : State → State) : State :=
  let s := s.linkBegin
  if !s.linkOn then s
  else if s.untrained then s.linkErr LINK.ERR_UNTRAINED
  else if s.has r then f s else s

/-- A relock attempt of a change of operating point is counted. -/
def State.attempt (s : State) : State :=
  if s.clk.dvfs == .relockUp || s.clk.dvfs == .relockDown then s.bump CORE.DVFS_STAT_ATTEMPTS else s

/-! ### Operating points -/

/-- Frequency and VCORE of operating point `p` (R118). -/
def oppMhz (p : Nat) : Fld := ⟨CORE.OPP0_PLLS_MHZ.addr + 4 * (p % 4), 0, 9⟩
def oppMv (p : Nat) : Fld := ⟨CORE.OPP0_VCORE_10MV.addr + 4 * (p % 4), 16, 8⟩

/-- VCORE's target becomes `lvl`; an equal target does nothing (R133, R135). -/
def State.vcoreTarget (s : State) (lvl : Nat) : State :=
  if s.rd SUPPLY.VCORE_TGT_LEVEL == lvl then s else (s.wr SUPPLY.VCORE_TGT_LEVEL lvl).wr SUPPLY.VCORE_STAT_SETTLED 0

/-- A change of operating point enters a phase. -/
def State.phase (s : State) (p : DvfsPhase) : State := s.setClk fun c => { c with dvfs := p }

/-- A change ends without being busy any more, and vector 16 is asserted (step 4 of R120). -/
def State.dvfsIdle (s : State) : State := ((s.phase .idle).wr CORE.DVFS_STAT_BUSY 0).rodVec .core

/-- Step 4 of R120: the point is in force. -/
def State.dvfsDone (s : State) : State :=
  ((s.wr CORE.DVFS_STAT_CUR_POINT s.clk.point).setClk fun c => { c with inForce := true }).dvfsIdle

/-- PLL-S is relocked at the frequency of the point that is moved to. -/
def State.dvfsRelock (s : State) (p : DvfsPhase) : State := ((s.phase p).relock (s.rd (oppMhz s.clk.point))).attempt

/-- Steps 2 and 3 of R120 from the wait for VCORE on. -/
def State.dvfsSettled (s : State) : State :=
  if s.flag SUPPLY.VCORE_STAT_SETTLED then
    match s.clk.dvfs with
    | .rise => s.dvfsRelock .relockUp
    | .fall | .level => s.dvfsDone
    | _ => s
  else s

/-- VCORE is sent to the point's level, and waited for. -/
def State.dvfsVcore (s : State) (p : DvfsPhase) : State := ((s.phase p).vcoreTarget (s.rd (oppMv s.clk.point))).dvfsSettled

/-- A change to operating point `p` starts (R120). -/
def State.dvfsStart (s : State) (p : Nat) : State :=
  let f1 := s.rd CORE.CLK_STAT_PLLS_MHZ
  let f2 := s.rd (oppMhz p)
  let s := ((s.setClk fun c => { c with point := p }).wr CORE.DVFS_STAT_BUSY 1).wr CORE.DVFS_STAT_ATTEMPTS 0
  if f1 < f2 then s.dvfsVcore .rise else if f2 < f1 then s.dvfsRelock .relockDown else s.dvfsVcore .level

/-- A change to the last point written while another was busy starts (R121). -/
def State.dvfsPending (s : State) : State :=
  if s.flag CORE.DVFS_STAT_PENDING && !s.flag CORE.DVFS_STAT_BUSY then (s.wr CORE.DVFS_STAT_PENDING 0).dvfsStart s.clk.nextPoint
  else s

/-- A write of CORE.DVFS (R120, R121); before an image is applied no point is defined, and only the field is stored. -/
def State.writeDvfs (s : State) (w : Word) : State :=
  let p := field w 0 2
  let s := s.wr CORE.DVFS_POINT p
  if !s.imageApplied then s
  else if s.flag CORE.DVFS_STAT_BUSY then (s.setClk fun c => { c with nextPoint := p }).wr CORE.DVFS_STAT_PENDING 1
  else if s.clk.inForce && s.rd CORE.DVFS_STAT_CUR_POINT == p then s
  else s.dvfsStart p |>.dvfsPending

/-- DVFS_POINT_WRITE. -/
def execDvfsPointWrite (w : BitVec 32) (s : State) : Host.Outcome State Fault Refusal :=
  .next (s.hostReg .core fun s => (s.writeDvfs w).settle)

/-! ### Locks, trips and failures -/

/-- PLL-S has held lock for 16 reference cycles: its gate opens and its consumers return (R114). A change of operating
point goes on; one that fell back to the previous frequency ends (R117). -/
def State.lockS (s : State) : State :=
  if s.flag CORE.CLK_STAT_HFXO_OK && s.clk.plls.active then
    let p := s.clk.plls
    let s := s.setPll fun p => { p with active := false, fails := 0 }
    let s := ((s.wr CORE.CLK_STAT_PLLS_LOCK 1).wr CORE.CLK_STAT_PLLS_FALLBACK 0).wr CORE.CLK_STAT_PLLS_MHZ p.goal
    match s.clk.dvfs with
    | .relockUp => (if p.back then s.dvfsIdle else s.dvfsDone).dvfsPending
    | .relockDown => (if p.back then s.dvfsIdle else s.dvfsVcore .fall).dvfsPending
    | _ => s
  else s

/-- VIDIN's sensor is powered (R470, R473). -/
def State.sensorPowered (s : State) : Bool := s.has .vidin && 1 ≤ s.rd VIDIN.STAT_STATE && s.rd VIDIN.STAT_STATE ≤ 3

/-- CAM_MCLK runs: VIDIN requests it while its sensor is powered, and the HFXO, which drives it, runs (R108, R110, R125). -/
def State.camMclk (s : State) : Bool := s.awake && s.sensorPowered && s.flag CORE.CLK_STAT_HFXO_OK && s.bank 4

/-- CAM_PWDN, high while power-down is asserted, and CAM_RST_N, low while reset is (R470, R473, R545). -/
def State.camPwdn (s : State) : Bool := !(s.awake && s.sensorPowered && s.bank 4)
def State.camRstN (s : State) : Bool := s.awake && s.sensorPowered && s.bank 4

/-- VIDIN requests PLL-V while its sensor is powered (R470, R473), and ENC and DEC while they have work (R109). -/
def State.pllvReq (s : State) : Nat :=
  let powered := s.sensorPowered
  let wants := fun r => match r with
    | Rod.vidin => s.queuedFor [.vidin, .scan] || powered || s.flag VIDIN.STAT_SESSION
    | .enc => s.queuedFor [.enc] || s.flag ENC.STAT_STATE
    | _ => s.queuedFor [.dec] || s.flag DEC.STAT_STATE
  ([Rod.vidin, .enc, .dec].map fun r => if s.has r && wants r then 2 ^ r.idx else 0).foldl (· + ·) 0

/-- PLL-V is requested, or kept running (R109, R113). -/
def State.pllvWanted (s : State) : Bool :=
  s.pllvReq != 0 || (s.flag CORE.CLK_REQ_PLLV_WARM && s.base == .run) || s.clk.pllvRelock

/-- PLL-V has locked (R111, R114). -/
def State.lockV (s : State) : State :=
  if s.flag CORE.CLK_STAT_HFXO_OK && s.pllvWanted && !s.flag CORE.CLK_STAT_PLLV_LOCK && !s.clk.pllvFailed then
    let s := s.setClk fun c => { c with pllvFails := 0, pllvRelock := false }
    ((s.wr CORE.CLK_STAT_PLLV_LOCK 1).wr CORE.CLK_STAT_PLLV_FALLBACK 0).clearFault 0x0003
  else s

/-- PLL_LOCK: a PLL has held lock for 16 reference cycles. -/
def execPllLock (p : PllId) (s : State) : Host.Outcome State Fault Refusal :=
  if s.awake then .next (match p with | .s => s.lockS | .v => s.lockV).settle else .next s

/-- CLOCK_GRANT: a source is running and stable (R109). The HFXO running again clears HFXO_FAIL. -/
def execClockGrant (src : ClkSrc) (s : State) : Host.Outcome State Fault Refusal :=
  if s.awake then
    match src with
    | .frc => .next (s.wr CORE.CLK_STAT_FRC_ON 1).settle
    | .hfxo =>
      if s.clk.hfxoStart then
        .next (((s.setClk fun c => { c with hfxoStart := false }).wr CORE.CLK_STAT_HFXO_OK 1).frcCalDue.clearFault 0x0004).settle
      else .next s
    | .plls => .next s.lockS.settle
    | .pllv => .next s.lockV.settle
  else .next s

/-- CLOCK_STOP: a source that nothing requests stops; only PLL-V may, since a mode that serves requires the others (R105,
R109, R113). -/
def execClockStop (src : ClkSrc) (s : State) : Host.Outcome State Fault Refusal :=
  if s.awake && src == .pllv && !s.pllvWanted then
    .next ((s.wr CORE.CLK_STAT_PLLV_LOCK 0).wr CORE.CLK_STAT_PLLV_FALLBACK 0)
  else .next s

/-- HFXO_FAIL: PLL-S consumers move to the fallback clock, PLL-V stops, and the fault is raised (R108). -/
def execHfxoFail (s : State) : Host.Outcome State Fault Refusal :=
  if s.awake && (s.flag CORE.CLK_STAT_HFXO_OK || s.clk.hfxoStart) && !s.hasFault 0x0004 then
    let s := (s.setClk fun c => { c with hfxoStart := false }).wr CORE.CLK_STAT_HFXO_OK 0
    let s := if s.clk.plls.active then (s.wr CORE.CLK_STAT_PLLS_LOCK 0).wr CORE.CLK_STAT_PLLS_FALLBACK 1
      else s.relock (s.rd CORE.CLK_STAT_PLLS_MHZ)
    let s := ((s.setClk fun c => { c with pllvRelock := false }).wr CORE.CLK_STAT_PLLV_LOCK 0).encAbandon
    .next ((s.wr CORE.CLK_STAT_PLLV_FALLBACK 0).raise 0x0004 0 0).settle
  else if s.base == .tally && s.wake.waking && !s.wake.faults.any (fun f => f.1 == 0x0004) then
    .next (s.raise 0x0004 0 0)
  else .next s

/-- HFXO_RETRY: the HFXO is restarted (R108). -/
def execHfxoRetry (s : State) : Host.Outcome State Fault Refusal :=
  if s.awake && !s.flag CORE.CLK_STAT_HFXO_OK then .next (s.setClk fun c => { c with hfxoStart := true }) else .next s

/-- A write of CORE.CLK_REQ: PLLV_WARM (R113). -/
def State.writeClkReq (s : State) (w : Word) : State := s.wr CORE.CLK_REQ_PLLV_WARM (field w 0 1)

/-- PLLV_WARM_WRITE. -/
def execPllvWarmWrite (w : BitVec 32) (s : State) : Host.Outcome State Fault Refusal :=
  .next (s.hostReg .core fun s => s.writeClkReq w)

/-- GUARD_TRIP: a period guard has blocked an edge; its PLL's consumers move to the fallback clock, the trip is counted,
vector 16 is asserted, and a relock starts (R115). -/
def execGuardTrip (p : PllId) (s : State) : Host.Outcome State Fault Refusal :=
  if s.awake then
    let s := (s.bump CORE.CLK_STAT_GUARD_TRIPS).rodVec .core
    match p with
    | .s => .next (if s.clk.plls.active then s else s.relock (s.rd CORE.CLK_STAT_PLLS_MHZ)).settle
    | .v =>
      if s.flag CORE.CLK_STAT_PLLV_LOCK then
        let s := s.setClk fun c => { c with pllvRelock := true, pllvFails := 0 }
        .next ((s.wr CORE.CLK_STAT_PLLV_LOCK 0).wr CORE.CLK_STAT_PLLV_FALLBACK 1).settle
      else .next s
  else .next s

/-- An attempt of PLL-S has failed (R117): three at a new frequency send it back to the previous one, and three there leave
its consumers on the fallback clock and raise PLLS_LOCK. -/
def State.failS (s : State) : State :=
  let p := s.clk.plls
  if !p.active then s
  else if p.fails < 2 then (s.setPll fun p => { p with fails := p.fails + 1 }).attempt
  else if !p.back then (s.setPll fun p => { p with goal := p.prev, fails := 0, back := true }).attempt
  else
    let mhz := if s.clk.dvfs == .relockUp || s.clk.dvfs == .relockDown then s.rd (oppMhz s.clk.point) else p.goal
    let s := (s.setPll fun p => { p with active := false, fails := 0 }).wr CORE.CLK_STAT_PLLS_FALLBACK 1
    let s := s.raise 0x0002 0 mhz
    if s.clk.dvfs == .relockUp || s.clk.dvfs == .relockDown then s.dvfsIdle.dvfsPending else s

/-- Commands that need PLL-V to start: those that capture, negotiate, encode, decode or scan (R109, R111, R470). -/
def needsPllv (op : Nat) : Bool := [0xB0, 0xB2, 0xC0, 0xD0, 0xD1, 0xE0].contains op

/-- An attempt of PLL-V has failed (R111): the third raises PLLV_LOCK, and the commands that need it
complete TIMEOUT, a RENEGOTIATE that waits for it to negotiate too; an encode stream closes and DEC's access units end (R512,
R520). -/
def State.failV (s : State) : State :=
  if s.flag CORE.CLK_STAT_PLLV_LOCK || !s.pllvWanted || s.clk.pllvFailed then s
  else if s.clk.pllvFails < 2 then s.setClk fun c => { c with pllvFails := c.pllvFails + 1 }
  else
    let ts := (s.cmds.filter fun c => !c.started && needsPllv c.op).map (·.tag)
    let s := s.setClk fun c => { c with pllvFails := 0, pllvFailed := true, pllvRelock := false }
    let s := (s.raise 0x0003 0 (s.rd CORE.PLLV_FREQ_MHZ)).endAll ts stTimeout
    let s := match s.vid.renegTag with
      | some t => (s.setVid fun v => { v with renegTag := none }).complete t stTimeout 0 0
      | none => s
    let s := if s.flag ENC.STAT_STATE then s.encFinish stTimeout else s
    let aus := s.dec.queue.map (·.1)
    aus.foldl (fun s t => s.complete t stTimeout 0 0) (s.setDec fun d => { d with queue := [], cur := none })

/-- RELOCK_FAIL: an attempt has not held lock within its limit. -/
def execRelockFail (p : PllId) (s : State) : Host.Outcome State Fault Refusal :=
  if s.awake && s.flag CORE.CLK_STAT_HFXO_OK then .next (match p with | .s => s.failS | .v => s.failV).settle else .next s

end Sys2Proof.Machine
end

