-- ==== Sys2Proof/Machine/Therm.lean ====
section
/-! DEFINITION. THERM: the sources and their marks, the thermal action table and its actions (R303 to R321), the ADC's
SAMPLE command (R309), and the telemetry ring that shares its samples (R298, R299). -/

namespace Sys2Proof.Machine

/-- Entry `e` of the thermal action table (bead 0x0400). -/
def State.thermEntry (s : State) (e : Nat) : List Nat := ((s.beadD 0x0400 []).drop (8 * e)).take 8
/-- Entries of the table. -/
def State.thermCount (s : State) : Nat := min 16 ((s.beadD 0x0400 []).length / 8)

def State.modSrc (s : State) (i : Nat) (f : ThermSrc → ThermSrc) : State :=
  { s with therm := { s.therm with srcs := s.therm.srcs.modify i f } }

def State.thermSrc (s : State) (i : Nat) : ThermSrc := s.therm.srcs.getD i {}

/-- The two windows of RATE_WIN in µs (R311, bead 0x0402). -/
def State.rateWin (s : State) (kind : Nat) : Nat :=
  let b := s.beadD 0x0402 [10, 6]
  if kind == 1 then u8 b 0 * 100000 else u8 b 1 * 10000000

/-- The source is marked OPEN or SHORT (R304). -/
def State.marked (s : State) (src : Nat) : Bool := s.rdBit THERM.SENSOR_OPEN src || s.rdBit THERM.SENSOR_SHORT src

/-- The latest temperature of a source. -/
def State.srcTemp (s : State) (src : Nat) : Option Int := ((s.thermSrc src).samples.head?).map (·.2)

/-- What an entry compares with its threshold (R311): the temperature, or the rate of rise over its window. -/
def State.entryValue (s : State) (e : List Nat) : Option Rat :=
  let smp := (s.thermSrc (u8 e 0)).samples
  match smp.head? with
  | none => none
  | some now =>
    if u8 e 1 == 0 then some (now.2 : Rat)
    else
      let w := s.rateWin (u8 e 1)
      match smp.find? fun p => p.1 + w ≤ now.1 with
      | none => none
      | some old => some (((now.2 - old.2 : Int) : Rat) * (if u8 e 1 == 1 then 1000000 else 60000000) / (w : Rat))

/-- A source whose input the image leaves unused is never crossed (R306). -/
def State.srcUsed (s : State) (src : Nat) : Bool := if 1 ≤ src && src ≤ 4 then s.thmUsed (src - 1) else true

/-- An entry meets its threshold now, or its source is marked (R311, R313). -/
def State.entryHot (s : State) (e : List Nat) : Bool :=
  s.srcUsed (u8 e 0) &&
    (s.marked (u8 e 0) || ((s.entryValue e).map fun v => decide ((i16 e 2 : Rat) ≤ v)).getD false)

/-- An entry has fallen to its threshold less its hysteresis (R312). -/
def State.entryCool (s : State) (e : List Nat) : Bool :=
  !s.marked (u8 e 0) && ((s.entryValue e).map fun v => decide (v ≤ (i16 e 2 - u8 e 4 : Rat))).getD false

/-- The table's entry `k` evaluated (R311 to R313). -/
def State.evalEntry (s : State) (k : Nat) : State :=
  let e := s.thermEntry k
  let st := s.therm.entries.getD k {}
  let hold := u8 (s.beadD 0x0482 [10]) 0 * 1000000
  let st' : ThermEntry :=
    if !st.crossed then (if s.entryHot e then { crossed := true, since := s.clock } else st)
    else if s.entryCool e && st.since + hold ≤ s.clock then { st with crossed := false } else st
  let es := (s.therm.entries ++ List.replicate (16 - s.therm.entries.length) ({} : ThermEntry)).set k st'
  { s with therm := { s.therm with entries := es } }

/-- Crossed entries, one bit each. -/
def State.crossedMask (s : State) : Nat :=
  ((List.range 16).map fun k => if (s.therm.entries.getD k {}).crossed then 2 ^ k else 0).foldl (· + ·) 0

/-- Actions that a crossed entry names, bit a − 1 for action a (R316). -/
def State.actionMask (s : State) : Nat :=
  (List.range s.thermCount).foldl (fun m k =>
    if (s.therm.entries.getD k {}).crossed then m ||| 2 ^ (u8 (s.thermEntry k) 5 - 1) else m) 0

/-- The highest action of a mask. -/
def highestAction (m : Nat) : Nat := ((List.range 5).filter fun a => m.testBit a).foldl (fun _ a => a + 1) 0

/-- An action enters or leaves force (R320). -/
def State.actionChange (s : State) (old new a : Nat) : State :=
  if new.testBit a && !old.testBit a then
    ((s.evtBit THERM.EVT_ACTION_ON a .therm).rodVec .therm).count (cntTherm (a + 1))
  else if old.testBit a && !new.testBit a then s.wrBit THERM.EVT_ACTION_OFF a true
  else s

/-- Actions, by mask, that crossed entries on a source name. -/
def State.srcActions (s : State) (src : Nat) : Nat :=
  (List.range s.thermCount).foldl (fun m k =>
    let e := s.thermEntry k
    if u8 e 0 == src && (s.therm.entries.getD k {}).crossed then m ||| 2 ^ (u8 e 5 - 1) else m) 0

/-- The episode of a source: it opens, follows the peak, and ends with a THERMAL record (R320, R274). -/
def State.episode (s : State) (src : Nat) : State :=
  let acts := s.srcActions src
  let t := (s.srcTemp src).getD 0
  match (s.thermSrc src).episode with
  | none => if acts == 0 then s else s.modSrc src fun x => { x with episode := some (s.clock, highestAction acts, t) }
  | some (t0, hi, peak) =>
    if acts == 0 then
      (s.bufferRecord 5 ([src, hi] ++ leBytes 2 (toBits 16 peak) ++ leBytes 4 ((s.clock - t0) / 1000000) ++ [0, 0, 0, 0])).modSrc
        src fun x => { x with episode := none }
    else s.modSrc src fun x => { x with episode := some (t0, max hi (highestAction acts), max peak t) }

/-- Entries are evaluated, and actions and episodes follow (R311 to R320); an entry that becomes crossed with action HELD, or for which
HELD comes into force, raises THERMAL_HELD (R316). `only` limits the sources. -/
def State.thermEval (s : State) (only : Nat → Bool) : State :=
  let before := s.therm.entries
  let old := s.rd THERM.STAT_ACTIVE
  let idx := (List.range s.thermCount).filter fun k => only (u8 (s.thermEntry k) 0)
  let s := idx.foldl (fun s k => s.evalEntry k) s
  let new := s.actionMask
  let s := (List.range 5).foldl (fun s a => s.actionChange old new a) s
  let s := ((s.wr THERM.STAT_ACTIVE new).wr THERM.STAT_HIGHEST (highestAction new)).wr THERM.STAT_CROSSED s.crossedMask
  let s := if new.testBit 2 && !old.testBit 2 then s.pausePrint else s
  let s := (List.range 6).foldl (fun s src => s.episode src) s
  idx.foldl (fun s k =>
    let e := s.thermEntry k
    if u8 e 5 == 5 && (s.therm.entries.getD k {}).crossed && !((before.getD k {}).crossed && old.testBit 4) then
      s.raise 0x0410 0 (k + toBits 16 ((s.srcTemp (u8 e 0)).getD 0) * 65536)
    else s) s

/-- A telemetry or per-line sample evaluates the entries of its sources, once a monitor sample has (R311, R314, R321). -/
def State.thermNow (s : State) (only : Nat → Bool) : State := if s.ready .therm && s.therm.mon then s.thermEval only else s

/-- An entry that is evaluated in TALLY (R314). -/
def tallyEntry (e : List Nat) : Bool := (u8 e 5 == 5 || (u8 e 6).testBit 0) && u8 e 1 != 1

/-- An entry whose crossing in TALLY wakes the device (R126). -/
def State.tallyWakes (s : State) (e : List Nat) : Bool := u8 e 5 == 5 || s.flag CORE.WAKE_CFG_SAMPLE_EN

/-- The evaluation on a burst sample in TALLY (R314): crossings are kept, and episodes go on, but no action changes; whether an entry
that has become crossed wakes the device. -/
def State.tallyEval (s : State) : State × Bool :=
  let before := s.therm.entries
  let idx := (List.range s.thermCount).filter fun k => tallyEntry (s.thermEntry k)
  let s := idx.foldl (fun s k => s.evalEntry k) s
  let s := (List.range 6).foldl (fun s src => s.episode src) (s.wr THERM.STAT_CROSSED s.crossedMask)
  (s, idx.any fun k =>
    (s.therm.entries.getD k {}).crossed && !(before.getD k {}).crossed && s.tallyWakes (s.thermEntry k))

/-- The head thermistor is OPEN or SHORT (R392): CABLE_OPEN with parameter 10. -/
def State.headThermOpen (s : State) : State :=
  let s := s.raise 0x0601 10 (s.rd PRINT.HEAD_ID_OHM)
  (s.setPrint fun p => { p with probed := false }).tear 9

/-- A conversion code of a thermistor source sets its mark, or counts toward the 8 in range that clear it (R304). -/
def State.markSource (s : State) (src code : Nat) : State :=
  if 4060 < code || code < 35 then
    let f := if 4060 < code then THERM.SENSOR_OPEN else THERM.SENSOR_SHORT
    let was := s.rdBit f src
    let s := (s.modSrc src fun x => { x with good := 0 }).wrBit f src true
    if was then s
    else
      let s := s.raise 0x0401 0 (src + code * 65536)
      if src == 5 then s.headThermOpen else s
  else if s.marked src then
    let n := (s.thermSrc src).good + 1
    if n < 8 then s.modSrc src fun x => { x with good := n }
    else
      let s := ((s.modSrc src fun x => { x with good := 0 }).wrBit THERM.SENSOR_OPEN src false).wrBit THERM.SENSOR_SHORT src false
      if s.rd THERM.SENSOR_OPEN == 0 && s.rd THERM.SENSOR_SHORT == 0 then s.clearFault 0x0401 else s
  else s

/-- A temperature joins a source's samples; those older than the long window and one sample more go. -/
def State.pushTemp (s : State) (src : Nat) (t : Int) : State :=
  let w := max (s.rateWin 1) (s.rateWin 2)
  s.modSrc src fun x =>
    let fresh := x.samples.filter fun p => s.clock ≤ p.1 + w
    let old := (x.samples.filter fun p => p.1 + w < s.clock).take 1
    { x with samples := (s.clock, t) :: fresh ++ old }

/-- The TEMP register field of a source (R306). -/
def tempFld (src : Nat) : Fld :=
  [THERM.TEMP0_LO, THERM.TEMP1_LO, THERM.TEMP1_HI, THERM.TEMP2_LO, THERM.TEMP2_HI, THERM.TEMP0_HI].getD src THERM.TEMP0_LO

/-- A die temperature 5 °C from the one at the last calibration of the FRC, or of the ADC, makes that calibration due (R281). -/
def State.dieSeen (s : State) (t : Int) : State :=
  let far (o : Option Int) : Bool := o.any fun d => 50 ≤ (t - d).natAbs
  { s with bg := { s.bg with frcDue := s.bg.frcDue || far s.bg.frcDie, frcDie := s.bg.frcDie <|> some t,
                             adcDue := s.bg.adcDue || far s.bg.adcDie, adcDie := s.bg.adcDie <|> some t } }

/-- A temperature is taken for a source: reported and kept. -/
def State.takeTemp (s : State) (src : Nat) (t : Int) : State :=
  let s := (s.wrI (tempFld src) t).pushTemp src t
  if src == 0 then s.dieSeen t else s

/-- THM input `n` is converted: marked if out of range, and taken; an unused input reads 0x8000 (R304, R306). -/
def State.takeThm (s : State) (n code : Nat) : State :=
  let code := s.adcCode code
  if s.thmUsed n then (s.markSource (n + 1) code).takeTemp (n + 1) (s.thmTemp n code) else s.wr (tempFld (n + 1)) 0x8000

/-- The head input is converted. -/
def State.takeHead (s : State) (code : Nat) : State :=
  let code := s.adcCode code
  (s.markSource 5 code).takeTemp 5 (s.headTemp code)

/-- MONITOR_SAMPLE: every source is converted, and every entry evaluated (R311). -/
def execMonitorSample (m : TempSample) (s : State) : Host.Outcome State Fault Refusal :=
  if s.awake && s.ready .therm then
    let s := s.takeTemp 0 m.die.toInt
    let s := (((s.takeThm 0 m.thm0.toNat).takeThm 1 m.thm1.toNat).takeThm 2 m.thm2.toNat).takeThm 3 m.thm3.toNat
    let s := s.takeHead m.head.toNat
    .next (State.thermEval { s with therm := { s.therm with mon := true } } fun _ => true).settle
  else .next s

/-- DIE_OVERTEMP: the die has reached 125 °C (R315), and its temperature is the latest sample of the die (R319). -/
def execDieOvertemp (t : BitVec 16) (s : State) : Host.Outcome State Fault Refusal :=
  if s.inReset || s.base == .cleared then .next s
  else .next ((s.takeTemp 0 t.toInt).raise 0x0411 0 (toBits 32 t.toInt)).settle

/-- PAUSE_TIMEOUT: the RECEIPT that PAUSE holds completes TIMEOUT, and its bands are released (R318). -/
def execPauseTimeout (s : State) : Host.Outcome State Fault Refusal :=
  if s.awake && s.rdBit THERM.STAT_ACTIVE 2 then
    match s.print.jobs.head? with
    | some j => if j.stage == .render then .next (s.endReceipt j.tag stTimeout).settle else .next s
    | none => .next s
  else .next s

/-! ### SAMPLE (R309) -/

/-- A channel that R307 lists. -/
def adcChannel (c : Nat) : Bool := c ≤ 13 || (16 ≤ c && c ≤ 21) || (24 ≤ c && c ≤ 29)

/-- The value that accompanies an averaged code × 16 (R307, R309), to the nearest unit. -/
def State.adcValue (s : State) (c code16 : Nat) : Int :=
  let scaled (lo hi : Int) : Int := roundInt (lo + ((hi - lo : Int) : Rat) * code16 / 65520)
  if 8 ≤ c && c ≤ 11 then s.thmTemp (c - 8) (roundNat (mkRat code16 16))
  else if c == 12 then s.headTemp (roundNat (mkRat code16 16))
  else if c == 16 || c == 17 then scaled 0 20000
  else if c == 18 then scaled 0 15000
  else if c == 19 then scaled (-400) 1500
  else if 24 ≤ c then scaled (-3000) 3000
  else scaled 0 2500

/-- The words that SAMPLE writes, one per channel of the mask in ascending order. -/
def State.sampleWords (s : State) (mask : Nat) (codes : List Nat) : List Nat :=
  let chans := (List.range 32).filter fun c => mask.testBit c
  (chans.zip (codes ++ List.replicate 32 0)).flatMap fun p =>
    leBytes 2 p.2 ++ leBytes 2 (toBits 16 (s.adcValue p.1 p.2))

/-- The parameters of SAMPLE are in range (R309). -/
def State.sampleOk (s : State) (c : Cmd) : Bool :=
  c.p0 != 0 && (List.range 32).all (fun k => !c.p0.testBit k || adcChannel k) &&
    (List.range 4).all (fun k => !c.p0.testBit (8 + k) || s.thmUsed k) && 1 ≤ c.p2 && c.p2 ≤ 256 && c.p1 % 16 == 0

/-- The bytes that SAMPLE writes. -/
def Cmd.sampleLen (c : Cmd) : Nat := 4 * ((List.range 32).filter fun k => c.p0.testBit k).length

/-- The conversions of SAMPLE on the thermistor inputs mark their sources as any other does (R304). -/
def State.sampleMarks (s : State) (mask : Nat) (codes : List Nat) : State :=
  let chans := (List.range 32).filter fun c => mask.testBit c
  (chans.zip codes).foldl (fun s p => if 8 ≤ p.1 && p.1 ≤ 12 then s.markSource (p.1 - 7) (roundNat (mkRat p.2 16)) else s) s

/-- SAMPLE: the named channels are converted and written to SRAM (R309). `codes` holds the averaged codes × 16 of the
channels in the mask, in ascending order. A buffer that THERM may not write is refused (R27). -/
def execSample (tag : Fin 64) (codes : List (BitVec 16)) (s : State) : Host.Outcome State Fault Refusal :=
  match s.cmd? tag.val with
  | none => .next s
  | some c =>
    if c.op == 0x40 && !c.started && s.awake && s.ready .therm && s.firstIn tag.val .therm then
      if !s.sampleOk c then .next (s.endOpen tag.val stBadParam).settle
      else if !s.mayWrite .therm c.p1 c.sampleLen then .next (s.refuseWrite .therm c.p1 c.sampleLen tag.val).settle
      else
        let n := ((List.range 32).filter fun k => c.p0.testBit k).length
        let codes := codes.map fun x => s.adcCode x.toNat 16
        let s := (s.writeMem .sram c.p1 (s.sampleWords c.p0 codes)).sampleMarks c.p0 codes
        .next (s.complete tag.val stOK n 0).settle
    else .next s

/-! ### Telemetry and compensation (R298, R299, R322) -/

/-- The compensation follows a die sample in 0.1 °C (R290): the correction c of R322, in 0.01 ppm and into THERM.LFXO_PPM, and the
temperature for which the bandgap's correction is taken from OTP (R324). The voltages and codes that commands bring are those
converted with that correction in force. -/
def State.lfxoComp (s : State) (die : Int) : State :=
  let b := s.beadD 0x0483 (leBytes 2 (toBits 16 (-34)) ++ [25, 0])
  let d : Rat := (die : Rat) / 10 - i8 b 2
  let c := -((i16 b 0 : Rat) / 1000 * d * d + i8 b 3)
  let c := roundInt (c * 100)
  { s with bg := { s.bg with corr := c, gapDie := some die } }.wr THERM.LFXO_PPM_CORR (toBits 16 c)

/-- One telemetry entry is written to the ring in keep RAM, and NEXT advances (R298, R299). -/
def State.telemetry (s : State) (vin : Nat) (m : TempSample) : State :=
  let thm (n code : Nat) : List Nat := leBytes 2 (if s.thmUsed n then toBits 16 (s.thmTemp n (s.adcCode code)) else 0x8000)
  let entry := leBytes 4 s.onSeconds ++ leBytes 2 vin ++ leBytes 2 m.die.toNat ++ thm 0 m.thm0.toNat ++ thm 1 m.thm1.toNat ++
    thm 2 m.thm2.toNat ++ thm 3 m.thm3.toNat
  let i := s.rd CORE.BG_TELEM_NEXT
  (s.writeMem .keep (0x200 + 16 * i) entry).wr CORE.BG_TELEM_NEXT ((i + 1) % 64)

/-- The samples of a telemetry entry feed the thresholds (R298, R311). -/
def State.takeTelemetry (s : State) (m : TempSample) : State :=
  let s := s.takeTemp 0 m.die.toInt
  ((((s.takeThm 0 m.thm0.toNat).takeThm 1 m.thm1.toNat).takeThm 2 m.thm2.toNat).takeThm 3 m.thm3.toNat)

end Sys2Proof.Machine
end

