-- ==== Sys2Proof/Machine/Print.lean ====
section
/-! DEFINITION. PRINT: the energy of every dot (R369 to R372), passes and slices (R373 to R376), line pacing (R377 to
R381), the RECEIPT's lines (R383 to R387), head identification, probing and leakage (R388 to R394), and the dry-out (R396,
R397). -/

namespace Sys2Proof.Machine

/-! ### Energy per dot -/

def State.dots (s : State) : Nat := s.rd PRINT.CFG_DOTS

/-- First and last dot of strobe group `g` (bead 0x0601). -/
def State.groupDots (s : State) (g : Nat) : Nat × Nat :=
  let b := s.beadD 0x0601 []
  (u16 b (2 + 4 * g), u16 b (4 + 4 * g))
def State.groupCount (s : State) : Nat := s.rd PRINT.CFG_GROUPS_M1 + 1

/-- The rank of a dot, 8 where bead 0x0603 is absent (R369). -/
def State.rank (s : State) (d : Nat) : Nat :=
  match s.bead? 0x0603 with
  | none => 8
  | some b => u8 b (d / 2) / 16 ^ (d % 2) % 16

/-- R_mean in Ω. -/
def State.rMean (s : State) : Rat := mkRat (s.rd CORE.BG_HEAD_MEAN_DOHM) 10

/-- R_d in Ω (R369). -/
def State.rDot (s : State) (d : Nat) : Rat :=
  s.rMean * (1 + mkRat (s.rd PRINT.TCOMP_RANK_PCT * ((s.rank d : Int) - 8)) 1000)

/-- Entry `h` of the history table (R369). -/
def State.histEntry (s : State) (h : Nat) : Nat := s.rd ⟨PRINT.HIST0_ENTRY.addr + 4 * (h / 4), 8 * (h % 4), 8⟩

/-- The history index of a dot (R370). -/
def histIndex (h1 h2 : List Bool) (d : Nat) : Nat :=
  bit (h1.getD d false) + 2 * bit (h2.getD d false) + 4 * bit (decide (0 < d) && h1.getD (d - 1) false) +
    8 * bit (h1.getD (d + 1) false)

/-- K_T for a head temperature in 0.1 °C (R369). -/
def State.kT (s : State) (t : Int) : Rat :=
  let k : Rat := 1 + mkRat (s.rd PRINT.TCOMP_TC) 10000 * ((s.rdI PRINT.TCOMP_T_REF : Rat) - (t : Rat) / 10)
  max (1 / 2) (min (3 / 2) k)

/-- V_DRV in V. -/
def State.vDrv (s : State) : Rat := mkRat (s.rd PRINT.ENERGY_V_DRV) 100

/-- V_eff for a pass current (R369). -/
def State.vEff (s : State) (vh iP : Rat) : Rat := vh - s.vDrv - iP * mkRat (s.rd PRINT.ENERGY_R_SRC) 1000

/-- A width in µs as ticks, and whether it had to be clamped (R369, R371). -/
def widthTicks (us : Rat) : Nat × Bool :=
  let t := roundNat (us * 64)
  if 262143 < t then (262143, true) else (t, false)

/-! ### Passes and slices -/

/-- The cap in force in A; none at level 3, one group per pass (R376). -/
def State.capAmps (s : State) : Option Rat :=
  let i := mkRat (s.rd PRINT.CAP_I_PEAK) 100
  let f := mkRat (s.rd PRINT.CAP_FLOOR_PCT) 100
  match s.rd PRINT.STAT_CAP_LEVEL with
  | 0 => some i
  | 1 => some (i * f)
  | 2 => some (i * f * f)
  | _ => none

/-- Passes from the groups that have black dots, with their currents, in ascending order (R373). -/
def formPasses (cap : Option Rat) : List (Nat × Rat) → List (List Nat × Rat) → List (List Nat × Rat)
  | [], acc => acc
  | (g, i) :: rest, acc =>
    match acc.getLast?, cap with
    | some (gs, sum), some c =>
      if sum + i ≤ c then formPasses cap rest (acc.dropLast ++ [(gs ++ [g], sum + i)])
      else formPasses cap rest (acc ++ [([g], i)])
    | _, _ => formPasses cap rest (acc ++ [([g], i)])

/-- T_SHIFT in ticks (R366). -/
def State.tShift (s : State) : Nat :=
  s.dots / (s.rd PRINT.CFG_INPUTS2 + 1) * s.rd PRINT.CLK_CLK_DIV + s.rd PRINT.CLK_LAT_TICKS

/-- The distinct values of a list, ascending. -/
def distinct (l : List Nat) : List Nat := (l.mergeSort (· ≤ ·)).dedup

/-- The slice levels of a pass (R374). -/
def State.sliceLevels (s : State) (widths : List Nat) : List Nat :=
  let d := distinct widths
  let n := s.rd PRINT.CAP_SLICES
  if d.length ≤ n then d
  else
    let top := d.getLast?.getD 0
    let k := min n (max 1 (top / max 1 s.tShift))
    (List.range k).map fun j => roundNat (mkRat (top * (j + 1)) k)

/-- The index of the level nearest a width, the higher one on a tie (R374). -/
def nearestLevel (levels : List Nat) (w : Nat) : Nat :=
  let dist (t : Nat) : Nat := max t w - min t w
  (List.range levels.length).foldl (fun best j => if dist (levels.getD j 0) ≤ dist (levels.getD best 0) then j else best) 0

/-- The ends of the slices (R375): e_j = max(τ_j, e_{j−1} + T_SHIFT), the last at the later of its level and e + 64. -/
def sliceEnds (tShift : Nat) : Nat → List Nat → List Nat
  | _, [] => []
  | prev, [t] => [max t (prev + 64)]
  | prev, t :: rest =>
    let e := max t (prev + tShift)
    e :: sliceEnds tShift e rest

/-- A pass over the given dots and widths (R374, R375), with the energy in units of 10 mJ that each tick gives a segment through the
dots of a level (R372). -/
def State.mkPass (s : State) (groups : List Nat) (vEff : Rat) (widths : List (Nat × Nat)) : Pass :=
  let levels := s.sliceLevels (widths.map (·.2))
  let ends := sliceEnds s.tShift 0 levels
  let dots := widths.map fun p => (p.1, nearestLevel levels p.2)
  let segs := distinct (dots.map fun p => p.1 / 64)
  { groups := (groups.map fun g => 2 ^ g).foldl (· + ·) 0
    dots := dots, levels := levels, ends := ends
    power := segs.flatMap fun g =>
      let ds := dots.filter fun p => p.1 / 64 == g
      (distinct (ds.map (·.2))).map fun k =>
        (g, k, ((ds.filter fun p => p.2 == k).map fun p => vEff * vEff / 640000 / s.rDot p.1).foldl (· + ·) 0) }

/-- The pattern that a pass has latched from slice `k` on: the dots of its groups whose level has not ended (R365, R375). -/
def State.pattern (s : State) (p : Pass) (k : Nat) : List Bool :=
  (List.range s.dots).map fun d => p.dots.any fun x => x.1 == d && k ≤ x.2

/-- A pattern as HD_DI0 and HD_DI1 shift it, the first bit first (R364). -/
def State.serial (s : State) (l : List Bool) : List (List Bool) :=
  let h := s.dots / 2
  let halves := if s.flag PRINT.CFG_INPUTS2 then [l.take h, l.drop h] else [l]
  if s.flag PRINT.CFG_SHIFT_DIR then halves else halves.map List.reverse

/-- What the computation of one line gives: its passes, how many widths were clamped, how many groups exceed the cap, and
whether V_eff is too low to fire (R371, R373). -/
structure LineCalc where
  passes : List Pass
  clamped : Nat
  overcap : Nat
  low : Bool

/-- The passes of a line whose dots are `black`, with energy factor `us d` giving a dot's width in µs times V_eff² / R_d. -/
def State.calcLine (s : State) (vh : Rat) (black : Nat → Bool) (factor : Nat → Rat) : LineCalc :=
  let groups := (List.range s.groupCount).map fun g =>
    let r := s.groupDots g
    (g, ((List.range (r.2 + 1 - r.1)).map (· + r.1)).filter black)
  let live := groups.filter fun g => !g.2.isEmpty
  let amps := live.map fun g => (g.1, (g.2.map fun d => (vh - s.vDrv) / s.rDot d).foldl (· + ·) (0 : Rat))
  let cap := s.capAmps
  let parts := formPasses cap amps []
  let built := parts.map fun p =>
    let v := s.vEff vh p.2
    let ds := (live.filter fun g => p.1.contains g.1).flatMap (·.2)
    let ws := ds.map fun d => (d, widthTicks (factor d * s.rDot d / (v * v)))
    (s.mkPass p.1 v (ws.map fun w => (w.1, w.2.1)), (ws.filter fun w => w.2.2).length,
      decide (v < 2))
  { passes := built.map (·.1)
    clamped := (built.map (·.2.1)).foldl (· + ·) 0
    overcap := match cap with
      | none => 0
      | some c => (amps.filter fun a => c < a.2).length
    low := built.any (·.2.2) }

/-- The line time in ticks from the sample to the end of the last strobe (R365 to R367): `rise` is the last latch's rise,
`off` the end of the previous pass's strobe. -/
def lineTicks (shift lat : Nat) : Nat → Nat → List Pass → Nat
  | _, off, [] => off
  | rise, off, p :: ps =>
    let fall := max (rise + shift) off
    let on := fall + lat + 8
    let last := on + p.ends.getLast?.getD 0
    let rise' := match p.ends.dropLast.getLast? with
      | some e => on + e + lat
      | none => fall + lat
    lineTicks shift lat rise' last ps

/-! ### Lines -/

/-- The dots of a line of the band in print; a word with an uncorrectable error reads as white. -/
def State.lineDots (s : State) (slot line : Nat) : State × List Bool :=
  let len := 16 * s.rd RASTER.CFG_LINE_WORDS
  let a := s.rd (bandBank slot) * bankSize + line * len
  let (t, bs) := s.readMem .sram a len
  let bs := (List.range len).map fun i => if (s.ue .sram).contains ((a + i) / 16) then 0 else bs.getD i 0
  (t, (List.range s.dots).map fun d => (bs.getD (d / 8) 0).testBit (d % 8))

/-- The line in firing has ended: its record, counts, history and cap level; then the band goes on or ends (R372, R376,
R383); a rendering that stopped tears the RECEIPT at once behind its last committed band (R358, R385). -/
def State.lineEnd (s : State) (t : Nat) (f : Firing) : State :=
  let s := (s.countLine t).trimFrc
  let s := ((s.wr PRINT.LINE_STAT_LINE_TIME (min 16777215 f.ticks)).wr PRINT.LINE_STAT_PASSES f.passes.length)
  let l := s.rd PRINT.STAT_CAP_LEVEL
  let run := if s.print.floorLine then 0 else s.print.floorRun + 1
  let fall := !s.print.floorLine && s.rd PRINT.CAP_FLOOR_HOLD ≤ run
  let s := s.wr PRINT.STAT_CAP_LEVEL (if s.print.floorLine then min 3 (l + 1) else if fall then l - 1 else l)
  let s := s.setPrint fun p =>
    { p with firing := none, strobes := 0, hist2 := p.hist1, hist1 := f.dots, floorRun := if fall then 0 else run,
             floorLine := false, line := p.line + 1, lastTicks := f.ticks }
  if s.print.line < s.rd (bandLines s.print.slot) then s
  else
    let s := (s.freeSlot s.print.slot).wr PRINT.STAT_CEILING 0
    match s.job? t with
    | none => s
    | some j =>
      if 0 < s.print.chained then
        match s.committedSlot? t (j.band + 1) with
        | some i => (s.beginBand t (j.band + 1) i).setPrint fun p => { p with chained := p.chained - 1 }
        | none => s
      else if j.band < j.bands then
        if j.failed.isSome && (s.committedSlot? t (j.band + 1)).isNone then s.tear 11
        else (s.modJob t fun j => { j with stage := .rest }).feedStop
      else
        let s := (s.modJob t fun j => { j with stage := .out }).release t .print
        let s := s.wr PRINT.STAT_STATE (if s.print.jobs.length ≤ 1 then 0 else 1)
        if s.receiptFlag t 0 || s.receiptFlag t 2 then
          let n := u16 (s.beadD 0x0684 (leBytes 2 96)) 0
          let s := s.setFeed fun x => { x with start := x.pos, target := x.lastTrig + s.linesToCounts n,
                                               limit := s.feed.setUm.natAbs / 1000, job := .target }
          if s.posLoop < 4 then s.loopOn s.posLoop else s
        else s.feedStop

/-- The sample of a line feeds THERM's head entries and the registers that report it (R311, R145, R367). -/
def State.lineSample (s : State) (m : LineSample) : State :=
  let s := (s.takeHead m.headCode.toNat).thermNow (· == 5)
  (((s.wr PRINT.LINE_MEAS_VH_MV m.vhMv.toNat).wrI PRINT.LINE_MEAS_HEAD_TEMP (s.headConv m.headCode)).wr
    SUPPLY.VH_STAT_MEAS_MV m.vhMv.toNat)

/-- The next line of the band starts (R367): sampled, computed and set to shift; a white line ends with its computation. -/
def State.fireLine (s : State) (t : Nat) (m : LineSample) : State :=
  let s := s.lineSample m
  match s.printing? with
  | none => s
  | some _ =>
    let slot := s.print.slot
    let s := if s.print.line == 0 then s.wr (bandState slot) 3 else s
    let (s, dots) := s.lineDots slot s.print.line
    let vh : Rat := mkRat m.vhMv.toNat 1000
    let kt := s.kT (s.headConv m.headCode)
    let e : Rat := mkRat (s.rd PRINT.ENERGY_E_BASE * s.print.dark) 1000
    let c := s.calcLine vh (fun d => dots.getD d false) fun d =>
      e * mkRat (s.histEntry (histIndex s.print.hist1 s.print.hist2 d)) 128 * kt
    let s := (s.bump PRINT.COUNT_CLAMPED c.clamped).bump PRINT.COUNT_OVERCAP c.overcap
    if c.low then s.tear 3
    else
      let ticks := lineTicks (s.tShift - s.rd PRINT.CLK_LAT_TICKS) (s.rd PRINT.CLK_LAT_TICKS) 384 384 c.passes
      let f : Firing := { dots := dots, passes := c.passes, ticks := ticks }
      if c.passes.isEmpty then s.lineEnd t f else s.setPrint fun p => { p with firing := some f }

/-- Held lines fire back to back (R380). -/
def State.fireHeld (s : State) (t : Nat) (m : LineSample) : Nat → State
  | 0 => s
  | n + 1 =>
    if s.print.firing.isNone && 0 < s.rd PRINT.STAT_BACKLOG && s.printing?.isSome then
      let s := (s.wr PRINT.STAT_BACKLOG (s.rd PRINT.STAT_BACKLOG - 1)).bump PRINT.COUNT_LATE
      ((s.modJob t fun j => { j with late := j.late + 1 }).fireLine t m).fireHeld t m n
    else s

/-- A line trigger arrives (R380, R381, R383): the line fires, or is held behind the one that still fires. -/
def State.trigger (s : State) (m : LineSample) : State :=
  match s.printing? with
  | none => s
  | some j =>
    let left := s.print.toTrigger - 1
    let next := j.band + s.print.chained + 1
    let s := s.setPrint fun p => { p with toTrigger := left }
    let s := if left != 0 then s else
      match s.committedSlot? j.tag next with
      | some i => s.setPrint fun p => { p with toTrigger := s.rd (bandLines i), chained := p.chained + 1 }
      | none => s
    let s := s.setFeed fun f => { f with lastTrig := f.pos + f.due, lastTheta := f.theta + f.due }
    if s.print.firing.isNone then s.fireLine j.tag m
    else
      let b := s.rd PRINT.STAT_BACKLOG + 1
      if s.rd PRINT.LINE_CTL_LATE_MAX < b then (s.wr PRINT.STAT_BACKLOG (min 15 b)).tear 8
      else
        let s := s.wr PRINT.STAT_BACKLOG b
        if b == 2 then
          ((s.setPrint fun p => { p with ceiling := roundNat (11 * p.lastTicks / 10) }).wr PRINT.STAT_CEILING 1).evt
            PRINT.EVT_CEILING .print
        else s

/-- LINE_TIMER: the line timer of fixed-clock pacing gives a trigger, and FEED issues the line's microsteps (R378, R417). -/
def execLineTimer (m : LineSample) (s : State) : Host.Outcome State Fault Refusal :=
  if s.awake && !s.encLocked && s.printing?.any (·.stage == .print) && 0 < s.print.toTrigger && s.feed.job == .lines &&
      !s.feed.dwell then
    let goal := s.periodGoal
    let start := leNat ((s.beadD 0x0683 (leBytes 3 64000 ++ leBytes 3 1600)).take 3)
    let ramp := leNat ((s.beadD 0x0683 (leBytes 3 64000 ++ leBytes 3 1600)).drop 3)
    let p := s.print.period
    let period := if p == 0 then start else if goal < p then max goal (p - ramp) else min goal (p + ramp)
    let s := s.setPrint fun x => { x with period := period }
    let s := (s.setSpeed (s.pitchSpeed period)).trigger m
    let s := if s.feed.job == .lines then s.setFeed fun f => { f with due := f.due + u16 (s.beadD 0x0804 []) 2 } else s
    .next s.settle
  else .next s

/-- SHIFT_END: the shift ends, the latch falls and the pass's strobe is asserted (R364 to R366). -/
def execShiftEnd (s : State) : Host.Outcome State Fault Refusal :=
  match s.print.firing with
  | some f =>
    match f.passes[f.pass]? with
    | some p =>
      if f.strobed then .next s
      else
        let di := s.serial (s.pattern p 0)
        .next (s.setPrint fun x =>
          { x with firing := some { f with strobed := true, slice := 0 }, strobes := p.groups, shifted := di })
    | none => .next s
  | none => .next s

/-- SLICE_END: a slice but the last ends, and its reload removes the dots of its level (R375). -/
def execSliceEnd (s : State) : Host.Outcome State Fault Refusal :=
  match s.print.firing with
  | some f =>
    match f.passes[f.pass]? with
    | some p =>
      if f.strobed && f.slice + 1 < p.ends.length then
        let di := s.serial (s.pattern p (f.slice + 1))
        .next (s.setPrint fun x => { x with firing := some { f with slice := f.slice + 1 }, shifted := di })
      else .next s
    | none => .next s
  | none => .next s

/-- PASS_END: the last slice of a pass ends and the strobe with it; the next pass, the next held line or the line's end
follows (R372, R375, R380). -/
def execPassEnd (m : LineSample) (s : State) : Host.Outcome State Fault Refusal :=
  match s.print.firing, s.printing? with
  | some f, some j =>
    match f.passes[f.pass]? with
    | some p =>
      if f.strobed && f.slice + 1 == p.ends.length then
        let s := s.addEnergy p fun k => p.ends.getD k 0
        let f := { f with pass := f.pass + 1, slice := 0, strobed := false }
        if f.pass < f.passes.length then .next (s.setPrint fun x => { x with firing := some f, strobes := 0 })
        else .next (((s.lineEnd j.tag f).fireHeld j.tag m 16).settle)
      else .next s
    | none => .next s
  | _, _ => .next s

/-- The levels the strobes are commanded to, one bit each: from their inactive level, which the always-on domain holds (R81,
R364, R368). -/
def State.strobeLevels (s : State) : Nat := s.print.strobes ^^^ s.boot.strobeIdle

/-- STROBE_FAULT: a strobe reads back another level than the commanded one (R368). -/
def execStrobeFault (levels : BitVec 8) (s : State) : Host.Outcome State Fault Refusal :=
  if s.awake && s.boot.strobesKnown && levels.toNat != s.strobeLevels then
    .next ((s.raise 0x0630 0 levels.toNat).quiet).settle
  else .next s

/-- RASTER ends what it renders: a RECEIPT not yet printing is ABORTED, a printing one is torn after its last committed
band (R94, R358). -/
def State.stopRaster (s : State) : State :=
  let busy := (s.cmds.filter fun c => c.op == 0x60 && c.started && (s.job? c.tag).isNone).map (·.tag)
  let s := (s.print.jobs.filter fun j => j.stage == .render).foldl (fun s j => s.endReceipt j.tag stAborted) s
  let s := busy.foldl (fun s t => s.endCheck t stAborted) s
  let s := (List.range 3).foldl (fun s i => if s.rd (bandState i) == 1 then s.freeSlot i else s) s
  let s := s.setPrint fun p =>
    { p with jobs := p.jobs.map fun j => if j.committed < j.bands && j.failed == none then { j with failed := some stAborted } else j }
  { s with raster := { s.raster with checking := none } }

/-! ### The head -/

/-- The head is identified from the HD_ID voltage (R388): the state, and a fault with its two parameters if one is found. -/
def State.identify (s : State) (mv : Nat) : State × Option (Nat × Nat × Nat) :=
  if mv < 50 || 2450 < mv then (s, some (0x0601, 0, mv))
  else
    let b := s.beadD 0x0602 []
    let s := s.wr PRINT.HEAD_ID_OHM mv
    match (List.range (b.length / 16)).find? fun e => u16 b (16 * e) ≤ mv && mv ≤ u16 b (16 * e + 2) with
    | some e => ((s.wr PRINT.HEAD_ENTRY e).wr PRINT.HEAD_IDENTIFIED 1, none)
    | none => (s.wr PRINT.HEAD_IDENTIFIED 0, some (0x0602, 0, mv))

/-- The mean dot resistance in 0.1 Ω that a probe measures (R389), none where a group draws no current, and the groups that draw too
little. -/
def State.probeResult (s : State) (m : HeadMeas) : Option Nat × List Nat :=
  let vh : Rat := mkRat m.vhMv.toNat 1000
  let gs := (List.range s.groupCount).map fun g =>
    let r := s.groupDots g
    (g, r.2 + 1 - r.1, mkRat ((m.groups.getD g 0).toNat) 10000)
  let dotMax : Rat := mkRat (u16 s.headEntry 6) 10
  let low := gs.filter fun g => decide (g.2.2 * 5 * dotMax < g.2.1 * vh) || g.2.2 == 0
  let sum := (gs.map fun g => (g.2.1 : Rat) * ((g.2.1 : Rat) * vh / g.2.2)).foldl (· + ·) 0
  let n : Nat := (gs.map (·.2.1)).foldl (· + ·) 0
  (if gs.any fun g => g.2.2 == 0 then none else some (min 65535 (roundNat (sum / n * 10))), low.map (·.1))

/-- Identification and probe (R388, R389): MEAN_DOHM takes R_mean, an open value where a group draws no current, and then a fault is
raised if one is found. -/
def State.probeHead (s : State) (m : HeadMeas) : State × Option (Nat × Nat × Nat) :=
  match s.identify m.idMv.toNat with
  | (s, some f) => (s, some f)
  | (s, none) =>
    let (mean, low) := s.probeResult m
    let r := mean.getD (s.openWord.1 % 65536)
    let s := if mean.isNone then s.openWord.2 else s
    let s := (s.wr CORE.BG_HEAD_MEAN_DOHM r).wr PRINT.PROBE_GROUP_LOW ((low.map fun g => 2 ^ g).foldl (· + ·) 0)
    match low.head? with
    | some g => (s, some (0x0601, 1 + g, m.idMv.toNat))
    | none =>
      if r < u16 s.headEntry 4 || u16 s.headEntry 6 < r then (s, some (0x0601, 9, m.idMv.toNat)) else (s, none)

/-- A head fault is raised: the head counts as not probed, and a band that runs is torn (R393, R398). -/
def State.headFault (s : State) (f : Nat × Nat × Nat) : State :=
  let s := (s.raise f.1 f.2.1 f.2.2).setPrint fun p => { p with probed := false }
  s.tear 9

/-- The measured leakage for an averaged VH current, both × 10 µA: less the baseline (R394). -/
def State.leakOf (s : State) (raw : Nat) : Nat := raw - s.print.baseline

/-- The leakage limit, and the other settings of bead 0x0685. -/
def State.wetBead (s : State) : List Nat := s.beadD 0x0685 (leBytes 2 200 ++ [1, 25] ++ leBytes 2 120 ++ [50, 0])

/-- The head is found wet (R394). -/
def State.foundWet (s : State) : State :=
  (((s.wr PRINT.STAT_WET 1).evt PRINT.EVT_WET .print).setPrint fun p => { p with dryHead := false }).count cntWet

/-- The head is found dry. -/
def State.foundDry (s : State) : State := (s.wr PRINT.STAT_WET 0).setPrint fun p => { p with dryHead := true }

/-- A dry-out starts (R396). -/
def State.dryStart (s : State) (tag : Option Nat) (maxS : Nat) : State :=
  ((s.setPrint fun p => { p with dry := some { tag := tag, maxS := maxS, since := s.clock } }).wr PRINT.DRY_ELAPSED_S 0).wr
    PRINT.STAT_STATE 5

/-- A head that is not known to be wet is found so by another measurement of a dry-out (R394, R396). -/
def State.stillWet (s : State) : State := if s.print.dryHead then s.foundWet else s

/-- A leakage is measured after a good probe (R394): the head is found wet, or dry with its baseline. -/
def State.leakSeen (s : State) (leak : Nat) : State :=
  let l := s.leakOf leak
  let s := s.wr PRINT.PROBE_LEAK l
  if u16 s.wetBead 0 < l then s.foundWet else s.foundDry.setPrint fun p => { p with baseline := leak }

/-- PRINT's own dry-out starts where AUTO_DRY is 1 and the head has been found wet (R396). -/
def State.autoDry (s : State) : State :=
  if !s.print.dryHead && u8 s.wetBead 2 == 1 && s.print.dry == none && s.base == .run then s.dryStart none (u16 s.wetBead 4) else s

/-- A probe command may start (R391). -/
def State.mayProbe (s : State) (c : Cmd) : Bool :=
  s.running && s.cmdReady c && s.firstIn c.tag .print && s.printing?.isNone && s.print.probe == none

/-- HEAD_PROBE: the head is identified and probed; its leakage is measured next (R391). -/
def execHeadProbe (tag : Fin 64) (m : HeadMeas) (s : State) : Host.Outcome State Fault Refusal :=
  match s.cmd? tag.val with
  | none => .next s
  | some c =>
    if c.op == 0x61 && !c.started && s.mayProbe c then
      match s.probeHead m with
      | (s, some f) => .next (((s.headFault f).complete tag.val stNotReady f.1 f.2.1)).settle
      | (s, none) =>
        .next (((s.start tag.val).setPrint fun p => { p with probe := some tag.val }).wr PRINT.STAT_STATE 4).settle
    else .next s

/-- LEAKAGE_MEASURED: the 1 ms average with every strobe inactive ends (R394), for a HEAD_PROBE (R391) or at step 2 of a RECEIPT (R383,
R395). -/
def execLeakageMeasured (leak : BitVec 16) (s : State) : Host.Outcome State Fault Refusal :=
  let l := s.leakOf leak.toNat
  let wet := u16 s.wetBead 0 < l
  match s.print.probe with
  | some t =>
    let s := ((s.setPrint fun p => { p with probe := none, probed := true }).leakSeen leak.toNat).clearFaults
      (if wet then [0x0601, 0x0602] else [0x0601, 0x0602, 0x0610])
    let r1 := min 65535 l + s.rd PRINT.HEAD_ENTRY * 65536 + (if wet then 2 ^ 20 else 0)
    .next ((s.printIdle).complete t stOK (s.rd CORE.BG_HEAD_MEAN_DOHM) r1).settle
  | none =>
    match s.print.jobs.find? fun j => j.stage == .render && !j.leakOk with
    | none => .next s
    | some j =>
      if s.print.firing.isSome then .next s
      else
        let s := (s.wr PRINT.PROBE_LEAK l).modJob j.tag fun j => { j with leakOk := true, wet := wet }
        .next ((if wet then s.foundWet else s.foundDry).autoDry).settle

/-- DRY_HEAD: the dry-out runs whatever AUTO_DRY is (R397). -/
def execDryHead (tag : Fin 64) (s : State) : Host.Outcome State Fault Refusal :=
  match s.cmd? tag.val with
  | none => .next s
  | some c =>
    if c.op == 0x62 && !c.started && s.mayProbe c then
      if 600 < c.p0 then .next (s.endOpen tag.val stBadParam).settle
      else .next ((s.start tag.val).dryStart (some tag.val) (if c.p0 == 0 then u16 s.wetBead 4 else c.p0)).settle
    else .next s

/-- DRY_PULSE: every dot fires at the dry-out energy, unless the head is above DRY_TEMP (R396, R373). -/
def execDryPulse (m : LineSample) (s : State) : Host.Outcome State Fault Refusal :=
  match s.print.dry with
  | none => .next s
  | some d =>
    let s := (s.wr PRINT.DRY_ELAPSED_S (min 65535 ((s.clock - d.since) / 1000000))).takeHead m.headCode.toNat
    if s.print.dry == none || s.headConv m.headCode > u8 s.wetBead 6 * 10 then .next s.settle
    else
      let vh : Rat := mkRat m.vhMv.toNat 1000
      let e : Rat := mkRat (s.rd PRINT.DRY_DRY_PCT * s.rd PRINT.ENERGY_E_BASE) 1000
      let c := s.calcLine vh (fun dot => decide (dot < s.dots)) fun dot => e * s.rMean / s.rDot dot
      if c.low then .next s.settle
      else
        let s := (s.bump PRINT.COUNT_CLAMPED c.clamped).bump PRINT.COUNT_OVERCAP c.overcap
        .next (c.passes.foldl (fun s p => s.addEnergy p fun k => p.ends.getD k 0) s).settle

/-- A dry-out ends with the command it serves, if any. -/
def State.dryEnd (s : State) (d : Dry) (status leak : Nat) : State :=
  let s := ((s.setPrint fun p => { p with dry := none }).printIdle).wr PRINT.DRY_ELAPSED_S
    (min 65535 ((s.clock - d.since) / 1000000))
  match d.tag with
  | some t => s.complete t status ((s.clock - d.since) / 1000) leak
  | none => s

/-- A dry-out's measurement finds the head wet. -/
def State.dryWet (s : State) (leak : Nat) : State := (s.wr PRINT.PROBE_LEAK (s.leakOf leak)).stillWet

/-- A dry-out's measurement finds the head dry, which ends it (R396); a passing DRY_HEAD clears WET_HEAD (R397). -/
def State.dryDone (s : State) (d : Dry) (leak : Nat) : State :=
  let l := s.leakOf leak
  let s := ((s.wr PRINT.PROBE_LEAK l).foundDry).evt PRINT.EVT_DRY_DONE .print
  (if d.tag.isSome then s.clearFault 0x0610 else s).dryEnd d stOK l

/-- DRY_MEASURE: leakage is measured again, and the dry-out ends when the head is dry (R396, R397). -/
def execDryMeasure (leak : BitVec 16) (s : State) : Host.Outcome State Fault Refusal :=
  match s.print.dry with
  | none => .next s
  | some d =>
    .next (if u16 s.wetBead 0 < s.leakOf leak.toNat then s.dryWet leak.toNat else s.dryDone d leak.toNat).settle

/-- WET_HEAD: the last measurement of a dry-out, whose limit has passed (R396, R397): a head that is still wet raises the fault. -/
def execWetHead (leak : BitVec 16) (s : State) : Host.Outcome State Fault Refusal :=
  match s.print.dry with
  | none => .next s
  | some d =>
    let l := s.leakOf leak.toNat
    .next (if u16 s.wetBead 0 < l then ((s.dryWet leak.toNat).raise 0x0610 0 l).dryEnd d stTimeout l
      else s.dryDone d leak.toNat).settle

/-! ### The recheck (R291 to R294) -/

/-- A recheck is due, and the activity is not stopped (R291, R301). -/
def State.recheckIsDue (s : State) : Bool :=
  let n := u8 (s.beadD 0x00A2 [50]) 0
  s.flag CORE.BG_CTL_HEADCHK_EN && (s.print.recheckDue || (n != 0 && n ≤ s.rd CORE.BG_HEAD_SINCE))

/-- HEAD_RECHECK: a due recheck starts under the conditions of R292. -/
def execHeadRecheck (s : State) : Host.Outcome State Fault Refusal :=
  if s.recheckIsDue && s.running && s.ready .print && !s.queuedFor [.print] && s.print.jobs.isEmpty &&
      s.flag SUPPLY.VH_STAT_SETTLED && s.print.lastReceipt + 100000 ≤ s.clock && !s.print.recheck then
    .next ((s.setPrint fun p => { p with recheck := true, recheckDue := true }).wr PRINT.STAT_STATE 4)
  else .next s

/-- HEAD_RECHECK_DONE: the probe updates MEAN_DOHM and leakage is measured (R294, R394); a change of more than 3 % is told. -/
def execHeadRecheckDone (m : HeadMeas) (leak : BitVec 16) (s : State) : Host.Outcome State Fault Refusal :=
  if s.print.recheck then
    let old := s.rd CORE.BG_HEAD_MEAN_DOHM
    let s := (s.setPrint fun p => { p with recheck := false, recheckDue := false }).wr CORE.BG_HEAD_SINCE 0
    let s := s.printIdle
    match s.probeHead m with
    | (s, some f) => .next (s.headFault f).settle
    | (s, none) =>
      let new := s.rd CORE.BG_HEAD_MEAN_DOHM
      let s := (s.leakSeen leak.toNat).autoDry
      .next (if 3 * old < 100 * (max old new - min old new) then (s.wr CORE.BG_HEAD_SHIFT 1).rodVec .core else s).settle
  else .next s

/-- HEADCHK_NOW: a recheck becomes due (R291, R301). -/
def State.headchkNow (s : State) : State :=
  if s.flag CORE.BG_CTL_HEADCHK_EN && !s.print.recheck then s.setPrint fun p => { p with recheckDue := true } else s

end Sys2Proof.Machine
end

