-- ==== Sys2Proof/Machine/Feed.lean ====
section
/-! DEFINITION. FEED: position feedback and the N/M divider (R408 to R415), commutation (R404 to R406), motion (R416 to
R423), MOVE_PAPER and MOTOR_CHECK (R425 to R428), the sensors (R429 to R431) and AUX (R402). -/

namespace Sys2Proof.Machine

/-! ### Phase advance -/

/-- The phase advance in degrees for a speed in 0.1 mm/s, from the table in force (R406). -/
def State.advTable (s : State) (tenths : Nat) : Rat :=
  let pt (k : Nat) : Nat × Nat :=
    let a := FEED.PHASE_ADV0_SPEED_A.addr + 4 * (k / 2)
    let h := 16 * (k % 2)
    (s.rd ⟨a, h, 8⟩ * 20, s.rd ⟨a, h + 8, 8⟩)
  if tenths ≤ (pt 0).1 then (pt 0).2
  else if (pt 15).1 ≤ tenths then (pt 15).2
  else
    let k := ((List.range 15).find? fun k => tenths < (pt (k + 1)).1).getD 14
    (pt k).2 + (((pt (k + 1)).2 : Rat) - (pt k).2) * (tenths - (pt k).1 : Nat) / (((pt (k + 1)).1 - (pt k).1 : Nat) : Rat)

/-- θ_adv in force: 0 below 5 mm/s and until six edges or steps have passed (R406). -/
def State.thetaAdv (s : State) : Rat :=
  let v := (s.rdI FEED.SPEED_MEAS).natAbs
  if v < 50 || s.feed.steps < 6 then 0 else s.advTable v

/-- ADV_DEG and the winding currents follow θ_adv. -/
def State.showAdv (s : State) : State := (s.wr FEED.HALL_ADV_DEG (roundNat s.thetaAdv)).wind s.thetaAdv

/-! ### Position, divider and triggers -/

/-- Paper that one count moves, in mm (R424, R439). -/
def State.mmPerCount (s : State) : Rat :=
  if s.rd FEED.CFG_FB_TYPE == 0 then mkRat 1 (s.dpmm * u16 (s.beadD 0x0804 []) 2)
  else mkRat 1000 (u32 (s.beadD 0x0802 []) 2)

/-- POS_OUT steps once each way that the line index moves (R415). -/
def State.posOut (s : State) (d : Int) : State :=
  if u8 (s.beadD 0x0885 [0]) 0 % 2 == 1 then s.setFeed fun f => { f with posOut := ((f.posOut + d) % 4).toNat } else s

/-- The position moves by one count, forward or back (R410, R413, R424): the line index, POS_OUT, and at a rise to L_next,
while a band awaits a line in encoder-locked pacing, a start of line (R414). -/
def State.countOne (s : State) (fwd : Bool) (m : LineSample) : State :=
  let d : Int := if fwd then 1 else -1
  let i0 := s.lineIndex
  let s := s.setFeed fun f => { f with pos := f.pos + d, acc := f.acc + d * s.rd FEED.DIV_M }
  let s := s.wr FEED.POS_POS (toBits 32 s.feed.pos)
  let s := if fwd then s.count cntFed s.mmPerCount else s
  let i1 := s.lineIndex
  let s := s.wrI FEED.LINE_VALUE i1
  let s := if i1 == i0 then s else s.posOut (i1 - i0)
  if i0 < i1 && s.encLocked && i1 == s.rdI FEED.L_NEXT_VALUE && 0 < s.print.toTrigger && s.printing?.isSome then
    (s.wrI FEED.L_NEXT_VALUE (i1 + 1)).trigger m
  else s

/-- Several counts one after another. -/
def State.countMany (s : State) (fwd : Bool) (m : LineSample) : Nat → State
  | 0 => s
  | n + 1 => (s.countOne fwd m).countMany fwd m n

/-- A return behind a band's first line has gone far enough (R422): FEED stops, to turn forward again. -/
def State.backDone (s : State) : State :=
  if s.feed.job == .back && !s.feed.dwell &&
      (if s.encLocked then s.lineIndex ≤ s.rdI FEED.L_NEXT_VALUE - 2
       else s.feed.theta ≤ s.feed.lastTheta + u16 (s.beadD 0x0804 []) 2) then s.wr FEED.STAT_STATE 2
  else s

/-- The measured speed in 0.1 mm/s from intervals in ticks, newest first (R411): at most 8 and none that ended more than
4 ms before the newest count. -/
def speedOf (intervals : List Nat) (countsPerM : Nat) : Nat :=
  let kept := (intervals.take 8).foldl (fun (acc : Nat × Nat) t =>
    if acc.2 ≤ 256000 then (acc.1 + 1, acc.2 + t) else acc) (0, 0)
  if kept.2 == 0 then 0 else roundNat (mkRat (kept.1 * 64000000 * 10000) (kept.2 * countsPerM))

/-- A count in a direction with its interval: the speed measure (R411). The very first count ends no interval. -/
def State.speedCount (s : State) (dir : Int) (ticks : Nat) : State :=
  if s.feed.lastDir == 0 then s.setFeed fun f => { f with lastDir := dir }
  else if s.feed.lastDir != dir then
    (((s.setFeed fun f => { f with intervals := [], lastDir := dir }).bump FEED.FB_STAT_DISCARDS).wr FEED.SPEED_MEAS 0).showAdv
  else
    let l := (ticks :: s.feed.intervals).take 8
    let s := s.setFeed fun f => { f with intervals := l, lastDir := dir, lastCount := s.clock }
    (s.wrI FEED.SPEED_MEAS (dir * (min 32767 (speedOf l (u32 (s.beadD 0x0802 []) 2)) : Nat))).showAdv

/-- The place of a pair of levels in the forward order of quadrature, A leading B. -/
def quadPlace (a b : Bool) : Nat := if a then (if b then 2 else 1) else (if b then 3 else 0)

/-- ENCODER_COUNT: the levels of ENC_A and ENC_B at a sample; one edge counts, both at once are a glitch (R408). `ticks`
is the interval since the last count. -/
def execEncoderCount (a b : Bool) (ticks : BitVec 32) (m : LineSample) (s : State) : Host.Outcome State Fault Refusal :=
  if s.awake && s.bank 3 && s.rd FEED.CFG_FB_TYPE == 1 then
    let old := s.feed.encAB
    let oldP := quadPlace (old.testBit 0) (old.testBit 1)
    let newP := quadPlace a b
    let step := (newP + 4 - oldP) % 4
    let s := s.setFeed fun f => { f with encAB := bit a + 2 * bit b }
    if step == 0 then .next s
    else if step == 2 then .next (s.bump FEED.FB_STAT_GLITCH)
    else
      let fwd := (step == 1) != s.flag FEED.CFG_INVERT
      .next ((((s.speedCount (if fwd then 1 else -1) ticks.toNat).countOne fwd m).backDone).settle)
  else .next s

/-- INDEX: a rising edge of ENC_Z (R408). -/
def execIndex (s : State) : Host.Outcome State Fault Refusal :=
  if s.awake && s.bank 3 && s.flag FEED.CFG_Z_USED && s.rd FEED.CFG_FB_TYPE == 1 then
    .next ((s.wr FEED.ZLATCH_VALUE (s.rd FEED.POS_POS)).evt FEED.EVT_INDEX .feed)
  else .next s

/-- SERIAL_READ: one frame of a serial encoder, none where ENC_B was low at the latch (R409). -/
def execSerialRead (frame : Option (BitVec 24)) (m : LineSample) (s : State) : Host.Outcome State Fault Refusal :=
  if s.awake && s.bank 3 && s.rd FEED.CFG_FB_TYPE == 2 then
    let b := s.beadD 0x0802 []
    match frame with
    | none =>
      let n := s.feed.serialErrs + 1
      let s := (s.bump FEED.SERIAL_ERRORS).setFeed fun f => { f with serialErrs := if n < 3 then n else 0 }
      if n < 3 then .next s else .next (s.raise 0x0802 0 (s.rd FEED.POS_POS)).settle
    | some w =>
      let fr := w.toNat % 2 ^ u8 b 6
      let p := fr / 2 ^ (u8 b 6 - u8 b 8) % 2 ^ u8 b 8
      let diff : Int := match s.feed.serial with
        | none => 0
        | some old => ofBits (u8 b 8) (p + 2 ^ u8 b 8 - old)
      let s := (s.setFeed fun f => { f with serial := some p, serialErrs := 0 }).wr FEED.SERIAL_FRAME fr
      let fwd := decide (0 ≤ diff)
      let s := if diff == 0 then s
        else s.speedCount (if fwd then 1 else -1) (max 1 (u8 b 9 * 640 / diff.natAbs))
      .next ((s.countMany fwd m diff.natAbs).backDone).settle
  else .next s

/-! ### Commutation -/

/-- HALL_EDGE: a hall code change commutates the motor, or is counted when it is invalid (R405). -/
def execHallEdge (code : BitVec 3) (ticks : BitVec 32) (s : State) : Host.Outcome State Fault Refusal :=
  if s.awake && s.bank 3 && s.brushless then
    let order := s.beadD 0x0806 []
    let s := s.wr FEED.HALL_CODE code.toNat
    let place := (List.range 6).find? fun i => u8 order i == code.toNat
    let invalid (s : State) : State :=
      (s.bump FEED.HALL_INVALID).setFeed fun f => { f with hallBad := f.hallBad + 1 }
    match place with
    | none => .next (invalid s)
    | some p =>
      match s.feed.hallPlace with
      | none => .next (s.setFeed fun f => { f with hallPlace := some p, sector := p, hallBad := 0 })
      | some q =>
        let step := (p + 6 - q) % 6
        if step == 1 || step == 5 then
          let dir : Int := if step == 1 then 1 else -1
          let turned := s.feed.hallDir != 0 && s.feed.hallDir != dir
          let s := s.setFeed fun f =>
            { f with hallPlace := some p, sector := p, hallBad := 0, hallDir := dir,
                     hallTicks := if turned then [] else (ticks.toNat :: f.hallTicks).take 6,
                     steps := if turned then 0 else f.steps + 1 }
          let s := s.count cntRevs (mkRat 1 (6 * u16 (s.beadD 0x0801 []) 8))
          let s := if s.feedDriving then s.driveHb else s
          .next s.showAdv
        else .next ((invalid s).setFeed fun f => { f with hallPlace := some p })
  else .next s

/-- HALL_INVALID: two invalid hall events in a row, or an invalid code for 1 ms (R405). -/
def execHallInvalid (s : State) : Host.Outcome State Fault Refusal :=
  let code := s.rd FEED.HALL_CODE
  if s.awake && s.brushless && (2 ≤ s.feed.hallBad || code == 0 || code == 7) then
    .next ((s.setFeed fun f => { f with hallBad := 0 }).raise 0x0803 0 code).settle
  else .next s

/-- COMMUTATION_ADVANCE: the next sector is driven θ_adv / 60° of a sector interval early (R406). -/
def execCommutationAdvance (s : State) : Host.Outcome State Fault Refusal :=
  if s.awake && s.brushless && s.feedDriving && s.thetaAdv != 0 then
    match s.feed.hallPlace with
    | none => .next s
    | some p =>
      let n := if s.feed.hallDir < 0 then (p + 5) % 6 else (p + 1) % 6
      if s.feed.sector == n then .next s
      else .next (s.setFeed fun f => { f with sector := n }).driveHb
  else .next s

/-- MICROSTEP: the stepper's next microstep (R404, R417); without feedback it is a count (R410, R413). -/
def execMicrostep (m : LineSample) (s : State) : Host.Outcome State Fault Refusal :=
  let f := s.feed
  let rev := s.flag FEED.STAT_DIR
  let wanted := match f.job with
    | .none => false
    | .lines => s.encLocked || 0 < f.due
    | .target => f.pos != f.target || s.rd FEED.CFG_FB_TYPE != 0
    | .stop => !f.onBrake && s.rd FEED.STAT_STATE != 6
    | .back => s.rd FEED.STAT_STATE != 2
  if s.awake && !s.brushless && wanted && !f.dwell && s.feedDriving then
    let micro := u8 (s.beadD 0x0804 []) 0
    let next := if rev then f.theta - 1 else f.theta + 1
    let s := s.setFeed fun f =>
      { f with theta := next, due := f.due - 1, steps := if next % (max 1 micro : Nat) == 0 then f.steps + 1 else f.steps }
    let s := s.count cntRevs (mkRat 1 (micro * u16 (s.beadD 0x0801 []) 8))
    let s := if s.rd FEED.CFG_FB_TYPE == 0 then s.countOne (!rev) m else s
    .next ((s.backDone).showAdv).settle
  else .next s

/-- FEEDBACK_LOSS: the current command has stayed above I_RUN / 2 for FB_WATCH with no count (R412). -/
def execFeedbackLoss (s : State) : Host.Outcome State Fault Refusal :=
  if s.awake && s.rd FEED.CFG_FB_TYPE != 0 && u16 (s.beadD 0x0801 []) 4 < 2 * s.feed.current.natAbs then
    .next (s.raise 0x0802 0 (s.rd FEED.POS_POS)).settle
  else .next s

/-! ### Motion -/

/-- AT_REST: the speed has stayed below 2 mm/s for 5 ms (R416), and every line up to here counts as white for the next (R370): a move ends, or returns after an overshoot (R418); a return
behind a band turns forward (R422); a stop ends. -/
def execAtRest (s : State) : Host.Outcome State Fault Refusal :=
  if s.awake && s.feedMoving && !s.feed.dwell then
    let s := (s.wr FEED.STAT_AT_REST 1).evt FEED.EVT_AT_REST .feed
    let s := (s.setFeed fun f => { f with steps := 0 }).showAdv
    let s := s.setPrint fun p => { p with hist1 := [], hist2 := [], firing := p.firing.map fun x => { x with dots := [] } }
    match s.feed.job with
    | .target =>
      let past := if s.flag FEED.STAT_DIR then s.feed.target - s.feed.pos else s.feed.pos - s.feed.target
      if 2 < past then
        let s := (s.wr FEED.STAT_OVERSHOOT (min 65535 past.toNat)).setSpeed 0
        let s := s.setFeed fun f => { f with limit := s.rd FEED.REV_REV_SPEED }
        .next (s.feedGo .target (s.feed.target < s.feed.pos))
      else .next ((((s.setSpeed 0).feedHold).afterRest).settle)
    | .back => .next ((s.setSpeed 0).feedGo .lines false)
    | .lines => .next s
    | _ => .next ((((s.setSpeed 0).feedHold).afterRest).settle)
  else .next s

/-- HOLD_END: HOLD_MS at rest is over, and HB0–HB3 go high-impedance (R416). -/
def execHoldEnd (s : State) : Host.Outcome State Fault Refusal :=
  if s.awake && s.rd FEED.STAT_STATE == 3 then
    .next (((s.feedLoopsOff).motorHb [.z, .z, .z, .z]).wr FEED.STAT_STATE 0)
  else .next s

/-- REV_DWELL_END: the change of direction begins (R420). -/
def execRevDwellEnd (s : State) : Host.Outcome State Fault Refusal :=
  if s.awake && s.feed.dwell then
    let rev := !s.flag FEED.STAT_DIR
    let s := (s.wrB FEED.STAT_DIR rev).setFeed fun f => { f with dwell := false, steps := 0 }
    .next ((s.wr FEED.STAT_STATE (if rev then 4 else 1)).wr FEED.STAT_AT_REST 0)
  else .next s

/-- MOVE_PAPER (R425). -/
def execMovePaper (tag : Fin 64) (s : State) : Host.Outcome State Fault Refusal :=
  match s.cmd? tag.val with
  | none => .next s
  | some c =>
    let d := ofBits 32 c.p0
    let ignore := c.p2.testBit 0
    let sensors := s.flag FEED.STAT_COVER && (s.flag FEED.STAT_PAPER || ignore || d < 0)
    if c.op == 0x80 && !c.started && s.running && s.ready .feed && s.firstIn tag.val .feed && !s.feedMoving then
      let sp := c.p1 % 65536
      if d == 0 || d < -4096 || 65535 < d || (sp != 0 && (sp < 10 || 250 < sp)) then
        .next (s.endOpen tag.val stBadParam).settle
      else if !sensors then .next s
      else
        let v := if sp == 0 then 100 else sp
        let v := if d < 0 then min v (s.rd FEED.REV_REV_SPEED) else v
        let s := (s.start tag.val).setFeed fun f => { f with tag := some tag.val, status := stOK, ignorePaper := ignore }
        .next (s.feedTo (s.feed.pos + s.linesToCounts d) v).settle
    else .next s

/-! ### Motor identification -/

/-- The verdict of a motor check (R426, R428): bits [2:0] windings out of tolerance, bit 3 an open winding, and the mean
resistance and inductance over the windings that are not open. -/
def State.motorVerdict (s : State) (m : List WindingMeas) : Nat × Nat × Nat :=
  let b := s.beadD 0x0801 []
  let out (v nom tol : Nat) : Bool := decide (100 * (max v nom - min v nom) > nom * tol)
  let n := if s.brushless then 3 else 2
  let ms := (List.range n).map fun i => (i, m.getD i { r := 0, l := 0, isOpen := true })
  let bad := (ms.filter fun p => !p.2.isOpen && (out p.2.r.toNat (u16 b 0) (u8 b 10) || out p.2.l.toNat (u16 b 2) (u8 b 11))).map
    fun p => 2 ^ p.1
  let closed := ms.filter fun p => !p.2.isOpen
  let mean (f : WindingMeas → Nat) : Nat :=
    if closed.isEmpty then 0 else roundNat (mkRat ((closed.map fun p => f p.2).foldl (· + ·) 0 : Nat) closed.length)
  (bad.foldl (· + ·) 0 + (if ms.any (·.2.isOpen) then 8 else 0), mean (·.r.toNat), mean (·.l.toNat))

/-- A motor check's results in FEED.MOTOR. -/
def State.motorSeen (s : State) (m : List WindingMeas) : State :=
  let v := s.motorVerdict m
  (s.wr FEED.MOTOR_R_MEAS v.2.1).wr FEED.MOTOR_L_MEAS v.2.2

/-- MOTOR_CHECK: the windings are measured against the image (R428). -/
def execMotorCheck (tag : Fin 64) (m : List WindingMeas) (s : State) : Host.Outcome State Fault Refusal :=
  match s.cmd? tag.val with
  | none => .next s
  | some c =>
    if c.op == 0x81 && !c.started && s.running && !s.feedMoving && s.ready .supply && s.ready .loop && !s.hasCause .feed &&
        s.firstIn tag.val .feed && s.boot.brake == 0 then
      let v := s.motorVerdict m
      let s := s.motorSeen m
      .next (s.complete tag.val (if v.1 == 0 then stOK else stNotReady) (v.2.1 + v.2.2 * 65536) v.1).settle
    else .next s

/-! ### Sensors -/

/-- A sensor's field of FEED.STAT, and its bit in bead 0x0884. -/
def sensorFld : Sensor → Fld
  | .paper => FEED.STAT_PAPER
  | .nearEnd => FEED.STAT_NEAR_END
  | .cover => FEED.STAT_COVER
def sensorBit : Sensor → Nat
  | .paper => 0
  | .nearEnd => 1
  | .cover => 2

/-- A sensor reads active or inactive from here on, with what follows its change (R429 to R431, R434, R435). -/
def State.sensorSet (s : State) (x : Sensor) (active : Bool) : State :=
  let s := s.wrB (sensorFld x) active
  match x with
  | .nearEnd => (s.evt FEED.EVT_NEAR_END .feed).rodVec .feed
  | .paper =>
    let s := (s.evt (if active then FEED.EVT_PAPER_IN else FEED.EVT_PAPER_OUT) .feed).rodVec .feed
    if active then s.settle
    else
      let s := s.tear 10
      let s := if s.feed.tag.isSome && !s.feed.ignorePaper then
        (s.setFeed fun f => { f with status := stTorn }).feedStop else s
      s.settle
  | .cover =>
    let s := (s.evt (if active then FEED.EVT_COVER_CLOSED else FEED.EVT_COVER_OPEN) .feed).rodVec .feed
    if active then (s.setCut fun c => { c with needHome := true }).settle
    else
      let s := s.tear 10
      let s := if s.feed.tag.isSome then (s.setFeed fun f => { f with status := stTorn }).feedStop else s
      let s := match s.print.jobs.find? fun j => j.stage == .out with
        | some j => (s.modJob j.tag fun j => { j with noCut := some stTorn }).feedStop
        | none => s
      let s := if s.cutDriving || s.cut.tag.isSome then (s.cutEnd 2).cutBrake .stay else s
      s.settle

/-- SENSOR_CHANGE: a sensor's input has been stable at a level for DEBOUNCE_MS (R429). -/
def execSensorChange (x : Sensor) (level : Bool) (s : State) : Host.Outcome State Fault Refusal :=
  let b := s.beadD 0x0884 [0, 0, 2, 0]
  let active := level == (u8 b 0).testBit (sensorBit x)
  if s.awake && s.bank 3 && (u8 b 1).testBit (sensorBit x) && s.flag (sensorFld x) != active then .next (s.sensorSet x active)
  else .next s

/-! ### AUX (R402) and the bridges -/

/-- A write of FEED.AUX; HOLD_PCT is held to its range (R402). While the always-on brake path holds the bridges, AUX stays as it is until
the hold ends (R83). -/
def State.writeAux (s : State) (w : Word) : State :=
  let on := w.getLsbD 0
  let s := (s.wrB FEED.AUX_ON on).wr FEED.AUX_HOLD_PCT (clampNat 10 100 (field w 8 8))
  if !s.auxUsed then s
  else if on then
    if s.auxDriving || s.boot.brake != 0 then s else s.auxPull
  else if s.auxDriving then s.setFeed fun f => { f with aux := .release, hb := f.hb.set 3 .low } else s

/-- AUX_ON: a write of FEED.AUX with ON = 1. -/
def execAuxOn (w : BitVec 32) (s : State) : Host.Outcome State Fault Refusal :=
  .next (s.hostReg .feed fun s => s.writeAux (w ||| 1))

/-- AUX_OFF: a write of FEED.AUX with ON = 0. -/
def execAuxOff (w : BitVec 32) (s : State) : Host.Outcome State Fault Refusal :=
  .next (s.hostReg .feed fun s => s.writeAux (w &&& ~~~1))

/-- AUX_PULL_END: PULL_MS is over, and AUX falls to HOLD_PCT duty (R402). -/
def execAuxPullEnd (s : State) : Host.Outcome State Fault Refusal :=
  if s.awake && s.feed.aux == .pull then .next (s.setFeed fun f => { f with aux := .hold, hb := f.hb.set 3 .pwm }) else .next s

/-- AUX_RELEASE: the 2 ms low drive ends, and HB3 goes high-impedance (R402). -/
def execAuxRelease (s : State) : Host.Outcome State Fault Refusal :=
  if s.awake && s.feed.aux == .release then .next (s.setFeed fun f => { f with aux := .off, hb := f.hb.set 3 .z }) else .next s

/-- BRIDGE_OCP: more than 3.0 A in a half-bridge for 1 µs (R407). -/
def execBridgeOcp (hb : Fin 6) (s : State) : Host.Outcome State Fault Refusal :=
  if s.awake then .next (s.raise (if hb.val < 4 then 0x0820 else 0x0920) 0 hb.val).settle else .next s

/-- HELD_BRAKE_END: the brake hold ends, and the braked bridges go high-impedance (R529). -/
def execHeldBrakeEnd (s : State) : Host.Outcome State Fault Refusal :=
  if s.awake && s.flag CORE.HELD_STAT_BRAKE then .next s.bridgesZ.settle else .next s

end Sys2Proof.Machine
end

