-- ==== Sys2Proof/Machine/Cut.lean ====
section
/-! DEFINITION. CUT: the cut and homing sequences as its switches, timers and brake bring them about (R432 to R437), and
its registers with a rule of their own (R440). -/

namespace Sys2Proof.Machine

/-- CUT: a full or partial cut (R432, R437). -/
def execCut (tag : Fin 64) (s : State) : Host.Outcome State Fault Refusal :=
  match s.cmd? tag.val with
  | none => .next s
  | some c =>
    if c.op == 0x90 && !c.started && s.running && s.ready .cut && s.firstIn tag.val .cut && s.cut.tag.isNone then
      .next ((s.start tag.val).cutStart tag.val false (c.p0.testBit 0) true).settle
    else .next s

/-- HOME: the blade is driven back to HOME, whether or not CUT is READY (R434, R437). -/
def execHome (tag : Fin 64) (s : State) : Host.Outcome State Fault Refusal :=
  match s.cmd? tag.val with
  | none => .next s
  | some c =>
    if c.op == 0x91 && !c.started && s.running && s.ready .loop && s.flag FEED.STAT_COVER && !s.hasCause .cut &&
        s.firstIn tag.val .cut && s.cut.tag.isNone && !s.cutDriving && s.boot.brake == 0 &&
        !(s.flag CUT.STAT_HOME && s.flag CUT.STAT_END) then
      let s := s.start tag.val
      if s.flag CUT.STAT_HOME then
        let s := s.setCut fun x => { x with tag := some tag.val, receipt := false, isCut := false, reversals := 0, since := s.clock }
        .next ((s.homed).cutEnd 0).settle
      else .next (s.cutStart tag.val false false false).settle
    else .next s

/-- CUT_HOME and CUT_END read active or inactive from here on (R432, R433). -/
def State.cutSwitches (s : State) (home fin : Bool) : State :=
  let s := (s.wrB CUT.STAT_HOME home).wrB CUT.STAT_END fin
  match s.rd CUT.STAT_STATE with
  | 1 =>
    let s := if home then s else s.setCut fun c => { c with left := true }
    (if fin && !s.cut.partialCut then s.cutBrake .back else s).settle
  | 3 =>
    if !home then s.settle
    else if s.cut.jammed then
      if s.cut.reversals ≤ s.rd CUT.JAM_JAM_RETRIES then
        ((s.setCut fun c => { c with jammed := false }).cutDrive 1).settle
      else (((s.raise 0x0901 0 s.cut.reversals).cutEnd 1).cutBrake .stay).settle
    else (s.cutBrake .finish).settle
  | 4 => (if home then s.cutBrake .finish else s).settle
  | _ => s.settle

/-- CUT_SWITCH: debounced levels of CUT_HOME and CUT_END (R432, R433). -/
def execCutSwitch (homeLevel endLevel : Bool) (s : State) : Host.Outcome State Fault Refusal :=
  if s.awake && s.bank 3 then
    let act := u8 (s.beadD 0x0900 []) 1
    .next (s.cutSwitches (homeLevel == act.testBit 0) (endLevel == act.testBit 1))
  else .next s

/-- SWITCH_CONFLICT: both switches have been active for 2 ms (R435). -/
def execSwitchConflict (s : State) : Host.Outcome State Fault Refusal :=
  if s.awake && s.flag CUT.STAT_HOME && s.flag CUT.STAT_END then
    let drive := s.cutDriving
    let s := (s.raise 0x0902 0 0).cutEnd 4
    .next (if drive then s.cutBrake .stay else s).settle
  else .next s

/-- A return or homing has failed (R433, R434): the blade is braked where it stands, and then set high-impedance. -/
def State.homeFailed (s : State) : State :=
  let s := (s.raise 0x0910 0 ((s.clock - s.cut.since) / 1000)).cutEnd 3
  (s.setCut fun c => { c with needHome := false }).cutBrake .stay

/-- JAM: the current has stayed above I_JAM for JAM_MS, or the drive has reached END_MS (R433): in the drive forward the blade is braked
and returned, and the reversal counts; a return fails. -/
def execJam (s : State) : Host.Outcome State Fault Refusal :=
  if s.awake && s.rd CUT.STAT_STATE == 1 then
    let s := (s.setCut fun c => { c with jammed := true, reversals := min 255 (c.reversals + 1) }).count cntJams
    .next ((s.evt CUT.EVT_JAM_REV .cut).cutBrake .jamBack).settle
  else if s.awake && s.rd CUT.STAT_STATE == 3 then .next s.homeFailed.settle
  else .next s

/-- CUT_BRAKE_END: the 5 ms brake ends, and the next step of the sequence follows (R432). -/
def execCutBrakeEnd (s : State) : Host.Outcome State Fault Refusal :=
  if s.awake && s.rd CUT.STAT_STATE == 2 then
    match s.cut.next with
    | .back | .jamBack => .next (s.cutDrive 3).settle
    | .stay => .next (s.cutZ.settle)
    | .finish =>
      if s.cut.thenCut && s.flag CUT.STAT_HOME then .next ((s.setCut fun c => { c with thenCut := false }).cutDrive 1).settle
      else
        let homing := s.cut.needHome || !s.cut.isCut
        let s := s.cutZ
        let s := if homing && s.flag CUT.STAT_HOME then s.homed else s
        .next (s.cutEnd 0).settle
  else .next s

/-- PARTIAL_MS_END: PARTIAL_MS after CUT_HOME went inactive ends a partial cut's forward drive (R432). -/
def execPartialMsEnd (s : State) : Host.Outcome State Fault Refusal :=
  if s.awake && s.rd CUT.STAT_STATE == 1 && s.cut.partialCut && s.cut.left then .next (s.cutBrake .back).settle else .next s

/-- HOME_TIMEOUT: a return or homing has passed its limit (R433, R434); the blade is braked where it stands. -/
def execHomeTimeout (s : State) : Host.Outcome State Fault Refusal :=
  if s.awake && (s.rd CUT.STAT_STATE == 3 || s.rd CUT.STAT_STATE == 4) then .next s.homeFailed.settle else .next s

/-- A write of CUT.TIMING: refused when END_MS + HOME_MS would exceed 400 ms (R440); other values are held to their ranges. -/
def State.writeCutTiming (s : State) (w : Word) : State :=
  let e := clampNat 50 300 (field w 0 9)
  let h := clampNat 50 300 (field w 16 9)
  if 400 < e + h then s.evt CUT.EVT_REFUSED .cut else (s.wr CUT.TIMING_END_MS e).wr CUT.TIMING_HOME_MS h

def execCutTimingWrite (w : BitVec 32) (s : State) : Host.Outcome State Fault Refusal :=
  .next (s.hostReg .cut fun s => s.writeCutTiming w)

end Sys2Proof.Machine
end

