-- ==== Sys2Proof/Machine/Nal.lean ====
section
/-! DEFINITION. What is read of an H.264 byte stream's parameter sets, SEI and slice headers (R494, R501, R502). Their layout is
that of the standard the spec names (PRESUMED, log entry 58). -/

namespace Sys2Proof.Machine

/-- The bytes of an Annex B stream ahead of its first start code 00 00 00 01, and those of each NAL unit after one (R506). -/
def annexB : List Nat → List Nat × List (List Nat)
  | 0 :: 0 :: 0 :: 1 :: bs => ([], (annexB bs).1 :: (annexB bs).2)
  | b :: bs => (b :: (annexB bs).1, (annexB bs).2)
  | [] => ([], [])

/-- A NAL unit without its emulation prevention bytes; `z` zero bytes stand ahead of the list. -/
def unescape : Nat → List Nat → List Nat
  | z, b :: bs => if 2 ≤ z && b == 3 then unescape 0 bs else b :: unescape (if b == 0 then z + 1 else 0) bs
  | _, [] => []

/-- Bytes as bits, the most significant first. -/
def nalBits (bs : List Nat) : List Bool := bs.flatMap fun b => (List.range 8).map fun i => b.testBit (7 - i)

/-- Bits as a number, the most significant first. -/
def nalVal (l : List Bool) : Nat := l.foldl (fun n b => 2 * n + bit b) 0

/-- A syntax element: `n` bits, or an unsigned Exp-Golomb code. -/
inductive NalFld where
  | u (n : Nat)
  | ue
deriving DecidableEq, Repr

/-- An Exp-Golomb code behind `z` zero bits, and what follows it. -/
def golomb : Nat → List Bool → Option (Nat × List Bool)
  | z, true :: bs => if z ≤ bs.length then some (2 ^ z - 1 + nalVal (bs.take z), bs.drop z) else none
  | z, false :: bs => golomb (z + 1) bs
  | _, [] => none

/-- The values of syntax elements in their order; `none` where the bits end first. -/
def nalFlds : List NalFld → List Bool → Option (List Nat)
  | [], _ => some []
  | .u n :: fs, bs => if n ≤ bs.length then (nalFlds fs (bs.drop n)).map (nalVal (bs.take n) :: ·) else none
  | .ue :: fs, bs =>
    match golomb 0 bs with
    | some (v, rest) => (nalFlds fs rest).map (v :: ·)
    | none => none

/-- The elements of a NAL unit read as `fs`. -/
def readNal (fs : List NalFld) (unit : List Nat) : Option (List Nat) := nalFlds fs (nalBits (unescape 0 unit))

/-- A sequence parameter set's elements up to pic_order_cnt_type: the header, profile_idc, the constraint flags, level_idc, its id,
log2_max_frame_num_minus4 and the type. -/
def spsHead : List NalFld := [.u 8, .u 8, .u 1, .u 1, .u 6, .u 8, .ue, .ue, .ue]

/-- The elements of each pic_order_cnt_type: type 1 has as many offsets as it counts. -/
def spsOrder (unit : List Nat) : Nat → List NalFld
  | 0 => [.ue]
  | 1 =>
    match readNal (spsHead ++ [.u 1, .ue, .ue, .ue]) unit with
    | some v => [.u 1, .ue, .ue, .ue] ++ List.replicate (v.getD 12 0) .ue
    | none => []
  | _ => []

/-- The sequence parameter set of a stream of ENC (R494): Constrained Baseline, its level, one reference frame, its size in
macroblocks and frame_mbs_only_flag 1. -/
def spsOk (unit : List Nat) (level w h : Nat) : Bool :=
  match readNal spsHead unit with
  | none => false
  | some a =>
    let order := spsOrder unit (a.getD 8 0)
    match readNal (spsHead ++ order ++ [.ue, .u 1, .ue, .ue, .u 1]) unit with
    | none => false
    | some v =>
      let t := v.drop (9 + order.length)
      a.getD 0 0 % 32 == 7 && a.getD 0 0 < 128 && a.getD 1 0 == 66 && a.getD 3 0 == 1 && a.getD 5 0 == level && t.getD 0 0 == 1 &&
        16 * (t.getD 2 0 + 1) == w && 16 * (t.getD 3 0 + 1) == h && t.getD 4 0 == 1

/-- The picture parameter set of a stream of ENC (R494, R501): CAVLC, one slice group, and constrained_intra_pred_flag 1. -/
def ppsOk (unit : List Nat) : Bool :=
  match readNal [.u 8, .ue, .ue, .u 1, .u 1, .ue, .ue, .ue, .u 1, .u 2, .ue, .ue, .ue, .u 1, .u 1] unit with
  | none => false
  | some v => v.getD 0 0 % 32 == 8 && v.getD 0 0 < 128 && v.getD 3 0 == 0 && v.getD 5 0 == 0 && v.getD 14 0 == 1

/-- A recovery point SEI with recovery_frame_cnt = SWEEP − 1 and exact_match_flag 1 (R494, R502). -/
def seiOk (unit : List Nat) (sweep : Nat) : Bool :=
  match readNal [.u 8, .u 8, .u 8, .ue, .u 1] unit with
  | none => false
  | some v => v.getD 0 0 % 32 == 6 && v.getD 0 0 < 128 && v.getD 1 0 == 6 && v.getD 3 0 + 1 == sweep && v.getD 4 0 == 1

/-- What stands ahead of the first slice of frame 0 of a sweep (R502): SPS, PPS and SEI, 80 bytes at most. -/
def sweepHeadOk (bytes : List Nat) (level w h sweep : Nat) : Bool :=
  bytes.length ≤ 80 &&
    match annexB bytes with
    | ([], [sps, pps, sei]) => spsOk sps level w h && ppsOk pps && seiOk sei sweep
    | _ => false

/-- A slice's NAL unit (R494, R502): a reference picture's, its first macroblock, and I slices only in an IDR picture, I or P
otherwise. -/
def sliceHeadOk (bytes : List Nat) (idr : Bool) (first : Nat) : Bool :=
  bytes.take 4 == [0, 0, 0, 1] &&
    match readNal [.u 8, .ue, .ue] ((bytes.drop 4).take 16) with
    | none => false
    | some v =>
      v.getD 0 0 < 128 && v.getD 0 0 / 32 != 0 && v.getD 0 0 % 32 == (if idr then 5 else 1) && v.getD 1 0 == first &&
        (v.getD 2 0 % 5 == 2 || (!idr && v.getD 2 0 % 5 == 0)) && v.getD 2 0 < 10

end Sys2Proof.Machine
end

