-- ==== Sys2Proof/Machine/Supply.lean ====
section
/-! DEFINITION. SUPPLY: the targets and ramps of VCORE and VH (R133 to R145), the watch over VIN and VM (R146 to R154),
and its faults (R155). -/

namespace Sys2Proof.Machine

def State.setSup (s : State) (f : Supply → Supply) : State := { s with sup := f s.sup }

/-! ### Targets -/

/-- A host write of SUPPLY.VCORE_TGT. The slew is stored; a level other than the present target is the new target, unless a
change of operating point is busy, the level is out of range, or it lies below the point in force (R122, R133, R134,
R139). DESIGN CHOICE (log entry 56): a write of the present level does nothing (R133) and is refused by nothing, also while a
change is busy. -/
def State.writeVcoreTgt (s : State) (w : Word) : State :=
  let lvl := field w 0 7
  let s := s.wr SUPPLY.VCORE_TGT_SLEW (clampNat 1 10 (field w 8 4))
  if lvl == s.rd SUPPLY.VCORE_TGT_LEVEL then s
  else
    let busy := s.flag CORE.DVFS_STAT_BUSY
    let range := lvl < 70 || 95 < lvl
    let low := !busy && s.clk.inForce && lvl < s.rd (oppMv (s.rd CORE.DVFS_STAT_CUR_POINT))
    let s := if busy then s.wr SUPPLY.VCORE_STAT_BUSY_REFUSED 1 else s
    let s := if range then s.wr SUPPLY.VCORE_STAT_RANGE_REFUSED 1 else s
    let s := if low then s.wr CORE.DVFS_STAT_LOW_REFUSED 1 else s
    if busy || range || low then s else s.vcoreTarget lvl

/-- VCORE_TGT_WRITE. -/
def execVcoreTgtWrite (w : BitVec 32) (s : State) : Host.Outcome State Fault Refusal :=
  .next (s.hostReg .supply fun s => s.writeVcoreTgt w)

/-- VH_MAX of VH_PARTS, and never more than 140 (R142). -/
def State.vhMax (s : State) : Nat :=
  match s.bead? 0x0501 with
  | some b => min 140 (u8 b 0)
  | none => 140

/-- A host write of SUPPLY.VH_TGT (R133, R135, R142). -/
def State.writeVhTgt (s : State) (w : Word) : State :=
  let code := field w 0 8
  if s.vhMax < code then s.wr SUPPLY.VH_STAT_REFUSED 1
  else if code == s.rd SUPPLY.VH_TGT_CODE then s
  else (s.wr SUPPLY.VH_TGT_CODE code).wr SUPPLY.VH_STAT_SETTLED 0

/-- VH_TGT_WRITE. -/
def execVhTgtWrite (w : BitVec 32) (s : State) : Host.Outcome State Fault Refusal :=
  .next (s.hostReg .supply fun s => s.writeVhTgt w)

/-- A host write of SUPPLY.VH_CTL: refused in HELD if it would set EN (R144); VH then follows R141. -/
def State.writeVhCtl (s : State) (w : Word) : State :=
  let en := field w 0 1
  if s.base == .held && en == 1 then s.wr SUPPLY.VH_STAT_REFUSED 1 else s.wr SUPPLY.VH_CTL_EN en

/-- VH_CTL_WRITE. -/
def execVhCtlWrite (w : BitVec 32) (s : State) : Host.Outcome State Fault Refusal :=
  .next (s.hostReg .supply fun s => (s.writeVhCtl w).settle)

/-! ### Levels (R146, R150) -/

/-- A level in its range that keeps the order of R146 or R150 is stored; any other is refused. DESIGN CHOICE (log entry 56): R146
and R150 state the ranges and refuse a write that breaks the order; the model refuses one outside its range alike. -/
def State.levelWrite (s : State) (f : Fld) (lo hi lvl : Nat) (order : Bool) : State :=
  if lo ≤ lvl && lvl ≤ hi && order then s.wr f lvl else s.evt SUPPLY.EVT_LEVEL_REFUSED .supply

/-- A host write of SUPPLY.VIN_FLOOR. -/
def State.writeVinFloor (s : State) (w : Word) : State :=
  s.levelWrite SUPPLY.VIN_FLOOR_LEVEL 50 120 (field w 0 8) (s.rd SUPPLY.VIN_CRIT_LEVEL < field w 0 8)
/-- A host write of SUPPLY.VIN_CRIT. -/
def State.writeVinCrit (s : State) (w : Word) : State :=
  s.levelWrite SUPPLY.VIN_CRIT_LEVEL 50 120 (field w 0 8) (field w 0 8 < s.rd SUPPLY.VIN_FLOOR_LEVEL)
/-- A host write of SUPPLY.VM_CEIL. -/
def State.writeVmCeil (s : State) (w : Word) : State :=
  s.levelWrite SUPPLY.VM_CEIL_LEVEL 60 180 (field w 0 8) (field w 0 8 < s.rd SUPPLY.VM_DUMP_LEVEL)
/-- A host write of SUPPLY.VM_DUMP. -/
def State.writeVmDump (s : State) (w : Word) : State :=
  s.levelWrite SUPPLY.VM_DUMP_LEVEL 60 180 (field w 0 8) (s.rd SUPPLY.VM_CEIL_LEVEL < field w 0 8)

/-- VIN_FLOOR_WRITE. -/
def execVinFloorWrite (w : BitVec 32) (s : State) : Host.Outcome State Fault Refusal :=
  .next (s.hostReg .supply fun s => s.writeVinFloor w)
/-- VIN_CRIT_WRITE. -/
def execVinCritWrite (w : BitVec 32) (s : State) : Host.Outcome State Fault Refusal :=
  .next (s.hostReg .supply fun s => s.writeVinCrit w)
/-- VM_CEIL_WRITE. -/
def execVmCeilWrite (w : BitVec 32) (s : State) : Host.Outcome State Fault Refusal :=
  .next (s.hostReg .supply fun s => s.writeVmCeil w)
/-- VM_DUMP_WRITE. -/
def execVmDumpWrite (w : BitVec 32) (s : State) : Host.Outcome State Fault Refusal :=
  .next (s.hostReg .supply fun s => s.writeVmDump w)

/-! ### Ramps and settling (R133 to R138, R141) -/

/-- A setpoint one step nearer its target. -/
def rampStep (cur goal step : Nat) : Nat := if cur < goal then min goal (cur + step) else max goal (cur - step)

/-- VCORE's target in µV. -/
def State.vcoreGoal (s : State) : Nat := s.rd SUPPLY.VCORE_TGT_LEVEL * 10000
/-- VH's target in µV. -/
def State.vhGoal (s : State) : Nat := 5000000 + s.rd SUPPLY.VH_TGT_CODE * 50000

/-- VCORE's ramp setpoint, with its report. -/
def State.setVcore (s : State) (uv : Nat) : State :=
  (s.setSup fun p => { p with vcoreUv := uv }).wr SUPPLY.VCORE_STAT_RAMP (uv / 10000)
/-- VH's ramp setpoint, with its report. -/
def State.setVh (s : State) (uv : Nat) : State :=
  (s.setSup fun p => { p with vhUv := uv }).wr SUPPLY.VH_STAT_RAMP (min 255 (uv / 50000 - 100))

/-- VH as it is measured now, in µV, against its ramp setpoint: above it by more than 2 % the discharge switch turns on, until VH
is within 1 % of it (R137). -/
def State.vhWatch (s : State) (uv : Nat) : State :=
  let pct := if s.sup.vhOver then 101 else 102
  s.vhSwitch s.sup.vhEmpty (pct * s.sup.vhUv < 100 * uv)

/-- One microsecond of the ramps: at the programmed slew, and at 8 mV/µs in the soft start; VH as it is measured then is a free
value. -/
def State.rampTick (s : State) : State :=
  let slew := if s.sup.softStart then 8 else max 1 (s.rd SUPPLY.VCORE_TGT_SLEW)
  let s := s.setVcore (rampStep s.sup.vcoreUv s.vcoreGoal (slew * 1000))
  if s.flag SUPPLY.VH_STAT_ON then
    (s.setVh (rampStep s.sup.vhUv s.vhGoal (max 1 (s.rd SUPPLY.VH_SLEW_RATE) * 100))).fresh.2.vhWatch (Config.vhMeasured s.free)
  else s

/-- VCORE_SETTLED: VCORE has held at its target for the hold time; a change of operating point that waits goes on. -/
def execVcoreSettled (mv : BitVec 16) (s : State) : Host.Outcome State Fault Refusal :=
  if s.awake && !s.flag SUPPLY.VCORE_STAT_SETTLED then
    let s := (s.setVcore s.vcoreGoal).setSup fun p => { p with softStart := false }
    let s := (s.wr SUPPLY.VCORE_STAT_SETTLED 1).wr SUPPLY.VCORE_STAT_MEAS_MV mv.toNat
    .next ((s.evt SUPPLY.EVT_VCORE_SETTLED .supply).dvfsSettled.dvfsPending).settle
  else .next s

/-- VH_SETTLED: VH has held at its target for the hold time. -/
def execVhSettled (s : State) : Host.Outcome State Fault Refusal :=
  if s.awake && s.flag SUPPLY.VH_STAT_ON && !s.flag SUPPLY.VH_STAT_SETTLED then
    let s := ((s.setVh s.vhGoal).wr SUPPLY.VH_STAT_SETTLED 1).wr SUPPLY.VH_STAT_ILIM 0
    .next ((s.evt SUPPLY.EVT_VH_SETTLED .supply).setPrint fun p => { p with vhSettled := true }).settle
  else .next s

/-- VH_DISCHARGED: VH has fallen below 1.0 V, and the discharge switch turns off (R141, R143). -/
def execVhDischarged (s : State) : Host.Outcome State Fault Refusal :=
  if s.flag SUPPLY.VH_STAT_DISCHARGING then .next (s.vhSwitch false false) else .next s

/-! ### VIN and VM -/

/-- VIN_FLOOR: VIN is below the floor during a line's passes (R147, R376). A line counts once. -/
def execVinFloor (s : State) : Host.Outcome State Fault Refusal :=
  if s.awake && s.print.firing.isSome then
    let s := s.evt SUPPLY.EVT_VIN_FLOOR .supply
    if s.print.floorLine then .next s
    else
      let s := (s.setPrint fun p => { p with floorLine := true }).bump SUPPLY.COUNT_FLOOR_LINES
      .next (s.evt PRINT.EVT_CAP_DOWN .print)
  else .next s

/-- VIN_CRIT: VIN has stayed below the critical level for the filter time (R148). -/
def execVinCrit (s : State) : Host.Outcome State Fault Refusal :=
  if s.awake then
    let s := ((s.evt SUPPLY.EVT_VIN_CRIT .supply).bump SUPPLY.COUNT_CRIT_EVENTS)
    .next (if s.printing?.isSome then (s.vec 21).tear 1 else s).settle
  else .next s

/-- VM_CEIL: VM has risen above its ceiling (R151). -/
def execVmCeil (s : State) : Host.Outcome State Fault Refusal :=
  if s.awake && !s.sup.vmHigh then
    .next (((s.setSup fun p => { p with vmHigh := true }).wr FEED.STAT_VM_LIMIT 1).evt SUPPLY.EVT_VM_CEIL .supply)
  else .next s

/-- VM_CEIL_CLEAR: VM has fallen 0.2 V below its ceiling. -/
def execVmCeilClear (s : State) : Host.Outcome State Fault Refusal :=
  .next ((s.setSup fun p => { p with vmHigh := false }).wr FEED.STAT_VM_LIMIT 0)

/-- DUMP_CFG (bead 0x0502). -/
def State.dumpCfg (s : State) : List Nat := s.beadD 0x0502 [0, 0, 0, 0]

/-- VM_DUMP: VM has risen above VM_DUMP, and DUMP is driven if it is enabled (R152). -/
def execVmDump (s : State) : Host.Outcome State Fault Refusal :=
  if s.awake && u8 s.dumpCfg 0 == 1 && !s.flag SUPPLY.VM_DUMP_DUMP_ON && !s.sup.dumpSpent then
    let s := ((s.wr SUPPLY.VM_DUMP_DUMP_ON 1).bump SUPPLY.COUNT_DUMP_EVENTS).count cntDump
    .next (s.evt SUPPLY.EVT_VM_DUMP .supply)
  else .next s

/-- DUMP_RELEASE: VM has fallen 0.3 V below VM_DUMP. -/
def execDumpRelease (s : State) : Host.Outcome State Fault Refusal :=
  .next ((s.wr SUPPLY.VM_DUMP_DUMP_ON 0).setSup fun p => { p with dumpSpent := false })

/-- VM_TRIP: VM exceeds the trip level (R153). -/
def execVmTrip (vm : BitVec 16) (s : State) : Host.Outcome State Fault Refusal :=
  if s.inReset then .next s else .next (s.raise 0x0520 0 vm.toNat).settle

/-- DUMP_OVERRUN: DUMP has been active for longer than DUMP_MAX_MS (R154). -/
def execDumpOverrun (vm : BitVec 16) (s : State) : Host.Outcome State Fault Refusal :=
  if s.awake && s.flag SUPPLY.VM_DUMP_DUMP_ON then
    let s := (s.wr SUPPLY.VM_DUMP_DUMP_ON 0).setSup fun p => { p with dumpSpent := true }
    .next (s.raise 0x0521 0 vm.toNat).settle
  else .next s

/-- A fault of VH (R155): VH goes off, and HELD is entered. -/
def State.vhFault (s : State) (code vh : Nat) : State := (s.raise code 0 vh).settle

/-- VH_OVP. -/
def execVhOvp (vh : BitVec 16) (s : State) : Host.Outcome State Fault Refusal :=
  if s.awake && s.flag SUPPLY.VH_STAT_ON then .next (s.vhFault 0x0501 vh.toNat) else .next s

/-- VH_OCP. -/
def execVhOcp (vh : BitVec 16) (s : State) : Host.Outcome State Fault Refusal :=
  if s.awake && s.flag SUPPLY.VH_STAT_ON then .next ((s.wr SUPPLY.VH_STAT_ILIM 1).vhFault 0x0502 vh.toNat) else .next s

/-- VH_SETTLE. -/
def execVhSettle (vh : BitVec 16) (s : State) : Host.Outcome State Fault Refusal :=
  if s.awake && s.flag SUPPLY.VH_STAT_ON && !s.flag SUPPLY.VH_STAT_SETTLED then .next (s.vhFault 0x0503 vh.toNat) else .next s

/-- SUPPLY_MEAS: VIN and VM are measured (R308). -/
def execSupplyMeas (vin vm : BitVec 16) (s : State) : Host.Outcome State Fault Refusal :=
  if s.awake then .next ((s.wr SUPPLY.MEAS_VIN_MV vin.toNat).wr SUPPLY.MEAS_VM_MV vm.toNat) else .next s

end Sys2Proof.Machine
end

