-- ==== Sys2Proof/Machine/Reset.lean ====
section
/-! DEFINITION. Device resets (R76 to R86, R95, R98), the end of the brake hold and of the zero fill, and the heartbeat
(R101 to R104). -/

namespace Sys2Proof.Machine

/-- Reset kinds (R76). -/
def kindPor : Nat := 0
def kindPin : Nat := 1
def kindSoft : Nat := 2
def kindCoreUv : Nat := 3
def kindWdt : Nat := 4
def kindWake : Nat := 5

/-- Main SRAM is filled with zero: after POR, CORE_UV and WAKE, on every other way out of CLEARED, and again when the last fill had
not ended (R30, R78, R86). -/
def State.fillsSram (s : State) (kind : Nat) : Bool :=
  kind == kindPor || kind == kindCoreUv || kind == kindWake || s.base == .cleared || s.boot.fill

/-- Step 4 of the boot acts on the torn-band record (R98), which it reads with the check of R253. -/
def State.bootRecord (s : State) (kind : Nat) : State :=
  let (s, b) := s.readMem .keep recAt 4
  if leNat b == recOpen then
    ((s.recPut 0x14 [kind]).recPut 0 (leBytes 4 recTorn)).wr CORE.RESET_CAUSE_TORN_PENDING 1
  else if leNat b == recTorn then s.wr CORE.RESET_CAUSE_TORN_PENDING 1
  else s

/-- A field whose value is kept through the reset: it is held in the always-on domain, or it reads a pin. -/
def State.keepFld (t s : State) (f : Fld) : State := t.wr f (s.rd f)

/-- A cut is in motion (R95). -/
def State.cutMoving (s : State) : Bool := s.cut.tag.isSome && s.cut.isCut

/-- The half-bridges that the always-on brake path holds from this reset on (R83, R84): those it holds already, and those that
drive. DESIGN CHOICE (log entry 56): low-side switches that HELD's own brake holds (R529) are not driving. -/
def State.brakeMask (s : State) (kind : Nat) : Nat := if kind == kindPor then 0 else s.boot.brake ||| s.drivenMask

/-- The drives of the half-bridges `lo` up to `lo + n` under the brake path. -/
def brakeHb (mask lo n : Nat) : List Hb := (List.range n).map fun i => if mask.testBit (lo + i) then Hb.low else .z

/-- The registers after a device reset: their reset values, with what R76 to R81, R95, R106, R107 and R126 keep or set. -/
def State.resetRegs (t s : State) (kind : Nat) : State :=
  let por := kind == kindPor
  let t := ((t.wr CORE.RESET_CAUSE_KIND kind).keepFld s CORE.IO_STAT_PRESENT).keepFld s CORE.IO_STAT_CLASS33
  let t := t.wr CORE.RESET_CAUSE_COUNT (if por then 0 else satAdd 255 (s.rd CORE.RESET_CAUSE_COUNT) 1)
  let t := t.wrB CORE.RESET_CAUSE_CUT_INTERRUPTED (s.cutMoving || (s.boot.off && s.flag CORE.RESET_CAUSE_CUT_INTERRUPTED))
  let t := t.vhSwitch true false
  if por then t
  else
    let t := ((t.keepFld s CORE.MODE_WAKE_SRC).keepFld s CORE.CLK_STAT_LF_SRC).keepFld s CORE.BG_CAL_FRC_TRIM
    let t := ((t.keepFld s FEED.STAT_PAPER).keepFld s FEED.STAT_NEAR_END).keepFld s FEED.STAT_COVER
    let t := (t.keepFld s CUT.STAT_HOME).keepFld s CUT.STAT_END
    if s.fillsSram kind then t else (t.keepFld s CORE.BG_SCRUB_POS_WORD).keepFld s CORE.BG_SCRUB_POS_ACTIVE

/-- A device reset and the start of its boot (R76 to R86, R95): the core domain starts again, and the always-on domain, the
memories that R78 keeps, OTP and flash go on; running copies have moved an open number of bursts. -/
def State.deviceReset (s : State) (kind : Nat) (bootSrc : Bool) : State :=
  let por := kind == kindPor
  let fill := s.fillsSram kind
  let s := if fill then s else s.interruptAll
  let mask := s.brakeMask kind
  let t : State :=
    { part := s.part, clock := s.clock, otp := s.otp, flash := s.flash, free := s.free, pending := s.pending,
      sram := if fill then [] else s.sram, sramUe := if fill then [] else s.sramUe, sramCe := if fill then [] else s.sramCe,
      keep := if por then [] else s.keep, keepUe := if por then [] else s.keepUe, keepCe := if por then [] else s.keepCe,
      boot := { fill := fill, bootSrc := bootSrc && s.bank 0, brake := mask, strobesKnown := !por && s.boot.strobesKnown,
                strobeIdle := if por then 0 else s.boot.strobeIdle },
      led := { base := s.led.base, buf := if por then [] else s.led.buf, acc := if por then [] else s.led.acc,
               changed := !por && s.led.changed, onFrac := if por then 0 else s.led.onFrac,
               onUs := if por then 0 else s.led.onUs, resume := por || s.led.resume,
               erases := if por then List.replicate 16 0 else s.led.erases },
      clk := { frcEver := !por && s.clk.frcEver, lfTry := por || s.clk.lfTry, hbSince := s.clock },
      wake := { levels := s.wake.levels, idleSince := s.clock },
      bg := { keepPos := if por then 0 else s.bg.keepPos },
      feed := { hb := brakeHb mask 0 4, onBrake := mask % 16 != 0, encAB := s.feed.encAB },
      cut := { hb := brakeHb mask 4 2 } }
  (t.resetRegs s kind).bootRecord kind

/-- POR: VIN has risen through the power-on threshold. -/
def execPor (bootSrc : Bool) (s : State) : Host.Outcome State Fault Refusal := .next (s.deviceReset kindPor bootSrc)

/-- VIN_POWER_OFF: VIN has fallen below the power-off threshold; the device stays in reset until a POR, and what has no
power is lost, the discharge switch of VH included (R143). -/
def execVinPowerOff (s : State) : Host.Outcome State Fault Refusal :=
  let t := (s.deviceReset kindPor s.boot.bootSrc).vhSwitch false false
  .next { t with boot := { t.boot with off := true } }

/-- PIN: RESET_N has been low for 1 µs; the boot waits for its release. -/
def execPin (s : State) : Host.Outcome State Fault Refusal :=
  if s.inReset || !s.bank 0 then .next s
  else
    let t := s.deviceReset kindPin s.boot.bootSrc
    .next { t with boot := { t.boot with pinLow := true } }

/-- RESET_N_RELEASE: BOOT_SRC is sampled, and the boot starts (R57). -/
def execResetNRelease (bootSrc : Bool) (s : State) : Host.Outcome State Fault Refusal :=
  if s.boot.pinLow then .next { s with boot := { s.boot with pinLow := false, bootSrc := bootSrc && s.bank 0 } } else .next s

/-- A write of CORE.RESET_CTL: with GO and the key, a SOFT reset is due (R80). -/
def State.writeResetCtl (s : State) (w : Word) : State :=
  if field w 0 1 == 1 && field w 16 16 == 0xC1EA then { s with boot := { s.boot with softDue := true } } else s

/-- RESET_CTL_GO. -/
def execResetCtlGo (w : BitVec 32) (s : State) : Host.Outcome State Fault Refusal :=
  .next (s.hostReg .core fun s => s.writeResetCtl w)

/-- SOFT: the reset that a write of CORE.RESET_CTL has scheduled begins. -/
def execSoft (bootSrc : Bool) (s : State) : Host.Outcome State Fault Refusal :=
  if s.boot.softDue && !s.inReset then .next (s.deviceReset kindSoft bootSrc) else .next s

/-- VCORE, in mV, lies below 90 % of its target, or of its ramp setpoint while that differs (R76, R136). -/
def State.coreLow (s : State) (mv : Nat) : Bool :=
  let goal := if s.sup.vcoreUv == s.vcoreGoal then s.vcoreGoal else s.sup.vcoreUv
  10 * mv * 1000 < 9 * goal

/-- CORE_UV: VCORE has stayed low for 2 µs. -/
def execCoreUv (mv : BitVec 16) (bootSrc : Bool) (s : State) : Host.Outcome State Fault Refusal :=
  if s.awake && s.coreLow mv.toNat then .next (s.deviceReset kindCoreUv bootSrc) else .next s

/-- SVC_WDT: a tally core has not serviced its watchdog for 250 ms. -/
def execSvcWdt (bootSrc : Bool) (s : State) : Host.Outcome State Fault Refusal :=
  if s.awake then .next (s.deviceReset kindWdt bootSrc) else .next s

/-- BRAKE_HOLD_END: the hold of the always-on brake path ends, and all six half-bridges go high-impedance; FEED takes them back, and AUX
follows FEED.AUX.ON (R83, R402). -/
def execBrakeHoldEnd (s : State) : Host.Outcome State Fault Refusal :=
  if s.boot.brake == 0 then .next s
  else
    let s := { s with boot := { s.boot with brake := 0 } }
    let s := (s.setFeed fun f => { f with hb := [.z, .z, .z, .z], aux := .off, onBrake := false }).setCut fun c => { c with hb := [.z, .z] }
    let s := if s.rd FEED.STAT_STATE == 6 then s.wr FEED.STAT_STATE (if s.feedMoving then 2 else 0) else s
    .next (if s.awake && s.auxUsed && s.flag FEED.AUX_ON then s.auxPull else s).settle

/-- ZERO_FILL_DONE: the zero fill of main SRAM has ended (R86). -/
def execZeroFillDone (s : State) : Host.Outcome State Fault Refusal :=
  if s.awake && s.boot.fill then .next (State.settle { s with boot := { s.boot with fill := false } }) else .next s

/-! ### The heartbeat -/

/-- A write of CORE.HEARTBEAT (R102). -/
def State.writeHeartbeat (s : State) (w : Word) : State := if field w 0 16 == 0x4842 then s.hbRestart else s

/-- HEARTBEAT_KICK. -/
def execHeartbeatKick (w : BitVec 32) (s : State) : Host.Outcome State Fault Refusal :=
  .next (s.hostReg .core fun s => s.writeHeartbeat w)

/-- A write of CORE.HB_PERIOD: 1 to 9 ms act as 10 (R101, R567); EXPIRED is cleared by a 1. -/
def State.writeHbPeriod (s : State) (w : Word) : State :=
  let p := field w 0 16
  let s := s.wr CORE.HB_PERIOD_PERIOD_MS (if p = 0 then 0 else max 10 p)
  (if field w 16 1 == 1 then s.wr CORE.HB_PERIOD_EXPIRED 0 else s).hbRestart

/-- HB_PERIOD_WRITE. -/
def execHbPeriodWrite (w : BitVec 32) (s : State) : Host.Outcome State Fault Refusal :=
  .next (s.hostReg .core fun s => s.writeHbPeriod w)

/-- HB_EXPIRED: the count has expired (R103, R104). -/
def execHbExpired (s : State) : Host.Outcome State Fault Refusal :=
  if s.awake && s.imageApplied && s.rd CORE.HB_PERIOD_PERIOD_MS != 0 then
    let s := (s.wr CORE.HB_PERIOD_EXPIRED 1).hbRestart
    .next (if s.base == .run then s.raise 0x0001 0 (s.rd CORE.HB_PERIOD_PERIOD_MS) else s).settle
  else .next s

end Sys2Proof.Machine
end

