-- ==== Sys2Proof/Machine/Modes.lean ====
section
/-! DEFINITION. TALLY and CLEARED: their entry, the wake sources, and the return (R123 to R130). -/

namespace Sys2Proof.Machine

/-- A write of CORE.MODE_ALLOW (R130). -/
def State.writeModeAllow (s : State) (w : Word) : State :=
  ((s.wr CORE.MODE_ALLOW_TALLY (field w 0 1)).wr CORE.MODE_ALLOW_CLEARED (field w 1 1)).idleRestart

/-- MODE_ALLOW_WRITE. -/
def execModeAllowWrite (w : BitVec 32) (s : State) : Host.Outcome State Fault Refusal :=
  .next (s.hostReg .core fun s => s.writeModeAllow w)

/-- A write of CORE.IDLE_HOLD (R130). -/
def State.writeIdleHold (s : State) (w : Word) : State :=
  ((s.wr CORE.IDLE_HOLD_TALLY_MS (field w 0 16)).wr CORE.IDLE_HOLD_CLEARED_S (field w 16 16)).idleRestart

/-- IDLE_HOLD_WRITE. -/
def execIdleHoldWrite (w : BitVec 32) (s : State) : Host.Outcome State Fault Refusal :=
  .next (s.hostReg .core fun s => s.writeIdleHold w)

/-! ### Waking (R126, R128) -/

/-- A wake source fires: its code is recorded. In TALLY the return to RECKON starts, and during the entry into TALLY it is at
once; in CLEARED it is a WAKE device reset, at which BOOT_SRC is sampled (R57); in the other modes vector 16 is asserted and
nothing else happens. -/
def State.wakeBy (s : State) (code : Nat) (bootSrc : Bool) : State :=
  let s := s.wr CORE.MODE_WAKE_SRC code
  match s.base with
  | .run | .held => s.rodVec .core
  | .tally => if s.wake.entering then s.exitTally else s.setWake fun w => { w with waking := true }
  | .cleared => s.deviceReset kindWake bootSrc

/-- A wake source is enabled (R126), and its bank has its supply. -/
def State.wakeEnabled (s : State) : WakeSource → Bool
  | .pin k => s.bank 0 && s.rdBit CORE.WAKE_CFG_PIN_EN k.val
  | .timer => s.flag CORE.WAKE_CFG_TIMER_EN && s.rd CORE.WAKE_TIMER_COUNT != 0
  | .vin => s.flag CORE.WAKE_CFG_VIN_EN
  | .host => s.bank 0 && s.flag CORE.WAKE_CFG_HOST_EN

/-- The code of a wake source (R126). -/
def wakeCode : WakeSource → Nat
  | .pin k => k.val + 1
  | .timer => 5
  | .vin => 6
  | .host => 7

/-- WAKEk goes to a level. -/
def State.pinLevel (s : State) (k : Nat) (level : Bool) : State :=
  s.setWake fun w => { w with levels := if level then w.levels ||| 2 ^ k else w.levels - (w.levels &&& 2 ^ k) }

/-- WAKEk is at its active level. -/
def State.pinActive (s : State) (k : Nat) : Bool := s.wake.levels.testBit k == s.rdBit CORE.WAKE_CFG_PIN_POL k

/-- An enabled level-sensitive input is at its active level, which fires it at the entry into TALLY or CLEARED; the first
of them. -/
def State.levelWake (s : State) : Option Nat :=
  (List.range 4).find? fun k => s.bank 0 && s.rdBit CORE.WAKE_CFG_PIN_EN k && !s.rdBit CORE.WAKE_CFG_PIN_EDGE k && s.pinActive k

/-- WAKE_PIN: the level of WAKEk changes; reaching its active level is the edge, and the level, that fires it. `bootSrc` is
BOOT_SRC at the sampling point of a boot that follows, as in the rows below. -/
def execWakePin (k : Fin 4) (level bootSrc : Bool) (s : State) : Host.Outcome State Fault Refusal :=
  let was := s.wake.levels.testBit k.val
  let s := s.pinLevel k.val level
  if was != level && !s.inReset && s.wakeEnabled (.pin k) && s.pinActive k.val then .next (s.wakeBy (k.val + 1) bootSrc)
  else .next s

/-- WAKE_TIMER: the count of LF cycles from the entry into TALLY has expired. -/
def execWakeTimer (bootSrc : Bool) (s : State) : Host.Outcome State Fault Refusal :=
  if !s.inReset && !s.awake && s.wakeEnabled .timer then .next (s.wakeBy 5 bootSrc) else .next s

/-- VIN_COMPARATOR: VIN has risen through VIN_LEVEL after falling below it by the hysteresis. -/
def execVinComparator (bootSrc : Bool) (s : State) : Host.Outcome State Fault Refusal :=
  if !s.inReset && s.wakeEnabled .vin then .next (s.wakeBy 6 bootSrc) else .next s

/-- HOST_WAKE_PULSE: HL_CS_N has been low for 100 µs with HL_CLK idle; its fall alone ends an entry into TALLY (R161). -/
def execHostWakePulse (bootSrc : Bool) (s : State) : Host.Outcome State Fault Refusal :=
  if !s.inReset && s.wakeEnabled .host then .next (s.wakeBy 7 bootSrc) else .next s.csFall

/-! ### Entry and return -/

/-- The submission queue of an enabled pair holds an unfetched entry. -/
def State.unfetched (s : State) : Bool :=
  (List.range 16).any fun q => s.qEn q && s.rd (VEC.Q_SQ_IDX_HEAD q) != s.rd (VEC.Q_SQ_IDX_TAIL q)

/-- The TALLY entry conditions (R124). -/
def State.idle (s : State) : Bool :=
  !s.inReset && s.mode == 2 && s.imageApplied && !s.unfetched && s.cmds.isEmpty &&
    (List.range 16).all (fun c => s.rd (MOVER.CH_STATE_STATE c) != 1) &&
    s.rd VEC.PENDING_PENDING == 0 && !s.flag CORE.CLK_REQ_PLLV_WARM

/-- The clocks that TALLY stops (R125). -/
def State.clocksOff (s : State) : State :=
  let s := ((s.wr CORE.CLK_STAT_HFXO_OK 0).wr CORE.CLK_STAT_FRC_ON 0).wr CORE.CLK_STAT_PLLS_LOCK 0
  let s := ((s.wr CORE.CLK_STAT_PLLS_FALLBACK 0).wr CORE.CLK_STAT_PLLV_LOCK 0).wr CORE.CLK_STAT_PLLV_FALLBACK 0
  s.setClk fun c => { c with hfxoStart := false, pllvRelock := false }

/-- The half-bridges go high-impedance and DUMP is inactive (R125, R152). -/
def State.tallyBridges (s : State) : State :=
  let s := (s.feedLoopsOff.setSpeed 0).bridgesZ
  let s := if s.rd FEED.STAT_STATE == 3 then s.wr FEED.STAT_STATE 0 else s
  s.wr SUPPLY.VM_DUMP_DUMP_ON 0

/-- ENTER_TALLY: the entry conditions have held for IDLE_HOLD.TALLY_MS (R123, R125). An input that is at its active level
returns the device to RECKON at once, as any wake source does until the entry is over (R126, R128; log entry 12). -/
def execEnterTally (s : State) : Host.Outcome State Fault Refusal :=
  if s.flag CORE.MODE_ALLOW_TALLY && s.idle then
    let s := ((s.vhStop).tallyBridges).clocksOff
    let s := { s with base := .tally, bg := { s.bg with bursts := 0 }, therm := { s.therm with mon := false } }
    let s := (s.setWake fun w => { w with waking := false, entering := true, faults := [], tallySince := s.clock }).updateReady .print
    .next (match s.levelWake with
      | some k => s.wakeBy (k + 1) false
      | none => s)
  else .next s

/-- ENTER_CLEARED: the device has been in TALLY for IDLE_HOLD.CLEARED_S without waking (R123); the contents of main SRAM are
lost, and read as the fill at the next boot leaves them (R30). -/
def execEnterCleared (bootSrc : Bool) (s : State) : Host.Outcome State Fault Refusal :=
  if !s.inReset && s.base == .tally && !s.wake.waking && s.flag CORE.MODE_ALLOW_TALLY && s.flag CORE.MODE_ALLOW_CLEARED then
    let s := { s with base := .cleared, sram := [], sramUe := [], sramCe := [], wake := { s.wake with entering := false } }
    .next (match s.levelWake with
      | some k => s.wakeBy (k + 1) bootSrc
      | none => s)
  else .next s

/-- TALLY_EXIT_DONE: the return to RECKON that a wake source started is complete. -/
def execTallyExitDone (s : State) : Host.Outcome State Fault Refusal :=
  if !s.inReset && s.base == .tally && s.wake.waking then .next s.exitTally else .next s

end Sys2Proof.Machine
end

