-- ==== Sys2Proof/Machine/Queues.lean ====
section
/-! DEFINITION. Queue pairs, their doorbells and coalescing timers (R195 to R209, R219), the vector registers (R218,
R220), and the admin NOP (R216). -/

namespace Sys2Proof.Machine

def State.modQueue (s : State) (q : Nat) (f : Queue → Queue) : State := { s with queues := s.queues.modify q f }

/-- Both rings lie in main SRAM and in SHARED banks. -/
def State.ringsShared (s : State) (q : Nat) : Bool :=
  s.inShared (s.sqBase q) (32 * s.depth q) && s.inShared (s.cqBase q) (16 * s.depth q)

/-- The pair may be enabled (R196). -/
def State.mayEnable (s : State) (q : Nat) : Bool :=
  8 ≤ s.depth q && s.depth q ≤ 256 && s.ringsShared q && if q = 0 then s.ready .core else s.imageApplied && !s.coreCause

/-- The pair is disabled: unfetched entries and held completions are dropped (R198). -/
def State.disableQueue (s : State) (q err : Nat) : State :=
  let held := (s.queues.getD q {}).held
  let s := s.modQueue q fun _ => {}
  let s := held.foldl (fun s c => c.tag.elim s fun t => s.endAborts t c.status) s
  let s := s.wr (VEC.Q_SQ_IDX_HEAD q) (s.rd (VEC.Q_SQ_IDX_TAIL q))
  (s.wr (VEC.Q_CFG_EN q) 0).wr (VEC.Q_STAT_ERR q) err

/-- The completion of R99 that reports a TORN record, once queue 0 is enabled; the record becomes SENT. The record is read with
the check of R253. -/
def State.reportTorn (s : State) : State :=
  let (s, b) := s.readMem .keep recAt 32
  if u32 b 0 == recTorn then
    let r1 := u16 b 0xC + u8 b 7 * 65536 + u8 b 0x14 % 16 * 2 ^ 24 + u8 b 0x15 % 2 * 2 ^ 28
    let c : Compl := { tag := none, cmdId := u16 b 4, status := stTorn, origin := u8 b 6 % 16, now := false, r0 := u32 b 8, r1 := r1 }
    ((s.post 0 c).recPut 0 (leBytes 4 recSent)).wr CORE.RESET_CAUSE_TORN_PENDING 0
  else s

/-- The pair is enabled, its indexes 0 and its completion phase 1 (R196). -/
def State.enableQueue (s : State) (q : Nat) : State :=
  let s := s.modQueue q fun _ => {}
  let s := (s.setReg (VEC.Q_SQ_IDX_HEAD q).addr 0).setReg (VEC.Q_CQ_IDX_TAIL q).addr 0x8000
  let s := (s.wr (VEC.Q_CFG_EN q) 1).wr (VEC.Q_STAT_ERR q) 0
  if q = 0 then s.reportTorn else s

/-- A command fetched from the queue holds a tag (R198, R211). -/
def State.queueBusy (s : State) (q : Nat) : Bool :=
  s.cmds.any (fun c => c.queue == q) || ((s.queues.getD q {}).held.any fun c => c.tag.isSome)

/-- A write of Qq_CFG: DEPTH where the pair is disabled, and EN (R196, R198). -/
def State.writeQCfg (s : State) (q : Nat) (w : Word) : State :=
  let en := field w 16 1 == 1
  if s.qEn q then
    if en then s else if s.queueBusy q then s.wr (VEC.Q_STAT_ERR q) 3 else s.disableQueue q 0
  else
    let s := s.wr (VEC.Q_CFG_DEPTH q) (field w 0 9)
    if !en then s.wr (VEC.Q_STAT_ERR q) 0 else if s.mayEnable q then s.enableQueue q else s.wr (VEC.Q_STAT_ERR q) 1

/-- QUEUE_ENABLE: a write of Qq_CFG with EN = 1. -/
def execQueueEnable (q : Fin 16) (w : BitVec 32) (s : State) : Host.Outcome State Fault Refusal :=
  if field w 16 1 == 1 then .next (s.hostReg .core fun s => s.writeQCfg q.val w) else .next s

/-- QUEUE_DISABLE: a write of Qq_CFG with EN = 0. -/
def execQueueDisable (q : Fin 16) (w : BitVec 32) (s : State) : Host.Outcome State Fault Refusal :=
  if field w 16 1 == 0 then .next (s.hostReg .core fun s => s.writeQCfg q.val w) else .next s

/-- A write of Qq_SQ_BASE or Qq_CQ_BASE, ignored while EN is 1 (R196). -/
def State.writeQBase (s : State) (q : Nat) (f : Fld) (w : Word) : State := if s.qEn q then s else s.wr f (field w 6 17)

/-! ### Doorbells -/

/-- A doorbell write is discarded (R209). -/
def State.qovf (s : State) (q : Nat) : State :=
  ((s.wr (VEC.Q_STAT_QOVF q) 1).bump (VEC.Q_STAT_QOVF_COUNT q)).queueVec q

/-- A submission tail write is accepted (R207). -/
def State.tailOk (s : State) (q t : Nat) : Bool :=
  let d := s.depth q
  let tail := s.rd (VEC.Q_SQ_IDX_TAIL q)
  let head := s.rd (VEC.Q_SQ_IDX_HEAD q)
  s.qEn q && t < d && decide ((t + d - tail) % d ≤ d - 1 - (tail + d - head) % d)

/-- A completion head write is accepted (R208). -/
def State.headOk (s : State) (q h : Nat) : Bool :=
  let d := s.depth q
  let tail := s.rd (VEC.Q_CQ_IDX_TAIL q)
  let head := s.rd (VEC.Q_CQ_IDX_HEAD q)
  s.qEn q && h < d && decide ((h + d - head) % d ≤ (tail + d - head) % d)

/-- A submission tail doorbell, with whether it was accepted. -/
def State.ringTail (s : State) (q : Nat) (w : Word) : State × Bool :=
  let t := field w 0 9
  if s.tailOk q t then (s.wr (VEC.Q_SQ_IDX_TAIL q) t, true) else (s.qovf q, false)

/-- Held completions are written while there is room (R205). -/
def State.writeHeld (s : State) (q : Nat) : Nat → State
  | 0 => s
  | n + 1 =>
    match (s.queues.getD q {}).held with
    | [] => s
    | c :: rest =>
      if s.cqFull q then s
      else
        let s := (s.modQueue q fun x => { x with held := rest }).writeCompl q c
        (c.tag.elim s fun t => s.endAborts t c.status).writeHeld q n

/-- A completion head doorbell, with whether it was accepted: room is freed, held completions are written, and entries left
unread set the vector (R208). DESIGN CHOICE (log entry 56): the T that the new head is compared with is the tail after the held
completions have been written. -/
def State.ringHead (s : State) (q : Nat) (w : Word) : State × Bool :=
  let h := field w 0 9
  if s.headOk q h then
    let s := (s.wr (VEC.Q_CQ_IDX_HEAD q) h).writeHeld q 64
    (if h != s.rd (VEC.Q_CQ_IDX_TAIL q) then s.queueVec q else s, true)
  else (s.qovf q, false)

/-- SUBMISSION_TAIL_DOORBELL. -/
def execSubmissionTailDoorbell (q : Fin 16) (w : BitVec 32) (s : State) : Host.Outcome State Fault Refusal :=
  .next (s.hostReg .core fun s => (s.ringTail q.val w).1)

/-- COMPLETION_HEAD_DOORBELL. -/
def execCompletionHeadDoorbell (q : Fin 16) (w : BitVec 32) (s : State) : Host.Outcome State Fault Refusal :=
  .next (s.hostReg .core fun s => (s.ringHead q.val w).1)

/-- QCOAL_TIMER: QCOAL.TIME, while it is not 0, has passed since the first completion counted (R219). -/
def execQcoalTimer (q : Fin 16) (s : State) : Host.Outcome State Fault Refusal :=
  if s.awake && s.flag (VEC.Q_COAL_TIME q.val) && (s.queues.getD q.val {}).count != 0 then .next (s.queueVec q.val) else .next s

/-! ### Vectors -/

/-- A write of VEC.PENDING: 1s clear (R218). -/
def State.writePending (s : State) (w : Word) : State :=
  let p := s.rd VEC.PENDING_PENDING
  s.wr VEC.PENDING_PENDING (p - (p &&& w.toNat))

/-- PENDING_CLEAR. -/
def execPendingClear (w : BitVec 32) (s : State) : Host.Outcome State Fault Refusal :=
  .next (s.hostReg .core fun s => s.writePending w)

/-- The mask register of pin k. -/
def pinmask (k : Nat) : Fld := ⟨VEC.PINMASK0_MASK.addr + 4 * (k % 4), 0, 32⟩

/-- A write of VEC.PINMASKk; the pin follows (R220). -/
def State.writePinmask (s : State) (k : Nat) (w : Word) : State := s.wr (pinmask k) w.toNat

/-- PINMASK_WRITE. -/
def execPinmaskWrite (k : Fin 4) (w : BitVec 32) (s : State) : Host.Outcome State Fault Refusal :=
  .next (s.hostReg .core fun s => s.writePinmask k.val w)

/-! ### NOP -/

/-- NOP: the command completes with its parameters (R216). -/
def execNop (tag : Fin 64) (s : State) : Host.Outcome State Fault Refusal :=
  match s.cmd? tag.val with
  | none => .next s
  | some c => if c.op == 0x00 && s.awake then .next (s.complete tag.val stOK c.p0 c.p1).settle else .next s

end Sys2Proof.Machine
end

