-- ==== Sys2Proof/Machine/Loop.lean ====
section
/-! DEFINITION. LOOP, the Reckoner: the Q8.24 arithmetic of its stages (R445 to R453), its samples and outputs (R454, R455),
supervision and trips (R456 to R459), and run-time tuning (R460, R461). -/

namespace Sys2Proof.Machine

/-! ### Numbers and stages -/

/-- A value rounded once and saturated to Q8.24, and whether it saturated (R445). -/
def toQ (q : Rat) : Int × Bool :=
  let r := roundInt q
  let c := clampInt (-2147483648) 2147483647 r
  (c, c != r)

/-- The product of two Q8.24 values, exact, in units of 2^−24. -/
def mulQ (a b : Int) : Rat := ((a * b : Int) : Rat) / 16777216

/-- v held to lo to hi. -/
def clampRat (lo hi v : Rat) : Rat := max lo (min hi v)

def sgn (v : Rat) : Int := if v < 0 then -1 else if 0 < v then 1 else 0

/-- A stage of a law graph (R448). -/
structure StageDef where
  kind : Nat
  a : Nat
  b : Nat
  flag : Bool
deriving DecidableEq, Repr

/-- One stage's output, state and saturation for a sample (R451): `c` its coefficients, `pinned` the sign of R453, `first`
for the first sample since activation (R452), `lut` the points of its table. -/
def stageStep (g : StageDef) (c : List Int) (lut : List Int) (pinned : Int) (first : Bool) (a b : Int) (st : StageSt) :
    Int × StageSt × Bool :=
  let k (i : Nat) : Int := c.getD i 0
  let one : Int := 16777216
  match g.kind with
  | 1 => let y := toQ (mulQ (k 0) a); (y.1, { st with y1 := y.1 }, y.2)
  | 2 => let y := toQ (mulQ (k 0) a + mulQ (k 1) b); (y.1, { st with y1 := y.1 }, y.2)
  | 3 =>
    let step := mulQ (k 1) a
    let i := if g.flag && pinned != 0 && sgn step == pinned then (st.i, false)
      else toQ (clampRat (-(k 3) : Int) (k 3) ((st.i : Rat) + step))
    let d := toQ (mulQ (k 4) st.d + mulQ (one - k 4) (a - st.e1))
    let y := toQ (clampRat (-(k 3) : Int) (k 3) (mulQ (k 0) a + i.1 + mulQ (k 2) d.1))
    (y.1, { st with i := i.1, d := d.1, e1 := a, y1 := y.1 }, i.2 || d.2 || y.2)
  | 4 =>
    let y := toQ (mulQ (k 0) a + mulQ (k 1) st.a1 + mulQ (k 2) st.a2 - mulQ (k 3) st.y1 - mulQ (k 4) st.y2)
    (y.1, { st with a1 := a, a2 := st.a1, y1 := y.1, y2 := st.y1 }, y.2)
  | 5 => let y := toQ (clampRat (k 0) (k 1) a); (y.1, { st with y1 := y.1 }, y.2)
  | 6 =>
    let y := if first then (a, false) else toQ ((st.y1 : Rat) + clampRat (-(k 1) : Int) (k 0) ((a - st.y1 : Int) : Rat))
    (y.1, { st with y1 := y.1 }, y.2)
  | 7 =>
    let p : Rat := 16 * (clampRat (k 1) (k 2) a - k 1) / ((k 2 - k 1 : Int) : Rat)
    let i := min 16 p.floor.toNat
    let v : Rat := if 16 ≤ i then lut.getD 16 0
      else lut.getD i 0 + (p - i) * ((lut.getD (i + 1) 0 - lut.getD i 0 : Int) : Rat)
    let y := toQ v
    (y.1, { st with y1 := y.1 }, y.2)
  | 8 =>
    let y := if a.natAbs ≤ (k 0).natAbs then (0, false)
      else if g.flag then (a, false) else toQ ((a : Rat) - sgn a * k 0)
    (y.1, { st with y1 := y.1 }, y.2)
  | _ =>
    let b1 := if first then b else st.b1
    let y := toQ ((a : Rat) + mulQ (k 0) b + mulQ (k 1) (b - b1) + (k 2 : Rat) * sgn b)
    (y.1, { st with b1 := b, y1 := y.1 }, y.2)

/-! ### Law graphs -/

/-- The law graph of loop `k` (bead 0x0A00 + k). -/
def State.law (s : State) (k : Nat) : List Nat := s.beadD (0x0A00 + k) []
/-- Stage `j`'s record of 24 bytes. -/
def stageRec (law : List Nat) (j : Nat) : List Nat := (law.drop (16 + 24 * j)).take 24
def stageDef (law : List Nat) (j : Nat) : StageDef :=
  let r := stageRec law j
  { kind := u8 r 0, a := u8 r 1, b := u8 r 2, flag := u8 r 3 % 2 == 1 }
/-- A stage's five coefficients as the image gives them. -/
def stageCoef (law : List Nat) (j : Nat) : List Int := (List.range 5).map fun i => i32 (stageRec law j) (4 + 4 * i)

/-- The points of table `j` of bead 0x0A04. -/
def State.lut (s : State) (j : Nat) : List Int := (List.range 17).map fun i => i32 (s.beadD 0x0A04 []) (68 * j + 4 * i)
def State.lutCount (s : State) : Nat := (s.beadD 0x0A04 []).length / 68

/-- The sample period in ticks (R447, R454). -/
def State.loopPeriod (s : State) (k : Nat) : Nat :=
  let d := s.rd (LOOP.L_TIMING_DIV k)
  if s.rdBit LOOP.CFG_PWM_LOCK k then d * (64000 / max 1 (s.rd FEED.CFG_PWM_KHZ)) else d

/-- The value a source code names (R449): `cur` the outputs of this sample so far, `prev` those of the previous one. -/
def sourceVal (sp fb err : Int) (cur prev : List Int) (code : Nat) : Int :=
  if code == 1 then sp else if code == 2 then fb else if code == 3 then err
  else if 0x20 ≤ code then prev.getD (code - 0x20) 0
  else if 0x10 ≤ code then cur.getD (code - 0x10) 0
  else 0

/-- Every stage of a loop in order (R441): the outputs, the stages' states, and whether a value saturated. -/
def State.runStages (s : State) (law : List Nat) (l : LoopSt) (sp fb err : Int) : List Int × List StageSt × Bool :=
  let prev := l.stages.map (·.y1)
  (List.range (u8 law 0)).foldl (fun (acc : List Int × List StageSt × Bool) j =>
    let g := stageDef law j
    let c := l.coef.getD j []
    let a := sourceVal sp fb err acc.1 prev g.a
    let b := sourceVal sp fb err acc.1 prev g.b
    let r := stageStep g c (if g.kind == 7 then s.lut (c.getD 0 0).toNat else []) l.pinned l.first a b (l.stages.getD j {})
    (acc.1 ++ [r.1], acc.2.1 ++ [r.2.1], acc.2.2 || r.2.2)) ([], [], false)

/-! ### Clients -/

/-- The speed in µm/s that FEED's motion wants now, signed (R416 to R422). -/
def State.wantedSpeed (s : State) : Int :=
  let f := s.feed
  if f.dwell then 0
  else match f.job with
    | .lines => if s.encLocked then s.pitchSpeed s.periodGoal else f.setUm
    | .target =>
      let rev := s.flag FEED.STAT_DIR
      let gap := if rev then f.pos - f.target else f.target - f.pos
      let um := (gap.toNat * s.mmPerCount * 1000).floor.toNat
      let v := min (f.limit * 1000) (Nat.sqrt (2 * (s.rd FEED.MOTION_DECEL * 100000) * um))
      if rev then -(v : Int) else v
    | .back => if s.rd FEED.STAT_STATE == 2 then 0 else -(s.rd FEED.REV_REV_SPEED * 1000 : Nat)
    | _ => 0

/-- The setpoint moves toward the wanted speed at ACCEL or DECEL (R416). -/
def State.rampSpeed (s : State) (ticks : Nat) : State :=
  let want := s.wantedSpeed
  let now := s.feed.setUm
  let acc := s.rd FEED.MOTION_ACCEL * 100000 * ticks / 64000000
  let dec := s.rd FEED.MOTION_DECEL * 100000 * ticks / 64000000
  let lim : Nat := if now.natAbs < want.natAbs then acc else dec
  s.setSpeed (clampInt (now - lim) (now + lim) want)

/-- The current limit of FEED for a command (R403, R419): I_PEAK, and VM_BRAKE_MA while braking is limited. -/
def State.feedLimit (s : State) (u : Int) : Int :=
  let peak : Int := u16 (s.beadD 0x0801 []) 6
  let v := clampInt (-peak) peak u
  let motion := s.rdI FEED.SPEED_MEAS
  let brakes := (decide (0 < motion) && decide (v < 0)) || (decide (motion < 0) && decide (0 < v))
  let b : Int := s.rd FEED.REV_VM_BRAKE_MA
  if s.sup.vmHigh && brakes then clampInt (-b) b v else v

/-- SP, FB and the error of a loop's client, in client units (R443). -/
def State.loopInputs (s : State) (client : Nat) (meas : Int) : Rat × Rat × Rat :=
  match client with
  | 1 =>
    let sp : Rat := ((s.feed.setUm + s.feed.corrUm : Int) : Rat) / 1000
    let fb : Rat := if s.rd FEED.CFG_FB_TYPE == 0 then sp else (s.rdI FEED.SPEED_MEAS : Rat) / 10
    (sp, fb, sp - fb)
  | 2 => (ofBits 32 (toBits 32 s.feed.target), ofBits 32 (toBits 32 s.feed.pos),
      ofBits 32 (toBits 32 (s.feed.target - s.feed.pos)))
  | _ =>
    let i : Int := s.rd CUT.CURRENT_CFG_I_RUN
    let sp : Int := if s.rd CUT.STAT_STATE == 1 then i else -i
    (sp, meas, sp - meas)

/-- The current of the cutter motor opposes the blade's motion by more than VM_BRAKE_MA while VM is above its ceiling (R419). -/
def State.cutBraking (s : State) (meas : Int) : Bool :=
  let b : Int := s.rd FEED.REV_VM_BRAKE_MA
  s.sup.vmHigh && if s.rd CUT.STAT_STATE == 1 then decide (meas < -b) else decide (b < meas)

/-- The client's own limits on an output (R443), `meas` the current measured for CUT. With a braking current to limit, CUT takes the duty
that holds it at VM_BRAKE_MA, an open value (R419). -/
def State.clientLimit (s : State) (client : Nat) (u meas : Int) : Int :=
  match client with
  | 1 => s.feedLimit u
  | 3 => clampInt (-1000) 1000 (if s.cutBraking meas then Config.cutBrakeDuty s.free else u)
  | _ => u

/-- An output reaches its client (R403 to R405, R443). -/
def State.deliver (s : State) (client : Nat) (u : Int) : State :=
  match client with
  | 1 =>
    let s := s.setFeed fun f => { f with current := u }
    if s.feedDriving then s.driveHb.wind s.thetaAdv else s
  | 2 => s.setFeed fun f => { f with corrUm := u * 1000 }
  | 3 => s.setCut fun c => { c with duty := u }
  | _ => s

/-! ### Samples -/

/-- The following-error timer after a sample (R456), in ticks. -/
def State.feNext (s : State) (k : Nat) (client : Nat) (l : LoopSt) (err : Rat) : Nat :=
  let lim := s.rd (LOOP.L_FE_LIMIT_LIMIT k)
  if lim == 0 then 0
  else if s.sup.vmHigh && (client == 1 || client == 2) then l.feTicks
  else if (lim : Rat) < err ∨ err < -(lim : Rat) then l.feTicks + s.loopPeriod k
  else 0

/-- The oscillation detector after a sample (R457). -/
def State.oscNext (s : State) (k : Nat) (l : LoopSt) (sig : Rat) : LoopSt :=
  let per := s.loopPeriod k
  let win := s.rd (LOOP.L_OSC_WIN_MS k) * 64000
  let aged := (l.reversals.map (· + per)).filter (· < win)
  let mag := if sig < 0 then -sig else sig
  let sg := sgn sig
  if sg != 0 && l.oscSign != 0 && sg != l.oscSign then
    let hit := decide ((s.rd (LOOP.L_OSC_AMP_AMP k) : Rat) < l.oscMag)
    { l with oscSign := sg, oscMag := mag, reversals := if hit then 0 :: aged else aged }
  else { l with oscSign := if sg == 0 then l.oscSign else sg, oscMag := max l.oscMag mag, reversals := aged }

/-- A trip (R458, R459). -/
def State.tripLoop (s : State) (k client cause : Nat) : State :=
  let s := ((s.evtBit LOOP.EVT_TRIP k .loop).rodVec .loop).wr (LOOP.L_STAT_TRIP_CAUSE k) cause
  let s := s.bump (LOOP.L_COUNT_TRIPS k)
  if s.rd (LOOP.L_CTL_ACTION k) == 0 then
    ((s.modLoop k fun l => { l with feTicks := 0, reversals := [] }).wr (LOOP.L_FE_TIME_RUN_MS k) 0).wr (LOOP.L_OSC_REVERSALS k) 0
  else
    let s := (s.modLoop k fun l => { l with waiting := none, delivered := 0 }).wr (LOOP.L_STAT_STATE k) 3
    let s := s.clientZero k
    if client == 3 then
      let s := (s.raise 0x0904 0 (k + cause * 256)).cutEnd 6
      if s.cutDriving then s.cutBrake .stay else s
    else s.raise 0x0804 0 (k + cause * 256)

/-- LOOP_SAMPLE: a loop's sample instant (R443 to R459). `meas` is the measured current of CUT's client, in mA. -/
def execLoopSample (k : Fin 4) (meas : BitVec 16) (s : State) : Host.Outcome State Fault Refusal :=
  let k := k.val
  if s.awake && s.rd (LOOP.L_STAT_STATE k) == 2 then
    let s := s.applyNow k
    let client := s.rd (LOOP.L_STAT_CLIENT k)
    let s := if client == 1 then s.rampSpeed (s.loopPeriod k) else s
    let s := if client == 3 then
        let s := s.wrI CUT.CURRENT_MEAS_MA meas.toInt
        s.wr CUT.CURRENT_PEAK_MA (max (s.rd CUT.CURRENT_PEAK_MA) meas.toInt.natAbs)
      else s
    let law := s.law k
    let inFs : Rat := u32 law 8
    let outFs : Rat := u32 law 12
    let (spU, fbU, errU) := s.loopInputs client meas.toInt
    let sp := toQ (spU * 16777216 / inFs)
    let fb := toQ (fbU * 16777216 / inFs)
    let er := toQ (errU * 16777216 / inFs)
    let l := s.loopSt k
    let (outs, stages, sat) := s.runStages law l sp.1 fb.1 er.1
    let y := outs.getD (u8 law 1) 0
    let u := roundInt ((y : Rat) * outFs / 16777216)
    let v := s.clientLimit client u meas.toInt
    let s := s.fresh.2
    let fe := s.feNext k client l errU
    let sig : Rat := if s.flag (LOOP.L_OSC_SIGNAL k) then v else errU
    let l := s.oscNext k { l with stages := stages, first := false, pinned := sgn ((u - v : Int) : Rat), feTicks := fe,
                                  waiting := some v } sig
    let s := s.modLoop k fun _ => l
    let s := (((s.wrI (LOOP.L_SP_VALUE k) sp.1).wrI (LOOP.L_FB_VALUE k) fb.1).wrI (LOOP.L_ERR_VALUE k) er.1).wrI
      (LOOP.L_OUT_VALUE k) y
    let s := (s.wrB (LOOP.L_STAT_CLAMPED k) (u != v)).wr (LOOP.L_SAMPLES_COUNT k) (s.rd (LOOP.L_SAMPLES_COUNT k) + 1)
    let s := if sat || sp.2 || fb.2 || er.2 then s.bump (LOOP.L_COUNT_SAT k) else s
    let s := (s.wr (LOOP.L_FE_TIME_RUN_MS k) (min 16383 (fe / 64000))).wr (LOOP.L_OSC_REVERSALS k) (min 127 l.reversals.length)
    let following := s.rd (LOOP.L_FE_LIMIT_LIMIT k) != 0 && s.rd (LOOP.L_FE_TIME_LIMIT_MS k) * 64000 ≤ fe && fe != 0
    let osc := s.rd (LOOP.L_OSC_COUNT k) != 0 && s.rd (LOOP.L_OSC_COUNT k) ≤ l.reversals.length
    let s := if following then s.tripLoop k client 1 else if osc then s.tripLoop k client 2 else s
    .next s.settle
  else .next s

/-- LOOP_OUTPUT: the computed output is delivered to the client (R455). -/
def execLoopOutput (k : Fin 4) (s : State) : Host.Outcome State Fault Refusal :=
  let k := k.val
  if s.awake && s.rd (LOOP.L_STAT_STATE k) == 2 then
    match (s.loopSt k).waiting with
    | none => .next s
    | some u => .next ((s.modLoop k fun l => { l with waiting := none, delivered := u }).deliver (s.rd (LOOP.L_STAT_CLIENT k)) u)
  else .next s

/-! ### Tuning (R460, R461) -/

/-- Coefficients that a kind uses (R451). -/
def coefCount (kind : Nat) : Nat :=
  match kind with
  | 1 => 1
  | 2 => 2
  | 3 => 5
  | 4 => 5
  | 5 => 2
  | 6 => 2
  | 7 => 3
  | 8 => 1
  | 9 => 3
  | _ => 0

/-- The conditions of R451 on one stage's coefficients, with `luts` tables present. -/
def coefOk (kind : Nat) (c : List Int) (luts : Nat) : Bool :=
  let k (i : Nat) : Int := c.getD i 0
  match kind with
  | 3 => decide (0 < k 3) && decide (0 ≤ k 4) && decide (k 4 < 16777216)
  | 5 => decide (k 0 ≤ k 1)
  | 6 => decide (0 < k 0) && decide (0 < k 1)
  | 7 => decide (k 1 < k 2) && decide (0 ≤ k 0) && decide (k 0 < luts)
  | 8 => decide (0 ≤ k 0)
  | _ => true

/-- A commit of the coefficient window (R460), with its words: none when the entry was PARTIAL. Answers whether it is BUSY. -/
def State.coefCommit (s : State) (w : Option Window) : State × Bool :=
  match w with
  | none => (s.wr LOOP.COEF_STAT_RESULT 1, false)
  | some w =>
    let k := w.w0 % 4
    let stage := w.w0 / 256 % 16
    let index := w.w0 / 65536 % 8
    let law := s.law k
    let clean := w.w0 == k + 256 * stage + 65536 * index && w.w2 == 0 && w.w3 == 0
    if s.rdBit LOOP.COEF_STAT_PENDING k then (s, true)
    else if !s.rdBit LOOP.CFG_PRESENT k || u8 law 0 ≤ stage || coefCount (stageDef law stage).kind ≤ index || !clean then
      (s.wr LOOP.COEF_STAT_RESULT 2, false)
    else
      ((s.modLoop k fun l => { l with shadow := l.shadow.modify stage fun c => c.set index (ofBits 32 w.w1) }).wr
        LOOP.COEF_STAT_RESULT 0, false)

/-- One loop named by APPLY is dealt with (R461). -/
def State.applyLoop (s : State) (k : Nat) : State :=
  let law := s.law k
  let l := s.loopSt k
  let ok := (List.range l.shadow.length).all fun j => coefOk (stageDef law j).kind (l.shadow.getD j []) s.lutCount
  if !ok then (s.wrBit LOOP.COEF_STAT_REFUSED k true).applyDealt k
  else if s.rd (LOOP.L_STAT_STATE k) == 2 then s.wrBit LOOP.COEF_STAT_PENDING k true
  else (s.modLoop k fun l => { l with coef := l.shadow }).applyDealt k

/-- A write of LOOP.APPLY (R461). -/
def State.writeApply (s : State) (w : Word) : State :=
  let m := field w 0 4
  let s := { s with loops := { s.loops with named := s.loops.named ||| m } }
  ((List.range 4).filter fun k => m.testBit k).foldl (fun s k => s.applyLoop k) s

def execApply (mask : BitVec 32) (s : State) : Host.Outcome State Fault Refusal :=
  .next (s.hostReg .loop fun s => s.writeApply mask)

/-! ### The coefficient window -/

/-- A write of lane `lane` of LOOP.COEF_WIN; lane 3 commits the entry, PARTIAL unless every other lane was written
(R185, R460). Answers whether the commit is BUSY. -/
def State.writeCoefWin (s : State) (lane : Nat) (w : Word) : State × Bool :=
  let x := s.loops.win.put lane w
  if lane == 3 then
    let r := s.coefCommit (if x.mask == 15 then some x else none)
    if r.2 then (s, true) else ({ r.1 with loops := { r.1.loops with win := {} } }, false)
  else ({ s with loops := { s.loops with win := x } }, false)

/-- COEF_COMMIT: the write of COEF_WIN3 that commits the entry (R460). -/
def execCoefCommit (w : BitVec 32) (s : State) : Host.Outcome State Fault Refusal :=
  .next (s.hostReg .loop fun s => (s.writeCoefWin 3 w).1)

end Sys2Proof.Machine
end

