-- ==== Sys2Proof/Machine/Beads.lean ====
section
/-! DEFINITION. The beads that each rod defines: their lengths, ranges, defaults and which are required (R48, R72 to R75,
R568 and the bead table of each rod's chapter), and the conditions between beads. -/

namespace Sys2Proof.Machine

/-- The causes of R73. -/
def causeMissing : Nat := 0xE0
def causeRange : Nat := 0xE1
def causeLength : Nat := 0xE2
def causeSelfTest : Nat := 0xE3

/-- One field of a bead: its first byte, its bytes, its least and its greatest value. A field whose least value is negative
is signed. -/
structure BeadField where
  off : Nat
  size : Nat
  lo : Int
  hi : Int
deriving DecidableEq, Repr

/-- The field's value. -/
def BeadField.val (f : BeadField) (d : List Nat) : Int :=
  let n := leNat ((d.drop f.off).take f.size)
  if f.lo < 0 then ofBits (8 * f.size) n else n

/-- Every field lies in its range. -/
def fieldsOk (d : List Nat) (fs : List BeadField) : Bool :=
  fs.all fun f => decide (f.lo ≤ f.val d) && decide (f.val d ≤ f.hi)

/-- The cause of a bead of stated length `len`, whose value is good where `ok` holds. -/
def beadOf (len : Nat) (d : List Nat) (ok : Bool) : Option Nat :=
  if d.length ≠ len then some causeLength else if ok then none else some causeRange

/-- The cause of a bead of fields alone. -/
def beadOfFields (len : Nat) (d : List Nat) (fs : List BeadField) (ok : Bool := true) : Option Nat :=
  beadOf len d (fieldsOk d fs && ok)

/-- The cause of a bead of `lo` to `hi` entries of `size` bytes. -/
def beadOfEntries (size lo hi : Nat) (d : List Nat) (ok : List Nat → Bool) : Option Nat :=
  let n := d.length / size
  if d.length % size ≠ 0 || n < lo || hi < n then some causeLength
  else if (List.range n).all fun i => ok ((d.drop (size * i)).take size) then none else some causeRange

/-- A list of numbers ascends strictly. -/
def ascends (l : List Nat) : Bool := (l.zip (l.drop 1)).all fun p => decide (p.1 < p.2)

/-! ### The structured beads -/

/-- OPP (R118, R132). -/
def oppOk (d : List Nat) : Bool :=
  let f := (List.range 4).map fun i => u16 d (4 * i)
  let v := (List.range 4).map fun i => u8 d (4 * i + 2)
  ascends f && (v.zip (v.drop 1)).all (fun p => decide (p.1 ≤ p.2)) &&
    (List.range 4).all fun i =>
      let f := u16 d (4 * i)
      let v := u8 d (4 * i + 2)
      decide (200 ≤ f) && decide (f ≤ 400) && f % 2 == 0 && decide (70 ≤ v) && decide (v ≤ 95) && u8 d (4 * i + 3) == 0 &&
        decide ((700 + (f - 200) + 9) / 10 ≤ v)

/-- Bits set in the low `n` bits. -/
def popcount (n w : Nat) : Nat := ((List.range n).filter fun i => w.testBit i).length

/-- QUEUE_MAP (R223). -/
def queueMapOk (d : List Nat) : Bool :=
  let m := (List.range 16).map fun q => u16 d (2 * q)
  m.getD 0 0 == 1 && (m.drop 1).all (fun w => !w.testBit 0) && m.all (fun w => !w.testBit 1) &&
    (List.range 14).all fun b => decide ((m.filter fun w => w.testBit (b + 2)).length ≤ 1)

/-- BANK_MAP (R251). -/
def bankMapOk (d : List Nat) : Bool := d.all (fun b => b == 255 || (4 ≤ b && b ≤ 15)) && d.contains 255

/-- An entry of ACTION_TABLE (R325). -/
def actionEntryOk (e : List Nat) : Bool :=
  fieldsOk e [⟨0, 1, 0, 5⟩, ⟨1, 1, 0, 2⟩, ⟨4, 1, 1, 255⟩, ⟨5, 1, 1, 5⟩, ⟨6, 1, 0, 1⟩, ⟨7, 1, 0, 0⟩]

/-- An entry of THM_DESC (R325): an unused one is checked in its last two bytes only. -/
def thmEntryOk (e : List Nat) : Bool :=
  fieldsOk e [⟨6, 1, 0, 1⟩, ⟨7, 1, 0, 0⟩] &&
    (u8 e 6 == 0 || fieldsOk e [⟨0, 2, 10, 65535⟩, ⟨2, 2, 1000, 6000⟩, ⟨4, 2, 10, 65535⟩])

/-- STB_GROUPS by itself (R399, R568). -/
def stbGroups (d : List Nat) : Option Nat :=
  if d.isEmpty then some causeLength
  else if u8 d 0 < 1 || 8 < u8 d 0 then some causeRange
  else if d.length ≠ 2 + 4 * u8 d 0 then some causeLength
  else none

/-- The groups ascend, do not overlap, and cover the dots exactly (R364). -/
def groupsCover (d : List Nat) (dots : Nat) : Bool :=
  let g := u8 d 0
  (List.range g).all (fun i => u16 d (2 + 4 * i) == (if i = 0 then 0 else u16 d (4 * i) + 1) &&
    decide (u16 d (2 + 4 * i) ≤ u16 d (4 + 4 * i))) && u16 d (4 * g) + 1 == dots

/-- FEEDBACK (R439). -/
def feedbackOk (d : List Nat) : Bool :=
  fieldsOk d [⟨0, 1, 0, 2⟩, ⟨1, 1, 0, 3⟩, ⟨2, 4, 1000, 8000000⟩, ⟨10, 2, 0, 0⟩] &&
    if u8 d 0 == 2 then fieldsOk d [⟨6, 1, 12, 24⟩, ⟨7, 1, 1, 40⟩, ⟨8, 1, 8, u8 d 6⟩, ⟨9, 1, 5, 100⟩]
    else fieldsOk d [⟨6, 4, 0, 0⟩]

/-- PHASE_ADV (R439). -/
def phaseAdvOk (d : List Nat) : Bool :=
  ascends ((List.range 16).map fun k => u8 d (2 * k)) &&
    (List.range 16).all fun k => decide (u8 d (2 * k) ≤ 125) && decide (u8 d (2 * k + 1) ≤ 45)

/-- Sources and the second source that a stage kind uses (R450, R451). -/
def usesB (kind : Nat) : Bool := kind == 2 || kind == 9

/-- A source code of R449 for stage `j` of `n`. -/
def sourceOk (n j c : Nat) : Bool := decide (c ≤ 3) || (0x10 ≤ c && c < 0x10 + j) || (0x20 ≤ c && c < 0x20 + n)

/-- Stage `j` of a law graph of `n` stages keeps R448 to R451, but for the presence of its table. -/
def stageOk (law : List Nat) (n j : Nat) : Bool :=
  let r := stageRec law j
  let kind := u8 r 0
  let c := stageCoef law j
  1 ≤ kind && kind ≤ 9 && sourceOk n j (u8 r 1) && (if usesB kind then sourceOk n j (u8 r 2) else u8 r 2 == 0) &&
    decide (u8 r 3 ≤ 1) && (u8 r 3 == 0 || kind == 3 || kind == 8) &&
    (c.drop (coefCount kind)).all (· == 0) && coefOk kind c 4

/-- LAW0 to LAW3 by themselves (R447 to R451). -/
def lawCause (d : List Nat) : Option Nat :=
  let n := u8 d 0
  if d.isEmpty then some causeLength
  else if n < 1 || 12 < n then some causeRange
  else if d.length ≠ 16 + 24 * n then some causeLength
  else
    let free := u8 d 3 == 0
    let top : Int := 2147483647
    let ok := fieldsOk d [⟨1, 1, 0, n - 1⟩, ⟨2, 1, 0, 1⟩, ⟨3, 1, 0, 1⟩, ⟨8, 4, 1, top⟩, ⟨12, 4, 1, top⟩] &&
      fieldsOk d [if free then ⟨4, 2, 1600, 65535⟩ else ⟨4, 2, 1, 40⟩] &&
      (if u8 d 2 == 0 then u16 d 6 == 0 else 256 ≤ u16 d 6 && (!free || u16 d 6 ≤ u16 d 4))
    if ok && (List.range n).all (stageOk d n) then none else some causeRange

/-- A sensor descriptor (R468). -/
def sensorCause (d : List Nat) : Option Nat :=
  let m := u8 d 20
  let w := u16 d 22
  if d.length < 24 then some causeLength
  else if m < 1 || 4 < m || w < 1 || 2048 < w then some causeRange
  else if d.length ≠ 48 + 8 * m + 4 * w then some causeLength
  else
    let head := fieldsOk d
      [⟨0, 1, 8, 0x77⟩, ⟨1, 1, 1, 2⟩, ⟨2, 1, 0, 2⟩, ⟨3, 1, 1, 2⟩, ⟨8, 2, 1, 65535⟩, ⟨10, 1, 0, 2⟩,
       ⟨11, 1, 0, if u8 d 10 == 2 then 1 else 3⟩, ⟨12, 1, 0, 3⟩, ⟨13, 1, 1, 30⟩, ⟨14, 2, 64, 1600⟩, ⟨16, 2, 48, 1200⟩,
       ⟨21, 1, 0, 0⟩, ⟨28, 2, 1, u16 d 30⟩, ⟨32, 2, 0, u16 d 34⟩, ⟨40, 4, 0, 0⟩, ⟨44, 4, 0, 0⟩] &&
      u16 d 14 % 2 == 0 && u16 d 16 % 2 == 0
    let modes := (List.range m).all fun i =>
      let r := (d.drop (48 + 8 * i)).take 8
      fieldsOk r [⟨0, 1, 1, u8 d 3⟩, ⟨1, 1, 0, 0⟩, ⟨2, 2, 80, 1000⟩] && decide (u16 r 4 + u16 r 6 ≤ w)
    let entries := (List.range w).all fun e => decide (u8 d (48 + 8 * m + 4 * e + 3) ≤ 1)
    if head && modes && entries then none else some causeRange

/-- ACCEL (R536). -/
def accelCause (d : List Nat) : Option Nat :=
  if d.length < 13 then some causeLength
  else if 16 < u8 d 12 then some causeRange
  else beadOfFields (16 + 2 * u8 d 12) d
    [⟨0, 1, 8, 0x77⟩, ⟨1, 1, 0, 1⟩, ⟨5, 1, 0, 1⟩, ⟨6, 2, 1, 65535⟩, ⟨8, 2, 100, 1000⟩, ⟨10, 2, 500, 16000⟩,
     ⟨13, 3, 0, 0⟩]

/-- SCAN_SIZE is a tap S size (R475, R493). -/
def tapSSize (w h : Nat) : Bool := w % 16 == 0 && h % 2 == 0 && 0 < w && w ≤ 1024 && 0 < h && h ≤ 768

/-- GAMMA: 33 points, not descending. -/
def gammaOk (d : List Nat) : Bool :=
  let p := (List.range 33).map fun k => u16 d (2 * k)
  p.all (fun x => decide (x ≤ 1023)) && (p.zip (p.drop 1)).all fun q => decide (q.1 ≤ q.2)

/-! ### Every bead -/

/-- A bead's own cause: the outer none where no rod defines the bead, the inner none where the bead is good. -/
def beadCause (n : Nat) (d : List Nat) : Option (Option Nat) :=
  if 0xF0 ≤ n % 256 then some (some causeRange)
  else if 0x0A00 ≤ n && n ≤ 0x0A03 then some (lawCause d)
  else if 0x0A80 ≤ n && n ≤ 0x0A83 then
    some (beadOfFields 16 d [⟨0, 4, 0, 2147483647⟩, ⟨4, 2, 1, 10000⟩, ⟨6, 2, 1, 1000⟩, ⟨8, 4, 0, 2147483647⟩, ⟨12, 1, 0, 64⟩,
      ⟨13, 1, 0, 1⟩, ⟨14, 1, 0, 1⟩, ⟨15, 1, 0, 0⟩] (u8 d 12 != 1))
  else if 0x0B00 ≤ n && n ≤ 0x0B03 then some (sensorCause d)
  else match n with
    | 0x0010 => some (beadOf 12 d (bankMapOk d))
    | 0x0020 => some (beadOf 32 d (queueMapOk d))
    | 0x0021 => some (beadOf 16 d true)
    | 0x0030 => some (beadOf 16 d (oppOk d))
    | 0x0031 => some (beadOfFields 2 d [⟨0, 2, 150, 300⟩] (u16 d 0 % 2 == 0))
    | 0x0080 => some (beadOfFields 1 d [⟨0, 1, 0, 3⟩])
    | 0x0081 => some (beadOf 2 d (u16 d 0 == 0 || 10 ≤ u16 d 0))
    | 0x00A0 => some (beadOfFields 2 d [⟨0, 2, 10, 3600⟩])
    | 0x00A1 => some (beadOfFields 2 d [⟨0, 2, 100, 60000⟩])
    | 0x00A2 => some (beadOf 1 d true)
    | 0x00A3 => some (beadOfFields 1 d [⟨0, 1, 0, 7⟩])
    | 0x0180 => some (beadOfFields 1 d [⟨0, 1, 25, 100⟩])
    | 0x0181 => some (beadOfFields 1 d [⟨0, 1, 0, 7⟩] (u8 d 0 % 2 == 1))
    | 0x0182 => some (beadOfFields 1 d [⟨0, 1, 0, 1⟩])
    | 0x0280 => some (beadOfFields 1 d [⟨0, 1, 0, 15⟩] (u8 d 0 % 2 == 1))
    | 0x0281 => some (beadOfFields 1 d [⟨0, 1, 25, 133⟩])
    | 0x0300 => some (beadOf 2 d (popcount 16 (u16 d 0) ≤ 4))
    | 0x0400 => some (beadOfEntries 8 1 16 d actionEntryOk)
    | 0x0401 => some (beadOfEntries 8 4 4 d thmEntryOk)
    | 0x0402 => some (beadOfFields 2 d [⟨0, 1, 5, 100⟩, ⟨1, 1, 1, 60⟩])
    | 0x0480 => some (beadOfFields 2 d [⟨0, 2, 10, 1000⟩])
    | 0x0481 => some (beadOfFields 4 d [⟨0, 1, 25, 90⟩, ⟨1, 1, 1, 120⟩, ⟨2, 2, 50, 500⟩])
    | 0x0482 => some (beadOfFields 1 d [⟨0, 1, 1, 60⟩])
    | 0x0483 => some (beadOf 4 d true)
    | 0x0500 => some (beadOfFields 1 d [⟨0, 1, 0, 1⟩])
    | 0x0501 => some (beadOfFields 4 d [⟨0, 1, 0, 140⟩, ⟨1, 1, 0, 2⟩, ⟨2, 1, 20, 80⟩, ⟨3, 1, 1, 6⟩])
    | 0x0502 => some (beadOfFields 4 d [⟨0, 1, 0, 1⟩, ⟨1, 1, 0, 1⟩, ⟨2, 2, 1, 1000⟩])
    | 0x0580 => some (beadOfFields 1 d [⟨0, 1, 1, 10⟩])
    | 0x0581 => some (beadOfFields 1 d [⟨0, 1, 0, 140⟩])
    | 0x0582 => some (beadOfFields 1 d [⟨0, 1, 1, 20⟩])
    | 0x0583 => some (beadOfFields 2 d [⟨0, 1, 50, 120⟩, ⟨1, 1, 50, 120⟩] (u8 d 1 < u8 d 0))
    | 0x0584 => some (beadOfFields 2 d [⟨0, 1, 60, 180⟩, ⟨1, 1, 60, 180⟩] (u8 d 0 < u8 d 1))
    | 0x0600 => some (beadOfFields 8 d [⟨0, 2, 256, 1024⟩, ⟨2, 1, 1, 2⟩, ⟨4, 1, 4, 64⟩, ⟨5, 1, 0, 1⟩, ⟨6, 1, 8, 255⟩, ⟨7, 1, 0, 1⟩]
        ((u8 d 3 == 8 || u8 d 3 == 12) && (u8 d 2 == 1 || u16 d 0 % 2 == 0)))
    | 0x0601 => some (stbGroups d)
    | 0x0602 => some (beadOfEntries 16 1 8 d fun e => fieldsOk e [⟨10, 2, 1000, 6000⟩, ⟨14, 2, 0, 0⟩])
    | 0x0603 => some none
    | 0x0680 => some (beadOfFields 8 d [⟨0, 2, 10, 2000⟩, ⟨2, 1, 0, 200⟩, ⟨4, 1, -20, 60⟩, ⟨5, 1, 0, 200⟩, ⟨6, 1, 0, 20⟩,
        ⟨7, 1, 0, 0⟩])
    | 0x0681 => some (beadOf 16 d true)
    | 0x0682 => some (beadOfFields 6 d [⟨0, 2, 100, 800⟩, ⟨2, 1, 1, 8⟩, ⟨3, 1, 50, 90⟩, ⟨4, 1, 1, 255⟩, ⟨5, 1, 1, 15⟩])
    | 0x0683 => some (beadOfFields 6 d [⟨3, 3, 1, leNat (d.take 3)⟩])
    | 0x0684 => some (beadOfFields 2 d [⟨0, 2, 0, 1000⟩])
    | 0x0685 => some (beadOfFields 8 d [⟨0, 2, 10, 1000⟩, ⟨2, 1, 0, 1⟩, ⟨3, 1, 5, 40⟩, ⟨4, 2, 10, 600⟩, ⟨6, 1, 30, 60⟩, ⟨7, 1, 0, 0⟩])
    | 0x0686 => some (beadOfFields 1 d [⟨0, 1, 5, 50⟩])
    | 0x0700 => some (beadOfFields 2 d [⟨0, 2, 256, 1024⟩])
    | 0x0701 => some (beadOf 3 d (d.all (fun b => decide (b ≤ 11)) && d.dedup.length == 3))
    | 0x0780 => some (beadOfFields 2 d [⟨0, 2, 1, 4096⟩])
    | 0x0781 => some (beadOfFields 1 d [⟨0, 1, 0, 1⟩])
    | 0x0782 => some (beadOfFields 1 d [⟨0, 1, 1, 255⟩])
    | 0x0783 => some (beadOfFields 2 d [⟨0, 2, 10, 250⟩])
    | 0x0800 => some (beadOfFields 1 d [⟨0, 1, 0, 1⟩])
    | 0x0801 => some (beadOfFields 12 d [⟨0, 2, 10, 65535⟩, ⟨2, 2, 1, 65535⟩, ⟨4, 2, 50, 1200⟩, ⟨6, 2, u16 d 4, 2500⟩,
        ⟨10, 1, 5, 50⟩, ⟨11, 1, 5, 50⟩])
    | 0x0802 => some (beadOf 12 d (feedbackOk d))
    | 0x0803 => some (beadOfFields 4 d [⟨2, 2, 1, u16 d 0⟩])
    | 0x0804 => some (beadOfFields 4 d [⟨1, 1, 0, 0⟩, ⟨2, 2, 1, 1024⟩] ([1, 2, 4, 8, 16, 32, 64].contains (u8 d 0)))
    | 0x0805 => some (beadOfFields 2 d [⟨0, 1, 0, 3⟩] ((u8 d 1 ≤ 3 || u8 d 1 == 255) && u8 d 0 != u8 d 1))
    | 0x0806 => some (beadOf 6 d (d.all (fun c => 1 ≤ c && c ≤ 6) && d.dedup.length == 6))
    | 0x0807 => some (beadOfFields 4 d [⟨0, 1, 0, 1⟩, ⟨2, 1, 10, 100⟩, ⟨3, 1, 0, 0⟩])
    | 0x0880 => some (beadOfFields 1 d [⟨0, 1, 20, 50⟩])
    | 0x0881 => some (beadOfFields 8 d [⟨0, 2, 10, 500⟩, ⟨2, 2, 10, 500⟩, ⟨4, 1, 10, 100⟩, ⟨7, 1, 0, 100⟩])
    | 0x0882 => some (beadOf 32 d (phaseAdvOk d))
    | 0x0883 => some (beadOfFields 2 d [⟨0, 2, 0, 1200⟩])
    | 0x0884 => some (beadOfFields 4 d [⟨0, 1, 0, 7⟩, ⟨1, 1, 0, 7⟩, ⟨2, 1, 1, 50⟩, ⟨3, 1, 0, 0⟩])
    | 0x0885 => some (beadOfFields 1 d [⟨0, 1, 0, 1⟩])
    | 0x0886 => some (beadOfFields 2 d [⟨0, 2, 5, 500⟩])
    | 0x0900 => some (beadOfFields 8 d [⟨0, 1, 0, 1⟩, ⟨1, 1, 0, 3⟩, ⟨2, 1, 0, 3⟩, ⟨3, 1, 0, 0⟩, ⟨4, 2, 100, 2500⟩,
        ⟨6, 2, u16 d 4, 2500⟩])
    | 0x0980 => some (beadOfFields 8 d [⟨0, 2, 50, 300⟩, ⟨2, 2, 50, 300⟩, ⟨4, 1, 10, 250⟩, ⟨5, 1, 1, 50⟩, ⟨6, 1, 0, 3⟩, ⟨7, 1, 0, 0⟩]
        (u16 d 0 + u16 d 2 ≤ 400))
    | 0x0A04 => some (beadOfEntries 68 1 4 d fun _ => true)
    | 0x0B10 => some (beadOfFields 4 d [⟨0, 1, 1, 2⟩, ⟨2, 2, 80, 1000⟩])
    | 0x0B11 => some (beadOfFields 2 d [⟨0, 1, 0, 11⟩, ⟨1, 1, 0, 8⟩] (u8 d 0 + u8 d 1 ≤ 12))
    | 0x0B12 => some (beadOfFields 2 d [⟨0, 1, 0, 11⟩, ⟨1, 1, 0, 8⟩] (u8 d 0 + u8 d 1 ≤ 12))
    | 0x0B80 => some (beadOf 4 d true)
    | 0x0B81 => some (beadOfFields 2 d [⟨0, 2, 0, 1023⟩])
    | 0x0B82 => some (beadOf 66 d (gammaOk d))
    | 0x0B83 => some (beadOfFields 2 d [⟨0, 1, 0, 1⟩, ⟨1, 1, 16, 240⟩])
    | 0x0B84 => some (beadOfFields 2 d [⟨0, 2, 0, 60000⟩])
    | 0x0C00 => some (beadOfFields 1 d [⟨0, 1, 0, 1⟩])
    | 0x0C80 => some (beadOfFields 2 d [⟨0, 1, 10, 51⟩, ⟨1, 1, u8 d 0, 51⟩])
    | 0x0C81 => some (beadOfFields 2 d [⟨0, 2, 100, 2000⟩])
    | 0x0E80 => some (beadOfFields 4 d [⟨0, 4, 1, 15⟩])
    | 0x0E81 => some (beadOfFields 2 d [⟨0, 2, 100, 10000⟩])
    | 0x0E82 => some (beadOf 4 d (tapSSize (u16 d 0) (u16 d 2)))
    | 0x0E84 => some (beadOfFields 1 d [⟨0, 1, 1, 25⟩])
    | 0x0F00 => some (accelCause d)
    | 0x0F80 => some (beadOfFields 1 d [⟨0, 1, 1, 240⟩])
    | _ => none

/-- The required beads of a rod (R75). -/
def requiredBeads : Rod → List Nat
  | .core => [0x0010, 0x0020, 0x0021]
  | .therm => [0x0400]
  | .supply => [0x0500, 0x0501]
  | .print => [0x0600, 0x0601, 0x0602]
  | .raster => [0x0700, 0x0701]
  | .feed => [0x0800, 0x0801, 0x0802]
  | .cut => [0x0900]
  | .vidin => [0x0B11, 0x0B12]
  | _ => []

/-- The defaults of optional beads. -/
def beadDefault (n : Nat) : Option (List Nat) :=
  if 0x0A80 ≤ n && n ≤ 0x0A83 then some (leBytes 4 0 ++ leBytes 2 100 ++ leBytes 2 100 ++ leBytes 4 0 ++ [0, 0, 1, 0])
  else match n with
    | 0x0030 => some [200, 0, 75, 0, 8, 1, 80, 0, 76, 1, 85, 0, 144, 1, 90, 0]
    | 0x0031 => some (leBytes 2 300)
    | 0x0080 => some [3]
    | 0x0081 => some [0, 0]
    | 0x00A0 => some [60, 0]
    | 0x00A1 => some (leBytes 2 1000)
    | 0x00A2 => some [50]
    | 0x00A3 => some [7]
    | 0x0180 => some [100]
    | 0x0181 => some [7]
    | 0x0182 => some [1]
    | 0x0280 => some [7]
    | 0x0281 => some [133]
    | 0x0300 => some [0, 0]
    | 0x0401 => some (List.replicate 32 0)
    | 0x0402 => some [10, 6]
    | 0x0480 => some [100, 0]
    | 0x0481 => some [60, 30, 100, 0]
    | 0x0482 => some [10]
    | 0x0483 => some (leBytes 2 (toBits 16 (-34)) ++ [25, 0])
    | 0x0502 => some [0, 0, 0, 0]
    | 0x0580 => some [5]
    | 0x0581 => some [70]
    | 0x0582 => some [10]
    | 0x0583 => some [62, 56]
    | 0x0584 => some [165, 170]
    | 0x0680 => some (leBytes 2 300 ++ [70, 0, 25, 60, 5, 0])
    | 0x0681 => some [128, 90, 115, 77, 122, 83, 109, 70, 122, 83, 109, 70, 115, 77, 102, 64]
    | 0x0682 => some (leBytes 2 400 ++ [8, 75, 16, 8])
    | 0x0683 => some (leBytes 3 64000 ++ leBytes 3 1600)
    | 0x0684 => some [96, 0]
    | 0x0685 => some (leBytes 2 200 ++ [1, 25] ++ leBytes 2 120 ++ [50, 0])
    | 0x0686 => some [20]
    | 0x0780 => some (leBytes 2 4096)
    | 0x0781 => some [1]
    | 0x0782 => some [1]
    | 0x0783 => some (leBytes 2 250)
    | 0x0805 => some [0, 1]
    | 0x0807 => some [0, 0, 100, 0]
    | 0x0880 => some [25]
    | 0x0881 => some (leBytes 2 250 ++ leBytes 2 250 ++ [50, 20, 50, 30])
    | 0x0882 => some ((List.range 16).flatMap fun k => [8 * k, 2 * k])
    | 0x0883 => some (leBytes 2 200)
    | 0x0884 => some [0, 0, 2, 0]
    | 0x0885 => some [0]
    | 0x0886 => some [50, 0]
    | 0x0980 => some (leBytes 2 200 ++ leBytes 2 180 ++ [120, 10, 2, 0])
    | 0x0B10 => some ([2, 0] ++ leBytes 2 1000)
    | 0x0B80 => some [64, 64, 64, 64]
    | 0x0B81 => some [64, 0]
    | 0x0B83 => some [1, 110]
    | 0x0B84 => some (leBytes 2 5000)
    | 0x0C00 => some [0]
    | 0x0C80 => some [20, 46]
    | 0x0C81 => some (leBytes 2 500)
    | 0x0E80 => some [15, 0, 0, 0]
    | 0x0E81 => some (leBytes 2 2000)
    | 0x0E82 => some (leBytes 2 640 ++ leBytes 2 480)
    | 0x0E84 => some [25]
    | 0x0F80 => some [15]
    | _ => none

/-! ### Conditions between beads (R568) -/

/-- The beads that the conditions are checked against: those of every rod as the image leaves them, the numbers of all
that were carried, and the numbers that have a cause of their own. -/
structure BeadView where
  beads : List Bead
  carried : List Nat
  bad : List Nat

/-- The value in force of bead `n`, its default included; none where it has a cause, or neither value nor default. -/
def BeadView.val (v : BeadView) (n : Nat) : Option (List Nat) :=
  if v.bad.contains n then none
  else match v.beads.find? fun b => b.num == n with
    | some b => some b.data
    | none => beadDefault n

/-- A bead is carried. -/
def BeadView.has (v : BeadView) (n : Nat) : Bool := v.carried.contains n

/-- A condition on the values of two beads, where both have one. -/
def when2 (a b : Option (List Nat)) (p : List Nat → List Nat → Bool) : Bool :=
  match a, b with
  | some x, some y => p x y
  | _, _ => false

/-- A condition on one bead's value, where it has one. -/
def when1 (a : Option (List Nat)) (p : List Nat → Bool) : Bool := (a.map p).getD false

/-- The bead and its cause where a condition is broken. -/
def breach (b : Bool) (n cause : Nat) : List (Nat × Nat) := if b then [(n, cause)] else []

/-- The banks of a ring. -/
def ringBanks (d : List Nat) : List Nat := (List.range (u8 d 1)).map (· + u8 d 0)

/-- A loop has a law graph: its bead is carried, whatever its cause (R444). -/
def BeadView.law (v : BeadView) (k : Nat) : Bool := v.has (0x0A00 + k)

/-- FEED's loops name one that has no law graph. -/
def BeadView.feedLoops (v : BeadView) : Bool :=
  when1 (v.val 0x0805) fun d => !v.law (u8 d 0) || (u8 d 1 != 255 && !v.law (u8 d 1))

/-- A law graph names a table that is absent (R451), or runs PWM-locked above 40 kHz, or has a PHASE above its sample
period at the PWM frequency in force. Neither is checked against a LUTS or a PWM_KHZ that has a cause of its own (R568). -/
def BeadView.lawBad (v : BeadView) (k : Nat) : Bool :=
  let luts := ((v.val 0x0A04).getD []).length / 68
  let khz := u8 ((v.val 0x0880).getD [25]) 0
  when1 (v.val (0x0A00 + k)) fun d =>
    (!v.bad.contains 0x0A04 && (List.range (u8 d 0)).any fun j => u8 (stageRec d j) 0 == 7 && !coefOk 7 (stageCoef d j) luts) ||
      (!v.bad.contains 0x0880 && u8 d 3 == 1 && (40 * u16 d 4 < khz || (u8 d 2 == 1 && u16 d 4 * 64000 < u16 d 6 * khz)))

/-- The causes of the conditions that a rod's own beads must keep with one another and with other rods'. -/
def crossCauses (v : BeadView) : Rod → List (Nat × Nat)
  | .supply => breach (when2 (v.val 0x0581) (v.val 0x0501) fun i p => u8 p 0 < u8 i 0) 0x0581 causeRange
  | .print =>
    breach (when2 (v.val 0x0601) (v.val 0x0600) fun g h => !groupsCover g (u16 h 0)) 0x0601 causeRange ++
      breach (when2 (v.val 0x0603) (v.val 0x0600) fun r h => 2 * r.length != u16 h 0) 0x0603 causeRange
  | .raster =>
    breach (when2 (v.val 0x0700) (v.val 0x0600) fun d h => u16 d 0 != u16 h 0) 0x0700 causeRange ++
      breach (when2 (v.val 0x0701) (v.val 0x0010) fun d m => d.any fun b => u8 m b != 7) 0x0701 causeRange
  | .feed =>
    let arr := v.val 0x0800
    let brush := when1 arr fun a => u8 a 0 == 1
    let step := when1 arr fun a => u8 a 0 == 0
    breach (when2 (v.val 0x0801) arr fun m a => if u8 a 0 == 0 then u16 m 8 < 24 || 400 < u16 m 8 else u16 m 8 < 1 || 12 < u16 m 8)
        0x0801 causeRange ++
      breach (brush && when1 (v.val 0x0802) fun f => u8 f 0 == 0) 0x0802 causeRange ++
      breach ((when1 (v.val 0x0802) fun f => u8 f 0 != 0) && !v.has 0x0803) 0x0803 causeMissing ++
      breach (step && !v.has 0x0804) 0x0804 causeMissing ++
      breach v.feedLoops 0x0805 causeRange ++
      breach (brush && !v.has 0x0806) 0x0806 causeMissing ++
      breach (step && when1 (v.val 0x0807) fun a => u8 a 0 != 0) 0x0807 causeRange
  | .cut =>
    breach (when1 (v.val 0x0900) (fun d => !v.law (u8 d 2)) ||
      when2 (v.val 0x0900) (v.val 0x0805) fun d l => u8 d 2 == u8 l 0 || u8 d 2 == u8 l 1) 0x0900 causeRange
  | .loop =>
    breach ((List.range 4).all fun k => !v.law k) 0x0A03 causeMissing ++
      (List.range 4).flatMap fun k => breach (v.lawBad k) (0x0A00 + k) causeRange
  | .vidin =>
    let e := v.val 0x0B11
    let t := v.val 0x0B12
    let owned (r : Option (List Nat)) : Bool := when2 r (v.val 0x0010) fun d m => (ringBanks d).any fun b => u8 m b != 11
    breach ((List.range 4).all fun j => !v.has (0x0B00 + j)) 0x0B03 causeMissing ++
      breach (owned e) 0x0B11 causeRange ++
      breach (owned t || when2 e t fun x y =>
        (u8 x 1 == 0 && u8 y 1 == 0) || (ringBanks x).any fun b => (ringBanks y).contains b) 0x0B12 causeRange
  | _ => []

end Sys2Proof.Machine
end

