-- ==== Sys2Proof/Machine/Crypto.lean ====
section
/-! DEFINITION. SHA-256 and the check of an ECDSA signature on curve P-256, as FIPS 180 and FIPS 186 define them and R40
and R45 use them, over lists of bytes. -/

namespace Sys2Proof.Machine

/-! ### SHA-256 -/

/-- The big-endian value of a list of bytes. -/
def beNat (l : List Nat) : Nat := l.foldl (fun a b => 256 * a + b) 0

/-- `n` bytes of `v`, most significant first. -/
def beBytes (n v : Nat) : List Nat := (leBytes n v).reverse

/-- The largest number of at most `n` bits beside `r`, each bit tried from the highest, whose `k`th power does not pass `v`. -/
def rootBits (k v : Nat) : Nat → Nat → Nat
  | 0, r => r
  | n + 1, r => rootBits k v n (if (r + 2 ^ n) ^ k ≤ v then r + 2 ^ n else r)

/-- The first 32 bits of the fraction of the `k`th root of a small number, from which FIPS 180 takes its constants. -/
def rootWord (k p : Nat) : Word := BitVec.ofNat 32 (rootBits k (p * 2 ^ (32 * k)) 36 0)

/-- The first 64 primes. -/
def shaPrimes : List Nat :=
  [2, 3, 5, 7, 11, 13, 17, 19] ++ [23, 29, 31, 37, 41, 43, 47, 53] ++ [59, 61, 67, 71, 73, 79, 83, 89] ++
  [97, 101, 103, 107, 109, 113, 127, 131] ++ [137, 139, 149, 151, 157, 163, 167, 173] ++
  [179, 181, 191, 193, 197, 199, 211, 223] ++ [227, 229, 233, 239, 241, 251, 257, 263] ++
  [269, 271, 277, 281, 283, 293, 307, 311]

/-- The exclusive or of a word's right turns. -/
def turns (l : List Nat) (w : Word) : Word := l.foldl (fun x n => x ^^^ w.rotateRight n) 0

/-- The message schedule, newest word first: each new word from those 16, 15, 7 and 2 places back. -/
def shaSchedule : Nat → List Word → List Word
  | 0, l => l
  | n + 1, l =>
    let back (i : Nat) : Word := l.getD (i - 1) 0
    let small (i : Nat) (r : List Nat) (k : Nat) : Word := turns r (back i) ^^^ back i >>> k
    shaSchedule n (([back 16, small 15 [7, 18] 3, back 7, small 2 [17, 19] 10].foldl (· + ·) 0) :: l)

/-- One round: the eight words move one place on, with a new first word and the fifth advanced; `kw` is the round constant and the
schedule's word. -/
def shaRound (st : List Word) (kw : Word × Word) : List Word :=
  let v (i : Nat) : Word := st.getD i 0
  let choice := v 6 ^^^ (v 4 &&& (v 5 ^^^ v 6))
  let most := (v 0 &&& v 1) ||| (v 2 &&& (v 0 ||| v 1))
  let t := [v 7, turns [6, 11, 25] (v 4), choice, kw.1, kw.2].foldl (· + ·) 0
  (t + turns [2, 13, 22] (v 0) + most) :: st.take 3 ++ (v 3 + t) :: (st.drop 4).take 3

/-- The 32-bit words of a block, in order. -/
def shaWords : Nat → List Nat → List Word
  | 0, _ => []
  | n + 1, l => BitVec.ofNat 32 (beNat (l.take 4)) :: shaWords n (l.drop 4)

/-- One block of 64 bytes. -/
def shaBlock (h : List Word) (b : List Nat) : List Word :=
  let ws := (shaSchedule 48 (shaWords 16 b).reverse).reverse
  List.zipWith (· + ·) h (((shaPrimes.map (rootWord 3)).zip ws).foldl shaRound h)

/-- The blocks, one after another. -/
def shaBlocks : Nat → List Word → List Nat → List Word
  | 0, h, _ => h
  | n + 1, h, m => shaBlocks n (shaBlock h (m.take 64)) (m.drop 64)

/-- SHA-256 of a list of bytes: 32 bytes, in the order in which SHA-256 produces them (R40). -/
def sha256 (m : List Nat) : List Nat :=
  let pad := (119 - m.length % 64) % 64
  let m' := m ++ 0x80 :: List.replicate pad 0 ++ beBytes 8 (8 * m.length)
  (shaBlocks (m'.length / 64) ((shaPrimes.take 8).map (rootWord 2)) m').flatMap fun w => beBytes 4 w.toNat

/-! ### P-256 -/

/-- The field, the coefficient b, the order and the base point of P-256; the coefficient a is −3. -/
def ecP : Nat := 0xFFFFFFFF00000001000000000000000000000000FFFFFFFFFFFFFFFFFFFFFFFF
def ecB : Nat := 0x5AC635D8AA3A93E7B3EBBD55769886BC651D06B0CC53B0F63BCE3C3E27D2604B
def ecN : Nat := 0xFFFFFFFF00000000FFFFFFFFFFFFFFFFBCE6FAADA7179E84F3B9CAC2FC632551
def ecG : Nat × Nat :=
  (0x6B17D1F2E12C4247F8BCE6E563A440F277037D812DEB33A0F4A13945D898C296,
   0x4FE342E2FE1A7F9B8EE7EB4A7C0F9E162BCE33576B315ECECBB6406837BF51F5)

/-- a ^ e modulo m, over the low `n` bits of e. -/
def powMod (m : Nat) : Nat → Nat → Nat → Nat
  | 0, _, _ => 1
  | n + 1, a, e => (if e % 2 == 1 then a else 1) * powMod m n (a * a % m) (e / 2) % m

/-- The inverse modulo a prime. -/
def invMod (m a : Nat) : Nat := powMod m 256 (a % m) (m - 2)

/-- a − b modulo the field's prime, for b below it. -/
def subP (a b : Nat) : Nat := (a + ecP - b) % ecP

/-- The point on the line of slope `l` through the point with coordinates `x1`, `y1` and one with coordinate `x2`. -/
def ecChord (l x1 y1 x2 : Nat) : Nat × Nat :=
  let x := subP (subP (l * l % ecP) x1) x2
  (x, subP (l * subP x1 x % ecP) y1)

/-- The sum of two points; none is the point at infinity. -/
def ecAdd (p q : Option (Nat × Nat)) : Option (Nat × Nat) :=
  match p, q with
  | none, q => q
  | p, none => p
  | some (x1, y1), some (x2, y2) =>
    if x1 = x2 then
      if (y1 + y2) % ecP = 0 then none
      else some (ecChord (subP (3 * (x1 * x1) % ecP) 3 * invMod ecP (2 * y1) % ecP) x1 y1 x2)
    else some (ecChord (subP y2 y1 * invMod ecP (subP x2 x1) % ecP) x1 y1 x2)

/-- k times a point, over the low `n` bits of k. -/
def ecMul : Nat → Nat → Option (Nat × Nat) → Option (Nat × Nat)
  | 0, _, _ => none
  | n + 1, k, p => ecAdd (if k % 2 == 1 then p else none) (ecMul n (k / 2) (ecAdd p p))

/-- The coordinates are those of a point of the curve. -/
def onCurve (x y : Nat) : Bool :=
  x < ecP && y < ecP && y * y % ecP == (subP (x * x % ecP * x % ecP) (3 * x % ecP) + ecB) % ecP

/-- ECDSA: (r, s) is a signature over a message with the given digest by the key (x, y). -/
def ecdsaOk (digest : List Nat) (r s x y : Nat) : Bool :=
  if 0 < r && r < ecN && 0 < s && s < ecN && onCurve x y then
    let w := invMod ecN s
    match ecAdd (ecMul 256 (beNat digest * w % ecN) (some ecG)) (ecMul 256 (r * w % ecN) (some (x, y))) with
    | none => false
    | some q => q.1 % ecN == r
  else false

end Sys2Proof.Machine
end

