-- ==== Sys2Proof/Machine/Verify.lean ====
section
/-! DEFINITION. Verification of an image (R39 to R55): its header, keys, sections, hashes, beads and freeze conditions, as
a function of its bytes and OTP. -/

namespace Sys2Proof.Machine

/-- Where an image is offered: at boot or in a slot, where a PARTIAL image fails (R58), or to the partial apply command. -/
inductive Offer where
  | boot | partialApply
deriving DecidableEq, Repr

/-- The 4 bytes at 0x004 to 0x007 and the other fields of the header (R41). -/
def hdrMagic (b : List Nat) : Nat := u32 b 0
def hdrVer (b : List Nat) : Nat := u16 b 4
def hdrFlags (b : List Nat) : Nat := u16 b 6
def hdrLen (b : List Nat) : Nat := u32 b 8
def hdrRollback (b : List Nat) : Nat := u8 b 0xC
def hdrKeySlot (b : List Nat) : Nat := u8 b 0xD
def hdrMask (b : List Nat) : Nat := u16 b 0xE
def hdrSerial (b : List Nat) : Nat := u32 b 0xF8
/-- The image is PARTIAL, and carries FREEZE_SUBJECT. -/
def hdrPartial (b : List Nat) : Bool := (hdrFlags b).testBit 0
def hdrSubject (b : List Nat) : Bool := (hdrFlags b).testBit 1

/-- Rod `n`'s entry of the rod table (R42): offset, length and hash prefix. -/
def tabOff (b : List Nat) (n : Nat) : Nat := u32 b (0x10 + 12 * n)
def tabLen (b : List Nat) (n : Nat) : Nat := u32 b (0x14 + 12 * n)
def tabHash (b : List Nat) (n : Nat) : List Nat := (b.drop (0x18 + 12 * n)).take 4

/-- Rod `n` has a section. -/
def hasSection (b : List Nat) (n : Nat) : Bool := (hdrMask b).testBit n

/-- Rod `n`'s section; empty where it is absent. -/
def sectionOf (b : List Nat) (n : Nat) : List Nat := if hasSection b n then (b.drop (tabOff b n)).take (tabLen b n) else []

/-- The service firmware section's fields. -/
def svcOff (b : List Nat) : Nat := u32 b 0xF0
def svcLen (b : List Nat) : Nat := u32 b 0xF4

/-- Step 1: the header by itself, and the first three conditions of R39. -/
def stepHeader (b : List Nat) (region : Nat) : Bool :=
  hdrMagic b == 0x4946424D && hdrVer b == 1 && hdrFlags b / 4 == 0 && u32 b 0xFC == 0 &&
    hdrLen b % 4 == 0 && 0x180 ≤ hdrLen b && hdrLen b ≤ 0x400000 && hdrLen b ≤ region

/-- The OTP hash of a key slot (R41, R49). -/
def Otp.key (o : Otp) (k : Nat) : Option (List Nat) :=
  match k with
  | 0 => o.vendorKey
  | 1 => o.intKey1
  | 2 => o.intKey2
  | _ => none

/-- Step 2: the key field has the hash that its slot holds. -/
def stepKey (o : Otp) (b : List Nat) : Bool := o.key (hdrKeySlot b) == some (sha256 ((b.drop 0x140).take 64))

/-- Step 3: the signature over the header (R45). -/
def stepSignature (b : List Nat) : Bool :=
  ecdsaOk (sha256 (b.take 0x100)) (leNat ((b.drop 0x100).take 32)) (leNat ((b.drop 0x120).take 32))
    (leNat ((b.drop 0x140).take 32)) (leNat ((b.drop 0x160).take 32))

/-- Step 4: the rollback value (R51). -/
def stepRollback (o : Otp) (b : List Nat) : Bool := hdrRollback b ≤ 32 && o.rollback ≤ hdrRollback b

/-- A rod table entry keeps R42 and lies in the body (R39). -/
def entryOk (b : List Nat) (n : Nat) : Bool :=
  if hasSection b n then
    tabOff b n % 4 == 0 && 0x180 ≤ tabOff b n && tabLen b n % 4 == 0 && 0 < tabLen b n && tabOff b n + tabLen b n ≤ hdrLen b
  else ((b.drop (0x10 + 12 * n)).take 12).all (· == 0)

/-- The ranges of every section, the service firmware's included. -/
def sectionRanges (b : List Nat) : List (Nat × Nat) :=
  ((List.range 16).filter (hasSection b)).map (fun n => (tabOff b n, tabLen b n)) ++
    if svcLen b = 0 then [] else [(svcOff b, svcLen b)]

/-- Two ranges overlap. -/
def overlap (p q : Nat × Nat) : Bool := p.1 < q.1 + q.2 && q.1 < p.1 + p.2

/-- No range overlaps another (R43). -/
def disjoint : List (Nat × Nat) → Bool
  | [] => true
  | p :: ps => ps.all (fun q => !overlap p q) && disjoint ps

/-- Step 5: the rod table, the service firmware fields, and where the image is offered (R42 to R44, R58, R64). -/
def stepTable (b : List Nat) (w : Offer) : Bool :=
  (List.range 16).all (entryOk b) && disjoint (sectionRanges b) &&
    if hdrPartial b then svcOff b == 0 && svcLen b == 0 && w == .partialApply && hdrMask b % 16 == 0
    else 0 < svcLen b && 0x180 ≤ svcOff b && svcOff b + svcLen b ≤ hdrLen b

/-- The body. -/
def imgBody (b : List Nat) : List Nat := (b.take (hdrLen b)).drop 0x180

/-- Step 6: the body's hash. -/
def stepBody (b : List Nat) : Bool := (b.drop 0xD0).take 32 == sha256 (imgBody b)

/-- Step 7: every section's hash prefix. -/
def stepPrefix (b : List Nat) : Bool :=
  (List.range 16).all fun n => !hasSection b n || tabHash b n == (sha256 (sectionOf b n)).take 4

/-- The beads of a section in order (R46), or none where they do not parse under R47; `last` is the previous number. -/
def parseBeads (rod : Nat) : Nat → Option Nat → List Nat → Option (List Bead)
  | _, _, [] => some []
  | 0, _, _ => none
  | fuel + 1, last, b =>
    let num := u16 b 0
    let len := u16 b 2
    let pad := (4 - len % 4) % 4
    if b.length < 4 + len + pad || num / 256 ≠ rod || (last.map fun l => decide (num ≤ l)).getD false ||
        ((b.drop (4 + len)).take pad).any (· != 0) then none
    else (parseBeads rod fuel (some num) (b.drop (4 + len + pad))).map fun l => { num := num, data := (b.drop 4).take len } :: l

/-- The beads of rod `n`'s section. -/
def sectionBeads (b : List Nat) (n : Nat) : Option (List Bead) :=
  let c := sectionOf b n
  parseBeads n (c.length / 4) none c

/-- Step 8: every section parses. -/
def stepParse (b : List Nat) : Bool := (List.range 16).all fun n => (sectionBeads b n).isSome

/-- The structural rods (R52). -/
def structuralRods : List Nat := [0, 4, 5, 6, 7, 8, 9, 10]

/-- The structural hash (R52). -/
def structuralHash (b : List Nat) : List Nat :=
  sha256 (structuralRods.flatMap fun n => leBytes 4 (sectionOf b n).length ++ sectionOf b n)

/-- Step 9: the freeze conditions (R54). -/
def stepFreeze (o : Otp) (b : List Nat) : Bool :=
  match o.frozen with
  | none => true
  | some h =>
    if hdrPartial b then structuralRods.all fun n => !hasSection b n else hdrSubject b && structuralHash b == h

/-- Step 10: the seal of a FULL image's service firmware (R50). -/
def stepSeal (o : Otp) (b : List Nat) : Bool :=
  hdrPartial b || Config.sealOk ((b.drop (svcOff b)).take (svcLen b)) o.vendorKey

/-- Steps 1 to 5 of R55, which look at nothing beyond the head: the first that fails, or 0. -/
def verifyHead (o : Otp) (region : Nat) (w : Offer) (b : List Nat) : Nat :=
  if !stepHeader b region then 1
  else if !stepKey o b then 2
  else if !stepSignature b then 3
  else if !stepRollback o b then 4
  else if !stepTable b w then 5
  else 0

/-- The verification of R55 over an image that stands in a region of `region` bytes: the first step that fails, or 0. -/
def verifyImage (o : Otp) (region : Nat) (w : Offer) (b : List Nat) : Nat :=
  if verifyHead o region w b != 0 then verifyHead o region w b
  else if !stepBody b then 6
  else if !stepPrefix b then 7
  else if !stepParse b then 8
  else if !stepFreeze o b then 9
  else if !stepSeal o b then 10
  else 0

end Sys2Proof.Machine
end

