-- ==== Sys2Proof/Machine/Flash.lean ====
section
/-! DEFINITION. FLASH: negotiation (R256 to R263), the journal (R264, R265), the slots (R266) and the FLASH commands (R267,
R268), with the start of the boot from an image (R57, R59). -/

namespace Sys2Proof.Machine

def State.setFl (s : State) (f : Flash → Flash) : State := { s with fl := f s.fl }

/-- A command of opcode `op` may start on its rod: it stands first in the rod's order and the rod is READY (R36, R88). -/
def State.mayStart (s : State) (c : Cmd) (op : Nat) (r : Rod) : Bool :=
  c.op == op && !c.started && s.awake && s.ready r && s.firstIn c.tag r

/-! ### Read modes -/

/-- The clock limit of a read mode in MHz (R257). -/
def modeMhz (m : Nat) : Nat := if m == 1 then 25 else if m == 7 then 100 else 133

/-- Steps 5 to 7 of R256: the fastest mode that the flash carries and the allowed set permits (R257, R258). -/
def State.flashSelect (s : State) : State :=
  let set := u8 (s.beadD 0x0280 [7]) 0
  let mhz := u8 (s.beadD 0x0281 [133]) 0
  let m := ([7, 6, 5, 4, 3, 2, 1].find? fun m => s.fl.modes.testBit m && set.testBit ((m - 1) / 2)).getD 1
  (s.wr FLASH.STAT_MODE m).wr FLASH.STAT_MHZ (min (modeMhz m) mhz)

/-- FLASH.STAT.BUSY follows the slot command in progress and LEDGER's erase; once reads need not wait, no channel is held up. -/
def State.flashBusy (s : State) : State :=
  let s := s.wrB FLASH.STAT_BUSY (s.fl.job.isSome || s.led.compact.isSome)
  if s.flashHeld then s else { s with chans := s.chans.map fun c => { c with stuck := false } }

/-! ### Layout and journal -/

/-- Bytes of a slot, and the first byte of slot 1 (A) or 2 (B) (R263). -/
def State.slotSize (s : State) : Nat := if s.flag FLASH.STAT_GEOM then 0x400000 else 0x200000
def State.slotBase (s : State) (k : Nat) : Nat := 0x20000 + (k - 1) * s.slotSize

/-- The state of a slot (R266). -/
def slotFld (k : Nat) : Fld := if k == 1 then FLASH.SLOTS_A_STATE else FLASH.SLOTS_B_STATE
def slotUnknown : Nat := 0
def slotErasing : Nat := 1
def slotErased : Nat := 2
def slotWriting : Nat := 3
def slotVerified : Nat := 4
def slotFailed : Nat := 5

/-- A valid journal record (R265): its SEQ and ACTIVE. -/
def journalRec? (geom : Nat) (b : List Nat) : Option (Nat × Nat) :=
  if u32 b 0 == 0x524A424D && u32 b 0x1C == crc32 (b.take 0x1C) && (u8 b 8 == 1 || u8 b 8 == 2) && u8 b 9 == geom then
    some (u32 b 4, u8 b 8)
  else none

/-- The last valid journal record: its place, of 4096 in J0 and J1, its SEQ and its ACTIVE. -/
def State.lastJournal (s : State) : Option (Nat × Nat × Nat) :=
  (List.range 4096).foldl (fun best i =>
    match journalRec? (s.rd FLASH.STAT_GEOM) (s.flashBytes (32 * i) 32) with
    | none => best
    | some r => if (best.map fun b => decide (b.2.1 < r.1)).getD true then some (i, r) else best) none

/-- A new journal record is written behind the last valid one, or at the start of the other sector once its own is full. -/
def State.writeJournal (s : State) (active len serial : Nat) : State :=
  let last := s.lastJournal
  let seq := ((last.map fun l => l.2.1).getD 0 + 1) % 2 ^ 32
  let body := leBytes 4 0x524A424D ++ leBytes 4 seq ++ [active, s.rd FLASH.STAT_GEOM, 0, 0] ++ leBytes 4 len ++ leBytes 4 serial ++
    List.replicate 8 0
  let rec_ := body ++ leBytes 4 (crc32 body)
  let from_ := (last.map fun l => l.1 + 1).getD 0
  let sector := ((last.map fun l => l.1).getD 0) / 2048
  let place := (List.range (2048 * (sector + 1) - from_)).find? fun i => (s.flashBytes (32 * (from_ + i)) 32).all (· == 0xFF)
  let s :=
    match place with
    | some i => s.flashProgram (32 * (from_ + i)) rec_
    | none => (s.flashErase (0x10000 * (1 - sector)) 0x10000).flashProgram (0x10000 * (1 - sector)) rec_
  (s.wr FLASH.SLOTS_ACTIVE active).wr FLASH.JOURNAL_SEQ seq

/-! ### Boot -/

/-- The MB7140 waits for an image from the host (R59). -/
def State.waitHost (s : State) : State := ((s.setImg fun i => { i with verify := .none }).wr CORE.IMG_STAT_STATE 2).rodVec .core

/-- A slot's image is read and verified. -/
def State.trySlot (s : State) (k : Nat) (rest : List Nat) (named : Bool) : State :=
  (s.setImg fun i => { i with verify := .slot k rest named }).wr CORE.IMG_STAT_STATE 1

/-- After the negotiation of a boot: the image comes from flash or from the host (R57, R260). -/
def State.bootImage (s : State) (flash : Bool) : State :=
  if s.rd CORE.IMG_STAT_STATE != 0 then s
  else if s.boot.bootSrc || !flash then s.waitHost
  else match s.rd FLASH.SLOTS_ACTIVE with
    | 1 => s.trySlot 1 [2] true
    | 2 => s.trySlot 2 [1] true
    | _ => s.trySlot 1 [2] false

/-- FLASH_NEGOTIATION: FLASH has reset the flash, read its tables and chosen a mode (R256), at a device reset or a rod reset.
A flash that answers nothing, as none does without VIO_FL (R543), or that is too small, is a fault (R260). -/
def execFlashNegotiation (c : FlashChip) (s : State) : Host.Outcome State Fault Refusal :=
  if s.awake && !s.boot.tested.testBit 2 then
    let s := { s with boot := { s.boot with tested := s.boot.tested ||| 4, resetting := s.boot.resetting - (s.boot.resetting &&& 4) } }
    let size := if c.sfdp then min 64 c.sizeMib.toNat else 8
    let s := (s.wr FLASH.JEDEC_ID_ID c.jedec.toNat).wrB FLASH.STAT_SFDP c.sfdp
    let s := s.setFl fun f => { f with size := 0, modes := 0, job := none, pages := [] }
    if c.blank || !s.bank 1 then .next ((s.raise 0x0201 0 c.jedec.toNat).bootImage false).settle
    else if size < 8 then .next ((s.raise 0x0202 0 size).bootImage false).settle
    else
      let s := s.clearFaults [0x0201, 0x0202, 0x02E3]
      let s := s.setFl fun f => { f with size := size, modes := if c.sfdp then c.modes.toNat ||| 2 else 2 }
      let s := ((s.wr FLASH.STAT_SIZE_MIB size).wrB FLASH.STAT_GEOM (16 ≤ size)).wrB FLASH.STAT_ADDR4 (16 < size)
      let s := ((s.wrB FLASH.STAT_SUSPEND (c.sfdp && c.suspend)).flashBusy).flashSelect
      let run := if s.fl.broken == s.rd FLASH.SLOTS_RUNNING then 0 else s.rd FLASH.SLOTS_RUNNING
      let s := (s.wr FLASH.SLOTS_A_STATE (if run == 1 then slotVerified else slotUnknown)).wr FLASH.SLOTS_B_STATE
        (if run == 2 then slotVerified else slotUnknown)
      let last := s.lastJournal
      let s := s.wr FLASH.SLOTS_ACTIVE ((last.map fun l => l.2.2).getD 0)
      let s := s.wr FLASH.JOURNAL_SEQ ((last.map fun l => l.2.1).getD 0)
      .next (s.bootImage true).settle
  else .next s

/-! ### Slot commands -/

/-- The command may start and FLASH runs no other (R212). -/
def State.flashFree (s : State) (c : Cmd) (op : Nat) : Bool := s.mayStart c op .flash && s.fl.job.isNone

/-- A slot command names the active slot (R268). -/
def State.slotActive (s : State) (k : Nat) : Bool := k == s.rd FLASH.SLOTS_ACTIVE

/-- SLOT_ERASE: the erase of the inactive slot begins. -/
def execSlotErase (tag : Fin 64) (s : State) : Host.Outcome State Fault Refusal :=
  match s.cmd? tag.val with
  | none => .next s
  | some c =>
    if s.flashFree c 0x20 then
      if s.slotActive c.p0 then .next (s.endOpen tag.val stBadParam).settle
      else
        let s := (s.start tag.val).setFl fun f =>
          { f with job := some { tag := tag.val, slot := c.p0, erase := true, did := 0 },
                   broken := if f.broken == c.p0 then 0 else f.broken }
        .next (((s.wr (slotFld c.p0) slotErasing).flashBusy).wr FLASH.PROGRESS_BYTES 0)
    else .next s

/-- The slot command in progress ends. -/
def State.slotEnd (s : State) (j : SlotJob) (status state : Nat) : State :=
  ((((s.setFl fun f => { f with job := none }).wr (slotFld j.slot) state).flashBusy).complete j.tag status j.did 0).settle

/-- A sector of the slot is erased, and the next follows, or the command ends (R268). -/
def State.slotSectorDone (s : State) : State :=
  match s.fl.job with
  | none => s
  | some j =>
    if j.erase then
      let a := s.slotBase j.slot + 0x10000 * j.did
      let s := s.flashErase a 0x10000
      let j := { j with did := j.did + 1 }
      let s := s.setFl fun f => { f with job := some j, pages := f.pages.filter fun p => p * 256 < a || a + 0x10000 ≤ p * 256 }
      if 0x10000 * j.did < s.slotSize then s else s.slotEnd j stOK slotErased
    else s

/-- ERASE_TIME_EXCEEDED: a sector of the slot has passed its maximum erase time (R268), while FLASH erases no sector for LEDGER. -/
def execEraseTimeExceeded (s : State) : Host.Outcome State Fault Refusal :=
  match s.fl.job with
  | none => .next s
  | some j => .next (if j.erase && s.led.compact.isNone then s.slotEnd j stTimeout slotFailed else s)

/-- The pages that `len` bytes at flash offset `a` touch. -/
def pagesOf (a len : Nat) : List Nat := (List.range ((len + 255) / 256)).map (· + a / 256)

/-- A SLOT_WRITE may be carried out (R268). -/
def State.slotWriteOk (s : State) (c : Cmd) : Bool :=
  let st := s.rd (slotFld c.p0)
  (st == slotErased || st == slotWriting) && c.p1 % 256 == 0 && c.p3 % 4 == 0 && 4 ≤ c.p3 && c.p3 ≤ 65536 &&
    c.p1 + c.p3 ≤ s.slotSize && (pagesOf (s.slotBase c.p0 + c.p1) c.p3).all fun p => !s.fl.pages.contains p

/-- SLOT_WRITE: the programming of its pages begins. -/
def execSlotWrite (tag : Fin 64) (s : State) : Host.Outcome State Fault Refusal :=
  match s.cmd? tag.val with
  | none => .next s
  | some c =>
    if s.flashFree c 0x21 then
      if s.slotActive c.p0 || !s.slotWriteOk c then .next (s.endOpen tag.val stBadParam).settle
      else
        let s := (s.start tag.val).setFl fun f => { f with job := some { tag := tag.val, slot := c.p0, erase := false, did := 0 } }
        .next (s.wr (slotFld c.p0) slotWriting).flashBusy
    else .next s

/-- The flash at `a` holds what a failed program left there. -/
def State.flashLeft (s : State) (a : Nat) : List Nat → State
  | [] => s
  | b :: bs => State.flashLeft { s with flash := Store.set 0xFF s.flash a (BitVec.ofNat 8 b) } (a + 1) bs

/-- PAGE_PROGRAM_DONE: a page is programmed and read back; where it reads otherwise, `left` is what the flash holds there. The
next page follows, or the command ends (R268). -/
def execPageProgramDone (left : Option (List (BitVec 8))) (s : State) : Host.Outcome State Fault Refusal :=
  match s.fl.job with
  | none => .next s
  | some j =>
    match s.cmd? j.tag with
    | none => .next s
    | some c =>
      if j.erase then .next s
      else
        let n := min 256 (c.p3 - j.did)
        let a := s.slotBase j.slot + c.p1 + j.did
        let bad := (s.badWord .sram (c.p2 + j.did) n).isSome
        let (s, bs) := s.readMem .sram (c.p2 + j.did) n
        if bad then .next (s.slotEnd j stEcc slotWriting)
        else
          let s := s.setFl fun f => { f with pages := a / 256 :: f.pages }
          match left with
          | some l =>
            let l := (l.map (·.toNat)).take n
            if l == bs then
              let j := { j with did := j.did + n }
              let s := ((s.flashLeft a l).bump FLASH.PROGRESS_BYTES n).setFl fun f => { f with job := some j }
              .next (if j.did < c.p3 then s else s.slotEnd j stOK slotWriting)
            else .next ((s.flashLeft a l).slotEnd j stTorn slotFailed)
          | none =>
            let j := { j with did := j.did + n }
            let s := ((s.flashProgram a bs).bump FLASH.PROGRESS_BYTES n).setFl fun f => { f with job := some j }
            .next (if j.did < c.p3 then s else s.slotEnd j stOK slotWriting)

/-- A slot's bytes, and the step of R55 at which its image fails, or 0. -/
def State.slotBytes (s : State) (k : Nat) : List Nat := s.flashBytes (s.slotBase k) s.slotSize
def State.slotStep (s : State) (k : Nat) : Nat := verifyImage s.otp s.slotSize .boot (s.slotBytes k)

/-- A verification has failed at a step (R55). -/
def State.failStep (s : State) (n : Nat) : State := s.wr CORE.IMG_STAT_FAIL_STEP n

/-- SLOT_VERIFY: the slot's image is verified against the present OTP (R268). -/
def execSlotVerify (tag : Fin 64) (s : State) : Host.Outcome State Fault Refusal :=
  match s.cmd? tag.val with
  | none => .next s
  | some c =>
    if s.flashFree c 0x22 && !s.flashHeld then
      let s := s.flashRead
      let n := s.slotStep c.p0
      let serial := hdrSerial (s.slotBytes c.p0)
      if n == 0 then .next ((s.wr (slotFld c.p0) slotVerified).complete tag.val stOK serial 0).settle
      else .next (((s.failStep n).wr (slotFld c.p0) slotFailed).complete tag.val stAuth serial n).settle
    else .next s

/-- SLOT_SWITCH: one journal record makes a VERIFIED slot active; for the slot already active nothing is written (R268), and
the SEQ it reports is left open. -/
def execSlotSwitch (tag : Fin 64) (s : State) : Host.Outcome State Fault Refusal :=
  match s.cmd? tag.val with
  | none => .next s
  | some c =>
    if s.flashFree c 0x23 && s.led.compact.isNone then
      if c.p1 != 0x5357 || s.rd (slotFld c.p0) != slotVerified then .next (s.endOpen tag.val stBadParam).settle
      else if s.slotActive c.p0 then
        let (w, s) := s.openWord
        .next (s.complete tag.val stOK w 0).settle
      else
        let b := s.flashBytes (s.slotBase c.p0) 0x180
        let s := s.writeJournal c.p0 (hdrLen b) (hdrSerial b)
        .next (s.complete tag.val stOK (s.rd FLASH.JOURNAL_SEQ) 0).settle
    else .next s

/-- READ_TO_SRAM: a range of flash is copied to SRAM (R267). A partial destination word with an uncorrectable error is not
written (R252). -/
def execReadToSram (tag : Fin 64) (s : State) : Host.Outcome State Fault Refusal :=
  match s.cmd? tag.val with
  | none => .next s
  | some c =>
    if s.flashFree c 0x24 && !s.flashHeld then
      let s := s.flashRead
      if s.rd FLASH.STAT_SIZE_MIB * 0x100000 < c.p0 + c.p2 then .next (s.endOpen tag.val stBadParam).settle
      else
        let bad := (Ram.sram.words c.p1 c.p2).filter fun w =>
          s.sramUe.contains w && !(c.p1 ≤ 16 * w && 16 * w + 16 ≤ c.p1 + c.p2)
        let lost := (bad.map fun w => min (16 * w + 16) (c.p1 + c.p2) - max (16 * w) c.p1).foldl (· + ·) 0
        let s := s.writeMem .sram c.p1 (s.flashBytes c.p0 c.p2)
        .next (s.complete tag.val (if bad.isEmpty then stOK else stEcc) (c.p2 - lost) 0).settle
    else .next s

end Sys2Proof.Machine
end

