-- ==== Sys2Proof/Machine/Vidin.lean ====
section
/-! DEFINITION. VIDIN: the negotiation of the sensor (R468 to R473), the light image pipeline (R474 to R476), frame rings and
records (R477 to R481), and the capture commands (R482 to R485). -/

namespace Sys2Proof.Machine

/-- The command may begin: its rod is READY and no earlier command of the rod waits (R36, R212). -/
def State.mayBegin (s : State) (c : Cmd) (op : Nat) (r : Rod) : Bool :=
  c.op == op && !c.started && s.awake && s.ready r &&
    ((s.cmds.find? fun x => x.rods.contains r && !x.started).map fun x => x.tag == c.tag).getD false

/-! ### Negotiation -/

/-- A sensor descriptor in force (R468). -/
def State.sensor? (s : State) (j : Nat) : Option (List Nat) := s.bead? (0x0B00 + j)

/-- The descriptor chosen. -/
def State.sensor (s : State) : List Nat := (s.sensor? (s.rd VIDIN.STAT_DESC)).getD []

def sensorW (d : List Nat) : Nat := u16 d 14
def sensorH (d : List Nat) : Nat := u16 d 16
def sensorFps (d : List Nat) : Nat := u8 d 13

/-- The boundary faults of R471 that are present. -/
def vidinCodes : List Nat := [0x0B01, 0x0B02, 0x0B03, 0x0B04]
def State.vidinFault (s : State) : Bool := vidinCodes.any s.hasFault

/-- A fault of R471 takes the place of any other. -/
def State.vidinRaise (s : State) (code param : Nat) : State :=
  let link := (code == 0x0B04) != s.hasFault 0x0B04
  let s := if s.faults.any fun f => f.code == code && f.param == param then s
    else (s.clearFaults vidinCodes).raise code param (s.reg VIDIN.SENSOR_ID.addr).toNat
  let s := s.wr VIDIN.STAT_STATE 0
  if link then s.evt VIDIN.EVT_LINK .vidin else s

/-- The mode of a descriptor with exactly `lanes` lanes and the highest rate at or below the board's (step 6 of R470). -/
def bestMode (d : List Nat) (lanes rate : Nat) : Option Nat :=
  let at_ := fun i => (u8 d (48 + 8 * i), u16 d (50 + 8 * i))
  (List.range (u8 d 20)).foldl (fun best i =>
    if (at_ i).1 == lanes && (at_ i).2 ≤ rate then
      match best with
      | some b => if (at_ b).2 < (at_ i).2 then some i else best
      | none => some i
    else best) none

/-- Steps 5 and 6 of R470: the lanes and the mode. -/
def State.chooseMode (s : State) (d : List Nat) : Option (Nat × Nat) :=
  let board := s.beadD 0x0B10 [2, 0, 0xE8, 3]
  let lanes := min (u8 d 3) (u8 board 0)
  match bestMode d lanes (u16 board 2) with
  | some m => some (lanes, m)
  | none => if lanes == 2 then (bestMode d 1 (u16 board 2)).map fun m => (1, m) else none

/-- The ID read at descriptor `j` matches it (step 3 of R470). -/
def State.idMatches (s : State) (n : Negotiation) (j : Nat) : Bool :=
  match s.sensor? j, (n.ids.getD j none) with
  | some d, some v => v.toNat &&& u16 d 8 == u16 d 6 &&& u16 d 8
  | _, _ => false

/-- R470, from its outcome at the sensor: VIDIN chooses, or raises a fault of R471. The answer says whether it succeeded. Without
VIO_CAM nothing answers (R544). -/
def State.negotiate (s : State) (n : Negotiation) : State × Bool :=
  let n := if s.bank 4 then n else { n with ids := [] }
  let present := (List.range 4).filter fun j => (s.sensor? j).isSome
  match present.find? (s.idMatches n) with
  | none =>
    if present.all fun j => (n.ids.getD j none).isNone then (s.vidinRaise 0x0B01 0, false)
    else
      match n.ids.getD 0 none with
      | some v => (s.vidinRaise 0x0B02 (v.toNat % 256), false)
      | none => let (v, s) := s.openWord; (s.vidinRaise 0x0B02 (v % 256), false)
  | some j =>
    let d := (s.sensor? j).getD []
    match s.chooseMode d with
    | none => (s.vidinRaise 0x0B03 j, false)
    | some (lanes, m) =>
      if !n.script then (s.vidinRaise 0x0B01 1, false)
      else if !n.frames then (s.vidinRaise 0x0B04 1, false)
      else
        let s := if s.hasFault 0x0B04 then s.evt VIDIN.EVT_LINK .vidin else s
        let s := ((s.clearFaults vidinCodes).wr VIDIN.STAT_DESC j).wr VIDIN.STAT_MODE m
        let s := (s.wrB VIDIN.STAT_LANES2 (lanes == 2)).wr VIDIN.STAT_RATE (u16 d (50 + 8 * m))
        let s := (s.wr VIDIN.SENSOR_ID ((n.ids.getD j none).map (·.toNat) |>.getD 0)).wr VIDIN.SENSOR_ADDR (u8 d 0)
        (s.wr VIDIN.STAT_STATE (if s.flag VIDIN.STAT_SESSION then 3 else 2), true)

/-- The self-test of VIDIN has passed. -/
def State.vidinTested (s : State) : State := { s with boot := { s.boot with tested := s.boot.tested ||| 2 ^ 11 } }

/-- A RENEGOTIATE that runs completes (R485). -/
def State.renegotiated (s : State) (ok : Bool) : State :=
  match s.vid.renegTag with
  | none => s
  | some t =>
    let s := s.setVid fun v => { v with renegTag := none }
    if ok then
      s.complete t stOK (s.rd VIDIN.STAT_DESC + 256 * s.rd VIDIN.STAT_MODE + 65536 * (1 + s.rd VIDIN.STAT_LANES2))
        (s.rd VIDIN.STAT_RATE)
    else
      let f := (s.faults.find? fun f => vidinCodes.contains f.code).getD { code := 0x0BE3, param := 0 }
      s.complete t stNotReady f.code f.param

/-- NEGOTIATION_RETRY: while a fault of R471 is set, the negotiation runs again every 2 s (R472), with PLL-V running (step 1 of
R470). -/
def execNegotiationRetry (n : Negotiation) (s : State) : Host.Outcome State Fault Refusal :=
  if s.awake && s.pllvOn && s.vidinFault && s.imageApplied && s.vid.renegTag.isNone then
    let r := s.negotiate n
    .next (if r.2 then r.1.vidinTested else r.1).settle
  else .next s

/-- CAM_SLEEP: IDLE_MS without a session has passed (R473). -/
def execCamSleep (s : State) : Host.Outcome State Fault Refusal :=
  if s.awake && s.rd VIDIN.STAT_STATE == 2 && !s.flag VIDIN.STAT_SESSION then .next (s.wr VIDIN.STAT_STATE 4) else .next s

/-- RENEGOTIATE: READY is cleared and the negotiation starts; its end is the end of VIDIN's self-test (R485). -/
def execRenegotiate (tag : Fin 64) (s : State) : Host.Outcome State Fault Refusal :=
  match s.cmd? tag.val with
  | none => .next s
  | some c =>
    if s.mayBegin c 0xB2 .vidin && s.vid.renegTag.isNone then
      if s.flag VIDIN.STAT_SESSION then .next (s.endOpen tag.val stBusy).settle
      else
        let s := (s.start tag.val).setVid fun v => { v with renegTag := some tag.val }
        let s := { s with boot := { s.boot with tested := s.boot.tested - (s.boot.tested &&& 2 ^ 11) } }
        .next (s.wr VIDIN.STAT_STATE 1).settle
    else .next s

/-! ### The pipeline (R474, R475) -/

/-- A list cut into rows of `w`. -/
def rowsOf {α : Type} (w h : Nat) (l : List α) : List (List α) := (List.range h).map fun y => (l.drop (y * w)).take w

/-- The colour of a Bayer sample by ORDER and position: 0 R, 1 Gr, 2 Gb, 3 B (R468). -/
def bayer (order x y : Nat) : Nat :=
  let l := match order with
    | 0 => [0, 1, 2, 3]
    | 1 => [1, 0, 3, 2]
    | 2 => [2, 3, 0, 1]
    | _ => [3, 2, 1, 0]
  l.getD (y % 2 * 2 + x % 2) 0

/-- Black level and white balance of one sample. -/
def State.balance (s : State) (v gain : Nat) : Nat :=
  min 1023 ((v - s.rd VIDIN.BLACK_LEVEL) * (s.rd VIDIN.WB_GAINS / 256 ^ gain % 256) / 64)

/-- The default of GAMMA: point k is round(1023 × (k/32)^(1/2.2)) (R493). -/
def gammaDefault : List Nat :=
  [0, 212, 290, 349, 398, 440, 478, 513, 545, 575, 603, 630, 655, 679, 703, 725, 747, 767, 788, 807, 826, 845, 863, 880, 898, 914, 931, 947, 963, 978, 993, 1008, 1023]

/-- The gamma curve, linear between its points. -/
def State.gamma (s : State) (v : Nat) : Nat :=
  let p := fun k => match s.bead? 0x0B82 with
    | some d => u16 d (2 * k)
    | none => gammaDefault.getD k 0
  let k := min 31 (v / 32)
  p k + (p (k + 1) - p k) * (v - 32 * k) / 32

/-- Y′, Cb and Cr of each pixel of the sensor's frame. -/
def State.ycc (s : State) (samples : List Nat) : List (Nat × Nat × Nat) :=
  let d := s.sensor
  let w := sensorW d
  if u8 d 10 == 2 then
    (List.range (w * sensorH d)).map fun i =>
      let at_ := fun k => samples.getD (4 * (i / 2) + k) 0 % 256
      if u8 d 11 == 0 then (at_ (1 + 2 * (i % 2)), at_ 0, at_ 2) else (at_ (2 * (i % 2)), at_ 1, at_ 3)
  else
    let raw := samples.zipIdx.map fun p =>
      let v := if u8 d 10 == 0 then p.1 % 256 * 4 else p.1 % 1024
      s.balance v (bayer (u8 d 11) (p.2 % w) (p.2 / w))
    (Config.demosaic (u8 d 11) w raw).map fun c =>
      let y := Config.colour (s.gamma (c.1 % 1024), s.gamma (c.2.1 % 1024), s.gamma (c.2.2 % 1024))
      (y.1 % 256, y.2.1 % 256, y.2.2 % 256)

/-- The crop window of the session. -/
def State.cropRows {α : Type} (s : State) (l : List α) : List (List α) :=
  let d := s.sensor
  (((rowsOf (sensorW d) (sensorH d) l).drop s.vid.cropY).take s.vid.cropH).map fun r => (r.drop s.vid.cropX).take s.vid.cropW

/-- A plane of a tap, scaled from the cropped rows. -/
def scalePlane (rows : List (List Nat)) (w h : Nat) : List Nat :=
  (List.range (w * h)).map fun i => Config.scaled rows w h (i / w) (i % w) % 256

/-- Tap E: NV12 (R475). -/
def tapE (rows : List (List (Nat × Nat × Nat))) (w h : Nat) : List Nat :=
  let part := fun (f : Nat × Nat × Nat → Nat) => rows.map fun r => r.map f
  let cb := scalePlane (part (·.2.1)) (w / 2) (h / 2)
  let cr := scalePlane (part (·.2.2)) (w / 2) (h / 2)
  scalePlane (part (·.1)) w h ++ ((cb.zip cr).flatMap fun p => [p.1, p.2])

/-- Tap S: luma (R475). -/
def tapS (rows : List (List (Nat × Nat × Nat))) (w h : Nat) : List Nat := scalePlane (rows.map fun r => r.map (·.1)) w h

/-- The mean Y′ inside the crop window (R476). -/
def meanOf (rows : List (List (Nat × Nat × Nat))) : Nat :=
  let l := rows.flatten
  if l.isEmpty then 0 else (l.map (·.1)).sum / l.length

/-- In the vertical blanking: automatic exposure, or a host write of EXPOSURE, reaches the sensor (R476). -/
def State.blanking (s : State) (mean : Nat) : State :=
  if s.flag VIDIN.AE_EN then
    let d := s.sensor
    let ratio : Rat := if mean = 0 then 2 else max (1 / 2) (min 2 ((s.rd VIDIN.AE_TARGET : Rat) / mean))
    let product : Rat := ((s.rd VIDIN.EXPOSURE_EXP * s.rd VIDIN.EXPOSURE_GAIN : Nat) : Rat) * ratio
    let e := clampNat (u16 d 28) (u16 d 30) (product / (max 1 (u16 d 32) : Nat)).floor.toNat
    let g := clampNat (u16 d 32) (u16 d 34) (product / (max 1 e : Nat)).floor.toNat
    ((s.wr VIDIN.EXPOSURE_EXP e).wr VIDIN.EXPOSURE_GAIN g).setVid fun v =>
      { v with sensExp := e, sensGain := g, expDue := false }
  else if s.vid.expDue then
    s.setVid fun v => { v with sensExp := s.rd VIDIN.EXPOSURE_EXP, sensGain := s.rd VIDIN.EXPOSURE_GAIN, expDue := false }
  else s

/-- A write of VIDIN.EXPOSURE (R476). -/
def State.writeExposure (s : State) (w : Word) : State :=
  let s := (s.wr VIDIN.EXPOSURE_EXP (field w 0 16)).wr VIDIN.EXPOSURE_GAIN (field w 16 16)
  if s.flag VIDIN.AE_EN then s else s.setVid fun v => { v with expDue := true }

/-- EXPOSURE_WRITE: a host write of VIDIN.EXPOSURE with AE off. -/
def execExposureWrite (w : BitVec 32) (s : State) : Host.Outcome State Fault Refusal :=
  if !s.flag VIDIN.AE_EN then .next (s.hostReg .vidin fun s => s.writeExposure w) else .next s

/-! ### Sessions -/

/-- Slot sizes of the session's taps (R477). -/
def Vid.sizeE (v : Vid) : Nat := nv12 v.eW v.eH
def Vid.sizeS (v : Vid) : Nat := v.sW * v.sH

/-- A session opens (R483, R490): its FIFO and host holds are emptied, and the sensor streams. -/
def State.sessionOpen (s : State) (kind : Nat) (v : Vid) : State :=
  let s := s.setVid fun o => { v with lastE := none, lastS := none, sensExp := o.sensExp, sensGain := o.sensGain, expDue := o.expDue }
  let s := ((s.wr VIDIN.STAT_SESSION kind).wr VIDIN.STAT_STATE 3).setReg VIDIN.HOST_HOLD_E.addr 0
  (s.wr VIDIN.RING_E_SLOTS (ringSlots (s.rd VIDIN.RING_E_COUNT) v.sizeE)).wr VIDIN.RING_S_SLOTS
    (ringSlots (s.rd VIDIN.RING_S_COUNT) v.sizeS)

/-- The session closes: STREAM_OFF is written (R473). -/
def State.sessionClose (s : State) : State :=
  let s := ((s.wr VIDIN.STAT_SESSION 0).wr VIDIN.RING_E_SLOTS 0).wr VIDIN.RING_S_SLOTS 0
  let s := if s.rd VIDIN.STAT_STATE == 3 then s.wr VIDIN.STAT_STATE 2 else s
  s.setVid fun v => { v with inFrame := false, piped := false, fillE := none, fillS := none, openTag := none, stopTag := none }

/-- The session as CAPTURE_START's parameters describe it (R482). -/
def State.captureOf (s : State) (c : Cmd) : Vid :=
  let d := s.sensor
  let whole := c.p3 == 0
  { eW := c.p0 % 65536, eH := c.p0 / 65536, sW := c.p1 % 65536, sH := c.p1 / 65536, cropX := c.p2 % 65536, cropY := c.p2 / 65536,
    cropW := if whole then sensorW d else c.p3 % 65536, cropH := if whole then sensorH d else c.p3 / 65536,
    frameEv := c.p4.testBit 0, hostHold := c.p4.testBit 1, skip := c.p4 / 256 % 16 }

/-- A tap's size lies within R475 for tap E. -/
def tapESize (w h : Nat) : Bool := w % 16 == 0 && h % 16 == 0 && 16 ≤ w && w ≤ 1280 && 16 ≤ h && h ≤ 720
def tapSSizeOk (w h : Nat) : Bool := w % 16 == 0 && h % 2 == 0 && 16 ≤ w && w ≤ 1024 && 2 ≤ h && h ≤ 768

/-- Scaling by at most 8:1, and never up (R474). -/
def scaleOk (cw ch w h : Nat) : Bool := w ≤ cw && cw ≤ 8 * w && h ≤ ch && ch ≤ 8 * h

/-- The fetch checks of CAPTURE_START that fail, as status codes (R482). -/
def State.captureChecks (s : State) (c : Cmd) : List Nat :=
  let d := s.sensor
  let v := s.captureOf c
  let onE := c.p0 != 0
  let onS := c.p1 != 0
  let bad := (!onE && !onS) || (onE && !tapESize v.eW v.eH) || (onS && !tapSSizeOk v.sW v.sH) ||
    v.cropX % 2 == 1 || v.cropY % 2 == 1 || v.cropW % 2 == 1 || v.cropH % 2 == 1 || v.cropW == 0 || v.cropH == 0 ||
    sensorW d < v.cropX + v.cropW || sensorH d < v.cropY + v.cropH ||
    (onE && !scaleOk v.cropW v.cropH v.eW v.eH) || (onS && !scaleOk v.cropW v.cropH v.sW v.sH) ||
    (onE && s.rd VIDIN.RING_E_COUNT != 0 && ringSlots (s.rd VIDIN.RING_E_COUNT) v.sizeE < 2) ||
    (onS && s.rd VIDIN.RING_S_COUNT != 0 && ringSlots (s.rd VIDIN.RING_S_COUNT) v.sizeS < 2)
  let none_ := (onE && s.rd VIDIN.RING_E_COUNT == 0) || (onS && s.rd VIDIN.RING_S_COUNT == 0)
  (if bad then [stBadParam] else []) ++ if none_ then [stUnsupported] else []

/-- CAPTURE_START: a session opens (R483). -/
def execCaptureStart (tag : Fin 64) (s : State) : Host.Outcome State Fault Refusal :=
  match s.cmd? tag.val with
  | none => .next s
  | some c =>
    if s.mayBegin c 0xB0 .vidin && s.pllvOn then
      if s.flag VIDIN.STAT_SESSION || s.enc.cur.isSome || s.enc.wait.isSome then .next (s.endOpen tag.val stBusy).settle
      else .next ((s.start tag.val).sessionOpen 1 { s.captureOf c with openTag := some tag.val }).settle
    else .next s

/-- CAPTURE_STOP: the session is to end at the next frame end (R484). -/
def execCaptureStop (tag : Fin 64) (s : State) : Host.Outcome State Fault Refusal :=
  match s.cmd? tag.val with
  | none => .next s
  | some c =>
    if s.mayBegin c 0xB1 .vidin && s.vid.stopTag.isNone then
      if s.rd VIDIN.STAT_SESSION != 1 then .next (s.endOpen tag.val stBadParam).settle
      else .next ((s.start tag.val).setVid fun v => { v with stopTag := some tag.val }).settle
    else .next s

/-- The session ends for its CAPTURE_STOP; a SCAN that runs keeps tap S as its implicit session (R484). -/
def State.captureStopped (s : State) : State :=
  match s.vid.stopTag with
  | none => s
  | some t =>
    let r := s.vid.recorded
    let dr := s.vid.drops
    let open_ := s.vid.openTag
    let s := if s.scan.tag.isSome && s.vid.sW != 0 then
        ((s.wr VIDIN.STAT_SESSION 2).wr VIDIN.RING_E_SLOTS 0).setVid fun v =>
          { v with eW := 0, eH := 0, frameEv := false, hostHold := false, skip := 0, openTag := none, stopTag := none,
                   inFrame := false, piped := false, fillE := none, fillS := none }
      else s.sessionClose
    let s := match open_ with
      | some o => s.endOpen o stAborted
      | none => s
    s.complete t stOK r dr

/-! ### Frames -/

/-- The first slot, in ring order after the one written last, that is not held (R478). -/
def pickSlot (n : Nat) (last : Option Nat) (held : Nat → Bool) : Option Nat :=
  let from_ := match last with
    | some i => i + 1
    | none => 0
  ((List.range n).map fun i => (from_ + i) % n).find? fun i => !held i

/-- A tap drops its output of the frame (R478). -/
def State.tapDrop (s : State) (f : Fld) : State :=
  ((s.bump f).evt VIDIN.EVT_DROP .vidin).setVid fun v => { v with dropped := true }

/-- FRAME_START: the frame enters the pipeline unless SKIP passes it over, and each enabled tap takes a slot (R478, R482). -/
def execFrameStart (s : State) : Host.Outcome State Fault Refusal :=
  if s.awake && s.ready .vidin && s.rd VIDIN.STAT_STATE == 3 && s.flag VIDIN.STAT_SESSION && !s.vid.inFrame && s.pllvOn then
    let v := s.vid
    let piped := v.starts % (v.skip + 1) == 0
    let s := s.setVid fun v => { v with inFrame := true, piped := piped, starts := v.starts + 1 }
    if !piped then .next s
    else
      let e := if v.eW == 0 then none else pickSlot (s.rd VIDIN.RING_E_SLOTS) v.lastE s.heldE
      let t := if v.sW == 0 then none else pickSlot (s.rd VIDIN.RING_S_SLOTS) v.lastS s.heldS
      let s := s.setVid fun v => { v with seq := v.seq + 1, fillE := e, fillS := t, time := s.rd VIDIN.TIME_US, start := s.clock,
                                          exp := v.sensExp, gain := v.sensGain, dropped := false }
      let s := if v.eW != 0 && e.isNone then s.tapDrop VIDIN.DROP_E else s
      let s := if v.sW != 0 && t.isNone then s.tapDrop VIDIN.DROP_S else s
      .next (if t.isSome && s.scan.cand.map (·.1) == t then s.setScan fun x => { x with cand := none } else s)
  else .next s

/-- A record is pushed; a full FIFO loses its oldest record and that record's host holds (R479, R480). -/
def State.pushRecord (s : State) (r : FrameRec) : State :=
  let s := match s.vid.fifo with
    | o :: rest =>
      if 8 ≤ s.vid.fifo.length then
        let s := s.setVid fun v => { v with fifo := rest }
        let s := if o.held && o.e < 16 then s.wrBit VIDIN.HOST_HOLD_E o.e false else s
        let s := if o.held && o.s < 16 then s.wrBit VIDIN.HOST_HOLD_S o.s false else s
        s.evt VIDIN.EVT_FIFO_OVF .vidin
      else s
    | [] => s
  let s := s.setVid fun v => { v with fifo := v.fifo ++ [r], recorded := v.recorded + 1 }
  let s := if r.held && r.e < 16 then s.wrBit VIDIN.HOST_HOLD_E r.e true else s
  let s := if r.held && r.s < 16 then s.wrBit VIDIN.HOST_HOLD_S r.s true else s
  if s.vid.frameEv then s.evt VIDIN.EVT_FRAME .vidin else s

/-- ENC considers a tap E frame: one in DECIM, or in 2 × DECIM under SHED_CODEC; the newer frame replaces one that waits
(R498, R499). -/
def State.encOffer (s : State) (f : EncFrame) : State :=
  let e := s.enc
  if !s.flag ENC.STAT_STATE || e.closeTag.isSome || s.rd VIDIN.STAT_SESSION != 1 || s.vid.eW != e.w || s.vid.eH != e.h then s
  else
    let n := max 1 e.decim
    let s := s.setEnc fun e => { e with seen := e.seen + 1 }
    let skip : State := (s.bump ENC.COUNT_SKIPPED).setEnc fun e => { e with skipped := e.skipped + 1 }
    if e.seen % n != 0 then s
    else if s.shed && e.seen % (2 * n) != 0 then skip
    else
      let s := if e.wait.isSome then skip else s
      let s := if s.rd ENC.STAT_STATE == 2 then
          ((s.wr ENC.STAT_STATE 1).evt ENC.EVT_RESUMED .enc).setEnc fun e => { e with newSweep := true, resume := true }
        else s
      s.setEnc fun e => { e with wait := some f }

/-- A tap S frame may be read whole: none of its words is uncorrectable (R489). -/
def State.scanReadable (s : State) (slot : Nat) : Bool :=
  (s.badWord .sram (slotAddr (s.rd VIDIN.RING_S_FIRST) s.vid.sizeS slot) s.vid.sizeS).isNone

/-- SCAN is ready for a frame and takes the newest it has not examined (R489). -/
def State.scanTake (s : State) : State :=
  match s.scan.tag, s.scan.cur, s.scan.cand with
  | some _, none, some (slot, seq) =>
    let s := s.setScan fun x => { x with cand := none }
    if s.scanReadable slot then (s.setScan fun x => { x with cur := some (slot, seq) }).wr SCAN.STAT_STATE 2
    else
      let a := slotAddr (s.rd VIDIN.RING_S_FIRST) s.vid.sizeS slot
      ((s.readMem .sram a s.vid.sizeS).1.bump SCAN.FAIL_ECC).wr SCAN.STAT_STATE 1
  | _, _, _ => s

/-- The frame in the pipeline ends whole: its outputs are stored, its record pushed, and its consumers see it (R474 to R481). -/
def State.frameWhole (s : State) (samples : List Nat) : State :=
  let v := s.vid
  let rows := s.cropRows (s.ycc samples)
  let mean := meanOf rows
  let s := match v.fillE with
    | some i => s.writeMem .sram (slotAddr (s.rd VIDIN.RING_E_FIRST) v.sizeE i) (tapE rows v.eW v.eH)
    | none => s
  let s := match v.fillS with
    | some i => s.writeMem .sram (slotAddr (s.rd VIDIN.RING_S_FIRST) v.sizeS i) (tapS rows v.sW v.sH)
    | none => s
  let s := s.setVid fun v => { v with lastE := v.fillE <|> v.lastE, lastS := v.fillS <|> v.lastS, fillE := none, fillS := none,
                                      drops := v.drops + bit v.dropped }
  let s := s.wr VIDIN.AE_MEAN mean
  let held := v.hostHold && (v.fillE.isSome || v.fillS.isSome)
  let s := s.pushRecord { seq := v.seq, time := v.time, e := v.fillE.getD 31, s := v.fillS.getD 31, held := held, mean := mean,
                          exp := v.exp, gain := v.gain }
  let s := s.blanking mean
  let s := match v.openTag with
    | some t => (s.setVid fun v => { v with openTag := none }).complete t stOK
        (s.rd VIDIN.RING_E_SLOTS + 256 * s.rd VIDIN.RING_S_SLOTS) v.seq
    | none => s
  let s := match v.fillE with
    | some i => s.encOffer { slot := i, seq := v.seq, time := v.time, start := v.start }
    | none => s
  match v.fillS with
  | some i => (if s.scan.tag.isSome then s.setScan fun x => { x with cand := some (i, v.seq) } else s).scanTake
  | none => s

/-- A frame is discarded from both taps, and counted (R466). -/
def State.frameBad (s : State) (f : Fld) : State :=
  (s.bump f).setVid fun v => { v with fillE := none, fillS := none, drops := v.drops + 1 }

/-- FRAME_END: the frame from the sensor ends, with the headers corrected in it (R465, R466, R479). -/
def execFrameEnd (corrected : BitVec 8) (r : FrameEnd) (s : State) : Host.Outcome State Fault Refusal :=
  if s.awake && s.vid.inFrame then
    let piped := s.vid.piped
    let d := s.sensor
    let need := sensorW d * sensorH d * (if u8 d 10 == 2 then 2 else 1)
    let s := (s.bump VIDIN.CSI_ERR_ECC_CORR corrected.toNat).setVid fun v => { v with inFrame := false, piped := false }
    let s := if !piped then s else match r with
      | .whole l => if l.length == need then s.frameWhole (l.map (·.toNat)) else s.frameBad VIDIN.CSI_ERR_SIZE
      | .headerBad => s.frameBad VIDIN.CSI_ERR_HDR_BAD
      | .crcBad => s.frameBad VIDIN.CSI_ERR_CRC
      | .sizeBad => s.frameBad VIDIN.CSI_ERR_SIZE
    .next s.captureStopped.settle
  else .next s

/-- CSI_LINK: no frame start for 4 frame periods while streaming (R471); before a session's first record, CAPTURE_START ends
TIMEOUT and the session closes (R483). -/
def execCsiLink (s : State) : Host.Outcome State Fault Refusal :=
  if s.awake && s.rd VIDIN.STAT_STATE == 3 && s.ready .vidin then
    match s.vid.openTag with
    | some t => .next ((s.sessionClose.vidinRaise 0x0B04 1).endOpen t stTimeout).settle
    | none =>
      let s := s.setVid fun v => { v with inFrame := false, piped := false, fillE := none, fillS := none }
      .next (s.vidinRaise 0x0B04 2).settle
  else .next s

/-- A write of VIDIN.HOST_HOLD releases holds (R480). -/
def State.writeHostHold (s : State) (w : Word) : State :=
  let h := s.reg VIDIN.HOST_HOLD_E.addr
  s.setReg VIDIN.HOST_HOLD_E.addr (h &&& ~~~w)

/-- HOST_HOLD_RELEASE. -/
def execHostHoldRelease (w : BitVec 32) (s : State) : Host.Outcome State Fault Refusal :=
  .next (s.hostReg .vidin fun s => (s.writeHostHold w).settle)

/-- Word `k` of the head frame record; 0 where the FIFO is empty (R186, R479). -/
def State.frameWord (s : State) (k : Nat) : Nat :=
  match s.vid.fifo with
  | [] => 0
  | r :: _ => match k with
    | 0 => r.seq % 2 ^ 32
    | 1 => r.time
    | 2 => r.e + 256 * r.s + 65536 * bit r.held + 2 ^ 24 * r.mean
    | _ => r.exp + 65536 * r.gain

/-- A full read of the word at +12 pops the head record (R186). -/
def State.popRecord (s : State) : State := s.setVid fun v => { v with fifo := v.fifo.drop 1 }

/-- FRAME_RECORD_POP. -/
def execFrameRecordPop (s : State) : Host.Outcome State Fault Refusal :=
  .next (s.hostRead .vidin fun s => s.popRecord)

/-- The first condition that keeps VIDIN from READY, as VIDIN.STAT.WAIT_REASON. -/
def State.vidinWait (s : State) : Nat :=
  if s.ready .vidin then 0
  else if !s.flag CORE.CLK_STAT_HFXO_OK || s.hasFault 0x0003 then 1
  else if s.hasFault 0x0B01 || s.hasFault 0x0B02 || s.hasFault 0x0B03 then 2
  else if s.hasFault 0x0B04 then 3
  else if !(s.faultsOf .vidin).isEmpty then 4
  else 5

end Sys2Proof.Machine
end

