-- ==== Sys2Proof/Machine/Enc.lean ====
section
/-! DEFINITION. ENC (R494 to R512): its commands, and the end of a slice and of a frame. -/

namespace Sys2Proof.Machine

/-- The levels of the standard's Table A-1 up to 3.1: level_idc, macroblocks per second, macroblocks per frame, kbit/s
(PRESUMED, log entry 48). -/
def levels : List (Nat × Nat × Nat × Nat) :=
  [(10, 1485, 99, 64), (11, 3000, 396, 192), (12, 6000, 396, 384), (13, 11880, 396, 768), (20, 11880, 396, 2000),
   (21, 19800, 792, 4000), (22, 20250, 1620, 4000), (30, 40500, 1620, 10000), (31, 108000, 3600, 14000)]

/-- The lowest level that holds a stream (R494): its width and height, frame rate over DECIM, and kbit/s. -/
def levelOf (w h fps decim kbps : Nat) : Nat :=
  let mbs := w * h / 256
  match levels.find? fun l =>
    mbs * fps ≤ l.2.1 * decim && mbs ≤ l.2.2.1 && w / 16 * (w / 16) ≤ 8 * l.2.2.1 && h / 16 * (h / 16) ≤ 8 * l.2.2.1 &&
      kbps ≤ l.2.2.2 with
  | some l => l.1
  | none => 31

/-- The store size and the stores a stream needs (R496). -/
def State.storeSize (s : State) (w h : Nat) : Nat := if s.flag ENC.CFG_STORE_MODE then nv12 w (h + 64) else nv12 w h
def State.storesNeeded (s : State) : Nat := if s.flag ENC.CFG_STORE_MODE then 1 else 2

/-- The stream of STREAM_OPEN can be opened (R497). -/
def State.encOpenOk (s : State) (w h decim : Nat) : Bool :=
  s.rd VIDIN.STAT_SESSION == 1 && s.vid.eW == w && s.vid.eH == h &&
    s.storesNeeded ≤ ringSlots (s.ownRun .enc).2 (s.storeSize w h) && w * h / 256 * sensorFps s.sensor ≤ 108000 * decim

/-- ENC_STREAM_OPEN (R497). -/
def execEncStreamOpen (tag : Fin 64) (s : State) : Host.Outcome State Fault Refusal :=
  match s.cmd? tag.val with
  | none => .next s
  | some c =>
    if s.mayBegin c 0xC0 .enc && s.pllvOn then
      let w := c.p0 % 65536
      let h := c.p0 / 65536
      let decim := c.p2 / 256 % 256
      if !s.encOpenOk w h decim then .next (s.endOpen tag.val stBadParam).settle
      else if s.flag ENC.STAT_STATE then .next (s.endOpen tag.val stBusy).settle
      else
        let vbr := c.p1.testBit 16
        let rate := c.p1 % 65536
        let top := c.p3 / 65536
        let level := levelOf w h (sensorFps s.sensor) decim (if vbr then top else rate)
        let s := s.setEnc fun e =>
          { w := w, h := h, vbr := vbr, sweep := max 1 (c.p2 % 256), decim := decim, level := level, sliceMax := c.p3 % 65536, newSweep := true,
            idrDue := true, lent := e.lent }
        let s := ((s.wr ENC.RATE_KBPS rate).wr ENC.RATE_MAX_KBPS top).wr ENC.STAT_STATE 1
        let s := ((s.wr ENC.STAT_SWEEP_POS 0).encRate).showBucket
        .next (s.complete tag.val stOK (level + 256 * s.storesNeeded) 0).settle
    else .next s

/-- ENC_STREAM_CLOSE: the waiting frame is released, and the frame in work is finished while buffers are lent (R511). -/
def execEncStreamClose (tag : Fin 64) (s : State) : Host.Outcome State Fault Refusal :=
  match s.cmd? tag.val with
  | none => .next s
  | some c =>
    if s.mayBegin c 0xC1 .enc && s.enc.closeTag.isNone then
      if !s.flag ENC.STAT_STATE then .next (s.endOpen tag.val stBadParam).settle
      else .next ((s.start tag.val).setEnc fun e => { e with closeTag := some tag.val, wait := none }).settle
    else .next s

/-- ENC closes its stream; every lent buffer is ABORTED (R512). -/
def State.stopEnc (s : State) : State :=
  let close := s.enc.closeTag
  let s := s.encClosed stAborted
  match close with
  | some t => s.endOpen t stAborted
  | none => s

/-- SLICE_BUF: the buffer is lent (R506, R508), unless ENC may not write it (R27). -/
def execSliceBuf (tag : Fin 64) (s : State) : Host.Outcome State Fault Refusal :=
  match s.cmd? tag.val with
  | none => .next s
  | some c =>
    if s.mayBegin c 0xC2 .enc && s.enc.lent.length < 16 then
      if !s.mayWrite .enc c.p0 c.p1 then .next ((s.refuseWrite .enc c.p0 c.p1 tag.val).stopEnc).settle
      else .next (((s.start tag.val).setLent (s.enc.lent ++ [tag.val])).wr ENC.STAT_NO_BUF 0).settle
    else .next s

/-- REFRESH: the present sweep ends, and the next frame starts a new one (R503). -/
def execRefresh (tag : Fin 64) (s : State) : Host.Outcome State Fault Refusal :=
  match s.cmd? tag.val with
  | none => .next s
  | some c =>
    if s.mayBegin c 0xC3 .enc then
      if !s.flag ENC.STAT_STATE then .next (s.endOpen tag.val stBadParam).settle
      else
        .next ((s.start tag.val).setEnc fun e =>
          { e with newSweep := true, idrDue := e.idrDue || c.p0.testBit 0, refresh := e.refresh ++ [tag.val] }).settle
    else .next s

/-- The SRAM words of macroblock `m` of an NV12 picture of width `w` and height `h` at `a`. -/
def mbWords (a w h m : Nat) : List Nat :=
  let x := m % (w / 16)
  let y := m / (w / 16)
  ((List.range 16).map fun r => (a + (16 * y + r) * w + 16 * x) / 16) ++
    (List.range 8).map fun r => (a + w * h + (8 * y + r) * w + 16 * x) / 16

/-- The slot of a source frame, and its macroblock `m` holds an uncorrectable word (R504). -/
def State.sourceAt (s : State) (f : EncFrame) : Nat := slotAddr (s.rd VIDIN.RING_E_FIRST) (nv12 s.enc.w s.enc.h) f.slot
def State.badMb (s : State) (f : EncFrame) (m : Nat) : Bool :=
  (mbWords (s.sourceAt f) s.enc.w s.enc.h m).any s.sramUe.contains

/-- The macroblocks of a slice whose source holds an uncorrectable word (R504). -/
def State.badMbs (s : State) (f : EncFrame) (first n : Nat) : Nat :=
  ((List.range n).filter fun i => s.badMb f (first + i)).length

/-- ENC reads the source of `n` macroblocks: each word is checked (R253). -/
def State.readMbs (s : State) (f : EncFrame) (first n : Nat) : State :=
  (List.range n).foldl (fun s i => (mbWords (s.sourceAt f) s.enc.w s.enc.h (first + i)).foldl (fun s w => s.checkWord .sram w) s) s

/-! ### What ENC may code (R500 to R505, R509) -/

/-- The columns that frames 0 to `k` − 1 of a sweep refresh (R500). -/
def Enc.refreshedTo (e : Enc) (k : Nat) : Nat := k * (e.w / 16) / e.sweep

/-- A block's vector lies in the search range (R494), and for a macroblock of a column that the sweep has refreshed, the block it
refers to lies with its interpolation margin in the refreshed columns of the reference frame, at least 8 pixels from their right
edge (R501). The margin is that of the standard's interpolation, 2 pixels to the left and 3 to the right of a block with a
fractional vector (PRESUMED, log entry 58). -/
def Enc.mvOk (e : Enc) (col : Nat) (b : MvBlock) : Bool :=
  let dx := b.dx.toInt
  let dy := b.dy.toInt
  let x := 16 * (col : Int) + b.x.toNat + dx / 4
  let margin : Int × Int := if dx % 4 == 0 then (0, 0) else (2, 3)
  dx.natAbs ≤ 256 && dy.natAbs ≤ 128 &&
    (e.refreshedTo (e.pos + 1) ≤ col ||
      (0 ≤ x - margin.1 && x + b.w.toNat + margin.2 + 8 ≤ 16 * (e.refreshedTo e.pos : Int)))

/-- F has reached B, in the NAL units of the frame that are written (R509; DEDUCED, log entry 47). -/
def Enc.full (e : Enc) : Bool := decide ((e.size : Rat) ≤ e.fill + ((8 * e.bytes : Nat) : Rat))

/-- Macroblock `m` of the frame may be coded as `c`: an I picture is intra; a column of the sweep frame is intra (R500), P_Skip
where its source is bad (R504); a macroblock behind a full bucket is P_Skip, or intra at QP 51 (R509); vectors obey R501, but for
the vector of a P_Skip that R504 or R509 asks for. -/
def State.mbOk (s : State) (f : EncFrame) (m : Nat) (c : MbCode) : Bool :=
  let e := s.enc
  let col := m % (e.w / 16)
  let fresh := e.refreshedTo e.pos ≤ col && col < e.refreshedTo (e.pos + 1)
  let bad := s.badMb f m
  match c with
  | .intra qp grey =>
    qp.toNat ≤ 51 && (!bad || (e.idr && grey)) && (!e.full || (qp.toNat == 51 && (e.idr || fresh)))
  | .skip dx dy => !e.idr && (bad || (!fresh && (e.full || e.mvOk col ⟨0, 0, 16, 16, dx, dy⟩)))
  | .inter bs => !e.idr && !bad && !fresh && !e.full && bs.all fun b =>
      b.x.toNat + b.w.toNat ≤ 16 && b.y.toNat + b.h.toNat ≤ 16 && e.mvOk col b

/-- The limits on a frame's QP (R509): QP_LIMITS, and within 4 of the last frame's except at an IDR picture. -/
def State.qpOk (s : State) (qp : Nat) : Bool :=
  let l := s.beadD 0x0C80 [20, 46]
  u8 l 0 ≤ qp && qp ≤ u8 l 1 &&
    match s.enc.lastQp with
    | some p => s.enc.idr || (p ≤ qp + 4 && qp ≤ p + 4)
    | none => true

/-- The slice is one that ENC may code now (R494, R500 to R502, R504, R505, R509). -/
def State.sliceOk (s : State) (f : EncFrame) (r : Slice) (limit : Nat) : Bool :=
  let e := s.enc
  !r.mbs.isEmpty && e.nextMb + r.mbs.length ≤ e.mbs && r.qp.toNat ≤ 51 && r.nal.length ≤ limit &&
    sliceHeadOk (r.nal.map (·.toNat)) e.idr e.nextMb &&
    (if e.nextMb == 0 && e.params then sweepHeadOk (r.params.map (·.toNat)) e.level e.w e.h e.sweep else r.params.isEmpty) &&
    (e.nextMb != 0 || s.qpOk r.qp.toNat) &&
    (List.range r.mbs.length).all fun i => s.mbOk f (e.nextMb + i) (r.mbs.getD i (.intra 0 false))

/-- A frame's end: F rises, its bytes beyond B are counted, the store is written, and the sweep goes on (R496, R500, R504,
R509). -/
def State.encFrameDone (s : State) : State :=
  let e := s.enc
  let after : Rat := e.fill + ((8 * e.bytes : Nat) : Rat)
  let past : Rat := after - max e.fill (e.size : Rat)
  let s := if past > 0 then s.bump ENC.OVERSHOOT_BYTES (past / 8).floor.toNat else s
  let z := s.storeSize e.w e.h
  let first := (s.ownRun .enc).1
  let mode1 := s.flag ENC.CFG_STORE_MODE
  let ref := slotAddr first z (if mode1 then 0 else 1 - e.store)
  let out := slotAddr first z (if mode1 then 0 else e.store)
  let lost := !e.idr && (s.badWord .sram ref z).isSome
  let s := if e.idr then s else (s.readMem .sram ref z).1
  let (s, pix) := s.openBytes z
  let s := s.writeMem .sram out pix
  let s := s.setEnc fun e =>
    { e with cur := none, fill := after, lastQp := some e.qp, encoded := e.encoded + 1, store := 1 - e.store,
             idrDue := e.idrDue || lost, pos := if e.pos + 1 < e.sweep then e.pos + 1 else 0 }
  let s := (s.wr ENC.STAT_QP e.qp).showBucket
  let s := if e.pos + 1 < e.sweep then s else s.evt ENC.EVT_SWEEP_DONE .enc
  if e.idr then s.evt ENC.EVT_IDR .enc else s

/-- SLICE_DONE: a slice is written into the next lent buffer, and its SLICE_BUF completes (R505, R506). -/
def execSliceDone (r : Slice) (s : State) : Host.Outcome State Fault Refusal :=
  match s.enc.cur, s.enc.lent with
  | some f, t :: rest =>
    let e := s.enc
    let c := s.cmd? t
    let size := (c.map (·.p1)).getD 0
    if s.awake && s.pllvOn && s.sliceOk f r (min e.sliceMax (size - 96)) then
      let first := e.nextMb
      let n := r.mbs.length
      let last := first + n == e.mbs
      let qp := if first == 0 then r.qp.toNat else e.qp
      let data := (r.params ++ r.nal).map (·.toNat)
      let flags := bit (first == 0) + 2 * bit last + 4 * bit e.idr + 8 * bit (first == 0 && e.params) +
        16 * bit (e.pos + 1 == e.sweep) + 32 * bit e.resumed
      let head := leBytes 2 data.length ++ [flags, r.qp.toNat] ++ leBytes 4 (f.seq % 2 ^ 32) ++ leBytes 4 f.time ++ leBytes 2 first ++
        leBytes 2 n
      let s := (s.readMbs f first n).bump ENC.COUNT_ECC (s.badMbs f first n)
      let s := (s.bump ENC.COUNT_REQUANT r.requant.toNat).writeMem .sram ((c.map (·.p0)).getD 0) (head ++ data)
      let s := (s.setEnc fun e => { e with nextMb := first + n, bytes := e.bytes + data.length, qp := qp }).setLent rest
      let s := s.complete t stOK (data.length + 65536 * flags + 2 ^ 24 * r.qp.toNat) f.seq
      .next (if last then s.encFrameDone.settle else s.sliceDue.settle)
    else .next s
  | _, _ => .next s

/-- A write of ENC.RATE (R510). DESIGN CHOICE (log entry 56): a value of KBPS outside 64-8000 is stored as the nearest limit, as which
it acts; MAX_KBPS is held to RATE-8000 in the same way under VBR, and to 0 for CBR, where the spec gives its range alone. -/
def State.writeRate (s : State) (w : Word) : State :=
  let rate := clampNat 64 8000 (field w 0 16)
  (s.wr ENC.RATE_KBPS rate).wr ENC.RATE_MAX_KBPS (if s.enc.vbr then clampNat rate 8000 (field w 16 16) else 0)

/-- RATE_WRITE. -/
def execRateWrite (w : BitVec 32) (s : State) : Host.Outcome State Fault Refusal :=
  .next (s.hostReg .enc fun s => s.writeRate w)

end Sys2Proof.Machine
end

