-- ==== Sys2Proof/Machine/Conceal.lean ====
section
/-! DEFINITION. DEC's concealment of lost macroblocks (R518). -/

namespace Sys2Proof

/-- The picture's size, and macroblock `m` of it. -/
def AuPicture.mbCount (p : AuPicture) : Nat := p.w.toNat * p.h.toNat
def AuPicture.mb (p : AuPicture) (m : Nat) : MbDec := p.mbs.getD m .lost
def AuPicture.lostCount (p : AuPicture) : Nat := ((List.range p.mbCount).filter fun m => p.mb m == .lost).length

/-- The macroblock at a column and row; outside the picture there is none. -/
def AuPicture.mbAt (p : AuPicture) (x y : Int) : Option MbDec :=
  if 0 ≤ x && x < p.w.toNat && 0 ≤ y && y < p.h.toNat then some (p.mb (y.toNat * p.w.toNat + x.toNat)) else none

/-- A lost macroblock is concealed spatially: in an I picture, and where every decoded macroblock of its column is intra and there is
one. -/
def AuPicture.spatial (p : AuPicture) (m : Nat) : Bool :=
  let column := ((List.range p.h.toNat).map fun y => p.mb (y * p.w.toNat + m % p.w.toNat)).filter (· != .lost)
  p.idr || p.intra || (!column.isEmpty && column.all (· == .intra))

/-- The vector that a neighbour counts with: (0, 0) where it is intra, lost or outside the picture. -/
def mbVector : Option MbDec → Int × Int
  | some (.inter dx dy) => (dx.toInt, dy.toInt)
  | _ => (0, 0)

def median3 (a b c : Int) : Int := max (min a b) (min (max a b) c)

/-- The component-wise median of the vectors of the left, above and above-right neighbours. -/
def AuPicture.vector (p : AuPicture) (m : Nat) : Int × Int :=
  let x : Int := m % p.w.toNat
  let y : Int := m / p.w.toNat
  let l := mbVector (p.mbAt (x - 1) y)
  let a := mbVector (p.mbAt x (y - 1))
  let r := mbVector (p.mbAt (x + 1) (y - 1))
  (median3 l.1 a.1 r.1, median3 l.2 a.2 r.2)

/-- A component of an NV12 picture: its offset, its width and height, the step of a pixel, and the side of a macroblock in it. -/
structure Comp where
  at_ : Nat
  w : Nat
  h : Nat
  step : Nat
  side : Nat
deriving DecidableEq, Repr

/-- Y, Cb and Cr (R514). -/
def AuPicture.comps (p : AuPicture) : List Comp :=
  let w := 16 * p.w.toNat
  let h := 16 * p.h.toNat
  [⟨0, w, h, 1, 16⟩, ⟨w * h, w / 2, h / 2, 2, 8⟩, ⟨w * h + 1, w / 2, h / 2, 2, 8⟩]

/-- The byte of a component's pixel: a row of the picture takes `w * step` bytes. -/
def Comp.off (c : Comp) (x y : Nat) : Nat := c.at_ + y * (c.w * c.step) + x * c.step

/-- The nearest pixel to (`x`, `y`) in one direction that is decoded or already concealed, and its distance: `next` gives the pixel at
a distance, within the picture. -/
def nearestKnown (have_ : Nat → Nat → Bool) (next : Nat → Option (Nat × Nat)) (n : Nat) : Option (Nat × Nat × Nat) :=
  (List.range n).findSome? fun i =>
    match next (i + 1) with
    | some (x, y) => if have_ x y then some (x, y, i + 1) else none
    | none => none

/-- The mean of values weighted by the inverse of their distances; a fraction is rounded down or up as the open bit `up` says, since
the spec states no rounding (log entry 46). -/
def inverseMean (l : List (Nat × Nat)) (up : Nat) : Nat :=
  let num : Rat := (l.map fun v => (v.1 : Rat) / v.2).foldl (· + ·) 0
  let den : Rat := (l.map fun v => (1 : Rat) / v.2).foldl (· + ·) 0
  let q := num / den
  if q.isInt then q.floor.toNat else q.floor.toNat + up % 2

/-- The concealed bytes of macroblock `m` in one component, as offsets and values. `have_` says which macroblocks are decoded or
concealed, `pic` is the picture so far, `ref` a byte of the reference by its offset, and `k` numbers the open values. -/
def AuPicture.concealComp (p : AuPicture) (have_ : Nat → Bool) (pic : List Nat) (ref : Nat → Nat) (k m : Nat) (c : Comp) :
    List (Nat × Nat) :=
  let mx := m % p.w.toNat * c.side
  let my := m / p.w.toNat * c.side
  let known := fun x y => have_ (y / c.side * p.w.toNat + x / c.side)
  let v := p.vector m
  let per : Int := 4 * (16 / c.side : Nat)
  (List.range (c.side * c.side)).map fun i =>
    let x := mx + i % c.side
    let y := my + i / c.side
    let o := c.off x y
    if p.spatial m then
      let l := [nearestKnown known (fun d => if d ≤ y then some (x, y - d) else none) c.h,
        nearestKnown known (fun d => if y + d < c.h then some (x, y + d) else none) c.h,
        nearestKnown known (fun d => if d ≤ x then some (x - d, y) else none) c.w,
        nearestKnown known (fun d => if x + d < c.w then some (x + d, y) else none) c.w].filterMap fun n =>
          n.map fun (q : Nat × Nat × Nat) => (pic.getD (c.off q.1 q.2.1) 0, q.2.2)
      (o, if l.isEmpty then Config.pixel k o % 256 else inverseMean l (Config.pixel k o))
    else if v.1 % per == 0 && v.2 % per == 0 then
      (o, ref (c.off (min (c.w - 1) (x + v.1 / per).toNat) (min (c.h - 1) (y + v.2 / per).toNat)))
    else (o, Config.pixel k o % 256)

/-- The picture with its lost macroblocks concealed in raster order. -/
def AuPicture.conceal (p : AuPicture) (pic : List Nat) (ref : Nat → Nat) (k : Nat) : List Nat :=
  ((List.range p.mbCount).filter fun m => p.mb m == .lost).foldl (fun pic m =>
    (p.comps.flatMap (p.concealComp (fun n => p.mb n != .lost || n < m) pic ref k m)).foldl (fun l v => l.set v.1 v.2) pic) pic

end Sys2Proof
end

