-- ==== Sys2Proof/Machine/Dec.lean ====
section
/-! DEFINITION. DEC (R513 to R522): its commands, and the end of an access unit's decode. -/

namespace Sys2Proof.Machine

/-- The picture buffers of a stream (R513): how many, from which bank, and their size. -/
def State.picBuffers (s : State) (w h : Nat) : Nat := min 8 (ringSlots (s.ownRun .dec).2 (nv12 w h))

def picBase (i : Nat) : Fld := ⟨DEC.PIC_BASE0_ADDR.addr + 4 * (i % 8), 0, 32⟩

/-- DEC_STREAM_OPEN (R513). -/
def execDecStreamOpen (tag : Fin 64) (s : State) : Host.Outcome State Fault Refusal :=
  match s.cmd? tag.val with
  | none => .next s
  | some c =>
    if s.mayBegin c 0xD0 .dec && s.pllvOn then
      let w := c.p0 % 65536
      let h := c.p0 / 65536
      let n := s.picBuffers w h
      if n < 2 then .next (s.endOpen tag.val stBadParam).settle
      else if s.flag DEC.STAT_STATE then .next (s.endOpen tag.val stBusy).settle
      else
        let s := s.setDec fun _ => { w := w, h := h }
        let s := (s.wr DEC.STAT_STATE 1).wr DEC.STAT_BUFFERS n
        let first := (s.ownRun .dec).1
        let s := (List.range 8).foldl (fun s i => s.wr (picBase i) (if i < n then slotAddr first (nv12 w h) i else 0)) s
        .next (s.complete tag.val stOK n 0).settle
    else .next s

/-- DEC closes its stream and drops its access units (R521). -/
def State.stopDec (s : State) : State :=
  let aus := s.dec.queue.map (·.1)
  let close := s.dec.closeTag
  let s := aus.foldl (fun s t => s.complete t stAborted 0 0) s.decClosed
  match close with
  | some t => s.endOpen t stAborted
  | none => s

/-- DECODE_AU: the access unit is accepted, unless no stream is open or SHED_CODEC is in force (R515, R520). -/
def execDecodeAu (tag : Fin 64) (s : State) : Host.Outcome State Fault Refusal :=
  match s.cmd? tag.val with
  | none => .next s
  | some c =>
    if s.mayBegin c 0xD1 .dec && s.pllvOn && s.dec.closeTag.isNone then
      if !s.flag DEC.STAT_STATE then .next (s.endOpen tag.val stBadParam).settle
      else if !s.mayRead .dec c.p0 c.p1 then .next ((s.refuseRead .dec c.p0 c.p1 tag.val).stopDec).settle
      else if s.shed then .next (s.shedLoss.complete tag.val stBusy 0 0).settle
      else if s.dec.queue.length < 4 then
        .next ((s.start tag.val).setDec fun d => { d with queue := d.queue ++ [(tag.val, c.p2.testBit 0)] }).settle
      else .next s
    else .next s

/-- DEC_STREAM_CLOSE (R522). -/
def execDecStreamClose (tag : Fin 64) (s : State) : Host.Outcome State Fault Refusal :=
  match s.cmd? tag.val with
  | none => .next s
  | some c =>
    if s.mayBegin c 0xD2 .dec && s.dec.closeTag.isNone then
      if !s.flag DEC.STAT_STATE then .next (s.endOpen tag.val stBadParam).settle
      else
        let s := (s.start tag.val).setDec fun d => { d with closeTag := some tag.val }
        .next (if c.p0.testBit 0 then s.decDrop else s).settle
    else .next s

/-- The access unit in work leaves DEC. -/
def State.auDone (s : State) : State := s.setDec fun d => { d with cur := none, queue := d.queue.drop 1 }

/-- An access unit that R495 excludes (R520). -/
def State.auUnsupported (s : State) (t : Nat) : State :=
  let s := ((s.auDone.decLoss).bump DEC.COUNT2_UNSUPPORTED).evt DEC.EVT_UNSUPPORTED .dec
  s.complete t stUnsupported 15 0

/-- Recovery after a picture without loss (R519): an IDR picture, or the end of a recovery period, regains it. -/
def State.decRecover (s : State) (idr : Bool) (recovery : Option Nat) : State :=
  let period := if idr then some 0 else match s.dec.period, recovery with
    | some n, some m => some (min (n - 1) m)
    | some n, none => some (n - 1)
    | none, m => m
  match period with
  | some 0 =>
    let again := !s.flag DEC.STAT_RECOVERED
    let s := (s.wr DEC.STAT_RECOVERED 1).setDec fun d => { d with period := none }
    if again then s.evt DEC.EVT_RECOVERED .dec else s
  | p => s.setDec fun d => { d with period := p }

/-- The bytes of a picture that DEC writes: what was decoded, which the standard gives (log entry 46), its lost macroblocks
concealed, and all of it deblocked (R518). A missing reference is mid-grey (R516). -/
def State.auBytes (s : State) (p : AuPicture) : State × List Nat :=
  let (s, pic) := s.openBytes (nv12 (16 * p.w.toNat) (16 * p.h.toNat))
  let (k, s) := s.fresh
  let ref := fun o => match s.dec.ref with
    | some b => (s.bytes .sram (s.rd (picBase b) + o) 1).headD 0
    | none => 128
  let pic := p.conceal pic ref k
  (s, (List.range pic.length).map fun i => Config.deblocked k pic i % 256)

/-- A picture is written to its buffer and becomes the reference (R514 to R520). A picture that changes the size is an IDR
picture. -/
def State.auPicture (s : State) (t b : Nat) (hold : Bool) (p : AuPicture) : State :=
  let w := p.w.toNat
  let h := p.h.toNat
  let lost := p.lostCount
  let gaps := p.gaps.toNat
  let slices := p.syn.toNat + p.aso.toNat
  let idr := p.idr || (s.dec.ref.isSome && (s.rd DEC.STAT_WIDTH_MB != w || s.rd DEC.STAT_HEIGHT_MB != h))
  let p := { p with idr := idr }
  let (s, pix) := s.auBytes p
  let s := s.writeMem .sram (s.rd (picBase b)) pix
  let sync := s.dec.ref.isNone
  let due := s.dec.lossDue
  let s := s.auDone.setDec fun d =>
    { d with ref := some b, last := some b, pictures := d.pictures + 1, concealed := d.concealed + lost }
  let s := (s.bump DEC.COUNT_CONCEALED lost).bump DEC.COUNT2_GAPS gaps
  let s := ((s.wr DEC.STAT_WIDTH_MB w).wr DEC.STAT_HEIGHT_MB h).wr DEC.PIC_HOLD_REF (2 ^ b)
  let s := if hold then s.wrBit DEC.PIC_HOLD_HOLD b true else s
  let s := if sync then s.evt DEC.EVT_SYNC .dec else s
  let s := if lost != 0 || gaps != 0 then s.decLoss else s.decRecover idr (p.recovery.map (·.toNat))
  let r0 := b + 16 * bit idr + 32 * s.rd DEC.STAT_RECOVERED + 128 * bit (gaps != 0) + 256 * min 255 slices + 65536 * lost
  let s := if due then s.decLoss else s
  s.complete t stOK r0 (w + 256 * h + 65536 * p.frameNum.toNat)

/-- AU_DECODED: the decode of an access unit ends, with concealment, and its DECODE_AU completes (R516 to R520); an uncorrectable word
in it is a syntax error (R517). -/
def execAuDecoded (r : AuResult) (s : State) : Host.Outcome State Fault Refusal :=
  match s.dec.cur, s.dec.queue with
  | some b, (t, hold) :: _ =>
    if s.awake && s.pllvOn then
      let a := ((s.cmd? t).map (·.p0)).getD 0
      let n := ((s.cmd? t).map (·.p1)).getD 0
      let bad := (s.badWord .sram a n).isSome
      let s := (s.readMem .sram a n).1
      match r with
      | .unsupported => .next (s.auUnsupported t).settle
      | .picture p =>
        if s.dec.w < 16 * p.w.toNat || s.dec.h < 16 * p.h.toNat then .next (s.auUnsupported t).settle
        else
          let p := { p with syn := if bad && p.syn == 0 then 1 else p.syn }
          let s := (s.bump DEC.COUNT_SYNTAX p.syn.toNat).bump DEC.COUNT_ASO p.aso.toNat
          if s.dec.ref.isNone && !p.idr && p.recovery.isNone then .next (s.auDone.complete t stOK 0x4F 0).settle
          else .next (s.auPicture t b hold p).settle
    else .next s
  | _, _ => .next s

/-- A write of DEC.PIC_HOLD releases held pictures (R514). -/
def State.writePicHold (s : State) (w : Word) : State :=
  let h := s.rd DEC.PIC_HOLD_HOLD
  s.wr DEC.PIC_HOLD_HOLD (h - (h &&& field w 0 8))

/-- PIC_HOLD_RELEASE. -/
def execPicHoldRelease (w : BitVec 32) (s : State) : Host.Outcome State Fault Refusal :=
  .next (s.hostReg .dec fun s => (s.writePicHold w).settle)

end Sys2Proof.Machine
end

