-- ==== Sys2Proof/Machine/Background.lean ====
section
/-! DEFINITION. Background work (R281 to R302): the scrubber, calibration, the telemetry sampler, the TALLY burst and the
beam's floor. Ledger compaction is in LEDGER's file. -/

namespace Sys2Proof.Machine

def State.setBg (s : State) (f : Bg → Bg) : State := { s with bg := f s.bg }

/-- Protected words of main SRAM and of keep RAM (R281). -/
def sramWords : Nat := 393216
def keepWords : Nat := 16384

/-- The words `lo` up to `hi` of a memory are scrubbed (R285, R286): a correctable error is counted and rewritten, an
uncorrectable one counted, recorded and signalled, and the last of them stands in ECC_LAST. -/
def State.scrub (s : State) (m : Ram) (lo hi : Nat) : State :=
  let hit := fun w => decide (lo ≤ w) && decide (w < hi)
  let ces := ((s.ce m).filter hit).filter fun w => !(s.ue m).contains w
  let ues := (s.ue m).filter hit
  let s := ces.foldl (fun s w => (s.bump m.ceFld).clearEcc m w) s
  let s := ues.foldl (fun s w => s.checkWord m w) s
  if ues.isEmpty then s else s.wr CORE.ECC_LAST_ADDR (m.base + m.word * ues.foldl max 0)

/-- Main SRAM is scrubbed up to word `hi`; at its end a pass is counted and the next begins at word 0. -/
def State.scrubMain (s : State) (hi : Nat) : State :=
  let s := s.scrub .sram (s.rd CORE.BG_SCRUB_POS_WORD) hi
  if hi < sramWords then (s.wr CORE.BG_SCRUB_POS_WORD hi).wr CORE.BG_SCRUB_POS_ACTIVE 1
  else ((s.wr CORE.BG_SCRUB_POS_WORD 0).wr CORE.BG_SCRUB_POS_ACTIVE 0).bump CORE.BG_SCRUB_PASSES

/-- Main SRAM is scrubbed for `n` words from where it stands, around its end. -/
def State.scrubChunk (s : State) (n : Nat) : State :=
  let p := s.rd CORE.BG_SCRUB_POS_WORD
  let t := s.scrubMain (min sramWords (p + n))
  if sramWords < p + n then t.scrubMain (p + n - sramWords) else t

/-- Keep RAM is scrubbed for `n` words from where it stands, around its end. -/
def State.scrubKeep (s : State) (n : Nat) : State :=
  let p := s.bg.keepPos
  let s := (s.scrub .keep p (min keepWords (p + n))).scrub .keep 0 (p + n - keepWords)
  s.setBg fun b => { b with keepPos := (p + n) % keepWords }

/-- Beats that background work has had in one window of the beam (R282): a free value of at most 30. -/
def State.beamShare (s : State) : State :=
  let (n, s) := s.fresh
  s.wr CORE.BG_SHARE_PEAK (max (s.rd CORE.BG_SHARE_PEAK) (min 30 (Config.beamShare n)))

/-- A whole pass, from where the scrubber stands (R285). -/
def State.scrubPass (s : State) : State :=
  let s := (s.beamShare).scrubMain sramWords
  (s.scrub .keep 0 keepWords).setBg fun b => { b with keepPos := 0 }

/-- SCRUB_PASS: the scheduled pass runs to its end. -/
def execScrubPass (s : State) : Host.Outcome State Fault Refusal :=
  if s.awake && s.flag CORE.BG_CTL_SCRUB_EN then .next s.scrubPass else .next s

/-- SCRUB_NOW: a pass from word 0, unless the scrubber is disabled or a pass is in progress (R301). -/
def State.scrubNow (s : State) : State :=
  if s.flag CORE.BG_CTL_SCRUB_EN && !s.flag CORE.BG_SCRUB_POS_ACTIVE then (s.wr CORE.BG_SCRUB_POS_WORD 0).scrubPass else s

def execScrubNow (s : State) : Host.Outcome State Fault Refusal := .next (s.hostReg .core fun s => s.scrubNow)

/-- CAL_NOW: FRC and ADC calibration are due at once (R301). -/
def State.calNow (s : State) : State := s.setBg fun b => { b with frcDue := true, adcDue := true }

def execCalNow (s : State) : Host.Outcome State Fault Refusal := .next (s.hostReg .core fun s => s.calNow)

/-- HEADCHK_NOW. -/
def execHeadchkNow (s : State) : Host.Outcome State Fault Refusal := .next (s.hostReg .core fun s => s.headchkNow)

/-- A write of CORE.BG_CTL: the enables, and its three doorbells (R301). -/
def State.writeBgCtl (s : State) (w : Word) : State :=
  let s := ((s.wr CORE.BG_CTL_SCRUB_EN (field w 0 1)).wr CORE.BG_CTL_HEADCHK_EN (field w 1 1)).wr CORE.BG_CTL_TELEM_EN (field w 2 1)
  let s := if w.getLsbD 8 then s.scrubNow else s
  let s := if w.getLsbD 9 then s.calNow else s
  if w.getLsbD 10 then s.headchkNow else s

/-- KEEP_RAM_SCRUB: in CLEARED the always-on domain scrubs one word, and records nothing for an uncorrectable one (R287). -/
def execKeepRamScrub (s : State) : Host.Outcome State Fault Refusal :=
  if s.base == .cleared && !s.inReset then
    let p := s.bg.keepPos
    let s := if s.keepUe.contains p then s else s.clearEcc .keep p
    .next (s.setBg fun b => { b with keepPos := (p + 1) % keepWords })
  else .next s

/-- A calibration of the FRC is due (R281, R288, R301): one of its occasions has come, or 10 s (±1 %) have passed since the last. -/
def State.frcIsDue (s : State) : Bool := s.bg.frcDue || s.bg.frcAt + 9900000 ≤ s.clock

/-- FRC_CALIBRATION: `cycles` FRC cycles were counted over 24,000 of the HFXO, against 64,000 expected (R288). The trim's step takes
effect at once between lines, and else at the end of the line that fires (R283). -/
def execFrcCalibration (cycles : BitVec 32) (s : State) : Host.Outcome State Fault Refusal :=
  if s.awake && s.flag CORE.CLK_STAT_HFXO_OK && s.flag CORE.CLK_STAT_FRC_ON && s.frcIsDue then
    let ppm : Rat := ((cycles.toNat : Int) - 64000 : Int) * 1000000 / 64000
    let bad := decide (2000 < ppm) || decide (ppm < -2000)
    let s := s.wrI CORE.BG_CAL_FRC_ERR_PPM (clampInt (-32768) 32767 (roundInt ppm))
    let s := s.setBg fun b =>
      { b with frcDue := bad, frcAt := s.clock, frcDie := s.srcTemp 0,
               trimStep := if 500 < ppm then -1 else if ppm < -500 then 1 else 0 }
    let s := if s.print.firing.isSome then s else s.trimFrc
    if bad then .next (s.wr CORE.CLK_STAT_FRC_CAL 0)
    else .next ((s.wr CORE.CLK_STAT_FRC_CAL 1).setClk fun c => { c with frcEver := true }).settle
  else .next s

/-- The code of the bandgap on an ADC without error (R307): 1.200 V of 2.500 V. -/
def bandgapCode : Rat := 19656 / 10

/-- The ADC has a new offset and gain (R289): the ground reads 0 with them, and the bandgap its nominal code. Where the bandgap's
codes are not above the ground's, no gain does that, and it is a free value. -/
def State.adcCalibrated (s : State) (r : AdcReading) : State :=
  let g := mkRat r.ground.toNat 16
  let b := mkRat r.bandgap.toNat 16
  let (w, s) := s.openWord
  let s := (s.wr CORE.BG_CAL_ADC_OK 1).bump THERM.ADC_STAT_PREEMPTS r.preempted.toNat
  s.setBg fun x =>
    { x with adcDue := false, adcAt := s.clock, adcDie := s.srcTemp 0, adcOffset := g,
             adcGain := if g < b then bandgapCode / (b - g) else (w : Rat) }

/-- A calibration of the ADC is due (R281, R301): one of its occasions has come, or 60 s (±1 %) have passed since the last. -/
def State.adcIsDue (s : State) : Bool := s.bg.adcDue || s.bg.adcAt + 59400000 ≤ s.clock

/-- ADC_CALIBRATION: its conversions have ended. -/
def execAdcCalibration (adc : AdcReading) (s : State) : Host.Outcome State Fault Refusal :=
  if s.awake && s.adcIsDue then .next (s.adcCalibrated adc) else .next s

/-- TELEMETRY_SAMPLE: the compensation follows the die (R290), and unless TELEM_EN stops the sampler (R301) one entry of the ring is
written, and the same samples feed the thresholds (R298, R311). -/
def execTelemetrySample (vin : BitVec 16) (m : TempSample) (s : State) : Host.Outcome State Fault Refusal :=
  if s.awake then
    let s := s.lfxoComp m.die.toInt
    if s.flag CORE.BG_CTL_TELEM_EN then
      .next (((s.beamShare).telemetry vin.toNat m).takeTelemetry m |>.thermNow fun _ => true).settle
    else .next s
  else .next s

/-- FLOOR_GRANT: the stream class has yielded a cycle to background work (R284). -/
def execFloorGrant (s : State) : Host.Outcome State Fault Refusal :=
  if s.awake then .next ((s.bump CORE.BG_SHARE_FLOOR_GRANTS).wr CORE.BG_SHARE_PEAK (max 1 (s.rd CORE.BG_SHARE_PEAK))) else .next s

/-! ### The TALLY burst (R300) -/

/-- Beats that the scrub chunk has had when the conversions end: one per FRC cycle over 16 µs for each input (R300). -/
def State.burstBeats (s : State) : Nat := 64 * 16 * (2 + ((List.range 4).filter s.thmUsed).length)

/-- Steps 4 to 6 of a burst as far as step `last` (R300): the conversions, behind those of a calibration on the first burst and every
60th, then the compensation and the thresholds, which may wake the device. -/
def State.burstSamples (s : State) (last : Nat) (m : TempSample) (adc : AdcReading) : State :=
  let first := s.bg.bursts % 60 == 0
  let s := s.setBg fun b => { b with bursts := b.bursts + 1 }
  let s := if 4 ≤ last && first then s.adcCalibrated adc else s
  if 6 ≤ last then
    match ((s.lfxoComp m.die.toInt).takeTelemetry m).tallyEval with
    | (s, true) => s.wakeBy 8 false
    | (s, false) => s
  else s

/-- The scrub chunk of a burst that ends after step `last`: none before it begins, what it has had when the conversions end, or all. -/
def State.burstScrub (s : State) (last : Nat) : State :=
  if !s.flag CORE.BG_CTL_SCRUB_EN || last < 4 then s
  else if last < 7 then s.scrubChunk s.burstBeats
  else (s.scrubChunk 8192).scrubKeep 1024

/-- TALLY_BURST: the steps of R300. A wake source ends the burst after its current step: `wake` names the step of the table of R300 in
which one outside THERM has fired; a crossed threshold or a fault condition fires in step 6. -/
def execTallyBurst (vin : BitVec 16) (m : TempSample) (adc : AdcReading) (wake : Option (Fin 9 × WakeSource)) (s : State) :
    Host.Outcome State Fault Refusal :=
  if !s.inReset && s.base == .tally && !s.wake.waking then
    let s := match wake with
      | some (_, .pin k) => s.pinLevel k.val (s.rdBit CORE.WAKE_CFG_PIN_POL k.val)
      | _ => s
    let fires := wake.filter fun w => s.wakeEnabled w.2
    let last := (fires.map fun w => w.1.val + 1).getD 9
    let s := s.burstSamples last m adc
    let last := if s.wake.waking then 6 else last
    let s := s.burstScrub last
    let s := if 8 ≤ last && s.flag CORE.BG_CTL_TELEM_EN then s.telemetry vin.toNat m else s
    .next (match fires with
      | some w => if s.wake.waking then s else s.wakeBy (wakeCode w.2) false
      | none => s)
  else .next s

end Sys2Proof.Machine
end

