-- ==== Sys2Proof/Machine/Ledger.lean ====
section
/-! DEFINITION. LEDGER: the records and sectors in flash (R271 to R275), mounting, committing and exporting them (R273,
R277 to R279), and compaction with its erase table (R295, R296). -/

namespace Sys2Proof.Machine

def State.setLed (s : State) (f : Ledger → Ledger) : State := { s with led := f s.led }

/-- The ledger region's first byte in flash: the last 1 MiB (R263). -/
def State.ledgerBase (s : State) : Nat := (s.rd FLASH.STAT_SIZE_MIB - 1) * 0x100000

/-- Sector `k`'s first byte in flash. -/
def State.sectorBase (s : State) (k : Nat) : Nat := s.ledgerBase + 0x10000 * k

def sectorMagic : Nat := 0x534C424D
def recordMark : Nat := 0x4D4D4F43

/-- A sector's header (R271): none where it is invalid, with SSEQ and ERASES where it is good. -/
def State.sectorHead (s : State) (k : Nat) : Option (Nat × Nat) :=
  let h := s.flashBytes (s.sectorBase k) 16
  if u32 h 0 == sectorMagic && u32 h 12 == crc32 (h.take 12) then some (u32 h 4, u32 h 8) else none

/-- A sector is free: its header bytes are all 0xFF. -/
def State.sectorFree (s : State) (k : Nat) : Bool := (s.flashBytes (s.sectorBase k) 16).all (· == 0xFF)

/-- The free sectors. -/
def State.freeSectors (s : State) : List Nat := (List.range 16).filter s.sectorFree

/-- Sectors with a valid header, the lowest SSEQ first. -/
def State.usedSectors (s : State) : List (Nat × Nat) :=
  ((List.range 16).filterMap fun k => (s.sectorHead k).map fun h => (h.1, k)).mergeSort fun a b => a.1 ≤ b.1

/-- The record of R272 with its MARK. -/
def mkRecord (ty seq on : Nat) (payload : List Nat) : List Nat :=
  let b := leBytes 2 (payload.length + 20) ++ [ty, 0] ++ leBytes 4 seq ++ leBytes 4 on ++ payload
  b ++ leBytes 4 (crc32 b) ++ leBytes 4 recordMark

/-- The records of a sector from offset `off` on: the committed ones, the offset behind them, and whether a record with a
wrong length, CRC or MARK follows (R273). -/
def State.walkSector (s : State) (base : Nat) : Nat → Nat → List (List Nat) → List (List Nat) × Nat × Bool
  | 0, off, acc => (acc, off, false)
  | fuel + 1, off, acc =>
    let h := s.flashBytes (base + off) 12
    if 0x10000 < off + 32 || h.all (· == 0xFF) then (acc, off, false)
    else
      let len := u16 h 0
      if len % 4 ≠ 0 || len < 32 || 148 < len || 0x10000 < off + len then (acc, off, true)
      else
        let b := s.flashBytes (base + off) len
        if u32 b (len - 8) == crc32 (b.take (len - 8)) && u32 b (len - 4) == recordMark then
          s.walkSector base fuel (off + len) (acc ++ [b])
        else (acc, off, true)

/-- The committed records of a sector. -/
def State.sectorRecords (s : State) (k : Nat) : List (List Nat) := (s.walkSector (s.sectorBase k) 2048 16 []).1

/-- Every committed record of the region, the oldest first. -/
def State.ledgerRecords (s : State) : List (List Nat) := s.usedSectors.flatMap fun p => s.sectorRecords p.2

/-! ### The counter set (R275) -/

/-- Offset and bytes of counter `k`. -/
def counterAt (k : Nat) : Nat × Nat :=
  if k < 21 then (4 * k, 4)
  else if k == cntJams then (0x54, 2)
  else if k == cntTorn then (0x56, 2)
  else if k == cntReceipts then (0x58, 4)
  else if k == cntShocks then (0x5C, 4)
  else if k < 30 then (0x60 + 2 * (k - 25), 2)
  else if k == cntDump then (0x6A, 2)
  else (0x6C, 2)

/-- The counter set with value `f k` for counter `k`, each held at what its field can hold. -/
def counterSet (f : Nat → Nat) : List Nat :=
  ((List.range 32).flatMap fun k => let n := (counterAt k).2; leBytes n (min (f k) (256 ^ n - 1))) ++ List.replicate 18 0

/-- Counter `k` of a counter set. -/
def counterIn (b : List Nat) (k : Nat) : Nat := leNat ((b.drop (counterAt k).1).take (counterAt k).2)

/-- The totals after one more record (R276). -/
def foldTotals (t : Store Nat) (r : List Nat) : Store Nat :=
  let set := r.drop 12
  if u8 r 2 == 2 then (List.range 32).foldl (fun t k => Store.set 0 t k (counterIn set k)) []
  else if u8 r 2 == 1 then (List.range 32).foldl (fun t k => Store.set 0 t k (Store.get 0 t k + counterIn set k)) t
  else t

/-- The increase of counter `k` that a DELTA would hold now. -/
def State.deltaOf (s : State) (k : Nat) : Nat :=
  min (Store.get 0 s.led.acc k).floor.toNat (256 ^ (counterAt k).2 - 1)

/-! ### Sectors and records written -/

/-- LEDGER.STAT.FREE_SECTORS and CORE.BG_LEDGER.SPREAD follow the sectors and the erase table. -/
def State.showSectors (s : State) : State :=
  let e := s.led.erases
  let hi := e.foldl max 0
  let lo := e.foldl min hi
  (s.wr LEDGER.STAT_FREE_SECTORS (min 15 s.freeSectors.length)).wr CORE.BG_LEDGER_SPREAD (min 65535 (hi - lo))

/-- The free sector with the lowest erase count, the lower-numbered one on a tie. -/
def State.nextSector (s : State) : Option Nat :=
  s.freeSectors.foldl (fun best k =>
    match best with
    | none => some k
    | some b => if s.led.erases.getD k 0 < s.led.erases.getD b 0 then some k else best) none

/-- A free sector is opened and its header written (R296). -/
def State.openSector (s : State) : Option State :=
  s.nextSector.map fun k =>
    let sseq := s.led.sseq + 1
    let h := leBytes 4 sectorMagic ++ leBytes 4 sseq ++ leBytes 4 (s.led.erases.getD k 0)
    let s := s.flashProgram (s.sectorBase k) (h ++ leBytes 4 (crc32 h))
    (s.setLed fun l => { l with sector := some k, sseq := sseq, off := 16 }).showSectors

/-- A record of `len` bytes fits in the open sector, or in one that is opened for it. -/
def State.roomFor (s : State) (len : Nat) : Option State :=
  if s.led.sector.isSome && s.led.off + len ≤ 0x10000 then some s else s.openSector

/-- One record is committed (R272, R273), unless no sector has room. -/
def State.commitRecord (s : State) (ty on : Nat) (payload : List Nat) : Option State :=
  (s.roomFor (payload.length + 20)).map fun s =>
    let seq := s.rd LEDGER.SEQ_SEQ + 1
    let a := s.sectorBase (s.led.sector.getD 0) + s.led.off
    let s := s.flashProgram a (mkRecord ty seq on payload)
    let s := (s.setLed fun l => { l with off := l.off + payload.length + 20 }).wr LEDGER.SEQ_SEQ seq
    if s.rd LEDGER.OLDEST_SEQ == 0 then s.wr LEDGER.OLDEST_SEQ seq else s

/-- The first buffered record is committed; whether one was. -/
def State.commitFirst (s : State) : State × Bool :=
  match s.led.buf with
  | [] => (s, false)
  | r :: rest =>
    match s.commitRecord r.ty r.on r.payload with
    | some s => (s.setLed fun l => { l with buf := rest }, true)
    | none => (s, false)

/-- Every buffered record is committed; with how many. -/
def State.commitBuffer (s : State) : Nat → State × Nat
  | 0 => (s, 0)
  | n + 1 =>
    match s.commitFirst with
    | (s, true) => let (s, m) := s.commitBuffer n; (s, m + 1)
    | (s, false) => (s, 0)

/-- The accumulators' increase in whole units is committed as a DELTA record, and counts among the totals from then on; whether it
was. -/
def State.commitDelta (s : State) : State × Bool :=
  let d := (List.range 32).map s.deltaOf
  match s.commitRecord 1 s.onSeconds (counterSet fun k => d.getD k 0) with
  | none => (s, false)
  | some s =>
    ((List.range 32).foldl (fun (s : State) k =>
      let n := d.getD k 0
      s.setLed fun l => { l with acc := Store.set 0 l.acc k (Store.get 0 l.acc k - (n : Rat)),
                                 base := Store.set 0 l.base k (Store.get 0 l.base k + n) })
      (s.setLed fun l => { l with changed := false }), true)

/-- LEDGER works: it is READY, in a mode in which it commits (R277). -/
def State.ledgerOn (s : State) : Bool := s.awake && s.ready .ledger

/-- LEDGER_COMMIT: a buffered FAULT, SHOCK or THERMAL record is committed. During a compaction erase the flash suspends it for the
record, or the record waits for its end (R297). -/
def execLedgerCommit (s : State) : Host.Outcome State Fault Refusal :=
  if s.ledgerOn && !s.led.buf.isEmpty then
    if s.led.compact.isNone then .next s.commitFirst.1
    else if s.flashHeld then .next s
    else .next s.flashRead.commitFirst.1
  else .next s

/-- DELTA_COMMIT: PERIOD_MIN minutes have passed, and a DELTA record is committed while an accumulator has changed; it waits for a
compaction erase to end (R277, R297). -/
def execDeltaCommit (s : State) : Host.Outcome State Fault Refusal :=
  if s.ledgerOn && s.led.changed && s.led.compact.isNone then .next s.commitDelta.1 else .next s

/-! ### Mount -/

/-- The erase table is rebuilt after a POR (R296). -/
def State.rebuildErases (s : State) : State :=
  let heads := (List.range 16).map fun k => (s.sectorHead k).map (·.2)
  let top := (heads.filterMap id).foldl max 0
  s.setLed fun l => { l with erases := heads.map fun h => h.getD top }

/-- The ledger region is mounted: totals, SEQ and OLDEST from its records, the bad records discarded, and a sector opened
where the last one takes no further record (R273, R276, R278). -/
def State.mount (s : State) : State :=
  let used := s.usedSectors
  let walks := used.map fun p => s.walkSector (s.sectorBase p.2) 2048 16 []
  let recs := walks.flatMap (·.1)
  let bad : Nat := (walks.filter fun w => w.2.2).length
  let s := if s.led.resume then s.rebuildErases else s
  let on := (recs.getLast?.map fun r => u32 r 8).getD 0
  let s := s.setLed fun l =>
    { l with base := recs.foldl foldTotals [], resume := false, onUs := if l.resume then l.onUs + on * 1000000 else l.onUs,
             sseq := (used.getLast?.map (·.1)).getD 0, sector := none, off := 0 }
  let s := s.wr LEDGER.SEQ_SEQ ((recs.getLast?.map fun r => u32 r 4).getD 0)
  let s := s.wr LEDGER.OLDEST_SEQ ((recs.head?.map fun r => u32 r 4).getD 0)
  let s := s.bump LEDGER.LOSS_DISCARDED bad
  let s := if bad = 0 then s else s.wr CORE.RESET_CAUSE_LEDGER_DISCARD 1
  let s :=
    match used.getLast?, walks.getLast? with
    | some p, some w =>
      if w.2.2 then s.openSector.getD s else s.setLed fun l => { l with sector := some p.2, off := w.2.1 }
    | _, _ => s.openSector.getD s
  (s.wr LEDGER.STAT_MOUNTED 1).showSectors

/-! ### Commands -/

/-- READ_COUNTERS: the counter set of R276 is copied to SRAM (R279), unless LEDGER may not write there (R27). -/
def execReadCounters (tag : Fin 64) (s : State) : Host.Outcome State Fault Refusal :=
  match s.cmd? tag.val with
  | none => .next s
  | some c =>
    if s.mayStart c 0xF0 .ledger then
      if !s.mayWrite .ledger c.p0 128 then .next (s.refuseWrite .ledger c.p0 128 tag.val).settle else
      let bad := s.writeBad .sram c.p0 128
      let s := s.writeMem .sram c.p0 (counterSet s.counter)
      .next (s.complete tag.val (if bad then stEcc else stOK) s.onSeconds (s.rd LEDGER.SEQ_SEQ)).settle
    else .next s

/-- COMMIT_NOW: the append buffer is committed, its accumulators as a DELTA record (R277, R279), for which it waits out a compaction
erase (R297). -/
def execCommitNow (tag : Fin 64) (s : State) : Host.Outcome State Fault Refusal :=
  match s.cmd? tag.val with
  | none => .next s
  | some c =>
    if s.mayStart c 0xF1 .ledger && s.led.compact.isNone then
      let (s, n) := s.commitBuffer (appendRoom + 1)
      let (s, d) := if s.led.changed then s.commitDelta else (s, false)
      .next (s.complete tag.val stOK (n + bit d) (s.rd LEDGER.SEQ_SEQ)).settle
    else .next s

/-- The whole records from the front that fit in `max` bytes. -/
def takeWhole : Nat → List (List Nat) → List (List Nat)
  | _, [] => []
  | n, r :: rs => if r.length ≤ n then r :: takeWhole (n - r.length) rs else []

/-- EXPORT: committed records are copied to SRAM in ascending SEQ (R279), unless LEDGER may not write there
(R27). -/
def execExportRecords (tag : Fin 64) (s : State) : Host.Outcome State Fault Refusal :=
  match s.cmd? tag.val with
  | none => .next s
  | some c =>
    if s.mayStart c 0xF2 .ledger && !s.flashHeld then
      let s := s.flashRead
      let want := s.ledgerRecords.filter fun r => c.p0 ≤ u32 r 4
      let out := takeWhole c.p2 want
      let next := ((want.drop out.length).head?.map fun r => u32 r 4).getD 0
      let bytes := out.flatten
      if !s.mayWrite .ledger c.p1 bytes.length then .next (s.refuseWrite .ledger c.p1 bytes.length tag.val).settle else
      let bad := s.writeBad .sram c.p1 bytes.length
      let s := s.writeMem .sram c.p1 bytes
      .next (s.complete tag.val (if bad then stEcc else stOK) bytes.length next).settle
    else .next s

/-! ### Compaction (R295) -/

/-- Steps 4 and 5 of R295, and step 8: the erase of the next sector begins, the sectors with an invalid header first (R271), then the
oldest but the open one, until one has been erased and four are free. A sector under erase has no valid header from then on, as one
whose erase is interrupted has none. -/
def State.compactNext (s : State) (oldest : Bool) : State :=
  let broken := (List.range 16).find? fun k => (s.sectorHead k).isNone && !s.sectorFree k
  let used : List (Nat × Nat) := s.usedSectors.filter fun p => some p.2 != s.led.sector
  let victim : Option Compaction := match broken with
    | some k => some { sector := k, oldest := oldest }
    | none => if oldest && 4 ≤ s.freeSectors.length then none else used.head?.map fun p => { sector := p.2, oldest := true }
  match victim with
  | none => ((s.setLed fun l => { l with compact := none }).flashBusy).bump CORE.BG_LEDGER_COMPACTIONS
  | some v =>
    let rest : List (Nat × Nat) := s.usedSectors.filter fun p => p.2 != v.sector
    let old := (rest.flatMap fun p => s.sectorRecords p.2).head?
    let s := if broken.isSome then s else s.wr LEDGER.OLDEST_SEQ ((old.map fun r => u32 r 4).getD 0)
    ((s.flashProgram (s.sectorBase v.sector) (List.replicate 16 0)).setLed fun l => { l with compact := some v }).flashBusy

/-- Steps 6 and 7 of R295: the sector is erased and counted in the erase table, and the compaction goes on or ends. -/
def State.compactErased (s : State) (v : Compaction) : State :=
  let s := (s.flashErase (s.sectorBase v.sector) 0x10000).setLed fun l => { l with erases := l.erases.modify v.sector (· + 1) }
  s.showSectors.compactNext v.oldest

/-- LEDGER_COMPACTION: two free sectors or fewer are left. The buffered records and a SNAPSHOT are committed, and the first erase
begins. -/
def execLedgerCompaction (s : State) : Host.Outcome State Fault Refusal :=
  if s.ledgerOn && s.flag LEDGER.STAT_MOUNTED && s.freeSectors.length ≤ 2 && s.led.compact.isNone then
    let s := (s.commitBuffer (appendRoom + 1)).1
    let s := (s.commitRecord 2 s.onSeconds (counterSet fun k => Store.get 0 s.led.base k)).getD s
    .next (s.compactNext false)
  else .next s

/-- SECTOR_ERASE_DONE: a sector is erased: LEDGER's, where a compaction erases, and else the slot's (R262, R268, R295). -/
def execSectorEraseDone (s : State) : Host.Outcome State Fault Refusal :=
  match s.led.compact with
  | some v => .next (s.compactErased v)
  | none => .next s.slotSectorDone

end Sys2Proof.Machine
end

