-- ==== Sys2Proof/Machine/Image.lean ====
section
/-! DEFINITION. Applying an image (R60 to R75): the beads each rod takes and their causes, the register fields an image
supplies, the FULL image at boot or from the host (R57 to R62), the partial apply (R63 to R71), IMAGE_CONFIRM (R51) and
FREEZE_COMMIT (R53). -/

namespace Sys2Proof.Machine

/-! ### The register fields that an image supplies -/

/-- A bead's value in force: its data, or its default where it is absent. -/
def State.beadV (s : State) (n : Nat) : List Nat := s.beadD n ((beadDefault n).getD [])

/-- A register field with the bead and the part of its data that it takes. -/
structure ImgField where
  fld : Fld
  bead : Nat
  val : List Nat → Nat

/-- Byte `i`, and the 16-bit value at byte `i`, as the source of a field. -/
def ofByte (f : Fld) (b i : Nat) : ImgField := ⟨f, b, fun d => u8 d i⟩
def ofHalf (f : Fld) (b i : Nat) : ImgField := ⟨f, b, fun d => u16 d i⟩
def ofWord (f : Fld) (b i : Nat) : ImgField := ⟨f, b, fun d => u32 d i⟩
/-- Bit `k` of byte `i`. -/
def ofBit (f : Fld) (b i k : Nat) : ImgField := ⟨f, b, fun d => bit ((u8 d i).testBit k)⟩
/-- Byte `i` compared with `v`. -/
def ofEq (f : Fld) (b i v : Nat) : ImgField := ⟨f, b, fun d => bit (u8 d i == v)⟩

/-- The fields of CORE and VEC. -/
def imgCore : List ImgField :=
  ((List.range 4).flatMap fun p => [ofHalf (oppMhz p) 0x0030 (4 * p), ofByte (oppMv p) 0x0030 (4 * p + 2)]) ++
    [ofHalf CORE.PLLV_FREQ_MHZ 0x0031 0, ofByte CORE.DVFS_POINT 0x0080 0, ofHalf CORE.HB_PERIOD_PERIOD_MS 0x0081 0,
     ofBit CORE.BG_CTL_SCRUB_EN 0x00A3 0 0, ofBit CORE.BG_CTL_HEADCHK_EN 0x00A3 0 1, ofBit CORE.BG_CTL_TELEM_EN 0x00A3 0 2,
     ofHalf CORE.BG_SCRUB_PERIOD_S 0x00A0 0, ofHalf CORE.BG_TELEM_PERIOD_MS 0x00A1 0]

/-- The bank map and the pin masks, which have no default (R221, R251). -/
def imgMaps : List ImgField :=
  ((List.range 3).map fun k => ofWord ⟨CORE.BANK_MAP0_OWNER_A.addr + 4 * k, 0, 32⟩ 0x0010 (4 * k)) ++
    (List.range 4).map fun k => ofWord (pinmask k) 0x0021 (4 * k)

/-- The fields of SUPPLY. -/
def imgSupply : List ImgField :=
  [ofByte SUPPLY.VH_CTL_EN 0x0500 0, ofByte SUPPLY.VH_TGT_CODE 0x0581 0, ofByte SUPPLY.VH_SLEW_RATE 0x0582 0,
   ofByte SUPPLY.VCORE_TGT_SLEW 0x0580 0, ofByte SUPPLY.VIN_FLOOR_LEVEL 0x0583 0, ofByte SUPPLY.VIN_CRIT_LEVEL 0x0583 1,
   ofByte SUPPLY.VM_CEIL_LEVEL 0x0584 0, ofByte SUPPLY.VM_DUMP_LEVEL 0x0584 1]

/-- The fields of MOVER. -/
def imgMover : List ImgField :=
  ofHalf MOVER.CFG_UPPER 0x0300 0 :: (List.range 16).map fun k => ⟨MOVER.CH_STATE_DECK k, 0x0300, fun d => bit ((u16 d 0).testBit k)⟩

/-- The fields of PRINT (R364, R366, R369 to R376). -/
def imgPrint : List ImgField :=
  [ofHalf PRINT.CFG_DOTS 0x0600 0, ⟨PRINT.CFG_GROUPS_M1, 0x0601, fun d => u8 d 0 - 1⟩, ofEq PRINT.CFG_INPUTS2 0x0600 2 2,
   ofEq PRINT.CFG_DPMM12 0x0600 3 12, ofByte PRINT.CFG_PACING 0x0600 7, ofBit PRINT.CFG_SHIFT_DIR 0x0600 5 0,
   ofByte PRINT.CFG_STB_POL 0x0601 1, ofByte PRINT.CLK_CLK_DIV 0x0600 4, ofByte PRINT.CLK_LAT_TICKS 0x0600 6,
   ⟨PRINT.CLK_T_SHIFT, 0x0600, fun d => u16 d 0 / max 1 (u8 d 2) * u8 d 4 + u8 d 6⟩,
   ofHalf PRINT.ENERGY_E_BASE 0x0680 0, ofByte PRINT.ENERGY_V_DRV 0x0680 2, ofByte PRINT.ENERGY_R_SRC 0x0680 3,
   ofByte PRINT.TCOMP_T_REF 0x0680 4, ofByte PRINT.TCOMP_TC 0x0680 5, ofByte PRINT.TCOMP_RANK_PCT 0x0680 6,
   ofHalf PRINT.CAP_I_PEAK 0x0682 0, ofByte PRINT.CAP_SLICES 0x0682 2, ofByte PRINT.CAP_FLOOR_PCT 0x0682 3,
   ofByte PRINT.CAP_FLOOR_HOLD 0x0682 4, ofByte PRINT.LINE_CTL_LATE_MAX 0x0682 5, ofByte PRINT.DRY_DRY_PCT 0x0685 3] ++
    (List.range 4).map fun k => ofWord ⟨PRINT.HIST0_ENTRY.addr + 4 * k, 0, 32⟩ 0x0681 (4 * k)

/-- The fields of RASTER. -/
def imgRaster : List ImgField :=
  [ofHalf RASTER.CFG_HEAD_DOTS 0x0700 0, ⟨RASTER.CFG_LINE_WORDS, 0x0700, fun d => (u16 d 0 + 127) / 128⟩,
   ofHalf RASTER.BAND_CFG_BAND_MAX 0x0780 0, ofByte (bandBank 0) 0x0701 0, ofByte (bandBank 1) 0x0701 1,
   ofByte (bandBank 2) 0x0701 2, ofByte RASTER.SHIFT_EN 0x0781 0]

/-- The fields of FEED. -/
def imgFeed : List ImgField :=
  [ofByte FEED.CFG_ARRANGEMENT 0x0800 0, ofByte FEED.CFG_FB_TYPE 0x0802 0, ofBit FEED.CFG_Z_USED 0x0802 1 0,
   ofBit FEED.CFG_INVERT 0x0802 1 1, ofByte FEED.CFG_PWM_KHZ 0x0880 0, ofHalf FEED.DIV_N 0x0803 0, ofHalf FEED.DIV_M 0x0803 2,
   ofHalf FEED.MOTION_ACCEL 0x0881 0, ofHalf FEED.MOTION_DECEL 0x0881 2, ofByte FEED.REV_REV_SPEED 0x0881 4,
   ofByte FEED.REV_REV_DWELL_MS 0x0881 5, ofHalf FEED.REV_VM_BRAKE_MA 0x0883 0, ofByte FEED.AUX_HOLD_PCT 0x0807 2] ++
    (List.range 8).map fun k => ofWord ⟨FEED.PHASE_ADV0_SPEED_A.addr + 4 * k, 0, 32⟩ 0x0882 (4 * k)

/-- The fields of CUT. -/
def imgCut : List ImgField :=
  [ofHalf CUT.CURRENT_CFG_I_RUN 0x0900 4, ofHalf CUT.CURRENT_CFG_I_JAM 0x0900 6, ofHalf CUT.TIMING_END_MS 0x0980 0,
   ofHalf CUT.TIMING_HOME_MS 0x0980 2, ofByte CUT.JAM_PARTIAL_MS 0x0980 4, ofByte CUT.JAM_JAM_MS 0x0980 5,
   ofByte CUT.JAM_JAM_RETRIES 0x0980 6]

/-- The fields of LOOP. -/
def imgLoop : List ImgField :=
  (List.range 4).flatMap fun k =>
    let law := 0x0A00 + k
    let sup := 0x0A80 + k
    [⟨⟨LOOP.CFG_PRESENT.addr, LOOP.CFG_PRESENT.lo + k, 1⟩, law, fun d => bit (!d.isEmpty)⟩,
     ofByte ⟨LOOP.CFG_FIXED.addr, LOOP.CFG_FIXED.lo + k, 1⟩ law 2, ofByte ⟨LOOP.CFG_PWM_LOCK.addr, LOOP.CFG_PWM_LOCK.lo + k, 1⟩ law 3,
     ofHalf (LOOP.L_TIMING_DIV k) law 4, ofHalf (LOOP.L_TIMING_PHASE k) law 6,
     ofWord (LOOP.L_FE_LIMIT_LIMIT k) sup 0, ofHalf (LOOP.L_FE_TIME_LIMIT_MS k) sup 4, ofHalf (LOOP.L_OSC_WIN_MS k) sup 6,
     ofWord (LOOP.L_OSC_AMP_AMP k) sup 8, ofByte (LOOP.L_OSC_COUNT k) sup 12, ofByte (LOOP.L_OSC_SIGNAL k) sup 13,
     ofByte (LOOP.L_CTL_ACTION k) sup 14]

/-- The fields of VIDIN. -/
def imgVidin : List ImgField :=
  [ofByte VIDIN.RING_E_FIRST 0x0B11 0, ofByte VIDIN.RING_E_COUNT 0x0B11 1, ofByte VIDIN.RING_S_FIRST 0x0B12 0,
   ofByte VIDIN.RING_S_COUNT 0x0B12 1, ofWord VIDIN.WB_GAINS 0x0B80 0, ofHalf VIDIN.BLACK_LEVEL 0x0B81 0,
   ofByte VIDIN.AE_EN 0x0B83 0, ofByte VIDIN.AE_TARGET 0x0B83 1]

/-- The fields of SCAN. -/
def imgScan : List ImgField :=
  [ofByte SCAN.CFG_SYMBOLOGIES 0x0E80 0, ofByte SCAN.CFG_QR_MAX_VERSION 0x0E84 0, ofHalf SCAN.CFG_TIME_LIMIT 0x0E81 0]

/-- Consecutive banks from the lowest that ENC owns (R496). -/
def encBanks (map : List Nat) : List Nat :=
  let first := (List.range 12).find? fun b => u8 map b == 12
  match first with
  | none => []
  | some f => ((List.range (12 - f)).map (· + f)).takeWhile fun b => u8 map b == 12

/-- The fields of ENC. -/
def imgEnc : List ImgField :=
  [ofByte ENC.CFG_STORE_MODE 0x0C00 0, ⟨ENC.CFG_BANKS, 0x0010, fun m => ((encBanks m).map fun b => 2 ^ b).foldl (· + ·) 0⟩]

/-- The fields that a rod's section supplies. -/
def imgFields : Rod → List ImgField
  | .core => imgCore
  | .mover => imgMover
  | .therm => [ofHalf THERM.MON_PERIOD_MS 0x0480 0]
  | .supply => imgSupply
  | .print => imgPrint
  | .raster => imgRaster
  | .feed => imgFeed
  | .cut => imgCut
  | .loop => imgLoop
  | .vidin => imgVidin
  | .enc => imgEnc
  | .scan => imgScan
  | _ => []

/-- Fields set from the beads in force. -/
def State.putFields (s : State) (l : List ImgField) : State := l.foldl (fun s f => s.wr f.fld (f.val (s.beadV f.bead))) s

/-- LOOP.L_STAT.CLIENT (R443): 1 FEED's speed, 2 its position, 3 CUT. -/
def State.putClients (s : State) : State :=
  let cut := (s.bead? 0x0900).isSome
  (List.range 4).foldl (fun s k =>
    s.wr (LOOP.L_STAT_CLIENT k)
      (if !s.rdBit LOOP.CFG_PRESENT k then 0 else if k == s.speedLoop then 1 else if k == s.posLoop then 2
       else if cut && k == s.cutLoop then 3 else 0)) s

/-- The loops as their law graphs start them (R441, R460). -/
def State.putLoops (s : State) : State :=
  (List.range 4).foldl (fun s k =>
    let law := s.law k
    let coef := (List.range (u8 law 0)).map (stageCoef law)
    ((s.modLoop k fun _ => { coef := coef, shadow := coef }).wr (LOOP.L_STAT_STATE k) (bit (!law.isEmpty))).wr
      (LOOP.L_STAT_CLAMPED k) 0) { s with loops := {} }

/-- What FEED's beads give beside fields of their own: without feedback the divider counts microsteps (R413), and a sensor that is not
enabled reads as paper present, not near end and cover closed (R429). -/
def State.feedFields (s : State) : State :=
  let s := if s.rd FEED.CFG_FB_TYPE == 0 then (s.wr FEED.DIV_N (u16 (s.beadD 0x0804 []) 2)).wr FEED.DIV_M 1 else s
  let used := u8 (s.beadD 0x0884 [0, 0, 2, 0]) 1
  let s := if used.testBit 0 then s else s.wr FEED.STAT_PAPER 1
  let s := if used.testBit 1 then s else s.wr FEED.STAT_NEAR_END 0
  if used.testBit 2 then s else s.wr FEED.STAT_COVER 1

/-- A rod takes the configuration that the beads in force give it (step 3 of R68, step 4 of R94). A write window's lanes go (R185),
and a DUMP that is no longer enabled is released (R152). -/
def State.configRod (s : State) (r : Rod) : State :=
  let s := s.putFields (imgFields r)
  match r with
  | .core => if s.coreCause then s.wr CORE.DVFS_POINT 1 else s.putFields imgMaps
  | .print => { s with boot := { s.boot with strobesKnown := true, strobeIdle := 255 - s.rd PRINT.CFG_STB_POL } }
  | .loop => s.putLoops.putClients
  | .feed => s.feedFields.putClients
  | .cut => s.putClients
  | .flash => if s.fl.modes == 0 then s else s.flashSelect
  | .supply => if u8 s.dumpCfg 0 == 1 then s else s.wr SUPPLY.VM_DUMP_DUMP_ON 0
  | .raster => { s with raster := { s.raster with win := {} } }
  | .vidin => s.wr VIDIN.STAT_STATE 1
  | _ => s

/-! ### Beads taken and causes given -/

/-- The beads of an image's section for rod `n`. -/
def beadsOf (b : List Nat) (n : Nat) : List Bead := (sectionBeads b n).getD []

/-- The rods whose configuration an image gives: for a FULL image every rod on the part, for a PARTIAL one its targets. -/
def State.targetsOf (s : State) (b : List Nat) : List Rod :=
  Rod.all.filter fun r => s.has r && (!hdrPartial b || hasSection b r.idx)

/-- The causes that the beads of one rod have by themselves (R72): of each bead carried, and of each required bead absent. -/
def ownCauses (r : Rod) (l : List Bead) : List (Nat × Nat) :=
  (l.filterMap fun x => match beadCause x.num x.data with | some (some c) => some (x.num, c) | _ => none) ++
    ((requiredBeads r).filter fun n => !l.any fun x => x.num == n).map fun n => (n, causeMissing)

/-- Beads that no rod defines (R72). -/
def unknownBeads (l : List Bead) : Nat := (l.filter fun x => beadCause x.num x.data == none).length

/-- A rod that takes none of its section's beads once one of them has a cause (R74). -/
def allOrNone (r : Rod) : Bool := r == .core || r == .link || r == .flash

/-- The rod that a bead number belongs to is among `rs`. -/
def beadIn (rs : List Rod) (n : Nat) : Bool := rs.any fun r => r.idx == n / 256

/-- The beads that the rods `rs` take from an image, its causes left out. -/
def takenBeads (b : List Nat) (rs : List Rod) (causes : List (Nat × Nat)) : List Bead :=
  rs.flatMap fun r =>
    if allOrNone r && causes.any (fun c => c.1 / 256 == r.idx) then []
    else (beadsOf b r.idx).filter fun x => beadCause x.num x.data == some none && !causes.any fun c => c.1 == x.num

/-- The cause that a PARTIAL image of PRINT without RASTER has where the head's width differs from RASTER's in force. -/
def widthCause (v : BeadView) (rs : List Rod) : List (Nat × Nat) :=
  breach (rs.contains .print && !rs.contains .raster && when2 (v.val 0x0700) (v.val 0x0600) fun d h => u16 d 0 != u16 h 0) 0x0600
    causeRange

/-- Beads, carried numbers and causes in force once an image configures the rods `rs` (R68 step 3, R72 to R75, R568). DESIGN CHOICE
(log entry 56): the conditions between beads are checked for the beads of `rs` alone; a PARTIAL image gives no cause to a bead of
a rod that it does not target. -/
def State.newConfig (s : State) (b : List Nat) (rs : List Rod) : Img :=
  let own := rs.flatMap fun r => ownCauses r (beadsOf b r.idx)
  let keptB := if hdrPartial b then s.img.beads.filter fun x => !beadIn rs x.num else []
  let keptN := if hdrPartial b then s.img.carried.filter fun n => !beadIn rs n else []
  let keptC := if hdrPartial b then s.img.causes.filter fun c => !beadIn rs c.1 else []
  let carried := keptN ++ rs.flatMap fun r => (beadsOf b r.idx).map (·.num)
  let dead := rs.filter fun r => allOrNone r && own.any fun c => c.1 / 256 == r.idx
  let bad := (own ++ keptC).map (·.1) ++
    dead.flatMap fun r => (requiredBeads r) ++ (beadsOf b r.idx).map (·.num)
  let v : BeadView := { beads := keptB ++ takenBeads b rs own, carried := carried, bad := bad }
  let cross := (rs.flatMap fun r => crossCauses v r) ++ if hdrPartial b then widthCause v rs else []
  let causes := own ++ cross.filter fun c => !own.any fun o => o.1 == c.1
  { s.img with beads := keptB ++ takenBeads b rs causes, carried := carried, causes := keptC ++ causes }

/-- The bead faults of a rod: one for each cause it has, with the lowest bead that has it (R73, R527). -/
def State.raiseCauses (s : State) (r : Rod) : State :=
  [causeMissing, causeRange, causeLength].foldl (fun s c =>
    let l := (s.img.causes.filter fun x => x.1 / 256 == r.idx && x.2 == c).map (·.1)
    match l with
    | [] => s
    | n :: ns => s.raise (r.idx * 256 + c) 0 (ns.foldl min n)) s

/-- The rods take their configuration, their old causes go, and their new causes are raised. -/
def State.configRods (s : State) (b : List Nat) (rs : List Rod) : State :=
  let i := s.newConfig b rs
  let s := s.setImg fun _ => i
  let s := s.bump CORE.IMG_STAT_UNKNOWN_BEADS ((rs.map fun r => unknownBeads (beadsOf b r.idx)).foldl (· + ·) 0)
  let s := s.clearFaults (rs.flatMap fun r => [causeMissing, causeRange, causeLength].map fun c => r.idx * 256 + c)
  rs.foldl (fun s r => (s.configRod r).raiseCauses r) s

/-- RASTER scans the store after each image (R345). -/
def State.rescan (s : State) : State := if s.ready .flash then s.wr RASTER.STAT_STORE 1 else s

/-! ### A FULL image -/

/-- Rings that no longer lie in SHARED banks are disabled (R199). -/
def State.checkRings (s : State) : State :=
  (List.range 16).foldl (fun s q => if s.qEn q && !s.ringsShared q then (s.disableQueue q 2).queueVec q else s) s

/-- A FULL image is applied (R61, R62, R101, R119, R221). -/
def State.applyFull (s : State) (b : List Nat) (source : Nat) : State :=
  let s := ((s.wr CORE.IMG_STAT_STATE 3).wr CORE.IMG_STAT_SOURCE source).wr CORE.IMG_VER_ROLLBACK (hdrRollback b)
  let s := s.wr CORE.IMG_SERIAL_SERIAL (hdrSerial b)
  let s := s.configRods b (s.targetsOf b)
  let s := s.setImg fun i => { i with structHash := structuralHash b, subject := hdrSubject b, verify := .none }
  let s := if source = 3 then s else (s.wr FLASH.SLOTS_RUNNING source).wr (slotFld source) slotVerified
  let s := s.hbRestart.checkRings.rescan
  if s.coreCause then (s.wr CORE.DVFS_STAT_CUR_POINT 1).setClk fun c => { c with inForce := true }
  else s.dvfsStart (s.rd CORE.DVFS_POINT)

/-- The image that a host pushes: the bytes from its address to the end of main SRAM (R39). -/
def pushRegion (addr : Nat) : Nat := 0x600000 - addr

/-- A checked read of an image in SRAM: its head, and where steps 1 to 5 pass on it, its body (R39). -/
def State.readImage (s : State) (a region : Nat) (w : Offer) : State × List Nat :=
  let (s, head) := s.readMem .sram a (min region 0x180)
  if verifyHead s.otp region w head == 0 then
    let (s, body) := s.readMem .sram (a + 0x180) (hdrLen head - 0x180)
    (s, head ++ body)
  else (s, head)

/-- IMG_PUSH: a write of CORE.IMG_PUSH.GO in WAIT_HOST starts the verification (R59). -/
def State.writeImgPush (s : State) (w : Word) : State :=
  if field w 0 1 == 1 && s.rd CORE.IMG_STAT_STATE == 2 then
    (s.setImg fun i => { i with verify := .push (16 * s.rd CORE.IMG_ADDR_ADDR) }).wr CORE.IMG_STAT_STATE 1
  else s

/-- IMG_PUSH. -/
def execImgPush (w : BitVec 32) (s : State) : Host.Outcome State Fault Refusal :=
  .next (s.hostReg .core fun s => s.writeImgPush w)

/-- A boot slot's verification ends (R57). -/
def State.slotVerifiedAt (s : State) (k : Nat) (rest : List Nat) (named : Bool) : State :=
  let b := s.slotBytes k
  let n := verifyImage s.otp s.slotSize .boot b
  if n == 0 then s.applyFull b k
  else
    let s := s.failStep n
    match rest with
    | [] => s.waitHost
    | j :: rest => (if named then s.wr CORE.IMG_STAT_FALLBACK 1 else s).trySlot j rest false

/-- A pushed image's verification ends (R59). -/
def State.pushVerified (s : State) (a : Nat) : State :=
  let (s, b) := s.readImage a (pushRegion a) .boot
  let n := verifyImage s.otp (pushRegion a) .boot b
  if n == 0 then s.applyFull b 3 else (s.failStep n).waitHost

/-! ### A PARTIAL image -/

/-- The command is the first PARTIAL_APPLY in flight (R67). -/
def State.firstPartial (s : State) (t : Nat) : Bool :=
  ((s.cmds.find? fun c => c.op == 0x01).map fun c => c.tag == t).getD false

/-- PARTIAL_APPLY: the command starts when no other runs (R63, R67). -/
def execPartialApply (tag : Fin 64) (s : State) : Host.Outcome State Fault Refusal :=
  match s.cmd? tag.val with
  | none => .next s
  | some c =>
    if c.op == 0x01 && !c.started && s.awake && s.firstPartial tag.val then
      if !s.imageApplied then .next (s.endOpen tag.val stBadParam).settle
      else
        .next (((s.start tag.val).setImg fun i => { i with verify := .partialImg tag.val }).wr CORE.IMG_STAT_STATE 4)
    else .next s

/-- A rod is idle (R65): it has no command, and no stream or band is open. -/
def State.rodIdle (s : State) (r : Rod) : Bool :=
  !s.queuedFor [r] &&
    match r with
    | .raster => (List.range 3).all fun i => s.rd (bandState i) == 0
    | .vidin => s.rd VIDIN.STAT_SESSION == 0
    | .enc => s.rd ENC.STAT_STATE == 0
    | .dec => s.rd DEC.STAT_STATE == 0
    | _ => true

/-- Every target rod, and every rod that has one as a supplier, is idle (R65). -/
def State.targetsIdle (s : State) (rs : List Rod) : Bool :=
  Rod.all.all fun r => s.rodIdle r || !(rs.contains r || (suppliers r).any fun x => rs.contains x)

/-- The bits of a list of rods. -/
def rodMask (rs : List Rod) : Nat := (rs.map fun r => 2 ^ r.idx).foldl (· + ·) 0

/-- The self-test of these rods is due again. -/
def State.untested (s : State) (m : Nat) : State :=
  { s with boot := { s.boot with tested := s.boot.tested - (s.boot.tested &&& m) } }

/-- READY of a target rod is cleared and its vector asserted (step 2 of R68); for PRINT, a recheck ends (R293). -/
def State.clearReady (s : State) (r : Rod) : State :=
  ((if r == .print then s.abandonRecheck else s).wrBit CORE.ROD_READY_READY r.idx false).rodVec r

/-- An accepted partial image is applied (steps 1 to 4 of R68). -/
def State.applyPartial (s : State) (tag : Nat) (b : List Nat) (rs : List Rod) : State :=
  let s := rs.foldl (fun s r => s.clearReady r) s
  let s := (s.configRods b rs).untested (rodMask rs)
  let failed := rodMask (rs.filter fun r => s.img.causes.any fun c => c.1 / 256 == r.idx)
  let s := s.setImg fun i =>
    { i with apply := some { tag := tag, targets := rodMask rs, done := failed, ok := 0, since := s.clock } }
  (s.wr CORE.IMG_STAT_PARTIAL_ACTIVE 1).rescan

/-- Rods that a running PARTIAL_APPLY targets (R93): those that the header of its image names while it is verified, and those of its
apply, one bit each. -/
def State.partialTargets (s : State) : Nat :=
  (match s.img.verify with
    | .partialImg t => ((s.cmd? t).map fun c => hdrMask (s.bytes .sram c.p0 0x10)).getD 0
    | _ => 0) ||| (s.img.apply.map (·.targets)).getD 0

/-- A partial apply ends without a change. -/
def State.endPartial (s : State) (tag status : Nat) : State := (s.wr CORE.IMG_STAT_STATE 3).endOpen tag status

/-- A partial image's verification ends: it is rejected, refused or applied (R55, R62, R65, R66, R71). -/
def State.partialVerified (s : State) (tag : Nat) : State :=
  match s.cmd? tag with
  | none => s
  | some c =>
    let s := s.setImg fun i => { i with verify := .none }
    let (s, b) := s.readImage c.p0 c.p1 .partialApply
    let n := verifyImage s.otp c.p1 .partialApply b
    let rs := s.targetsOf b
    if n != 0 then (s.failStep n).endPartial tag stAuth
    else if !hdrPartial b then s.endPartial tag stBadParam
    else if s.base == .held && rs.any (fun r => [Rod.supply, .print, .feed, Sys2Proof.Rod.cut].contains r) then s.endPartial tag stHeld
    else if !s.targetsIdle rs then s.endPartial tag stBusy
    else if rs.isEmpty then (s.wr CORE.IMG_STAT_STATE 3).complete tag stOK 0 0
    else s.applyPartial tag b rs

/-- IMAGE_VERIFIED: the verification in progress ends. -/
def execImageVerified (s : State) : Host.Outcome State Fault Refusal :=
  if s.awake then
    match s.img.verify with
    | .none => .next s
    | .slot k rest named => .next (s.slotVerifiedAt k rest named).settle
    | .push a => .next (s.pushVerified a).settle
    | .partialImg t => .next (s.partialVerified t).settle
  else .next s

/-- A target rod's self-test has failed: its fault is set, and it has finished step 5 (R68, R69). -/
def State.targetFailed (s : State) (r : Rod) : State :=
  (s.raise (r.idx * 256 + causeSelfTest) 0 0).setImg fun i =>
    { i with apply := i.apply.map fun a => { a with done := a.done ||| (a.targets &&& 2 ^ r.idx) } }

/-- PARTIAL_APPLY_TIMEOUT: a target rod has not finished step 5 within 2 s of step 2 (R69). -/
def execPartialApplyTimeout (s : State) : Host.Outcome State Fault Refusal :=
  match s.img.apply with
  | none => .next s
  | some a =>
    let late := Rod.all.filter fun r => a.targets.testBit r.idx && !a.done.testBit r.idx
    .next (late.foldl (fun s r => s.targetFailed r) s).settle

/-! ### OTP commands -/

/-- A FULL image that came from a slot runs (R51, R53). -/
def State.slotRuns (s : State) : Bool := s.imageApplied && (s.rd CORE.IMG_STAT_SOURCE == 1 || s.rd CORE.IMG_STAT_SOURCE == 2)

/-- IMAGE_CONFIRM: the rollback counter is raised to the running image's value (R51). -/
def execImageConfirm (tag : Fin 64) (s : State) : Host.Outcome State Fault Refusal :=
  match s.cmd? tag.val with
  | none => .next s
  | some c =>
    if c.op == 0x02 && s.awake then
      if s.slotRuns then
        let s := { s with otp := { s.otp with rollback := max s.otp.rollback (s.rd CORE.IMG_VER_ROLLBACK) } }
        .next (s.complete tag.val stOK s.otp.rollback 0).settle
      else .next (s.complete tag.val stBadParam s.otp.rollback 0).settle
    else .next s

/-- FREEZE_COMMIT: the freeze hash is programmed (R53). -/
def execFreezeCommit (tag : Fin 64) (s : State) : Host.Outcome State Fault Refusal :=
  match s.cmd? tag.val with
  | none => .next s
  | some c =>
    if c.op == 0x03 && s.awake then
      if c.p0 == 0x465A && s.slotRuns && s.img.subject && s.otp.frozen.isNone then
        let s := { s with otp := { s.otp with frozen := some s.img.structHash } }
        .next (s.complete tag.val stOK (leNat (s.img.structHash.take 4)) 0).settle
      else .next (s.endOpen tag.val stBadParam).settle
    else .next s

end Sys2Proof.Machine
end

