-- ==== Sys2Proof/Machine/Mover.lean ====
section
/-! DEFINITION. MOVER's channels (R236 to R249): starting, appending, stopping, the end of a descriptor, and MOVE. -/

namespace Sys2Proof.Machine

def State.chState (s : State) (k : Nat) : Nat := s.rd (MOVER.CH_STATE_STATE k)

/-- The channel goes to IDLE and belongs to nobody. -/
def State.chanIdle (s : State) (k : Nat) : State :=
  ((s.wr (MOVER.CH_STATE_STATE k) chIdle).wr (MOVER.CH_STATE_OWNER k) 0).modChan k fun _ => {}

/-- The status of a MOVE that ends on a cause before it has written a byte (R240). -/
def moveStatus (cause : Nat) : Nat :=
  if cause == cProtected then stBusy
  else if cause == cEccSrc || cause == cEccDst || cause == cEccDesc then stEcc
  else if cause == cFlash then stNotReady
  else stBadParam

/-- The channel meets an error at `at_` in the descriptor at `desc` (R240, R247). -/
def State.chanError (s : State) (k cause desc at_ : Nat) : State :=
  let s := ((s.wr (MOVER.CH_STATE_CAUSE k) cause).wr (MOVER.CH_ERR_ADDR_ADDR k) at_).wr (MOVER.CH_CUR_ADDR k) desc
  let c := s.chan k
  match c.tag with
  | some t => (s.chanIdle k).complete t (if c.wrote then stTorn else moveStatus cause) c.ended (moveResult cause desc)
  | none => (s.wr (MOVER.CH_STATE_STATE k) chError).evtBit MOVER.EVT_ERR_CH k .mover

/-- The descriptor at SRAM address `a`, as stored (R227). -/
def State.descAt (s : State) (a : Nat) : Desc :=
  let w := fun o => s.word32 .sram (a + o)
  { src := w 0, dst := w 4, len := w 8 % 65536, count := w 8 / 65536, srcStride := ofBits 32 (w 0xC),
    dstStride := ofBits 32 (w 0x10), fill := (w 0x14).testBit 0, irq := (w 0x14).testBit 1 }

/-- The cause that the check of a descriptor finds, if one (R228, R247). -/
def State.descCause (s : State) (a : Nat) : Option Nat :=
  let d := s.descAt a
  if 4 ≤ s.word32 .sram (a + 0x14) || s.word32 .sram (a + 0x18) != 0 || d.len == 0 || d.count == 0 then some cDescField
  else if !s.srcOk d || !d.dstOk then some cRange
  else if d.overlaps then some cOverlap
  else none

/-- The channel starts the descriptor at `a`: its bytes 0x00–0x1B are read and checked (R228). -/
def State.startDesc (s : State) (k a : Nat) : State :=
  if a % 32 != 0 || !inSram a 32 then s.chanError k cDescAddr a a
  else
    let s := ((s.wr (MOVER.CH_CUR_ADDR k) a).wr (MOVER.CH_PROGRESS_LINE k) 0).wr (MOVER.CH_STATE_STATE k) chRun
    let bad := s.badWord .sram a 28
    let s := (s.readMem .sram a 28).1
    match bad, s.descCause a with
    | some w, _ => s.chanError k cEccDesc a (16 * w)
    | none, some cause => s.chanError k cause a a
    | none, none => s.modChan k fun c => { c with desc := s.descAt a, stuck := (s.descAt a).fromFlash && s.flashHeld }

/-- The chain ends: a register-owned channel parks and a MOVE completes (R236, R238, R240). -/
def State.chainEnd (s : State) (k : Nat) : State :=
  let c := s.chan k
  match c.tag with
  | some t =>
    match c.poisonAt with
    | some d => (s.chanIdle k).complete t stEcc c.ended (moveResult cPoisoned d)
    | none => (s.chanIdle k).complete t stOK c.ended 0
  | none =>
    let s := s.wr (MOVER.CH_STATE_STATE k) chParked
    if s.flag (MOVER.CH_CTRL_PARK_EV k) then s.evtBit MOVER.EVT_PARK_CH k .mover else s

/-- The channel reads the LINK word of its current descriptor, and with END set and appends counted reads it again (R228,
R243); `fuel` bounds the reads. -/
def State.readLink (s : State) (k : Nat) : Nat → State
  | 0 => s
  | fuel + 1 =>
    let cur := s.rd (MOVER.CH_CUR_ADDR k)
    let bad := s.badWord .sram (cur + 0x1C) 4
    let s := (s.readMem .sram (cur + 0x1C) 4).1
    let link := s.word32 .sram (cur + 0x1C)
    match bad with
    | some w => s.chanError k cEccDesc cur (16 * w)
    | none =>
      if link / 2 % 16 != 0 || 2 ^ 23 ≤ link then s.chanError k cDescField cur (cur + 0x1C)
      else if link % 2 == 0 then s.startDesc k link
      else if s.rd (MOVER.CH_STATE_APPEND_COUNT k) == 0 then s.chainEnd k
      else ((s.wr (MOVER.CH_STATE_APPEND_COUNT k) 0).bump (MOVER.CH_REREADS_COUNT k)).readLink k fuel

/-- The descriptor in progress has ended (R228, R238). -/
def State.descEnded (s : State) (k : Nat) : State :=
  let s := (s.bump (MOVER.CH_PROGRESS_DESC_DONE k)).modChan k fun c => { c with ended := c.ended + 1 }
  if (s.chan k).desc.irq then s.evtBit MOVER.EVT_DESC_CH k .mover else s

/-- A source in flash, which waits while FLASH erases or programs without suspend (R232, R261). -/
def State.flashWaits (s : State) (d : Desc) : Bool := d.fromFlash && s.flashHeld

/-- DESCRIPTOR_END: a channel in RUN has moved its descriptor's bytes, or met an error among them, and reads LINK. -/
def execDescriptorEnd (ch : Fin 16) (s : State) : Host.Outcome State Fault Refusal :=
  let k := ch.val
  let d := (s.chan k).desc
  if s.awake && s.chState k == chRun && !s.flashWaits d then
    let r := s.runBursts k d.bursts
    .next (match r.2 with
      | some e => (r.1.chanError k e.1 (r.1.rd (MOVER.CH_CUR_ADDR k)) e.2).settle
      | none => ((r.1.descEnded k).readLink k 2).settle)
  else .next s

/-- A chain starts at `a` on channel `k`, for an owner. -/
def State.startChain (s : State) (k a owner : Nat) (c : Chan) : State :=
  let s := ((s.modChan k fun _ => c).wr (MOVER.CH_STATE_OWNER k) owner).wr (MOVER.CH_STATE_APPEND_COUNT k) 0
  ((s.wr (MOVER.CH_STATE_CAUSE k) 0).wr (MOVER.CH_PROGRESS_DESC_DONE k) 0).startDesc k a

/-- GO, STOP and CLEAR (R237). -/
def State.chanGo (s : State) (k : Nat) : State :=
  if s.chState k == chIdle && s.ready .mover then s.startChain k (32 * s.rd (MOVER.CH_HEAD_ADDR k)) 1 {} else s
def State.chanStop (s : State) (k : Nat) : State :=
  if s.rd (MOVER.CH_STATE_OWNER k) == 2 then s
  else if s.chState k == chRun then (s.interrupt k).chanIdle k
  else if s.chState k == chParked then s.chanIdle k
  else s
def State.chanClear (s : State) (k : Nat) : State := if s.chState k == chError then s.chanIdle k else s

/-- A write of CHn_CTRL: the fields, then GO, STOP and CLEAR. -/
def State.writeChCtrl (s : State) (k : Nat) (w : Word) : State :=
  let s := s.wr (MOVER.CH_CTRL_WEIGHT k) (max 1 (min 8 (field w 4 4)))
  let s := (s.wr (MOVER.CH_CTRL_ECC_MODE k) (field w 8 1)).wr (MOVER.CH_CTRL_PARK_EV k) (field w 9 1)
  let s := if field w 0 1 == 1 then s.chanGo k else s
  let s := if field w 1 1 == 1 then s.chanStop k else s
  if field w 2 1 == 1 then s.chanClear k else s

/-- GO: a write of CHn_CTRL with GO set. -/
def execGo (ch : Fin 16) (w : BitVec 32) (s : State) : Host.Outcome State Fault Refusal :=
  if field w 0 1 == 1 then .next (s.hostReg .mover fun s => (s.writeChCtrl ch.val w).settle) else .next s

/-- STOP: a write of CHn_CTRL with STOP set. -/
def execStop (ch : Fin 16) (w : BitVec 32) (s : State) : Host.Outcome State Fault Refusal :=
  if field w 1 1 == 1 then .next (s.hostReg .mover fun s => (s.writeChCtrl ch.val w).settle) else .next s

/-- CLEAR: a write of CHn_CTRL with CLEAR set. -/
def execClear (ch : Fin 16) (w : BitVec 32) (s : State) : Host.Outcome State Fault Refusal :=
  if field w 2 1 == 1 then .next (s.hostReg .mover fun s => (s.writeChCtrl ch.val w).settle) else .next s

/-- A write of CHn_APPEND (R240, R243, R244). -/
def State.append (s : State) (k : Nat) : State :=
  let st := s.chState k
  if s.rd (MOVER.CH_STATE_OWNER k) == 2 || st == chIdle || st == chError then s.wr (MOVER.CH_STATE_APPEND_IGNORED k) 1
  else if st == chRun then s.bump (MOVER.CH_STATE_APPEND_COUNT k)
  else
    let cur := s.rd (MOVER.CH_CUR_ADDR k)
    let t := s.bump (MOVER.CH_REREADS_COUNT k)
    if s.badWord .sram (cur + 0x1C) 4 == none && s.word32 .sram (cur + 0x1C) % 2 == 1 &&
        s.word32 .sram (cur + 0x1C) / 2 % 16 == 0 && s.word32 .sram (cur + 0x1C) < 2 ^ 23 then
      (t.readMem .sram (cur + 0x1C) 4).1
    else t.readLink k 1

/-- APPEND: a write of CHn_APPEND. -/
def execAppend (ch : Fin 16) (s : State) : Host.Outcome State Fault Refusal :=
  .next (s.hostReg .mover fun s => (s.append ch.val).settle)

/-- The first MOVE in MOVER's order that has not started (R212). -/
def State.nextMove (s : State) : Option Nat := (s.cmds.find? fun c => c.op == 0x30 && !c.started).map (·.tag)

/-- The channel that a MOVE takes: the one it names, or the lowest free lower-deck channel, if it is free (R239). -/
def State.moveChan (s : State) (c : Cmd) : Option Nat :=
  let free := fun k => s.chState k == chIdle && s.rd (MOVER.CH_STATE_OWNER k) == 0 && !s.rdBit MOVER.CFG_UPPER k
  if c.p1.testBit 8 then (List.range 16).find? free else if free (c.p1 % 16) then some (c.p1 % 16) else none

/-- MOVE: a waiting MOVE takes its channel and starts its chain (R239). -/
def execMove (tag : Fin 64) (s : State) : Host.Outcome State Fault Refusal :=
  match s.cmd? tag.val with
  | none => .next s
  | some c =>
    if c.op == 0x30 && s.awake && s.ready .mover && s.nextMove == some tag.val then
      match s.moveChan c with
      | none => .next s
      | some k =>
        .next ((s.start tag.val).startChain k c.p0 2 { tag := some tag.val, poison := c.p1.testBit 9 }).settle
    else .next s

/-- ABORT and a rod reset of MOVER end a MOVE after the burst in flight (R94, R240). -/
def State.abortMove (s : State) (t : Nat) : State :=
  match (List.range 16).find? fun k => (s.chan k).tag == some t with
  | some k =>
    let s := s.interrupt k
    let c := s.chan k
    let cur := s.rd (MOVER.CH_CUR_ADDR k)
    (s.chanIdle k).complete t stAborted c.ended (moveResult 0 cur)
  | none => s

/-- A rod reset of MOVER ends every chain (R249). -/
def State.stopMover (s : State) : State :=
  (List.range 16).foldl (fun s k =>
    match (s.chan k).tag with
    | some t => s.abortMove t
    | none => (s.interrupt k).chanIdle k) s

end Sys2Proof.Machine
end

