-- ==== Sys2Proof/Machine/Symbols.lean ====
section
/-! DEFINITION. The symbols RASTER draws (R350 to R353): Code 128, EAN-13 and UPC-A as rows of modules, and QR as a
square of modules. The choices the manual makes (code sets, segmentation, version, mask) follow its text; the tables
of the standards it names stand here as the standards give them (PRESUMED, log entry 20). -/

namespace Sys2Proof.Machine

/-- Bars and spaces of the given widths, a bar first when `dark`. -/
def runs (dark : Bool) : List Nat → List Bool
  | [] => []
  | w :: ws => List.replicate w dark ++ runs (!dark) ws

/-! ### Code 128 (R350) -/

/-- The bar and space widths of values 0 to 106, six digits each, the Stop of 106 with seven. -/
def code128Widths : List Nat :=
  [212222, 222122, 222221, 121223, 121322, 131222, 122213, 122312, 132212, 221213, 221312, 231212, 112232, 122132,
   122231, 113222, 123122, 123221, 223211, 221132, 221231, 213212, 223112, 312131, 311222, 321122, 321221, 312212,
   322112, 322211, 212123, 212321, 232121, 111323, 131123, 131321, 112313, 132113, 132311, 211313, 231113, 231311,
   112133, 112331, 132131, 113123, 113321, 133121, 313121, 211331, 231131, 213113, 213311, 213131] ++
  [311123, 311321, 331121, 312113, 312311, 332111, 314111, 221411, 431111, 111224, 111422, 121124, 121421, 141122,
   141221, 112214, 112412, 122114, 122411, 142112, 142211, 241211, 221114, 413111, 241112, 134111, 111242, 121142,
   121241, 114212, 124112, 124211, 411212, 421112, 421211, 212141, 214121, 412121, 111143, 111341, 131141, 114113,
   114311, 411113, 411311, 113141, 114131, 311141, 411131, 211412, 211214, 211232, 2331112]

/-- The decimal digits of a number, most significant first; `n` digits at most. -/
def decDigits : Nat → Nat → List Nat
  | 0, _ => []
  | n + 1, v => if v = 0 then [] else decDigits n (v / 10) ++ [v % 10]

/-- The modules of one Code 128 value. -/
def code128Modules (v : Nat) : List Bool := runs true (decDigits 7 (code128Widths.getD v 0))

/-- The code sets. -/
inductive CodeSet where
  | a | b | c
deriving DecidableEq, Repr

def isDigit (c : Nat) : Bool := 0x30 ≤ c && c ≤ 0x39
def isCtl (c : Nat) : Bool := c < 0x20
def isLow (c : Nat) : Bool := 0x60 ≤ c && c ≤ 0x7F

/-- `digits` of R350: the digits at the front, not counting FNC1, and whether the run ends the data. -/
def digitRun : List Nat → Nat × Bool
  | [] => (0, true)
  | c :: cs =>
    if isDigit c then let r := digitRun cs; (r.1 + 1, r.2)
    else if c = 0xF1 then digitRun cs
    else (0, false)

/-- A control byte occurs before any byte of 0x60 to 0x7F. -/
def ctlFirst : List Nat → Bool
  | [] => false
  | c :: cs => if isCtl c then true else if isLow c then false else ctlFirst cs

/-- The code set the symbol starts in (R350, step 1). -/
def startSet (d : List Nat) : CodeSet :=
  let r := digitRun d
  if r.1 ≥ 4 || (r.2 && r.1 ≥ 2 && r.1 % 2 == 0) then .c else if ctlFirst d then .a else .b

/-- The value of a byte in set A or B. -/
def valueAB (set : CodeSet) (c : Nat) : Nat :=
  if c = 0xF1 then 102 else if c = 0xF2 then 97 else if c = 0xF3 then 96
  else if set == .a && c < 0x20 then c + 64 else c - 32

/-- Steps 2 to 5 of R350's procedure: the values after the start character. `fresh` is false once the digits at the
front have been judged for CODE C. DESIGN CHOICE (log entry 57): a digit in C that FNC1 parts from the next one is encoded in A or B,
as where fewer than 2 digits remain. -/
def code128Body : Nat → CodeSet → Bool → List Nat → List Nat
  | 0, _, _, _ => []
  | _ + 1, _, _, [] => []
  | n + 1, .c, _, c :: cs =>
    if c = 0xF1 then 102 :: code128Body n .c true cs
    else match c, cs with
      | c, d :: ds =>
        if isDigit c && isDigit d then ((c - 48) * 10 + (d - 48)) :: code128Body n .c true ds
        else if ctlFirst (c :: cs) then 101 :: code128Body n .a false (c :: cs)
        else 100 :: code128Body n .b false (c :: cs)
      | c, [] => if ctlFirst [c] then 101 :: code128Body n .a false [c] else 100 :: code128Body n .b false [c]
  | n + 1, set, fresh, c :: cs =>
    let r := digitRun (c :: cs)
    if fresh && (isDigit c || (c == 0xF1 && r.1 % 2 == 0)) && (r.1 ≥ 6 || (r.1 ≥ 4 && r.2)) then
      if r.1 % 2 == 1 then valueAB set c :: 99 :: code128Body n .c true cs
      else 99 :: code128Body n .c true (c :: cs)
    else if set == .a && isLow c then
      if (cs.head?.map isLow).getD false then 100 :: code128Body n .b false (c :: cs)
      else 98 :: valueAB .b c :: code128Body n .a true cs
    else if set == .b && isCtl c then
      if (cs.head?.map isCtl).getD false then 101 :: code128Body n .a false (c :: cs)
      else 98 :: valueAB .a c :: code128Body n .b true cs
    else valueAB set c :: code128Body n set true cs

/-- All values of a symbol: start, body, check character and Stop. -/
def code128Values (d : List Nat) : List Nat :=
  let set := startSet d
  let start := match set with | .a => 103 | .b => 104 | .c => 105
  let body := code128Body (3 * d.length + 3) set true d
  let sum := (body.zipIdx.map fun p => p.1 * (p.2 + 1)).foldl (· + ·) start
  start :: body ++ [sum % 103, 106]

/-- The bytes that Code 128 accepts (R350). -/
def code128Ok (d : List Nat) : Bool := d.all fun c => c < 0x80 || c == 0xF1 || c == 0xF2 || c == 0xF3

/-- The modules of a Code 128 symbol with its quiet zones of 10 modules: (11k + 55) wide. -/
def code128 (d : List Nat) : List Bool :=
  List.replicate 10 false ++ (code128Values d).flatMap code128Modules ++ List.replicate 10 false

/-! ### EAN-13 and UPC-A (R351) -/

/-- The seven modules of a digit in number set A; set C inverts them and set B reverses those of C. -/
def eanA (d : Nat) : List Bool := runs false (decDigits 4 ([3211, 2221, 2122, 1411, 1132, 1231, 1114, 1312, 1213, 3112].getD d 0))
def eanC (d : Nat) : List Bool := (eanA d).map (!·)
def eanB (d : Nat) : List Bool := (eanC d).reverse

/-- Which of the six left digits are in set B, by the leading digit: bit 5 for the first. -/
def eanParity (d : Nat) : Nat := [0, 0b001011, 0b001101, 0b001110, 0b010011, 0b011001, 0b011100, 0b010101, 0b010110, 0b011010].getD d 0

/-- The check digit of twelve digits. -/
def eanCheck (ds : List Nat) : Nat :=
  let sum := (ds.zipIdx.map fun p => if p.2 % 2 == 1 then 3 * p.1 else p.1).foldl (· + ·) 0
  (10 - sum % 10) % 10

/-- The thirteen digits of an EAN13 or UPCA item: UPC-A is EAN-13 with a leading 0; none where the data are not digits
or the check digit is wrong. -/
def eanDigits (upc : Bool) (d : List Nat) : Option (List Nat) :=
  if d.all isDigit then
    let ds := (if upc then [0] else []) ++ d.map (· - 48)
    if ds.length == 12 then some (ds ++ [eanCheck ds])
    else if ds.length == 13 && eanCheck (ds.take 12) == ds.getD 12 0 then some ds
    else none
  else none

/-- The modules of the data rows, and of the guard rows below them. -/
def eanRows (upc : Bool) (ds : List Nat) : List Bool × List Bool :=
  let par := eanParity (ds.getD 0 0)
  let left := ((ds.drop 1).take 6).zipIdx.map fun p => if par.testBit (5 - p.2) then eanB p.1 else eanA p.1
  let right := (ds.drop 7).map eanC
  let blank := List.replicate 42 false
  let q1 := List.replicate (if upc then 9 else 11) false
  let q2 := List.replicate (if upc then 9 else 7) false
  let g := [true, false, true]
  let m := [false, true, false, true, false]
  (q1 ++ g ++ left.flatten ++ m ++ right.flatten ++ g ++ q2,
   q1 ++ g ++ blank ++ m ++ blank ++ g ++ q2)

/-! ### QR (R352) -/

/-- The three modes, by their indicators. -/
def alnumVal (c : Nat) : Option Nat :=
  if isDigit c then some (c - 48)
  else if 0x41 ≤ c && c ≤ 0x5A then some (c - 55)
  else match c with
    | 0x20 => some 36 | 0x24 => some 37 | 0x25 => some 38 | 0x2A => some 39 | 0x2B => some 40
    | 0x2D => some 41 | 0x2E => some 42 | 0x2F => some 43 | 0x3A => some 44
    | _ => none

/-- A byte may stand in a segment of the mode: 1 numeric, 2 alphanumeric, 4 byte. -/
def qrFits (mode c : Nat) : Bool := if mode == 1 then isDigit c else if mode == 2 then (alnumVal c).isSome else true

/-- Bits of the character count, by mode and version. -/
def qrCountBits (mode ver : Nat) : Nat :=
  let i := if ver ≤ 9 then 0 else 1
  if mode == 1 then [10, 12].getD i 0 else if mode == 2 then [9, 11].getD i 0 else [8, 16].getD i 0

/-- Bits of a segment of `n` characters. -/
def qrSegBits (mode ver n : Nat) : Nat :=
  4 + qrCountBits mode ver +
    (if mode == 1 then 10 * (n / 3) + [0, 4, 7].getD (n % 3) 0 else if mode == 2 then 11 * (n / 2) + 6 * (n % 2) else 8 * n)

/-- A segmentation of a suffix: its bits and its segments, mode and length each. -/
structure QrPlan where
  bits : Nat := 0
  segs : List (Nat × Nat) := []
deriving DecidableEq, Repr

/-- The first differing segment of `a` has the lower mode. -/
def modesLess : List (Nat × Nat) → List (Nat × Nat) → Bool
  | a :: as, b :: bs => if a.1 < b.1 then true else if b.1 < a.1 then false else modesLess as bs
  | _, _ => false

/-- R352's order: fewer bits, then fewer segments, then the lower mode at the first difference. -/
def QrPlan.better (a b : QrPlan) : Bool :=
  if a.bits ≠ b.bits then a.bits < b.bits
  else if a.segs.length ≠ b.segs.length then a.segs.length < b.segs.length
  else modesLess a.segs b.segs

/-- The best plan that begins with a segment of the mode: the characters are taken one after another, `rest` holding
the best plan of each suffix behind them. -/
def qrBestOf (ver mode n : Nat) : List Nat → List QrPlan → Option QrPlan → Option QrPlan
  | c :: cs, p :: ps, best =>
    if qrFits mode c then
      let cand : QrPlan := { bits := qrSegBits mode ver (n + 1) + p.bits, segs := (mode, n + 1) :: p.segs }
      let best := match best with | none => cand | some b => if b.better cand then b else cand
      qrBestOf ver mode (n + 1) cs ps (some best)
    else best
  | _, _, best => best

/-- The best plan of every suffix, the whole first. -/
def qrPlans (ver : Nat) : List Nat → List QrPlan
  | [] => [{}]
  | c :: cs =>
    let rest := qrPlans ver cs
    let cands := [1, 2, 4].filterMap fun m => qrBestOf ver m 0 (c :: cs) rest none
    let best := cands.foldl (fun (b : Option QrPlan) x => match b with | none => some x | some y => if x.better y then some x else some y) none
    best.getD {} :: rest

/-- Error correction codewords per block and number of blocks, by level (L, M, Q, H) and version 1 to 25. -/
def qrEcPerBlock (ecc ver : Nat) : Nat :=
  (([[7, 10, 15, 20, 26, 18, 20, 24, 30, 18, 20, 24, 26, 30, 22, 24, 28, 30, 28, 28, 28, 28, 30, 30, 26],
     [10, 16, 26, 18, 24, 16, 18, 22, 22, 26, 30, 22, 22, 24, 24, 28, 28, 26, 26, 26, 26, 28, 28, 28, 28],
     [13, 22, 18, 26, 18, 24, 18, 22, 20, 24, 28, 26, 24, 20, 30, 24, 28, 28, 26, 30, 28, 30, 30, 30, 30],
     [17, 28, 22, 16, 22, 28, 26, 26, 24, 28, 24, 28, 22, 24, 24, 30, 28, 28, 26, 28, 30, 24, 30, 30, 30]] : List (List Nat)).getD ecc []).getD (ver - 1) 0
def qrBlocks (ecc ver : Nat) : Nat :=
  (([[1, 1, 1, 1, 1, 2, 2, 2, 2, 4, 4, 4, 4, 4, 6, 6, 6, 6, 7, 8, 8, 9, 9, 10, 12],
     [1, 1, 1, 2, 2, 4, 4, 4, 5, 5, 5, 8, 9, 9, 10, 10, 11, 13, 14, 16, 17, 17, 18, 20, 21],
     [1, 1, 2, 2, 4, 4, 6, 6, 8, 8, 8, 10, 12, 16, 12, 17, 16, 18, 21, 20, 23, 23, 25, 27, 29],
     [1, 1, 2, 4, 4, 4, 5, 6, 8, 8, 11, 11, 16, 16, 18, 16, 19, 21, 25, 25, 25, 34, 30, 32, 35]] : List (List Nat)).getD ecc []).getD (ver - 1) 0

/-- Centres of the alignment patterns along one axis. -/
def qrAlign (ver : Nat) : List Nat :=
  if ver = 1 then [] else
    let n := ver / 7 + 2
    let step := (ver * 4 + n * 2 + 1) / (n * 2 - 2) * 2
    6 :: ((List.range (n - 1)).map fun i => (4 * ver + 10) - i * step).reverse

/-- Codewords of a version, data and error correction together. -/
def qrCodewords (ver : Nat) : Nat :=
  let n := ver / 7 + 2
  let raw := (16 * ver + 128) * ver + 64
  let raw := if ver ≥ 2 then raw - ((25 * n - 10) * n - 55) else raw
  (if ver ≥ 7 then raw - 36 else raw) / 8

/-- Data codewords of a version at a level. -/
def qrDataWords (ecc ver : Nat) : Nat := qrCodewords ver - qrEcPerBlock ecc ver * qrBlocks ecc ver

/-- `n` bits of a number, most significant first. -/
def bitsOf (n v : Nat) : List Bool := (List.range n).map fun i => v.testBit (n - 1 - i)

/-- The number a list of bits spells, most significant first. -/
def ofBitList (l : List Bool) : Nat := l.foldl (fun v b => 2 * v + bit b) 0

/-- A list cut in pieces of `n`; `k` pieces at most. -/
def chunks {α : Type} (n : Nat) : Nat → List α → List (List α)
  | 0, _ => []
  | _ + 1, [] => []
  | k + 1, l => l.take n :: chunks n k (l.drop n)

/-- The bits of one segment. -/
def qrSegmentBits (ver mode : Nat) (d : List Nat) : List Bool :=
  bitsOf 4 mode ++ bitsOf (qrCountBits mode ver) d.length ++
    (if mode == 1 then
      (chunks 3 d.length (d.map (· - 48))).flatMap fun g => bitsOf ([0, 4, 7, 10].getD g.length 0) (g.foldl (fun v x => 10 * v + x) 0)
    else if mode == 2 then
      (chunks 2 d.length (d.map fun c => (alnumVal c).getD 0)).flatMap fun g =>
        if g.length == 2 then bitsOf 11 (45 * g.getD 0 0 + g.getD 1 0) else bitsOf 6 (g.getD 0 0)
    else d.flatMap fun c => bitsOf 8 c)

/-- The bits of a segmentation of the data. -/
def qrBits (ver : Nat) : List (Nat × Nat) → List Nat → List Bool
  | [], _ => []
  | (m, n) :: segs, d => qrSegmentBits ver m (d.take n) ++ qrBits ver segs (d.drop n)

/-- The product in the field of 256 elements with polynomial 0x11D. -/
def gfMul (a b : Nat) : Nat :=
  (List.range 8).foldl (fun acc i =>
    let acc := let d := 2 * acc; if d ≥ 256 then d ^^^ 0x11D else d
    if b.testBit (7 - i) then acc ^^^ a else acc) 0

/-- The generator polynomial of `n` check words, without its leading 1, highest power first. -/
def rsGen (n : Nat) : List Nat :=
  ((List.range n).foldl (fun (st : List Nat × Nat) _ =>
    let (g, root) := st
    let shifted := g.drop 1 ++ [0]
    (List.zipWith (fun a b => gfMul a root ^^^ b) g shifted, gfMul root 2)) (List.replicate (n - 1) 0 ++ [1], 1)).1

/-- The check words of a block. -/
def rsRemainder (gen d : List Nat) : List Nat :=
  d.foldl (fun rem b =>
    let f := b ^^^ rem.getD 0 0
    List.zipWith (fun r g => r ^^^ gfMul g f) (rem.drop 1 ++ [0]) gen) (gen.map fun _ => 0)

/-- The blocks' lists taken turn about, column by column. -/
def interleave (ls : List (List Nat)) : List Nat :=
  let n := (ls.map (·.length)).foldl max 0
  (List.range n).flatMap fun i => ls.filterMap fun l => l[i]?

/-- All codewords of a symbol in the order they are placed. -/
def qrWords (ecc ver : Nat) (bits : List Bool) : List Nat :=
  let cap := 8 * qrDataWords ecc ver
  let bits := bits ++ List.replicate (min 4 (cap - bits.length)) false
  let bits := bits ++ List.replicate ((8 - bits.length % 8) % 8) false
  let data := (chunks 8 (bits.length / 8) bits).map ofBitList
  let data := data ++ (List.range (qrDataWords ecc ver - data.length)).map fun i => if i % 2 == 0 then 0xEC else 0x11
  let nb := qrBlocks ecc ver
  let short := qrDataWords ecc ver / nb
  let longs := qrDataWords ecc ver % nb
  let sizes := (List.range nb).map fun i => if i < nb - longs then short else short + 1
  let blocks := (sizes.foldl (fun (st : List (List Nat) × List Nat) n => (st.1 ++ [st.2.take n], st.2.drop n)) ([], data)).1
  let gen := rsGen (qrEcPerBlock ecc ver)
  interleave blocks ++ interleave (blocks.map (rsRemainder gen))

/-- The remainder of a BCH code: `v` shifted left by `n`, reduced by the polynomial. -/
def bch (n poly v : Nat) : Nat :=
  (List.range 8).foldl (fun r i =>
    let k := 7 - i
    if r.testBit (k + n) then r ^^^ (poly <<< k) else r) (v <<< n)

/-- The 15 bits of format information. -/
def qrFormat (ecc mask : Nat) : Nat :=
  let d := [1, 0, 3, 2].getD ecc 0 * 8 + mask
  (d * 1024 + bch 10 0x537 d) ^^^ 0x5412

/-- The 18 bits of version information. -/
def qrVersionInfo (ver : Nat) : Nat := ver * 4096 + bch 12 0x1F25 ver

/-- A module that the function patterns fix, dark or light; none where codewords go. Row `y`, column `x`. -/
def qrFunction (ecc ver mask y x : Nat) : Option Bool :=
  let n := 4 * ver + 17
  let finder (cy cx : Int) : Option Bool :=
    let dy := ((y : Int) - cy).natAbs
    let dx := ((x : Int) - cx).natAbs
    let d := max dy dx
    if d ≤ 4 then some (d != 2 && d != 4) else none
  let align : Option Bool :=
    let ps := qrAlign ver
    let hit := ps.filterMap fun cy => if ((y : Int) - cy).natAbs ≤ 2 then some cy else none
    let hitx := ps.filterMap fun cx => if ((x : Int) - cx).natAbs ≤ 2 then some cx else none
    match hit, hitx with
    | cy :: _, cx :: _ =>
      let last := n - 7
      if (cy == 6 && cx == 6) || (cy == 6 && cx == last) || (cy == last && cx == 6) then none
      else some (max ((y : Int) - cy).natAbs ((x : Int) - cx).natAbs != 1)
    | _, _ => none
  let fmt := qrFormat ecc mask
  let format : Option Bool :=
    if x == 8 && y ≤ 5 then some (fmt.testBit y)
    else if x == 8 && y == 7 then some (fmt.testBit 6)
    else if x == 8 && y == 8 then some (fmt.testBit 7)
    else if y == 8 && x == 7 then some (fmt.testBit 8)
    else if y == 8 && x ≤ 5 then some (fmt.testBit (14 - x))
    else if y == 8 && n - 8 ≤ x then some (fmt.testBit (n - 1 - x))
    else if x == 8 && n - 7 ≤ y then some (fmt.testBit (y + 15 - n))
    else if x == 8 && y == n - 8 then some true
    else none
  let version : Option Bool :=
    if ver < 7 then none
    else
      let v := qrVersionInfo ver
      if y < 6 && n - 11 ≤ x && x < n - 8 then some (v.testBit (3 * y + (x + 11 - n)))
      else if x < 6 && n - 11 ≤ y && y < n - 8 then some (v.testBit (3 * x + (y + 11 - n)))
      else none
  (finder 3 3).orElse fun _ => (finder 3 (n - 4)).orElse fun _ => (finder (n - 4) 3).orElse fun _ =>
    format.orElse fun _ => version.orElse fun _ => align.orElse fun _ =>
      if y == 6 then some (x % 2 == 0) else if x == 6 then some (y % 2 == 0) else none

/-- The mask patterns. -/
def qrMask (mask y x : Nat) : Bool :=
  match mask with
  | 0 => (y + x) % 2 == 0
  | 1 => y % 2 == 0
  | 2 => x % 3 == 0
  | 3 => (y + x) % 3 == 0
  | 4 => (y / 2 + x / 3) % 2 == 0
  | 5 => y * x % 2 + y * x % 3 == 0
  | 6 => (y * x % 2 + y * x % 3) % 2 == 0
  | _ => ((y + x) % 2 + y * x % 3) % 2 == 0

/-- The places of codeword bits in their order: column pairs from the right, upward and downward in turn, the timing
column left out. -/
def qrPath (ver : Nat) : List (Nat × Nat) :=
  let n := 4 * ver + 17
  let cols := (List.range ((n - 1) / 2)).map fun i => let r := n - 1 - 2 * i; if r ≤ 6 then r - 1 else r
  cols.zipIdx.flatMap fun p =>
    (List.range n).flatMap fun v =>
      let y := if p.2 % 2 == 0 then n - 1 - v else v
      [(y, p.1), (y, p.1 - 1)]

/-- The square of modules for a mask, without the quiet zone. -/
def qrSquare (ecc ver mask : Nat) (words : List Nat) : List (List Bool) :=
  let n := 4 * ver + 17
  let free := (qrPath ver).filter fun p => (qrFunction ecc ver mask p.1 p.2).isNone
  let bits := words.flatMap (bitsOf 8)
  let placed := free.zip (bits ++ List.replicate (free.length - bits.length) false)
  let data := placed.foldl (fun (m : List (Nat × Bool)) p => (p.1.1 * n + p.1.2, p.2 ^^ qrMask mask p.1.1 p.1.2) :: m) []
  (List.range n).map fun y => (List.range n).map fun x =>
    match qrFunction ecc ver mask y x with
    | some b => b
    | none => ((data.find? fun e => e.1 == y * n + x).map (·.2)).getD false

/-- The penalty of runs of five or more in one row. -/
def qrRunPenalty : List Bool → Nat
  | l => (l.foldl (fun (st : Option Bool × Nat × Nat) b =>
      let (last, n, pen) := st
      if last == some b then (last, n + 1, if n + 1 == 5 then pen + 3 else if n + 1 > 5 then pen + 1 else pen)
      else (some b, 1, pen)) (none, 0, 0)).2.2

/-- The finder-like patterns of one row: 1011101 with four light modules before or behind it. -/
def qrFinderPenalty : List Bool → Nat
  | [] => 0
  | b :: l =>
    let p1 := [true, false, true, true, true, false, true, false, false, false, false]
    let p2 := [false, false, false, false, true, false, true, true, true, false, true]
    let here := (b :: l).take 11
    (if here == p1 || here == p2 then 40 else 0) + qrFinderPenalty l

/-- The penalty of 2 by 2 blocks of one colour in two rows. -/
def qrBoxPenalty : List Bool → List Bool → Nat
  | a :: b :: r, c :: d :: t => (if a == b && b == c && c == d then 3 else 0) + qrBoxPenalty (b :: r) (d :: t)
  | _, _ => 0

def qrBoxes : List (List Bool) → Nat
  | a :: b :: r => qrBoxPenalty a b + qrBoxes (b :: r)
  | _ => 0

/-- The standard's evaluation of a masked symbol. -/
def qrPenalty (m : List (List Bool)) : Nat :=
  let n := m.length
  let cols := (List.range n).map fun x => m.map fun r => r.getD x false
  let pad (l : List Bool) := List.replicate 4 false ++ l ++ List.replicate 4 false
  let dark := (m.map fun r => r.count true).foldl (· + ·) 0
  let k := ((20 * dark : Nat) - (10 * (n * n) : Nat) : Int).natAbs / (n * n)
  ((m ++ cols).map fun r => qrRunPenalty r + qrFinderPenalty (pad r)).foldl (· + ·) 0 + qrBoxes m + 10 * k

/-- A QR symbol with its quiet zone of 4 modules, or none where the data do not fit (R352). -/
def qr (ver ecc mask : Nat) (d : List Nat) : Option (List (List Bool)) :=
  let fits (v : Nat) : Option QrPlan :=
    match (qrPlans v d).head? with
    | some p => if p.bits ≤ 8 * qrDataWords ecc v then some p else none
    | none => none
  let pick : Option (Nat × QrPlan) :=
    if ver == 0 then (List.range 25).findSome? fun i => (fits (i + 1)).map (i + 1, ·)
    else (fits ver).map (ver, ·)
  pick.map fun vp =>
    let words := qrWords ecc vp.1 (qrBits vp.1 vp.2.segs d)
    let sq (k : Nat) := qrSquare ecc vp.1 k words
    let best :=
      if mask < 8 then sq mask
      else ((List.range 8).foldl (fun (b : Option (Nat × List (List Bool))) k =>
        let m := sq k
        let p := qrPenalty m
        match b with
        | none => some (p, m)
        | some q => if p < q.1 then some (p, m) else some q) none |>.map (·.2)).getD []
    let n := 4 * vp.1 + 25
    let blank := List.replicate 4 (List.replicate n false)
    blank ++ best.map (fun r => List.replicate 4 false ++ r ++ List.replicate 4 false) ++ blank

end Sys2Proof.Machine
end

