-- ==== Sys2Proof/Machine/Script.lean ====
section
/-! DEFINITION. Receipt scripts: what RASTER's check pass makes of a script (R326 to R340, R349 to R355), as a list of
bands or the first failing item with its cause, and how a band is drawn dot by dot (R354). -/

namespace Sys2Proof.Machine

/-- Bytes by offset, for a script or a resource as it stands in memory. -/
abbrev Reader := Nat → Nat

/-- The 16-bit and 32-bit little-endian values at an offset. -/
def Reader.w16 (r : Reader) (i : Nat) : Nat := r i + 256 * r (i + 1)
def Reader.w32 (r : Reader) (i : Nat) : Nat := r.w16 i + 65536 * r.w16 (i + 2)

/-- `n` bytes from an offset. -/
def Reader.list (r : Reader) (i : Nat) : Nat → List Nat
  | 0 => []
  | n + 1 => r i :: Reader.list r (i + 1) n

/-- A resource that RASTER has found: its length and its bytes. -/
structure ResView where
  len : Nat
  rd : Reader

/-- Failure causes of R362. -/
def causeHeader : Nat := 1
def causeOpcode : Nat := 2
def causeOperand : Nat := 3
def causeTruncated : Nat := 4
def causeNoResource : Nat := 5
def causeTooWide : Nat := 6
def causeTooTall : Nat := 7
def causeSymbol : Nat := 8
def causeChanged : Nat := 9
def causeEcc : Nat := 10
def causeFlashWait : Nat := 11
def causeLocation : Nat := 12

/-! ### Items (R330) -/

/-- One item: its offset, opcode, up to five operands and its data. -/
structure Item where
  off : Nat
  op : Nat
  a : Nat := 0
  b : Nat := 0
  c : Nat := 0
  d : Nat := 0
  data : List Nat := []
deriving DecidableEq, Repr

/-- Bytes of fixed operands of each opcode; none for an opcode not in the table. -/
def operandBytes (op : Nat) : Option Nat :=
  match op with
  | 0x00 | 0x03 | 0x40 => some 0
  | 0x01 | 0x02 | 0x04 | 0x05 | 0x06 | 0x11 | 0x20 | 0x41 => some 2
  | 0x10 | 0x12 | 0x13 | 0x15 | 0x22 | 0x42 => some 1
  | 0x14 | 0x21 => some 4
  | 0x30 | 0x31 | 0x32 => some 5
  | 0x33 => some 6
  | _ => none

/-- The operands of an item, and how many data bytes follow them. -/
def decodeItem (rd : Reader) (off op : Nat) : Item × Nat :=
  let i := off + 1
  let it : Item := { off := off, op := op }
  match op with
  | 0x01 => ({ it with a := rd.w16 i }, rd.w16 i)
  | 0x02 => ({ it with a := rd.w16 i }, 2 * rd.w16 i)
  | 0x04 | 0x05 | 0x06 | 0x20 | 0x41 => ({ it with a := rd.w16 i }, 0)
  | 0x10 | 0x12 | 0x13 | 0x15 | 0x22 | 0x42 => ({ it with a := rd i }, 0)
  | 0x11 => ({ it with a := rd i, b := rd (i + 1) }, 0)
  | 0x14 => ({ it with a := rd.w16 i, b := rd.w16 (i + 2) }, 0)
  | 0x21 => ({ it with a := rd.w16 i, b := rd.w16 (i + 2) }, rd.w16 (i + 2) * ((rd.w16 i + 7) / 8))
  | 0x30 | 0x31 | 0x32 => ({ it with a := rd.w16 i, b := rd (i + 2), c := rd (i + 3) }, rd (i + 4))
  | 0x33 => ({ it with a := rd i, b := rd (i + 1), c := rd (i + 2), d := rd (i + 3) }, rd.w16 (i + 4))
  | _ => (it, 0)

/-! ### UTF-8 (R338) -/

/-- Continuation bytes at the front, `n` at most. -/
def contBytes : Nat → List Nat → List Nat
  | 0, _ => []
  | _ + 1, [] => []
  | n + 1, b :: bs => if 0x80 ≤ b && b ≤ 0xBF then b :: contBytes n bs else []

/-- The first character of a text: its code point, or none where the sequence is invalid, and its length in bytes. -/
def utf8Step (b : Nat) (bs : List Nat) : Option Nat × Nat :=
  if b < 0x80 then (some b, 1)
  else
    let n := if 0xC0 ≤ b && b ≤ 0xDF then 1 else if 0xE0 ≤ b && b ≤ 0xEF then 2 else if 0xF0 ≤ b && b ≤ 0xF7 then 3 else 0
    let cs := contBytes n bs
    if n = 0 then (none, 1)
    else if cs.length < n then (none, cs.length + 1)
    else
      let v := cs.foldl (fun v c => v * 64 + (c - 0x80)) (b % 2 ^ (6 - n))
      let least := [0, 0x80, 0x800, 0x10000].getD n 0
      if v < least || (0xD800 ≤ v && v ≤ 0xDFFF) || 0x10FFFF < v then (none, n + 1) else (some v, n + 1)

/-- The characters of a text; none for each invalid sequence. -/
def utf8 : Nat → List Nat → List (Option Nat)
  | 0, _ => []
  | _ + 1, [] => []
  | n + 1, b :: bs => let r := utf8Step b bs; r.1 :: utf8 n ((b :: bs).drop r.2)

/-! ### Packs and logos (R341 to R343) -/

def ResView.lineHeight (p : ResView) : Nat := p.rd 0x0C
def ResView.ascent (p : ResView) : Nat := p.rd 0x0D
def ResView.glyphCount (p : ResView) : Nat := p.rd.w16 0x0E

/-- The glyph a pack maps a code point to (R342). -/
def ResView.mapped (p : ResView) (cp : Nat) : Option Nat :=
  (List.range (p.rd.w16 0x10)).findSome? fun k =>
    let e := p.rd.w32 0x14 + 8 * k
    let first := p.rd.w32 e
    if first ≤ cp && cp < first + p.rd.w16 (e + 4) then some (p.rd.w16 (e + 6) + (cp - first)) else none

/-- Rows of dots, bit 0 of each byte leftmost. -/
def dotRows (rd : Reader) (base w h : Nat) : List (List Bool) :=
  (List.range h).map fun y => (List.range w).map fun x => (rd (base + y * ((w + 7) / 8) + x / 8)).testBit (x % 8)

/-- The dots of an RLE logo (R343), a run cut at the end of its row; `n` dots at most. -/
def rleDots (w : Nat) : Nat → Nat → List Nat → List Bool
  | 0, _, _ => []
  | _, _, [] => []
  | n + 1, col, t :: ts =>
    let run := min (t % 128 + 1) (w - col)
    List.replicate run (decide (128 ≤ t)) ++ rleDots w n ((col + run) % max 1 w) ts

/-- A logo's rows. -/
def ResView.logoRows (p : ResView) : List (List Bool) :=
  let w := p.rd.w16 0x08
  let h := p.rd.w16 0x0A
  if p.rd 0x06 % 2 == 1 then
    let dots := rleDots w (w * h) 0 (p.rd.list 0x18 (p.len - 0x18))
    chunks w h (dots ++ List.replicate (w * h - dots.length) false)
  else dotRows p.rd 0x18 w h

/-! ### What is drawn -/

/-- Ink within a block: a rectangle of one colour, or dots scaled up and clipped to a window of columns. Lines count
from the block's top, columns on the canvas. -/
inductive Ink where
  | rect (x y w h : Int) (black : Bool)
  | dots (x y : Int) (sx sy : Nat) (rows : List (List Bool)) (black : Bool) (x0 x1 : Int)
deriving DecidableEq, Repr

/-- What an ink puts at a dot. -/
def Ink.at (x y : Int) : Ink → Option Bool
  | .rect rx ry w h black => if rx ≤ x && x < rx + w && ry ≤ y && y < ry + h then some black else none
  | .dots dx dy sx sy rows black x0 x1 =>
    if x0 ≤ x && x < x1 && dx ≤ x && dy ≤ y then
      if ((rows.getD ((y - dy).toNat / max 1 sy) []).getD ((x - dx).toNat / max 1 sx) false) then some black else none
    else none

/-- A block (R332): its height, whether it may be split, its ink and what rendering it counts. -/
structure Block where
  h : Nat
  feed : Bool := false
  inks : List Ink := []
  missing : Nat := 0
  bad : Nat := 0
  clipped : Nat := 0
deriving DecidableEq, Repr

/-- What a script comes to, in order, each with the offset of its item. -/
inductive Elem where
  | block (b : Block)
  | bandBreak
  | speed (v : Nat)
  | dark (v : Nat)
deriving DecidableEq, Repr

/-- A segment of a text row: its first column, its pack, scale and style, its glyphs with code points and advances, and
whether its glyphs are clipped left of LEFT (R334) and right of CANVAS − RIGHT (R335). -/
structure Seg where
  x : Int
  pack : ResView
  sx : Nat
  sy : Nat
  style : Nat
  gl : List (Nat × Nat × Nat)
  clipL : Bool
  clipR : Bool := false

def Seg.width (g : Seg) : Nat := (g.gl.map (·.2.2)).foldl (· + ·) 0

/-- What layout depends on beside the script: the canvas limits and beads, and how resources are found (R348). -/
structure LayEnv where
  headDots : Nat
  bandMax : Nat
  defPack : Nat
  defSpeed : Nat
  find : Nat → Nat → Option ResView

/-- The state of layout (R331). -/
structure Lay where
  canvas : Nat
  font : Nat
  sx : Nat := 1
  sy : Nat := 1
  style : Nat := 0
  align : Nat := 0
  left : Nat := 0
  right : Nat := 0
  gap : Nat := 0
  pen : Option Int := none
  segs : List Seg := []
  tabbed : Bool := false
  rtab : Option Nat := none
  missing : Nat := 0
  bad : Nat := 0
  out : List Elem := []

def Lay.penAt (l : Lay) : Int := l.pen.getD l.left
def Lay.area (l : Lay) : Nat := l.canvas - l.right - l.left
def Lay.emit (l : Lay) (b : Block) : Lay := { l with out := l.out ++ [.block b] }
def Lay.fresh (l : Lay) : Lay := { l with pen := none, segs := [], tabbed := false, rtab := none, missing := 0, bad := 0 }

/-- Where content of width `w` stands under ALIGN (R336). -/
def Lay.place (l : Lay) (w : Int) : Int :=
  match l.align with
  | 1 => l.left + ((l.area : Int) - w) / 2
  | 2 => l.left + (l.area : Int) - w
  | _ => l.left

/-- The bold stroke adds one dot to the advance (R337). -/
def isBold (style : Nat) : Bool := style.testBit 0

/-- The ink of one glyph at pen column `x`, and whether it is clipped (R333, R337). A row that does not begin at its block's first
line, but at `rowTop`, clips there itself; such a row is set at scale 1 (R353). -/
def glyphInk (p : ResView) (g sx sy style : Nat) (x : Int) (base rowH canvas : Nat) (x0 x1 : Int) (rowTop : Nat := 0) : List Ink × Bool :=
  let e := p.rd.w32 0x18 + 12 * g
  let bm := p.rd.w32 e
  let w := p.rd (e + 4)
  let h := p.rd (e + 5)
  let size := h * ((w + 7) / 8)
  if bm = 0 || w = 0 || h = 0 || p.len < bm + size then ([], false)
  else
    let gx := x + ofBits 8 (p.rd (e + 6)) * sx
    let gy := (base : Int) - ofBits 8 (p.rd (e + 7)) * sy
    let cut : Nat := if rowTop = 0 then 0 else ((rowTop : Int) - gy).toNat
    let rows := (dotRows p.rd bm w h).drop cut
    let black := !style.testBit 2
    let lo := max 0 x0
    let hi := min (canvas : Int) x1
    let wide : Int := w * sx + bit (isBold style)
    let ink (dx : Int) : Ink := .dots dx (gy + cut) sx sy rows black lo hi
    (if isBold style then [ink gx, ink (gx + 1)] else [ink gx],
     decide (gx < lo) || decide (hi < gx + wide) || decide (gy < rowTop) || decide ((rowH : Int) < gy + h * sy))

/-- A segment's ink within its row (R337), and how many of its glyphs are clipped. -/
def Seg.inks (g : Seg) (l : Lay) (base rowH : Nat) : List Ink × Nat :=
  let w := g.width
  let back : List Ink := if g.style.testBit 2 then [.rect g.x 0 w rowH true] else []
  let under : List Ink := if g.style.testBit 1 then [.rect g.x (base + g.sy) w g.sy true] else []
  let x0 : Int := if g.clipL then l.left else 0
  let x1 : Int := if g.clipR then (l.canvas : Int) - l.right else l.canvas
  let r := g.gl.foldl (fun (st : List Ink × Nat × Int) e =>
      let gi := glyphInk g.pack e.1 g.sx g.sy g.style st.2.2 base rowH l.canvas x0 x1
      (st.1 ++ gi.1, st.2.1 + bit gi.2, st.2.2 + e.2.2)) ([], 0, g.x)
  (back ++ r.1 ++ under, r.2.1)

/-- The row ends (R333, R336): a row without a segment leaves nothing, and what was counted goes on to the next row. -/
def Lay.endRow (l : Lay) : Lay :=
  match l.segs with
  | [] => { l.fresh with missing := l.missing, bad := l.bad }
  | g :: gs =>
    let all := g :: gs
    let rowH := (all.map fun s => s.pack.lineHeight * s.sy).foldl max 0 + l.gap
    let base := (all.map fun s => s.pack.ascent * s.sy).foldl max 0
    let stop := (all.map fun s => s.x + (s.width : Int)).getLast?.getD 0
    let shift := if l.tabbed then 0 else l.place (stop - g.x) - g.x
    let parts := all.map fun s => Seg.inks { s with x := s.x + shift } l base rowH
    (l.emit { h := rowH, inks := parts.flatMap (·.1), clipped := (parts.map (·.2)).foldl (· + ·) 0,
              missing := l.missing, bad := l.bad }).fresh

/-- A segment joins the row; a piece without glyphs is no segment. -/
def Lay.addSeg (l : Lay) (g : Seg) : Lay :=
  if g.gl.isEmpty then l
  else match l.rtab with
    | some x => { l with segs := l.segs ++ [{ g with x := (x : Int) - (g.width : Int), clipL := true }], pen := some x, rtab := none }
    | none => { l with segs := l.segs ++ [g], pen := some (g.x + (g.width : Int)) }

/-- The glyphs after the last space of a segment, and those before it. -/
def splitSpace (gl : List (Nat × Nat × Nat)) : Option (List (Nat × Nat × Nat) × List (Nat × Nat × Nat)) :=
  let tail := gl.reverse.takeWhile fun e => e.2.1 != 0x20
  if tail.length == gl.length then none
  else some (gl.take (gl.length - tail.length - 1), tail.reverse)

/-- One glyph of a TEXT segment is placed, with the wrap of R335. -/
def Lay.placeGlyph (l : Lay) (cur : Seg) (e : Nat × Nat × Nat) : Lay × Seg :=
  let limit : Int := (l.canvas : Int) - l.right
  let fits (c : Seg) : Bool := decide (c.x + (c.width : Int) + e.2.2 ≤ limit)
  if l.rtab.isSome || fits cur || (cur.gl.isEmpty && l.segs.isEmpty && decide (cur.x ≤ l.left)) then (l, { cur with gl := cur.gl ++ [e] })
  else match splitSpace cur.gl with
    | some (before, after) =>
      let l1 := (l.addSeg { cur with gl := before }).endRow
      let c1 := { cur with x := (l1.left : Int), gl := after }
      if after.isEmpty || fits c1 then (l1, { c1 with gl := after ++ [e] })
      else
        let l2 := (l1.addSeg c1).endRow
        (l2, { c1 with x := (l2.left : Int), gl := [e] })
    | none =>
      let l1 := (l.addSeg cur).endRow
      (l1, { cur with x := (l1.left : Int), gl := [e] })

/-- A blank row (R333). -/
def Lay.blankRow (l : Lay) (p : ResView) : Lay := (l.emit { h := p.lineHeight * l.sy + l.gap }).fresh

/-- NEWLINE. -/
def Lay.newline (l : Lay) (p : ResView) : Lay := if l.segs.isEmpty then l.blankRow p else l.endRow

/-- A segment in the style in force, at the pen. -/
def Lay.seg (l : Lay) (p : ResView) : Seg :=
  { x := l.penAt, pack := p, sx := l.sx, sy := l.sy, style := l.style, gl := [], clipL := false }

/-- The glyph of a character and what it counts: missing glyphs, bad sequences (R338, R339). -/
def glyphFor (p : ResView) : Option Nat → Nat × Nat × Nat
  | none => ((p.mapped 0xFFFD).getD 0, 0, 1)
  | some cp => match p.mapped cp with
    | some g => (g, 0, 0)
    | none => (0, 1, 0)

/-- The advance of a glyph in the style in force. -/
def Lay.advance (l : Lay) (p : ResView) (g : Nat) : Nat := p.rd (p.rd.w32 0x18 + 12 * g + 8) * l.sx + bit (isBold l.style)

/-- A TEXT item. -/
def Lay.text (l : Lay) (p : ResView) (d : List Nat) : Lay :=
  let r := (utf8 d.length d).foldl (fun (st : Lay × Seg) ch =>
    let (l, cur) := st
    if ch == some 0x0A then
      let l := (l.addSeg cur).newline p
      (l, l.seg p)
    else if (ch.map fun c => decide (c < 0x20) || c == 0x7F).getD false then (l, cur)
    else
      let g := glyphFor p ch
      let (l, cur) := l.placeGlyph cur (g.1, ch.getD 0xFFFD, l.advance p g.1)
      ({ l with missing := l.missing + g.2.1, bad := l.bad + g.2.2 }, cur)) (l, l.seg p)
  r.1.addSeg r.2

/-- A GLYPHS item. -/
def Lay.glyphs (l : Lay) (p : ResView) (ids : List Nat) : Lay :=
  let es := ids.map fun i => if i < p.glyphCount then (i, 0) else (0, 1)
  let l1 := l.addSeg { l.seg p with gl := es.map fun e => (e.1, 0xFFFFFF, l.advance p e.1), clipR := true }
  { l1 with missing := l1.missing + (es.map (·.2)).foldl (· + ·) 0 }

/-- The text under a bar code (R353): its ink, its height and its missing glyphs. -/
def hriInks (p : ResView) (chars : List Nat) (x : Int) (w top canvas : Nat) : List Ink × Nat × Nat :=
  let gs := chars.map fun c => glyphFor p (some c)
  let adv := gs.map fun g => p.rd (p.rd.w32 0x18 + 12 * g.1 + 8)
  let tw : Nat := adv.foldl (· + ·) 0
  let x0 : Int := x + ((w : Int) - (tw : Int)) / 2
  let r := (gs.zip adv).foldl (fun (st : List Ink × Int × Nat) e =>
    let gi := glyphInk p e.1.1 1 1 0 st.2.1 (top + p.ascent) (top + p.lineHeight) canvas 0 canvas top
    (st.1 ++ gi.1, st.2.1 + e.2, st.2.2 + bit gi.2)) ([], x0, 0)
  (r.1, (gs.map (·.2.1)).foldl (· + ·) 0, r.2.2)

/-- A row of modules as ink. -/
def moduleRow (m : List Bool) (x y : Int) (module h : Nat) (canvas : Nat) : Ink := .dots x y module h [m] true 0 canvas

/-! ### The check pass (R327) -/

/-- A text row that ends, by whatever item, is no taller than a band (R355). -/
def rowOk (env : LayEnv) (l l' : Lay) : Except Nat Lay :=
  if (l'.out.drop l.out.length).any fun e => match e with | .block b => !b.feed && decide (env.bandMax < b.h) | _ => false
  then .error causeTooTall else .ok l'

/-- One item is checked and laid out, or fails with its cause. -/
def layItem (env : LayEnv) (l : Lay) (it : Item) : Except Nat Lay :=
  let pack (k : ResView → Except Nat Lay) : Except Nat Lay :=
    match env.find 1 l.font with | some p => k p | none => .error causeNoResource
  let own (w : Nat) (b : Int → Block) : Except Nat Lay :=
    match rowOk env l l.endRow with
    | .error c => .error c
    | .ok l =>
      if l.area < w then .error causeTooWide
      else
        let blk := b (l.place w)
        if env.bandMax < blk.h then .error causeTooTall else .ok (l.emit blk)
  let rowOk (l' : Lay) : Except Nat Lay := rowOk env l l'
  match it.op with
  | 0x00 => rowOk l.endRow
  | 0x01 => pack fun p => rowOk (l.text p it.data)
  | 0x02 => pack fun p => rowOk (l.glyphs p ((chunks 2 it.data.length it.data).map leNat))
  | 0x03 => pack fun p => rowOk (l.newline p)
  | 0x04 => rowOk (l.endRow.emit { h := it.a, feed := true })
  | 0x05 =>
    if l.left ≤ it.a && it.a < l.canvas - l.right then
      let l := if (it.a : Int) < l.penAt then l.endRow else l
      rowOk { l with pen := some it.a, tabbed := true, rtab := none }
    else .error causeOperand
  | 0x06 =>
    if l.left + 1 ≤ it.a && it.a ≤ l.canvas - l.right then
      let l := if (it.a : Int) < l.penAt then l.endRow else l
      rowOk { l with tabbed := true, rtab := some it.a }
    else .error causeOperand
  | 0x10 => match env.find 1 it.a with | some _ => .ok { l with font := it.a } | none => .error causeNoResource
  | 0x11 => .ok { l with sx := it.a, sy := it.b }
  | 0x12 => .ok { l with style := it.a }
  | 0x13 => .ok { l with align := it.a }
  | 0x14 => .ok { l with left := it.a, right := it.b }
  | 0x15 => .ok { l with gap := it.a }
  | 0x20 =>
    match env.find 2 it.a with
    | none => .error causeNoResource
    | some p => own (p.rd.w16 0x08) fun x => { h := p.rd.w16 0x0A, inks := [.dots x 0 1 1 p.logoRows true 0 l.canvas] }
  | 0x21 => own it.a fun x => { h := it.b, inks := [.dots x 0 1 1 (dotRows (fun i => it.data.getD i 0) 0 it.a it.b) true 0 l.canvas] }
  | 0x22 => own 0 fun _ => { h := it.a, inks := [.rect l.left 0 l.area it.a true] }
  | 0x30 | 0x31 | 0x32 =>
    let upc := it.op == 0x32
    let sym : Option (List Bool × List Bool × List Nat) :=
      if it.op == 0x30 then
        if code128Ok it.data then some (code128 it.data, [], it.data.filter fun c => 0x20 ≤ c && c ≤ 0x7E) else none
      else (eanDigits upc it.data).map fun ds =>
        let r := eanRows upc ds
        (r.1, r.2, (ds.drop (bit upc)).map (· + 48))
    if it.op != 0x30 && !(it.data.all fun c => 0x30 ≤ c && c ≤ 0x39) then .error causeOperand
    else match sym with
    | none => .error causeSymbol
    | some (m, guard, chars) =>
      let w := m.length * it.b
      let tall := if it.op == 0x30 then 0 else 5 * it.b
      let bars (x : Int) : List Ink := moduleRow m x 0 it.b it.a l.canvas ::
        (if tall = 0 then [] else [moduleRow guard x it.a it.b tall l.canvas])
      if it.c == 1 then
        pack fun p => own w fun x =>
          let top := it.a + tall + 2
          let t := hriInks p chars x w top l.canvas
          { h := top + p.lineHeight, inks := bars x ++ t.1, missing := t.2.1, clipped := t.2.2 }
      else own w fun x => { h := it.a + tall, inks := bars x }
  | 0x33 =>
    match qr it.a it.b it.d it.data with
    | none => .error causeSymbol
    | some m => own (m.length * it.c) fun x => { h := m.length * it.c, inks := [.dots x 0 it.c it.c m true 0 l.canvas] }
  | 0x40 => rowOk (let l := l.endRow; { l with out := l.out ++ [.bandBreak] })
  | 0x41 => rowOk (let l := l.endRow; { l with out := l.out ++ [.speed it.a] })
  | 0x42 => rowOk (let l := l.endRow; { l with out := l.out ++ [.dark it.a] })
  | _ => .error causeOpcode

/-- The fixed operands lie in the ranges of R330. -/
def operandsOk (l : Lay) (it : Item) (dataLen : Nat) : Bool :=
  let within (lo v hi : Nat) : Bool := lo ≤ v && v ≤ hi
  match it.op with
  | 0x01 => within 1 it.a 65535
  | 0x02 => within 1 it.a 32767
  | 0x04 => within 1 it.a 4096
  | 0x10 | 0x22 => within 1 it.a 255
  | 0x11 => within 1 it.a 4 && within 1 it.b 4
  | 0x12 => it.a < 8
  | 0x13 => it.a ≤ 2
  | 0x14 => it.a + it.b + 8 ≤ l.canvas
  | 0x21 => within 1 it.a l.canvas && within 1 it.b 4096
  | 0x30 => within 8 it.a 1024 && within 1 it.b 8 && it.c ≤ 1 && within 1 dataLen 80
  | 0x31 => within 8 it.a 1024 && within 1 it.b 8 && it.c ≤ 1 && within 12 dataLen 13
  | 0x32 => within 8 it.a 1024 && within 1 it.b 8 && it.c ≤ 1 && within 11 dataLen 12
  | 0x33 => it.a ≤ 25 && it.b ≤ 3 && within 1 it.c 16 && (it.d ≤ 7 || it.d == 0xFF) && within 1 dataLen 1273
  | 0x41 => within 10 it.a 250
  | 0x42 => within 50 it.a 150
  | _ => true

/-- What the items come to: the layout with the offset behind each element's item, and the failing item if one fails.
`n` bounds the items. -/
def layItems (env : LayEnv) (rd : Reader) (len : Nat) : Nat → Nat → Nat → Lay → List (Nat × Elem) → List (Nat × Elem) × Option (Nat × Nat)
  | 0, last, _, _, acc => (acc, some (last, causeTruncated))
  | n + 1, last, off, l, acc =>
    if len ≤ off then (acc, some (last, causeTruncated))
    else
      let op := rd off
      match operandBytes op with
      | none => (acc, some (off, causeOpcode))
      | some k =>
        if len < off + 1 + k then (acc, some (off, causeTruncated))
        else
          let (it, dl) := decodeItem rd off op
          if !operandsOk l it dl then (acc, some (off, causeOperand))
          else if len < off + 1 + k + dl then (acc, some (off, causeTruncated))
          else
            let it := { it with data := rd.list (off + 1 + k) dl }
            match layItem env l it with
            | .error c => (acc, some (off, c))
            | .ok l' =>
              let acc := acc ++ (l'.out.drop l.out.length).map (off, ·)
              if op = 0 then (acc, if len = off + 1 then none else some (off, causeTruncated))
              else layItems env rd len n off (off + 1 + k + dl) l' acc

/-! ### Bands (R355) -/

/-- A band: its lines, its speed and darkness, its blocks with their first lines and, in the same order, the offsets of their items,
and the last of these. -/
structure BandPlan where
  lines : Nat := 0
  speed : Nat
  dark : Nat
  parts : List (Nat × Block) := []
  offs : List Nat := []
  lastOff : Nat := 0
deriving DecidableEq, Repr

/-- Bands closed so far, the open band, and the speed and darkness in force. -/
structure Banding where
  done : List BandPlan := []
  cur : Option BandPlan := none
  speed : Nat
  dark : Nat

/-- The open band closes; it never closes with zero lines. -/
def Banding.close (b : Banding) : Banding :=
  match b.cur with
  | some c => if c.lines = 0 then { b with cur := none } else { b with done := b.done ++ [c], cur := none }
  | none => b

def Banding.put (b : Banding) (off : Nat) (blk : Block) : Banding :=
  let c : BandPlan := b.cur.getD { speed := b.speed, dark := b.dark }
  { b with cur := some { c with parts := c.parts ++ [(c.lines, blk)], offs := c.offs ++ [off], lines := c.lines + blk.h, lastOff := off } }

def Banding.lines (b : Banding) : Nat := (b.cur.map (·.lines)).getD 0

/-- Blank lines, split across bands where they must be; `n` bounds the pieces. -/
def Banding.feed (max off : Nat) : Nat → Banding → Nat → Banding
  | 0, b, _ => b
  | n + 1, b, h =>
    if h = 0 then b
    else
      let room := max - b.lines
      if h ≤ room then b.put off { h := h, feed := true }
      else
        let b := if room = 0 then b else b.put off { h := room, feed := true }
        Banding.feed max off n b.close (h - room)

def Banding.step (max : Nat) (b : Banding) (e : Nat × Elem) : Banding :=
  match e.2 with
  | .block blk =>
    if blk.feed then Banding.feed max e.1 (blk.h + 1) b blk.h
    else
      let b := if b.lines + blk.h > max then b.close else b
      b.put e.1 blk
  | .bandBreak => b.close
  | .speed v => let b := if ((b.cur.map fun c => c.speed != v).getD false) then b.close else b; { b with speed := v }
  | .dark v => let b := if ((b.cur.map fun c => c.dark != v).getD false) then b.close else b; { b with dark := v }

/-- What a script comes to: its canvas, its bands, and the failing item with its cause if one fails. -/
structure ScriptPlan where
  canvas : Nat := 0
  noShift : Bool := false
  bands : List BandPlan := []
  err : Option (Nat × Nat) := none
deriving DecidableEq, Repr

/-- The check pass over a whole script of `len` bytes (R327, R329). -/
def planScript (env : LayEnv) (rd : Reader) (len : Nat) : ScriptPlan :=
  let canvas := if rd.w16 0x0C = 0 then env.headDots else rd.w16 0x0C
  if !(17 ≤ len && len ≤ 262144 && rd.w32 0 == 0x5352424D && rd.w16 4 == 1 && rd.w16 6 < 2 && rd.w32 8 == len &&
      rd.w16 0x0E == 0 && 8 ≤ canvas && canvas ≤ env.headDots) then
    { err := some (0, causeHeader) }
  else
    let r := layItems env rd len len 16 16 { canvas := canvas, font := env.defPack } []
    let b := (r.1.foldl (Banding.step env.bandMax) { speed := env.defSpeed, dark := 100 }).close
    { canvas := canvas, noShift := rd 6 % 2 == 1, bands := b.done, err := r.2 }

/-! ### Drawing (R354) -/

/-- The colour of canvas column `x` on line `y` of a band. -/
def BandPlan.dot (b : BandPlan) (x : Int) (y : Nat) : Bool :=
  match b.parts.find? fun p => p.1 ≤ y && y < p.1 + p.2.h with
  | none => false
  | some p => p.2.inks.foldl (fun c i => (i.at x ((y : Int) - p.1)).getD c) false

/-- The offset of the item whose block holds line `y` of a band. -/
def BandPlan.itemOf (b : BandPlan) (y : Nat) : Nat := (((b.parts.zip b.offs).filter fun p => p.1.1 ≤ y).getLast?.map (·.2)).getD b.lastOff

/-- One line of a band as bytes: head dot `d` in byte d / 8, bit d mod 8; canvas column c on head dot `x0 + c`. -/
def BandPlan.lineBytes (b : BandPlan) (canvas lineBytes : Nat) (x0 : Int) (y : Nat) : List Nat :=
  (List.range lineBytes).map fun k =>
    (List.range 8).foldl (fun v i =>
      let c : Int := (8 * k + i : Nat) - x0
      v + (if 0 ≤ c && c < canvas && b.dot c y then 2 ^ i else 0)) 0

/-- What rendering a band counts: missing glyphs, bad sequences, clipped glyphs. -/
def BandPlan.counts (b : BandPlan) : Nat × Nat × Nat :=
  b.parts.foldl (fun st p => (st.1 + p.2.missing, st.2.1 + p.2.bad, st.2.2 + p.2.clipped)) (0, 0, 0)

end Sys2Proof.Machine
end

