-- ==== Sys2Proof/Machine/Raster.lean ====
section
/-! DEFINITION. RASTER: finding and checking resources (R341 to R348), the check pass of a RECEIPT (R326 to R330, R360,
R361), and rendering and committing its bands (R349, R354 to R358). -/

namespace Sys2Proof.Machine

/-! ### Resources -/

/-- The store's first byte in flash and the byte past its end (R263). -/
def State.storeBase (s : State) : Nat := if s.flag FLASH.STAT_GEOM then 0x820000 else 0x420000
def State.storeEnd (s : State) : Nat := (s.rd FLASH.STAT_SIZE_MIB - 1) * 0x100000

/-- The bytes of a resource where it lies; a word with an uncorrectable error reads 0. -/
def State.resView (s : State) (r : Res) : ResView :=
  { len := r.len
    rd := fun i =>
      if r.store then (Store.get 0xFF s.flash (r.addr + i)).toNat
      else if (s.ue .sram).contains ((r.addr + i) / 16) then 0 else s.byte .sram (r.addr + i) }

/-- The CRC over every byte but the four at `at_`. -/
def ResView.crc (p : ResView) (at_ : Nat) : Nat :=
  crc32 (p.rd.list 0 at_ ++ p.rd.list (at_ + 4) (p.len - at_ - 4))

/-- The conditions of R341 and R342 on a pack, its CRC apart. -/
def packOk (p : ResView) (id : Nat) : Bool :=
  let n := p.rd.w16 0x0E
  let rc := p.rd.w16 0x10
  let ranges := p.rd.w32 0x14
  let glyphs := p.rd.w32 0x18
  let entry (k : Nat) : Nat × Nat × Nat := (p.rd.w32 (ranges + 8 * k), p.rd.w16 (ranges + 8 * k + 4), p.rd.w16 (ranges + 8 * k + 6))
  p.rd.w32 0 == 0x5047424D && p.rd.w16 4 == 1 && p.rd 6 == id && 1 ≤ id && id ≤ 255 && p.rd 7 == 0 && p.rd.w32 8 == p.len &&
    1 ≤ p.rd 0x0C && 1 ≤ p.rd 0x0D && p.rd 0x0D ≤ p.rd 0x0C && 1 ≤ n && rc ≤ 8192 && p.rd.w16 0x12 == 0 &&
    ranges % 4 == 0 && glyphs % 4 == 0 && ranges + 8 * rc ≤ p.len && glyphs + 12 * n ≤ p.len &&
    ((List.range rc).all fun k =>
      let e := entry k
      1 ≤ e.2.1 && e.1 + e.2.1 ≤ 0x110000 && e.2.2 + e.2.1 ≤ n && (k == 0 || (entry (k - 1)).1 + (entry (k - 1)).2.1 ≤ e.1)) &&
    (List.range n).all fun g =>
      let a := glyphs + 12 * g
      let bm := p.rd.w32 a
      p.rd (a + 9) == 0 && p.rd (a + 10) == 0 && p.rd (a + 11) == 0 &&
        (bm == 0 || bm + p.rd (a + 5) * ((p.rd (a + 4) + 7) / 8) ≤ p.len)

/-- An RLE stream ends exactly at the last dot, with no run across the end of a row (R343): `col` dots of the row and
`rows` rows are left. -/
def rleOk (w : Nat) : Nat → Nat → List Nat → Bool
  | 0, _, [] => true
  | _, _, [] => false
  | rows, col, t :: ts =>
    let n := t % 128 + 1
    decide (0 < rows) && decide (n ≤ col) && (if n == col then rleOk w (rows - 1) w ts else rleOk w rows (col - n) ts)

/-- The conditions of R343 on a logo, its CRC apart. -/
def logoOk (p : ResView) (id : Nat) : Bool :=
  let w := p.rd.w16 8
  let h := p.rd.w16 0x0A
  p.rd.w32 0 == 0x474C424D && p.rd.w16 4 == 1 && p.rd.w16 6 < 2 && 1 ≤ w && w ≤ 1024 && 1 ≤ h && h ≤ 4096 &&
    p.rd.w16 0x0C == id && p.rd.w16 0x0E == 0 && p.rd.w32 0x10 == p.len &&
    (if p.rd.w16 6 == 1 then rleOk w h w (p.rd.list 0x18 (p.len - 0x18)) else p.len == 0x18 + h * ((w + 7) / 8))

/-- A resource checked in full (R341 to R345): 0 OK, 3 FORMAT, 4 CRC, as RES_STAT.RESULT. -/
def State.checkRes (s : State) (r : Res) : Nat :=
  let p := s.resView r
  if r.ty == 1 then
    if r.len < 0x20 || !packOk p r.id then 3 else if p.crc 0x1C == p.rd.w32 0x1C then 0 else 4
  else if r.len < 0x18 || !logoOk p r.id then 3 else if p.crc 0x14 == p.rd.w32 0x14 then 0 else 4

/-- STORE_SCAN: the store's directory and every resource it names are checked (R344, R345). -/
def execStoreScan (s : State) : Host.Outcome State Fault Refusal :=
  if s.awake && s.ready .flash && s.imageApplied && !s.flashHeld then
    let s := s.flashRead
    let b := s.storeBase
    let n := leNat (s.flashBytes (b + 4) 2)
    let head := s.flashBytes b 12
    let all := s.flashBytes (b + 0x10) (16 * n)
    let ok := leNat (head.take 4) == 0x4453424D && n ≤ 255 && leNat (head.drop 6 |>.take 2) == 1 &&
      leNat (head.drop 8) == 0 && crc32 (head ++ all) == leNat (s.flashBytes (b + 12) 4)
    if !ok then
      .next ((({ s with raster := { s.raster with store := [] } }.wr RASTER.STAT_STORE 3).wr RASTER.STAT_STORE_ENTRIES 0).wr
        RASTER.STAT_STORE_REJECTED 0).settle
    else
      let kept := (List.range n).foldl (fun (acc : List Res) k =>
        let e := (all.drop (16 * k)).take 16
        let r : Res := { ty := u8 e 0, id := u16 e 2, store := true, addr := b + u32 e 4, len := u32 e 8 }
        let good := (r.ty == 1 || r.ty == 2) && u8 e 1 == 0 && u32 e 12 == 0 && r.addr + r.len ≤ s.storeEnd &&
          s.checkRes r == 0
        if good then acc ++ [r] else acc) []
      let s := { s with raster := { s.raster with store := kept } }
      .next (((s.wr RASTER.STAT_STORE 2).wr RASTER.STAT_STORE_ENTRIES kept.length).wr RASTER.STAT_STORE_REJECTED
        (n - kept.length)).settle
  else .next s

/-! ### Registrations (R347) -/

/-- A band bank. -/
def State.isBandBank (s : State) (b : Nat) : Bool := (List.range 3).any fun i => s.rd (bandBank i) == b

/-- A range where scripts and registered resources may lie: SHARED banks, or RASTER's own that are not band banks. -/
def State.rasterRange (s : State) (a len : Nat) : Bool :=
  inSram a len && len != 0 && (banksOf a len).all fun b =>
    match s.bankOwner b with
    | none => true
    | some r => r == .raster && !s.isBandBank b

/-- A registration ends with a result, sets DONE and asserts vector 23. -/
def State.resResult (s : State) (r : Nat) : State :=
  (((s.wr RASTER.RES_STAT_PENDING 0).wr RASTER.RES_STAT_RESULT r).wr RASTER.RES_STAT_DONE 1).rodVec .raster

/-- A commit of RASTER.RES_WIN: none where the entry was PARTIAL. -/
def State.resCommit (s : State) (w : Option Window) : State :=
  match w with
  | none => s.resResult 1
  | some w =>
    let id := w.w0 % 65536
    let ty := w.w0 / 65536 % 256
    if w.w0 / 2 ^ 31 == 1 then
      if w.w0 / 2 ^ 24 % 128 != 0 || w.w1 / 2 ^ 23 != 0 || w.w3 != 0 then s.resResult 2
      else
      let keep := s.raster.table.filter fun r => !(r.ty == ty && r.id == id)
      if keep.length == s.raster.table.length then s.resResult 6
      else ({ s with raster := { s.raster with table := keep } }.wr RASTER.STAT_RES_USED keep.length).resResult 0
    else
      let r : Res := { ty := ty, id := id, store := false, addr := w.w1, len := w.w2 }
      ({ s with raster := { s.raster with checking := some { r with store := w.w0 / 2 ^ 24 != 0 || w.w3 != 0 } } }).wr
        RASTER.RES_STAT_PENDING 1

/-- A write of lane `lane` of RASTER.RES_WIN; a commit while a registration is checked is BUSY (R185, R347). -/
def State.writeResWin (s : State) (lane : Nat) (w : Word) : State × Bool :=
  let x := s.raster.win.put lane w
  if lane == 3 then
    if s.flag RASTER.RES_STAT_PENDING then (s, true)
    else (({ s with raster := { s.raster with win := {} } }).resCommit (if x.mask == 15 then some x else none), false)
  else ({ s with raster := { s.raster with win := x } }, false)

/-- RES_REGISTER: the write of RES_WIN3 that commits a registration (R347). -/
def execResRegister (w : BitVec 32) (s : State) : Host.Outcome State Fault Refusal :=
  if s.raster.win.w0 / 2 ^ 31 == 0 then .next (s.hostReg .raster fun s => (s.writeResWin 3 w).1) else .next s

/-- RES_REMOVE: the write of RES_WIN3 that commits a removal (R347). -/
def execResRemove (w : BitVec 32) (s : State) : Host.Outcome State Fault Refusal :=
  if s.raster.win.w0 / 2 ^ 31 == 1 then .next (s.hostReg .raster fun s => (s.writeResWin 3 w).1) else .next s

/-- REGISTRATION_DONE: the check of a registered resource ends (R347). A commit with a bit set that must be 0 was marked by
its `store` flag, which no SRAM resource has. -/
def execRegistrationDone (s : State) : Host.Outcome State Fault Refusal :=
  match s.raster.checking with
  | none => .next s
  | some r =>
    let s := { s with raster := { s.raster with checking := none } }
    let others := s.raster.table.filter fun x => !(x.ty == r.ty && x.id == r.id)
    if r.store || !(r.ty == 1 || r.ty == 2) || r.addr % 4 != 0 || !s.rasterRange r.addr r.len then .next (s.resResult 2)
    else
      let c := s.checkRes r
      let s := (s.readMem .sram r.addr r.len).1
      if c != 0 then .next (s.resResult c)
      else if 32 ≤ others.length then .next (s.resResult 5)
      else
        let t := others ++ [r]
        .next (({ s with raster := { s.raster with table := t } }.wr RASTER.STAT_RES_USED t.length).resResult 0)

/-! ### The check pass (R327, R329, R360, R361) -/

/-- The resources that a RECEIPT's check pass looks up (R348): the registrations, and behind them the store's entries, as they stood
when it began; of a store that was not scanned then, those that its scan has found. -/
def State.resNow (s : State) (b : CheckStart) : List Res :=
  b.table ++ b.store.getD (if s.rd RASTER.STAT_STORE == 2 then s.raster.store else [])

def State.layEnv (s : State) (res : List Res) : LayEnv :=
  { headDots := s.rd RASTER.CFG_HEAD_DOTS
    bandMax := s.rd RASTER.BAND_CFG_BAND_MAX
    defPack := u8 (s.beadD 0x0782 [1]) 0
    defSpeed := u16 (s.beadD 0x0783 (leBytes 2 250)) 0
    find := fun ty id => (res.find? fun r => r.ty == ty && r.id == id).map s.resView }

/-- A script's bytes as they stand. -/
def State.scriptReader (s : State) (a : Nat) : Reader := fun i => s.byte .sram (a + i)

/-- The items of a script as far as they can be told apart: offset, opcode and first operand, or hri of a bar code. -/
def scriptItems (rd : Reader) (len : Nat) : Nat → Nat → List (Nat × Nat × Nat)
  | 0, _ => []
  | n + 1, off =>
    if len ≤ off then []
    else match operandBytes (rd off) with
      | none => [(off, rd off, 0)]
      | some k =>
        let (it, dl) := decodeItem rd off (rd off)
        (off, rd off, if 0x30 ≤ rd off && rd off ≤ 0x32 then it.c else it.a) :: scriptItems rd len n (off + 1 + k + dl)

/-- The item that holds script offset `b`; 0 for the header. -/
def itemAt (items : List (Nat × Nat × Nat)) (b : Nat) : Nat :=
  items.foldl (fun o i => if i.1 ≤ b then i.1 else o) 0

/-- The packs and logos that items name, with the item's offset; text and a bar code's text take the pack in
force, before any FONT the default one. -/
def namedRes (defPack : Nat) (items : List (Nat × Nat × Nat)) : List (Nat × Nat × Nat) :=
  (items.foldl (fun (acc : List (Nat × Nat × Nat) × Nat) i =>
    if i.2.1 == 0x10 then (acc.1 ++ [(i.1, 1, i.2.2)], i.2.2)
    else if i.2.1 == 0x20 then (acc.1 ++ [(i.1, 2, i.2.2)], acc.2)
    else if [1, 2, 3].contains i.2.1 || (0x30 ≤ i.2.1 && i.2.1 ≤ 0x32 && i.2.2 == 1) then (acc.1 ++ [(i.1, 1, acc.2)], acc.2)
    else acc) ([], defPack)).1

/-- What RASTER reads for the items of a script from offset `lo` to `hi`: where the bytes of their items begin and end in the script,
and, with the offset of the item, each resource that one of them draws with. -/
structure Reads where
  from_ : Nat
  upTo : Nat
  items : List (Nat × Nat × Nat)
  res : List (Nat × Res)

def State.readsOf (s : State) (a len : Nat) (res : List Res) (lo hi : Nat) : Reads :=
  let items := scriptItems (s.scriptReader a) len len 16
  let named := (namedRes (u8 (s.beadD 0x0782 [1]) 0) items).filter fun n => lo ≤ n.1 && n.1 ≤ hi
  { from_ := if lo = 0 then 0 else ((items.find? fun i => lo ≤ i.1).map (·.1)).getD len
    upTo := ((items.find? fun i => hi < i.1).map (·.1)).getD len
    items := items
    res := named.filterMap fun n => (res.find? fun r => r.ty == n.2.1 && r.id == n.2.2).map fun r => (n.1, r) }

/-- The first item that draws with a resource of the flash store. -/
def Reads.storeItem (r : Reads) : Option Nat := (r.res.find? fun x => x.2.store).map (·.1)

/-- The reads are made: every word is checked once (R253), and the flash serves them (R261). -/
def State.makeReads (s : State) (a : Nat) (r : Reads) : State :=
  let s := (s.readMem .sram (a + r.from_) (r.upTo - r.from_)).1
  let used := (r.res.map (·.2)).dedup
  let s := (used.filter fun x => !x.store).foldl (fun s x => (s.readMem .sram x.addr x.len).1) s
  if used.any (·.store) then s.flashRead else s

/-- The first item at which the reads meet an uncorrectable error: in the script itself, or in a registered resource it names. -/
def State.eccItem (s : State) (a : Nat) (r : Reads) : Option Nat :=
  let inScript := (s.badWord .sram (a + r.from_) (r.upTo - r.from_)).map fun w => itemAt r.items (max r.from_ (16 * w - a))
  let inRes := (r.res.find? fun x => !x.2.store && (s.badWord .sram x.2.addr x.2.len).isSome).map (·.1)
  match inScript, inRes with
  | some x, some y => some (min x y)
  | some x, none => some x
  | none, y => y

/-- The script's plan, with the uncorrectable errors that the reads meet taken into account. -/
def State.plan (s : State) (a len : Nat) (res : List Res) (r : Reads) : ScriptPlan :=
  let p := planScript (s.layEnv res) (s.scriptReader a) len
  match s.eccItem a r, p.err with
  | some o, some (e, c) => if e < o then { p with err := some (e, c) } else { p with err := some (o, causeEcc) }
  | some o, none => { p with err := some (o, causeEcc) }
  | none, _ => p

/-- The cost of a lateral shift (R361): Σ E_g × n_g over the head dots from `x0` to `x0 + canvas − 1`. -/
def State.shiftCost (s : State) (x0 : Int) (canvas : Nat) : Nat :=
  ((List.range 16).map fun g =>
    let lo := max ((64 * g : Nat) : Int) x0
    let hi := min ((64 * g + 64 : Nat) : Int) (x0 + canvas)
    s.counter g * (hi - lo).toNat).foldl (· + ·) 0

/-- The lateral shift S and SMAX for a canvas (R360, R361); on a tie the smallest |S|, then the negative one. -/
def State.chooseShift (s : State) (canvas : Nat) (noShift : Bool) : Int × Nat :=
  let room := (s.rd RASTER.CFG_HEAD_DOTS - canvas) / 2
  let smax := min 64 room / 8 * 8
  if noShift || !s.flag RASTER.SHIFT_EN || !s.ready .ledger then (0, smax)
  else
    let cands : List Int := 0 :: (List.range (smax / 8)).flatMap fun i => [-(8 * (i + 1) : Int), 8 * (i + 1)]
    (cands.foldl (fun best c => if s.shiftCost (room + c) canvas < s.shiftCost (room + best) canvas then c else best) 0, smax)

/-- The check pass of a RECEIPT begins: S is fixed and reported, and the registrations and store contents that it uses are those of now
(R348, R360, R361). -/
def State.beginCheck (s : State) (c : Cmd) : State :=
  let rd := s.scriptReader c.p0
  let canvas := if rd.w16 0x0C = 0 then s.rd RASTER.CFG_HEAD_DOTS else rd.w16 0x0C
  let sh := s.chooseShift canvas (rd 6 % 2 == 1)
  let b : CheckStart :=
    { tag := c.tag, table := s.raster.table, shift := sh.1,
      store := if s.rd RASTER.STAT_STORE == 2 then some s.raster.store else none }
  let s := { s with raster := { s.raster with begun := some b } }.wrB RASTER.SHIFT_NO_LEDGER (!s.ready .ledger)
  ((s.wrI RASTER.SHIFT_LAST sh.1).wr RASTER.SHIFT_SMAX sh.2).wr RASTER.STAT_STATE 1

/-- RECEIPT: the command starts on RASTER once it stands first there and RASTER is READY; its check pass follows
(R214, R383). A script that RASTER may not read is refused (R27). -/
def execReceipt (tag : Fin 64) (s : State) : Host.Outcome State Fault Refusal :=
  match s.cmd? tag.val with
  | none => .next s
  | some c =>
    if c.op == 0x60 && !c.started && s.running && s.ready .raster && s.firstIn tag.val .raster &&
        s.rd RASTER.STAT_STATE == 0 then
      if !s.mayRead .raster c.p0 c.p1 then .next ((s.refuseRead .raster c.p0 c.p1 tag.val).stopRaster).settle
      else .next ((s.start tag.val).beginCheck c).settle
    else .next s

/-- The item for which the check pass needs FLASH and cannot have it yet (R33, R327): the first item that fails names a resource that the
store may yet give, or an item before it draws with one of the store's while the flash serves no read. -/
def State.flashWait (s : State) (r : Reads) (p : ScriptPlan) : Option Nat :=
  match p.err, s.ready .flash && !s.flashHeld with
  | some (off, cause), serves =>
    match r.storeItem.filter fun o => !serves && decide (o ≤ off) with
    | some o => some o
    | none => if cause == causeNoResource && !(s.ready .flash && 2 ≤ s.rd RASTER.STAT_STORE) then some off else none
  | none, serves => r.storeItem.filter fun _ => !serves

/-- RASTER waits for FLASH at a script item (R33, R358). -/
def State.waitFlash (s : State) (off : Nat) : State :=
  { s with raster := { s.raster with waitAt := off } }.wr RASTER.STAT_STATE 4

/-- CHECK_PASS: RASTER checks the whole script of the RECEIPT that stands first with it, and looks up its resources (R327);
a resource that only the store could have is waited for while FLASH or its scan is not ready (R33). A pass that has begun goes on
without RASTER's suppliers (R34). -/
def execCheckPass (s : State) : Host.Outcome State Fault Refusal :=
  match s.cmds.find? (fun c => c.rods.contains .raster), s.raster.begun with
  | some c, some b =>
    if s.awake && c.started && c.op == 0x60 && (s.job? c.tag).isNone && b.tag == c.tag then
      let res := s.resNow b
      let r := s.readsOf c.p0 c.p1 res 0 c.p1
      let p := s.plan c.p0 c.p1 res r
      match s.flashWait r p with
      | some off => .next (s.waitFlash off)
      | none =>
        let s := s.makeReads c.p0 r
        match p.err with
        | some (off, cause) =>
          .next (((s.rasterErr off cause).wr RASTER.STAT_STATE 0).complete c.tag (causeStatus cause) 0 0).settle
        | none =>
          let j : Job :=
            { tag := c.tag, canvas := p.canvas, x0 := ((s.rd RASTER.CFG_HEAD_DOTS - p.canvas) / 2 : Nat) + b.shift,
              shift := b.shift, bands := p.bands.length, res := res, plan := p.bands.map fun b => (b.lines, b.lastOff) }
          let s := s.setPrint fun x => { x with jobs := x.jobs ++ [j] }
          if p.bands.isEmpty then .next ((s.count cntReceipts).endReceipt c.tag stOK 0 j.okR1).settle
          else
            let s := (s.wr RASTER.STAT_STATE 2).takeSlot
            .next (if s.rd PRINT.STAT_STATE == 0 then s.wr PRINT.STAT_STATE 1 else s).settle
    else .next s
  | _, _ => .next s

/-! ### Rendering (R354 to R358) -/

/-- The lines of a band drawn into its bank. -/
def State.drawBand (s : State) (j : Job) (b : BandPlan) (bank : Nat) : State :=
  let len := 16 * s.rd RASTER.CFG_LINE_WORDS
  (List.range b.lines).foldl (fun s y =>
    s.writeMem .sram (bank * bankSize + y * len) (b.lineBytes j.canvas len j.x0 y)) s

/-- A drawn band is committed: its slot holds its lines, speed and darkness, and its bank is protected (R28, R357); RASTER
goes on to the next band, or its part of the RECEIPT ends (R387). -/
def State.commitBand (s : State) (j : Job) (i : Nat) (b : BandPlan) : State :=
  let s := s.drawBand j b (s.rd (bandBank i))
  let s := s.modSlot i fun x => { x with speed := b.speed, dark := b.dark }
  let s := (s.wr (bandState i) 2).wr (bandLines i) b.lines
  let n := b.counts
  let s := ((s.bump RASTER.COUNT_MISSING_GLYPHS n.1).bump RASTER.COUNT_BAD_UTF8 n.2.1).bump RASTER.COUNT_CLIPPED n.2.2
  let s := s.modJob j.tag fun j => { j with committed := j.committed + 1 }
  if j.committed + 1 == j.bands then s.rasterIdle j.tag else s.wr RASTER.STAT_STATE 2

/-- The items whose rendering band `n` of a RECEIPT takes: from behind the last item of the band before to its own last one, and for the
last band to the end of the script. -/
def Job.bandItems (j : Job) (n len : Nat) : Nat × Nat :=
  (if n = 0 then 0 else ((j.plan[n - 1]?).map (·.2)).getD 0 + 1, if n + 1 = j.bands then len else ((j.plan[n]?).map (·.2)).getD len)

/-- The first line of a band that holds a word with an uncorrectable error when it is drawn (R362). -/
def State.bandBad (s : State) (bank lines : Nat) : Option Nat :=
  let len := 16 * s.rd RASTER.CFG_LINE_WORDS
  (s.badWord .sram (bank * bankSize) (len * lines)).map fun w => (16 * w - bank * bankSize) / len

/-- BAND_COMMIT: RASTER finishes drawing the band it renders, checking each of its items again, and commits it (R349, R356), or stops
with a cause (R358). Rendering goes on without RASTER's suppliers (R34). -/
def execBandCommit (s : State) : Host.Outcome State Fault Refusal :=
  if !s.awake then .next s
  else
    match s.print.jobs.find? fun j => j.committed < j.bands && j.failed == none &&
        (s.slotsOf j.tag).any fun i => s.rd (bandState i) == 1 with
    | none => .next s
    | some j =>
      match (s.slotsOf j.tag).find? fun i => s.rd (bandState i) == 1, s.cmd? j.tag with
      | some i, some c =>
        let (lo, hi) := j.bandItems j.committed c.p1
        let r := s.readsOf c.p0 c.p1 j.res lo hi
        let p := s.plan c.p0 c.p1 j.res r
        let serves := s.ready .flash && !s.flashHeld
        match r.storeItem.filter fun _ => !serves with
        | some off => .next (s.waitFlash off)
        | none =>
          let s := s.makeReads c.p0 r
          let stop (off cause : Nat) : Host.Outcome State Fault Refusal :=
            .next (s.renderStop j off (if cause == causeEcc then causeEcc else causeChanged)).settle
          match p.err.filter fun e => decide (e.1 ≤ hi), p.bands[j.committed]? with
          | some (off, cause), _ => stop off cause
          | none, none => stop lo causeChanged
          | none, some b =>
            match s.bandBad (s.rd (bandBank i)) b.lines with
            | some y => .next (((s.readMem .sram (s.rd (bandBank i) * bankSize) (16 * s.rd RASTER.CFG_LINE_WORDS * b.lines)).1.renderStop
                j (b.itemOf y) causeEcc)).settle
            | none => .next (s.commitBand j i b).settle
      | _, _ => .next s

end Sys2Proof.Machine
end

