-- ==== Sys2Proof/Machine/Scan.lean ====
section
/-! DEFINITION. SCAN (R486 to R491): its command, the end of a frame's examination, and its time limit. -/

namespace Sys2Proof.Machine

/-- The implicit session: tap S alone at SCAN_SIZE, the whole frame, no SKIP and no flags (R490). -/
def State.scanSession (s : State) : Vid :=
  let z := s.beadD 0x0E82 [0x80, 2, 0xE0, 1]
  { sW := u16 z 0, sH := u16 z 2, cropW := sensorW s.sensor, cropH := sensorH s.sensor }

/-- SCAN: the command starts, on the host's session or on one of its own (R488, R490), unless SCAN may not write
its buffer (R27). -/
def execScan (tag : Fin 64) (s : State) : Host.Outcome State Fault Refusal :=
  match s.cmd? tag.val with
  | none => .next s
  | some c =>
    if s.mayBegin c 0xE0 .scan && s.scan.tag.isNone && (s.pllvOn || s.flag VIDIN.STAT_SESSION) then
      if !s.mayWrite .scan c.p2 4096 then .next (s.refuseWrite .scan c.p2 4096 tag.val).settle
      else if s.rd VIDIN.STAT_SESSION == 1 && s.vid.sW == 0 then .next (s.endOpen tag.val stBusy).settle
      else
        let mask := if c.p0 == 0 then s.rd SCAN.CFG_SYMBOLOGIES else c.p0 % 16
        let s := (s.start tag.val).setScan fun _ => { tag := some tag.val, mask := mask }
        let s := (s.wr SCAN.STAT_STATE 1).wr SCAN.STAT_FRAMES 0
        .next (if s.flag VIDIN.STAT_SESSION then s else s.sessionOpen 2 s.scanSession).settle
    else .next s

/-- The command ends, and with it an implicit session (R490). -/
def State.scanEnd (s : State) (status r0 r1 : Nat) : State :=
  match s.scan.tag with
  | none => s
  | some t =>
    let s := (s.setScan fun _ => {}).wr SCAN.STAT_STATE 0
    let s := if s.rd VIDIN.STAT_SESSION == 2 then s.sessionClose else s
    s.complete t status r0 r1

/-- A symbol as SCAN reports it under a mask (R487): an EAN-13 with a leading 0 is a UPC-A where UPC-A is enabled, and a UPC-A
an EAN-13 with a leading 0 where it is not. -/
def reported (mask : Nat) (y : Symbol) : Option (Nat × List Nat) :=
  let l := y.payload.map (·.toNat)
  let digits := if y.sym.toNat == 2 then 0x30 :: l else l
  match y.sym.toNat with
  | 0 => if mask.testBit 0 then some (0, l) else none
  | 3 => if mask.testBit 3 then some (3, l) else none
  | _ =>
    if digits.head? == some 0x30 && mask.testBit 2 then some (2, digits.drop 1)
    else if mask.testBit 1 then some (1, digits)
    else none

/-- The symbol is a QR Code of a version above QR_MAX_VERSION (R489). -/
def State.tooBig (s : State) (y : Symbol) : Bool := y.sym.toNat == 0 && s.rd SCAN.CFG_QR_MAX_VERSION < y.version.toNat

/-- The symbol whose centre lies nearest the frame centre, and on a tie the one with the lower symbology code (R489). -/
def State.nearest (s : State) (l : List (Symbol × Nat × List Nat)) : Option (Symbol × Nat × List Nat) :=
  let far := fun (y : Symbol) =>
    let dx : Int := 2 * (y.x.toNat : Int) - s.vid.sW
    let dy : Int := 2 * (y.y.toNat : Int) - s.vid.sH
    dx * dx + dy * dy
  l.foldl (fun best p =>
    match best with
    | none => some p
    | some b => if far p.1 < far b.1 || (far p.1 == far b.1 && p.2.1 < b.2.1) then some p else best) none

/-- The header of a result (R491). -/
def scanHeader (y : Symbol) (sym len seq : Nat) : List Nat :=
  let qr := sym == 0
  leBytes 2 len ++ [sym, y.flags.toNat, if qr then y.version.toNat else 0, if qr then y.level.toNat else 0] ++
    leBytes 2 (if qr then y.corrected.toNat else 0) ++ leBytes 4 seq ++ leBytes 2 y.x.toNat ++ leBytes 2 y.y.toNat

/-- SCAN_FRAME_DONE: the examination of a frame ends; a read completes the command, else the newest frame follows (R489,
R491). -/
def execScanFrameDone (r : ScanResult) (s : State) : Host.Outcome State Fault Refusal :=
  match s.scan.tag, s.scan.cur with
  | some t, some (_, seq) =>
    if s.awake then
      let big := r.read.filter s.tooBig
      let good := (r.read.filter fun y => !s.tooBig y).filterMap fun y => (reported s.scan.mask y).map fun p => (y, p)
      let s := (s.bump SCAN.FAIL_UNREAD r.unread.toNat).bump SCAN.FAIL_REJECTED big.length
      let s := ((s.bump SCAN.STAT_FRAMES).wr SCAN.STAT_LAST_MS r.ms.toNat).setScan fun x =>
        { x with cur := none, frames := x.frames + 1 }
      match s.nearest good with
      | some (y, sym, payload) =>
        let a := ((s.cmd? t).map (·.p2)).getD 0
        let s := s.writeMem .sram a (scanHeader y sym payload.length (seq % 2 ^ 32) ++ payload)
        let n := s.scan.frames
        .next ((s.bump SCAN.COUNT_READS).scanEnd stOK (payload.length % 65536 + 65536 * sym) n).settle
      | none => .next ((s.wr SCAN.STAT_STATE 1).scanTake).settle
    else .next s
  | _, _ => .next s

/-- SCAN_TIME_LIMIT: the limit has passed since the command's start (R491). -/
def execScanTimeLimit (s : State) : Host.Outcome State Fault Refusal :=
  if s.awake && s.scan.tag.isSome then
    let (n, s) := s.openWord
    .next ((s.bump SCAN.COUNT_TIMEOUTS).scanEnd stTimeout 0 n).settle
  else .next s

end Sys2Proof.Machine
end

