-- ==== Sys2Proof/Machine/Fetch.lean ====
section
/-! DEFINITION. The fetch of a submission entry and its checks (R200 to R202, R210, R211), the end of a ready-wait (R88 to
R92), ABORT (R217), and RELEASE_HELD (R531 to R533). -/

namespace Sys2Proof.Machine

/-! ### Fetch checks (R201) -/

/-- The opcodes of R215. -/
def opcodes : List Nat :=
  [0x00, 0x01, 0x02, 0x03, 0x04, 0x05, 0x20, 0x21, 0x22, 0x23, 0x24, 0x30, 0x40, 0x60, 0x61, 0x62, 0x80, 0x81, 0x90, 0x91,
   0xB0, 0xB1, 0xB2, 0xC0, 0xC1, 0xC2, 0xC3, 0xD0, 0xD1, 0xD2, 0xE0, 0xF0, 0xF1, 0xF2]

/-- How many parameter words an opcode uses; the rest must be 0. -/
def wordsUsed (op : Nat) : Nat :=
  match op with
  | 0x00 | 0x01 | 0x23 | 0x30 | 0xC2 => 2
  | 0x03 | 0x04 | 0x20 | 0x22 | 0x62 | 0x90 | 0xC3 | 0xD0 | 0xD2 | 0xF0 => 1
  | 0x21 | 0xC0 => 4
  | 0x24 | 0x40 | 0x60 | 0x80 | 0xD1 | 0xE0 | 0xF2 => 3
  | 0xB0 => 5
  | _ => 0

/-- The parameter words past the first `n` are 0. -/
def Cmd.zeroFrom (c : Cmd) (n : Nat) : Bool := ([c.p0, c.p1, c.p2, c.p3, c.p4, c.p5].drop n).all (· == 0)

/-- A script lies wholly in SHARED banks, or in RASTER-owned banks that are not band banks (R326). -/
def State.scriptPlace (s : State) (a len : Nat) : Bool :=
  a % 4 == 0 && inSram a len && (banksOf a len).all fun b =>
    match s.bankOwner b with
    | none => true
    | some o => o == .raster && !((List.range 3).any fun i => s.rd (bandBank i) == b)

/-- A distance and a speed that MOVE_PAPER takes (R425). -/
def moveOk (c : Cmd) : Bool :=
  let d := ofBits 32 c.p0
  d != 0 && -4096 ≤ d && d ≤ 65535 && c.p1 < 65536 && (c.p1 == 0 || (10 ≤ c.p1 && c.p1 ≤ 250))

/-- The parameters of ENC's STREAM_OPEN lie in their ranges (R494, R497). -/
def encParams (c : Cmd) : Bool :=
  let w := c.p0 % 65536
  let h := c.p0 / 65536
  let rate := c.p1 % 65536
  let slice := c.p3 % 65536
  let top := c.p3 / 65536
  w % 16 == 0 && h % 16 == 0 && 128 ≤ w && w ≤ 1280 && 96 ≤ h && h ≤ 720 && c.p1 < 2 ^ 17 && 64 ≤ rate && rate ≤ 8000 &&
    8 ≤ c.p2 % 256 && c.p2 % 256 ≤ 120 && 1 ≤ c.p2 / 256 && c.p2 / 256 ≤ 8 && 256 ≤ slice && slice ≤ 4096 &&
    (if c.p1.testBit 16 then rate ≤ top && top ≤ 8000 else top == 0)

/-- The largest size of a stream of DEC lies in its range (R513). -/
def decSize (w h : Nat) : Bool := w % 16 == 0 && h % 16 == 0 && 16 ≤ w && w ≤ 1280 && 16 ≤ h && h ≤ 720

/-- The parameters that R201 checks at fetch: reserved bits, and the ranges that the part or the image fixes. -/
def State.paramsOk (s : State) (c : Cmd) : Bool :=
  c.zeroFrom (wordsUsed c.op) &&
    match c.op with
    | 0x01 => c.p0 % 16 == 0 && 0x180 ≤ c.p1 && c.p1 ≤ 4194304 && s.inShared c.p0 c.p1
    | 0x03 => c.p0 == 0x465A
    | 0x04 => c.p0 < 2 ^ 20
    | 0x20 | 0x22 => c.p0 == 1 || c.p0 == 2
    | 0x23 => (c.p0 == 1 || c.p0 == 2) && c.p1 == 0x5357
    | 0x21 =>
      (c.p0 == 1 || c.p0 == 2) && c.p1 % 256 == 0 && c.p2 % 16 == 0 && c.p3 % 4 == 0 && 4 ≤ c.p3 && c.p3 ≤ 65536 &&
        s.inShared c.p2 c.p3
    | 0x24 => c.p1 % 16 == 0 && 1 ≤ c.p2 && c.p2 ≤ 4194304 && s.inShared c.p1 c.p2
    | 0x30 =>
      c.p1 < 65536 && c.p1 / 16 % 16 == 0 && c.p1 / 1024 % 4 == 0 && 1 ≤ c.p1 / 4096 && c.p1 / 4096 ≤ 8 &&
        (c.p1.testBit 8 || !s.rdBit MOVER.CFG_UPPER (c.p1 % 16))
    | 0x40 => s.sampleOk c && s.mayWrite .therm c.p1 c.sampleLen
    | 0x60 => s.scriptPlace c.p0 c.p1 && c.p2 < 8
    | 0x62 => c.p0 ≤ 600
    | 0x80 => moveOk c && c.p2 < 2
    | 0x90 => c.p0 < 2
    | 0xB0 => c.p4 < 4096 && c.p4 / 4 % 64 == 0
    | 0xC0 => encParams c
    | 0xC2 => c.p0 % 16 == 0 && 352 ≤ c.p1 && c.p1 ≤ 8192 && s.mayWrite .enc c.p0 c.p1
    | 0xC3 => c.p0 < 2
    | 0xD0 => decSize (c.p0 % 65536) (c.p0 / 65536)
    | 0xD1 => 4 ≤ c.p1 && c.p1 ≤ 262144 && c.p2 < 2 && s.mayWrite .dec c.p0 c.p1
    | 0xD2 => c.p0 < 2
    | 0xE0 =>
      c.p0 < 16 && (c.p1 == 0 || (100 ≤ c.p1 && c.p1 ≤ 10000)) && c.p2 % 16 == 0 && s.mayWrite .scan c.p2 4096
    | 0xF0 => c.p0 % 16 == 0 && s.mayWrite .ledger c.p0 128
    | 0xF2 => c.p1 % 16 == 0 && 148 ≤ c.p2 && c.p2 ≤ 1048576 && s.mayWrite .ledger c.p1 c.p2
    | _ => true

/-- The queue serves the rod: queue 0 serves CORE, the others the rods that QUEUE_MAP gives them (R223). -/
def State.serves (s : State) (q rod : Nat) : Bool :=
  if q = 0 then rod == 0 else (u16 (s.beadD 0x0020 []) (2 * q)).testBit rod

/-- The entry's FLAGS byte, ROD byte and byte 3, beside its command (R200). -/
structure Entry where
  cmd : Cmd
  flags : Nat
  rod : Nat
  zero : Nat
deriving DecidableEq, Repr

/-- The opcode is one of the rod's. -/
def Entry.opcodeOk (e : Entry) : Bool := opcodes.contains e.cmd.op && e.cmd.op / 16 == e.rod

/-- Every condition of R201, HELD of R92, and a RECEIPT in encoder-locked pacing without feedback (R417), that applies to an entry, as
status codes. -/
def State.fetchCodes (s : State) (e : Entry) : List Nat :=
  let c := e.cmd
  let absent := (Rod.ofNat? e.rod).any fun r => !s.has r
  (if s.base == .held && e.opcodeOk && c.mech then [stHeld] else []) ++
    (if absent || (e.rod < 16 && !e.opcodeOk) then [stUnsupported] else []) ++
    (if e.opcodeOk && c.op == 0x60 && s.encLocked && s.rd FEED.CFG_FB_TYPE == 0 then [stUnsupported] else []) ++
    (if 16 ≤ e.rod || !s.serves c.queue e.rod || c.op / 16 != e.rod || 4 ≤ e.flags || e.zero != 0 then [stBadParam] else []) ++
    (if e.opcodeOk && !absent && !s.paramsOk c then [stBadParam] else []) ++
    if e.opcodeOk && !absent && c.op == 0xB0 then s.captureChecks c else []

/-- The first code in the order of R19, of those that a fetch can meet. -/
def firstCode (l : List Nat) : Option Nat := [stHeld, stUnsupported, stBadParam, stNotReady].find? l.contains

/-! ### ENTRY_FETCH -/

/-- The rods in whose order a command takes its place (R36, R214). -/
def engages (op p2 : Nat) : List Rod :=
  if op == 0x60 then [.print, .raster, .feed] ++ if p2.testBit 0 then [Sys2Proof.Rod.cut] else []
  else match Rod.ofNat? (op / 16) with
    | some r => [r]
    | none => []

/-- The entry at a ring index, with the tag it takes (R200). -/
def State.entryAt (s : State) (q idx tag : Nat) : Entry :=
  let a := s.sqBase q + 32 * idx
  let b := s.bytes .sram a 32
  let w := fun k => u32 b (8 + 4 * k)
  { flags := u8 b 1, rod := u8 b 2, zero := u8 b 3,
    cmd := { tag := tag, queue := q, cmdId := u16 b 4, op := u8 b 0, rods := engages (u8 b 0) (w 2), now := (u8 b 1).testBit 1,
             wait := if (u8 b 1).testBit 0 then u16 b 6 else s.rd CORE.READY_WAIT_DEFAULT_MS,
             p0 := w 0, p1 := w 1, p2 := w 2, p3 := w 3, p4 := w 4, p5 := w 5, started := false } }

/-- A submission queue has an entry to fetch (R210). -/
def State.hasEntry (s : State) (q : Nat) : Bool := s.qEn q && s.rd (VEC.Q_SQ_IDX_HEAD q) != s.rd (VEC.Q_SQ_IDX_TAIL q)

/-- The queue that is served next: queue 0, then round robin (R210). -/
def State.nextQueue (s : State) : Option Nat :=
  if s.hasEntry 0 then some 0
  else ((List.range 15).map fun i => (s.fetchNext - 1 + i) % 15 + 1).find? s.hasEntry

/-- Every queue that comes to be blocked for want of a tag counts it once (R211). DESIGN CHOICE (log entry 56): one occasion lasts until
that queue's own next fetch. -/
def State.tagStall (s : State) : State :=
  ((List.range 16).filter fun q => s.hasEntry q && !(s.queues.getD q {}).stalled).foldl (fun s q =>
    (s.bump (VEC.Q_STAT_TAG_STALL q)).modQueue q fun x => { x with stalled := true }) s

/-- The command of an entry takes its tag: it completes at once on a check that fails, or takes its place (R201). What it may not
wait for then ends it NOT_READY at once (R88, R90, R91), as `settle` does for every command. A PRINT command ends a recheck (R293). -/
def State.accept (s : State) (e : Entry) : State :=
  let c := e.cmd
  let s := if e.opcodeOk && c.rods.contains .print then s.abandonRecheck else s
  let t := { s with cmds := s.cmds ++ [c] }
  let t := t.wr VEC.TAGS_PEAK (max (t.rd VEC.TAGS_PEAK) t.tagsHeld.length)
  match firstCode (s.fetchCodes e) with
  | some code =>
    let t := if e.opcodeOk && c.op == 0x60 && code == stBadParam && !s.scriptPlace c.p0 c.p1 then t.rasterErr 0 12 else t
    t.endOpen c.tag code
  | none => t

/-- ENTRY_FETCH: the next entry is fetched with the lowest free tag and the submission head advances (R200 to R202, R210,
R211). -/
def execEntryFetch (s : State) : Host.Outcome State Fault Refusal :=
  if !s.awake then .next s
  else
    match s.nextQueue, s.freeTag? with
    | none, _ => .next s
    | some _, none => .next s.tagStall
    | some q, some tag =>
      let idx := s.rd (VEC.Q_SQ_IDX_HEAD q)
      let a := s.sqBase q + 32 * idx
      let bad := s.badWord .sram a 32
      let s := (s.readMem .sram a 32).1
      let s := (s.modQueue q fun x => { x with stalled := false }).wr (VEC.Q_SQ_IDX_HEAD q) ((idx + 1) % s.depth q)
      let s := { s with fetchNext := if q = 0 then s.fetchNext else q % 15 + 1 }
      if bad.isSome then
        let s := s.wr VEC.TAGS_PEAK (max (s.rd VEC.TAGS_PEAK) (s.tagsHeld.length + 1))
        .next (s.post q { tag := some tag, cmdId := 0xFFFF, status := stEcc, origin := q, now := false, r0 := idx, r1 := 0 }).settle
      else .next (s.accept (s.entryAt q idx tag)).settle

/-! ### READY_WAIT_EXPIRY -/

/-- READY_WAIT_EXPIRY: a command's ready-wait time ends without readiness, and it completes NOT_READY (R89, R214). -/
def execReadyWaitExpiry (tag : Fin 64) (s : State) : Host.Outcome State Fault Refusal :=
  match s.cmd? tag.val with
  | none => .next s
  | some c => if s.awake && s.waits c then .next (s.waitOver c).settle else .next s

/-! ### ABORT -/

/-- A dry-out that AUTO_DRY has started ends where a RECEIPT is aborted (R396). -/
def State.dryAborted (s : State) : State :=
  match s.print.dry with
  | some d => if d.tag.isNone then s.dryEnd d stAborted (s.rd PRINT.PROBE_LEAK) else s
  | none => s

/-- A RECEIPT that has started is cancelled (R217, R384, R386): ABORTED where its first line has not fired; after that it is torn, or,
behind its last line, the paper stops or the cut ends and it completes TORN. -/
def State.abortReceipt (s : State) (t : Nat) : State :=
  match s.job? t with
  | none => s.endCheck t stAborted
  | some j =>
    match j.stage with
    | .render => s.endReceipt t stAborted
    | .print | .rest => s.tear 6
    | .out => (s.modJob t fun j => { j with noCut := some stTorn }).feedStop
    | .cutting => (s.modJob t fun j => { j with noCut := some stTorn }).cutAbort 6
    | .torn => s

/-- A command of PRINT, FEED or CUT that runs is cancelled. -/
def State.abortMech (s : State) (c : Cmd) : State :=
  match c.op with
  | 0x60 => s.abortReceipt c.tag
  | 0x61 => (((s.setPrint fun p => { p with probe := none }).printIdle).endOpen c.tag stAborted)
  | 0x62 =>
    match s.print.dry with
    | some d => s.dryEnd d stAborted (s.rd PRINT.PROBE_LEAK)
    | none => s
  | 0x80 => (s.setFeed fun f => { f with status := stAborted }).feedStop
  | _ => s.cutAbort 6

/-- A slot command that runs stops where it stands (R217); a slot half erased is UNKNOWN. -/
def State.abortSlot (s : State) (t : Nat) : State :=
  match s.fl.job with
  | some j => if j.tag == t then s.slotEnd j stAborted (if j.erase then slotUnknown else s.rd (slotFld j.slot)) else s
  | none => s

/-- A command of VIDIN, ENC, DEC or SCAN that runs is cancelled. -/
def State.abortVideo (s : State) (c : Cmd) : State :=
  let t := c.tag
  match c.op with
  | 0xB0 => (s.sessionClose).endOpen t stAborted
  | 0xB1 => (s.setVid fun v => { v with stopTag := none }).endOpen t stAborted
  | 0xB2 => (s.setVid fun v => { v with renegTag := none }).endOpen t stAborted
  | 0xC1 => (s.setEnc fun e => { e with closeTag := none }).endOpen t stAborted
  | 0xC2 =>
    let s := s.setLent (s.enc.lent.filter (· != t))
    (if s.enc.cur.isSome then s.sliceDue else s).endOpen t stAborted
  | 0xC3 => (s.setEnc fun e => { e with refresh := e.refresh.filter (· != t) }).endOpen t stAborted
  | 0xD1 =>
    let first := (s.dec.queue.head?.map (·.1)) == some t
    (s.setDec fun d => { d with cur := if first then none else d.cur, queue := d.queue.filter (·.1 != t) }).complete t stAborted 0 0
  | 0xD2 => (s.setDec fun d => { d with closeTag := none }).endOpen t stAborted
  | _ => let (a, s) := s.openWord; let (b, s) := s.openWord; s.scanEnd stAborted a b

/-- A command in flight is cancelled (R217); a PARTIAL_APPLY that has started runs to its completion. -/
def State.cancel (s : State) (c : Cmd) : State :=
  let s := if c.op == 0x60 then s.dryAborted else s
  if !c.started then s.endOpen c.tag stAborted
  else
    match c.op / 16 with
    | 0 => if c.op == 0x01 then s else s.endOpen c.tag stAborted
    | 2 => s.abortSlot c.tag
    | 3 => s.abortMove c.tag
    | 6 | 8 | 9 => s.abortMech c
    | _ => s.abortVideo c

/-- ABORT: the earliest-fetched command of that CMD_ID from that queue is cancelled, and the ABORT completes after it, with
the status it was given (R216, R217). DESIGN CHOICE (log entry 56): a command that has ended and whose completion is held (R205) is
not in flight any more. -/
def execAbort (tag : Fin 64) (s : State) : Host.Outcome State Fault Refusal :=
  match s.cmd? tag.val with
  | none => .next s
  | some c =>
    if c.op == 0x04 && !c.started && s.awake then
      match s.cmds.find? fun x => x.cmdId == c.p0 % 65536 && x.queue == c.p0 / 65536 % 16 && x.tag != c.tag with
      | none => .next (s.endOpen c.tag stBadParam).settle
      | some x => .next ((s.modCmd c.tag fun y => { y with started := true, abortOf := some x.tag }).cancel x).settle
    else .next s

/-! ### RELEASE_HELD -/

/-- The condition of R531 for a present fault holds: VM in mV, and the strobes as they read back. -/
def State.releaseOk (s : State) (vm strobes code : Nat) : Bool :=
  if code == 0x0410 || code == 0x0411 then
    !s.rdBit THERM.STAT_ACTIVE 4 && !(s.hasFault 0x0411 && 1200 < (s.srcTemp 0).getD 0)
  else if code == 0x0520 || code == 0x0521 then
    vm < 100 * s.rd SUPPLY.VM_DUMP_LEVEL && !s.flag SUPPLY.VM_DUMP_DUMP_ON
  else if code == 0x0630 then strobes == s.boot.strobeIdle
  else true

/-- What CORE.HELD.BLOCK takes when a release is refused (R531). -/
def State.releaseBlock (s : State) (vm strobes : Nat) : Option Nat :=
  if s.flag CORE.HELD_STAT_BRAKE then some 0xFFFF
  else
    ((s.faults.map (·.code)).filter fun c => !s.releaseOk vm strobes c).foldl (fun m c =>
      match m with
      | none => some c
      | some b => some (min b c)) none

/-- The device leaves HELD (R532): FEED's self-test is due, and the blade is to be homed. -/
def State.leaveHeld (s : State) : State :=
  let s := { (s.clearFaults releaseCodes).hbRestart with base := .run }
  let s := (s.untested (2 ^ 8)).setCut fun c => { c with needHome := true }
  ((s.wr CORE.HELD_BLOCK 0).idleRestart).settle

/-- RELEASE_HELD (R531 to R533), with VM as measured in mV and the levels that the strobes read back. -/
def execReleaseHeld (tag : Fin 64) (vm : BitVec 16) (strobes : BitVec 8) (s : State) : Host.Outcome State Fault Refusal :=
  match s.cmd? tag.val with
  | none => .next s
  | some c =>
    if c.op == 0x05 && !c.started && s.awake then
      if s.base != .held then .next (s.complete tag.val stOK s.mode 0).settle
      else
        match s.releaseBlock vm.toNat strobes.toNat with
        | some code => .next ((s.wr CORE.HELD_BLOCK code).complete tag.val stBusy 4 0).settle
        | none => let s := s.leaveHeld; .next (s.complete tag.val stOK s.mode 0).settle
    else .next s

end Sys2Proof.Machine
end

