-- ==== Sys2Proof/Machine/RodReset.lean ====
section
/-! DEFINITION. Rod resets (R93, R94) and self-tests (R68, R390, R427, R434, R470). -/

namespace Sys2Proof.Machine

/-! ### What a rod reset ends (steps 1 and 2 of R94) -/

/-- Every command of a list of tags ends ABORTED. -/
def State.abortAll (s : State) (ts : List Nat) : State := s.endAll ts stAborted

/-- PRINT ends its probe or dry-out, and gives up a recheck (R94, R293). -/
def State.stopPrint (s : State) : State :=
  let s := s.tear 7
  let s := match s.print.probe with
    | some t => ((s.setPrint fun p => { p with probe := none }).printIdle).endOpen t stAborted
    | none => s
  let s := match s.print.dry with
    | some d => s.dryEnd d stAborted (s.rd PRINT.PROBE_LEAK)
    | none => s
  s.abandonRecheck

/-- FEED tears what prints (R384), ends its move and stops the paper (R421, R425). -/
def State.stopFeed (s : State) : State :=
  let s := s.tear (if s.encLocked then 4 else 7)
  let s := if s.feed.tag.isSome then s.setFeed fun f => { f with status := stAborted } else s
  let s := s.setPrint fun p => { p with jobs := p.jobs.map fun j => if j.stage == .out then { j with noCut := some stAborted } else j }
  s.feedStop

/-- VIDIN ends its commands and its session; a SCAN goes on with the frames already captured (R32). -/
def State.stopVidin (s : State) : State :=
  let tags := ([s.vid.openTag, s.vid.stopTag, s.vid.renegTag]).filterMap id
  let s := ((s.sessionClose).setVid fun v => { v with renegTag := none, fifo := [] }).setReg VIDIN.HOST_HOLD_E.addr 0
  s.abortAll tags

/-- What a rod executes ends (step 2 of R94), and its dependants act on its loss (R34). -/
def State.rodStops (s : State) (r : Rod) : State :=
  match r with
  | .print => s.stopPrint
  | .raster => s.stopRaster
  | .feed => s.stopFeed
  | .cut => (s.cutAbort 6).setCut fun c => { c with needHome := true }
  | .mover => s.stopMover
  | .flash =>
    let s := (s.setLed fun l => { l with compact := none }).flashBusy
    match s.fl.job with
    | some j => (s.slotEnd j stAborted slotUnknown).setFl fun f => { f with broken := j.slot }
    | none => s
  | .ledger => (s.setLed fun l => { l with compact := none }).flashBusy
  | .vidin => s.stopVidin
  | .scan => s.scanEnd stAborted 0 0
  | .enc => s.stopEnc
  | .dec => s.stopDec
  | .supply | .loop | .therm => s.lost r
  | _ => s

/-! ### What a rod reset restores (step 4 of R94) -/

/-- The first host address of a rod's register block (R16). -/
def rodBlock (r : Rod) : Nat := 0x40000000 + 0x10000 * r.idx

/-- The registers of one block back at their reset values. -/
def State.blockReset (s : State) (r : Rod) : State :=
  let lo := rodBlock r
  { s with regs := (s.regs.filter fun c => c.1 < lo) ++
      (resetWords.filter fun c => lo ≤ c.1 && c.1 < lo + 0x10000) ++ s.regs.filter fun c => lo + 0x10000 ≤ c.1 }

/-- Fields of a rod that report what its reset does not change: pins, rails, flash contents, bands, actions in force. -/
def liveFields : Rod → List Fld
  | .flash => [FLASH.SLOTS_RUNNING, FLASH.SLOTS_ACTIVE, FLASH.JOURNAL_SEQ]
  | .therm => [THERM.STAT_ACTIVE, THERM.STAT_HIGHEST, THERM.STAT_CROSSED, THERM.LFXO_PPM_CORR]
  | .supply => [SUPPLY.VCORE_STAT_RAMP, SUPPLY.VCORE_STAT_SETTLED, SUPPLY.VCORE_STAT_MEAS_MV,
      SUPPLY.VH_STAT_ON, SUPPLY.VH_STAT_SETTLED, SUPPLY.VH_STAT_DISCHARGING, SUPPLY.VH_STAT_ILIM, SUPPLY.VH_STAT_RAMP,
      SUPPLY.VH_STAT_MEAS_MV, SUPPLY.VM_DUMP_DUMP_ON, SUPPLY.MEAS_VIN_MV, SUPPLY.MEAS_VM_MV]
  | .print => [PRINT.STAT_STATE]
  | .raster => (List.range 3).flatMap fun i => [bandState i, bandSeq i, bandLines i]
  | .feed => [FEED.STAT_PAPER, FEED.STAT_NEAR_END, FEED.STAT_COVER, FEED.STAT_VM_LIMIT]
  | .cut => [CUT.STAT_STATE, CUT.STAT_HOME, CUT.STAT_END]
  | _ => []

/-- FEED's own state starts again: POS and A are 0 (R410, R413), and its bridges are released unless a brake holds them. -/
def State.feedRestart (s : State) : State :=
  let braked := s.feed.onBrake || s.feed.hb.contains .low && s.rd FEED.STAT_STATE == 6
  let f : Feed := { encAB := s.feed.encAB, onBrake := s.feed.onBrake }
  s.setFeed fun o => { f with hb := if braked then o.hb else [.z, .z, .z, .z] }

/-- The state of a rod beside its registers starts again. -/
def State.rodRestart (s : State) (r : Rod) : State :=
  match r with
  | .print => s.setPrint fun p =>
      { jobs := p.jobs, vhSettled := p.vhSettled, recheckDue := p.recheckDue, lastReceipt := p.lastReceipt }
  | .raster => { s with raster := { slots := s.raster.slots } }
  | .feed => s.feedRestart
  | .loop => { s with loops := {} }
  | .flash => s.setFl fun f => { f with modes := 0, pages := [] }
  | .mover => { s with chans := List.replicate 16 {} }
  | .vidin => s.setVid fun _ => {}
  | .scan => s.setScan fun _ => {}
  | .enc => s.setEnc fun _ => {}
  | .dec => s.setDec fun _ => {}
  | _ => s

/-- A rod takes again the configuration that it last received from an image, and every other field its reset value. -/
def State.restore (s : State) (r : Rod) : State :=
  let live := (liveFields r).map fun f => (f, s.rd f)
  let brake := r == .feed && s.rd FEED.STAT_STATE == 6
  let level := s.rd SUPPLY.VCORE_TGT_LEVEL
  let s := (s.rodRestart r).blockReset r
  let s := if s.imageApplied then s.configRod r else s
  let s := live.foldl (fun s p => s.wr p.1 p.2) s
  let s := if s.rd SUPPLY.VCORE_TGT_LEVEL == level then s else s.wr SUPPLY.VCORE_STAT_SETTLED 0
  if brake then s.wr FEED.STAT_STATE 6 else s

/-- PLL-V is tried again for a rod that uses it (R111). -/
def State.pllvAgain (s : State) (r : Rod) : State :=
  if (r == .vidin || r == .enc || r == .dec) && s.clk.pllvFailed then
    s.setClk fun c => { c with pllvFailed := false, pllvFails := 0, pllvRelock := true }
  else s

/-- A rod reset up to its self-test; a paper path in motion stops before its configuration returns (R94). -/
def State.resetRod (s : State) (r : Rod) : State :=
  let s := ((s.rodStops r).clearReady r).clearFault (256 * r.idx + 0xD0)
  let s := ((s.untested (2 ^ r.idx)).markReset r true).pllvAgain r
  if r == .feed && s.feedMoving then s else s.restore r

/-- The rods that a write of CORE.ROD_RESET resets (R93). -/
def State.resetRods (s : State) (w : Word) : List Rod :=
  Rod.all.filter fun r => 2 ≤ r.idx && w.toNat.testBit r.idx && s.has r && !s.partialTargets.testBit r.idx

/-- A write of CORE.ROD_RESET. -/
def State.writeRodReset (s : State) (w : Word) : State := ((s.resetRods w).foldl (fun s r => s.resetRod r) s).settle

/-- ROD_RESET. -/
def execRodReset (w : BitVec 32) (s : State) : Host.Outcome State Fault Refusal :=
  .next (s.hostReg .core fun s => s.writeRodReset w)

/-! ### Self-tests -/

/-- A rod's self-test has passed: an earlier SELF_TEST cause is cleared (R91, R94). -/
def State.testPassed (s : State) (r : Rod) : State :=
  let s := { s with boot := { s.boot with tested := s.boot.tested ||| 2 ^ r.idx } }
  s.clearFault (256 * r.idx + causeSelfTest)

/-- A rod's self-test has failed. -/
def State.testFailed (s : State) (r : Rod) : State := (s.markReset r false).targetFailed r

/-- A self-test that a rod's own faults report has failed; in a partial apply it also gives the rod its SELF_TEST cause (R68). -/
def State.ownTestFailed (s : State) (r : Rod) : State := if s.inApply r then s.testFailed r else s.markReset r false

/-- A self-test of the rod may end now: it is due, and the rod has a configuration without a cause (R61, R68). -/
def State.testDue (s : State) (r : Rod) : Bool :=
  s.awake && s.has r && r != .flash && s.configured r && !s.img.causes.any (fun c => c.1 / 256 == r.idx && !allOrNone r) &&
    (!s.boot.tested.testBit r.idx || (r == .print && !s.print.probed) || (r == .ledger && !s.flag LEDGER.STAT_MOUNTED))

/-- PRINT's head is identified, probed and measured once VH has settled (R388 to R390, R394). -/
def State.headTest (s : State) (m : HeadMeas) (leak : Nat) : State :=
  if !s.print.vhSettled then s
  else
    match s.probeHead m with
    | (s, some f) => s.headFault f
    | (s, none) =>
      ((s.setPrint fun p => { p with probed := true }).leakSeen leak).autoDry

/-- FEED's self-test: the motor check, and in the brushless arrangement the hall code (R405, R427). -/
def State.motorTest (s : State) (m : List WindingMeas) (hall : Nat) : State :=
  let s := s.motorSeen m
  let v := (s.motorVerdict m).1
  if v != 0 then (s.raise 0x0801 v (s.reg FEED.MOTOR_R_MEAS.addr).toNat).ownTestFailed .feed
  else if !s.brushless then (s.testPassed .feed).clearFaults ((s.faultsOf .feed).map (·.code))
  else
    let s := s.wr FEED.HALL_CODE hall
    match (List.range 6).find? fun i => u8 (s.beadD 0x0806 []) i == hall with
    | none => s.testFailed .feed
    | some p =>
      ((s.testPassed .feed).clearFaults ((s.faultsOf .feed).map (·.code))).setFeed fun f =>
        { f with hallPlace := some p, sector := p }

/-- VIDIN's self-test is the negotiation of R470. -/
def State.cameraTest (s : State) (n : Negotiation) : State :=
  match s.negotiate n with
  | (s, true) => ((s.testPassed .vidin).vidinTested).renegotiated true
  | (s, false) => (s.ownTestFailed .vidin).renegotiated false

/-- RASTER's self-test writes and reads back one line in each band bank (R363), but in a bank that a band keeps protected (R28): which line
and what it holds are left open. -/
def State.bankTest (s : State) (i : Nat) : State :=
  let b := s.rd (bandBank i)
  if s.bandProtected b then s
  else
    let len := 16 * s.rd RASTER.CFG_LINE_WORDS
    let (y, s) := s.openWord
    let (n, s) := s.fresh
    let a := b * bankSize + len * (y % (bankSize / max 1 len))
    ((s.writeMem .sram a ((List.range len).map fun k => Config.testByte n k % 256)).readMem .sram a len).1

/-- A rod's self-test passes by its own checks, and what follows it: LEDGER mounts once FLASH serves it (R271), RASTER scans the store (R345), the
blade is to be homed (R434). SUPPLY's waits for VCORE to be SETTLED (R157). -/
def State.plainTest (s : State) (r : Rod) : State :=
  match r with
  | .cut =>
    if s.flag CUT.STAT_HOME && s.flag CUT.STAT_END then s.testFailed .cut
    else (s.testPassed r).setCut fun c => { c with needHome := true }
  | .ledger =>
    if !s.ready .flash then s.testPassed r
    else if s.flashHeld then s
    else (s.testPassed r).flashRead.mount
  | .raster => ((((s.bankTest 0).bankTest 1).bankTest 2).testPassed r).rescan
  | .supply => if s.flag SUPPLY.VCORE_STAT_SETTLED then s.testPassed r else s
  | _ => s.testPassed r

/-- SELF_TEST_DONE: a rod's self-test ends (R68). -/
def execSelfTestDone (r : Rod) (res : TestResult) (s : State) : Host.Outcome State Fault Refusal :=
  if !s.testDue r then .next s
  else
    match r, res with
    | .print, .head m leak => .next ((s.testPassed .print).headTest m leak.toNat).settle
    | .feed, .motor m hall =>
      if s.boot.brake != 0 || s.feedMoving || s.base != .run then .next s
      else .next ((if s.boot.resetting.testBit 8 then s.restore .feed else s).motorTest m hall.toNat).settle
    | .vidin, .camera n => if s.pllvOn then .next (s.cameraTest n).settle else .next s
    | .print, .pass | .feed, .pass | .vidin, .pass => .next s
    | _, .pass => .next (s.plainTest r).settle
    | .vidin, .fail => .next ((s.testFailed .vidin).renegotiated false).settle
    | _, .fail => .next (s.testFailed r).settle
    | _, _ => .next s

end Sys2Proof.Machine
end

