-- ==== Sys2Proof/Machine/Access.lean ====
section
/-! DEFINITION. Host accesses to the register space word by word (R10 to R17, R180 to R188, R567): what each register reads
as, and what a write of it does. Every register write that has a row of its own calls the same operation from here. -/

namespace Sys2Proof.Machine

/-! ### Which word an address names (R4, R16) -/

/-- The register at an address, if the map has one. -/
def regInfo? (a : Nat) : Option RegInfo := regTable.find? fun r => r.addr == a

/-- The rod whose register block holds the address. -/
def blockRod? (a : Nat) : Option Rod :=
  if 0x40000000 ≤ a && a < 0x40100000 then Rod.ofNat? ((a - 0x40000000) / 0x10000) else none

/-- The address lies in the block of a rod that the part lacks (R4). -/
def State.absentBlock (s : State) (a : Nat) : Bool :=
  match blockRod? a with
  | some r => !s.has r
  | none => false

/-- The address is that of a doorbell (R16). -/
def isDoorbell (a : Nat) : Bool := 0x50000000 ≤ a && a < 0x50000080

/-- The word is a hole: it reads as zero and ignores writes. -/
def State.isHole (s : State) (a : Nat) : Bool := s.absentBlock a || !(isDoorbell a || (regInfo? a).isSome)

/-! ### Reads -/

/-- A state field of a register that is computed when it is read. -/
structure View where
  fld : Fld
  val : State → Nat

/-- The fault that a rod shows: the earliest raised that is present (R526). -/
def State.shown (s : State) (r : Rod) : Nat × Nat :=
  match s.faultsOf r with
  | [] => (0, 0)
  | f :: _ => (f.code, f.param % 256)

/-- CORE.ROD_FAULT (R525). -/
def State.faultMask (s : State) : Nat := rodMask (Rod.all.filter fun r => s.has r && !(s.faultsOf r).isEmpty)

/-- The bead cause that CORE.IMG_BEAD_ERR shows (R73): that of the lowest-numbered bead; bead and cause. -/
def State.beadErr (s : State) : Nat × Nat :=
  (s.img.causes.foldl (fun (m : Option (Nat × Nat)) c =>
    match m with
    | none => some c
    | some b => if c.1 < b.1 then some c else some b) none).getD (0, 0)

/-- A rod works without a command: what it does on its own, or what a register write set going (R112). -/
def State.rodWorks (s : State) (r : Rod) : Bool :=
  match r with
  | .mover => (List.range 16).any fun k => s.rd (MOVER.CH_STATE_STATE k) == 1
  | .supply => s.flag SUPPLY.VH_STAT_ON || s.flag SUPPLY.VH_STAT_DISCHARGING
  | .print => s.flag PRINT.STAT_STATE || s.print.recheck || s.print.dry.isSome
  | .raster => s.rd RASTER.STAT_STORE == 1 || s.flag RASTER.RES_STAT_PENDING
  | .feed => s.flag FEED.STAT_STATE || s.feed.aux != .off
  | .cut => s.cutDriving
  | .loop => (List.range 4).any fun k => s.rd (LOOP.L_STAT_STATE k) == 2
  | .vidin => s.sensorPowered
  | _ => false

/-- CORE.CLK_GATE (R112). -/
def State.ungated (s : State) : Nat :=
  if !s.awake then 0
  else rodMask (Rod.all.filter fun r =>
    s.has r && (r.idx < 3 || s.mode == 3 || s.mode == 4 || !s.rodIdle r || s.rodWorks r || !s.boot.tested.testBit r.idx))

/-- Channels in a state, one bit each. -/
def State.chansIn (s : State) (st : Nat) : Nat :=
  ((List.range 16).map fun k => bit (s.rd (MOVER.CH_STATE_STATE k) == st) * 2 ^ k).foldl (· + ·) 0

/-- Slots that are held, one bit each. -/
def heldMask (f : Nat → Bool) : Nat := ((List.range 16).map fun i => bit (f i) * 2 ^ i).foldl (· + ·) 0

/-- The shared fields of CORE, VEC and LEDGER that are computed. -/
def coreViews : List View :=
  [⟨CORE.ID_VARIANT, fun s => if s.part == .av then 1 else 2⟩, ⟨CORE.MODE_MODE, State.mode⟩, ⟨CORE.CLK_GATE_UNGATED, State.ungated⟩,
   ⟨CORE.CLK_REQ_PLLV_REQ, State.pllvReq⟩, ⟨CORE.IMG_VER_OTP_ROLLBACK, fun s => s.otp.rollback⟩,
   ⟨CORE.OTP_STAT_VENDOR_KEY, fun s => bit s.otp.vendorKey.isSome⟩, ⟨CORE.OTP_STAT_INT_KEY1, fun s => bit s.otp.intKey1.isSome⟩,
   ⟨CORE.OTP_STAT_INT_KEY2, fun s => bit s.otp.intKey2.isSome⟩, ⟨CORE.OTP_STAT_FROZEN, fun s => bit s.otp.frozen.isSome⟩,
   ⟨CORE.OTP_STAT_SVC_CLOSED, fun s => bit s.otp.svcClosed⟩, ⟨CORE.IMG_BEAD_ERR_BEAD, fun s => s.beadErr.1⟩,
   ⟨CORE.IMG_BEAD_ERR_CAUSE, fun s => s.beadErr.2⟩, ⟨CORE.ROD_FAULT_FAULT, State.faultMask⟩,
   ⟨CORE.READY_WAIT_POOL_USED, fun s => s.waiting.length⟩, ⟨VEC.PIN_STAT_ASSERTED, State.irqPins⟩,
   ⟨VEC.TAGS_IN_USE, fun s => s.tagsHeld.length⟩, ⟨LEDGER.ON_SECONDS_SECONDS, State.onSeconds⟩,
   ⟨LEDGER.STAT_BUF_PCT, fun s => s.led.buf.length * 100 / appendRoom⟩]

/-- CORE.FAULT_CODEn and the rods' FAULT registers (R525). -/
def faultViews : List View :=
  (Rod.all.flatMap fun r =>
    [⟨⟨CORE.FAULT_CODE0_CODE.addr + 4 * r.idx, 0, 16⟩, fun s => (s.shown r).1⟩,
     ⟨⟨CORE.FAULT_CODE0_CODE.addr + 4 * r.idx, 16, 8⟩, fun s => (s.shown r).2⟩]) ++
    [⟨FLASH.FAULT_CODE, fun s => (s.shown .flash).1⟩, ⟨THERM.FAULT_CODE, fun s => (s.shown .therm).1⟩,
     ⟨SUPPLY.FAULT_CODE, fun s => (s.shown .supply).1⟩, ⟨PRINT.FAULT_CODE, fun s => (s.shown .print).1⟩,
     ⟨PRINT.FAULT_PARAM, fun s => (s.shown .print).2⟩, ⟨FEED.FAULT_CODE, fun s => (s.shown .feed).1⟩,
     ⟨FEED.FAULT_PARAM, fun s => (s.shown .feed).2⟩, ⟨CUT.FAULT_CODE, fun s => (s.shown .cut).1⟩,
     ⟨VIDIN.FAULT_CODE, fun s => (s.shown .vidin).1⟩, ⟨VIDIN.FAULT_PARAM, fun s => (s.shown .vidin).2⟩,
     ⟨LEDGER.FAULT_CODE, fun s => (s.shown .ledger).1⟩]

/-- The fields of MOVER, VIDIN and the queues that are computed. -/
def unitViews : List View :=
  [⟨MOVER.STAT_RUN, fun s => s.chansIn chRun⟩, ⟨MOVER.STAT_PARKED, fun s => s.chansIn chParked⟩,
   ⟨VIDIN.RING_E_HELD, fun s => heldMask s.heldE⟩, ⟨VIDIN.RING_S_HELD, fun s => heldMask s.heldS⟩,
   ⟨VIDIN.STAT_WAIT_REASON, State.vidinWait⟩] ++
    (List.range 4).map (fun k => ⟨⟨VIDIN.FRAME_WIN0_WORD.addr + 4 * k, 0, 32⟩, fun s => s.frameWord k⟩) ++
    (List.range 16).flatMap fun q =>
      [⟨VEC.Q_STAT_CQ_FULL q, fun s => bit (!(s.queues.getD q {}).held.isEmpty)⟩,
       ⟨VEC.Q_STAT_IN_FLIGHT q, fun s => (s.cmds.filter fun c => c.queue == q).length +
          ((s.queues.getD q {}).held.filter fun c => c.tag.isSome).length⟩]

/-- Every computed field. -/
def views : List View := coreViews ++ faultViews ++ unitViews

/-- The word at a register's address with its computed fields. -/
def State.viewWord (s : State) (a : Nat) : Word :=
  (views.filter fun v => v.fld.addr == a).foldl (fun w v => putField w v.fld.lo v.fld.wid (v.val s)) (s.reg a)

/-- What a word of register space reads as (R10, R12): fields that cannot be read, and holes, read 0. -/
def State.readWord (s : State) (a : Nat) : Word :=
  if s.isHole a then 0
  else match regInfo? a with
    | some i => s.viewWord a &&& BitVec.ofNat 32 i.readable
    | none => 0

/-- The side effects of a full read of a word (R10, R186): RC fields are cleared, and the frame window pops. -/
def State.readEffect (s : State) (a : Nat) : State :=
  if s.isHole a then s
  else if a == VIDIN.FRAME_WIN3_WORD.addr then s.popRecord
  else match regInfo? a with
    | some i => if i.rc == 0 then s else s.setReg a (s.reg a &&& ~~~(BitVec.ofNat 32 i.rc))
    | none => s

/-! ### Writes -/

/-- A field that holds a written value to a range (R567). -/
structure Limit where
  fld : Fld
  lo : Nat
  hi : Nat

/-- The fields whose written values act as the nearest limit of their range. -/
def limits : List Limit :=
  [⟨CORE.TALLY_CFG_PERIOD_MS, 100, 65535⟩, ⟨CORE.BG_SCRUB_PERIOD_S, 10, 3600⟩, ⟨CORE.BG_TELEM_PERIOD_MS, 100, 60000⟩,
   ⟨SUPPLY.VH_SLEW_RATE, 1, 20⟩, ⟨THERM.MON_PERIOD_MS, 10, 1000⟩, ⟨PRINT.ENERGY_E_BASE, 10, 2000⟩, ⟨PRINT.ENERGY_V_DRV, 0, 200⟩,
   ⟨PRINT.TCOMP_TC, 0, 200⟩, ⟨PRINT.TCOMP_RANK_PCT, 0, 20⟩, ⟨PRINT.CAP_I_PEAK, 100, 800⟩, ⟨PRINT.CAP_SLICES, 1, 8⟩,
   ⟨PRINT.CAP_FLOOR_PCT, 50, 90⟩, ⟨PRINT.CAP_FLOOR_HOLD, 1, 255⟩, ⟨PRINT.LINE_CTL_LATE_MAX, 1, 15⟩, ⟨PRINT.DRY_DRY_PCT, 5, 40⟩,
   ⟨FEED.MOTION_ACCEL, 10, 500⟩, ⟨FEED.MOTION_DECEL, 10, 500⟩, ⟨FEED.REV_REV_SPEED, 10, 100⟩, ⟨FEED.REV_VM_BRAKE_MA, 0, 1200⟩,
   ⟨CUT.CURRENT_CFG_I_RUN, 100, 2500⟩, ⟨CUT.CURRENT_CFG_I_JAM, 100, 2500⟩, ⟨CUT.JAM_PARTIAL_MS, 10, 250⟩, ⟨CUT.JAM_JAM_MS, 1, 50⟩,
   ⟨SCAN.CFG_QR_MAX_VERSION, 1, 25⟩, ⟨SCAN.CFG_TIME_LIMIT, 100, 10000⟩] ++
    (List.range 16).map (fun q => ⟨VEC.Q_COAL_COUNT q, 1, 255⟩) ++
    (List.range 4).flatMap fun k => [⟨LOOP.L_FE_TIME_LIMIT_MS k, 1, 10000⟩, ⟨LOOP.L_OSC_WIN_MS k, 1, 1000⟩, ⟨LOOP.L_OSC_COUNT k, 0, 64⟩]

/-- A register's fields held to their ranges. -/
def State.limit (s : State) (a : Nat) : State :=
  (limits.filter fun l => l.fld.addr == a).foldl (fun s l => s.wr l.fld (clampNat l.lo l.hi (s.rd l.fld))) s

/-- A write of a register by the type codes of its fields alone (R10, R11): RW fields take the written value, a 1 clears a
W1C bit, and every other field keeps its own. -/
def State.plainWrite (s : State) (i : RegInfo) (w : Word) : State :=
  let rw := BitVec.ofNat 32 i.rw
  (s.setReg i.addr ((s.reg i.addr &&& ~~~rw &&& ~~~(w &&& BitVec.ofNat 32 i.w1c)) ||| (w &&& rw))).limit i.addr

/-- A write of LINK.OFFER (R172): the offer meets what the image in force allows, and the settings in force stay. DESIGN CHOICE (log
entry 56): OFFER.LANES reads as it was written, though its bit 0 is taken as 1 for the agreement. -/
def State.writeOffer (s : State) (w : Word) : State :=
  let s := ((s.wr LINK.CAP_MAX_MHZ (u8 (s.beadD 0x0180 [100]) 0)).wr LINK.CAP_LANES (u8 (s.beadD 0x0181 [7]) 0)).wr LINK.CAP_DCRC
    (u8 (s.beadD 0x0182 [1]) 0)
  let mhz := if field w 8 8 == 0 then 25 else field w 8 8
  let s := ((s.wr LINK.OFFER_LANES (field w 0 3)).wr LINK.OFFER_MHZ mhz).wr LINK.OFFER_DCRC (field w 16 1)
  let both := s.rd LINK.CAP_LANES &&& (s.rd LINK.OFFER_LANES ||| 1)
  let s := s.wr LINK.AGREED_LANES (if both.testBit 2 then 4 else if both.testBit 1 then 2 else 1)
  let s := (s.wr LINK.AGREED_MHZ (min (s.rd LINK.CAP_MAX_MHZ) mhz)).wr LINK.AGREED_DCRC (s.rd LINK.CAP_DCRC &&& field w 16 1)
  s.wr LINK.AGREED_STATE 1

/-- A write of LINK.SWITCH (R173): in AGREED the key puts the agreed settings in force, and training begins. -/
def State.writeSwitch (s : State) (w : Word) : State :=
  if field w 0 16 == 0x5357 && s.rd LINK.AGREED_STATE == 1 then
    let s := ((s.wr LINK.ACTIVE_LANES (s.rd LINK.AGREED_LANES)).wr LINK.ACTIVE_MHZ (s.rd LINK.AGREED_MHZ)).wr LINK.ACTIVE_DCRC
      (s.rd LINK.AGREED_DCRC)
    (s.wr LINK.AGREED_STATE 2).wr LINK.TRAIN_FAILS 0
  else s

/-- A write of CUT.CURRENT_CFG: I_JAM lies between I_RUN and 2500 mA. -/
def State.writeCutCurrent (s : State) (w : Word) : State :=
  let run := clampNat 100 2500 (field w 0 12)
  (s.wr CUT.CURRENT_CFG_I_RUN run).wr CUT.CURRENT_CFG_I_JAM (clampNat run 2500 (field w 16 12))

/-- A write of SCAN.CFG: a mask of 0 is ignored. -/
def State.writeScanCfg (s : State) (w : Word) : State :=
  let m := field w 0 4
  let s := if m == 0 then s else s.wr SCAN.CFG_SYMBOLOGIES m
  (s.wr SCAN.CFG_QR_MAX_VERSION (clampNat 1 25 (field w 8 5))).wr SCAN.CFG_TIME_LIMIT (clampNat 100 10000 (field w 16 16))

/-- A write of Lk_OSC: COUNT is 0 or 2 to 64. -/
def State.writeOsc (s : State) (k : Nat) (w : Word) : State :=
  let n := field w 16 7
  ((s.wr (LOOP.L_OSC_WIN_MS k) (clampNat 1 1000 (field w 0 10))).wr (LOOP.L_OSC_COUNT k) (if n == 1 then 2 else min 64 n)).wr
    (LOOP.L_OSC_SIGNAL k) (field w 23 1)

/-- A register whose write has an effect of its own. -/
structure Effect where
  addr : Nat
  act : State → Word → State

/-- The registers of CORE, VEC and LINK with an effect of their own. -/
def coreEffects : List Effect :=
  [⟨CORE.IMG_PUSH_GO.addr, State.writeImgPush⟩, ⟨CORE.RESET_CTL_GO.addr, State.writeResetCtl⟩,
   ⟨CORE.ROD_RESET_MASK.addr, State.writeRodReset⟩, ⟨CORE.HEARTBEAT_KICK.addr, State.writeHeartbeat⟩,
   ⟨CORE.HB_PERIOD_PERIOD_MS.addr, State.writeHbPeriod⟩, ⟨CORE.MODE_ALLOW_TALLY.addr, State.writeModeAllow⟩,
   ⟨CORE.IDLE_HOLD_TALLY_MS.addr, State.writeIdleHold⟩, ⟨CORE.CLK_REQ_PLLV_WARM.addr, State.writeClkReq⟩,
   ⟨CORE.DVFS_POINT.addr, State.writeDvfs⟩, ⟨CORE.BG_CTL_SCRUB_EN.addr, State.writeBgCtl⟩,
   ⟨LINK.OFFER_LANES.addr, State.writeOffer⟩, ⟨LINK.SWITCH_KEY.addr, State.writeSwitch⟩,
   ⟨VEC.PENDING_PENDING.addr, State.writePending⟩] ++
    (List.range 4).map (fun k => ⟨(pinmask k).addr, fun s w => s.writePinmask k w⟩) ++
    (List.range 16).flatMap fun q =>
      [⟨(VEC.Q_SQ_BASE_ADDR q).addr, fun s w => s.writeQBase q (VEC.Q_SQ_BASE_ADDR q) w⟩,
       ⟨(VEC.Q_CQ_BASE_ADDR q).addr, fun s w => s.writeQBase q (VEC.Q_CQ_BASE_ADDR q) w⟩,
       ⟨(VEC.Q_CFG_DEPTH q).addr, fun s w => s.writeQCfg q w⟩]

/-- The registers of the other rods with an effect of their own. -/
def rodEffects : List Effect :=
  [⟨SUPPLY.VCORE_TGT_LEVEL.addr, State.writeVcoreTgt⟩, ⟨SUPPLY.VH_CTL_EN.addr, State.writeVhCtl⟩,
   ⟨SUPPLY.VH_TGT_CODE.addr, State.writeVhTgt⟩, ⟨SUPPLY.VIN_FLOOR_LEVEL.addr, State.writeVinFloor⟩,
   ⟨SUPPLY.VIN_CRIT_LEVEL.addr, State.writeVinCrit⟩, ⟨SUPPLY.VM_CEIL_LEVEL.addr, State.writeVmCeil⟩,
   ⟨SUPPLY.VM_DUMP_LEVEL.addr, State.writeVmDump⟩, ⟨FEED.AUX_ON.addr, State.writeAux⟩,
   ⟨CUT.CURRENT_CFG_I_RUN.addr, State.writeCutCurrent⟩, ⟨CUT.TIMING_END_MS.addr, State.writeCutTiming⟩,
   ⟨LOOP.APPLY_MASK.addr, State.writeApply⟩, ⟨VIDIN.HOST_HOLD_E.addr, State.writeHostHold⟩,
   ⟨VIDIN.EXPOSURE_EXP.addr, State.writeExposure⟩, ⟨SCAN.CFG_SYMBOLOGIES.addr, State.writeScanCfg⟩,
   ⟨ENC.RATE_KBPS.addr, State.writeRate⟩, ⟨DEC.PIC_HOLD_HOLD.addr, State.writePicHold⟩] ++
    (List.range 4).map (fun k => ⟨(LOOP.L_OSC_WIN_MS k).addr, fun s w => s.writeOsc k w⟩) ++
    (List.range 16).flatMap fun k =>
      [⟨(MOVER.CH_CTRL_GO k).addr, fun s w => s.writeChCtrl k w⟩, ⟨(MOVER.CH_APPEND_APPEND k).addr, fun s _ => s.append k⟩]

/-- Every register with an effect of its own, the write windows and doorbells apart. -/
def effects : List Effect := coreEffects ++ rodEffects

/-- The lane of a write window at an address (R185). -/
def laneOf (base a : Nat) : Option Nat := if base ≤ a && a < base + 16 then some ((a - base) / 4) else none

/-- A host write of one 32-bit word of register space, with its status (R183 to R188). -/
def State.writeWordAt (s : State) (a : Nat) (w : Word) : State × Nat :=
  if s.isHole a then (s, stHole)
  else if isDoorbell a then
    let q := (a - 0x50000000) / 8
    let r := if a % 8 == 0 then s.ringTail q w else s.ringHead q w
    (r.1, if r.2 then stOK else stQovf)
  else if ((blockRod? a).map s.writesBlocked).getD false then (s, stBusy)
  else match laneOf RASTER.RES_WIN0_ID.addr a, laneOf LOOP.COEF_WIN0_LOOP.addr a with
    | some l, _ => let r := s.writeResWin l w; (r.1, if r.2 then stBusy else stOK)
    | none, some l => let r := s.writeCoefWin l w; (r.1, if r.2 then stBusy else stOK)
    | none, none =>
      match effects.find? fun e => e.addr == a, regInfo? a with
      | some e, _ => (e.act s w, stOK)
      | none, some i => (s.plainWrite i w, stOK)
      | none, none => (s, stHole)

/-- A host write of one word, and what it sets going. -/
def State.hostWrite (s : State) (a : Nat) (w : Word) : State × Nat :=
  let r := s.writeWordAt a w
  (r.1.settle, r.2)

/-- REGISTER_WRITE: a host write of any word of register space (R10, R11). -/
def execRegisterWrite (a : BitVec 32) (w : BitVec 32) (s : State) : Host.Outcome State Fault Refusal :=
  if a.toNat % 4 == 0 && 0x40000000 ≤ a.toNat && a.toNat < 0x60000000 then
    .next (s.hostReg .core fun s => (s.hostWrite a.toNat w).1)
  else .next s

/-- LINK_OFFER. -/
def execLinkOffer (w : BitVec 32) (s : State) : Host.Outcome State Fault Refusal :=
  .next (s.hostReg .link fun s => s.writeOffer w)

/-- LINK_SWITCH. -/
def execLinkSwitch (w : BitVec 32) (s : State) : Host.Outcome State Fault Refusal :=
  .next (s.hostReg .link fun s => s.writeSwitch w)

end Sys2Proof.Machine
end

