-- ==== Sys2Proof/Machine/Io.lean ====
section
/-! DEFINITION. The accelerometer and its shocks (R536 to R539), and the supplies of the banks of signal balls (R542 to
R544). -/

namespace Sys2Proof.Machine

/-! ### The accelerometer -/

def State.setAccel (s : State) (f : Accel → Accel) : State := { s with accel := f s.accel }

/-- Bead 0x0F00; empty where it is absent. -/
def State.accelBead (s : State) : List Nat := (s.bead? 0x0F00).getD []

/-- LEDGER serves the accelerometer: in RECKON, CARRY and HELD, once an image with bead 0x0F00 is applied (R537). -/
def State.accelOn (s : State) : Bool := s.awake && s.imageApplied && !s.accelBead.isEmpty

/-- The accelerometer is absent (R539); a shock in progress is not recorded. -/
def State.accelAbsent (s : State) : State :=
  let s := s.setAccel fun _ => {}
  (s.raise 0x0F01 0 (u8 s.accelBead 0)).settle

/-- A read that was not acknowledged: the third in a row raises the fault. -/
def State.accelNack (s : State) : State :=
  if s.accel.nacks + 1 < 3 then s.setAccel fun a => { a with nacks := a.nacks + 1 } else s.accelAbsent

/-- The identity read and the initialisation writes (R537). -/
def State.accelInit (s : State) (ident : Option (BitVec 8)) : State :=
  match ident with
  | none => s.accelNack
  | some v => if v.toNat == u8 s.accelBead 3 then s.setAccel fun a => { a with ready := true, nacks := 0 } else s.accelAbsent

/-- The magnitude on axis `i` in 0.01 mg, from the six data bytes. -/
def State.axisMag (s : State) (data : List Nat) (i : Nat) : Nat :=
  let b0 := data.getD (2 * i) 0
  let b1 := data.getD (2 * i + 1) 0
  let raw := if (u8 s.accelBead 5).testBit 0 then b0 * 256 + b1 else b1 * 256 + b0
  (ofBits 16 raw).natAbs * u16 s.accelBead 6

/-- A shock has ended: its record is buffered and counted (R538). -/
def State.shockEnd (s : State) (x : Shock) : State :=
  let us := x.last * 1000000 / max 1 (u16 s.accelBead 8)
  let mg := min 65535 (x.peak / 100)
  let s := (s.setAccel fun a => { a with shock := none }).bufferRecord 4 (leBytes 2 mg ++ [x.axis, 0] ++ leBytes 4 us ++ leBytes 4 0)
  (((s.count cntShocks).wr LEDGER.SHOCK_PEAK_MG mg).wr LEDGER.SHOCK_AXIS x.axis).bump LEDGER.SHOCK_COUNT

/-- A sample advances the shock in progress, or begins one (R538). -/
def State.shockSample (s : State) (data : List Nat) : State :=
  let mags := (List.range 3).map fun i => s.axisMag data i
  let top := mags.foldl max 0
  let axis := ((List.range 3).find? fun i => mags.getD i 0 == top).getD 0
  let hit := decide (u16 s.accelBead 10 * 100 ≤ top)
  let low := decide (4 * top < 3 * (u16 s.accelBead 10 * 100))
  match s.accel.shock with
  | none => if hit then s.setAccel fun a => { a with shock := some ⟨top, axis, 1, 1, 0⟩ } else s
  | some x =>
    let n := x.n + 1
    let x := if x.peak < top then { x with peak := top, axis := axis } else x
    let x := { x with n := n, last := if hit then n else x.last, quiet := if low then x.quiet + 1 else 0 }
    if x.quiet == 3 then s.shockEnd x else s.setAccel fun a => { a with shock := some x }

/-- ACCEL_SAMPLE: LEDGER reads the accelerometer; before its first sample it reads the identity and initialises it. `ident` is
the identity read and `data` the six data bytes, none where nothing was acknowledged; without VIO_MX nothing is (R543). -/
def execAccelSample (ident : Option (BitVec 8)) (data : Option (List (BitVec 8))) (s : State) : Host.Outcome State Fault Refusal :=
  if s.accelOn && !s.hasFault 0x0F01 then
    let s := if s.accel.ready then s else s.accelInit (if s.bank 3 then ident else none)
    if !s.accel.ready then .next s
    else match (if s.bank 3 then data else none) with
      | none => .next s.accelNack
      | some d => .next ((s.setAccel fun a => { a with nacks := 0 }).shockSample (d.map (·.toNat)))
  else .next s

/-- ACCEL_RETRY: the identity read and the initialisation are repeated; success clears ACCEL_ABSENT (R539). -/
def execAccelRetry (ident : Option (BitVec 8)) (s : State) : Host.Outcome State Fault Refusal :=
  if s.accelOn && s.hasFault 0x0F01 then
    match (if s.bank 3 then ident else none) with
    | some v =>
      if v.toNat == u8 s.accelBead 3 then
        .next ((s.setAccel fun a => { a with ready := true, nacks := 0 }).clearFault 0x0F01).settle
      else .next s
    | none => .next s
  else .next s

/-! ### The banks' supplies -/

/-- A bank's number in CORE.IO_STAT. -/
def bankIdx : IoBank → Nat
  | .hl => 0
  | .fl => 1
  | .hd => 2
  | .mx => 3
  | .cam => 4

/-- VIO_RISE: the bank becomes present; its class is selected 250 µs later (R542). -/
def execVioRise (b : IoBank) (s : State) : Host.Outcome State Fault Refusal :=
  if s.bank (bankIdx b) then .next s
  else .next ((s.wrBit CORE.IO_STAT_PRESENT (bankIdx b) true).wrBit CORE.IO_STAT_CLASS33 (bankIdx b) false)

/-- VIO_CLASS_SELECT: the class, 3.3 V where VIO lies above 2.40 V (R542). -/
def execVioClassSelect (b : IoBank) (high : Bool) (s : State) : Host.Outcome State Fault Refusal :=
  if s.bank (bankIdx b) then .next (s.wrBit CORE.IO_STAT_CLASS33 (bankIdx b) high) else .next s

/-- The inputs of bank MX read inactive (R429, R543): paper present, not near its end, cover closed, both cutter switches
inactive. -/
def State.mxGone (s : State) : State :=
  let s := if s.flag FEED.STAT_PAPER then s else s.sensorSet .paper true
  let s := if s.flag FEED.STAT_NEAR_END then s.sensorSet .nearEnd false else s
  let s := if s.flag FEED.STAT_COVER then s else s.sensorSet .cover true
  if s.flag CUT.STAT_HOME || s.flag CUT.STAT_END then s.cutSwitches false false else s

/-- VIO_FALL: the bank is gone, and its inputs read inactive (R543); with HL gone, RESET_N reads high, and BOOT_SRC low; with HD gone
while a strobe is active, the pull resistors hold every strobe inactive, and its read-back raises STROBE_FAULT (R82, R368). -/
def execVioFall (b : IoBank) (s : State) : Host.Outcome State Fault Refusal :=
  if !s.bank (bankIdx b) then .next s
  else
    let s := (s.wrBit CORE.IO_STAT_PRESENT (bankIdx b) false).wrBit CORE.IO_STAT_CLASS33 (bankIdx b) false
    match b with
    | .hl => .next (if s.boot.pinLow then { s with boot := { s.boot with pinLow := false, bootSrc := false } } else s)
    | .mx => .next (if s.awake then s.mxGone else s)
    | .hd =>
      if s.awake && s.boot.strobesKnown && s.print.strobes != 0 then .next ((s.raise 0x0630 0 s.boot.strobeIdle).quiet).settle
      else .next s
    | _ => .next s

end Sys2Proof.Machine
end

