-- ==== Sys2Proof/Machine/Link.lean ====
section
/-! DEFINITION. The host link (R158 to R193): headers, the access to register and memory space, and the transactions with
the bytes that the MB7140 sends for them. A transaction is one command: it holds what the host sent as the MB7140 sampled
it. -/

namespace Sys2Proof.Machine

/-! ### Check codes (R168) -/

/-- One bit of CRC-8, polynomial 0x07. -/
def crc8Bits : Nat → Nat → Nat
  | 0, c => c
  | n + 1, c => crc8Bits n (if c.testBit 7 then (2 * c % 256) ^^^ 0x07 else 2 * c)
def crc8 (l : List Nat) : Nat := l.foldl (fun c b => crc8Bits 8 (c ^^^ b)) 0

/-- One bit of CRC-16, polynomial 0x1021. -/
def crc16Bits : Nat → Nat → Nat
  | 0, c => c
  | n + 1, c => crc16Bits n (if c.testBit 15 then (2 * c % 65536) ^^^ 0x1021 else 2 * c)
def crc16 (l : List Nat) : Nat := l.foldl (fun c b => crc16Bits 8 (c ^^^ (b * 256))) 0xFFFF

/-! ### Status and errors (R165, R184, R193) -/

/-- The order of R19 and R184. -/
def statusOrder : List Nat :=
  [stAlign, stAuth, stHeld, stUnsupported, stBadParam, stNotReady, stBusy, stTorn, stEcc, stTimeout, stQovf, stAborted, stHole]

/-- The status that several outcomes give. -/
def rankStatus (l : List Nat) : Nat := (statusOrder.find? fun c => l.contains c).getD stOK

/-- Several of them. -/
def State.linkErrs (s : State) (l : List Fld) : State := l.foldl (fun s f => s.linkErr f) s

/-- The status byte (R165). -/
def State.statusByte (s : State) (code : Nat) : Nat :=
  code + 16 * bit (s.rd VEC.PENDING_PENDING != 0) + 32 * bit (s.reg LINK.ERR_ALIGN.addr != 0) + 128

/-- The MB7140 sends its status byte, and read data behind it. -/
def State.send (s : State) (code : Nat) (data : List Nat) : State := { s with reply := s.statusByte code :: data }

/-- The MB7140 drives nothing. -/
def State.silent (s : State) : State := { s with reply := [] }

/-- The data of a READ, with its CRC where data CRC is in force (R164). -/
def State.withCrc (s : State) (data : List Nat) : List Nat :=
  if s.flag LINK.ACTIVE_DCRC then data ++ leBytes 2 (crc16 data) else data

/-! ### Headers (R162, R163, R169, R174, R180 to R182) -/

/-- The header's bytes ahead of HCRC. -/
def headerBytes (h : Header) : List Nat := h.op.toNat :: leBytes 2 h.len.toNat ++ leBytes 4 h.addr.toNat

def headerSync (h : Header) : Bool := h.op.toNat / 16 == 10
def headerCrc (h : Header) : Bool := crc8 (headerBytes h) == h.hcrc.toNat

/-- The opcode, 0 where R163 names none. -/
def headerOp (h : Header) : Nat := let o := h.op.toNat % 16; if 1 ≤ o && o ≤ 4 then o else 0

/-- The transaction starts in register space. -/
def inRegSpace (a : Nat) : Bool := 0x40000000 ≤ a && a < 0x60000000

/-- The errors of a READ's or WRITE's LEN and ADDR (R163, R180 to R182). -/
def rangeErrs (op a n : Nat) : List (Nat × Fld) :=
  (if n == 0 || 4096 < n then [(stBadParam, LINK.ERR_LEN)]
    else if 0x100000000 < a + n || (a < 0x40000000 && 0x40000000 < a + n) || (a < 0x60000000 && 0x60000000 < a + n) then
      [(stBadParam, LINK.ERR_LEN)] else []) ++
    if inRegSpace a && (a % 4 != 0 || (4 < n && n % 4 != 0) || (op == 2 && 1 ≤ n && n < 4)) then [(stAlign, LINK.ERR_ALIGN)] else []

/-- Why a header's transaction is not executed: the status and the error bit of each condition (R169, R174, R193). DESIGN CHOICE (log
entry 18): a header whose SYNC is wrong is not interpreted, so its HCRC is not compared, and FRAME alone is recorded. -/
def State.headerErrs (s : State) (h : Header) : List (Nat × Fld) :=
  if !headerSync h then [(stAborted, LINK.ERR_FRAME)]
  else if !headerCrc h then [(stAborted, LINK.ERR_HCRC)]
  else if s.untrained then [(stAborted, LINK.ERR_UNTRAINED)]
  else match headerOp h with
    | 0 => [(stUnsupported, LINK.ERR_FRAME)]
    | 3 => []
    | 4 => if h.len.toNat != 32 || h.addr.toNat != 0 then [(stBadParam, LINK.ERR_LEN)] else []
    | op => rangeErrs op h.addr.toNat h.len.toNat

/-- The header is of another transaction than the row's: SYNC, HCRC and the opcode are good, and it names another. -/
def otherOp (h : Header) (op : Nat) : Bool := headerSync h && headerCrc h && headerOp h != 0 && headerOp h != op

/-- The fixed header of TRAIN (R175). -/
def trainHeader (h : Header) : Bool := headerSync h && headerCrc h && headerOp h == 4 && h.len.toNat == 32 && h.addr.toNat == 0

/-! ### Memory space (R189 to R192) -/

/-- The flash window. -/
def inWindow (a : Nat) : Bool := 0x10000000 ≤ a && a < 0x14000000

/-- The part of a range that lies in one of the memories from offset `from_` on: its offset there and its length. -/
def Ram.part (m : Ram) (a n : Nat) (from_ : Nat := 0) : Nat × Nat :=
  let lo := max a (m.base + from_)
  let hi := min (a + n) (m.base + m.size)
  (lo - m.base, hi - lo)

/-- The byte lies in main SRAM or keep RAM. -/
def inRam (a : Nat) : Bool := a < 0x600000 || (0x08000000 ≤ a && a < 0x08010000)

/-- A host write reaches the byte: main SRAM, and of keep RAM the host area (R255). -/
def hostMay (a : Nat) : Bool := a < 0x600000 || (0x0800C000 ≤ a && a < 0x08010000)

/-- The byte lies in a hole for a read (R16, R17). -/
def State.readHole (s : State) (a : Nat) : Bool :=
  if inWindow a then s.ready .flash && s.rd FLASH.STAT_SIZE_MIB * 0x100000 ≤ a - 0x10000000 else !inRam a

/-- A byte of memory space as a read returns it: 0 in a hole, in a word with an uncorrectable error, and in the window while
FLASH is not READY (R17, R189, R191). -/
def State.hostByte (s : State) (a : Nat) : Nat :=
  if inWindow a then
    if !s.ready .flash || s.readHole a then 0 else (Store.get 0xFF s.flash (a - 0x10000000)).toNat
  else if a < 0x600000 then if s.sramUe.contains (a / 16) then 0 else s.byte .sram a
  else if inRam a then if s.keepUe.contains ((a - 0x08000000) / 4) then 0 else (s.seenBytes .keep (a - 0x08000000) 1).getD 0 0
  else 0

/-- Some byte of a range meets a condition. -/
def anyByte (a n : Nat) (p : Nat → Bool) : Bool := (List.range n).any fun i => p (a + i)

/-- The flash serves no read now: a sector is being erased, and the flash suspends nothing (R192). -/
def State.flashStuck (s : State) : Bool := s.flashHeld && (s.led.compact.isSome || s.fl.job.any fun j => j.erase)

/-- A read of memory space: the bytes, the errors met, and the status of the whole. -/
def State.memRead (s : State) (a n : Nat) : State × List Nat × Nat :=
  let win := anyByte a n inWindow
  let need := anyByte a n fun x => inWindow x && !s.readHole x
  if need && s.ready .flash && s.flashStuck then (s, List.replicate n 0, stTimeout)
  else
    let data := (List.range n).map fun i => s.hostByte (a + i)
    let ps := Ram.sram.part a n
    let pk := Ram.keep.part a n
    let ecc := (s.badWord .sram ps.1 ps.2).isSome || (s.badWord .keep pk.1 pk.2).isSome
    let st := (if anyByte a n s.readHole then [stHole] else []) ++ (if win && !s.ready .flash then [stNotReady] else []) ++
      if ecc then [stEcc] else []
    let s := { ((s.readMem .sram ps.1 ps.2).1.readMem .keep pk.1 pk.2).1 with free := s.free + 1 }
    let s := if need && s.ready .flash then s.flashRead else s
    (s, data, rankStatus st)

/-- A write of memory space: bytes in a hole are ignored, and a word that it covers in part and that holds an uncorrectable
error is not written. -/
def State.memWrite (s : State) (a : Nat) (data : List Nat) : State × Nat :=
  let n := data.length
  if s.isProtected a n then (s, stBusy)
  else
    let ps := Ram.sram.part a n
    let pk := Ram.keep.part a n 0xC000
    let st := (if anyByte a n fun x => !hostMay x then [stHole] else []) ++
      if s.writeBad .sram ps.1 ps.2 || s.writeBad .keep pk.1 pk.2 then [stEcc] else []
    let s := s.writeMem .sram ps.1 ((data.drop (ps.1 - a)).take ps.2)
    let s := s.writeMem .keep pk.1 ((data.drop (0x08000000 + pk.1 - a)).take pk.2)
    (s, rankStatus st)

/-! ### Register space (R181 to R187) -/

/-- Reads of whole words in ascending order, with their side effects. -/
def State.regReads (s : State) : Nat → Nat → State × List Nat × List Nat
  | _, 0 => (s, [], [])
  | a, n + 1 =>
    let w := s.readWord a
    let st := if s.isHole a then stHole else stOK
    let r := State.regReads (s.readEffect a) (a + 4) n
    (r.1, leBytes 4 w.toNat ++ r.2.1, st :: r.2.2)

/-- Writes of whole words in ascending order. -/
def State.regWrites (s : State) (a : Nat) : List Nat → State × List Nat
  | [] => (s, [])
  | w :: ws =>
    let r := s.hostWrite a (BitVec.ofNat 32 w)
    let t := State.regWrites r.1 (a + 4) ws
    (t.1, r.2 :: t.2)

/-- Bytes as little-endian words. -/
def wordsOf (data : List Nat) : List Nat := (List.range (data.length / 4)).map fun i => leNat ((data.drop (4 * i)).take 4)

/-- A read of either space; one of fewer than 4 bytes of register space is narrow and has no side effects (R182). -/
def State.access (s : State) (a n : Nat) : State × List Nat × Nat :=
  if inRegSpace a then
    if n < 4 then (s, (leBytes 4 (s.readWord a).toNat).take n, if s.isHole a then stHole else stOK)
    else
      let r := s.regReads a (n / 4)
      (r.1, r.2.1, rankStatus r.2.2)
  else s.memRead a n

/-- A write of either space. -/
def State.store (s : State) (a : Nat) (data : List Nat) : State × Nat :=
  if inRegSpace a then
    let r := s.regWrites a (wordsOf data)
    (r.1, rankStatus r.2)
  else s.memWrite a data

/-! ### Transactions -/

/-- A transaction whose header is refused: its errors, its status, and zeros for the data of a READ whose LEN is in range. -/
def State.refuse (s : State) (h : Header) (errs : List (Nat × Fld)) : State :=
  let n := h.len.toNat
  let read := headerSync h && headerCrc h && headerOp h == 1 && 1 ≤ n && n ≤ 4096
  let s := s.linkErrs (errs.map (·.2))
  s.send (rankStatus (errs.map (·.1))) (if read then s.withCrc (List.replicate n 0) else [])

/-- A READ whose header is good (R166): the bytes are fetched with their side effects, then the status is sent. -/
def State.doRead (s : State) (h : Header) : State :=
  let r := s.access h.addr.toNat h.len.toNat
  let s := if r.2.2 == stTimeout then r.1.linkErr LINK.ERR_TIMEOUT else r.1
  s.send r.2.2 (s.withCrc r.2.1)

/-- READ. -/
def execRead (h : Header) (s : State) : Host.Outcome State Fault Refusal :=
  let s := s.linkBegin
  if !s.linkOn then .next s.silent
  else if otherOp h 1 then .next s
  else
    match s.headerErrs h with
    | [] => .next (s.doRead h)
    | e => .next (s.refuse h e)

/-- A WRITE's data CRC is wrong (R170). -/
def State.badDcrc (s : State) (data : List Nat) (crc : Nat) : Bool := s.flag LINK.ACTIVE_DCRC && crc16 data != crc

/-- A WRITE whose header is good and whose data has arrived (R166, R170). -/
def State.doWrite (s : State) (h : Header) (data : List Nat) (crc : Nat) : State × Nat :=
  if s.badDcrc data crc then (s.linkErr LINK.ERR_DCRC, stAborted) else s.store h.addr.toNat (data.take h.len.toNat)

/-- WRITE. DESIGN CHOICE (log entry 56): a WRITE that is refused for its header compares no data CRC, and records no DCRC. -/
def execWrite (h : Header) (data : List (BitVec 8)) (crc : BitVec 16) (s : State) : Host.Outcome State Fault Refusal :=
  let s := s.linkBegin
  if !s.linkOn then .next s.silent
  else if otherOp h 2 then .next s
  else
    match s.headerErrs h with
    | [] => let r := s.doWrite h (data.map (·.toNat)) crc.toNat; .next (r.1.send r.2 [])
    | e => .next (s.refuse h e)

/-- POLL: a status byte, and nothing is accessed. -/
def execPoll (h : Header) (s : State) : Host.Outcome State Fault Refusal :=
  let s := s.linkBegin
  if !s.linkOn then .next s.silent
  else if otherOp h 3 then .next s
  else
    match s.headerErrs h with
    | [] => .next (s.send stOK [])
    | e => .next (s.refuse h e)

/-! ### Training (R174 to R179) -/

/-- The training pattern (R175). -/
def pattern : List Nat := (List.replicate 4 [0x00, 0xFF, 0x55, 0xAA, 0x0F, 0xF0, 0x33, 0xCC]).flatten

/-- The widest run of passing taps from tap `i` on, the lowest of equal ones: its first tap and its width. -/
def widestRun (taps : Nat) : Nat → Nat × Nat × Nat
  | 0 => (0, 0, 0)
  | n + 1 =>
    let r := widestRun taps n
    let run := if taps.testBit n then r.2.2 + 1 else 0
    if r.2.1 < run then (n + 1 - run, run, run) else (r.1, r.2.1, run)

/-- The base settings are in force (R177, R179). -/
def State.linkBase (s : State) : State :=
  let s := ((s.wr LINK.ACTIVE_LANES 1).wr LINK.ACTIVE_MHZ 25).wr LINK.ACTIVE_DCRC 0
  ((s.wr LINK.AGREED_TAP 8).wr LINK.AGREED_STATE 0).linkErr LINK.ERR_RESYNC

/-- The result of a TRAIN (R176, R177), with its status. -/
def State.trained (s : State) (taps : Nat) : State × Nat :=
  let s := s.wr LINK.TRAIN_PASS taps
  let r := widestRun taps 16
  if 3 ≤ r.2.1 then
    let tap := r.1 + (r.2.1 - 1) / 2
    ((((s.wr LINK.AGREED_TAP tap).wr LINK.TRAIN_TAP tap).wr LINK.AGREED_STATE 3).wr LINK.TRAIN_FAILS 0, stOK)
  else
    let n := min 4 (s.rd LINK.TRAIN_FAILS + 1)
    let s := ((s.wr LINK.AGREED_STATE 4).wr LINK.TRAIN_FAILS n).linkErr LINK.ERR_TRAIN_FAIL
    (if n == 4 then s.linkBase else s, stAborted)

/-- TRAIN: in TRAINING and TRAIN_FAIL a header seen right at some tap starts the exchange, `taps` being the taps that sample
the pattern right; at other times a TRAIN returns the pattern and does nothing else. -/
def execTrain (h : Header) (seen : Bool) (taps : BitVec 16) (s : State) : Host.Outcome State Fault Refusal :=
  let s := s.linkBegin
  if !s.linkOn then .next s.silent
  else if s.untrained && seen then
    let r := s.trained taps.toNat
    .next (r.1.send r.2 pattern)
  else if !s.untrained && otherOp h 4 then .next s
  else
      match s.headerErrs h with
      | [] => .next (s.send stOK pattern)
      | e => .next (s.refuse h e)

/-- LINK_RESET (R179). -/
def execLinkReset (s : State) : Host.Outcome State Fault Refusal :=
  let s := s.linkBegin
  if s.linkOn then .next s.linkBase.silent else .next s.silent

/-! ### Transactions cut short (R167, R171) -/

/-- What a transaction that is cut short still does, its header being whole and good: a READ has its side effects, and a WRITE
whose data has all arrived is performed. -/
def State.shortAccess (s : State) (h : Header) (data : List Nat) (crc : Option Nat) : State :=
  if headerOp h == 1 then (s.access h.addr.toNat h.len.toNat).1
  else if headerOp h == 2 then crc.elim s fun c => (s.doWrite h data c).1
  else s

/-- SHORT_TRANSACTION: HL_CS_N rises before the status byte. `h` is none where the header is not whole; `crc` is none where a
WRITE's data has not all arrived. What the header gets wrong is recorded as ever, and no status is sent. DESIGN CHOICE (log entry
56): a TRAIN that is cut short has no result, and changes nothing but LINK.ERR.SHORT. -/
def execShortTransaction (h : Option Header) (data : List (BitVec 8)) (crc : Option (BitVec 16)) (s : State) :
    Host.Outcome State Fault Refusal :=
  let s := s.linkBegin
  if !s.linkOn then .next s.silent
  else
    match h with
    | none => .next (s.linkErr LINK.ERR_SHORT).silent
    | some h =>
      let errs := if s.untrained && trainHeader h then [] else s.headerErrs h
      let s := if errs.isEmpty then s.shortAccess h (data.map (·.toNat)) (crc.map (·.toNat)) else s.linkErrs (errs.map (·.2))
      .next (s.linkErr LINK.ERR_SHORT).silent

/-- TRANSACTION_TIMEOUT: the outcome is not known 1 ms after the last host byte. The first `done` bytes have been read or
written; the rest of a read returns as zero, and the rest of a write is not performed. A WRITE whose range touches protected memory
is not performed at all (R190). -/
def execTransactionTimeout (h : Header) (data : List (BitVec 8)) (crc : BitVec 16) (done : BitVec 16) (s : State) :
    Host.Outcome State Fault Refusal :=
  let s := s.linkBegin
  if !s.linkOn then .next s.silent
  else if !(s.headerErrs h).isEmpty || !(headerOp h == 1 || headerOp h == 2) ||
      (headerOp h == 2 && s.badDcrc (data.map (·.toNat)) crc.toNat) then .next s
  else
    let n := h.len.toNat
    let k := min done.toNat n
    if headerOp h == 1 then
      let r := if k == 0 then (s, [], stOK) else s.access h.addr.toNat k
      let s := r.1.linkErr LINK.ERR_TIMEOUT
      .next (s.send (rankStatus [r.2.2, stTimeout]) (s.withCrc (r.2.1 ++ List.replicate (n - r.2.1.length) 0)))
    else if !inRegSpace h.addr.toNat && s.isProtected h.addr.toNat n then .next (s.send stBusy [])
    else
      let r := s.store h.addr.toNat ((data.map (·.toNat)).take k)
      .next ((r.1.linkErr LINK.ERR_TIMEOUT).send (rankStatus [r.2, stTimeout]) [])

end Sys2Proof.Machine
end

