-- ==== Sys2Proof/Machine/Dispatch.lean ====
section
/-! DEFINITION. What each command does: one arm per constructor of `Instr`, one call of its meaning. -/

namespace Sys2Proof.Machine

def exec (i : Instr) (s : State) : Host.Outcome State Fault Refusal :=
  match i with
  | .read h => Sys2Proof.Machine.execRead h s
  | .write h data crc => Sys2Proof.Machine.execWrite h data crc s
  | .poll h => Sys2Proof.Machine.execPoll h s
  | .train h seen taps => Sys2Proof.Machine.execTrain h seen taps s
  | .linkReset => Sys2Proof.Machine.execLinkReset s
  | .shortTransaction h data crc => Sys2Proof.Machine.execShortTransaction h data crc s
  | .transactionTimeout h data crc done => Sys2Proof.Machine.execTransactionTimeout h data crc done s
  | .hostWakePulse b => Sys2Proof.Machine.execHostWakePulse b s
  | .linkOffer w => Sys2Proof.Machine.execLinkOffer w s
  | .linkSwitch w => Sys2Proof.Machine.execLinkSwitch w s
  | .queueEnable q w => Sys2Proof.Machine.execQueueEnable q w s
  | .queueDisable q w => Sys2Proof.Machine.execQueueDisable q w s
  | .submissionTailDoorbell q w => Sys2Proof.Machine.execSubmissionTailDoorbell q w s
  | .completionHeadDoorbell q w => Sys2Proof.Machine.execCompletionHeadDoorbell q w s
  | .entryFetch => Sys2Proof.Machine.execEntryFetch s
  | .qcoalTimer q => Sys2Proof.Machine.execQcoalTimer q s
  | .readyWaitExpiry tag => Sys2Proof.Machine.execReadyWaitExpiry tag s
  | .pendingClear w => Sys2Proof.Machine.execPendingClear w s
  | .pinmaskWrite k w => Sys2Proof.Machine.execPinmaskWrite k w s
  | .nop tag => Sys2Proof.Machine.execNop tag s
  | .partialApply tag => Sys2Proof.Machine.execPartialApply tag s
  | .imageConfirm tag => Sys2Proof.Machine.execImageConfirm tag s
  | .freezeCommit tag => Sys2Proof.Machine.execFreezeCommit tag s
  | .abort tag => Sys2Proof.Machine.execAbort tag s
  | .releaseHeld tag vm strobes => Sys2Proof.Machine.execReleaseHeld tag vm strobes s
  | .partialApplyTimeout => Sys2Proof.Machine.execPartialApplyTimeout s
  | .imgPush w => Sys2Proof.Machine.execImgPush w s
  | .imageVerified => Sys2Proof.Machine.execImageVerified s
  | .por bootSrc => Sys2Proof.Machine.execPor bootSrc s
  | .pin => Sys2Proof.Machine.execPin s
  | .resetCtlGo w => Sys2Proof.Machine.execResetCtlGo w s
  | .soft bootSrc => Sys2Proof.Machine.execSoft bootSrc s
  | .coreUv mv bootSrc => Sys2Proof.Machine.execCoreUv mv bootSrc s
  | .svcWdt bootSrc => Sys2Proof.Machine.execSvcWdt bootSrc s
  | .brakeHoldEnd => Sys2Proof.Machine.execBrakeHoldEnd s
  | .zeroFillDone => Sys2Proof.Machine.execZeroFillDone s
  | .rodReset w => Sys2Proof.Machine.execRodReset w s
  | .selfTestDone r res => Sys2Proof.Machine.execSelfTestDone r res s
  | .heartbeatKick w => Sys2Proof.Machine.execHeartbeatKick w s
  | .hbPeriodWrite w => Sys2Proof.Machine.execHbPeriodWrite w s
  | .hbExpired => Sys2Proof.Machine.execHbExpired s
  | .lfxoStable => Sys2Proof.Machine.execLfxoStable s
  | .lfxoLoss => Sys2Proof.Machine.execLfxoLoss s
  | .lfxoRetry => Sys2Proof.Machine.execLfxoRetry s
  | .hfxoFail => Sys2Proof.Machine.execHfxoFail s
  | .hfxoRetry => Sys2Proof.Machine.execHfxoRetry s
  | .clockGrant src => Sys2Proof.Machine.execClockGrant src s
  | .clockStop src => Sys2Proof.Machine.execClockStop src s
  | .pllvWarmWrite w => Sys2Proof.Machine.execPllvWarmWrite w s
  | .guardTrip p => Sys2Proof.Machine.execGuardTrip p s
  | .pllLock p => Sys2Proof.Machine.execPllLock p s
  | .relockFail p => Sys2Proof.Machine.execRelockFail p s
  | .dvfsPointWrite w => Sys2Proof.Machine.execDvfsPointWrite w s
  | .modeAllowWrite w => Sys2Proof.Machine.execModeAllowWrite w s
  | .idleHoldWrite w => Sys2Proof.Machine.execIdleHoldWrite w s
  | .enterTally => Sys2Proof.Machine.execEnterTally s
  | .enterCleared b => Sys2Proof.Machine.execEnterCleared b s
  | .tallyBurst vin m adc wake => Sys2Proof.Machine.execTallyBurst vin m adc wake s
  | .wakePin k level b => Sys2Proof.Machine.execWakePin k level b s
  | .wakeTimer b => Sys2Proof.Machine.execWakeTimer b s
  | .vinComparator b => Sys2Proof.Machine.execVinComparator b s
  | .tallyExitDone => Sys2Proof.Machine.execTallyExitDone s
  | .vcoreTgtWrite w => Sys2Proof.Machine.execVcoreTgtWrite w s
  | .vhTgtWrite w => Sys2Proof.Machine.execVhTgtWrite w s
  | .vhCtlWrite w => Sys2Proof.Machine.execVhCtlWrite w s
  | .vinFloorWrite w => Sys2Proof.Machine.execVinFloorWrite w s
  | .vinCritWrite w => Sys2Proof.Machine.execVinCritWrite w s
  | .vmCeilWrite w => Sys2Proof.Machine.execVmCeilWrite w s
  | .vmDumpWrite w => Sys2Proof.Machine.execVmDumpWrite w s
  | .vcoreSettled mv => Sys2Proof.Machine.execVcoreSettled mv s
  | .vhSettled => Sys2Proof.Machine.execVhSettled s
  | .vhDischarged => Sys2Proof.Machine.execVhDischarged s
  | .vinFloor => Sys2Proof.Machine.execVinFloor s
  | .vinCrit => Sys2Proof.Machine.execVinCrit s
  | .vmCeil => Sys2Proof.Machine.execVmCeil s
  | .vmCeilClear => Sys2Proof.Machine.execVmCeilClear s
  | .vmDump => Sys2Proof.Machine.execVmDump s
  | .dumpRelease => Sys2Proof.Machine.execDumpRelease s
  | .vmTrip vm => Sys2Proof.Machine.execVmTrip vm s
  | .dumpOverrun vm => Sys2Proof.Machine.execDumpOverrun vm s
  | .vhOvp vh => Sys2Proof.Machine.execVhOvp vh s
  | .vhOcp vh => Sys2Proof.Machine.execVhOcp vh s
  | .vhSettle vh => Sys2Proof.Machine.execVhSettle vh s
  | .supplyMeas vin vm => Sys2Proof.Machine.execSupplyMeas vin vm s
  | .scrubPass => Sys2Proof.Machine.execScrubPass s
  | .scrubNow => Sys2Proof.Machine.execScrubNow s
  | .calNow => Sys2Proof.Machine.execCalNow s
  | .headchkNow => Sys2Proof.Machine.execHeadchkNow s
  | .keepRamScrub => Sys2Proof.Machine.execKeepRamScrub s
  | .frcCalibration cycles => Sys2Proof.Machine.execFrcCalibration cycles s
  | .adcCalibration adc => Sys2Proof.Machine.execAdcCalibration adc s
  | .headRecheck => Sys2Proof.Machine.execHeadRecheck s
  | .headRecheckDone m leak => Sys2Proof.Machine.execHeadRecheckDone m leak s
  | .ledgerCompaction => Sys2Proof.Machine.execLedgerCompaction s
  | .telemetrySample vin m => Sys2Proof.Machine.execTelemetrySample vin m s
  | .floorGrant => Sys2Proof.Machine.execFloorGrant s
  | .monitorSample m => Sys2Proof.Machine.execMonitorSample m s
  | .dieOvertemp t => Sys2Proof.Machine.execDieOvertemp t s
  | .pauseTimeout => Sys2Proof.Machine.execPauseTimeout s
  | .sample tag codes => Sys2Proof.Machine.execSample tag codes s
  | .flashNegotiation c => Sys2Proof.Machine.execFlashNegotiation c s
  | .slotErase tag => Sys2Proof.Machine.execSlotErase tag s
  | .slotWrite tag => Sys2Proof.Machine.execSlotWrite tag s
  | .slotVerify tag => Sys2Proof.Machine.execSlotVerify tag s
  | .slotSwitch tag => Sys2Proof.Machine.execSlotSwitch tag s
  | .readToSram tag => Sys2Proof.Machine.execReadToSram tag s
  | .sectorEraseDone => Sys2Proof.Machine.execSectorEraseDone s
  | .pageProgramDone left => Sys2Proof.Machine.execPageProgramDone left s
  | .storeScan => Sys2Proof.Machine.execStoreScan s
  | .readCounters tag => Sys2Proof.Machine.execReadCounters tag s
  | .commitNow tag => Sys2Proof.Machine.execCommitNow tag s
  | .exportRecords tag => Sys2Proof.Machine.execExportRecords tag s
  | .deltaCommit => Sys2Proof.Machine.execDeltaCommit s
  | .ledgerCommit => Sys2Proof.Machine.execLedgerCommit s
  | .move tag => Sys2Proof.Machine.execMove tag s
  | .go ch w => Sys2Proof.Machine.execGo ch w s
  | .stop ch w => Sys2Proof.Machine.execStop ch w s
  | .clear ch w => Sys2Proof.Machine.execClear ch w s
  | .append ch => Sys2Proof.Machine.execAppend ch s
  | .descriptorEnd ch => Sys2Proof.Machine.execDescriptorEnd ch s
  | .receipt tag => Sys2Proof.Machine.execReceipt tag s
  | .headProbe tag m => Sys2Proof.Machine.execHeadProbe tag m s
  | .dryHead tag => Sys2Proof.Machine.execDryHead tag s
  | .checkPass => Sys2Proof.Machine.execCheckPass s
  | .bandCommit => Sys2Proof.Machine.execBandCommit s
  | .lineTimer m => Sys2Proof.Machine.execLineTimer m s
  | .shiftEnd => Sys2Proof.Machine.execShiftEnd s
  | .sliceEnd => Sys2Proof.Machine.execSliceEnd s
  | .passEnd m => Sys2Proof.Machine.execPassEnd m s
  | .strobeFault levels => Sys2Proof.Machine.execStrobeFault levels s
  | .leakageMeasured leak => Sys2Proof.Machine.execLeakageMeasured leak s
  | .dryPulse m => Sys2Proof.Machine.execDryPulse m s
  | .dryMeasure leak => Sys2Proof.Machine.execDryMeasure leak s
  | .wetHead leak => Sys2Proof.Machine.execWetHead leak s
  | .resRegister w => Sys2Proof.Machine.execResRegister w s
  | .resRemove w => Sys2Proof.Machine.execResRemove w s
  | .registrationDone => Sys2Proof.Machine.execRegistrationDone s
  | .movePaper tag => Sys2Proof.Machine.execMovePaper tag s
  | .motorCheck tag m => Sys2Proof.Machine.execMotorCheck tag m s
  | .encoderCount a b ticks m => Sys2Proof.Machine.execEncoderCount a b ticks m s
  | .index => Sys2Proof.Machine.execIndex s
  | .serialRead frame m => Sys2Proof.Machine.execSerialRead frame m s
  | .hallEdge code ticks => Sys2Proof.Machine.execHallEdge code ticks s
  | .hallInvalid => Sys2Proof.Machine.execHallInvalid s
  | .feedbackLoss => Sys2Proof.Machine.execFeedbackLoss s
  | .atRest => Sys2Proof.Machine.execAtRest s
  | .holdEnd => Sys2Proof.Machine.execHoldEnd s
  | .revDwellEnd => Sys2Proof.Machine.execRevDwellEnd s
  | .sensorChange x level => Sys2Proof.Machine.execSensorChange x level s
  | .auxOn w => Sys2Proof.Machine.execAuxOn w s
  | .auxOff w => Sys2Proof.Machine.execAuxOff w s
  | .auxPullEnd => Sys2Proof.Machine.execAuxPullEnd s
  | .auxRelease => Sys2Proof.Machine.execAuxRelease s
  | .bridgeOcp hb => Sys2Proof.Machine.execBridgeOcp hb s
  | .heldBrakeEnd => Sys2Proof.Machine.execHeldBrakeEnd s
  | .loopSample k meas => Sys2Proof.Machine.execLoopSample k meas s
  | .loopOutput k => Sys2Proof.Machine.execLoopOutput k s
  | .coefCommit w => Sys2Proof.Machine.execCoefCommit w s
  | .apply mask => Sys2Proof.Machine.execApply mask s
  | .cut tag => Sys2Proof.Machine.execCut tag s
  | .home tag => Sys2Proof.Machine.execHome tag s
  | .cutSwitch homeLevel endLevel => Sys2Proof.Machine.execCutSwitch homeLevel endLevel s
  | .switchConflict => Sys2Proof.Machine.execSwitchConflict s
  | .jam => Sys2Proof.Machine.execJam s
  | .cutBrakeEnd => Sys2Proof.Machine.execCutBrakeEnd s
  | .partialMsEnd => Sys2Proof.Machine.execPartialMsEnd s
  | .homeTimeout => Sys2Proof.Machine.execHomeTimeout s
  | .cutTimingWrite w => Sys2Proof.Machine.execCutTimingWrite w s
  | .captureStart tag => Sys2Proof.Machine.execCaptureStart tag s
  | .captureStop tag => Sys2Proof.Machine.execCaptureStop tag s
  | .renegotiate tag => Sys2Proof.Machine.execRenegotiate tag s
  | .frameStart => Sys2Proof.Machine.execFrameStart s
  | .frameEnd corrected r => Sys2Proof.Machine.execFrameEnd corrected r s
  | .csiLink => Sys2Proof.Machine.execCsiLink s
  | .negotiationRetry n => Sys2Proof.Machine.execNegotiationRetry n s
  | .camSleep => Sys2Proof.Machine.execCamSleep s
  | .hostHoldRelease w => Sys2Proof.Machine.execHostHoldRelease w s
  | .frameRecordPop => Sys2Proof.Machine.execFrameRecordPop s
  | .exposureWrite w => Sys2Proof.Machine.execExposureWrite w s
  | .scan tag => Sys2Proof.Machine.execScan tag s
  | .scanFrameDone r => Sys2Proof.Machine.execScanFrameDone r s
  | .scanTimeLimit => Sys2Proof.Machine.execScanTimeLimit s
  | .encStreamOpen tag => Sys2Proof.Machine.execEncStreamOpen tag s
  | .encStreamClose tag => Sys2Proof.Machine.execEncStreamClose tag s
  | .sliceBuf tag => Sys2Proof.Machine.execSliceBuf tag s
  | .refresh tag => Sys2Proof.Machine.execRefresh tag s
  | .sliceDone r => Sys2Proof.Machine.execSliceDone r s
  | .rateWrite w => Sys2Proof.Machine.execRateWrite w s
  | .decStreamOpen tag => Sys2Proof.Machine.execDecStreamOpen tag s
  | .decodeAu tag => Sys2Proof.Machine.execDecodeAu tag s
  | .decStreamClose tag => Sys2Proof.Machine.execDecStreamClose tag s
  | .auDecoded r => Sys2Proof.Machine.execAuDecoded r s
  | .picHoldRelease w => Sys2Proof.Machine.execPicHoldRelease w s
  | .accelSample ident data => Sys2Proof.Machine.execAccelSample ident data s
  | .accelRetry ident => Sys2Proof.Machine.execAccelRetry ident s
  | .vioRise b => Sys2Proof.Machine.execVioRise b s
  | .vioClassSelect b high => Sys2Proof.Machine.execVioClassSelect b high s
  | .vioFall b => Sys2Proof.Machine.execVioFall b s
  | .registerWrite a w => Sys2Proof.Machine.execRegisterWrite a w s
  | .vinPowerOff => Sys2Proof.Machine.execVinPowerOff s
  | .resetNRelease bootSrc => Sys2Proof.Machine.execResetNRelease bootSrc s
  | .eraseTimeExceeded => Sys2Proof.Machine.execEraseTimeExceeded s
  | .microstep m => Sys2Proof.Machine.execMicrostep m s
  | .commutationAdvance => Sys2Proof.Machine.execCommutationAdvance s

end Sys2Proof.Machine
end

