-- ==== Sys2Proof/Machine/Tick.lean ====
section
/-! DEFINITION. The tick: what a step does with no command waiting. DESIGN CHOICE: one microsecond passes. -/

namespace Sys2Proof.Machine

/-- VIDIN.TIME counts microseconds in RECKON, CARRY and HELD, and wraps. -/
def State.vidTick (s : State) : State := if s.has .vidin then s.wr VIDIN.TIME_US (s.rd VIDIN.TIME_US + 1) else s

/-- With feedback and no valid interval for 16 ms, the speed is 0 (R411), and with it the phase advance (R406). -/
def State.speedTick (s : State) : State :=
  if s.rd FEED.CFG_FB_TYPE != 0 && s.rd FEED.SPEED_MEAS != 0 && s.feed.lastCount + 16000 ≤ s.clock then
    (s.wr FEED.SPEED_MEAS 0).wr FEED.HALL_ADV_DEG 0
  else s

/-- The LF clock's time advances by one microsecond, with the correction of R322: its fraction gathers, and a whole microsecond is added or
withheld. The LFRC is not corrected. -/
def State.lfTick (s : State) : State :=
  let f := s.led.onFrac + if s.flag CORE.CLK_STAT_LF_SRC then 0 else s.bg.corr
  let n : Nat := if 100000000 ≤ f then 2 else if f ≤ -100000000 then 0 else 1
  { s with led := { s.led with onUs := s.led.onUs + n, onFrac := f + 100000000 - n * 100000000 } }

/-- One microsecond: the clock and, with power, the on time (R278, R322) advance; in RECKON, CARRY and HELD VIDIN.TIME counts,
the ramps of VCORE and VH (R133, R141) move, and the speed of paper that stands still becomes 0 (R411). The entry into TALLY is over (log entry 12). -/
def State.tick (s : State) : State :=
  let s := { s with clock := s.clock + 1, wake := { s.wake with entering := false } }
  let s := if s.boot.off then s else s.lfTick
  if s.awake then s.vidTick.rampTick.speedTick else s

end Sys2Proof.Machine
end

