-- ==== Sys2Proof/Safety.lean ====
section
/-! DEFINITION. What counts as a safe run of the device, in the terms that statements use. -/

namespace Sys2Proof

open Sys2Proof.Machine

/-- Every store is in its canonical form: the register file, the memories, and LEDGER's accumulators and totals. -/
def Safety.canonical (s : State) : Prop :=
  Store.wf 0 s.regs = true ∧ Store.wf 0 s.sram = true ∧ Store.wf 0 s.keep = true ∧ Store.wf 0xFF s.flash = true ∧
  Store.wf 0 s.led.acc = true ∧ Store.wf 0 s.led.base = true

/-! ### Frames -/

/-- Every register field that shares no bit with the fields `w` reads as before. -/
def Safety.regsBut (w : List Fld) (s t : State) : Prop := ∀ f : Fld, (∀ g ∈ w, g.apart f = true) → t.rd f = s.rd f

/-- Every byte of main SRAM, keep RAM and flash reads as before. -/
def Safety.sameBytes (s t : State) : Prop := (∀ m a, t.byte m a = s.byte m a) ∧ ∀ a, t.flashBytes a 1 = s.flashBytes a 1

/-- `t` is `s` but for the register fields `w`: no other register, no byte of memory and nothing else in the state differs. -/
def Safety.only (w : List Fld) (s t : State) : Prop :=
  t = { s with regs := t.regs } ∧ Safety.regsBut w s t ∧ Safety.sameBytes s t

/-- The event bit `f` is set, and on its rising edge rod `r` asserts its vector (R20, R218): what `x` has of `f` and of
VEC.PENDING, `s` being the state before. -/
def Safety.event (f : Fld) (r : Rod) (s x : State) : Prop :=
  x.flag f = true ∧ x.rd VEC.PENDING_PENDING = if s.flag f then s.rd VEC.PENDING_PENDING else (s.rodVec r).rd VEC.PENDING_PENDING

/-- The host link executes a register write to rod `r`, and the rod takes it: LINK is READY and trained (R160, R174), the part has
the rod (R4), and the rod is neither in a reset nor in a partial apply (R188). Every such write restarts the IDLE_HOLD count
(R124), so what it leaves is said of `s.idleRestart`. -/
def Safety.takes (s : State) (r : Rod) : Prop :=
  s.linkOn = true ∧ s.untrained = false ∧ s.has r = true ∧ s.writesBlocked r = false

/-! ### Readiness -/

/-- The fields of one index, for each index below `n`. -/
def fldsOf (n : Nat) (l : List (Nat → Fld)) : List Fld := (List.range n).flatMap fun i => l.map fun f => f i

/-- The fields of a loop that its activation and its end write. -/
def loopFlds : List (Nat → Fld) :=
  [LOOP.L_SAMPLES_COUNT, LOOP.L_STAT_CLAMPED, LOOP.L_STAT_STATE, LOOP.L_FE_TIME_RUN_MS, LOOP.L_OSC_REVERSALS]

/-- The fields that `settle` may write. -/
def settleFlds : List Fld :=
  [CORE.BG_HEAD_SINCE, CORE.ECC_LAST_ADDR, CORE.ECC_CE_SRAM, CORE.ECC_CE_KEEP, CORE.ECC_UE_SRAM, CORE.ECC_UE_KEEP,
   CORE.BG_CAL_FRC_TRIM, CORE.IMG_STAT_STATE, CORE.ROD_READY_READY, VEC.PENDING_PENDING] ++
  [CUT.EVT_DONE, CUT.LAST_END_CAUSE, CUT.LAST_JAMS, CUT.LAST_TIME_MS, CUT.STAT_STATE, CUT.STAT_WAIT_REASON] ++
  [DEC.PIC_HOLD_HOLD, DEC.PIC_HOLD_REF, DEC.STAT_BUFFERS, DEC.STAT_QUEUED, DEC.STAT_RECOVERED, DEC.STAT_STATE] ++
  [ENC.BUCKET_FILL, ENC.COUNT_NO_BUF, ENC.EVT_PAUSED, ENC.STAT_LENT, ENC.STAT_NO_BUF, ENC.STAT_STATE, ENC.STAT_SWEEP_POS] ++
  [FEED.L_NEXT_VALUE, FEED.SPEED_MEAS, FEED.SPEED_SET, FEED.STAT_AT_REST, FEED.STAT_STATE, FEED.STAT_WAIT_REASON] ++
  [LOOP.COEF_STAT_PENDING, LOOP.EVT_APPLY_DONE] ++
  [PRINT.EVT_TORN, PRINT.STAT_BACKLOG, PRINT.STAT_CAP_LEVEL, PRINT.STAT_CEILING, PRINT.STAT_STATE, PRINT.STAT_WAIT_REASON,
   PRINT.TEAR_BAND_SEQ, PRINT.TEAR_CAUSE, PRINT.TEAR_LINES_BAND] ++
  [RASTER.ERR_OFFSET, RASTER.ERR_CAUSE, RASTER.STAT_STATE, RASTER.STAT_STORE] ++
  [SUPPLY.VH_STAT_DISCHARGING, SUPPLY.VH_STAT_ON, SUPPLY.VH_STAT_RAMP, SUPPLY.VH_STAT_SETTLED] ++
  fldsOf 16 [VEC.Q_CQ_IDX_TAIL, VEC.Q_CQ_IDX_PHASE] ++ fldsOf 4 loopFlds ++
  fldsOf 3 [bandState, bandSeq, bandLines] ++ fldsOf 8 [fun i => ⟨DEC.PIC_BASE0_ADDR.addr + 4 * (i % 8), 0, 32⟩]

/-! ### Runs -/

/-- The next `n` steps each answer a next state. -/
def Safety.runs : Nat → State → Prop
  | 0, _ => True
  | n + 1, s => ∃ t, step s = .next t ∧ Safety.runs n t

end Sys2Proof
end

