-- ==== Sys2Proof/Certificates/Slice0/Obligations.lean ====
section
/-! DEFINITION. The statements for the provers: for each family of commands what a command does when it runs and what it
leaves alone, what the shared operations do, and what holds of every command. `Safety.only w s t` is the frame of most of
them: nothing differs between `s` and `t` but the register fields `w`. Where a command ends with `x.settle`, `x` is the
state its own effect leaves, and the work that `x` allows to start is started after it; `SettleFrame` says what that can
touch. Where it ends with `x.complete tag status r0 r1`, the command of `tag` completes so; `CompletionEntry` and
`CompletionEndsTheCommand` say what that is. -/

open Sys2Proof Sys2Proof.Machine

/-! ### Queues and vectors -/

/-- R196, R197: a write of Qq_CFG with EN = 1 and a valid configuration enables the pair; with a configuration that breaks
a condition it records BAD_CFG and changes nothing but DEPTH; while the pair is enabled, writes of its bases and DEPTH
change nothing. R198: a write of Qq_CFG with EN = 0 disables an enabled pair, dropping unfetched entries and held
completions, unless a command of the pair still holds a tag: then it records the refusal and changes nothing else. -/
def Obligations.QueuePairs : Prop :=
  ((∀ (q : Fin 16) (w : Word) (s : State), Safety.takes s .core → s.qEn q = false → field w 16 1 = 1 →
     8 ≤ field w 0 9 → field w 0 9 ≤ 256 → s.inShared (s.sqBase q) (32 * field w 0 9) = true →
     s.inShared (s.cqBase q) (16 * field w 0 9) = true →
     (if q.val = 0 then s.ready .core else s.imageApplied && !s.coreCause) = true →
     ∃ x : State, exec (.queueEnable q w) s = .next (if q.val = 0 then x.reportTorn else x) ∧
       x.rd (VEC.Q_CFG_EN q) = 1 ∧ x.rd (VEC.Q_CFG_DEPTH q) = field w 0 9 ∧ x.rd (VEC.Q_STAT_ERR q) = 0 ∧
       x.rd (VEC.Q_SQ_IDX_HEAD q) = 0 ∧ x.rd (VEC.Q_SQ_IDX_TAIL q) = 0 ∧ x.rd (VEC.Q_CQ_IDX_HEAD q) = 0 ∧
       x.rd (VEC.Q_CQ_IDX_TAIL q) = 0 ∧ x.rd (VEC.Q_CQ_IDX_PHASE q) = 1 ∧
       Safety.only [VEC.Q_CFG_EN q, VEC.Q_CFG_DEPTH q, VEC.Q_STAT_ERR q, ⟨(VEC.Q_SQ_IDX_HEAD q).addr, 0, 32⟩,
         ⟨(VEC.Q_CQ_IDX_TAIL q).addr, 0, 32⟩] { s.idleRestart with queues := s.queues.modify q fun _ => {} } x) ∧
   (∀ (q : Fin 16) (w : Word) (s : State), Safety.takes s .core → s.qEn q = false → field w 16 1 = 1 →
     (8 ≤ field w 0 9 && field w 0 9 ≤ 256 && s.inShared (s.sqBase q) (32 * field w 0 9) &&
       s.inShared (s.cqBase q) (16 * field w 0 9) &&
       if q.val = 0 then s.ready .core else s.imageApplied && !s.coreCause) = false →
     ∃ x : State, exec (.queueEnable q w) s = .next x ∧ x.rd (VEC.Q_CFG_EN q) = 0 ∧ x.rd (VEC.Q_STAT_ERR q) = 1 ∧
       x.rd (VEC.Q_CFG_DEPTH q) = field w 0 9 ∧ Safety.only [VEC.Q_CFG_DEPTH q, VEC.Q_STAT_ERR q] s.idleRestart x) ∧
   ∀ (q : Fin 16) (w : Word) (s : State), s.qEn q = true →
     (Safety.takes s .core → field w 16 1 = 1 → exec (.queueEnable q w) s = .next s.idleRestart) ∧
     s.writeQBase q (VEC.Q_SQ_BASE_ADDR q) w = s ∧ s.writeQBase q (VEC.Q_CQ_BASE_ADDR q) w = s ∧ s.writeQCfg q (w ||| 0x10000) = s) ∧
  ((∀ (q : Fin 16) (w : Word) (s : State), Safety.takes s .core → s.qEn q = true → field w 16 1 = 0 → s.queueBusy q = false →
     ∃ x : State, exec (.queueDisable q w) s = .next x ∧ x.rd (VEC.Q_CFG_EN q) = 0 ∧ x.rd (VEC.Q_STAT_ERR q) = 0 ∧
       x.rd (VEC.Q_SQ_IDX_HEAD q) = s.rd (VEC.Q_SQ_IDX_TAIL q) ∧
       Safety.only [VEC.Q_CFG_EN q, VEC.Q_STAT_ERR q, VEC.Q_SQ_IDX_HEAD q]
         { s.idleRestart with queues := s.queues.modify q fun _ => {} } x) ∧
   (∀ (q : Fin 16) (s : State), s.queueBusy q = true ↔
     (∃ c ∈ s.cmds, c.queue = q) ∨ ∃ c ∈ (s.queues.getD q {}).held, c.tag ≠ none) ∧
   ∀ (q : Fin 16) (w : Word) (s : State), Safety.takes s .core → s.qEn q = true → field w 16 1 = 0 → s.queueBusy q = true →
     ∃ x : State, exec (.queueDisable q w) s = .next x ∧ x.rd (VEC.Q_STAT_ERR q) = 3 ∧ Safety.only [VEC.Q_STAT_ERR q] s.idleRestart x)

/-- R207 to R209, R219: a submission tail doorbell that the check accepts moves the tail; a completion head doorbell that
the check accepts moves the head, writes held completions while there is room and sets the queue's vector if entries stay
unread; a doorbell that fails its check sets QOVF, counts it and sets the vector, and moves nothing; a coalescing timer of
QCOAL.TIME, where that is not 0 and completions have been counted, sets the vector, which resets the count. -/
def Obligations.Doorbells : Prop :=
  (∀ (q : Fin 16) (t : Nat) (s : State),
    let d := s.depth q
    (s.tailOk q t = true ↔ s.rd (VEC.Q_CFG_EN q) = 1 ∧ t < d ∧
      (t + d - s.rd (VEC.Q_SQ_IDX_TAIL q)) % d ≤ d - 1 - (s.rd (VEC.Q_SQ_IDX_TAIL q) + d - s.rd (VEC.Q_SQ_IDX_HEAD q)) % d) ∧
    (s.headOk q t = true ↔ s.rd (VEC.Q_CFG_EN q) = 1 ∧ t < d ∧
      (t + d - s.rd (VEC.Q_CQ_IDX_HEAD q)) % d ≤ (s.rd (VEC.Q_CQ_IDX_TAIL q) + d - s.rd (VEC.Q_CQ_IDX_HEAD q)) % d)) ∧
  (∀ (q : Fin 16) (w : Word) (s : State), Safety.takes s .core → s.tailOk q (field w 0 9) = true →
    ∃ x : State, exec (.submissionTailDoorbell q w) s = .next x ∧ x.rd (VEC.Q_SQ_IDX_TAIL q) = field w 0 9 ∧
      Safety.only [VEC.Q_SQ_IDX_TAIL q] s.idleRestart x) ∧
  (∀ (q : Fin 16) (w : Word) (s : State), Safety.takes s .core → s.tailOk q (field w 0 9) = false →
    ∃ x : State, exec (.submissionTailDoorbell q w) s = .next (x.queueVec q) ∧ x.rd (VEC.Q_STAT_QOVF q) = 1 ∧
      x.rd (VEC.Q_STAT_QOVF_COUNT q) = satAdd 255 (s.rd (VEC.Q_STAT_QOVF_COUNT q)) 1 ∧
      Safety.only [VEC.Q_STAT_QOVF q, VEC.Q_STAT_QOVF_COUNT q] s.idleRestart x) ∧
  (∀ (q : Fin 16) (w : Word) (s : State), Safety.takes s .core → s.headOk q (field w 0 9) = true →
    ∃ x y : State, exec (.completionHeadDoorbell q w) s = .next (if field w 0 9 != y.rd (VEC.Q_CQ_IDX_TAIL q) then y.queueVec q else y) ∧
      y = x.writeHeld q 64 ∧ ((s.queues.getD q {}).held = [] → y = x) ∧ x.rd (VEC.Q_CQ_IDX_HEAD q) = field w 0 9 ∧
      Safety.only [VEC.Q_CQ_IDX_HEAD q] s.idleRestart x) ∧
  (∀ (q : Fin 16) (w : Word) (s : State), Safety.takes s .core → s.headOk q (field w 0 9) = false →
    ∃ x : State, exec (.completionHeadDoorbell q w) s = .next (x.queueVec q) ∧ x.rd (VEC.Q_STAT_QOVF q) = 1 ∧
      x.rd (VEC.Q_STAT_QOVF_COUNT q) = satAdd 255 (s.rd (VEC.Q_STAT_QOVF_COUNT q)) 1 ∧
      Safety.only [VEC.Q_STAT_QOVF q, VEC.Q_STAT_QOVF_COUNT q] s.idleRestart x) ∧
  ∀ (q : Fin 16) (s : State), s.awake = true → s.rd (VEC.Q_COAL_TIME q) ≠ 0 → (s.queues.getD q {}).count ≠ 0 →
    ∃ x : State, exec (.qcoalTimer q) s = .next x ∧ x.rd VEC.PENDING_PENDING = (s.vec q).rd VEC.PENDING_PENDING ∧
      (x.queues.getD q {}).count = 0 ∧
      Safety.only [VEC.PENDING_PENDING] { s with queues := s.queues.modify q fun u => { u with count := 0 } } x

/-- R218, R220: a write of VEC.PENDING clears exactly the bits written as 1; a write of VEC.PINMASKk sets that mask; and a
pin is driven low exactly while a pending vector of its mask stands. R218: an event on vector `v` sets its pending bit
while its enable bit is 1, on a part that has the vector's rod (R4); nothing else of the state changes. -/
def Obligations.Vectors : Prop :=
  ((∀ (w : Word) (s : State), Safety.takes s .core →
     ∃ x : State, exec (.pendingClear w) s = .next x ∧
       (∀ v : Nat, x.rdBit VEC.PENDING_PENDING v = (s.rdBit VEC.PENDING_PENDING v && !w.toNat.testBit v)) ∧
       Safety.only [VEC.PENDING_PENDING] s.idleRestart x) ∧
   (∀ (k : Fin 4) (w : Word) (s : State), Safety.takes s .core →
     ∃ x : State, exec (.pinmaskWrite k w) s = .next x ∧ x.rd (pinmask k) = w.toNat ∧ Safety.only [pinmask k] s.idleRestart x) ∧
   ∀ (k : Fin 4) (s : State), s.awake = true → s.bank 0 = true →
     s.irqPins.testBit k = (s.rd VEC.PENDING_PENDING &&& s.rd (pinmask k) != 0)) ∧
  (∀ (s : State) (v : Nat), v < 32 → Safety.only [VEC.PENDING_PENDING] s (s.vec v) ∧
     ∀ u : Nat, (s.vec v).rdBit VEC.PENDING_PENDING u = (s.rdBit VEC.PENDING_PENDING u ||
       (decide (u = v) && s.rdBit VEC.ENABLE_ENABLE v && !(s.part == .ap && 27 ≤ v && v ≤ 30))))


/-! ### Clocks and operating points -/

/-- R107: the LF source switches to the LFXO once it is stable while it is tried; it goes back to the LFRC at a loss,
which asserts vector 16 if the LFXO was in use; and on the LFRC the retry timer starts another try. R106, R108, R109,
R113: a grant sets the source's status bit, the HFXO's also clearing HFXO_FAIL and making an FRC calibration due (R281); a PLL's grant is its lock; PLL-V stops
once nothing wants it; PLLV_WARM holds what was written; and a failure of the HFXO moves PLL-S to the fallback clock,
stops PLL-V and raises fault 0x0004, after which the retry timer starts the HFXO again. -/
def Obligations.ClockSources : Prop :=
  ((∀ s : State, s.boot.off = false → s.clk.lfTry = true →
     ∃ x : State, exec .lfxoStable s = .next x ∧ x.rd CORE.CLK_STAT_LF_SRC = 0 ∧
       Safety.only [CORE.CLK_STAT_LF_SRC] { s with clk := { s.clk with lfTry := false } } x) ∧
   (∀ s : State, s.boot.off = false →
     ∃ x : State, exec .lfxoLoss s = .next (if s.rd CORE.CLK_STAT_LF_SRC = 0 then x.rodVec .core else x) ∧
       x.rd CORE.CLK_STAT_LF_SRC = 1 ∧
       Safety.only [CORE.CLK_STAT_LF_SRC] { s with clk := { s.clk with lfTry := false } } x) ∧
   ∀ s : State, s.boot.off = false → s.rd CORE.CLK_STAT_LF_SRC = 1 →
     exec .lfxoRetry s = .next { s with clk := { s.clk with lfTry := true } }) ∧
  ((∀ s : State, s.awake = true →
     ∃ x : State, exec (.clockGrant .frc) s = .next x.settle ∧ x.rd CORE.CLK_STAT_FRC_ON = 1 ∧ Safety.only [CORE.CLK_STAT_FRC_ON] s x) ∧
   (∀ s : State, s.awake = true → s.clk.hfxoStart = true →
     ∃ x : State, exec (.clockGrant .hfxo) s = .next x.settle ∧ x.rd CORE.CLK_STAT_HFXO_OK = 1 ∧
       Safety.only [CORE.CLK_STAT_HFXO_OK]
         { s with clk := { s.clk with hfxoStart := false }, faults := s.faults.filter fun f => f.code != 0x0004,
                  bg := { s.bg with frcDue := true } } x) ∧
   (∀ s : State, exec (.clockGrant .plls) s = exec (.pllLock .s) s ∧ exec (.clockGrant .pllv) s = exec (.pllLock .v) s) ∧
   (∀ s : State, s.awake = true → s.pllvWanted = false →
     ∃ x : State, exec (.clockStop .pllv) s = .next x ∧ x.rd CORE.CLK_STAT_PLLV_LOCK = 0 ∧ x.rd CORE.CLK_STAT_PLLV_FALLBACK = 0 ∧
       Safety.only [CORE.CLK_STAT_PLLV_LOCK, CORE.CLK_STAT_PLLV_FALLBACK] s x) ∧
   (∀ (w : Word) (s : State), Safety.takes s .core →
     ∃ x : State, exec (.pllvWarmWrite w) s = .next x ∧ x.rd CORE.CLK_REQ_PLLV_WARM = w.toNat % 2 ∧
       Safety.only [CORE.CLK_REQ_PLLV_WARM] s.idleRestart x) ∧
   (∀ s : State, s.awake = true → s.rd CORE.CLK_STAT_HFXO_OK = 1 → s.hasFault 0x0004 = false →
     ∃ x y : State, exec .hfxoFail s = .next (y.raise 0x0004 0 0).settle ∧
       x.rd CORE.CLK_STAT_HFXO_OK = 0 ∧ x.rd CORE.CLK_STAT_PLLS_LOCK = 0 ∧ x.rd CORE.CLK_STAT_PLLS_FALLBACK = 1 ∧
       x.rd CORE.CLK_STAT_PLLV_LOCK = 0 ∧
       Safety.only [CORE.CLK_STAT_HFXO_OK, CORE.CLK_STAT_PLLS_LOCK, CORE.CLK_STAT_PLLS_FALLBACK, CORE.CLK_STAT_PLLV_LOCK]
         { s with clk := x.clk } x ∧
       x.clk = { s.clk with hfxoStart := false, pllvRelock := false, plls := x.clk.plls } ∧
       y.rd CORE.CLK_STAT_PLLV_FALLBACK = 0 ∧ Safety.only [CORE.CLK_STAT_PLLV_FALLBACK] x.encAbandon y) ∧
   ∀ s : State, s.awake = true → s.rd CORE.CLK_STAT_HFXO_OK = 0 →
     exec .hfxoRetry s = .next { s with clk := { s.clk with hfxoStart := true } })

/-- R111, R114, R115, R117: a lock of PLL-S opens its gate at the frequency it was locked at, and with a change of
operating point up it puts the point in force; a lock of PLL-V clears PLLV_LOCK; a guard trip is counted, asserts
vector 16, and moves the PLL's consumers to the fallback clock while it relocks; three failed attempts at a new
frequency send PLL-S back to the previous one, and three there leave its consumers on the
fallback clock and raise fault 0x0002; the third of PLL-V raises 0x0003
and ends the work that waits for it. R120, R121: under an image, a write of CORE.DVFS that names another point starts
the change while none is busy: VCORE first on the way up, PLL-S first on the way down, one attempt counted; while a
change is busy it is noted as PENDING. -/
def Obligations.PllsAndOperatingPoint : Prop :=
  ((∀ s : State, s.awake = true → s.rd CORE.CLK_STAT_HFXO_OK = 1 → s.clk.plls.active = true → s.clk.plls.goal < 512 →
     ∃ x : State, exec (.pllLock .s) s = .next (match s.clk.dvfs, s.clk.plls.back with
         | .relockUp, false => x.dvfsDone.dvfsPending
         | .relockDown, false => (x.dvfsVcore .fall).dvfsPending
         | .relockUp, true | .relockDown, true => x.dvfsIdle.dvfsPending
         | _, _ => x).settle ∧
       x.rd CORE.CLK_STAT_PLLS_LOCK = 1 ∧ x.rd CORE.CLK_STAT_PLLS_FALLBACK = 0 ∧
       x.rd CORE.CLK_STAT_PLLS_MHZ = s.clk.plls.goal ∧
       Safety.only [CORE.CLK_STAT_PLLS_LOCK, CORE.CLK_STAT_PLLS_FALLBACK, CORE.CLK_STAT_PLLS_MHZ]
         { s with clk := { s.clk with plls := { s.clk.plls with active := false, fails := 0 } } } x) ∧
   (∀ s : State, s.awake = true → s.rd CORE.CLK_STAT_HFXO_OK = 1 → s.pllvWanted = true → s.rd CORE.CLK_STAT_PLLV_LOCK = 0 →
     s.clk.pllvFailed = false →
     ∃ x : State, exec (.pllLock .v) s = .next x.settle ∧ x.rd CORE.CLK_STAT_PLLV_LOCK = 1 ∧ x.rd CORE.CLK_STAT_PLLV_FALLBACK = 0 ∧
       Safety.only [CORE.CLK_STAT_PLLV_LOCK, CORE.CLK_STAT_PLLV_FALLBACK]
         { s with clk := { s.clk with pllvFails := 0, pllvRelock := false },
                  faults := s.faults.filter fun f => f.code != 0x0003 } x) ∧
   (∀ s : State, s.awake = true → s.clk.plls.active = false →
     ∃ x : State, exec (.guardTrip .s) s = .next (x.relock (s.rd CORE.CLK_STAT_PLLS_MHZ)).settle ∧
       x.rd CORE.CLK_STAT_GUARD_TRIPS = satAdd 15 (s.rd CORE.CLK_STAT_GUARD_TRIPS) 1 ∧
       x.rd VEC.PENDING_PENDING = (s.rodVec .core).rd VEC.PENDING_PENDING ∧
       Safety.only [CORE.CLK_STAT_GUARD_TRIPS, VEC.PENDING_PENDING] s x) ∧
   (∀ (mhz : Nat) (s : State), (s.relock mhz).rd CORE.CLK_STAT_PLLS_LOCK = 0 ∧ (s.relock mhz).rd CORE.CLK_STAT_PLLS_FALLBACK = 1 ∧
     Safety.only [CORE.CLK_STAT_PLLS_LOCK, CORE.CLK_STAT_PLLS_FALLBACK]
       { s with clk := { s.clk with plls := { goal := mhz, prev := s.rd CORE.CLK_STAT_PLLS_MHZ, fails := 0, active := true,
                                              back := mhz == s.rd CORE.CLK_STAT_PLLS_MHZ } } } (s.relock mhz)) ∧
   (∀ s : State, s.awake = true → s.rd CORE.CLK_STAT_PLLV_LOCK = 1 →
     ∃ x : State, exec (.guardTrip .v) s = .next x.settle ∧
       x.rd CORE.CLK_STAT_GUARD_TRIPS = satAdd 15 (s.rd CORE.CLK_STAT_GUARD_TRIPS) 1 ∧
       x.rd VEC.PENDING_PENDING = (s.rodVec .core).rd VEC.PENDING_PENDING ∧
       x.rd CORE.CLK_STAT_PLLV_LOCK = 0 ∧ x.rd CORE.CLK_STAT_PLLV_FALLBACK = 1 ∧
       Safety.only [CORE.CLK_STAT_GUARD_TRIPS, VEC.PENDING_PENDING, CORE.CLK_STAT_PLLV_LOCK, CORE.CLK_STAT_PLLV_FALLBACK]
         { s with clk := { s.clk with pllvRelock := true, pllvFails := 0 } } x) ∧
   (∀ s : State, s.awake = true → s.rd CORE.CLK_STAT_HFXO_OK = 1 → s.clk.plls.active = true → s.clk.plls.fails < 2 →
     exec (.relockFail .s) s =
       .next (({ s with clk := { s.clk with plls := { s.clk.plls with fails := s.clk.plls.fails + 1 } } } : State).attempt).settle) ∧
   (∀ s : State, s.awake = true → s.rd CORE.CLK_STAT_HFXO_OK = 1 → s.clk.plls.active = true → 2 ≤ s.clk.plls.fails →
     s.clk.plls.back = false →
     exec (.relockFail .s) s =
       .next (({ s with clk := { s.clk with plls := { s.clk.plls with goal := s.clk.plls.prev, fails := 0, back := true } } } :
         State).attempt).settle) ∧
   (∀ s : State, s.awake = true → s.rd CORE.CLK_STAT_HFXO_OK = 1 → s.clk.plls.active = true → 2 ≤ s.clk.plls.fails →
     s.clk.plls.back = true → s.clk.dvfs ≠ .relockUp → s.clk.dvfs ≠ .relockDown →
     exec (.relockFail .s) s =
       .next ((({ s with clk := { s.clk with plls := { s.clk.plls with active := false, fails := 0 } } } :
         State).wr CORE.CLK_STAT_PLLS_FALLBACK 1).raise 0x0002 0 s.clk.plls.goal).settle) ∧
   (∀ s : State, s.awake = true → s.rd CORE.CLK_STAT_HFXO_OK = 1 → s.rd CORE.CLK_STAT_PLLV_LOCK = 0 → s.pllvWanted = true →
     s.clk.pllvFailed = false → s.clk.pllvFails < 2 →
     exec (.relockFail .v) s = .next ({ s with clk := { s.clk with pllvFails := s.clk.pllvFails + 1 } } : State).settle) ∧
   ∀ s : State, s.awake = true → s.rd CORE.CLK_STAT_HFXO_OK = 1 → s.rd CORE.CLK_STAT_PLLV_LOCK = 0 → s.pllvWanted = true →
     s.clk.pllvFailed = false → 2 ≤ s.clk.pllvFails → s.rd ENC.STAT_STATE = 0 → s.dec.queue = [] → s.dec.cur = none → s.vid.renegTag = none →
     exec (.relockFail .v) s =
       .next ((({ s with clk := { s.clk with pllvFails := 0, pllvFailed := true, pllvRelock := false } } :
         State).raise 0x0003 0 (s.rd CORE.PLLV_FREQ_MHZ)).endAll
           ((s.cmds.filter fun c => !c.started && needsPllv c.op).map (·.tag)) stTimeout).settle) ∧
  ((∀ (w : Word) (s : State), Safety.takes s .core → s.imageApplied = true → s.rd CORE.DVFS_STAT_BUSY = 1 →
     ∃ x : State, exec (.dvfsPointWrite w) s = .next x.settle ∧ x.rd CORE.DVFS_POINT = field w 0 2 ∧ x.rd CORE.DVFS_STAT_PENDING = 1 ∧
       Safety.only [CORE.DVFS_POINT, CORE.DVFS_STAT_PENDING] { s.idleRestart with clk := { s.clk with nextPoint := field w 0 2 } } x) ∧
   (∀ (w : Word) (s : State), Safety.takes s .core → s.imageApplied = true → s.rd CORE.DVFS_STAT_BUSY = 0 →
     s.rd CORE.DVFS_STAT_PENDING = 0 → (s.clk.inForce && s.rd CORE.DVFS_STAT_CUR_POINT == field w 0 2) = false →
     s.rd CORE.CLK_STAT_PLLS_MHZ < s.rd (oppMhz (field w 0 2)) → s.rd SUPPLY.VCORE_TGT_LEVEL ≠ s.rd (oppMv (field w 0 2)) →
     s.rd (oppMv (field w 0 2)) < 128 →
     ∃ x : State, exec (.dvfsPointWrite w) s = .next x.settle ∧ x.rd CORE.DVFS_POINT = field w 0 2 ∧ x.rd CORE.DVFS_STAT_BUSY = 1 ∧
       x.rd CORE.DVFS_STAT_ATTEMPTS = 0 ∧ x.rd SUPPLY.VCORE_TGT_LEVEL = s.rd (oppMv (field w 0 2)) ∧
       x.rd SUPPLY.VCORE_STAT_SETTLED = 0 ∧
       Safety.only [CORE.DVFS_POINT, CORE.DVFS_STAT_BUSY, CORE.DVFS_STAT_ATTEMPTS, SUPPLY.VCORE_TGT_LEVEL,
         SUPPLY.VCORE_STAT_SETTLED] { s.idleRestart with clk := { s.clk with point := field w 0 2, dvfs := .rise } } x) ∧
   ∀ (w : Word) (s : State), Safety.takes s .core → s.imageApplied = true → s.rd CORE.DVFS_STAT_BUSY = 0 →
     s.rd CORE.DVFS_STAT_PENDING = 0 → (s.clk.inForce && s.rd CORE.DVFS_STAT_CUR_POINT == field w 0 2) = false →
     s.rd (oppMhz (field w 0 2)) < s.rd CORE.CLK_STAT_PLLS_MHZ →
     ∃ x : State, exec (.dvfsPointWrite w) s = .next x.settle ∧ x.rd CORE.DVFS_POINT = field w 0 2 ∧ x.rd CORE.DVFS_STAT_BUSY = 1 ∧
       x.rd CORE.DVFS_STAT_ATTEMPTS = 1 ∧ x.rd CORE.CLK_STAT_PLLS_LOCK = 0 ∧ x.rd CORE.CLK_STAT_PLLS_FALLBACK = 1 ∧
       Safety.only [CORE.DVFS_POINT, CORE.DVFS_STAT_BUSY, CORE.DVFS_STAT_ATTEMPTS, CORE.CLK_STAT_PLLS_LOCK,
         CORE.CLK_STAT_PLLS_FALLBACK]
         { s.idleRestart with
           clk := { s.clk with
             point := field w 0 2, dvfs := .relockDown,
             plls := { goal := s.rd (oppMhz (field w 0 2)), prev := s.rd CORE.CLK_STAT_PLLS_MHZ, fails := 0, active := true,
                       back := false } } } x)


/-! ### Rails -/

/-- R122, R133, R134, R139: a write of SUPPLY.VCORE_TGT stores the slew; a new level is the target unless a change of
operating point is busy, it is out of range, or it lies below the point in force: then the refusal is recorded and the
target stays. R141, R142, R144: a VH target up to VH_MAX is stored, one above it only sets REFUSED; a write of
VH_CTL.EN is carried out at once, but for EN = 1 in HELD, which only sets REFUSED. R146, R150: VIN_CRIT below
VIN_FLOOR, VM_CEIL below VM_DUMP, each in its range: a write that keeps this is stored, and any other only sets
LEVEL_REFUSED; that one outside its range is refused like one that breaks the order is the model's choice, as is that a
write of the present level of VCORE is refused by nothing (log entry 56). -/
def Obligations.SupplyRegisterWrites : Prop :=
  ((∀ (w : Word) (s : State), Safety.takes s .supply → field w 0 7 ≠ s.rd SUPPLY.VCORE_TGT_LEVEL → s.rd CORE.DVFS_STAT_BUSY = 0 →
     70 ≤ field w 0 7 → field w 0 7 ≤ 95 →
     (s.clk.inForce && decide (field w 0 7 < s.rd (oppMv (s.rd CORE.DVFS_STAT_CUR_POINT)))) = false →
     ∃ x : State, exec (.vcoreTgtWrite w) s = .next x ∧ x.rd SUPPLY.VCORE_TGT_LEVEL = field w 0 7 ∧ x.rd SUPPLY.VCORE_STAT_SETTLED = 0 ∧
       x.rd SUPPLY.VCORE_TGT_SLEW = clampNat 1 10 (field w 8 4) ∧
       Safety.only [SUPPLY.VCORE_TGT_LEVEL, SUPPLY.VCORE_TGT_SLEW, SUPPLY.VCORE_STAT_SETTLED] s.idleRestart x) ∧
   (∀ (w : Word) (s : State), Safety.takes s .supply → field w 0 7 = s.rd SUPPLY.VCORE_TGT_LEVEL →
     ∃ x : State, exec (.vcoreTgtWrite w) s = .next x ∧ x.rd SUPPLY.VCORE_TGT_SLEW = clampNat 1 10 (field w 8 4) ∧
       Safety.only [SUPPLY.VCORE_TGT_SLEW] s.idleRestart x) ∧
   ∀ (w : Word) (s : State), Safety.takes s .supply → field w 0 7 ≠ s.rd SUPPLY.VCORE_TGT_LEVEL →
     (s.flag CORE.DVFS_STAT_BUSY || field w 0 7 < 70 || 95 < field w 0 7 ||
       (s.clk.inForce && decide (field w 0 7 < s.rd (oppMv (s.rd CORE.DVFS_STAT_CUR_POINT))))) = true →
     ∃ x : State, exec (.vcoreTgtWrite w) s = .next x ∧ x.rd SUPPLY.VCORE_TGT_LEVEL = s.rd SUPPLY.VCORE_TGT_LEVEL ∧
       (s.rd CORE.DVFS_STAT_BUSY = 1 → x.rd SUPPLY.VCORE_STAT_BUSY_REFUSED = 1) ∧
       (field w 0 7 < 70 ∨ 95 < field w 0 7 → x.rd SUPPLY.VCORE_STAT_RANGE_REFUSED = 1) ∧
       (s.rd CORE.DVFS_STAT_BUSY = 0 → s.clk.inForce = true → field w 0 7 < s.rd (oppMv (s.rd CORE.DVFS_STAT_CUR_POINT)) →
         x.rd CORE.DVFS_STAT_LOW_REFUSED = 1) ∧
       x.rd SUPPLY.VCORE_TGT_SLEW = clampNat 1 10 (field w 8 4) ∧
       Safety.only [SUPPLY.VCORE_TGT_SLEW, SUPPLY.VCORE_STAT_BUSY_REFUSED, SUPPLY.VCORE_STAT_RANGE_REFUSED,
         CORE.DVFS_STAT_LOW_REFUSED] s.idleRestart x) ∧
  ((∀ (w : Word) (s : State), Safety.takes s .supply → field w 0 8 ≤ s.vhMax → field w 0 8 ≠ s.rd SUPPLY.VH_TGT_CODE →
     ∃ x : State, exec (.vhTgtWrite w) s = .next x ∧ x.rd SUPPLY.VH_TGT_CODE = field w 0 8 ∧ x.rd SUPPLY.VH_STAT_SETTLED = 0 ∧
       Safety.only [SUPPLY.VH_TGT_CODE, SUPPLY.VH_STAT_SETTLED] s.idleRestart x) ∧
   (∀ (w : Word) (s : State), Safety.takes s .supply → field w 0 8 ≤ s.vhMax → field w 0 8 = s.rd SUPPLY.VH_TGT_CODE →
     exec (.vhTgtWrite w) s = .next s.idleRestart) ∧
   (∀ (w : Word) (s : State), Safety.takes s .supply → s.vhMax < field w 0 8 →
     ∃ x : State, exec (.vhTgtWrite w) s = .next x ∧ x.rd SUPPLY.VH_STAT_REFUSED = 1 ∧ Safety.only [SUPPLY.VH_STAT_REFUSED] s.idleRestart x) ∧
   (∀ (w : Word) (s : State), Safety.takes s .supply → (s.base = .run ∨ field w 0 1 = 0) →
     ∃ x : State, exec (.vhCtlWrite w) s = .next x.settle ∧ x.rd SUPPLY.VH_CTL_EN = field w 0 1 ∧ Safety.only [SUPPLY.VH_CTL_EN] s.idleRestart x) ∧
   ∀ (w : Word) (s : State), Safety.takes s .supply → s.base = .held → field w 0 1 = 1 →
     ∃ x : State, exec (.vhCtlWrite w) s = .next x.settle ∧ x.rd SUPPLY.VH_STAT_REFUSED = 1 ∧ Safety.only [SUPPLY.VH_STAT_REFUSED] s.idleRestart x) ∧
  ((∀ (w : Word) (s : State), Safety.takes s .supply → 50 ≤ field w 0 8 → field w 0 8 ≤ 120 →
     (s.rd SUPPLY.VIN_CRIT_LEVEL < field w 0 8 →
       ∃ x : State, exec (.vinFloorWrite w) s = .next x ∧ x.rd SUPPLY.VIN_FLOOR_LEVEL = field w 0 8 ∧
         Safety.only [SUPPLY.VIN_FLOOR_LEVEL] s.idleRestart x) ∧
     (field w 0 8 < s.rd SUPPLY.VIN_FLOOR_LEVEL →
       ∃ x : State, exec (.vinCritWrite w) s = .next x ∧ x.rd SUPPLY.VIN_CRIT_LEVEL = field w 0 8 ∧
         Safety.only [SUPPLY.VIN_CRIT_LEVEL] s.idleRestart x)) ∧
   (∀ (w : Word) (s : State), Safety.takes s .supply → 60 ≤ field w 0 8 → field w 0 8 ≤ 180 →
     (field w 0 8 < s.rd SUPPLY.VM_DUMP_LEVEL →
       ∃ x : State, exec (.vmCeilWrite w) s = .next x ∧ x.rd SUPPLY.VM_CEIL_LEVEL = field w 0 8 ∧
         Safety.only [SUPPLY.VM_CEIL_LEVEL] s.idleRestart x) ∧
     (s.rd SUPPLY.VM_CEIL_LEVEL < field w 0 8 →
       ∃ x : State, exec (.vmDumpWrite w) s = .next x ∧ x.rd SUPPLY.VM_DUMP_LEVEL = field w 0 8 ∧
         Safety.only [SUPPLY.VM_DUMP_LEVEL] s.idleRestart x)) ∧
   ∀ (w : Word) (s : State), Safety.takes s .supply →
     ((field w 0 8 < 50 ∨ 120 < field w 0 8 ∨ field w 0 8 ≤ s.rd SUPPLY.VIN_CRIT_LEVEL) →
       ∃ x : State, exec (.vinFloorWrite w) s = .next x ∧ Safety.event SUPPLY.EVT_LEVEL_REFUSED .supply s x ∧
         Safety.only [SUPPLY.EVT_LEVEL_REFUSED, VEC.PENDING_PENDING] s.idleRestart x) ∧
     ((field w 0 8 < 50 ∨ 120 < field w 0 8 ∨ s.rd SUPPLY.VIN_FLOOR_LEVEL ≤ field w 0 8) →
       ∃ x : State, exec (.vinCritWrite w) s = .next x ∧ Safety.event SUPPLY.EVT_LEVEL_REFUSED .supply s x ∧
         Safety.only [SUPPLY.EVT_LEVEL_REFUSED, VEC.PENDING_PENDING] s.idleRestart x) ∧
     ((field w 0 8 < 60 ∨ 180 < field w 0 8 ∨ s.rd SUPPLY.VM_DUMP_LEVEL ≤ field w 0 8) →
       ∃ x : State, exec (.vmCeilWrite w) s = .next x ∧ Safety.event SUPPLY.EVT_LEVEL_REFUSED .supply s x ∧
         Safety.only [SUPPLY.EVT_LEVEL_REFUSED, VEC.PENDING_PENDING] s.idleRestart x) ∧
     ((field w 0 8 < 60 ∨ 180 < field w 0 8 ∨ field w 0 8 ≤ s.rd SUPPLY.VM_CEIL_LEVEL) →
       ∃ x : State, exec (.vmDumpWrite w) s = .next x ∧ Safety.event SUPPLY.EVT_LEVEL_REFUSED .supply s x ∧
         Safety.only [SUPPLY.EVT_LEVEL_REFUSED, VEC.PENDING_PENDING] s.idleRestart x))

/-- R135, R137, R138, R141, R308: VCORE settles at its target, with its measured value, and a change of operating point goes on;
VH settles at its target; the discharge switch turns off below 1.0 V, and is on while VH lies above its ramp setpoint by more
than 2 %, until it is within 1 % of it; and a measurement of the supplies is shown. -/
def Obligations.RailsSettle : Prop :=
  (∀ (mv : BitVec 16) (s : State), s.awake = true → s.rd SUPPLY.VCORE_STAT_SETTLED = 0 →
    ∃ x : State, exec (.vcoreSettled mv) s = .next x.dvfsSettled.dvfsPending.settle ∧ x.rd SUPPLY.VCORE_STAT_SETTLED = 1 ∧
      x.rd SUPPLY.VCORE_STAT_MEAS_MV = mv.toNat % 1024 ∧ Safety.event SUPPLY.EVT_VCORE_SETTLED .supply s x ∧
      Safety.only [SUPPLY.VCORE_STAT_SETTLED, SUPPLY.VCORE_STAT_MEAS_MV, SUPPLY.VCORE_STAT_RAMP, SUPPLY.EVT_VCORE_SETTLED,
        VEC.PENDING_PENDING] { s with sup := { s.sup with vcoreUv := s.vcoreGoal, softStart := false } } x) ∧
  (∀ s : State, s.awake = true → s.rd SUPPLY.VH_STAT_ON = 1 → s.rd SUPPLY.VH_STAT_SETTLED = 0 →
    ∃ x : State, exec .vhSettled s = .next x.settle ∧ x.rd SUPPLY.VH_STAT_SETTLED = 1 ∧ x.rd SUPPLY.VH_STAT_ILIM = 0 ∧
      Safety.event SUPPLY.EVT_VH_SETTLED .supply s x ∧
      Safety.only [SUPPLY.VH_STAT_SETTLED, SUPPLY.VH_STAT_ILIM, SUPPLY.VH_STAT_RAMP, SUPPLY.EVT_VH_SETTLED,
        VEC.PENDING_PENDING]
        { s with sup := { s.sup with vhUv := s.vhGoal }, print := { s.print with vhSettled := true } } x) ∧
  (∀ s : State, s.rd SUPPLY.VH_STAT_DISCHARGING = 1 →
    ∃ x : State, exec .vhDischarged s = .next x ∧ x.rd SUPPLY.VH_STAT_DISCHARGING = 0 ∧
      Safety.only [SUPPLY.VH_STAT_DISCHARGING] { s with sup := { s.sup with vhEmpty := false, vhOver := false } } x) ∧
  (∀ (uv : Nat) (s : State),
    let x := s.vhWatch uv
    (x.rd SUPPLY.VH_STAT_DISCHARGING = 1 ↔
      s.sup.vhEmpty = true ∨ (if s.sup.vhOver then 101 else 102) * s.sup.vhUv < 100 * uv) ∧
    Safety.only [SUPPLY.VH_STAT_DISCHARGING] { s with sup := x.sup } x) ∧
  ∀ (vin vm : BitVec 16) (s : State), s.awake = true →
    ∃ x : State, exec (.supplyMeas vin vm) s = .next x ∧ x.rd SUPPLY.MEAS_VIN_MV = vin.toNat ∧ x.rd SUPPLY.MEAS_VM_MV = vm.toNat ∧
      Safety.only [SUPPLY.MEAS_VIN_MV, SUPPLY.MEAS_VM_MV] s x

/-- R147, R148, R151, R152: what the comparators of VIN and VM set. A line counts once as a floor line; a RECEIPT that
prints is torn at the critical level; DUMP is driven only where it is enabled and has not timed out. R153 to R155:
each fault of SUPPLY is raised under its code with the measured voltage; DUMP that overran is released and stays so
until VM has fallen, and VH_OCP shows the current limit. -/
def Obligations.SupplyWatchAndFaults : Prop :=
  ((∀ s : State, s.awake = true → s.print.firing.isSome = true → s.print.floorLine = false →
     ∃ y x : State, exec .vinFloor s = .next x ∧ Safety.event SUPPLY.EVT_VIN_FLOOR .supply s y ∧
       Safety.only [SUPPLY.EVT_VIN_FLOOR, VEC.PENDING_PENDING] s y ∧ Safety.event PRINT.EVT_CAP_DOWN .print y x ∧
       x.rd SUPPLY.COUNT_FLOOR_LINES = satAdd 65535 (s.rd SUPPLY.COUNT_FLOOR_LINES) 1 ∧
       Safety.only [PRINT.EVT_CAP_DOWN, SUPPLY.COUNT_FLOOR_LINES, VEC.PENDING_PENDING]
         { y with print := { y.print with floorLine := true } } x) ∧
   (∀ s : State, s.awake = true → s.print.firing.isSome = true → s.print.floorLine = true →
     ∃ x : State, exec .vinFloor s = .next x ∧ Safety.event SUPPLY.EVT_VIN_FLOOR .supply s x ∧
       Safety.only [SUPPLY.EVT_VIN_FLOOR, VEC.PENDING_PENDING] s x) ∧
   (∀ s : State, s.awake = true →
     ∃ x : State, exec .vinCrit s = .next (if s.printing?.isSome then (x.vec 21).tear 1 else x).settle ∧
       Safety.event SUPPLY.EVT_VIN_CRIT .supply s x ∧
       x.rd SUPPLY.COUNT_CRIT_EVENTS = satAdd 255 (s.rd SUPPLY.COUNT_CRIT_EVENTS) 1 ∧
       Safety.only [SUPPLY.EVT_VIN_CRIT, SUPPLY.COUNT_CRIT_EVENTS, VEC.PENDING_PENDING] s x) ∧
   (∀ s : State, s.awake = true → s.sup.vmHigh = false →
     ∃ x : State, exec .vmCeil s = .next x ∧ Safety.event SUPPLY.EVT_VM_CEIL .supply s x ∧ x.rd FEED.STAT_VM_LIMIT = 1 ∧
       Safety.only [SUPPLY.EVT_VM_CEIL, FEED.STAT_VM_LIMIT, VEC.PENDING_PENDING]
         { s with sup := { s.sup with vmHigh := true } } x) ∧
   (∀ s : State, ∃ x : State, exec .vmCeilClear s = .next x ∧ x.rd FEED.STAT_VM_LIMIT = 0 ∧
     Safety.only [FEED.STAT_VM_LIMIT] { s with sup := { s.sup with vmHigh := false } } x) ∧
   (∀ s : State, s.awake = true → u8 s.dumpCfg 0 = 1 → s.rd SUPPLY.VM_DUMP_DUMP_ON = 0 → s.sup.dumpSpent = false →
     ∃ x : State, exec .vmDump s = .next x ∧ x.rd SUPPLY.VM_DUMP_DUMP_ON = 1 ∧ Safety.event SUPPLY.EVT_VM_DUMP .supply s x ∧
       x.rd SUPPLY.COUNT_DUMP_EVENTS = satAdd 255 (s.rd SUPPLY.COUNT_DUMP_EVENTS) 1 ∧
       Safety.only [SUPPLY.VM_DUMP_DUMP_ON, SUPPLY.EVT_VM_DUMP, SUPPLY.COUNT_DUMP_EVENTS, VEC.PENDING_PENDING]
         (s.count cntDump) x) ∧
   ∀ s : State, ∃ x : State, exec .dumpRelease s = .next x ∧ x.rd SUPPLY.VM_DUMP_DUMP_ON = 0 ∧
     Safety.only [SUPPLY.VM_DUMP_DUMP_ON] { s with sup := { s.sup with dumpSpent := false } } x) ∧
  ((∀ (v : BitVec 16) (s : State), s.inReset = false → exec (.vmTrip v) s = .next (s.raise 0x0520 0 v.toNat).settle) ∧
   (∀ (v : BitVec 16) (s : State), s.awake = true → s.rd SUPPLY.VM_DUMP_DUMP_ON = 1 →
     ∃ x : State, exec (.dumpOverrun v) s = .next (x.raise 0x0521 0 v.toNat).settle ∧ x.rd SUPPLY.VM_DUMP_DUMP_ON = 0 ∧
       Safety.only [SUPPLY.VM_DUMP_DUMP_ON] { s with sup := { s.sup with dumpSpent := true } } x) ∧
   ∀ (v : BitVec 16) (s : State), s.awake = true → s.rd SUPPLY.VH_STAT_ON = 1 →
     exec (.vhOvp v) s = .next (s.raise 0x0501 0 v.toNat).settle ∧
     (∃ x : State, exec (.vhOcp v) s = .next (x.raise 0x0502 0 v.toNat).settle ∧ x.rd SUPPLY.VH_STAT_ILIM = 1 ∧
       Safety.only [SUPPLY.VH_STAT_ILIM] s x) ∧
     (s.rd SUPPLY.VH_STAT_SETTLED = 0 → exec (.vhSettle v) s = .next (s.raise 0x0503 0 v.toNat).settle))

/-! ### Resets and the heartbeat -/

/-- R76 to R79, R95, R106, R107, R126, R542: the registers after a device reset. KIND is the reset's code; COUNT is 0
after a POR and one more after any other; VH is discharged, and CUT_INTERRUPTED says whether a cut was in motion when the
reset, or the loss of power before a POR, came (R81, R143); every field that the rules do not name holds its reset value; and after any
other reset than a POR the fields of the always-on domain and the pins read on. `s'` is the state whose running copies
the reset has interrupted. R78, R79, R83, R86, R98: the rest of the state after a device reset. OTP, the flash, the
part and the ledger's totals are as before; commands, queue records, faults and the image are gone; the memories are
filled with zero or kept as R78 says, keep RAM but for the torn-band record; and the bridges are in the hands of the
brake path. -/
def Obligations.DeviceReset : Prop :=
  (∀ (s : State) (kind : Nat) (b : Bool), kind < 8 →
     let s' := if s.fillsSram kind then s else s.interruptAll
     let x := s.deviceReset kind b
     let kept := [CORE.MODE_WAKE_SRC, CORE.CLK_STAT_LF_SRC, CORE.BG_CAL_FRC_TRIM, FEED.STAT_PAPER, FEED.STAT_NEAR_END,
       FEED.STAT_COVER, CUT.STAT_HOME, CUT.STAT_END, CORE.BG_SCRUB_POS_WORD, CORE.BG_SCRUB_POS_ACTIVE]
     let named := [CORE.RESET_CAUSE_KIND, CORE.RESET_CAUSE_COUNT, CORE.RESET_CAUSE_TORN_PENDING,
       CORE.RESET_CAUSE_CUT_INTERRUPTED, SUPPLY.VH_STAT_DISCHARGING, CORE.IO_STAT_PRESENT, CORE.IO_STAT_CLASS33,
       CORE.ECC_CE_KEEP, CORE.ECC_UE_KEEP, CORE.ECC_LAST_ADDR, VEC.PENDING_PENDING]
     x.rd CORE.RESET_CAUSE_KIND = kind ∧
     x.rd CORE.RESET_CAUSE_COUNT = (if kind = kindPor then 0 else satAdd 255 (s'.rd CORE.RESET_CAUSE_COUNT) 1) ∧
     x.rd CORE.IO_STAT_PRESENT = s'.rd CORE.IO_STAT_PRESENT ∧ x.rd CORE.IO_STAT_CLASS33 = s'.rd CORE.IO_STAT_CLASS33 ∧
     (x.rd CORE.RESET_CAUSE_TORN_PENDING = 1 ↔ x.recState = recTorn) ∧ x.rd SUPPLY.VH_STAT_DISCHARGING = 1 ∧
     (x.rd CORE.RESET_CAUSE_CUT_INTERRUPTED = 1 ↔
       s'.cutMoving = true ∨ (s'.boot.off = true ∧ s'.rd CORE.RESET_CAUSE_CUT_INTERRUPTED ≠ 0)) ∧
     (∀ f : Fld, (∀ g ∈ named ++ (if kind = kindPor then [] else kept), g.apart f = true) → x.rd f = State.reset.rd f) ∧
     (kind ≠ kindPor → x.rd CORE.MODE_WAKE_SRC = s'.rd CORE.MODE_WAKE_SRC ∧
       x.rd CORE.CLK_STAT_LF_SRC = s'.rd CORE.CLK_STAT_LF_SRC ∧ x.rd CORE.BG_CAL_FRC_TRIM = s'.rd CORE.BG_CAL_FRC_TRIM ∧
       x.rd FEED.STAT_PAPER = s'.rd FEED.STAT_PAPER ∧ x.rd FEED.STAT_NEAR_END = s'.rd FEED.STAT_NEAR_END ∧
       x.rd FEED.STAT_COVER = s'.rd FEED.STAT_COVER ∧ x.rd CUT.STAT_HOME = s'.rd CUT.STAT_HOME ∧
       x.rd CUT.STAT_END = s'.rd CUT.STAT_END)) ∧
  (∀ (s : State) (kind : Nat) (b : Bool),
     let s' := if s.fillsSram kind then s else s.interruptAll
     let x := s.deviceReset kind b
     x.base = .run ∧ x.otp = s.otp ∧ (∀ a, x.flashBytes a 1 = s'.flashBytes a 1) ∧ x.part = s.part ∧ x.clock = s.clock ∧
     x.pending = s.pending ∧ x.led.base = s'.led.base ∧ x.cmds = [] ∧ x.faults = [] ∧ x.queues = State.reset.queues ∧
     x.img = {} ∧ x.boot.fill = s.fillsSram kind ∧
     (s.fillsSram kind = true → ∀ a, x.byte .sram a = 0) ∧ (s.fillsSram kind = false → ∀ a, x.byte .sram a = s'.byte .sram a) ∧
     (kind = kindPor → ∀ a, x.byte .keep a = 0) ∧
     (kind ≠ kindPor → ∀ a, (a < 0x100 ∨ 0x120 ≤ a) → x.byte .keep a = s'.byte .keep a) ∧
     (∀ i, i < 4 → x.feed.hb[i]? = some (if (s'.brakeMask kind).testBit i then .low else .z)) ∧
     (∀ i, i < 2 → x.cut.hb[i]? = some (if (s'.brakeMask kind).testBit (4 + i) then .low else .z)))

/-- R84: after a POR no brake is applied, and all six half-bridges are high-impedance. -/
def Obligations.NoBrakeAfterPor : Prop :=
  ∀ (b : Bool) (s : State), ∃ t, exec (.por b) s = .next t ∧ t.boot.brake = 0 ∧ t.feed.hb = [.z, .z, .z, .z] ∧
    t.cut.hb = [.z, .z]

/-- R76, R80: which reset each event causes. VIN below its power-off threshold holds the device in reset until a POR, with VH not held discharged (R143), a low
RESET_N until it rises, when BOOT_SRC is sampled; RESET_CTL schedules the SOFT reset only with GO and its key. -/
def Obligations.ResetCauses : Prop :=
  (∀ (b : Bool) (s : State), exec (.por b) s = .next (s.deviceReset kindPor b)) ∧
  (∀ s : State,
    let x := (s.deviceReset kindPor s.boot.bootSrc).vhSwitch false false
    exec .vinPowerOff s = .next { x with boot := { x.boot with off := true } } ∧ x.rd SUPPLY.VH_STAT_DISCHARGING = 0) ∧
  (∀ s : State, s.inReset = false → s.bank 0 = true →
    exec .pin s = .next { s.deviceReset kindPin s.boot.bootSrc with
      boot := { (s.deviceReset kindPin s.boot.bootSrc).boot with pinLow := true } }) ∧
  (∀ (b : Bool) (s : State), s.boot.pinLow = true →
    exec (.resetNRelease b) s = .next { s with boot := { s.boot with pinLow := false, bootSrc := b && s.bank 0 } }) ∧
  (∀ (w : Word) (s : State), Safety.takes s .core → w.toNat % 2 = 1 → field w 16 16 = 0xC1EA →
    exec (.resetCtlGo w) s = .next { s.idleRestart with boot := { s.boot with softDue := true } }) ∧
  (∀ (w : Word) (s : State), Safety.takes s .core → w.toNat % 2 = 0 ∨ field w 16 16 ≠ 0xC1EA →
    exec (.resetCtlGo w) s = .next s.idleRestart) ∧
  (∀ (b : Bool) (s : State), s.inReset = false → s.boot.softDue = true → exec (.soft b) s = .next (s.deviceReset kindSoft b)) ∧
  (∀ (mv : BitVec 16) (b : Bool) (s : State), s.awake = true →
    10 * mv.toNat * 1000 < 9 * (if s.sup.vcoreUv = s.vcoreGoal then s.vcoreGoal else s.sup.vcoreUv) →
    exec (.coreUv mv b) s = .next (s.deviceReset kindCoreUv b)) ∧
  ∀ (b : Bool) (s : State), s.awake = true → exec (.svcWdt b) s = .next (s.deviceReset kindWdt b)

/-- R83, R86: the brake hold's end leaves all six half-bridges high-impedance, and AUX follows FEED.AUX.ON again (R402); the zero fill's end lets LINK report READY.
R101, R103: CORE.HB_PERIOD takes the period, 1 to 9 ms acting as 10, and a 1 clears EXPIRED; an expiry sets EXPIRED
and restarts the count, and outside HELD it raises fault 0x0001. -/
def Obligations.HoldsAndHeartbeat : Prop :=
  ((∀ s : State, s.boot.brake ≠ 0 →
     ∃ x : State, exec .brakeHoldEnd s =
         .next (if (x.awake && x.auxUsed && x.rd FEED.AUX_ON == 1) = true then x.auxPull else x).settle ∧ x.boot.brake = 0 ∧ x.feed.hb = [.z, .z, .z, .z] ∧ x.cut.hb = [.z, .z] ∧
       Safety.only [FEED.STAT_STATE]
         { s with boot := { s.boot with brake := 0 }, feed := { s.feed with hb := [.z, .z, .z, .z], aux := .off, onBrake := false },
                  cut := { s.cut with hb := [.z, .z] } } x) ∧
   ∀ s : State, s.awake = true → s.boot.fill = true →
     exec .zeroFillDone s = .next (State.settle { s with boot := { s.boot with fill := false } })) ∧
  ((∀ (w : Word) (s : State), Safety.takes s .core →
     ∃ x : State, exec (.hbPeriodWrite w) s = .next x ∧
       x.rd CORE.HB_PERIOD_PERIOD_MS = (if field w 0 16 = 0 then 0 else max 10 (field w 0 16)) ∧
       x.rd CORE.HB_PERIOD_EXPIRED = (if field w 16 1 = 1 then 0 else s.rd CORE.HB_PERIOD_EXPIRED) ∧
       Safety.only [CORE.HB_PERIOD_PERIOD_MS, CORE.HB_PERIOD_EXPIRED] { s.idleRestart with clk := { s.clk with hbSince := s.clock } } x) ∧
   ∀ s : State, s.awake = true → s.imageApplied = true → s.rd CORE.HB_PERIOD_PERIOD_MS ≠ 0 →
     ∃ x : State, exec .hbExpired s =
         .next (if s.base = .run then x.raise 0x0001 0 (s.rd CORE.HB_PERIOD_PERIOD_MS) else x).settle ∧
       x.rd CORE.HB_PERIOD_EXPIRED = 1 ∧
       Safety.only [CORE.HB_PERIOD_EXPIRED] { s with clk := { s.clk with hbSince := s.clock } } x)

/-- R102: each write of 0x4842 to CORE.HEARTBEAT.KICK restarts the count, writes of other values are ignored, and a write of
CORE.HB_PERIOD also restarts the count. The count is held by the clock at its last restart. -/
def Obligations.HeartbeatRestarts : Prop :=
  (∀ (w : Word) (s : State), Safety.takes s .core → field w 0 16 = 0x4842 →
    exec (.heartbeatKick w) s = .next { s.idleRestart with clk := { s.clk with hbSince := s.clock } }) ∧
  (∀ (w : Word) (s : State), Safety.takes s .core → field w 0 16 ≠ 0x4842 → exec (.heartbeatKick w) s = .next s.idleRestart) ∧
  ∀ (w : Word) (s : State), Safety.takes s .core → ∃ x : State, exec (.hbPeriodWrite w) s = .next x ∧ x.clk.hbSince = s.clock

/-! ### Modes and waking -/

/-- R130: a write of CORE.MODE_ALLOW or CORE.IDLE_HOLD stores its fields and restarts the IDLE_HOLD count. R126: a wake
source records its code. In RECKON, CARRY and HELD it asserts vector 16 and does nothing else; in TALLY the return to
RECKON starts, and while TALLY is being entered it is at once; in CLEARED it is a WAKE reset, at which BOOT_SRC is sampled (R57). Each source fires while it is enabled: a WAKE input at a change to its
active level, the timer with a count that is not 0 and only outside RECKON, CARRY and HELD, the comparator, and the
host's pulse. R161: the fall of HL_CS_N alone returns a device that enters TALLY; that the entry lasts until the next tick is
the model's choice (log entry 12). -/
def Obligations.ModesAndWakes : Prop :=
  ((∀ (w : Word) (s : State), Safety.takes s .core →
     ∃ x : State, exec (.modeAllowWrite w) s = .next x ∧ x.rd CORE.MODE_ALLOW_TALLY = field w 0 1 ∧
       x.rd CORE.MODE_ALLOW_CLEARED = field w 1 1 ∧
       Safety.only [CORE.MODE_ALLOW_TALLY, CORE.MODE_ALLOW_CLEARED] { s with wake := { s.wake with idleSince := s.clock } } x) ∧
   ∀ (w : Word) (s : State), Safety.takes s .core →
     ∃ x : State, exec (.idleHoldWrite w) s = .next x ∧ x.rd CORE.IDLE_HOLD_TALLY_MS = field w 0 16 ∧
       x.rd CORE.IDLE_HOLD_CLEARED_S = field w 16 16 ∧
       Safety.only [CORE.IDLE_HOLD_TALLY_MS, CORE.IDLE_HOLD_CLEARED_S] { s with wake := { s.wake with idleSince := s.clock } } x) ∧
  ((∀ (s : State) (c : Nat) (b : Bool), c < 16 →
     ((s.base = .run ∨ s.base = .held) → (s.wakeBy c b).rd CORE.MODE_WAKE_SRC = c ∧
       (s.wakeBy c b).rd VEC.PENDING_PENDING = (s.rodVec .core).rd VEC.PENDING_PENDING ∧
       Safety.only [CORE.MODE_WAKE_SRC, VEC.PENDING_PENDING] s (s.wakeBy c b)) ∧
     (s.base = .tally → s.wake.entering = false → (s.wakeBy c b).rd CORE.MODE_WAKE_SRC = c ∧
       Safety.only [CORE.MODE_WAKE_SRC] { s with wake := { s.wake with waking := true } } (s.wakeBy c b)) ∧
     (s.base = .tally → s.wake.entering = true → ∃ x : State, s.wakeBy c b = x.exitTally ∧ x.rd CORE.MODE_WAKE_SRC = c ∧
       Safety.only [CORE.MODE_WAKE_SRC] s x) ∧
     (s.base = .cleared → ∃ x : State, s.wakeBy c b = x.deviceReset kindWake b ∧ x.rd CORE.MODE_WAKE_SRC = c ∧
       Safety.only [CORE.MODE_WAKE_SRC] s x)) ∧
   (∀ (k : Fin 4) (l b : Bool) (s : State), s.inReset = false → s.bank 0 = true → s.rdBit CORE.WAKE_CFG_PIN_EN k = true →
     s.rdBit CORE.WAKE_CFG_PIN_POL k = l → s.wake.levels.testBit k = !l →
     ∃ x : State, exec (.wakePin k l b) s = .next (x.wakeBy (k + 1) b) ∧ x.wake.levels.testBit k = l ∧
       x = { s with wake := { s.wake with levels := x.wake.levels } }) ∧
   (∀ (b : Bool) (s : State), s.inReset = false → s.awake = false → s.rd CORE.WAKE_CFG_TIMER_EN = 1 →
     s.rd CORE.WAKE_TIMER_COUNT ≠ 0 → exec (.wakeTimer b) s = .next (s.wakeBy 5 b)) ∧
   (∀ (b : Bool) (s : State), s.inReset = false → s.rd CORE.WAKE_CFG_VIN_EN = 1 →
     exec (.vinComparator b) s = .next (s.wakeBy 6 b)) ∧
   (∀ (b : Bool) (s : State), s.inReset = false → s.bank 0 = true → s.rd CORE.WAKE_CFG_HOST_EN = 1 →
     exec (.hostWakePulse b) s = .next (s.wakeBy 7 b)) ∧
   ∀ (b : Bool) (s : State), s.inReset = false → s.bank 0 = true → s.rd CORE.WAKE_CFG_HOST_EN = 0 →
     exec (.hostWakePulse b) s = .next (if (s.base == .tally && s.wake.entering) = true then s.exitTally else s))

/-- R123 to R125, R128: TALLY is entered when it is allowed and the device is idle: VH stops, the bridges go high-impedance,
DUMP is released and the clocks stop, with the memories, OTP and the commands as they were; CLEARED is entered from TALLY
when both are allowed, and main SRAM is lost (R30). An input at its active level wakes the device again. The return from TALLY sets WOKE, restarts the
heartbeat and the idle count and raises the faults met meanwhile, the lowest code first. -/
def Obligations.DeeperModes : Prop :=
  (∀ s : State, s.rd CORE.MODE_ALLOW_TALLY = 1 → s.idle = true →
    ∃ x : State, exec .enterTally s = .next (match x.levelWake with
        | some k => x.wakeBy (k + 1) false
        | none => x) ∧
      x.base = .tally ∧ x.rd CORE.CLK_STAT_HFXO_OK = 0 ∧ x.rd CORE.CLK_STAT_FRC_ON = 0 ∧ x.rd CORE.CLK_STAT_PLLS_LOCK = 0 ∧
      x.rd CORE.CLK_STAT_PLLV_LOCK = 0 ∧ x.rd SUPPLY.VH_STAT_ON = 0 ∧ x.rd SUPPLY.VM_DUMP_DUMP_ON = 0 ∧
      x.feed.hb = [.z, .z, .z, .z] ∧ x.cut.hb = [.z, .z] ∧ 
      x.wake = { s.wake with waking := false, entering := true, faults := [], tallySince := s.clock } ∧
      x.otp = s.otp ∧ x.cmds = s.cmds ∧ x.faults = s.faults ∧ x.queues = s.queues ∧ Safety.sameBytes s x) ∧
  (∀ (b : Bool) (s : State), s.inReset = false → s.base = .tally → s.wake.waking = false → s.rd CORE.MODE_ALLOW_TALLY = 1 →
    s.rd CORE.MODE_ALLOW_CLEARED = 1 →
    let x : State := { s with base := .cleared, sram := [], sramUe := [], sramCe := [], wake := { s.wake with entering := false } }
    exec (.enterCleared b) s = .next (match x.levelWake with
      | some k => x.wakeBy (k + 1) b
      | none => x)) ∧
  (∀ s : State, ∃ x : State, s.exitTally =
      ((s.wake.faults.insertionSort fun a b => a.1 ≤ b.1).foldl (fun u f => u.raise f.1 f.2.1 f.2.2) x).settle ∧
    x.base = .run ∧ x.rd CORE.MODE_WOKE = 1 ∧ x.rd CORE.CLK_STAT_FRC_ON = 1 ∧ x.clk.hbSince = s.clock ∧
    x.wake = { s.wake with waking := false, entering := false, faults := [], idleSince := s.clock } ∧
    Safety.only [CORE.MODE_WOKE, CORE.CLK_STAT_FRC_ON, CORE.CLK_STAT_HFXO_OK, CORE.CLK_STAT_PLLS_LOCK,
      CORE.CLK_STAT_PLLS_FALLBACK, VEC.PENDING_PENDING]
      { s with base := x.base, wake := x.wake, clk := x.clk, bg := { s.bg with frcDue := x.bg.frcDue } } x) ∧
  ∀ s : State, s.inReset = false → s.base = .tally → s.wake.waking = true → exec .tallyExitDone s = .next s.exitTally

/-! ### Background work and sensing -/

/-- R253, R285, R286: scrubbing the words `lo` up to `hi` of a memory counts and repairs each correctable error, counts
each uncorrectable one and shows the highest of these in ECC_LAST, and changes no byte. R282, R285 to R287, R301: a
scheduled pass and one started by SCRUB_NOW run to their end: the pass is counted, the position returns to word 0,
ACTIVE is clear and every correctable error from the position on is repaired, in both memories. In CLEARED one word of
keep RAM is scrubbed at a time. -/
def Obligations.ScrubPasses : Prop :=
  (∀ (m : Ram) (lo hi : Nat) (s : State),
     let hit := fun w => decide (lo ≤ w) && decide (w < hi)
     let ces := (s.ce m).filter fun w => hit w && !(s.ue m).contains w
     let ues := (s.ue m).filter hit
     let x := s.scrub m lo hi
     x.ue m = s.ue m ∧ (∀ w : Nat, w ∈ x.ce m ↔ w ∈ s.ce m ∧ (hit w = true → w ∈ s.ue m)) ∧
     x.rd m.ceFld = satAdd 65535 (s.rd m.ceFld) ces.length ∧ x.rd m.ueFld = satAdd 65535 (s.rd m.ueFld) ues.length ∧
     (∀ w : Nat, hi ≤ m.size → w ∈ ues → (∀ u ∈ ues, u ≤ w) → x.rd CORE.ECC_LAST_ADDR = m.base + m.word * w) ∧
     (ues = [] → x.rd CORE.ECC_LAST_ADDR = s.rd CORE.ECC_LAST_ADDR ∧ x.rd VEC.PENDING_PENDING = s.rd VEC.PENDING_PENDING) ∧
     (ues ≠ [] → x.rd VEC.PENDING_PENDING = (s.rodVec .core).rd VEC.PENDING_PENDING) ∧
     Safety.only [m.ceFld, m.ueFld, CORE.ECC_LAST_ADDR, VEC.PENDING_PENDING]
       { s with sramCe := x.sramCe, keepCe := x.keepCe } x) ∧
  ((∀ s : State, s.awake = true → s.rd CORE.BG_CTL_SCRUB_EN = 1 →
     ∃ x : State, exec .scrubPass s = .next x ∧ x.rd CORE.BG_SCRUB_POS_WORD = 0 ∧ x.rd CORE.BG_SCRUB_POS_ACTIVE = 0 ∧
       x.rd CORE.BG_SCRUB_PASSES = satAdd 65535 (s.rd CORE.BG_SCRUB_PASSES) 1 ∧
       s.rd CORE.BG_SHARE_PEAK ≤ x.rd CORE.BG_SHARE_PEAK ∧ x.rd CORE.BG_SHARE_PEAK ≤ max (s.rd CORE.BG_SHARE_PEAK) 30 ∧
       (∀ w ∈ x.sramCe, w < s.rd CORE.BG_SCRUB_POS_WORD ∨ sramWords ≤ w ∨ w ∈ s.sramUe) ∧
       (∀ w ∈ x.keepCe, keepWords ≤ w ∨ w ∈ s.keepUe) ∧
       Safety.only [CORE.BG_SHARE_PEAK, CORE.BG_SCRUB_POS_WORD, CORE.BG_SCRUB_POS_ACTIVE, CORE.BG_SCRUB_PASSES,
           CORE.ECC_CE_SRAM, CORE.ECC_CE_KEEP, CORE.ECC_UE_SRAM, CORE.ECC_UE_KEEP, CORE.ECC_LAST_ADDR, VEC.PENDING_PENDING]
         { s with bg := { s.bg with keepPos := 0 }, free := s.free + 1, sramCe := x.sramCe, keepCe := x.keepCe } x) ∧
   (∀ s : State, Safety.takes s .core → s.rd CORE.BG_CTL_SCRUB_EN = 1 → s.rd CORE.BG_SCRUB_POS_ACTIVE = 0 →
     ∃ x : State, exec .scrubNow s = .next x ∧ exec .scrubPass (s.idleRestart.wr CORE.BG_SCRUB_POS_WORD 0) = .next x ∧
       (∀ w ∈ x.sramCe, sramWords ≤ w ∨ w ∈ s.sramUe)) ∧
   (∀ s : State, Safety.takes s .core → (s.rd CORE.BG_CTL_SCRUB_EN = 0 ∨ s.rd CORE.BG_SCRUB_POS_ACTIVE = 1) →
     exec .scrubNow s = .next s.idleRestart) ∧
   ∀ s : State, s.inReset = false → s.base = .cleared →
     exec .keepRamScrub s = .next { s with
       bg := { s.bg with keepPos := (s.bg.keepPos + 1) % keepWords },
       keepCe := if s.bg.keepPos ∈ s.keepUe then s.keepCe else s.keepCe.filter fun w => w != s.bg.keepPos })

/-- R281, R283, R284, R288, R289, R291, R301: an FRC calibration that is due writes the error and moves the trim a step against an
error above 500 ppm, at once between lines and else at the next line boundary; within 2,000 ppm it sets FRC_CAL, and beyond it
clears FRC_CAL and stays due. An ADC calibration that is due sets ADC_OK, counts its pre-empted conversions, and takes the offset
and the gain with which the ground reads 0 and the bandgap its nominal code. CAL_NOW asks for both, HEADCHK_NOW for a recheck; and
the floor's cycle is counted and stands in PEAK. -/
def Obligations.CalibrationAndFloor : Prop :=
  (∀ (n : BitVec 32) (s : State), s.awake = true → s.rd CORE.CLK_STAT_HFXO_OK = 1 → s.rd CORE.CLK_STAT_FRC_ON = 1 →
    s.frcIsDue = true → 63872 ≤ n.toNat → n.toNat ≤ 64128 →
    let step : Int := if 64032 < n.toNat then -1 else if n.toNat < 63968 then 1 else 0
    ∃ x : State, exec (.frcCalibration n) s = .next x.settle ∧ x.rd CORE.CLK_STAT_FRC_CAL = 1 ∧
      x.rdI CORE.BG_CAL_FRC_ERR_PPM = roundInt (((n.toNat : Int) - 64000 : Int) * 1000000 / 64000 : Rat) ∧
      x.rdI CORE.BG_CAL_FRC_TRIM = (if s.print.firing.isSome then s.rdI CORE.BG_CAL_FRC_TRIM
        else clampInt (-128) 127 (s.rdI CORE.BG_CAL_FRC_TRIM + step)) ∧
      Safety.only [CORE.CLK_STAT_FRC_CAL, CORE.BG_CAL_FRC_ERR_PPM, CORE.BG_CAL_FRC_TRIM]
        { s with clk := { s.clk with frcEver := true },
                 bg := { s.bg with frcDue := false, frcAt := s.clock, frcDie := s.srcTemp 0,
                                   trimStep := if s.print.firing.isSome then step else 0 } } x) ∧
  (∀ (n : BitVec 32) (s : State), s.awake = true → s.rd CORE.CLK_STAT_HFXO_OK = 1 → s.rd CORE.CLK_STAT_FRC_ON = 1 →
    s.frcIsDue = true → (n.toNat < 63872 ∨ 64128 < n.toNat) →
    let step : Int := if 64128 < n.toNat then -1 else 1
    ∃ x : State, exec (.frcCalibration n) s = .next x ∧ x.rd CORE.CLK_STAT_FRC_CAL = 0 ∧
      x.rdI CORE.BG_CAL_FRC_ERR_PPM =
        clampInt (-32768) 32767 (roundInt (((n.toNat : Int) - 64000 : Int) * 1000000 / 64000 : Rat)) ∧
      x.rdI CORE.BG_CAL_FRC_TRIM = (if s.print.firing.isSome then s.rdI CORE.BG_CAL_FRC_TRIM
        else clampInt (-128) 127 (s.rdI CORE.BG_CAL_FRC_TRIM + step)) ∧
      Safety.only [CORE.CLK_STAT_FRC_CAL, CORE.BG_CAL_FRC_ERR_PPM, CORE.BG_CAL_FRC_TRIM]
        { s with bg := { s.bg with frcDue := true, frcAt := s.clock, frcDie := s.srcTemp 0,
                                   trimStep := if s.print.firing.isSome then step else 0 } } x) ∧
  (∀ (r : AdcReading) (s : State), s.awake = true → s.adcIsDue = true → r.ground.toNat < r.bandgap.toNat →
    ∃ x : State, exec (.adcCalibration r) s = .next x ∧ x.rd CORE.BG_CAL_ADC_OK = 1 ∧
      x.rd THERM.ADC_STAT_PREEMPTS = satAdd 65535 (s.rd THERM.ADC_STAT_PREEMPTS) r.preempted.toNat ∧
      (mkRat r.ground.toNat 16 - x.bg.adcOffset) * x.bg.adcGain = 0 ∧
      (mkRat r.bandgap.toNat 16 - x.bg.adcOffset) * x.bg.adcGain = bandgapCode ∧
      Safety.only [CORE.BG_CAL_ADC_OK, THERM.ADC_STAT_PREEMPTS]
        { s with free := s.free + 1, bg := { s.bg with adcDue := false, adcAt := s.clock, adcDie := s.srcTemp 0,
                                                       adcOffset := x.bg.adcOffset, adcGain := x.bg.adcGain } } x) ∧
  (∀ s : State, Safety.takes s .core →
    exec .calNow s = .next { s.idleRestart with bg := { s.bg with frcDue := true, adcDue := true } }) ∧
  (∀ s : State, Safety.takes s .core → s.rd CORE.BG_CTL_HEADCHK_EN = 1 → s.print.recheck = false →
    exec .headchkNow s = .next { s.idleRestart with print := { s.print with recheckDue := true } }) ∧
  ∀ s : State, s.awake = true →
    ∃ x : State, exec .floorGrant s = .next x ∧
      x.rd CORE.BG_SHARE_FLOOR_GRANTS = satAdd 65535 (s.rd CORE.BG_SHARE_FLOOR_GRANTS) 1 ∧
      x.rd CORE.BG_SHARE_PEAK = max 1 (s.rd CORE.BG_SHARE_PEAK) ∧
      Safety.only [CORE.BG_SHARE_FLOOR_GRANTS, CORE.BG_SHARE_PEAK] s x

/-- R304: a code of a thermistor above 4060 marks its source OPEN, one below 35 marks it SHORT, and each raises fault
0x0401 unless that mark stands already, a head thermistor's then also CABLE_OPEN (R392); the eighth good conversion in a row clears
the marks. R311, R312: an entry that is not crossed becomes so when its threshold is met, and a crossed one ceases to be when it is
cool and has stood for the hold time; no other entry changes. R298 to R301, R306, R311, R314, R315, R318, R321: a monitor sample
reports every source and evaluates every entry; a telemetry sample corrects the LFXO and, while TELEM_EN is 1, writes one entry at
NEXT of the ring, advances NEXT, and feeds the same thresholds once a monitor sample has been taken; a burst in TALLY changes no
action, and a wake source ends it. R281: a die 5 °C from the one of the last calibrations makes them due. DIE_OVERTEMP takes the
temperature and raises fault 0x0411; a PAUSE that lasts too long ends its RECEIPT with TIMEOUT. R309: SAMPLE writes one word per
channel of its mask at its address, an averaged code and its value, marks the thermistors that it converts, and completes OK with
the number of channels; with a parameter out of range it completes BAD_PARAM and writes nothing. -/
def Obligations.ThermalMonitor : Prop :=
  ((∀ (s : State) (src code : Nat), src < 6 → code < 4096 → (4060 < code ∨ code < 35) →
     ∃ x : State, s.markSource src code =
         (if s.rdBit (if 4060 < code then THERM.SENSOR_OPEN else THERM.SENSOR_SHORT) src then x
          else if src = 5 then (x.raise 0x0401 0 (src + code * 65536)).headThermOpen else x.raise 0x0401 0 (src + code * 65536)) ∧
       x.rdBit THERM.SENSOR_OPEN src = (s.rdBit THERM.SENSOR_OPEN src || decide (4060 < code)) ∧
       x.rdBit THERM.SENSOR_SHORT src = (s.rdBit THERM.SENSOR_SHORT src || decide (code < 35)) ∧
       Safety.only [THERM.SENSOR_OPEN, THERM.SENSOR_SHORT] { s with therm := { s.therm with srcs := x.therm.srcs } } x) ∧
   (∀ (s : State) (src code : Nat), src < 6 → 35 ≤ code → code ≤ 4060 → s.marked src = true → src < s.therm.srcs.length →
     ((s.thermSrc src).good < 7 →
       (s.markSource src code).marked src = true ∧ ((s.markSource src code).thermSrc src).good = (s.thermSrc src).good + 1) ∧
     ((s.thermSrc src).good = 7 → (s.markSource src code).marked src = false)) ∧
   ∀ (s : State) (k : Nat), k < 16 → s.therm.entries.length = 16 →
     let e := s.thermEntry k
     let st := s.therm.entries.getD k {}
     let st' := (s.evalEntry k).therm.entries.getD k {}
     (st.crossed = false → s.entryHot e = true → st' = { crossed := true, since := s.clock }) ∧
     (st.crossed = false → s.entryHot e = false → st' = st) ∧
     (st.crossed = true → s.entryCool e = true → st.since + u8 (s.beadD 0x0482 [10]) 0 * 1000000 ≤ s.clock → st'.crossed = false) ∧
     (st.crossed = true → (s.entryCool e = false ∨ s.clock < st.since + u8 (s.beadD 0x0482 [10]) 0 * 1000000) → st' = st) ∧
     ∀ j, j ≠ k → (s.evalEntry k).therm.entries.getD j {} = s.therm.entries.getD j {}) ∧
  ((∀ (m : TempSample) (s : State), s.awake = true → s.ready .therm = true →
     let x := (((((s.takeTemp 0 m.die.toInt).takeThm 0 m.thm0.toNat).takeThm 1 m.thm1.toNat).takeThm 2
       m.thm2.toNat).takeThm 3 m.thm3.toNat).takeHead m.head.toNat
     exec (.monitorSample m) s =
       .next (State.thermEval { x with therm := { x.therm with mon := true } } fun _ => true).settle) ∧
   (∀ (s : State) (src : Nat) (t : Int), src < 6 → src < s.therm.srcs.length → -32768 ≤ t → t < 32768 →
     (s.takeTemp src t).rdI (tempFld src) = t ∧ (s.takeTemp src t).srcTemp src = some t ∧
     (src ≠ 0 → (s.takeTemp src t).bg = s.bg) ∧
     Safety.only [tempFld src] { s with therm := { s.therm with srcs := (s.takeTemp src t).therm.srcs },
                                        bg := (s.takeTemp src t).bg } (s.takeTemp src t)) ∧
   (∀ (s : State) (t d : Int), s.bg.frcDie = some d → s.bg.adcDie = some d →
     ((s.takeTemp 0 t).bg.frcDue = true ↔ s.bg.frcDue = true ∨ 50 ≤ (t - d).natAbs) ∧
     ((s.takeTemp 0 t).bg.adcDue = true ↔ s.bg.adcDue = true ∨ 50 ≤ (t - d).natAbs)) ∧
   (∀ (v : BitVec 16) (m : TempSample) (s : State), s.awake = true → s.rd CORE.BG_CTL_TELEM_EN = 1 → s.keepUe = [] →
     ∃ x : State, exec (.telemetrySample v m) s = .next ((x.takeTelemetry m).thermNow fun _ => true).settle ∧
       x.rd CORE.BG_TELEM_NEXT = (s.rd CORE.BG_TELEM_NEXT + 1) % 64 ∧
       x.bytes .keep (0x200 + 16 * s.rd CORE.BG_TELEM_NEXT) 8 =
         leBytes 4 s.onSeconds ++ leBytes 2 v.toNat ++ leBytes 2 m.die.toNat ∧
       (∀ a : Nat, (a < 0x200 + 16 * s.rd CORE.BG_TELEM_NEXT ∨ 0x210 + 16 * s.rd CORE.BG_TELEM_NEXT ≤ a) →
         x.byte .keep a = s.byte .keep a) ∧
       Safety.regsBut [CORE.BG_SHARE_PEAK, CORE.BG_TELEM_NEXT, THERM.LFXO_PPM_CORR, CORE.ECC_CE_KEEP] s x ∧
       x = { s with regs := x.regs, keep := x.keep, keepCe := x.keepCe, free := s.free + 1,
                    bg := { s.bg with corr := x.bg.corr, gapDie := some m.die.toInt } }) ∧
   (∀ (v : BitVec 16) (m : TempSample) (s : State), s.awake = true → s.rd CORE.BG_CTL_TELEM_EN = 0 →
     ∃ x : State, exec (.telemetrySample v m) s = .next x ∧
       Safety.only [THERM.LFXO_PPM_CORR] { s with bg := { s.bg with corr := x.bg.corr, gapDie := some m.die.toInt } } x) ∧
   (∀ (v : BitVec 16) (m : TempSample) (r : AdcReading) (wake : Option (Fin 9 × WakeSource)) (s : State), s.inReset = false →
     s.base = .tally → s.wake.waking = false → s.wake.entering = false →
     ∃ x : State, exec (.tallyBurst v m r wake) s = .next x ∧ x.bg.bursts = s.bg.bursts + 1 ∧ x.base = .tally ∧
       x.rd THERM.STAT_ACTIVE = s.rd THERM.STAT_ACTIVE ∧ x.cmds = s.cmds ∧ x.queues = s.queues ∧ x.otp = s.otp ∧
       (wake = none → s.bg.bursts % 60 = 0 → x.rd CORE.BG_CAL_ADC_OK = 1) ∧
       (∀ k w, wake = some (k, w) → s.wakeEnabled w = true → x.wake.waking = true) ∧
       (wake = none → x.wake.waking = true → x.rd CORE.BG_TELEM_NEXT = s.rd CORE.BG_TELEM_NEXT) ∧
       (s.rd CORE.BG_CTL_TELEM_EN = 0 → x.rd CORE.BG_TELEM_NEXT = s.rd CORE.BG_TELEM_NEXT) ∧
       (x.wake.waking = false → s.rd CORE.BG_CTL_TELEM_EN = 1 →
         x.rd CORE.BG_TELEM_NEXT = (s.rd CORE.BG_TELEM_NEXT + 1) % 64) ∧
       ∀ a, x.byte .sram a = s.byte .sram a) ∧
   (∀ (t : BitVec 16) (s : State), s.inReset = false → s.base ≠ .cleared →
     exec (.dieOvertemp t) s = .next ((s.takeTemp 0 t.toInt).raise 0x0411 0 (toBits 32 t.toInt)).settle) ∧
   ∀ (s : State) (j : Job) (js : List Job), s.awake = true → s.rdBit THERM.STAT_ACTIVE 2 = true → s.print.jobs = j :: js →
     j.stage = .render → exec .pauseTimeout s = .next (s.endReceipt j.tag stTimeout).settle) ∧
  ((∀ (tag : Fin 64) (codes : List (BitVec 16)) (s : State) (c : Cmd), s.cmd? tag = some c → c.op = 0x40 → c.started = false →
     s.awake = true → s.ready .therm = true → s.firstIn tag .therm = true → s.sampleOk c = true →
      s.mayWrite .therm c.p1 c.sampleLen = true → s.sramUe = [] →
     let cs := codes.map fun x => s.adcCode x.toNat 16
     let w := s.sampleWords c.p0 cs
     ∃ x : State, exec (.sample tag codes) s = .next ((x.sampleMarks c.p0 cs).complete tag stOK
         (((List.range 32).filter fun k => c.p0.testBit k).length) 0).settle ∧
       (∀ i, i < w.length → x.byte .sram (c.p1 + i) = w.getD i 0 % 256) ∧
       (∀ a, (a < c.p1 ∨ c.p1 + w.length ≤ a) → x.byte .sram a = s.byte .sram a) ∧
       Safety.regsBut [CORE.ECC_CE_SRAM] s x ∧ x = { s with regs := x.regs, sram := x.sram, sramCe := x.sramCe }) ∧
   ∀ (tag : Fin 64) (codes : List (BitVec 16)) (s : State) (c : Cmd), s.cmd? tag = some c → c.op = 0x40 → c.started = false →
     s.awake = true → s.ready .therm = true → s.firstIn tag .therm = true → s.sampleOk c = false →
     exec (.sample tag codes) s = .next (s.endOpen tag stBadParam).settle)

/-! ### Fetch, abort and release -/

/-- R200, R201, R206, R210, R211: the fetch takes the head entry of the queue served next: the head and the order of service
advance, and a fresh tag is held. A word of the entry that cannot be corrected completes it ECC; a code of the checks
completes it with that code; what passes takes its place. R293: a PRINT command ends a head recheck. With no entry nothing happens, and
with no tag free each queue that is blocked counts it once. -/
def Obligations.EntryFetch : Prop :=
  (∀ s : State, s.awake = true → s.nextQueue = none → exec .entryFetch s = .next s) ∧
  (∀ (s : State) (q : Nat), s.awake = true → s.nextQueue = some q → s.freeTag? = none →
    exec .entryFetch s = .next s.tagStall ∧ (s.tagStall.cmds = s.cmds) ∧
    ∀ p, p < 16 → p < s.queues.length →
      s.tagStall.rd (VEC.Q_STAT_TAG_STALL p) = satAdd 255 (s.rd (VEC.Q_STAT_TAG_STALL p))
        (if s.hasEntry p && !(s.queues.getD p {}).stalled then 1 else 0)) ∧
  (∀ (s : State) (q t : Nat), s.awake = true → s.nextQueue = some q → s.freeTag? = some t → 0 < s.depth q →
    let idx := s.rd (VEC.Q_SQ_IDX_HEAD q)
    ∃ x : State, (x.rd (VEC.Q_SQ_IDX_HEAD q) = (idx + 1) % s.depth q ∧
        Safety.only [VEC.Q_SQ_IDX_HEAD q, CORE.ECC_CE_SRAM, CORE.ECC_UE_SRAM, CORE.ECC_LAST_ADDR, VEC.PENDING_PENDING]
          { s with queues := s.queues.modify q fun u => { u with stalled := false },
                   fetchNext := if q = 0 then s.fetchNext else q % 15 + 1 } x) ∧
      (s.badWord .sram (s.sqBase q + 32 * idx) 32 = none →
        exec .entryFetch s = .next (x.accept (s.entryAt q idx t)).settle) ∧
      ((s.badWord .sram (s.sqBase q + 32 * idx) 32).isSome = true → s.tagsHeld.length < 64 →
        ∃ y : State, exec .entryFetch s = .next (y.post q
            { tag := some t, cmdId := 0xFFFF, status := stEcc, origin := q, now := false, r0 := idx, r1 := 0 }).settle ∧
          y.rd VEC.TAGS_PEAK = max (x.rd VEC.TAGS_PEAK) (x.tagsHeld.length + 1) ∧ Safety.only [VEC.TAGS_PEAK] x y)) ∧
  ∀ (s : State) (e : Entry), s.tagsHeld.length < 64 →
    let s' := if e.opcodeOk && e.cmd.rods.contains .print then s.abandonRecheck else s
    ∃ x : State, x.rd VEC.TAGS_PEAK = max (s.rd VEC.TAGS_PEAK) (s.tagsHeld.length + 1) ∧
      Safety.only [VEC.TAGS_PEAK] { s' with cmds := s.cmds ++ [e.cmd] } x ∧
      (firstCode (s.fetchCodes e) = none → s.accept e = x) ∧
      ∀ code, firstCode (s.fetchCodes e) = some code → e.cmd.op ≠ 0x60 → s.accept e = x.endOpen e.cmd.tag code

/-- R89, R214, R216, R217: a command whose ready-wait time ends completes NOT_READY, a started RECEIPT as far as it waits;
an ABORT of a command that is not in flight completes BAD_PARAM, one of a command that has not started ends that
command ABORTED and, of a RECEIPT, any dry-out before it (R396), and one of a PARTIAL_APPLY that has started waits for its completion. R531 to R533: RELEASE_HELD
outside HELD completes OK with the mode; in HELD it completes BUSY and shows the block where a condition fails, and
else HELD ends: the faults of releases are cleared, the heartbeat starts again, FEED's self-test is due and the blade
is to be homed. -/
def Obligations.EndingAndReleasing : Prop :=
  ((∀ (tag : Fin 64) (s : State) (c : Cmd), s.awake = true → s.cmd? tag = some c → s.waits c = true →
     (c.op ≠ 0x60 ∨ c.started = false) →
     exec (.readyWaitExpiry tag) s = .next (s.endOpen c.tag stNotReady).settle) ∧
   (∀ (tag : Fin 64) (s : State) (c : Cmd), s.awake = true → s.cmd? tag = some c → c.op = 0x60 → c.started = true →
     s.job? c.tag = none → s.rd RASTER.STAT_STATE = 4 → s.raster.waitAt < 2 ^ 18 →
     ∃ x : State, exec (.readyWaitExpiry tag) s = .next (x.complete c.tag stNotReady 0 0).settle ∧ x.rd RASTER.ERR_CAUSE = 11 ∧
       x.rd RASTER.ERR_OFFSET = s.raster.waitAt ∧ x.rd RASTER.STAT_STATE = 0 ∧
       Safety.only [RASTER.ERR_OFFSET, RASTER.ERR_CAUSE, RASTER.STAT_STATE]
         { s with raster := { s.raster with begun := none } } x) ∧
   (∀ (tag : Fin 64) (s : State) (c : Cmd) (j : Job), s.awake = true → s.cmd? tag = some c → c.op = 0x60 → c.started = true →
     s.job? c.tag = some j → s.rd RASTER.STAT_STATE = 4 → j.committed < j.bands → j.failed = none →
     exec (.readyWaitExpiry tag) s = .next (s.renderStop j s.raster.waitAt 11).settle) ∧
   (∀ (tag : Fin 64) (s : State) (c : Cmd) (j : Job), s.awake = true → s.cmd? tag = some c → c.op = 0x60 → c.started = true →
     s.job? c.tag = some j → s.rd RASTER.STAT_STATE ≠ 4 → s.receiptWaits c = true →
     ∃ r0 r1 : Nat, exec (.readyWaitExpiry tag) s =
       .next (({ s with free := s.free + 2 } : State).endReceipt c.tag stNotReady r0 r1).settle) ∧
   (∀ (tag : Fin 64) (s : State) (c : Cmd), s.awake = true → s.cmd? tag = some c → c.op = 0x04 → c.started = false →
     (s.cmds.find? fun x => x.cmdId == c.p0 % 65536 && x.queue == c.p0 / 65536 % 16 && x.tag != c.tag) = none →
     exec (.abort tag) s = .next (s.endOpen c.tag stBadParam).settle) ∧
   ∀ (tag : Fin 64) (s : State) (c v : Cmd), s.awake = true → s.cmd? tag = some c → c.op = 0x04 → c.started = false →
     (s.cmds.find? fun x => x.cmdId == c.p0 % 65536 && x.queue == c.p0 / 65536 % 16 && x.tag != c.tag) = some v →
     let y : State := { s with cmds := s.cmds.map fun u =>
       if u.tag = c.tag then { u with started := true, abortOf := some v.tag } else u }
     exec (.abort tag) s = .next (y.cancel v).settle ∧
     (v.started = false → exec (.abort tag) s =
       .next ((if v.op = 0x60 then y.dryAborted else y).endOpen v.tag stAborted).settle) ∧
     (v.started = true → v.op = 0x01 → exec (.abort tag) s = .next y.settle)) ∧
  (∀ (tag : Fin 64) (vm : BitVec 16) (st : BitVec 8) (s : State) (c : Cmd), s.cmd? tag = some c → c.op = 0x05 →
     c.started = false → s.awake = true →
     (s.base = .run → exec (.releaseHeld tag vm st) s = .next (s.complete tag stOK s.mode 0).settle) ∧
     (∀ b, s.base = .held → s.releaseBlock vm.toNat st.toNat = some b → b < 65536 →
       ∃ x : State, exec (.releaseHeld tag vm st) s = .next (x.complete tag stBusy 4 0).settle ∧ x.rd CORE.HELD_BLOCK = b ∧
         Safety.only [CORE.HELD_BLOCK] s x) ∧
     (s.base = .held → s.releaseBlock vm.toNat st.toNat = none →
       ∃ x : State, exec (.releaseHeld tag vm st) s = .next (x.settle.complete tag stOK x.settle.mode 0).settle ∧ x.base = .run ∧
         x.rd CORE.HELD_BLOCK = 0 ∧ x.faults = s.faults.filter (fun f => !releaseCodes.contains f.code) ∧
         x.cut.needHome = true ∧ x.boot.tested.testBit 8 = false ∧ x.clk.hbSince = s.clock ∧
         Safety.only [CORE.HELD_BLOCK]
           { s with base := .run, faults := x.faults, clk := x.clk, wake := x.wake, cut := x.cut,
                    boot := { s.boot with tested := x.boot.tested } } x))

/-! ### Images, OTP and rod resets -/

/-- R51, R53: IMAGE_CONFIRM raises the rollback counter to the running image's value, and FREEZE_COMMIT programs the
freeze hash, once, where the key, the source and the image allow it; no other field of OTP changes. R55, R57, R59,
R63, R65, R67, R69, R71: IMG_PUSH and PARTIAL_APPLY start a verification. When it ends, an image that passes runs or
is applied; one that fails shows its step, a slot's then gives way to the next slot or to the host, a pushed one to
the host, and a partial one ends with the status of the first rule that refuses it. A target rod that has not finished
in time fails its self-test. -/
def Obligations.OtpAndImages : Prop :=
  ((∀ (tag : Fin 64) (s : State) (c : Cmd), s.cmd? tag = some c → c.op = 0x02 → s.awake = true → s.slotRuns = true →
     let n := max s.otp.rollback (s.rd CORE.IMG_VER_ROLLBACK)
     exec (.imageConfirm tag) s =
       .next (({ s with otp := { s.otp with rollback := n } } : State).complete tag stOK n 0).settle) ∧
   (∀ (tag : Fin 64) (s : State) (c : Cmd), s.cmd? tag = some c → c.op = 0x02 → s.awake = true → s.slotRuns = false →
     exec (.imageConfirm tag) s = .next (s.complete tag stBadParam s.otp.rollback 0).settle) ∧
   (∀ (tag : Fin 64) (s : State) (c : Cmd), s.cmd? tag = some c → c.op = 0x03 → s.awake = true → c.p0 = 0x465A →
     s.slotRuns = true → s.img.subject = true → s.otp.frozen = none →
     exec (.freezeCommit tag) s = .next (({ s with otp := { s.otp with frozen := some s.img.structHash } } : State).complete tag
       stOK (leNat (s.img.structHash.take 4)) 0).settle) ∧
   ∀ (tag : Fin 64) (s : State) (c : Cmd), s.cmd? tag = some c → c.op = 0x03 → s.awake = true →
     (c.p0 = 0x465A ∧ s.slotRuns = true ∧ s.img.subject = true ∧ s.otp.frozen = none → False) →
     exec (.freezeCommit tag) s = .next (s.endOpen tag stBadParam).settle) ∧
  ((∀ (w : Word) (s : State), Safety.takes s .core → field w 0 1 = 1 → s.rd CORE.IMG_STAT_STATE = 2 →
     ∃ x : State, exec (.imgPush w) s = .next x ∧ x.rd CORE.IMG_STAT_STATE = 1 ∧
       x.img.verify = .push (16 * s.rd CORE.IMG_ADDR_ADDR) ∧
       Safety.only [CORE.IMG_STAT_STATE] { s.idleRestart with img := { s.img with verify := x.img.verify } } x) ∧
   (∀ (w : Word) (s : State), Safety.takes s .core → (field w 0 1 = 0 ∨ s.rd CORE.IMG_STAT_STATE ≠ 2) →
     exec (.imgPush w) s = .next s.idleRestart) ∧
   (∀ (tag : Fin 64) (s : State) (c : Cmd), s.cmd? tag = some c → c.op = 0x01 → c.started = false → s.awake = true →
     s.firstPartial tag = true →
     (s.imageApplied = false → exec (.partialApply tag) s = .next (s.endOpen tag stBadParam).settle) ∧
     (s.imageApplied = true →
       ∃ x : State, exec (.partialApply tag) s = .next x ∧ x.rd CORE.IMG_STAT_STATE = 4 ∧ x.img.verify = .partialImg tag ∧
         Safety.only [CORE.IMG_STAT_STATE] { s.start tag with img := { s.img with verify := x.img.verify } } x)) ∧
   (∀ (s : State) (k : Nat) (rest : List Nat) (named : Bool), s.awake = true → s.img.verify = .slot k rest named →
     (verifyImage s.otp s.slotSize .boot (s.slotBytes k) = 0 →
       exec .imageVerified s = .next (s.applyFull (s.slotBytes k) k).settle) ∧
     (∀ n, verifyImage s.otp s.slotSize .boot (s.slotBytes k) = n → n ≠ 0 →
       (rest = [] → exec .imageVerified s = .next ((s.failStep n).waitHost).settle) ∧
       (∀ j js, rest = j :: js → named = false → exec .imageVerified s = .next ((s.failStep n).trySlot j js false).settle))) ∧
   (∀ (s : State) (a : Nat), s.awake = true → s.img.verify = .push a →
     let r := s.readImage a (pushRegion a) .boot
     (verifyImage s.otp (pushRegion a) .boot r.2 = 0 → exec .imageVerified s = .next (r.1.applyFull r.2 3).settle) ∧
     (∀ n, verifyImage s.otp (pushRegion a) .boot r.2 = n → n ≠ 0 →
       exec .imageVerified s = .next ((r.1.failStep n).waitHost).settle)) ∧
   (∀ (s : State) (t : Nat) (c : Cmd), s.awake = true → s.img.verify = .partialImg t → s.cmd? t = some c →
     let r := ({ s with img := { s.img with verify := .none } } : State).readImage c.p0 c.p1 .partialApply
     let rs := s.targetsOf r.2
     let n := verifyImage s.otp c.p1 .partialApply r.2
     (n ≠ 0 → exec .imageVerified s = .next ((r.1.failStep n).endPartial t stAuth).settle) ∧
     (n = 0 → hdrPartial r.2 = false → exec .imageVerified s = .next (r.1.endPartial t stBadParam).settle) ∧
     (n = 0 → hdrPartial r.2 = true → s.base = .held → Rod.feed ∈ rs →
       exec .imageVerified s = .next (r.1.endPartial t stHeld).settle) ∧
     (n = 0 → hdrPartial r.2 = true → s.base = .run → r.1.targetsIdle rs = false →
       exec .imageVerified s = .next (r.1.endPartial t stBusy).settle) ∧
     (n = 0 → hdrPartial r.2 = true → s.base = .run → r.1.targetsIdle rs = true → rs ≠ [] →
       exec .imageVerified s = .next (r.1.applyPartial t r.2 rs).settle)) ∧
   (∀ (s : State) (b : List Nat) (k : Nat), 1 ≤ k → k ≤ 3 →
     let x := s.applyFull b k
     x.img.beads = (s.newConfig b (s.targetsOf b)).beads ∧ x.img.causes = (s.newConfig b (s.targetsOf b)).causes ∧
     x.img.structHash = structuralHash b ∧ x.img.subject = hdrSubject b ∧ x.img.verify = .none ∧ x.clk.hbSince = s.clock ∧
     x.otp = s.otp ∧ x.base = s.base) ∧
   ∀ (s : State) (a : Apply) (r : Rod), s.base = .run → s.img.apply = some a →
     (Rod.all.filter fun r => a.targets.testBit r.idx && !a.done.testBit r.idx) = [r] →
     ∃ x : State, exec .partialApplyTimeout s = .next x.settle ∧
       x = { s.raise (r.idx * 256 + 0xE3) 0 0 with
         img := { s.img with apply := some { a with done := a.done ||| (a.targets &&& 2 ^ r.idx) } } })

/-- R68, R93, R94: a write of CORE.ROD_RESET resets each rod of its mask but CORE, LINK, absent rods and the targets of a partial apply.
A rod reset clears the rod's READY, makes its self-test due, returns its register block to the reset values but for the fields that
report what goes on (log entry 44), and takes again the configuration that an image gave; its self-test's end makes it tested, or
raises fault 0xE3 of the rod. R157: SUPPLY's waits until VCORE is SETTLED. -/
def Obligations.RodResetsAndTests : Prop :=
  (∀ (w : Word) (s : State), Safety.takes s .core →
    exec (.rodReset w) s = .next ((s.resetRods w).foldl (fun s r => s.resetRod r) s.idleRestart).settle) ∧
  (∀ (w : Word) (s : State) (r : Rod), r ∈ s.resetRods w ↔
    2 ≤ r.idx ∧ w.toNat.testBit r.idx = true ∧ s.has r = true ∧ s.partialTargets.testBit r.idx = false) ∧
  (∀ (s : State) (r : Rod), 2 ≤ r.idx → (r ≠ .feed ∨ (s.stopFeed).feedMoving = false) →
    let x := s.resetRod r
    x.boot.tested.testBit r.idx = false ∧ x.boot.resetting.testBit r.idx = true ∧ x.ready r = false ∧
    (s.imageApplied = false → ∀ f : Fld, rodBlock r ≤ f.addr → f.addr < rodBlock r + 0x10000 →
      (∀ g ∈ liveFields r ++ [FEED.STAT_STATE], g.apart f = true) → x.rd f = State.reset.rd f)) ∧
  (∀ (s : State) (r : Rod), s.testDue r = true → r ∉ [Rod.print, Rod.feed, Rod.vidin] →
    exec (.selfTestDone r .pass) s = .next (s.plainTest r).settle ∧
    (r ∉ [Sys2Proof.Rod.cut, Rod.ledger, Rod.supply] →
      (s.plainTest r).boot.tested.testBit r.idx = true ∧ (s.plainTest r).hasFault (256 * r.idx + 0xE3) = false)) ∧
  (∀ s : State, (s.rd SUPPLY.VCORE_STAT_SETTLED = 0 → s.plainTest .supply = s) ∧
    (s.rd SUPPLY.VCORE_STAT_SETTLED = 1 → (s.plainTest .supply).boot.tested.testBit 5 = true)) ∧
  (∀ (s : State) (r : Rod), s.testDue r = true → r ≠ .vidin →
    ∃ x : State, exec (.selfTestDone r .fail) s = .next x.settle ∧
      x = { (s.markReset r false).raise (r.idx * 256 + 0xE3) 0 0 with img := x.img } ∧
      x.img.beads = s.img.beads ∧ x.img.causes = s.img.causes) ∧
  (∀ (s : State) (m : HeadMeas) (l : BitVec 16), s.testDue .print = true →
    exec (.selfTestDone .print (.head m l)) s = .next ((s.testPassed .print).headTest m l.toNat).settle) ∧
  (∀ (s : State) (m : List WindingMeas) (h : BitVec 3), s.testDue .feed = true → s.boot.brake = 0 → s.feedMoving = false →
    s.base = .run →
    exec (.selfTestDone .feed (.motor m h)) s =
      .next ((if s.boot.resetting.testBit 8 then s.restore .feed else s).motorTest m h.toNat).settle) ∧
  (∀ (s : State) (n : Negotiation), s.testDue .vidin = true → s.pllvOn = true →
    exec (.selfTestDone .vidin (.camera n)) s = .next (s.cameraTest n).settle) ∧
  ∀ s : State, s.testDue .vidin = true →
    exec (.selfTestDone .vidin .fail) s = .next ((s.testFailed .vidin).renegotiated false).settle

/-! ### Flash and ledger -/

/-- R256 to R260, R266: a negotiation makes FLASH tested. A flash that has its supply and carries what is needed is shown with its
size, its geometry, its features, the fastest mode allowed, the running slot VERIFIED unless a reset has cut its erase or its
writing short, and its last valid journal record, and the boot goes on from it; one that answers nothing, as none does without
VIO_FL, raises fault 0x0201, one of less than 8 MiB fault 0x0202, and the boot goes on without it. -/
def Obligations.FlashNegotiation : Prop :=
  (∀ (c : FlashChip) (s : State), s.awake = true → s.boot.tested.testBit 2 = false → c.blank = false → s.bank 1 = true →
    (c.sfdp = true → 8 ≤ c.sizeMib.toNat) →
    let size := if c.sfdp then min 64 c.sizeMib.toNat else 8
    let run := if s.fl.broken == s.rd FLASH.SLOTS_RUNNING then 0 else s.rd FLASH.SLOTS_RUNNING
    ∃ x : State, exec (.flashNegotiation c) s = .next (x.bootImage true).settle ∧
      x.boot = { s.boot with tested := s.boot.tested ||| 4, resetting := s.boot.resetting - (s.boot.resetting &&& 4) } ∧
      x.rd FLASH.JEDEC_ID_ID = c.jedec.toNat ∧ x.rd FLASH.STAT_SIZE_MIB = size ∧
      x.rd FLASH.STAT_SFDP = bit c.sfdp ∧ x.rd FLASH.STAT_GEOM = bit (decide (16 ≤ size)) ∧
      x.rd FLASH.STAT_ADDR4 = bit (decide (16 < size)) ∧ x.rd FLASH.STAT_SUSPEND = bit (c.sfdp && c.suspend) ∧
      x.rd FLASH.STAT_BUSY = bit s.led.compact.isSome ∧ x.rd FLASH.SLOTS_ACTIVE = (x.lastJournal.map fun l => l.2.2).getD 0 ∧
      x.rd FLASH.JOURNAL_SEQ = (x.lastJournal.map fun l => l.2.1).getD 0 ∧
      x.rd FLASH.SLOTS_A_STATE = (if run = 1 then slotVerified else slotUnknown) ∧
      x.rd FLASH.SLOTS_B_STATE = (if run = 2 then slotVerified else slotUnknown) ∧
      x.fl = { s.fl with size := size, modes := if c.sfdp then c.modes.toNat ||| 2 else 2, job := none, pages := [] } ∧
      (x.rd FLASH.STAT_MODE = 1 ∨ x.fl.modes.testBit (x.rd FLASH.STAT_MODE) = true) ∧
      x.rd FLASH.STAT_MHZ ≤ modeMhz (x.rd FLASH.STAT_MODE) ∧
      (∀ f ∈ x.faults, f ∈ s.faults ∧ f.code ≠ 0x0201 ∧ f.code ≠ 0x0202 ∧ f.code ≠ 0x02E3) ∧
      x.chans = (if x.flashHeld then s.chans else s.chans.map fun c => { c with stuck := false }) ∧
      Safety.only [FLASH.JEDEC_ID_ID, ⟨FLASH.STAT_MODE.addr, 0, 32⟩, FLASH.SLOTS_A_STATE, FLASH.SLOTS_B_STATE,
          FLASH.SLOTS_ACTIVE, FLASH.JOURNAL_SEQ]
        { s with boot := x.boot, fl := x.fl, faults := x.faults, chans := x.chans } x) ∧
  ∀ (c : FlashChip) (s : State), s.awake = true → s.boot.tested.testBit 2 = false →
    ∃ x : State, x.boot.tested.testBit 2 = true ∧ x.rd FLASH.JEDEC_ID_ID = c.jedec.toNat ∧
      x.fl = { s.fl with size := 0, modes := 0, job := none, pages := [] } ∧
      Safety.only [FLASH.JEDEC_ID_ID, FLASH.STAT_SFDP] { s with boot := x.boot, fl := x.fl } x ∧
      (c.blank = true ∨ s.bank 1 = false →
        exec (.flashNegotiation c) s = .next ((x.raise 0x0201 0 c.jedec.toNat).bootImage false).settle) ∧
      (c.blank = false → s.bank 1 = true → c.sfdp = true → c.sizeMib.toNat < 8 →
        exec (.flashNegotiation c) s = .next ((x.raise 0x0202 0 c.sizeMib.toNat).bootImage false).settle)

/-- R268: SLOT_ERASE and SLOT_WRITE start where the slot is not the active one and the parameters hold; each sector's end
makes its 64 KiB read 0xFF, each page's end clears the bits that the data clears, and no other byte of flash changes;
a page that reads otherwise ends TORN and FAILED, a sector that takes too long ends TIMEOUT and FAILED. R264 to R268:
SLOT_VERIFY ends OK with the serial and makes the slot VERIFIED, or AUTH with the step; SLOT_SWITCH refuses a wrong
key or a slot that is not VERIFIED, and else makes the slot active by one journal record and touches no byte past the
journal's two sectors; READ_TO_SRAM copies a range of flash. R261: what reads flash counts a suspend where the flash is busy and
suspends. While LEDGER erases a sector, a slot's erase and SLOT_SWITCH stand still: the model's choice (log 29). -/
def Obligations.SlotCommands : Prop :=
  ((∀ (j : SlotJob) (st state : Nat) (s : State), state < 16 →
     ∃ x : State, s.slotEnd j st state = (x.complete j.tag st j.did 0).settle ∧ x.fl.job = none ∧ x.rd (slotFld j.slot) = state ∧
       x.rd FLASH.STAT_BUSY = bit s.led.compact.isSome ∧
       x.chans = (if x.flashHeld then s.chans else s.chans.map fun c => { c with stuck := false }) ∧
       Safety.only [slotFld j.slot, FLASH.STAT_BUSY] { s with fl := { s.fl with job := none }, chans := x.chans } x) ∧
   (∀ (tag : Fin 64) (s : State) (c : Cmd), s.cmd? tag = some c → s.flashFree c 0x20 = true →
     (s.slotActive c.p0 = true → exec (.slotErase tag) s = .next (s.endOpen tag stBadParam).settle) ∧
     (s.slotActive c.p0 = false →
       ∃ x : State, exec (.slotErase tag) s = .next x ∧ x.rd (slotFld c.p0) = slotErasing ∧ x.rd FLASH.STAT_BUSY = 1 ∧
         x.rd FLASH.PROGRESS_BYTES = 0 ∧ x.fl.job = some { tag := tag, slot := c.p0, erase := true, did := 0 } ∧
         x.fl.broken = (if s.fl.broken = c.p0 then 0 else s.fl.broken) ∧
         x.chans = (if x.flashHeld then s.chans else s.chans.map fun c => { c with stuck := false }) ∧
         Safety.only [slotFld c.p0, FLASH.STAT_BUSY, FLASH.PROGRESS_BYTES]
           { s.start tag with chans := x.chans, fl := { s.fl with job := x.fl.job, broken := x.fl.broken } } x)) ∧
   (∀ (s : State) (j : SlotJob), s.led.compact = none → s.fl.job = some j → j.erase = true →
     let a := s.slotBase j.slot + 0x10000 * j.did
     let j' : SlotJob := { j with did := j.did + 1 }
     ∃ x : State, exec .sectorEraseDone s = .next (if 0x10000 * j'.did < s.slotSize then x else x.slotEnd j' stOK slotErased) ∧
       x.fl.job = some j' ∧ (∀ b, x.flashBytes b 1 = if a ≤ b ∧ b < a + 0x10000 then [0xFF] else s.flashBytes b 1) ∧
       x = { s with fl := x.fl, flash := x.flash }) ∧
   (∀ (s : State) (j : SlotJob), s.led.compact = none → s.fl.job = some j → j.erase = true →
     exec .eraseTimeExceeded s = .next (s.slotEnd j stTimeout slotFailed)) ∧
   (∀ (tag : Fin 64) (s : State) (c : Cmd), s.cmd? tag = some c → s.flashFree c 0x21 = true →
     ((s.slotActive c.p0 || !s.slotWriteOk c) = true → exec (.slotWrite tag) s = .next (s.endOpen tag stBadParam).settle) ∧
     (s.slotActive c.p0 = false → s.slotWriteOk c = true →
       ∃ x : State, exec (.slotWrite tag) s = .next x ∧ x.rd (slotFld c.p0) = slotWriting ∧ x.rd FLASH.STAT_BUSY = 1 ∧
         x.chans = (if x.flashHeld then s.chans else s.chans.map fun c => { c with stuck := false }) ∧
         Safety.only [slotFld c.p0, FLASH.STAT_BUSY]
           { s.start tag with
             chans := x.chans, fl := { s.fl with job := some { tag := tag, slot := c.p0, erase := false, did := 0 } } } x)) ∧
   ∀ (s : State) (j : SlotJob) (c : Cmd), s.fl.job = some j → j.erase = false → s.cmd? j.tag = some c →
     let n := min 256 (c.p3 - j.did)
     let a := s.slotBase j.slot + c.p1 + j.did
     let src := s.bytes .sram (c.p2 + j.did) n
     let j' : SlotJob := { j with did := j.did + n }
     ((s.badWord .sram (c.p2 + j.did) n).isSome = true → ∀ l : Option (List (BitVec 8)),
       ∃ x : State, exec (.pageProgramDone l) s = .next (x.slotEnd j stEcc slotWriting) ∧
         Safety.only [CORE.ECC_CE_SRAM, CORE.ECC_UE_SRAM, CORE.ECC_LAST_ADDR, VEC.PENDING_PENDING] s x) ∧
     (s.badWord .sram (c.p2 + j.did) n = none →
       ∃ x : State, exec (.pageProgramDone none) s = .next (if j'.did < c.p3 then x else x.slotEnd j' stOK slotWriting) ∧
         x.fl.job = some j' ∧ (∀ i, i < n → x.flashBytes (a + i) 1 = [((s.flashBytes (a + i) 1).getD 0 0) &&& src.getD i 0]) ∧
         (∀ b, (b < a ∨ a + n ≤ b) → x.flashBytes b 1 = s.flashBytes b 1) ∧
         Safety.regsBut [FLASH.PROGRESS_BYTES, CORE.ECC_CE_SRAM, CORE.ECC_UE_SRAM, CORE.ECC_LAST_ADDR, VEC.PENDING_PENDING] s x ∧
         x = { s with regs := x.regs, fl := x.fl, flash := x.flash }) ∧
     ∀ l : List (BitVec 8), s.badWord .sram (c.p2 + j.did) n = none → (l.map (·.toNat)).take n ≠ src →
       ∃ x : State, exec (.pageProgramDone (some l)) s = .next (x.slotEnd j stTorn slotFailed) ∧
         (∀ b, (b < a ∨ a + l.length ≤ b) → x.flashBytes b 1 = s.flashBytes b 1) ∧
         x = { s with regs := x.regs, fl := x.fl, flash := x.flash }) ∧
  ((∀ (tag : Fin 64) (s : State) (c : Cmd), s.cmd? tag = some c → s.flashFree c 0x22 = true → s.flashHeld = false →
     (s.slotStep c.p0 = 0 →
       ∃ x : State, exec (.slotVerify tag) s = .next (x.complete tag stOK (hdrSerial (s.slotBytes c.p0)) 0).settle ∧
         x.rd (slotFld c.p0) = slotVerified ∧ Safety.only [slotFld c.p0] s.flashRead x) ∧
     (∀ n, s.slotStep c.p0 = n → n ≠ 0 → n < 256 →
       ∃ x : State, exec (.slotVerify tag) s = .next (x.complete tag stAuth (hdrSerial (s.slotBytes c.p0)) n).settle ∧
         x.rd (slotFld c.p0) = slotFailed ∧ x.rd CORE.IMG_STAT_FAIL_STEP = n ∧
         Safety.only [slotFld c.p0, CORE.IMG_STAT_FAIL_STEP] s.flashRead x)) ∧
   (∀ (tag : Fin 64) (s : State) (c : Cmd), s.cmd? tag = some c → s.flashFree c 0x23 = true → s.led.compact = none →
     (c.p1 ≠ 0x5357 ∨ s.rd (slotFld c.p0) ≠ slotVerified → exec (.slotSwitch tag) s = .next (s.endOpen tag stBadParam).settle) ∧
     (c.p1 = 0x5357 → s.rd (slotFld c.p0) = slotVerified → s.slotActive c.p0 = true →
       ∃ r0 : Nat, exec (.slotSwitch tag) s =
         .next (({ s with free := s.free + 1 } : State).complete tag stOK r0 0).settle) ∧
     (c.p1 = 0x5357 → s.rd (slotFld c.p0) = slotVerified → s.slotActive c.p0 = false → c.p0 < 4 →
       ∃ x : State, exec (.slotSwitch tag) s = .next (x.complete tag stOK (x.rd FLASH.JOURNAL_SEQ) 0).settle ∧
         x.rd FLASH.SLOTS_ACTIVE = c.p0 ∧
         x.rd FLASH.JOURNAL_SEQ = ((s.lastJournal.map fun l => l.2.1).getD 0 + 1) % 2 ^ 32 ∧
         (∀ a, 0x20000 ≤ a → x.flashBytes a 1 = s.flashBytes a 1) ∧
         Safety.regsBut [FLASH.SLOTS_ACTIVE, FLASH.JOURNAL_SEQ] s x ∧ x = { s with regs := x.regs, flash := x.flash })) ∧
   (∀ s : State, (s.flag FLASH.STAT_BUSY && s.flag FLASH.STAT_SUSPEND) = true →
     (s.flashRead).rd FLASH.SUSPENDS_COUNT = satAdd (2 ^ FLASH.SUSPENDS_COUNT.wid - 1) (s.rd FLASH.SUSPENDS_COUNT) 1 ∧
     Safety.only [FLASH.SUSPENDS_COUNT] s s.flashRead) ∧
   (∀ s : State, (s.flag FLASH.STAT_BUSY && s.flag FLASH.STAT_SUSPEND) = false → s.flashRead = s) ∧
   ∀ (tag : Fin 64) (s : State) (c : Cmd), s.cmd? tag = some c → s.flashFree c 0x24 = true → s.flashHeld = false →
     (s.rd FLASH.STAT_SIZE_MIB * 0x100000 < c.p0 + c.p2 →
       exec (.readToSram tag) s = .next (s.flashRead.endOpen tag stBadParam).settle) ∧
     (c.p0 + c.p2 ≤ s.rd FLASH.STAT_SIZE_MIB * 0x100000 → s.sramUe = [] →
       ∃ x : State, exec (.readToSram tag) s = .next (x.complete tag stOK c.p2 0).settle ∧
         (∀ i, i < c.p2 → x.byte .sram (c.p1 + i) = (s.flashBytes (c.p0 + i) 1).getD 0 0) ∧
         (∀ a, (a < c.p1 ∨ c.p1 + c.p2 ≤ a) → x.byte .sram a = s.byte .sram a) ∧
         Safety.regsBut [CORE.ECC_CE_SRAM] s.flashRead x ∧
         x = { s with regs := x.regs, sram := x.sram, sramCe := x.sramCe }))

/-- R272, R276, R277: a record that fits in the open sector takes the next SEQ and the bytes behind the last record, and
no other byte of flash changes; a DELTA record moves the accumulators' whole units into the totals, so that no counter
changes. R277, R279, R295, R297: READ_COUNTERS copies the counter set to SRAM; EXPORT copies the whole records from a SEQ on
that fit; COMMIT_NOW commits the buffer and what has accumulated; one buffered record, or a DELTA record, is committed
by itself, and while a compaction erases the one suspends the erase or waits for it, the other waits; a compaction commits the
buffer and a SNAPSHOT and then erases sector after sector, each counted in the erase table, none of which has a valid header once
its erase begins, and is counted when it ends. None of these touches flash below the ledger's region. -/
def Obligations.Ledger : Prop :=
  ((∀ (s : State) (ty on k : Nat) (payload : List Nat), s.led.sector = some k → s.led.off + payload.length + 20 ≤ 0x10000 →
     let r := mkRecord ty (s.rd LEDGER.SEQ_SEQ + 1) on payload
     let a := s.sectorBase k + s.led.off
     ∃ x : State, s.commitRecord ty on payload = some x ∧ x.rd LEDGER.SEQ_SEQ = (s.rd LEDGER.SEQ_SEQ + 1) % 2 ^ 32 ∧
       x.led = { s.led with off := s.led.off + payload.length + 20 } ∧ r.length = payload.length + 20 ∧
       (∀ i, i < r.length → x.flashBytes (a + i) 1 = [((s.flashBytes (a + i) 1).getD 0 0) &&& (r.getD i 0)]) ∧
       (∀ b, (b < a ∨ a + r.length ≤ b) → x.flashBytes b 1 = s.flashBytes b 1) ∧
       Safety.regsBut [LEDGER.SEQ_SEQ, LEDGER.OLDEST_SEQ] s x ∧
       x = { s with regs := x.regs, led := x.led, flash := x.flash }) ∧
   ∀ (s : State), s.commitDelta.2 = true → ∀ k, k < 32 → s.commitDelta.1.counter k = s.counter k ∧
     Store.get 0 s.commitDelta.1.led.base k = Store.get 0 s.led.base k + s.deltaOf k) ∧
  ((∀ (tag : Fin 64) (s : State) (c : Cmd), s.cmd? tag = some c → s.mayStart c 0xF0 .ledger = true →
     s.mayWrite .ledger c.p0 128 = true → s.sramUe = [] →
     ∃ x : State, exec (.readCounters tag) s = .next (x.complete tag stOK s.onSeconds (s.rd LEDGER.SEQ_SEQ)).settle ∧
       (∀ i, i < 128 → x.byte .sram (c.p0 + i) = (counterSet s.counter).getD i 0 % 256) ∧
       (∀ a, (a < c.p0 ∨ c.p0 + 128 ≤ a) → x.byte .sram a = s.byte .sram a) ∧ Safety.regsBut [CORE.ECC_CE_SRAM] s x ∧
       x = { s with regs := x.regs, sram := x.sram, sramCe := x.sramCe }) ∧
   (∀ (tag : Fin 64) (s : State) (c : Cmd), s.cmd? tag = some c → s.mayStart c 0xF2 .ledger = true → s.flashHeld = false →
     s.sramUe = [] →
     let want := s.ledgerRecords.filter fun r => c.p0 ≤ u32 r 4
     let out := takeWhole c.p2 want
     s.mayWrite .ledger c.p1 out.flatten.length = true →
     ∃ x : State, exec (.exportRecords tag) s = .next (x.complete tag stOK out.flatten.length
         (((want.drop out.length).head?.map fun r => u32 r 4).getD 0)).settle ∧ out.flatten.length ≤ c.p2 ∧
       (∀ i, i < out.flatten.length → x.byte .sram (c.p1 + i) = out.flatten.getD i 0 % 256) ∧
       (∀ a, (a < c.p1 ∨ c.p1 + out.flatten.length ≤ a) → x.byte .sram a = s.byte .sram a) ∧
       Safety.regsBut [CORE.ECC_CE_SRAM] s.flashRead x ∧ x = { s with regs := x.regs, sram := x.sram, sramCe := x.sramCe }) ∧
   (∀ (tag : Fin 64) (s : State) (c : Cmd), s.cmd? tag = some c → s.mayStart c 0xF1 .ledger = true → s.led.compact = none →
     let y := (s.commitBuffer (appendRoom + 1)).1
     let x := if y.led.changed then y.commitDelta.1 else y
     exec (.commitNow tag) s = .next (x.complete tag stOK
       ((s.commitBuffer (appendRoom + 1)).2 + bit (y.led.changed && y.commitDelta.2)) (x.rd LEDGER.SEQ_SEQ)).settle ∧
     (∀ k, k < 32 → x.counter k = s.counter k) ∧ ∀ a, a < s.ledgerBase → x.flashBytes a 1 = s.flashBytes a 1) ∧
   (∀ s : State, s.ledgerOn = true → s.led.compact = none → exec .ledgerCommit s = .next s.commitFirst.1) ∧
   (∀ s : State, s.ledgerOn = true → s.led.buf ≠ [] → s.led.compact ≠ none →
     exec .ledgerCommit s = .next (if s.flashHeld then s else s.flashRead.commitFirst.1)) ∧
   (∀ (s x : State) (r : LedBuf) (rest : List LedBuf), s.led.buf = r :: rest → s.commitRecord r.ty r.on r.payload = some x →
     s.commitFirst = ({ x with led := { x.led with buf := rest } }, true)) ∧
   (∀ s : State, s.ledgerOn = true →
     (s.led.changed = true → s.led.compact = none → exec .deltaCommit s = .next s.commitDelta.1) ∧
     (s.led.changed = false ∨ s.led.compact ≠ none → exec .deltaCommit s = .next s)) ∧
   (∀ s : State, s.ledgerOn = true → s.rd LEDGER.STAT_MOUNTED = 1 → s.freeSectors.length ≤ 2 → s.led.compact = none →
     let y := (s.commitBuffer (appendRoom + 1)).1
     let x := (y.commitRecord 2 y.onSeconds (counterSet fun k => Store.get 0 y.led.base k)).getD y
     exec .ledgerCompaction s = .next (x.compactNext false) ∧
     (∀ k, k < 32 → x.counter k = s.counter k) ∧ (∀ a, a < s.ledgerBase → x.flashBytes a 1 = s.flashBytes a 1) ∧
     Safety.regsBut [CORE.BG_LEDGER_SPREAD, LEDGER.SEQ_SEQ, LEDGER.OLDEST_SEQ, LEDGER.STAT_FREE_SECTORS] s x ∧
     x = { s with regs := x.regs, led := x.led, flash := x.flash }) ∧
   (∀ (s : State) (v : Compaction), s.led.compact = some v →
     ∃ x : State, exec .sectorEraseDone s = .next (x.compactNext v.oldest) ∧
       (∀ b, x.flashBytes b 1 =
         if s.sectorBase v.sector ≤ b ∧ b < s.sectorBase v.sector + 0x10000 then [0xFF] else s.flashBytes b 1) ∧
       x.led = { s.led with erases := s.led.erases.modify v.sector (· + 1) } ∧
       Safety.regsBut [CORE.BG_LEDGER_SPREAD, LEDGER.STAT_FREE_SECTORS] s x ∧
       x = { s with regs := x.regs, led := x.led, flash := x.flash }) ∧
   ∀ (s : State) (o : Bool), ∃ x : State, s.compactNext o = x ∧ x.led = { s.led with compact := x.led.compact } ∧
     (x.led.compact = none →
       x.rd CORE.BG_LEDGER_COMPACTIONS = satAdd 65535 (s.rd CORE.BG_LEDGER_COMPACTIONS) 1 ∧ x.rd FLASH.STAT_BUSY = bit s.fl.job.isSome ∧
       Safety.only [CORE.BG_LEDGER_COMPACTIONS, FLASH.STAT_BUSY] { s with led := x.led, chans := x.chans } x) ∧
     ∀ v : Compaction, x.led.compact = some v →
       v.sector < 16 ∧ x.sectorHead v.sector = none ∧ x.rd FLASH.STAT_BUSY = 1 ∧
       (o = true → 4 ≤ s.freeSectors.length → s.sectorHead v.sector = none ∧ s.sectorFree v.sector = false) ∧
       (∀ b, (b < s.sectorBase v.sector ∨ s.sectorBase v.sector + 16 ≤ b) → x.flashBytes b 1 = s.flashBytes b 1) ∧
       Safety.regsBut [LEDGER.OLDEST_SEQ, FLASH.STAT_BUSY] s x ∧
       x = { s with regs := x.regs, led := x.led, flash := x.flash, chans := x.chans })

/-! ### Block mover -/

/-- R236, R237, R240, R247: what ends a channel's work. IDLE takes the owner and everything of the chain; an error shows
its cause, its address and the descriptor, stops a register-owned channel in ERROR and completes a MOVE; a chain's end
parks a register-owned channel and completes a MOVE OK. R228, R236 to R244: GO starts the chain at HEAD on an idle
channel, STOP ends it and CLEAR ends an error, with the fields of CHn_CTRL taken; APPEND counts on a running channel,
has a parked one read LINK again, and is ignored on any other; MOVE takes a free channel; a descriptor is checked as
it starts, and at its end the channel reads LINK. -/
def Obligations.Channels : Prop :=
  ((∀ (s : State) (k : Fin 16), (s.chanIdle k).rd (MOVER.CH_STATE_STATE k) = chIdle ∧ (s.chanIdle k).rd (MOVER.CH_STATE_OWNER k) = 0 ∧
     Safety.only [MOVER.CH_STATE_STATE k, MOVER.CH_STATE_OWNER k] { s with chans := s.chans.modify k fun _ => {} } (s.chanIdle k)) ∧
   (∀ (s : State) (k : Fin 16) (cause d a : Nat), cause < 16 → d < 2 ^ 32 → a < 2 ^ 32 →
     ∃ x : State, x.rd (MOVER.CH_STATE_CAUSE k) = cause ∧ x.rd (MOVER.CH_ERR_ADDR_ADDR k) = a ∧ x.rd (MOVER.CH_CUR_ADDR k) = d ∧
       Safety.only [MOVER.CH_STATE_CAUSE k, MOVER.CH_ERR_ADDR_ADDR k, MOVER.CH_CUR_ADDR k] s x ∧
       (∀ t, (s.chan k).tag = some t → s.chanError k cause d a = (x.chanIdle k).complete t
         (if (s.chan k).wrote then stTorn else moveStatus cause) (s.chan k).ended (moveResult cause d)) ∧
       ((s.chan k).tag = none → (s.chanError k cause d a).rd (MOVER.CH_STATE_STATE k) = chError ∧
         (s.chanError k cause d a).rdBit MOVER.EVT_ERR_CH k = true ∧
         Safety.only [MOVER.CH_STATE_STATE k, MOVER.EVT_ERR_CH, VEC.PENDING_PENDING] x (s.chanError k cause d a))) ∧
   ∀ (s : State) (k : Fin 16),
     (∀ t, (s.chan k).tag = some t → (s.chan k).poisonAt = none →
       s.chainEnd k = (s.chanIdle k).complete t stOK (s.chan k).ended 0) ∧
     (∀ t d, (s.chan k).tag = some t → (s.chan k).poisonAt = some d →
       s.chainEnd k = (s.chanIdle k).complete t stEcc (s.chan k).ended (moveResult cPoisoned d)) ∧
     ((s.chan k).tag = none → (s.chainEnd k).rd (MOVER.CH_STATE_STATE k) = chParked ∧
       Safety.only [MOVER.CH_STATE_STATE k, MOVER.EVT_PARK_CH, VEC.PENDING_PENDING] s (s.chainEnd k) ∧
       (s.rd (MOVER.CH_CTRL_PARK_EV k) = 1 → (s.chainEnd k).rdBit MOVER.EVT_PARK_CH k = true))) ∧
  ((∀ (k : Fin 16) (w : Word) (s : State), Safety.takes s .mover →
     ∃ x : State, x.rd (MOVER.CH_CTRL_WEIGHT k) = max 1 (min 8 (field w 4 4)) ∧ x.rd (MOVER.CH_CTRL_ECC_MODE k) = field w 8 1 ∧
       x.rd (MOVER.CH_CTRL_PARK_EV k) = field w 9 1 ∧
       Safety.only [MOVER.CH_CTRL_WEIGHT k, MOVER.CH_CTRL_ECC_MODE k, MOVER.CH_CTRL_PARK_EV k] s.idleRestart x ∧
       let g := if field w 0 1 = 1 then x.chanGo k else x
       let p := if field w 1 1 = 1 then g.chanStop k else g
       let q := if field w 2 1 = 1 then p.chanClear k else p
       exec (.go k w) s = .next (if field w 0 1 = 1 then q.settle else s) ∧
       exec (.stop k w) s = .next (if field w 1 1 = 1 then q.settle else s) ∧
       exec (.clear k w) s = .next (if field w 2 1 = 1 then q.settle else s)) ∧
   (∀ (k : Fin 16) (s : State),
     (s.chState k = chIdle → s.ready .mover = true → s.chanGo k = s.startChain k (32 * s.rd (MOVER.CH_HEAD_ADDR k)) 1 {}) ∧
     (s.chState k ≠ chIdle ∨ s.ready .mover = false → s.chanGo k = s) ∧
     (s.rd (MOVER.CH_STATE_OWNER k) ≠ 2 → s.chState k = chRun → s.chanStop k = (s.interrupt k).chanIdle k) ∧
     (s.rd (MOVER.CH_STATE_OWNER k) ≠ 2 → s.chState k = chParked → s.chanStop k = s.chanIdle k) ∧
     (s.rd (MOVER.CH_STATE_OWNER k) = 2 ∨ s.chState k = chIdle ∨ s.chState k = chError → s.chanStop k = s) ∧
     s.chanClear k = if s.chState k = chError then s.chanIdle k else s) ∧
   (∀ (k : Fin 16) (s : State), Safety.takes s .mover →
     (s.rd (MOVER.CH_STATE_OWNER k) = 2 ∨ s.chState k = chIdle ∨ s.chState k = chError →
       ∃ x : State, exec (.append k) s = .next x.settle ∧ x.rd (MOVER.CH_STATE_APPEND_IGNORED k) = 1 ∧
         Safety.only [MOVER.CH_STATE_APPEND_IGNORED k] s.idleRestart x) ∧
     (s.rd (MOVER.CH_STATE_OWNER k) ≠ 2 → s.chState k = chRun →
       ∃ x : State, exec (.append k) s = .next x.settle ∧
         x.rd (MOVER.CH_STATE_APPEND_COUNT k) = satAdd 255 (s.rd (MOVER.CH_STATE_APPEND_COUNT k)) 1 ∧
         Safety.only [MOVER.CH_STATE_APPEND_COUNT k] s.idleRestart x) ∧
     (s.rd (MOVER.CH_STATE_OWNER k) ≠ 2 → s.chState k = chParked → s.sramUe = [] → s.sramCe = [] →
       s.word32 .sram (s.rd (MOVER.CH_CUR_ADDR k) + 0x1C) % 32 = 0 → s.word32 .sram (s.rd (MOVER.CH_CUR_ADDR k) + 0x1C) < 2 ^ 23 →
       ∃ x : State, exec (.append k) s = .next (x.startDesc k (s.word32 .sram (s.rd (MOVER.CH_CUR_ADDR k) + 0x1C))).settle ∧
         x.rd (MOVER.CH_REREADS_COUNT k) = satAdd 65535 (s.rd (MOVER.CH_REREADS_COUNT k)) 1 ∧
         Safety.only [MOVER.CH_REREADS_COUNT k] s.idleRestart x)) ∧
   (∀ (tag : Fin 64) (s : State) (c : Cmd) (k : Nat), s.cmd? tag = some c → c.op = 0x30 → s.awake = true →
     s.ready .mover = true → s.nextMove = some tag → s.moveChan c = some k →
     exec (.move tag) s =
       .next ((s.start tag).startChain k c.p0 2 { tag := some tag, poison := c.p1.testBit 9 }).settle) ∧
   (∀ (k : Fin 16) (a : Nat) (s : State), a % 32 = 0 → inSram a 32 = true → s.sramUe = [] → s.descCause a = none → k < s.chans.length →
     (s.startDesc k a).rd (MOVER.CH_CUR_ADDR k) = a ∧ (s.startDesc k a).rd (MOVER.CH_PROGRESS_LINE k) = 0 ∧
     (s.startDesc k a).chState k = chRun ∧ ((s.startDesc k a).chan k).desc = s.descAt a ∧
     Safety.only [MOVER.CH_CUR_ADDR k, MOVER.CH_PROGRESS_LINE k, MOVER.CH_STATE_STATE k, CORE.ECC_CE_SRAM]
       { s with chans := s.chans.modify k fun c =>
           { c with desc := s.descAt a, stuck := (s.descAt a).fromFlash && s.flashHeld } } (s.startDesc k a)) ∧
   (∀ (k : Fin 16) (a : Nat) (s : State), (a % 32 ≠ 0 ∨ inSram a 32 = false) → s.startDesc k a = s.chanError k cDescAddr a a) ∧
   ∀ (k : Fin 16) (s : State), s.awake = true → s.chState k = chRun → s.flashWaits (s.chan k).desc = false →
     let r := s.runBursts k (s.chan k).desc.bursts
     (r.2 = none → exec (.descriptorEnd k) s = .next ((r.1.descEnded k).readLink k 2).settle) ∧
     ∀ e, r.2 = some e → exec (.descriptorEnd k) s = .next (r.1.chanError k e.1 (r.1.rd (MOVER.CH_CUR_ADDR k)) e.2).settle)

/-- R229 to R235: a descriptor of one line from SRAM to SRAM copies every byte of it, where no word holds an error and no band
or image protects the destination; and whatever the descriptor, a transfer changes no byte of flash or keep RAM, and no byte
of main SRAM outside the lines of its destination. -/
def Obligations.TransferCopies : Prop :=
  (∀ (s : State) (d : Desc) (p : Bool) (n : Nat), d.count = 1 → d.fill = false → d.src + d.len ≤ 0x600000 → d.dst + d.len ≤ 0x600000 →
    (d.dst + d.len ≤ d.src ∨ d.src + d.len ≤ d.dst) → s.sramUe = [] → s.isProtected d.dst d.len = false → d.bursts ≤ n →
    let x := s.transfer d p n
    x.stop = none ∧ ∀ i, i < d.len → x.s.byte .sram (d.dst + i) = s.byte .sram (d.src + i)) ∧
  ∀ (s : State) (d : Desc) (p : Bool) (n : Nat), (∀ i : Nat, i < d.count → 0 ≤ (d.dst : Int) + i * d.dstStride) →
    (∀ a, (s.transfer d p n).s.flashBytes a 1 = s.flashBytes a 1) ∧ (∀ a, (s.transfer d p n).s.byte .keep a = s.byte .keep a) ∧
    ∀ a : Nat, (∀ i : Nat, i < d.count → (a : Int) < d.dst + i * d.dstStride ∨ d.dst + i * d.dstStride + d.len ≤ (a : Int)) →
      (s.transfer d p n).s.byte .sram a = s.byte .sram a

/-! ### Receipts -/

/-- R185, R344 to R347: a scan of the store keeps the resources that pass every check and counts the rest; a full commit of
RES_WIN starts the check of a registration or removes an entry, a partial one ends PARTIAL, and one while a check runs
changes nothing; a registration's check ends with its result, and one that passes takes the entry's place in the table. -/
def Obligations.RasterResources : Prop :=
  (∀ s : State, s.awake = true → s.ready .flash = true → s.imageApplied = true → s.flashHeld = false →
    let b := s.storeBase
    let n := leNat (s.flashBytes (b + 4) 2)
    let head := s.flashBytes b 12
    let ok := leNat (head.take 4) == 0x4453424D && n ≤ 255 && leNat ((head.drop 6).take 2) == 1 && leNat (head.drop 8) == 0 &&
      crc32 (head ++ s.flashBytes (b + 0x10) (16 * n)) == leNat (s.flashBytes (b + 12) 4)
    ∃ x : State, exec .storeScan s = .next x.settle ∧
      (ok = false → x.rd RASTER.STAT_STORE = 3 ∧ x.rd RASTER.STAT_STORE_ENTRIES = 0 ∧
        x.rd RASTER.STAT_STORE_REJECTED = 0 ∧ x.raster.store = []) ∧
      (ok = true → x.rd RASTER.STAT_STORE = 2 ∧ x.rd RASTER.STAT_STORE_ENTRIES = x.raster.store.length ∧
        x.rd RASTER.STAT_STORE_REJECTED + x.raster.store.length = n ∧
        ∀ r ∈ x.raster.store, (r.ty = 1 ∨ r.ty = 2) ∧ r.addr + r.len ≤ s.storeEnd ∧ s.checkRes r = 0) ∧
      Safety.only [RASTER.STAT_STORE, RASTER.STAT_STORE_ENTRIES, RASTER.STAT_STORE_REJECTED]
        { s.flashRead with raster := { s.raster with store := x.raster.store } } x) ∧
  (∀ (s : State) (r : Nat), r < 16 → (s.resResult r).rd RASTER.RES_STAT_RESULT = r ∧ (s.resResult r).rd RASTER.RES_STAT_DONE = 1 ∧
    (s.resResult r).rd RASTER.RES_STAT_PENDING = 0 ∧
    Safety.only [RASTER.RES_STAT_PENDING, RASTER.RES_STAT_RESULT, RASTER.RES_STAT_DONE, VEC.PENDING_PENDING] s (s.resResult r)) ∧
  (∀ (w : Word) (s : State), Safety.takes s .raster → s.rd RASTER.RES_STAT_PENDING = 0 → s.raster.win.w0 < 2 ^ 31 →
    let t := { s.idleRestart with raster := { s.raster with win := {} } }
    (s.raster.win.mask ||| 8 ≠ 15 → exec (.resRegister w) s = .next (t.resResult 1)) ∧
    (s.raster.win.mask ||| 8 = 15 →
      ∃ x : State, exec (.resRegister w) s = .next x ∧ x.rd RASTER.RES_STAT_PENDING = 1 ∧
        x.raster.checking = some
          { ty := s.raster.win.w0 / 65536 % 256, id := s.raster.win.w0 % 65536,
            store := s.raster.win.w0 / 2 ^ 24 != 0 || w.toNat != 0, addr := s.raster.win.w1, len := s.raster.win.w2 } ∧
        Safety.only [RASTER.RES_STAT_PENDING] { t with raster := { t.raster with checking := x.raster.checking } } x)) ∧
  (∀ (w : Word) (s : State), Safety.takes s .raster → s.rd RASTER.RES_STAT_PENDING = 0 → s.raster.win.w0 / 2 ^ 31 = 1 →
    s.raster.win.mask ||| 8 = 15 →
    let keep := s.raster.table.filter fun r => !(r.ty == s.raster.win.w0 / 65536 % 256 && r.id == s.raster.win.w0 % 65536)
    let t := { s.idleRestart with raster := { s.raster with win := {} } }
    let clean := s.raster.win.w0 / 2 ^ 24 % 128 == 0 && s.raster.win.w1 < 2 ^ 23 && w == 0#32
    (clean = false → exec (.resRemove w) s = .next (t.resResult 2)) ∧
    (clean = true → keep.length = s.raster.table.length → exec (.resRemove w) s = .next (t.resResult 6)) ∧
    (clean = true → keep.length ≠ s.raster.table.length → keep.length < 64 →
      ∃ x : State, exec (.resRemove w) s = .next (x.resResult 0) ∧ x.rd RASTER.STAT_RES_USED = keep.length ∧
        Safety.only [RASTER.STAT_RES_USED] { t with raster := { t.raster with table := keep } } x)) ∧
  (∀ (w : Word) (s : State), Safety.takes s .raster → s.rd RASTER.RES_STAT_PENDING = 1 →
    exec (.resRegister w) s = .next (if s.raster.win.w0 / 2 ^ 31 = 0 then s.idleRestart else s) ∧
    exec (.resRemove w) s = .next (if s.raster.win.w0 / 2 ^ 31 = 1 then s.idleRestart else s)) ∧
  ∀ (s : State) (r : Res), s.raster.checking = some r →
    let t := { s with raster := { s.raster with checking := none } }
    let others := s.raster.table.filter fun x => !(x.ty == r.ty && x.id == r.id)
    let place := !(r.store || !(r.ty == 1 || r.ty == 2) || r.addr % 4 != 0 || !s.rasterRange r.addr r.len)
    (place = false → exec .registrationDone s = .next (t.resResult 2)) ∧
    let u := (t.readMem .sram r.addr r.len).1
    (place = true → s.checkRes r ≠ 0 → exec .registrationDone s = .next (u.resResult (s.checkRes r))) ∧
    (place = true → s.checkRes r = 0 → 32 ≤ others.length → exec .registrationDone s = .next (u.resResult 5)) ∧
    (place = true → s.checkRes r = 0 → others.length < 32 →
      ∃ x : State, exec .registrationDone s = .next (x.resResult 0) ∧ x.rd RASTER.STAT_RES_USED = others.length + 1 ∧
        Safety.only [RASTER.STAT_RES_USED] { u with raster := { u.raster with table := others ++ [r] } } x)

/-- R327, R329, R348, R349, R356, R358, R360, R361, R383: a RECEIPT starts with RASTER's check pass, which fixes its shift and the
registrations and store contents that it uses. An item that fails ends it with the
cause; a resource that may yet come from flash is waited for; a script that passes makes the RECEIPT a job with its bands and
its shift; and a band, its items read and checked again, is drawn into its own bank and committed, with its lines, speed and
darkness, or stops the rendering with the item; a rendering that stops behind a committed band leaves the committed ones. -/
def Obligations.CheckPassAndBands : Prop :=
  (∀ (tag : Fin 64) (s : State) (c : Cmd), s.cmd? tag = some c → c.op = 0x60 → c.started = false → s.running = true →
    s.ready .raster = true → s.firstIn tag .raster = true → s.rd RASTER.STAT_STATE = 0 →
    let canvas := if (s.scriptReader c.p0).w16 0x0C = 0 then s.rd RASTER.CFG_HEAD_DOTS else (s.scriptReader c.p0).w16 0x0C
    let sh := s.chooseShift canvas (s.scriptReader c.p0 6 % 2 == 1)
    (s.mayRead .raster c.p0 c.p1 = true →
      ∃ (x : State) (b : CheckStart), exec (.receipt tag) s = .next x.settle ∧ x.rd RASTER.STAT_STATE = 1 ∧
        b = { tag := tag, table := s.raster.table, shift := sh.1,
              store := if s.rd RASTER.STAT_STORE = 2 then some s.raster.store else none } ∧
        x.rdI RASTER.SHIFT_LAST = ofBits 8 (toBits 8 sh.1) ∧ x.rd RASTER.SHIFT_SMAX = sh.2 ∧
        x.rd RASTER.SHIFT_NO_LEDGER = bit (!s.ready .ledger) ∧
        Safety.only [RASTER.STAT_STATE, RASTER.SHIFT_LAST, RASTER.SHIFT_SMAX, RASTER.SHIFT_NO_LEDGER]
          { s.start tag with raster := { s.raster with begun := some b } } x) ∧
    (s.mayRead .raster c.p0 c.p1 = false →
      exec (.receipt tag) s = .next ((s.refuseRead .raster c.p0 c.p1 tag).stopRaster).settle)) ∧
  (∀ (s : State) (off : Nat), (s.waitFlash off).rd RASTER.STAT_STATE = 4 ∧
    Safety.only [RASTER.STAT_STATE] { s with raster := { s.raster with waitAt := off } } (s.waitFlash off)) ∧
  (∀ (s : State) (c : Cmd) (b : CheckStart), (s.cmds.find? fun c => c.rods.contains .raster) = some c → s.raster.begun = some b →
    s.awake = true → c.started = true → c.op = 0x60 → s.job? c.tag = none → b.tag = c.tag →
    let res := s.resNow b
    let r := s.readsOf c.p0 c.p1 res 0 c.p1
    let p := s.plan c.p0 c.p1 res r
    let t := s.makeReads c.p0 r
    (∀ off, s.flashWait r p = some off → exec .checkPass s = .next (s.waitFlash off)) ∧
    (s.flashWait r p = none →
      (∀ off cause, p.err = some (off, cause) → off < 2 ^ 18 → cause < 16 →
        ∃ x : State, exec .checkPass s = .next (x.complete c.tag (causeStatus cause) 0 0).settle ∧
          x.rd RASTER.ERR_OFFSET = off ∧ x.rd RASTER.ERR_CAUSE = cause ∧ x.rd RASTER.STAT_STATE = 0 ∧
          Safety.only [RASTER.ERR_OFFSET, RASTER.ERR_CAUSE, RASTER.STAT_STATE] t x) ∧
      (p.err = none →
        ∃ (j : Job) (x : State), j.tag = c.tag ∧ j.canvas = p.canvas ∧ j.bands = p.bands.length ∧ j.res = res ∧ j.committed = 0 ∧
          j.stage = .render ∧ j.shift = b.shift ∧ j.plan = p.bands.map (fun b => (b.lines, b.lastOff)) ∧
          x = { t with print := { s.print with jobs := s.print.jobs ++ [j] } } ∧
          (p.bands = [] → exec .checkPass s = .next ((x.count cntReceipts).endReceipt c.tag stOK 0 j.okR1).settle) ∧
          (p.bands ≠ [] → ∃ y z : State, exec .checkPass s = .next z.settle ∧ y.rd RASTER.STAT_STATE = 2 ∧
            Safety.only [RASTER.STAT_STATE] x y ∧ Safety.only [PRINT.STAT_STATE] y.takeSlot z)))) ∧
  (∀ (s : State) (j : Job) (i : Nat) (b : BandPlan), i < 3 → b.lines < 8192 → s.raster.slots.length = 3 →
    let x := s.commitBand j i b
    x.rd (bandState i) = 2 ∧ x.rd (bandLines i) = b.lines ∧ (x.raster.slots.getD i {}).speed = b.speed ∧
    (x.raster.slots.getD i {}).dark = b.dark ∧ (∀ k, k < 3 → k ≠ i → x.rd (bandState k) = s.rd (bandState k)) ∧
    x.rd RASTER.STAT_STATE = (if j.committed + 1 = j.bands then
      (if (s.cmd? j.tag).any (fun c => c.rods.contains .raster) then 0 else s.rd RASTER.STAT_STATE) else 2) ∧
    (∀ t, t ≠ j.tag → x.job? t = s.job? t) ∧
    (16 * s.rd RASTER.CFG_LINE_WORDS * b.lines ≤ bankSize → (∀ k, k < b.lines → (b.lineBytes j.canvas (16 * s.rd RASTER.CFG_LINE_WORDS) j.x0 k).length = 16 * s.rd RASTER.CFG_LINE_WORDS) →
      ∀ a, (a < s.rd (bandBank i) * bankSize ∨ (s.rd (bandBank i) + 1) * bankSize ≤ a) → x.byte .sram a = s.byte .sram a)) ∧
  (∀ (s : State) (j : Job) (off cause : Nat), off < 2 ^ 18 → cause < 16 → 0 < j.committed →
    let x := s.renderStop j off cause
    x.rd RASTER.ERR_OFFSET = off ∧ x.rd RASTER.ERR_CAUSE = cause ∧
    ((s.cmd? j.tag).any (fun c => c.rods.contains .raster) = true → x.rd RASTER.STAT_STATE = 0) ∧
    (∀ i, i < 3 → s.rd (bandState i) ≠ 1 → x.rd (bandState i) = s.rd (bandState i)) ∧
    (∀ k, s.job? j.tag = some k → x.job? j.tag = some { k with failed := some cause })) ∧
  ∀ (s : State) (j : Job) (i : Nat) (c : Cmd), s.awake = true →
    (s.print.jobs.find? fun j => j.committed < j.bands && j.failed == none &&
      (s.slotsOf j.tag).any fun i => s.rd (bandState i) == 1) = some j →
    ((s.slotsOf j.tag).find? fun i => s.rd (bandState i) == 1) = some i → s.cmd? j.tag = some c →
    let w := j.bandItems j.committed c.p1
    let r := s.readsOf c.p0 c.p1 j.res w.1 w.2
    let p := s.plan c.p0 c.p1 j.res r
    let t := s.makeReads c.p0 r
    (∀ off, r.storeItem = some off → (s.ready .flash = false ∨ s.flashHeld = true) →
      exec .bandCommit s = .next (s.waitFlash off)) ∧
    (r.storeItem = none ∨ (s.ready .flash = true ∧ s.flashHeld = false) →
      (∀ off cause, p.err = some (off, cause) → off ≤ w.2 →
        exec .bandCommit s = .next (t.renderStop j off (if cause = causeEcc then causeEcc else causeChanged)).settle) ∧
      ((∀ off cause, p.err = some (off, cause) → w.2 < off) →
        (p.bands[j.committed]? = none → exec .bandCommit s = .next (t.renderStop j w.1 causeChanged).settle) ∧
        (∀ b, p.bands[j.committed]? = some b → t.bandBad (t.rd (bandBank i)) b.lines = none →
          exec .bandCommit s = .next (t.commitBand j i b).settle) ∧
        ∀ b y, p.bands[j.committed]? = some b → t.bandBad (t.rd (bandBank i)) b.lines = some y →
          exec .bandCommit s = .next ((t.readMem .sram (t.rd (bandBank i) * bankSize)
            (16 * t.rd RASTER.CFG_LINE_WORDS * b.lines)).1.renderStop j (b.itemOf y) causeEcc).settle))

/-- R97, R384 to R386: a tear ends the firing, takes every strobe away, releases the RECEIPT's bands, shows the cause and
counts; a line that has begun to fire counts among those printed; of causes that arise together the lowest is shown; the RECEIPT
completes TORN once the paper is at rest. A RECEIPT's end releases its bands, closes the record opened for
it and takes it off the jobs. -/
def Obligations.TearsAndEnds : Prop :=
  (∀ (s : State) (cause : Nat) (stop : Bool), s.printing? = none →
    ((∀ j ∈ s.print.jobs, j.justTorn = false) → s.tear cause stop = s) ∧
    ∀ j, s.print.jobs.find? (·.justTorn) = some j →
      (j.cause ≤ cause → s.tear cause stop = s) ∧
      (cause < j.cause → cause < 16 →
        (s.tear cause stop).rd PRINT.TEAR_CAUSE = cause ∧ ((s.tear cause stop).job? j.tag).map (·.cause) = some cause ∧
        Safety.only [PRINT.TEAR_CAUSE] { s with print := (s.tear cause stop).print } (s.tear cause stop))) ∧
  (∀ (s : State) (cause : Nat) (stop : Bool) (j : Job), s.printing? = some j → s.job? j.tag = some j → cause < 16 →
    s.raster.slots.length = 3 → (∀ f, s.print.firing = some f → ∀ p ∈ f.passes, ∀ e ∈ p.power, e.1 < 16) →
    let x := s.tear cause stop
    x.rd PRINT.TEAR_CAUSE = cause ∧ x.rd PRINT.TEAR_BAND_SEQ = min 255 j.band ∧
    x.rd PRINT.TEAR_LINES_BAND = min 65535 (j.linesBand + bit s.lineBegun) ∧ x.rd PRINT.STAT_STATE = 3 ∧ x.rd PRINT.EVT_TORN = 1 ∧
    x.rd PRINT.STAT_BACKLOG = 0 ∧ x.print.firing = none ∧ x.print.strobes = 0 ∧ x.slotsOf j.tag = [] ∧
    (x.job? j.tag).map (·.stage) = some .torn ∧ (x.job? j.tag).map (·.cause) = some cause ∧
    (x.job? j.tag).map (·.lines) = some (j.lines + bit s.lineBegun) ∧ (x.job? j.tag).map (·.justTorn) = some true ∧
    (stop = false → x.feed = s.feed) ∧ (stop = true → s.feed.job ≠ .none → x.feed.job = .stop ∧ x.rd FEED.STAT_STATE = 2) ∧
    x.led.base = s.led.base ∧ Store.get 0 x.led.acc cntTorn = Store.get 0 s.led.acc cntTorn + 1 ∧
    (∀ a, x.byte .sram a = s.byte .sram a) ∧ x.otp = s.otp ∧ x.base = s.base) ∧
  (∀ (s : State) (t : Nat) (j : Job), s.job? t = some j → s.endTorn t = s.endReceipt t stTorn j.lines j.tornR1) ∧
  ∀ (s : State) (t st r0 r1 : Nat), s.raster.slots.length = 3 →
    ∃ x : State, s.endReceipt t st r0 r1 = x.complete t st r0 r1 ∧ x.job? t = none ∧ x.slotsOf t = [] ∧
      x.rd CORE.BG_HEAD_SINCE = satAdd 255 (s.rd CORE.BG_HEAD_SINCE) 1 ∧ x.print.lastReceipt = s.clock ∧ x.cmds = s.cmds ∧
      (∀ j, s.job? t = some j → j.stage ≠ .render → x.recState = recDone) ∧
      (∀ u, u ≠ t → x.job? u = s.job? u) ∧ ∀ a, x.byte .sram a = s.byte .sram a

/-- R364 to R367, R372, R375, R377, R378, R380, R288: the line timer takes a line trigger and sets the speed of the next period; a
shift's end asserts the pass's strobes, with what the head inputs have shifted in, a slice's end goes to the next slice and its
pattern, and a pass's end counts its energy and goes to the next pass, or ends the line. A line's end shows its time and passes, moves the cap level and the history, and lets the FRC's
trim take the step that has waited for it. -/
def Obligations.LinesAndPasses : Prop :=
  (∀ (m : LineSample) (s : State), s.awake = true → s.encLocked = false → s.printing?.any (·.stage == .print) = true →
    0 < s.print.toTrigger → s.feed.job = .lines → s.feed.dwell = false →
    ∃ x y : State, exec (.lineTimer m) s = .next y.settle ∧
      x.print = { s.print with period := x.print.period } ∧
      (s.print.period ≠ 0 → min s.print.period s.periodGoal ≤ x.print.period ∧
        x.print.period ≤ max s.print.period s.periodGoal) ∧
      x.feed = { s.feed with setUm := s.pitchSpeed x.print.period } ∧
      Safety.only [FEED.SPEED_SET, FEED.SPEED_MEAS] { s with print := x.print, feed := x.feed } x ∧
      ((x.trigger m).feed.job = .lines → y.feed.due = (x.trigger m).feed.due + u16 ((x.trigger m).beadD 0x0804 []) 2) ∧
      y = { x.trigger m with feed := y.feed }) ∧
  (∀ (s : State) (f : Firing) (p : Pass), s.print.firing = some f → f.passes[f.pass]? = some p →
    (f.strobed = false → exec .shiftEnd s = .next { s with
      print := { s.print with firing := some { f with strobed := true, slice := 0 }, strobes := p.groups,
                               shifted := s.serial (s.pattern p 0) } }) ∧
    (f.strobed = true → f.slice + 1 < p.ends.length → exec .sliceEnd s = .next { s with
      print := { s.print with firing := some { f with slice := f.slice + 1 }, shifted := s.serial (s.pattern p (f.slice + 1)) } })) ∧
  (∀ (s : State) (l : List Bool), s.serial l =
    (if s.flag PRINT.CFG_INPUTS2 then [l.take (s.dots / 2), l.drop (s.dots / 2)] else [l]).map
      (if s.flag PRINT.CFG_SHIFT_DIR then id else List.reverse)) ∧
  (∀ (m : LineSample) (s : State) (f : Firing) (p : Pass) (j : Job), s.print.firing = some f → s.printing? = some j →
    f.passes[f.pass]? = some p → f.strobed = true → f.slice + 1 = p.ends.length →
    let y := s.addEnergy p fun k => p.ends.getD k 0
    let f' : Firing := { f with pass := f.pass + 1, slice := 0, strobed := false }
    (f.pass + 1 < f.passes.length → exec (.passEnd m) s =
      .next { y with print := { s.print with firing := some f', strobes := 0 } }) ∧
    (f.passes.length ≤ f.pass + 1 → exec (.passEnd m) s = .next ((y.lineEnd j.tag f').fireHeld j.tag m 16).settle)) ∧
  (∀ (m : LineSample) (s : State) (t : Nat), (s.fireHeld t m 0 = s) ∧
    (s.print.firing.isSome = true ∨ s.rd PRINT.STAT_BACKLOG = 0 ∨ s.printing? = none → s.fireHeld t m 16 = s)) ∧
  ∀ (s : State) (t : Nat) (f : Firing), f.passes.length < 16 → s.print.line + 1 < s.rd (bandLines s.print.slot) →
    let x := s.lineEnd t f
    x.rd PRINT.LINE_STAT_LINE_TIME = min 16777215 f.ticks ∧ x.rd PRINT.LINE_STAT_PASSES = f.passes.length ∧
    x.rd PRINT.STAT_CAP_LEVEL = (if s.print.floorLine then min 3 (s.rd PRINT.STAT_CAP_LEVEL + 1)
      else if s.rd PRINT.CAP_FLOOR_HOLD ≤ s.print.floorRun + 1 then s.rd PRINT.STAT_CAP_LEVEL - 1
      else s.rd PRINT.STAT_CAP_LEVEL) ∧
    x.print.firing = none ∧ x.print.strobes = 0 ∧ x.print.hist1 = f.dots ∧ x.print.hist2 = s.print.hist1 ∧
    x.print.line = s.print.line + 1 ∧ x.print.floorLine = false ∧ x.print.lastTicks = f.ticks ∧
    x.bg.trimStep = 0 ∧ x.rdI CORE.BG_CAL_FRC_TRIM = clampInt (-128) 127 (s.rdI CORE.BG_CAL_FRC_TRIM + s.bg.trimStep) ∧
    Store.get 0 x.led.acc cntLines = Store.get 0 s.led.acc cntLines + 1

/-- R365 to R376: what a line's computation may give. The slices of a pass end one after
another, T_SHIFT apart at least, the last no sooner than 64 ticks after the one before; and a dot's level is the
one of the pass's levels that is nearest its width. -/
def Obligations.PassesWellFormed : Prop :=
  (∀ (t p : Nat) (l : List Nat), (sliceEnds t p l).length = l.length) ∧
  (∀ (t p : Nat) (l : List Nat) (i : Nat), i + 2 < l.length →
    (sliceEnds t p l).getD i 0 + t ≤ (sliceEnds t p l).getD (i + 1) 0) ∧
  (∀ (t p : Nat) (l : List Nat), 2 ≤ l.length →
    (sliceEnds t p l).getD (l.length - 2) 0 + 64 ≤ (sliceEnds t p l).getD (l.length - 1) 0) ∧
  (∀ (s : State) (gs : List Nat) (v : Rat) (ws : List (Nat × Nat)) (d : Nat × Nat), d ∈ (s.mkPass gs v ws).dots → ws ≠ [] →
    d.2 < (s.mkPass gs v ws).levels.length ∨ (s.mkPass gs v ws).levels = []) ∧
  ∀ (l : List Nat) (w : Nat), l ≠ [] → nearestLevel l w < l.length ∧
    ∀ t ∈ l, max (l.getD (nearestLevel l w) 0) w - min (l.getD (nearestLevel l w) 0) w ≤ max t w - min t w

/-- R368, R388 to R397, R291 to R294: the head. A probe shows the mean resistance and tells a fault by it and by the groups that draw
too little; HEAD_PROBE identifies and probes the head and ends NOT_READY with the fault, or
waits for the leakage, whose measurement ends it OK and tells wet from dry; a dry-out starts, fires and ends dry, or at its
limit with fault 0x0610; a recheck starts when it is due, and its end updates the mean, measures the leakage, or is the head's
fault; a strobe that reads back wrong raises fault 0x0630 and quiets the head. -/
def Obligations.HeadWork : Prop :=
  (∀ (s : State) (m : HeadMeas) (r : Nat) (low : List Nat), (s.identify m.idMv.toNat).2 = none →
    (s.identify m.idMv.toNat).1.probeResult m = (some r, low) →
    let t := (s.identify m.idMv.toNat).1
    (s.probeHead m).1.rd CORE.BG_HEAD_MEAN_DOHM = r ∧
    Safety.only [CORE.BG_HEAD_MEAN_DOHM, PRINT.PROBE_GROUP_LOW] t (s.probeHead m).1 ∧
    (∀ g, low.head? = some g → (s.probeHead m).2 = some (0x0601, 1 + g, m.idMv.toNat)) ∧
    (low = [] → (s.probeHead m).2 =
      if r < u16 t.headEntry 4 ∨ u16 t.headEntry 6 < r then some (0x0601, 9, m.idMv.toNat) else none)) ∧
  (∀ (tag : Fin 64) (m : HeadMeas) (s : State) (c : Cmd), s.cmd? tag = some c → c.op = 0x61 → c.started = false →
    s.mayProbe c = true →
    (∀ f, (s.probeHead m).2 = some f → exec (.headProbe tag m) s =
      .next ((((s.probeHead m).1.headFault f).complete tag stNotReady f.1 f.2.1)).settle) ∧
    ((s.probeHead m).2 = none →
      ∃ x : State, exec (.headProbe tag m) s = .next x.settle ∧ x.print.probe = some (tag : Nat) ∧ x.rd PRINT.STAT_STATE = 4 ∧
        Safety.only [PRINT.STAT_STATE]
          { (s.probeHead m).1.start tag with print := { s.print with probe := some (tag : Nat) } } x)) ∧
  (∀ (s : State) (f : Nat × Nat × Nat), s.headFault f =
    ({ s.raise f.1 f.2.1 f.2.2 with print := { (s.raise f.1 f.2.1 f.2.2).print with probed := false } } : State).tear 9) ∧
  (∀ (s : State) (leak : Nat), leak < 65536 →
    let l := s.leakOf leak
    let x := s.leakSeen leak
    x.rd PRINT.PROBE_LEAK = l ∧ x.rd PRINT.STAT_WET = bit (decide (u16 s.wetBead 0 < l)) ∧
    (u16 s.wetBead 0 < l → x.print = { s.print with dryHead := false } ∧ Safety.event PRINT.EVT_WET .print s x ∧
      Store.get 0 x.led.acc cntWet = Store.get 0 s.led.acc cntWet + 1) ∧
    (l ≤ u16 s.wetBead 0 → x.print = { s.print with dryHead := true, baseline := leak } ∧ x.led = s.led) ∧
    Safety.only [PRINT.PROBE_LEAK, PRINT.STAT_WET, PRINT.EVT_WET, VEC.PENDING_PENDING] { s with print := x.print, led := x.led } x) ∧
  (∀ s : State, s.autoDry =
    if s.print.dryHead = false ∧ u8 s.wetBead 2 = 1 ∧ s.print.dry = none ∧ s.base = .run then s.dryStart none (u16 s.wetBead 4)
    else s) ∧
  (∀ (leak : BitVec 16) (s : State) (t : Nat), s.print.probe = some t →
    let l := s.leakOf leak.toNat
    let wet := u16 s.wetBead 0 < l
    ∃ x : State, exec (.leakageMeasured leak) s = .next (x.complete t stOK (s.rd CORE.BG_HEAD_MEAN_DOHM)
        (min 65535 l + s.rd PRINT.HEAD_ENTRY * 65536 + (if wet then 2 ^ 20 else 0))).settle ∧
      x.rd PRINT.PROBE_LEAK = l ∧ x.rd PRINT.STAT_WET = bit (decide wet) ∧
      x.print = { s.print with probe := none, probed := true, dryHead := !decide wet,
                               baseline := if wet then s.print.baseline else leak.toNat } ∧
      x.hasFault 0x0602 = false ∧ x.hasFault 0x0601 = false ∧ (¬ wet → x.hasFault 0x0610 = false) ∧
      Safety.only [PRINT.PROBE_LEAK, PRINT.STAT_WET, PRINT.EVT_WET, PRINT.STAT_STATE, VEC.PENDING_PENDING]
        { s with print := x.print, faults := x.faults, led := x.led } x) ∧
  (∀ (leak : BitVec 16) (s : State) (j : Job), s.print.probe = none → s.print.firing = none →
    (s.print.jobs.find? fun j => j.stage == .render && !j.leakOk) = some j →
    let l := s.leakOf leak.toNat
    ∃ x : State, exec (.leakageMeasured leak) s = .next x.autoDry.settle ∧ x.rd PRINT.PROBE_LEAK = l ∧
      x.rd PRINT.STAT_WET = bit (decide (u16 s.wetBead 0 < l)) ∧ x.print.dryHead = !decide (u16 s.wetBead 0 < l) ∧
      (x.job? j.tag).map (·.leakOk) = some true ∧ (x.job? j.tag).map (·.wet) = some (decide (u16 s.wetBead 0 < l)) ∧
      Safety.only [PRINT.PROBE_LEAK, PRINT.STAT_WET, PRINT.EVT_WET, VEC.PENDING_PENDING]
        { s with print := x.print, led := x.led } x) ∧
  (∀ (tag : Fin 64) (s : State) (c : Cmd), s.cmd? tag = some c → c.op = 0x62 → c.started = false → s.mayProbe c = true →
    (600 < c.p0 → exec (.dryHead tag) s = .next (s.endOpen tag stBadParam).settle) ∧
    (c.p0 ≤ 600 → ∃ x : State, exec (.dryHead tag) s = .next x.settle ∧ x.rd PRINT.DRY_ELAPSED_S = 0 ∧ x.rd PRINT.STAT_STATE = 5 ∧
      x.print = { s.print with dry := some { tag := some (tag : Nat), maxS := (if c.p0 = 0 then u16 s.wetBead 4 else c.p0),
                                             since := s.clock } } ∧
      Safety.only [PRINT.DRY_ELAPSED_S, PRINT.STAT_STATE] { s.start tag with print := x.print } x)) ∧
  (∀ (m : LineSample) (s : State) (d : Dry), s.print.dry = some d →
    ∃ x y : State, x.rd PRINT.DRY_ELAPSED_S = min 65535 ((s.clock - d.since) / 1000000) ∧ Safety.only [PRINT.DRY_ELAPSED_S] s x ∧
      exec (.dryPulse m) s = .next y.settle ∧
      ((x.takeHead m.headCode.toNat).print.dry = none ∨
        (x.takeHead m.headCode.toNat).headConv m.headCode > u8 (x.takeHead m.headCode.toNat).wetBead 6 * 10 →
        y = x.takeHead m.headCode.toNat) ∧
      Safety.only [PRINT.COUNT_CLAMPED, PRINT.COUNT_OVERCAP] { x.takeHead m.headCode.toNat with led := y.led } y) ∧
  (∀ (leak : BitVec 16) (s : State) (d : Dry), s.print.dry = some d →
    let l := s.leakOf leak.toNat
    (u16 s.wetBead 0 < l → ∃ x : State, x.rd PRINT.PROBE_LEAK = l ∧ x.print.dryHead = false ∧
      (s.print.dryHead = false → Safety.only [PRINT.PROBE_LEAK] s x) ∧
      (s.print.dryHead = true → x.rd PRINT.STAT_WET = 1 ∧ Safety.event PRINT.EVT_WET .print s x) ∧
      Safety.only [PRINT.PROBE_LEAK, PRINT.STAT_WET, PRINT.EVT_WET, VEC.PENDING_PENDING]
        { s with print := { s.print with dryHead := false }, led := x.led } x ∧
      exec (.dryMeasure leak) s = .next x.settle ∧
      exec (.wetHead leak) s = .next ((x.raise 0x0610 0 l).dryEnd d stTimeout l).settle) ∧
    (l ≤ u16 s.wetBead 0 → ∃ x : State, exec (.dryMeasure leak) s = .next (x.dryEnd d stOK l).settle ∧
      exec (.wetHead leak) s = .next (x.dryEnd d stOK l).settle ∧
      x.rd PRINT.PROBE_LEAK = l ∧ x.rd PRINT.STAT_WET = 0 ∧ Safety.event PRINT.EVT_DRY_DONE .print s x ∧
      (d.tag.isSome = true → x.hasFault 0x0610 = false) ∧
      Safety.only [PRINT.PROBE_LEAK, PRINT.STAT_WET, PRINT.EVT_DRY_DONE, VEC.PENDING_PENDING]
        { s with print := { s.print with dryHead := true }, faults := x.faults } x)) ∧
  (∀ (s : State) (d : Dry) (st leak : Nat), ∃ x : State, x.print.dry = none ∧
    x.rd PRINT.DRY_ELAPSED_S = min 65535 ((s.clock - d.since) / 1000000) ∧
    Safety.only [PRINT.STAT_STATE, PRINT.DRY_ELAPSED_S] { s with print := { s.print with dry := none } } x ∧
    s.dryEnd d st leak = match d.tag with
      | some t => x.complete t st ((s.clock - d.since) / 1000) leak
      | none => x) ∧
  (∀ s : State, s.recheckIsDue = true → s.running = true → s.ready .print = true → s.queuedFor [.print] = false →
    s.print.jobs = [] → s.rd SUPPLY.VH_STAT_SETTLED = 1 → s.print.lastReceipt + 100000 ≤ s.clock → s.print.recheck = false →
    ∃ x : State, exec .headRecheck s = .next x ∧ x.rd PRINT.STAT_STATE = 4 ∧
      Safety.only [PRINT.STAT_STATE] { s with print := { s.print with recheck := true, recheckDue := true } } x) ∧
  (∀ (m : HeadMeas) (leak : BitVec 16) (s : State), s.print.recheck = true →
    ∃ x : State, x.rd CORE.BG_HEAD_SINCE = 0 ∧ x.print = { s.print with recheck := false, recheckDue := false } ∧
      Safety.only [CORE.BG_HEAD_SINCE, PRINT.STAT_STATE] { s with print := x.print } x ∧
      (∀ f, (x.probeHead m).2 = some f → exec (.headRecheckDone m leak) s = .next ((x.probeHead m).1.headFault f).settle) ∧
      ((x.probeHead m).2 = none →
        let old := s.rd CORE.BG_HEAD_MEAN_DOHM
        let new := (x.probeHead m).1.rd CORE.BG_HEAD_MEAN_DOHM
        let w := ((x.probeHead m).1.leakSeen leak.toNat).autoDry
        ∃ y : State, exec (.headRecheckDone m leak) s = .next y.settle ∧
          (3 * old < 100 * (max old new - min old new) → y.rd CORE.BG_HEAD_SHIFT = 1 ∧
            Safety.only [CORE.BG_HEAD_SHIFT, VEC.PENDING_PENDING] w y) ∧
          (100 * (max old new - min old new) ≤ 3 * old → y = w))) ∧
  ∀ (l : BitVec 8) (s : State), s.awake = true → s.boot.strobesKnown = true → l.toNat ≠ s.strobeLevels →
    exec (.strobeFault l) s = .next ((s.raise 0x0630 0 l.toNat).quiet).settle

/-! ### Paper path, cutter and loops -/

/-- R408 to R415, R424: one count moves the position and the divider by one step, POS and LINE show them, and a rise of the
line index to L_NEXT while a band awaits a line in encoder-locked pacing is a start of line. A change of one level of the
encoder counts, of both is a glitch; an index latches the position; a serial frame counts what it has moved, and three bad
frames in a row raise fault 0x0802, as a lost feedback does. -/
def Obligations.PositionFeedback : Prop :=
  (∀ (fwd : Bool) (m : LineSample) (s : State),
    let d : Int := if fwd then 1 else -1
    ∃ x : State, x.feed = { s.feed with pos := s.feed.pos + d, acc := s.feed.acc + d * s.rd FEED.DIV_M, posOut := x.feed.posOut } ∧
      x.rd FEED.POS_POS = toBits 32 (s.feed.pos + d) ∧ x.rd FEED.LINE_VALUE = toBits 32 x.lineIndex ∧
      (fwd = false → x.led = s.led) ∧ Safety.only [FEED.POS_POS, FEED.LINE_VALUE] { s with feed := x.feed, led := x.led } x ∧
      s.countOne fwd m = (if s.lineIndex < x.lineIndex ∧ s.encLocked = true ∧ x.lineIndex = s.rdI FEED.L_NEXT_VALUE ∧
          0 < s.print.toTrigger ∧ s.printing?.isSome = true
        then (x.wrI FEED.L_NEXT_VALUE (x.lineIndex + 1)).trigger m else x)) ∧
  (∀ (a b : Bool) (t : BitVec 32) (m : LineSample) (s : State), s.awake = true → s.bank 3 = true → s.rd FEED.CFG_FB_TYPE = 1 →
    let step := (quadPlace a b + 4 - quadPlace (s.feed.encAB.testBit 0) (s.feed.encAB.testBit 1)) % 4
    let x : State := { s with feed := { s.feed with encAB := bit a + 2 * bit b } }
    let fwd := (step == 1) != s.flag FEED.CFG_INVERT
    (step = 0 → exec (.encoderCount a b t m) s = .next x) ∧
    (step = 2 → ∃ y : State, exec (.encoderCount a b t m) s = .next y ∧
      y.rd FEED.FB_STAT_GLITCH = satAdd 65535 (s.rd FEED.FB_STAT_GLITCH) 1 ∧ Safety.only [FEED.FB_STAT_GLITCH] x y) ∧
    (step ≠ 0 → step ≠ 2 → ∃ y : State, exec (.encoderCount a b t m) s = .next ((y.countOne fwd m).backDone).settle ∧
      y.feed.pos = s.feed.pos ∧ y.feed.lastDir = (if fwd then 1 else -1) ∧
      Safety.only [FEED.SPEED_MEAS, FEED.FB_STAT_DISCARDS, FEED.HALL_ADV_DEG] { s with feed := y.feed } y)) ∧
  (∀ s : State, s.awake = true → s.bank 3 = true → s.rd FEED.CFG_Z_USED = 1 → s.rd FEED.CFG_FB_TYPE = 1 →
    ∃ x : State, exec .index s = .next x ∧ x.rd FEED.ZLATCH_VALUE = s.rd FEED.POS_POS ∧ Safety.event FEED.EVT_INDEX .feed s x ∧
      Safety.only [FEED.ZLATCH_VALUE, FEED.EVT_INDEX, VEC.PENDING_PENDING] s x) ∧
  (∀ (m : LineSample) (s : State), s.awake = true → s.bank 3 = true → s.rd FEED.CFG_FB_TYPE = 2 →
    ∃ x : State, x.rd FEED.SERIAL_ERRORS = satAdd 255 (s.rd FEED.SERIAL_ERRORS) 1 ∧
      Safety.only [FEED.SERIAL_ERRORS] { s with feed := { s.feed with serialErrs := if s.feed.serialErrs < 2 then s.feed.serialErrs + 1 else 0 } } x ∧
      exec (.serialRead none m) s =
        .next (if s.feed.serialErrs < 2 then x else (x.raise 0x0802 0 (s.rd FEED.POS_POS)).settle)) ∧
  (∀ (w : BitVec 24) (m : LineSample) (s : State), s.awake = true → s.bank 3 = true → s.rd FEED.CFG_FB_TYPE = 2 →
    let b := s.beadD 0x0802 []
    let fr := w.toNat % 2 ^ u8 b 6
    let p := fr / 2 ^ (u8 b 6 - u8 b 8) % 2 ^ u8 b 8
    let diff : Int := match s.feed.serial with
      | none => 0
      | some old => ofBits (u8 b 8) (p + 2 ^ u8 b 8 - old)
    ∃ x : State, exec (.serialRead (some w) m) s = .next ((x.countMany (decide (0 ≤ diff)) m diff.natAbs).backDone).settle ∧
      x.rd FEED.SERIAL_FRAME = fr ∧ x.feed.serial = some p ∧ x.feed.serialErrs = 0 ∧ x.feed.pos = s.feed.pos ∧
      Safety.only [FEED.SERIAL_FRAME, FEED.SPEED_MEAS, FEED.FB_STAT_DISCARDS, FEED.HALL_ADV_DEG] { s with feed := x.feed } x) ∧
  (∀ s : State, s.awake = true → s.rd FEED.CFG_FB_TYPE ≠ 0 → u16 (s.beadD 0x0801 []) 4 < 2 * s.feed.current.natAbs →
    exec .feedbackLoss s = .next (s.raise 0x0802 0 (s.rd FEED.POS_POS)).settle) ∧
  ∀ (m : LineSample) (s : State), s.awake = true → s.brushless = false →
    ((s.feed.job = .lines ∧ (s.encLocked = true ∨ 0 < s.feed.due)) ∨
      (s.feed.job = .target ∧ (s.feed.pos ≠ s.feed.target ∨ s.rd FEED.CFG_FB_TYPE ≠ 0)) ∨
      (s.feed.job = .stop ∧ s.feed.onBrake = false ∧ s.rd FEED.STAT_STATE ≠ 6) ∨
      (s.feed.job = .back ∧ s.rd FEED.STAT_STATE ≠ 2)) →
    s.feed.dwell = false → s.feedDriving = true →
    ∃ x : State, exec (.microstep m) s = .next (((if s.rd FEED.CFG_FB_TYPE = 0 then x.countOne (!s.flag FEED.STAT_DIR) m
        else x).backDone).showAdv).settle ∧
      x.feed = { s.feed with theta := s.feed.theta + (if s.flag FEED.STAT_DIR then -1 else 1), due := s.feed.due - 1,
                             steps := x.feed.steps } ∧
      x = { s with feed := x.feed, led := x.led }

/-- R405, R406: a hall code that follows the last one in the order drives its sector, or the opposite one under a reverse current; one out of the order, or none at all, is
counted as invalid; two in a row, or a stuck code, raise fault 0x0803; and the next sector is driven early by θ_adv. -/
def Obligations.Commutation : Prop :=
  (∀ (c : BitVec 3) (t : BitVec 32) (s : State), s.awake = true → s.bank 3 = true → s.brushless = true →
    let back := s.feed.current < 0 || (s.feed.current == 0 && s.flag FEED.STAT_DIR)
    let place := (List.range 6).find? fun i => u8 (s.beadD 0x0806 []) i == c.toNat
    (place = none → ∃ x : State, exec (.hallEdge c t) s = .next x ∧ x.rd FEED.HALL_CODE = c.toNat ∧
      x.rd FEED.HALL_INVALID = satAdd 65535 (s.rd FEED.HALL_INVALID) 1 ∧
      Safety.only [FEED.HALL_CODE, FEED.HALL_INVALID] { s with feed := { s.feed with hallBad := s.feed.hallBad + 1 } } x) ∧
    (∀ p : Nat, place = some p → s.feed.hallPlace = none → ∃ x : State, exec (.hallEdge c t) s = .next x ∧
      x.rd FEED.HALL_CODE = c.toNat ∧
      Safety.only [FEED.HALL_CODE] { s with feed := { s.feed with hallPlace := some p, sector := p, hallBad := 0 } } x) ∧
    (∀ p q : Nat, place = some p → s.feed.hallPlace = some q → (p + 6 - q) % 6 ≠ 1 → (p + 6 - q) % 6 ≠ 5 →
      ∃ x : State, exec (.hallEdge c t) s = .next x ∧ x.rd FEED.HALL_CODE = c.toNat ∧
        x.rd FEED.HALL_INVALID = satAdd 65535 (s.rd FEED.HALL_INVALID) 1 ∧
        Safety.only [FEED.HALL_CODE, FEED.HALL_INVALID]
          { s with feed := { s.feed with hallBad := s.feed.hallBad + 1, hallPlace := some p } } x) ∧
    (∀ p q : Nat, place = some p → s.feed.hallPlace = some q → ((p + 6 - q) % 6 = 1 ∨ (p + 6 - q) % 6 = 5) →
      ∃ x : State, exec (.hallEdge c t) s = .next x ∧ x.rd FEED.HALL_CODE = c.toNat ∧ x.feed.hallPlace = some p ∧
        x.feed.sector = p ∧ x.feed.hallBad = 0 ∧ x.feed.hallDir = (if (p + 6 - q) % 6 = 1 then 1 else -1) ∧
        (s.feedDriving = true → x.feed.hb = sectorBridges (if back then p + 3 else p) ++ s.feed.hb.drop 3) ∧ (s.feedDriving = false → x.feed.hb = s.feed.hb) ∧
        Safety.only [FEED.HALL_CODE, FEED.HALL_ADV_DEG] { s with feed := x.feed, led := x.led } x)) ∧
  (∀ s : State, s.awake = true → s.brushless = true → (2 ≤ s.feed.hallBad ∨ s.rd FEED.HALL_CODE = 0 ∨ s.rd FEED.HALL_CODE = 7) →
    exec .hallInvalid s = .next
      (({ s with feed := { s.feed with hallBad := 0 } } : State).raise 0x0803 0 (s.rd FEED.HALL_CODE)).settle) ∧
  ∀ (s : State) (p : Nat), s.awake = true → s.brushless = true → s.feedDriving = true → s.thetaAdv ≠ 0 →
    s.feed.hallPlace = some p →
    let n := if s.feed.hallDir < 0 then (p + 5) % 6 else (p + 1) % 6
    let back := s.feed.current < 0 || (s.feed.current == 0 && s.flag FEED.STAT_DIR)
    (s.feed.sector = n → exec .commutationAdvance s = .next s) ∧
    (s.feed.sector ≠ n → exec .commutationAdvance s = .next { s with
      feed := { s.feed with sector := n, hb := sectorBridges (if back then n + 3 else n) ++ s.feed.hb.drop 3 } })

/-- R416 to R428: MOVE_PAPER starts a move to the position that its lines come to, at its speed, refuses a distance or a speed
out of range and waits for the sensors; MOTOR_CHECK ends with the windings as measured; at rest a move ends or returns after
an overshoot, and a return behind a band turns forward; the hold's end releases the bridges; and after the dwell the
direction changes. -/
def Obligations.FeedMotion : Prop :=
  (∀ (tag : Fin 64) (s : State) (c : Cmd), s.cmd? tag = some c → c.op = 0x80 → c.started = false → s.running = true →
    s.ready .feed = true → s.firstIn tag .feed = true → s.feedMoving = false →
    let d := ofBits 32 c.p0
    let sp := c.p1 % 65536
    let bad := decide (d = 0) || decide (d < -4096) || decide (65535 < d) || (decide (sp ≠ 0) && (decide (sp < 10) || decide (250 < sp)))
    let sensors := s.flag FEED.STAT_COVER && (s.flag FEED.STAT_PAPER || c.p2.testBit 0 || decide (d < 0))
    (bad = true → exec (.movePaper tag) s = .next (s.endOpen tag stBadParam).settle) ∧
    (bad = false → sensors = false → exec (.movePaper tag) s = .next s) ∧
    (bad = false → sensors = true →
      let v := if sp = 0 then 100 else sp
      let y : State := { s.start tag with
        feed := { s.feed with tag := some (tag : Nat), status := stOK, ignorePaper := c.p2.testBit 0 } }
      exec (.movePaper tag) s = .next (y.feedTo (s.feed.pos + s.linesToCounts d)
        (if d < 0 then min v (s.rd FEED.REV_REV_SPEED) else v)).settle)) ∧
  (∀ (s : State) (job : FeedJob) (rev : Bool),
    let x := s.feedGo job rev
    let turn := s.flag FEED.STAT_DIR != rev
    x.feed.job = job ∧ x.feed.dwell = turn ∧ x.rd FEED.STAT_STATE = (if turn || rev then 4 else 1) ∧
    x.rd FEED.STAT_AT_REST = 0 ∧ x.feed.pos = s.feed.pos ∧ x.feed.tag = s.feed.tag ∧ x.feed.onBrake = false ∧
    x.print = s.print ∧ x.cmds = s.cmds ∧ Safety.sameBytes s x) ∧
  (∀ (tag : Fin 64) (m : List WindingMeas) (s : State) (c : Cmd), s.cmd? tag = some c → c.op = 0x81 → c.started = false →
    s.running = true → s.feedMoving = false → s.ready .supply = true → s.ready .loop = true → s.hasCause .feed = false →
    s.firstIn tag .feed = true → s.boot.brake = 0 →
    ∃ x : State, exec (.motorCheck tag m) s = .next (x.complete tag (if (s.motorVerdict m).1 = 0 then stOK else stNotReady)
        ((s.motorVerdict m).2.1 + (s.motorVerdict m).2.2 * 65536) (s.motorVerdict m).1).settle ∧
      x.rd FEED.MOTOR_R_MEAS = (s.motorVerdict m).2.1 % 65536 ∧ x.rd FEED.MOTOR_L_MEAS = (s.motorVerdict m).2.2 % 65536 ∧
      Safety.only [FEED.MOTOR_R_MEAS, FEED.MOTOR_L_MEAS] s x) ∧
  (∀ s : State, s.awake = true → s.feedMoving = true → s.feed.dwell = false →
    let past := if s.flag FEED.STAT_DIR then s.feed.target - s.feed.pos else s.feed.pos - s.feed.target
    ∃ x : State, x.rd FEED.STAT_AT_REST = 1 ∧ x.rd FEED.HALL_ADV_DEG = 0 ∧ Safety.event FEED.EVT_AT_REST .feed s x ∧
      Safety.only [FEED.STAT_AT_REST, FEED.EVT_AT_REST, FEED.HALL_ADV_DEG, VEC.PENDING_PENDING]
        { s with feed := { s.feed with steps := 0, windA := x.feed.windA, windB := x.feed.windB },
                 print := { s.print with hist1 := [], hist2 := [],
                                         firing := s.print.firing.map fun f => { f with dots := [] } } } x ∧
      (s.feed.job = .target → past ≤ 2 → exec .atRest s = .next ((((x.setSpeed 0).feedHold).afterRest).settle)) ∧
      (s.feed.job = .target → 2 < past → ∃ y : State, exec .atRest s = .next (y.feedGo .target (s.feed.target < s.feed.pos)) ∧
        y.rd FEED.STAT_OVERSHOOT = min 65535 past.toNat ∧ y.feed.limit = s.rd FEED.REV_REV_SPEED ∧
        Safety.only [FEED.STAT_OVERSHOOT, FEED.SPEED_SET, FEED.SPEED_MEAS] { x with feed := y.feed } y) ∧
      (s.feed.job = .back → exec .atRest s = .next ((x.setSpeed 0).feedGo .lines false)) ∧
      (s.feed.job = .lines → exec .atRest s = .next x) ∧
      (s.feed.job = .stop → exec .atRest s = .next ((((x.setSpeed 0).feedHold).afterRest).settle))) ∧
  (∀ s : State, s.awake = true → s.rd FEED.STAT_STATE = 3 →
    ∃ x : State, exec .holdEnd s = .next x ∧ x.rd FEED.STAT_STATE = 0 ∧ x.feed.current = 0 ∧
      x.feed.hb = (if s.brushless then [.z, .z, .z] ++ s.feed.hb.drop 3 else [.z, .z, .z, .z]) ∧ x.feed.pos = s.feed.pos ∧
      x.print = s.print ∧ x.cmds = s.cmds ∧ Safety.sameBytes s x) ∧
  ∀ s : State, s.awake = true → s.feed.dwell = true →
    ∃ x : State, exec .revDwellEnd s = .next x ∧ x.rd FEED.STAT_DIR = bit (!s.flag FEED.STAT_DIR) ∧
      x.rd FEED.STAT_STATE = (if s.flag FEED.STAT_DIR then 1 else 4) ∧ x.rd FEED.STAT_AT_REST = 0 ∧
      Safety.only [FEED.STAT_DIR, FEED.STAT_STATE, FEED.STAT_AT_REST] { s with feed := { s.feed with dwell := false, steps := 0 } } x

/-- R402, R407, R429 to R431, R434, R529: a sensor's change shows at once with its event; the end of the paper or an open cover
tears the RECEIPT that prints. AUX pulls, holds, releases and turns off; an overcurrent raises the fault of its bridge; and the
end of the brake in HELD releases every bridge. -/
def Obligations.SensorsAndBridges : Prop :=
  (∀ (k : Sensor) (l : Bool) (s : State), s.awake = true → s.bank 3 = true →
    (u8 (s.beadD 0x0884 [0, 0, 2, 0]) 1).testBit (sensorBit k) = true →
    s.flag (sensorFld k) ≠ (l == (u8 (s.beadD 0x0884 [0, 0, 2, 0]) 0).testBit (sensorBit k)) →
    exec (.sensorChange k l) s =
      .next (s.sensorSet k (l == (u8 (s.beadD 0x0884 [0, 0, 2, 0]) 0).testBit (sensorBit k)))) ∧
  (∀ (k : Sensor) (a : Bool) (s : State),
    let f := match k with
      | .nearEnd => FEED.EVT_NEAR_END
      | .paper => if a then FEED.EVT_PAPER_IN else FEED.EVT_PAPER_OUT
      | .cover => if a then FEED.EVT_COVER_CLOSED else FEED.EVT_COVER_OPEN
    ∃ x : State, x.rd (sensorFld k) = bit a ∧ x.flag f = true ∧
      x.rd VEC.PENDING_PENDING = (s.rodVec .feed).rd VEC.PENDING_PENDING ∧
      Safety.only [sensorFld k, f, VEC.PENDING_PENDING] s x ∧
      (k = .nearEnd → s.sensorSet k a = x) ∧ (k = .paper → a = true → s.sensorSet k a = x.settle) ∧
      (k = .paper → a = false → s.feed.tag = none → s.sensorSet k a = (x.tear 10).settle) ∧
      (k = .cover → a = true →
        s.sensorSet k a = ({ x with cut := { s.cut with needHome := true } } : State).settle) ∧
      (k = .cover → a = false → s.feed.tag = none → (∀ j ∈ s.print.jobs, j.stage ≠ .out) →
        (s.cutDriving = false → s.cut.tag = none → s.sensorSet k a = (x.tear 10).settle) ∧
        ((s.cutDriving = true ∨ s.cut.tag ≠ none) → s.sensorSet k a = (((x.tear 10).cutEnd 2).cutBrake .stay).settle))) ∧
  (∀ (w : Word) (s : State), Safety.takes s .feed →
    ∃ x y : State, exec (.auxOn w) s = .next x ∧ exec (.auxOff w) s = .next y ∧ x.rd FEED.AUX_ON = 1 ∧ y.rd FEED.AUX_ON = 0 ∧
      x.rd FEED.AUX_HOLD_PCT = clampNat 10 100 (field w 8 8) ∧ y.rd FEED.AUX_HOLD_PCT = clampNat 10 100 (field w 8 8) ∧
      (s.auxUsed = true → s.auxDriving = false → s.boot.brake = 0 → x.feed.aux = .pull ∧ x.feed.hb = s.feed.hb.set 3 .high) ∧
      (s.auxUsed = true → s.auxDriving = true → y.feed.aux = .release ∧ y.feed.hb = s.feed.hb.set 3 .low) ∧
      (s.auxUsed = false ∨ s.auxDriving = true ∨ s.boot.brake ≠ 0 → x.feed = s.feed) ∧
      (s.auxUsed = false ∨ s.auxDriving = false → y.feed = s.feed) ∧
      Safety.only [FEED.AUX_ON, FEED.AUX_HOLD_PCT]
        { s.idleRestart with feed := { s.feed with aux := x.feed.aux, hb := x.feed.hb } } x ∧
      Safety.only [FEED.AUX_ON, FEED.AUX_HOLD_PCT]
        { s.idleRestart with feed := { s.feed with aux := y.feed.aux, hb := y.feed.hb } } y) ∧
  (∀ s : State, s.awake = true → s.feed.aux = .pull → exec .auxPullEnd s =
    .next { s with feed := { s.feed with aux := .hold, hb := s.feed.hb.set 3 .pwm } }) ∧
  (∀ s : State, s.awake = true → s.feed.aux = .release → exec .auxRelease s =
    .next { s with feed := { s.feed with aux := .off, hb := s.feed.hb.set 3 .z } }) ∧
  (∀ (b : Fin 6) (s : State), s.awake = true →
    exec (.bridgeOcp b) s = .next (s.raise (if b.val < 4 then 0x0820 else 0x0920) 0 b.val).settle) ∧
  ∀ s : State, s.awake = true → s.rd CORE.HELD_STAT_BRAKE = 1 →
    ∃ x : State, exec .heldBrakeEnd s = .next x.settle ∧ x.rd CORE.HELD_STAT_BRAKE = 0 ∧ x.feed.hb = [.z, .z, .z, .z] ∧
      x.cut.hb = [.z, .z] ∧
      x.rd FEED.STAT_STATE = (if s.rd FEED.STAT_STATE = 6 then (if s.feedMoving then 2 else 0) else s.rd FEED.STAT_STATE) ∧
      Safety.only [CORE.HELD_STAT_BRAKE, FEED.STAT_STATE]
        { s with boot := { s.boot with brake := 0 },
                 feed := { s.feed with hb := [.z, .z, .z, .z], aux := .off, onBrake := false }, cut := { s.cut with hb := [.z, .z] } } x

/-- R432 to R437, R440: CUT and HOME start the blade; the far switch, PARTIAL_MS or a jam brakes it and it returns; at HOME it
is braked, and the brake's end ends the sequence; too many reversals, a conflict of the switches and a timeout each end it
with their fault and cause. The timing takes only values whose sum is at most 400 ms. -/
def Obligations.CutSequence : Prop :=
  (∀ (tag : Fin 64) (s : State) (c : Cmd), s.cmd? tag = some c → c.op = 0x90 → c.started = false → s.running = true →
    s.ready .cut = true → s.firstIn tag .cut = true → s.cut.tag = none →
    exec (.cut tag) s = .next ((s.start tag).cutStart tag false (c.p0.testBit 0) true).settle) ∧
  (∀ (tag : Fin 64) (s : State) (c : Cmd), s.cmd? tag = some c → c.op = 0x91 → c.started = false → s.running = true →
    s.ready .loop = true → s.rd FEED.STAT_COVER = 1 → s.hasCause .cut = false → s.firstIn tag .cut = true → s.cut.tag = none →
    s.cutDriving = false → s.boot.brake = 0 →
    (s.rd CUT.STAT_HOME = 0 → exec (.home tag) s = .next ((s.start tag).cutStart tag false false false).settle) ∧
    (s.rd CUT.STAT_HOME = 1 → s.rd CUT.STAT_END = 0 →
      ∃ x : State, exec (.home tag) s = .next ((x.homed).cutEnd 0).settle ∧
        x = { s.start tag with cut := { s.cut with tag := some (tag : Nat), receipt := false, isCut := false, reversals := 0,
                                                   since := s.clock } })) ∧
  (∀ (s : State) (t : Nat) (r p c : Bool),
    let x := s.cutStart t r p c
    x.rd CUT.STAT_STATE = (if c && s.flag CUT.STAT_HOME then 1 else 4) ∧ x.cut.tag = some t ∧ x.cut.receipt = r ∧
    x.cut.partialCut = p ∧ x.cut.isCut = c ∧ x.cut.reversals = 0 ∧ x.cut.since = s.clock ∧
    (x.cut.hb = [.low, .pwm] ∨ x.cut.hb = [.pwm, .low]) ∧ x.cmds = s.cmds ∧ Safety.sameBytes s x) ∧
  (∀ (h e : Bool) (s : State), s.awake = true → s.bank 3 = true →
    let act := u8 (s.beadD 0x0900 []) 1
    exec (.cutSwitch h e) s = .next (s.cutSwitches (h == act.testBit 0) (e == act.testBit 1))) ∧
  (∀ (h e : Bool) (s : State), ∃ x : State, x.rd CUT.STAT_HOME = bit h ∧ x.rd CUT.STAT_END = bit e ∧
    Safety.only [CUT.STAT_HOME, CUT.STAT_END] { s with cut := { s.cut with left := x.cut.left } } x ∧
    (s.rd CUT.STAT_STATE = 1 → e = true → s.cut.partialCut = false → s.cutSwitches h e = (x.cutBrake .back).settle) ∧
    (s.rd CUT.STAT_STATE = 1 → (e = false ∨ s.cut.partialCut = true) → s.cutSwitches h e = x.settle) ∧
    (s.rd CUT.STAT_STATE = 3 → h = true → s.cut.jammed = false → s.cutSwitches h e = (x.cutBrake .finish).settle) ∧
    (s.rd CUT.STAT_STATE = 3 → h = true → s.cut.jammed = true → s.cut.reversals ≤ s.rd CUT.JAM_JAM_RETRIES →
      s.cutSwitches h e = (({ x with cut := { x.cut with jammed := false } } : State).cutDrive 1).settle) ∧
    (s.rd CUT.STAT_STATE = 3 → h = true → s.cut.jammed = true → s.rd CUT.JAM_JAM_RETRIES < s.cut.reversals →
      s.cutSwitches h e = (((x.raise 0x0901 0 s.cut.reversals).cutEnd 1).cutBrake .stay).settle) ∧
    (s.rd CUT.STAT_STATE = 4 → h = true → s.cutSwitches h e = (x.cutBrake .finish).settle)) ∧
  (∀ s : State, s.awake = true → s.rd CUT.STAT_HOME = 1 → s.rd CUT.STAT_END = 1 →
    exec .switchConflict s = .next (if s.cutDriving then ((s.raise 0x0902 0 0).cutEnd 4).cutBrake .stay
      else (s.raise 0x0902 0 0).cutEnd 4).settle) ∧
  (∀ s : State, s.awake = true → s.rd CUT.STAT_STATE = 1 →
    ∃ x : State, exec .jam s = .next (x.cutBrake .jamBack).settle ∧ Safety.event CUT.EVT_JAM_REV .cut s x ∧
      Store.get 0 x.led.acc cntJams = Store.get 0 s.led.acc cntJams + 1 ∧
      Safety.only [CUT.EVT_JAM_REV, VEC.PENDING_PENDING]
        { s with cut := { s.cut with jammed := true, reversals := min 255 (s.cut.reversals + 1) }, led := x.led } x) ∧
  (∀ s : State, s.awake = true → s.rd CUT.STAT_STATE = 3 → exec .jam s = .next s.homeFailed.settle) ∧
  (∀ s : State, s.awake = true → s.rd CUT.STAT_STATE = 2 →
    (s.cut.next = .back ∨ s.cut.next = .jamBack → exec .cutBrakeEnd s = .next (s.cutDrive 3).settle) ∧
    (s.cut.next = .stay → exec .cutBrakeEnd s = .next s.cutZ.settle) ∧
    (s.cut.next = .finish → s.cut.thenCut = true → s.rd CUT.STAT_HOME = 1 →
      exec .cutBrakeEnd s = .next (({ s with cut := { s.cut with thenCut := false } } : State).cutDrive 1).settle) ∧
    (s.cut.next = .finish → s.cut.thenCut = false → s.rd CUT.STAT_HOME = 1 → (s.cut.needHome = true ∨ s.cut.isCut = false) →
      exec .cutBrakeEnd s = .next (s.cutZ.homed.cutEnd 0).settle) ∧
    (s.cut.next = .finish → s.cut.thenCut = false → s.cut.needHome = false → s.cut.isCut = true →
      exec .cutBrakeEnd s = .next (s.cutZ.cutEnd 0).settle) ∧
    (s.cut.next = .finish → s.rd CUT.STAT_HOME = 0 → exec .cutBrakeEnd s = .next (s.cutZ.cutEnd 0).settle)) ∧
  (∀ s : State, s.awake = true → s.rd CUT.STAT_STATE = 1 → s.cut.partialCut = true → s.cut.left = true →
    exec .partialMsEnd s = .next (s.cutBrake .back).settle) ∧
  (∀ s : State, s.awake = true → (s.rd CUT.STAT_STATE = 3 ∨ s.rd CUT.STAT_STATE = 4) →
    exec .homeTimeout s = .next s.homeFailed.settle) ∧
  (∀ s : State,
    let y := (s.raise 0x0910 0 ((s.clock - s.cut.since) / 1000)).cutEnd 3
    s.homeFailed = ({ y with cut := { y.cut with needHome := false } } : State).cutBrake .stay) ∧
  (∀ (s : State) (n : CutNext), (s.cutBrake n).rd CUT.STAT_STATE = 2 ∧ (s.cutBrake n).cut.hb = [.low, .low] ∧
    (s.cutBrake n).cut.next = n ∧ (s.cutBrake n).cut.duty = 0 ∧ Safety.sameBytes s (s.cutBrake n)) ∧
  ∀ (w : Word) (s : State), Safety.takes s .cut →
    let e := clampNat 50 300 (field w 0 9)
    let h := clampNat 50 300 (field w 16 9)
    (e + h ≤ 400 → ∃ x : State, exec (.cutTimingWrite w) s = .next x ∧ x.rd CUT.TIMING_END_MS = e ∧ x.rd CUT.TIMING_HOME_MS = h ∧
      Safety.only [CUT.TIMING_END_MS, CUT.TIMING_HOME_MS] s.idleRestart x) ∧
    (400 < e + h → ∃ x : State, exec (.cutTimingWrite w) s = .next x ∧ Safety.event CUT.EVT_REFUSED .cut s x ∧
      Safety.only [CUT.EVT_REFUSED, VEC.PENDING_PENDING] s.idleRestart x)

/-- R441 to R461: a sample of an active loop runs its stages once, shows its values and counts; an output waiting from a sample
reaches its client; a commit of the coefficient window changes one shadow coefficient, or answers PARTIAL or RANGE, or waits
where an APPLY is pending; APPLY takes a shadow set that meets the conditions, at once or at the next sample, and refuses any
other; a trip shows its cause, counts, and with ACTION set stops the loop and raises fault 0x0804, or ends the cut. -/
def Obligations.ControlLoops : Prop :=
  (∀ (k : Fin 4) (m : BitVec 16) (s : State), s.awake = true → s.rd (LOOP.L_STAT_STATE k) = 2 → s.rd (LOOP.L_STAT_CLIENT k) = 2 →
    s.rdBit LOOP.COEF_STAT_PENDING k = false → (k : Nat) < s.loops.loops.length → s.rd (LOOP.L_FE_LIMIT_LIMIT k) = 0 →
    s.rd (LOOP.L_OSC_COUNT k) = 0 →
    let sp := toQ (ofBits 32 (toBits 32 s.feed.target) * 16777216 / (u32 (s.law k) 8 : Rat))
    let fb := toQ (ofBits 32 (toBits 32 s.feed.pos) * 16777216 / (u32 (s.law k) 8 : Rat))
    let er := toQ (ofBits 32 (toBits 32 (s.feed.target - s.feed.pos)) * 16777216 / (u32 (s.law k) 8 : Rat))
    let r := s.runStages (s.law k) (s.loopSt k) sp.1 fb.1 er.1
    ∃ x : State, exec (.loopSample k m) s = .next x.settle ∧ x.rdI (LOOP.L_SP_VALUE k) = sp.1 ∧ x.rdI (LOOP.L_FB_VALUE k) = fb.1 ∧
      x.rdI (LOOP.L_ERR_VALUE k) = er.1 ∧ (x.loopSt k).stages = r.2.1 ∧ (x.loopSt k).first = false ∧
      (x.loopSt k).waiting = some (roundInt ((r.1.getD (u8 (s.law k) 1) 0 : Rat) * (u32 (s.law k) 12 : Rat) / 16777216)) ∧
      x.rd (LOOP.L_STAT_CLAMPED k) = 0 ∧ x.rd (LOOP.L_SAMPLES_COUNT k) = (s.rd (LOOP.L_SAMPLES_COUNT k) + 1) % 2 ^ 32 ∧
      x.rd (LOOP.L_COUNT_SAT k) = satAdd 65535 (s.rd (LOOP.L_COUNT_SAT k)) (bit (r.2.2 || sp.2 || fb.2 || er.2)) ∧
      Safety.only [LOOP.L_SP_VALUE k, LOOP.L_FB_VALUE k, LOOP.L_ERR_VALUE k, LOOP.L_OUT_VALUE k, LOOP.L_STAT_CLAMPED k,
          LOOP.L_SAMPLES_COUNT k, LOOP.L_COUNT_SAT k, LOOP.L_FE_TIME_RUN_MS k, LOOP.L_OSC_REVERSALS k]
        { s with loops := x.loops, free := s.free + 1 } x) ∧
  (∀ (k : Fin 4) (m : BitVec 16) (s : State), s.awake = true → s.rd (LOOP.L_STAT_STATE k) = 2 →
    ∃ x : State, exec (.loopSample k m) s = .next x.settle) ∧
  (∀ (k : Fin 4) (s : State) (u : Int), s.awake = true → s.rd (LOOP.L_STAT_STATE k) = 2 → (s.loopSt k).waiting = some u →
    exec (.loopOutput k) s =
      .next ((s.modLoop k fun l => { l with waiting := none, delivered := u }).deliver (s.rd (LOOP.L_STAT_CLIENT k)) u)) ∧
  (∀ (s : State) (u : Int), (let t : State := { s with feed := { s.feed with current := u } }
      s.deliver 1 u = if s.feedDriving then t.driveHb.wind t.thetaAdv else t) ∧
    s.deliver 2 u = { s with feed := { s.feed with corrUm := u * 1000 } } ∧ s.deliver 3 u = { s with cut := { s.cut with duty := u } }) ∧
  (∀ (w : Word) (s : State), Safety.takes s .loop → s.loops.win.mask ||| 8 ≠ 15 →
    ∃ x : State, exec (.coefCommit w) s = .next x ∧ x.rd LOOP.COEF_STAT_RESULT = 1 ∧
      Safety.only [LOOP.COEF_STAT_RESULT] { s.idleRestart with loops := { s.loops with win := {} } } x) ∧
  (∀ (w : Word) (s : State), Safety.takes s .loop → s.loops.win.mask ||| 8 = 15 →
    let v := s.loops.win
    let k := v.w0 % 4
    let st := v.w0 / 256 % 16
    let i := v.w0 / 65536 % 8
    let ok := s.rdBit LOOP.CFG_PRESENT k && decide (st < u8 (s.law k) 0) && decide (i < coefCount (stageDef (s.law k) st).kind) &&
      v.w0 == k + 256 * st + 65536 * i && v.w2 == 0 && w.toNat == 0
    (s.rdBit LOOP.COEF_STAT_PENDING k = true → exec (.coefCommit w) s = .next s.idleRestart) ∧
    (s.rdBit LOOP.COEF_STAT_PENDING k = false → ok = false →
      ∃ x : State, exec (.coefCommit w) s = .next x ∧ x.rd LOOP.COEF_STAT_RESULT = 2 ∧
        Safety.only [LOOP.COEF_STAT_RESULT] { s.idleRestart with loops := { s.loops with win := {} } } x) ∧
    (s.rdBit LOOP.COEF_STAT_PENDING k = false → ok = true →
      ∃ x : State, exec (.coefCommit w) s = .next x ∧ x.rd LOOP.COEF_STAT_RESULT = 0 ∧
        Safety.only [LOOP.COEF_STAT_RESULT]
          { s.idleRestart with loops := { s.loops with win := {}, loops := s.loops.loops.modify k fun l =>
              { l with shadow := l.shadow.modify st fun c => c.set i (ofBits 32 v.w1) } } } x)) ∧
  (∀ (w : Word) (s : State), Safety.takes s .loop → exec (.apply w) s =
    .next (((List.range 4).filter fun k => (field w 0 4).testBit k).foldl (fun s k => s.applyLoop k)
      ({ s.idleRestart with loops := { s.loops with named := s.loops.named ||| field w 0 4 } } : State))) ∧
  (∀ (s : State) (k : Fin 4), (k : Nat) < s.loops.loops.length →
    let ok := (List.range (s.loopSt k).shadow.length).all fun j =>
      coefOk (stageDef (s.law k) j).kind ((s.loopSt k).shadow.getD j []) s.lutCount
    let x := s.applyLoop k
    (ok = false → x.rdBit LOOP.COEF_STAT_REFUSED k = true ∧ x.loops.loops = s.loops.loops) ∧
    (ok = true → s.rd (LOOP.L_STAT_STATE k) = 2 → x.rdBit LOOP.COEF_STAT_PENDING k = true ∧ x.loops.loops = s.loops.loops) ∧
    (ok = true → s.rd (LOOP.L_STAT_STATE k) ≠ 2 → (x.loopSt k).coef = (s.loopSt k).shadow)) ∧
  ∀ (s : State) (k : Fin 4) (client cause : Nat), cause < 4 → (k : Nat) < s.loops.loops.length →
    ∃ x : State, x.rdBit LOOP.EVT_TRIP k = true ∧ x.rd (LOOP.L_STAT_TRIP_CAUSE k) = cause ∧
      x.rd (LOOP.L_COUNT_TRIPS k) = satAdd 255 (s.rd (LOOP.L_COUNT_TRIPS k)) 1 ∧
      Safety.regsBut [LOOP.EVT_TRIP, LOOP.L_STAT_TRIP_CAUSE k, LOOP.L_COUNT_TRIPS k, LOOP.L_STAT_STATE k, LOOP.L_FE_TIME_RUN_MS k,
        LOOP.L_OSC_REVERSALS k, VEC.PENDING_PENDING] s x ∧
      (s.rd (LOOP.L_CTL_ACTION k) = 0 → s.tripLoop k client cause = x ∧ x.rd (LOOP.L_STAT_STATE k) = s.rd (LOOP.L_STAT_STATE k)) ∧
      (s.rd (LOOP.L_CTL_ACTION k) = 1 → client = 1 ∨ client = 2 → x.rd (LOOP.L_STAT_STATE k) = 3 ∧
        (x.loopSt k).waiting = none ∧ s.tripLoop k client cause = x.raise 0x0804 0 (k + cause * 256))

/-- R445, R451: a value is rounded once and saturated to Q8.24, and saturation is told; so each stage's output lies in the range
of Q8.24, and the limits of a limiter and of a PID stage hold. -/
def Obligations.StageArithmetic : Prop :=
  (∀ q : Rat, -2147483648 ≤ (toQ q).1 ∧ (toQ q).1 ≤ 2147483647 ∧
    ((toQ q).2 = false ↔ -2147483648 ≤ roundInt q ∧ roundInt q ≤ 2147483647) ∧ ((toQ q).2 = false → (toQ q).1 = roundInt q)) ∧
  (∀ (g : StageDef) (c lut : List Int) (p : Int) (f : Bool) (a b : Int) (st : StageSt), -2147483648 ≤ a → a ≤ 2147483647 →
    -2147483648 ≤ (stageStep g c lut p f a b st).1 ∧ (stageStep g c lut p f a b st).1 ≤ 2147483647) ∧
  (∀ (g : StageDef) (c lut : List Int) (p : Int) (f : Bool) (a b : Int) (st : StageSt), g.kind = 5 →
    c.getD 0 0 ≤ c.getD 1 0 → -2147483648 ≤ c.getD 0 0 → c.getD 1 0 ≤ 2147483647 →
    (stageStep g c lut p f a b st).1 = max (c.getD 0 0) (min (c.getD 1 0) a)) ∧
  ∀ (g : StageDef) (c lut : List Int) (p : Int) (f : Bool) (a b : Int) (st : StageSt), g.kind = 3 → 0 < c.getD 3 0 →
    c.getD 3 0 ≤ 2147483647 → -(c.getD 3 0) ≤ (stageStep g c lut p f a b st).1 ∧ (stageStep g c lut p f a b st).1 ≤ c.getD 3 0

/-! ### Camera, encoder, decoder, scanner -/

/-- R470 to R473, R485: a negotiation takes the first descriptor whose ID matches, with its best mode, or shows fault 0x0B01 to
0x0B04 and leaves the sensor off; NEGOTIATION_RETRY runs it again while such a fault stands; RENEGOTIATE starts it unless a
session is open; and an idle sensor is put to sleep. -/
def Obligations.SensorNegotiation : Prop :=
  (∀ (n : Negotiation) (s : State), s.awake = true → s.pllvOn = true → s.vidinFault = true → s.imageApplied = true → s.vid.renegTag = none →
    exec (.negotiationRetry n) s =
      .next (if (s.negotiate n).2 then (s.negotiate n).1.vidinTested else (s.negotiate n).1).settle) ∧
  (∀ (n : Negotiation) (s : State), s.bank 4 = false → s.negotiate n = (s.vidinRaise 0x0B01 0, false)) ∧
  (∀ (n : Negotiation) (s : State), s.bank 4 = true →
    let match_ := (List.range 4).find? fun j => (s.sensor? j).isSome && s.idMatches n j
    (match_ = none → (∀ j : Nat, j < 4 → (s.sensor? j).isSome = true → n.ids.getD j none = none) →
      s.negotiate n = (s.vidinRaise 0x0B01 0, false)) ∧
    (∀ v : BitVec 16, match_ = none → n.ids.getD 0 none = some v → (s.sensor? 0).isSome = true →
      s.negotiate n = (s.vidinRaise 0x0B02 (v.toNat % 256), false)) ∧
    (match_ = none → (s.sensor? 0).isSome = true → n.ids.getD 0 none = none →
      (∃ j : Nat, j < 4 ∧ (s.sensor? j).isSome = true ∧ n.ids.getD j none ≠ none) →
      ∃ v : Nat, s.negotiate n = (({ s with free := s.free + 1 } : State).vidinRaise 0x0B02 (v % 256), false)) ∧
    (∀ j : Nat, match_ = some j → s.chooseMode ((s.sensor? j).getD []) = none → s.negotiate n = (s.vidinRaise 0x0B03 j, false)) ∧
    (∀ j lanes m : Nat, match_ = some j → s.chooseMode ((s.sensor? j).getD []) = some (lanes, m) → n.script = false →
      s.negotiate n = (s.vidinRaise 0x0B01 1, false)) ∧
    (∀ j lanes m : Nat, match_ = some j → s.chooseMode ((s.sensor? j).getD []) = some (lanes, m) → n.script = true →
      n.frames = false → s.negotiate n = (s.vidinRaise 0x0B04 1, false)) ∧
    (∀ (j lanes m : Nat) (v : BitVec 16), match_ = some j → s.chooseMode ((s.sensor? j).getD []) = some (lanes, m) →
      n.script = true → n.frames = true → n.ids.getD j none = some v →
      ∃ x : State, s.negotiate n = (x, true) ∧ x.rd VIDIN.STAT_DESC = j ∧ x.rd VIDIN.STAT_MODE = m % 4 ∧
        x.rd VIDIN.STAT_LANES2 = bit (lanes == 2) ∧
        x.rd VIDIN.STAT_RATE = u16 ((s.sensor? j).getD []) (50 + 8 * m) % 1024 ∧ x.rd VIDIN.SENSOR_ID = v.toNat ∧
        x.rd VIDIN.SENSOR_ADDR = u8 ((s.sensor? j).getD []) 0 % 128 ∧
        x.rd VIDIN.STAT_STATE = (if s.rd VIDIN.STAT_SESSION = 0 then 2 else 3) ∧ x.vidinFault = false ∧
        Safety.only [VIDIN.STAT_DESC, VIDIN.STAT_MODE, VIDIN.STAT_LANES2, VIDIN.STAT_RATE, VIDIN.STAT_STATE, VIDIN.SENSOR_ID,
            VIDIN.SENSOR_ADDR, VIDIN.EVT_LINK, VEC.PENDING_PENDING] { s with faults := x.faults } x)) ∧
  (∀ (tag : Fin 64) (s : State) (c : Cmd), s.cmd? tag = some c → s.mayBegin c 0xB2 .vidin = true → s.vid.renegTag = none →
    (s.rd VIDIN.STAT_SESSION ≠ 0 → exec (.renegotiate tag) s = .next (s.endOpen tag stBusy).settle) ∧
    (s.rd VIDIN.STAT_SESSION = 0 → ∃ x : State, exec (.renegotiate tag) s = .next x.settle ∧ x.rd VIDIN.STAT_STATE = 1 ∧
      x.boot.tested.testBit 11 = false ∧ x.vid.renegTag = some (tag : Nat) ∧
      Safety.only [VIDIN.STAT_STATE] { s.start tag with boot := { s.boot with tested := x.boot.tested }, vid := x.vid } x)) ∧
  ∀ s : State, s.awake = true → s.rd VIDIN.STAT_STATE = 2 → s.rd VIDIN.STAT_SESSION = 0 →
    ∃ x : State, exec .camSleep s = .next x ∧ x.rd VIDIN.STAT_STATE = 4 ∧ Safety.only [VIDIN.STAT_STATE] s x

/-- R477, R482 to R484: CAPTURE_START opens a session with the taps it names, their slots and nothing held, or is BUSY;
CAPTURE_STOP waits for the frame's end, or finds no session of its own; and the session that ends gives CAPTURE_STOP its
counts. -/
def Obligations.CaptureSessions : Prop :=
  (∀ (tag : Fin 64) (s : State) (c : Cmd), s.cmd? tag = some c → s.mayBegin c 0xB0 .vidin = true → s.pllvOn = true →
    (s.rd VIDIN.STAT_SESSION ≠ 0 ∨ s.enc.cur.isSome = true ∨ s.enc.wait.isSome = true →
      exec (.captureStart tag) s = .next (s.endOpen tag stBusy).settle) ∧
    (s.rd VIDIN.STAT_SESSION = 0 → s.enc.cur = none → s.enc.wait = none →
      ∃ x : State, exec (.captureStart tag) s = .next x.settle ∧ x.rd VIDIN.STAT_SESSION = 1 ∧ x.rd VIDIN.STAT_STATE = 3 ∧
        x.rd VIDIN.HOST_HOLD_E = 0 ∧ x.rd VIDIN.HOST_HOLD_S = 0 ∧
        x.rd VIDIN.RING_E_SLOTS = ringSlots (s.rd VIDIN.RING_E_COUNT) (nv12 (c.p0 % 65536) (c.p0 / 65536)) ∧
        x.rd VIDIN.RING_S_SLOTS = ringSlots (s.rd VIDIN.RING_S_COUNT) (c.p1 % 65536 * (c.p1 / 65536)) ∧
        x.vid = { s.captureOf c with
          openTag := some (tag : Nat), sensExp := s.vid.sensExp, sensGain := s.vid.sensGain, expDue := s.vid.expDue } ∧
        Safety.only [VIDIN.STAT_SESSION, VIDIN.STAT_STATE, VIDIN.HOST_HOLD_E, VIDIN.HOST_HOLD_S, VIDIN.RING_E_SLOTS,
            VIDIN.RING_S_SLOTS] { s.start tag with vid := x.vid } x)) ∧
  (∀ (tag : Fin 64) (s : State) (c : Cmd), s.cmd? tag = some c → s.mayBegin c 0xB1 .vidin = true → s.vid.stopTag = none →
    (s.rd VIDIN.STAT_SESSION ≠ 1 → exec (.captureStop tag) s = .next (s.endOpen tag stBadParam).settle) ∧
    (s.rd VIDIN.STAT_SESSION = 1 → exec (.captureStop tag) s =
      .next ({ s.start tag with vid := { s.vid with stopTag := some (tag : Nat) } } : State).settle)) ∧
  (∀ (s : State) (t : Nat), s.vid.stopTag = some t → s.vid.openTag = none → s.scan.tag = none →
    s.captureStopped = s.sessionClose.complete t stOK s.vid.recorded s.vid.drops) ∧
  ∀ s : State, let x := s.sessionClose
    x.rd VIDIN.STAT_SESSION = 0 ∧ x.rd VIDIN.RING_E_SLOTS = 0 ∧ x.rd VIDIN.RING_S_SLOTS = 0 ∧
    x.rd VIDIN.STAT_STATE = (if s.rd VIDIN.STAT_STATE = 3 then 2 else s.rd VIDIN.STAT_STATE) ∧ x.vid.fifo = s.vid.fifo ∧
    Safety.only [VIDIN.STAT_SESSION, VIDIN.STAT_STATE, VIDIN.RING_E_SLOTS, VIDIN.RING_S_SLOTS]
      { s with vid := { s.vid with inFrame := false, piped := false, fillE := none, fillS := none, openTag := none, stopTag := none } } x

/-- R465, R466, R471, R474 to R481: a frame start takes for each tap the next slot that nothing holds, or drops the tap's
output; a whole frame is stored, measured and recorded; a bad one is counted and discarded; a missing one shows fault 0x0B04;
host holds are released by the bits written, and a record is popped. -/
def Obligations.CaptureFrames : Prop :=
  (∀ s : State, s.awake = true → s.ready .vidin = true → s.rd VIDIN.STAT_STATE = 3 → s.rd VIDIN.STAT_SESSION ≠ 0 →
    s.vid.inFrame = false → s.pllvOn = true →
    (s.vid.starts % (s.vid.skip + 1) ≠ 0 → exec .frameStart s = .next { s with
      vid := { s.vid with inFrame := true, piped := false, starts := s.vid.starts + 1 } }) ∧
    (s.vid.starts % (s.vid.skip + 1) = 0 →
      let e := if s.vid.eW = 0 then none else pickSlot (s.rd VIDIN.RING_E_SLOTS) s.vid.lastE s.heldE
      let t := if s.vid.sW = 0 then none else pickSlot (s.rd VIDIN.RING_S_SLOTS) s.vid.lastS s.heldS
      let dropE := decide (s.vid.eW ≠ 0) && e.isNone
      let dropS := decide (s.vid.sW ≠ 0) && t.isNone
      ∃ x : State, exec .frameStart s = .next x ∧
        x.vid = { s.vid with
          inFrame := true, piped := true, starts := s.vid.starts + 1, seq := s.vid.seq + 1, fillE := e, fillS := t,
          time := s.rd VIDIN.TIME_US, start := s.clock, exp := s.vid.sensExp, gain := s.vid.sensGain, dropped := dropE || dropS } ∧
        x.rd VIDIN.DROP_E = satAdd 65535 (s.rd VIDIN.DROP_E) (bit dropE) ∧
        x.rd VIDIN.DROP_S = satAdd 65535 (s.rd VIDIN.DROP_S) (bit dropS) ∧
        ((dropE || dropS) = true → Safety.event VIDIN.EVT_DROP .vidin s x) ∧
        ((dropE || dropS) = false → x.rd VIDIN.EVT_DROP = s.rd VIDIN.EVT_DROP) ∧
        (t.isSome = true → x.scan.cand.map (·.1) ≠ t) ∧
        Safety.only [VIDIN.DROP_E, VIDIN.DROP_S, VIDIN.EVT_DROP, VEC.PENDING_PENDING]
          { s with vid := x.vid, scan := { s.scan with cand := x.scan.cand } } x)) ∧
  (∀ (n : Nat) (last : Option Nat) (held : Nat → Bool),
    (∀ i : Nat, pickSlot n last held = some i → i < n ∧ held i = false) ∧
    (pickSlot n last held = none ↔ ∀ i : Nat, i < n → held i = true)) ∧
  (∀ (c : BitVec 8) (r : FrameEnd) (s : State), s.awake = true → s.vid.inFrame = true →
    let need := sensorW s.sensor * sensorH s.sensor * (if u8 s.sensor 10 = 2 then 2 else 1)
    ∃ x : State, x.rd VIDIN.CSI_ERR_ECC_CORR = satAdd 255 (s.rd VIDIN.CSI_ERR_ECC_CORR) c.toNat ∧
      Safety.only [VIDIN.CSI_ERR_ECC_CORR] { s with vid := { s.vid with inFrame := false, piped := false } } x ∧
      (s.vid.piped = false → exec (.frameEnd c r) s = .next x.captureStopped.settle) ∧
      (s.vid.piped = true → (∀ l : List (BitVec 16), r = .whole l → l.length = need →
        exec (.frameEnd c r) s = .next ((x.frameWhole (l.map (·.toNat))).captureStopped).settle)) ∧
      (s.vid.piped = true → (∀ l : List (BitVec 16), r = .whole l → l.length ≠ need) →
        let f := match r with
          | .headerBad => VIDIN.CSI_ERR_HDR_BAD
          | .crcBad => VIDIN.CSI_ERR_CRC
          | _ => VIDIN.CSI_ERR_SIZE
        ∃ y : State, exec (.frameEnd c r) s = .next y.captureStopped.settle ∧ y.rd f = satAdd 255 (s.rd f) 1 ∧
          Safety.only [f] { x with vid := { x.vid with fillE := none, fillS := none, drops := s.vid.drops + 1 } } y)) ∧
  (∀ (s : State) (l : List Nat),
    let rows := s.cropRows (s.ycc l)
    let a := match s.vid.fillE with
      | some i => s.writeMem .sram (slotAddr (s.rd VIDIN.RING_E_FIRST) (nv12 s.vid.eW s.vid.eH) i) (tapE rows s.vid.eW s.vid.eH)
      | none => s
    let b := match s.vid.fillS with
      | some i => a.writeMem .sram (slotAddr (s.rd VIDIN.RING_S_FIRST) (s.vid.sW * s.vid.sH) i) (tapS rows s.vid.sW s.vid.sH)
      | none => a
    let x := s.frameWhole l
    (s.vid.openTag = none → x.sram = b.sram) ∧ x.rd VIDIN.AE_MEAN = meanOf rows % 256 ∧ x.vid.recorded = s.vid.recorded + 1 ∧
    x.vid.drops = s.vid.drops + bit s.vid.dropped ∧ x.vid.fillE = none ∧ x.vid.fillS = none ∧
    x.vid.lastE = (s.vid.fillE <|> s.vid.lastE) ∧ x.vid.lastS = (s.vid.fillS <|> s.vid.lastS) ∧ x.vid.fifo.length ≤ max 8 s.vid.fifo.length ∧
    x.vid.fifo.getLast? = some { seq := s.vid.seq, time := s.vid.time, e := s.vid.fillE.getD 31, s := s.vid.fillS.getD 31,
                                 held := s.vid.hostHold && (s.vid.fillE.isSome || s.vid.fillS.isSome), mean := meanOf rows,
                                 exp := s.vid.exp, gain := s.vid.gain }) ∧
  (∀ s : State, s.awake = true → s.rd VIDIN.STAT_STATE = 3 → s.ready .vidin = true →
    (s.vid.openTag = none → exec .csiLink s = .next (({ s with
      vid := { s.vid with inFrame := false, piped := false, fillE := none, fillS := none } } : State).vidinRaise 0x0B04 2).settle) ∧
    (∀ t : Nat, s.vid.openTag = some t →
      exec .csiLink s = .next ((s.sessionClose.vidinRaise 0x0B04 1).endOpen t stTimeout).settle)) ∧
  (∀ (w : BitVec 32) (s : State), Safety.takes s .vidin →
    ∃ x : State, exec (.hostHoldRelease w) s = .next x.settle ∧
      (∀ i : Nat, i < 16 → x.rdBit VIDIN.HOST_HOLD_E i = (s.rdBit VIDIN.HOST_HOLD_E i && !w.getLsbD i) ∧
        x.rdBit VIDIN.HOST_HOLD_S i = (s.rdBit VIDIN.HOST_HOLD_S i && !w.getLsbD (16 + i))) ∧
      Safety.only [VIDIN.HOST_HOLD_E, VIDIN.HOST_HOLD_S] s.idleRestart x) ∧
  (∀ s : State, s.linkOn = true → s.untrained = false → s.has .vidin = true →
    exec .frameRecordPop s = .next { s.idleRestart with vid := { s.vid with fifo := s.vid.fifo.drop 1 } }) ∧
  ∀ (w : BitVec 32) (s : State), Safety.takes s .vidin → s.rd VIDIN.AE_EN = 0 →
    ∃ x : State, exec (.exposureWrite w) s = .next x ∧ x.rd VIDIN.EXPOSURE_EXP = field w 0 16 ∧
      x.rd VIDIN.EXPOSURE_GAIN = field w 16 16 ∧
      Safety.only [VIDIN.EXPOSURE_EXP, VIDIN.EXPOSURE_GAIN] { s.idleRestart with vid := { s.vid with expDue := true } } x

/-- R27, R487 to R491: SCAN starts on the host's session or opens one of tap S alone, and is BUSY where the host's session has no tap
S; a frame read is reported from its nearest symbol and completes the command, a frame without one is counted and the next is
taken, the time limit ends the command TIMEOUT, and a buffer that SCAN may not write
raises BANK_ACCESS with the refused address. -/
def Obligations.Scanning : Prop :=
  (∀ (tag : Fin 64) (s : State) (c : Cmd), s.cmd? tag = some c → s.mayBegin c 0xE0 .scan = true → s.scan.tag = none →
    s.mayWrite .scan c.p2 4096 = true →
    (s.rd VIDIN.STAT_SESSION = 1 → s.vid.sW = 0 → exec (.scan tag) s = .next (s.endOpen tag stBusy).settle) ∧
    (s.rd VIDIN.STAT_SESSION ≠ 1 ∨ s.vid.sW ≠ 0 → s.pllvOn = true ∨ s.rd VIDIN.STAT_SESSION ≠ 0 →
      ∃ x : State, exec (.scan tag) s =
          .next (if s.rd VIDIN.STAT_SESSION = 0 then x.sessionOpen 2 s.scanSession else x).settle ∧
        x.rd SCAN.STAT_STATE = 1 ∧ x.rd SCAN.STAT_FRAMES = 0 ∧
        Safety.only [SCAN.STAT_STATE, SCAN.STAT_FRAMES]
          { s.start tag with scan := {
            tag := some (tag : Nat), mask := if c.p0 = 0 then s.rd SCAN.CFG_SYMBOLOGIES else c.p0 % 16 } } x)) ∧
  (∀ (tag : Fin 64) (s : State) (c : Cmd), s.cmd? tag = some c → s.mayBegin c 0xE0 .scan = true → s.scan.tag = none →
    s.pllvOn = true ∨ s.rd VIDIN.STAT_SESSION ≠ 0 → s.mayWrite .scan c.p2 4096 = false →
    ∃ a : Nat, exec (.scan tag) s = .next ((s.raise 0x0ED0 0 a).endOpen tag stAborted).settle ∧ c.p2 ≤ a ∧ a < c.p2 + 4096 ∧
      s.mayWrite .scan a 1 = false) ∧
  (∀ (r : ScanResult) (s : State) (t slot seq : Nat), s.awake = true → s.scan.tag = some t → s.scan.cur = some (slot, seq) →
    let big := r.read.filter s.tooBig
    let good := (r.read.filter fun y => !s.tooBig y).filterMap fun y => (reported s.scan.mask y).map fun p => (y, p)
    ∃ x : State, x.rd SCAN.FAIL_UNREAD = satAdd 65535 (s.rd SCAN.FAIL_UNREAD) r.unread.toNat ∧
      x.rd SCAN.FAIL_REJECTED = satAdd 255 (s.rd SCAN.FAIL_REJECTED) big.length ∧
      x.rd SCAN.STAT_FRAMES = satAdd 255 (s.rd SCAN.STAT_FRAMES) 1 ∧ x.rd SCAN.STAT_LAST_MS = r.ms.toNat ∧
      Safety.only [SCAN.FAIL_UNREAD, SCAN.FAIL_REJECTED, SCAN.STAT_FRAMES, SCAN.STAT_LAST_MS]
        { s with scan := { s.scan with cur := none, frames := s.scan.frames + 1 } } x ∧
      (good = [] → ∃ y : State, exec (.scanFrameDone r) s = .next y.scanTake.settle ∧ y.rd SCAN.STAT_STATE = 1 ∧
        Safety.only [SCAN.STAT_STATE] x y) ∧
      (∀ (y : Symbol) (sym : Nat) (payload : List Nat) (c : Cmd), s.nearest good = some (y, sym, payload) → s.cmd? t = some c →
        ∃ z : State, exec (.scanFrameDone r) s =
            .next (z.scanEnd stOK (payload.length % 65536 + 65536 * sym) (s.scan.frames + 1)).settle ∧
          z.sram = (s.writeMem .sram c.p2 (scanHeader y sym payload.length (seq % 2 ^ 32) ++ payload)).sram ∧
          z.rd SCAN.COUNT_READS = satAdd 65535 (s.rd SCAN.COUNT_READS) 1 ∧ z.scan = x.scan ∧ z.cmds = s.cmds)) ∧
  (∀ (s : State) (l : List (Symbol × Nat × List Nat)) (p : Symbol × Nat × List Nat), s.nearest l = some p →
    let far := fun (y : Symbol) => (2 * (y.x.toNat : Int) - s.vid.sW) ^ 2 + (2 * (y.y.toNat : Int) - s.vid.sH) ^ 2
    p ∈ l ∧ ∀ b ∈ l, far p.1 < far b.1 ∨ (far p.1 = far b.1 ∧ p.2.1 ≤ b.2.1)) ∧
  (∀ (mask : Nat) (y : Symbol),
    (y.sym = 0#2 → reported mask y = if mask.testBit 0 then some (0, y.payload.map (·.toNat)) else none) ∧
    (y.sym = 1#2 → (y.payload.map (·.toNat)).head? ≠ some 0x30 →
      reported mask y = if mask.testBit 1 then some (1, y.payload.map (·.toNat)) else none) ∧
    (y.sym = 1#2 → (y.payload.map (·.toNat)).head? = some 0x30 → mask.testBit 2 = true →
      reported mask y = some (2, (y.payload.map (·.toNat)).drop 1)) ∧
    (y.sym = 1#2 → (y.payload.map (·.toNat)).head? = some 0x30 → mask.testBit 2 = false →
      reported mask y = if mask.testBit 1 then some (1, y.payload.map (·.toNat)) else none) ∧
    (y.sym = 2#2 → mask.testBit 2 = true → reported mask y = some (2, y.payload.map (·.toNat))) ∧
    (y.sym = 2#2 → mask.testBit 2 = false → mask.testBit 1 = true →
      reported mask y = some (1, 0x30 :: y.payload.map (·.toNat))) ∧
    (y.sym = 3#2 → reported mask y = if mask.testBit 3 then some (3, y.payload.map (·.toNat)) else none)) ∧
  (∀ s : State, s.awake = true → s.scan.tag.isSome = true →
    ∃ (n : Nat) (x : State), exec .scanTimeLimit s = .next (x.scanEnd stTimeout 0 n).settle ∧
      x.rd SCAN.COUNT_TIMEOUTS = satAdd 65535 (s.rd SCAN.COUNT_TIMEOUTS) 1 ∧
      Safety.only [SCAN.COUNT_TIMEOUTS] { s with free := s.free + 1 } x) ∧
  ∀ (s : State) (t status r0 r1 : Nat), s.scan.tag = some t →
    ∃ x : State, s.scanEnd status r0 r1 = (if s.rd VIDIN.STAT_SESSION = 2 then x.sessionClose else x).complete t status r0 r1 ∧
      x.rd SCAN.STAT_STATE = 0 ∧ Safety.only [SCAN.STAT_STATE] { s with scan := {} } x

/-- R494, R496 to R512: STREAM_OPEN opens a stream that its session, stores and level allow; STREAM_CLOSE drops the waiting frame;
SLICE_BUF lends a buffer, unless ENC may not write it (R27); REFRESH ends the sweep; a slice that ENC may code fills the first lent
buffer, and the last of a frame fills the bucket and moves the sweep; what ENC may code keeps a block's vector in the search range, and
in a refreshed column its reference in the columns that the sweep has refreshed, 8 pixels from their edge; and the rate takes only
values of its range (to which the model holds MAX_KBPS too, its own choice: log entry 56). -/
def Obligations.Encoding : Prop :=
  (∀ (tag : Fin 64) (s : State) (c : Cmd), s.cmd? tag = some c → s.mayBegin c 0xC0 .enc = true → s.pllvOn = true →
    let w := c.p0 % 65536
    let h := c.p0 / 65536
    let decim := c.p2 / 256 % 256
    let ok := decide (s.rd VIDIN.STAT_SESSION = 1) && decide (s.vid.eW = w) && decide (s.vid.eH = h) &&
      decide (s.storesNeeded ≤ ringSlots (s.ownRun .enc).2 (s.storeSize w h)) &&
      decide (w * h / 256 * sensorFps s.sensor ≤ 108000 * decim)
    (ok = false → exec (.encStreamOpen tag) s = .next (s.endOpen tag stBadParam).settle) ∧
    (ok = true → s.rd ENC.STAT_STATE ≠ 0 → exec (.encStreamOpen tag) s = .next (s.endOpen tag stBusy).settle) ∧
    (ok = true → s.rd ENC.STAT_STATE = 0 →
      ∃ x : State, exec (.encStreamOpen tag) s = .next (x.complete tag stOK
          (levelOf w h (sensorFps s.sensor) decim (if c.p1.testBit 16 then c.p3 / 65536 else c.p1 % 65536) + 256 * s.storesNeeded)
          0).settle ∧
        x.rd ENC.STAT_STATE = 1 ∧ x.rd ENC.STAT_SWEEP_POS = 0 ∧ x.rd ENC.RATE_KBPS = c.p1 % 65536 ∧
        x.rd ENC.RATE_MAX_KBPS = c.p3 / 65536 % 65536 ∧ x.rd ENC.BUCKET_FILL = 0 ∧ x.enc.w = w ∧ x.enc.h = h ∧
        x.enc.level = levelOf w h (sensorFps s.sensor) decim (if c.p1.testBit 16 then c.p3 / 65536 else c.p1 % 65536) ∧
        x.enc.vbr = c.p1.testBit 16 ∧ x.enc.sweep = max 1 (c.p2 % 256) ∧ x.enc.decim = decim ∧
        x.enc.sliceMax = c.p3 % 65536 ∧ x.enc.idrDue = true ∧ x.enc.newSweep = true ∧ x.enc.lent = s.enc.lent ∧
        x.enc.cur = none ∧ x.enc.wait = none ∧
        Safety.only [ENC.STAT_STATE, ENC.STAT_SWEEP_POS, ENC.RATE_KBPS, ENC.RATE_MAX_KBPS, ENC.BUCKET_FILL]
          { s with enc := x.enc } x)) ∧
  (∀ (tag : Fin 64) (s : State) (c : Cmd), s.cmd? tag = some c → s.mayBegin c 0xC1 .enc = true → s.enc.closeTag = none →
    (s.rd ENC.STAT_STATE = 0 → exec (.encStreamClose tag) s = .next (s.endOpen tag stBadParam).settle) ∧
    (s.rd ENC.STAT_STATE ≠ 0 → exec (.encStreamClose tag) s =
      .next ({ s.start tag with enc := { s.enc with closeTag := some (tag : Nat), wait := none } } : State).settle)) ∧
  (∀ (tag : Fin 64) (s : State) (c : Cmd), s.cmd? tag = some c → s.mayBegin c 0xC2 .enc = true → s.enc.lent.length < 16 →
    s.mayWrite .enc c.p0 c.p1 = true →
    ∃ x : State, exec (.sliceBuf tag) s = .next x.settle ∧ x.rd ENC.STAT_LENT = s.enc.lent.length + 1 ∧
      x.rd ENC.STAT_NO_BUF = 0 ∧
      Safety.only [ENC.STAT_LENT, ENC.STAT_NO_BUF]
        { s.start tag with enc := { s.enc with lent := s.enc.lent ++ [(tag : Nat)] } } x) ∧
  (∀ (tag : Fin 64) (s : State) (c : Cmd), s.cmd? tag = some c → s.mayBegin c 0xC2 .enc = true → s.enc.lent.length < 16 →
    s.mayWrite .enc c.p0 c.p1 = false →
    exec (.sliceBuf tag) s = .next ((s.refuseWrite .enc c.p0 c.p1 tag).stopEnc).settle) ∧
  (∀ (tag : Fin 64) (s : State) (c : Cmd), s.cmd? tag = some c → s.mayBegin c 0xC3 .enc = true →
    (s.rd ENC.STAT_STATE = 0 → exec (.refresh tag) s = .next (s.endOpen tag stBadParam).settle) ∧
    (s.rd ENC.STAT_STATE ≠ 0 → exec (.refresh tag) s = .next ({ s.start tag with
      enc := { s.enc with newSweep := true, idrDue := s.enc.idrDue || c.p0.testBit 0,
                          refresh := s.enc.refresh ++ [(tag : Nat)] } } : State).settle)) ∧
  (∀ (r : Slice) (s : State) (f : EncFrame) (t : Nat) (rest : List Nat) (c : Cmd), s.awake = true → s.pllvOn = true →
    s.enc.cur = some f → s.enc.lent = t :: rest → s.cmd? t = some c →
    (s.sliceOk f r (min s.enc.sliceMax (c.p1 - 96)) = false → exec (.sliceDone r) s = .next s) ∧
    (s.sliceOk f r (min s.enc.sliceMax (c.p1 - 96)) = true →
      let e := s.enc
      let n := r.mbs.length
      let last := decide (e.nextMb + n = e.mbs)
      let data := (r.params ++ r.nal).map (·.toNat)
      let flags := bit (e.nextMb == 0) + 2 * bit last + 4 * bit e.idr + 8 * bit (e.nextMb == 0 && e.params) +
        16 * bit (e.pos + 1 == e.sweep) + 32 * bit e.resumed
      ∃ x : State, exec (.sliceDone r) s =
          .next (let y := x.complete t stOK (data.length + 65536 * flags + 2 ^ 24 * r.qp.toNat) f.seq
            if last then y.encFrameDone else y.sliceDue).settle ∧
        x.sram = (s.writeMem .sram c.p0 (leBytes 2 data.length ++ [flags, r.qp.toNat] ++ leBytes 4 (f.seq % 2 ^ 32) ++
          leBytes 4 f.time ++ leBytes 2 e.nextMb ++ leBytes 2 n ++ data)).sram ∧
        x.rd ENC.COUNT_REQUANT = satAdd 255 (s.rd ENC.COUNT_REQUANT) r.requant.toNat ∧
        x.rd ENC.COUNT_ECC = satAdd 255 (s.rd ENC.COUNT_ECC) (s.badMbs f e.nextMb n) ∧ x.rd ENC.STAT_LENT = rest.length % 32 ∧
        x.enc = { e with
          nextMb := e.nextMb + n, bytes := e.bytes + data.length, lent := rest,
          qp := if e.nextMb = 0 then r.qp.toNat else e.qp } ∧ x.cmds = s.cmds)) ∧
  (∀ (s : State) (f : EncFrame) (r : Slice) (limit : Nat), s.sliceOk f r limit = true →
    r.mbs ≠ [] ∧ s.enc.nextMb + r.mbs.length ≤ s.enc.mbs ∧ r.nal.length ≤ limit ∧
    ∀ (i : Nat) (c : MbCode), r.mbs[i]? = some c → s.mbOk f (s.enc.nextMb + i) c = true) ∧
  (∀ (s : State) (f : EncFrame) (m : Nat),
    let col := m % (s.enc.w / 16)
    let fresh := s.enc.refreshedTo s.enc.pos ≤ col ∧ col < s.enc.refreshedTo (s.enc.pos + 1)
    (s.enc.idr = true → ∀ c : MbCode, s.mbOk f m c = true → ∃ qp grey, c = .intra qp grey) ∧
    (fresh → s.badMb f m = false → ∀ c : MbCode, s.mbOk f m c = true → ∃ qp grey, c = .intra qp grey) ∧
    (s.enc.full = true → ∀ c : MbCode, s.mbOk f m c = true → ∀ bs, c ≠ .inter bs) ∧
    ∀ (bs : List MvBlock) (b : MvBlock), s.mbOk f m (.inter bs) = true → b ∈ bs →
      b.dx.toInt.natAbs ≤ 256 ∧ b.dy.toInt.natAbs ≤ 128 ∧
      (col < s.enc.refreshedTo (s.enc.pos + 1) →
        0 ≤ 16 * (col : Int) + b.x.toNat + b.dx.toInt / 4 ∧
        16 * (col : Int) + b.x.toNat + b.dx.toInt / 4 + b.w.toNat + 8 ≤ 16 * (s.enc.refreshedTo s.enc.pos : Int))) ∧
  (∀ s : State,
    let e := s.enc
    let x := s.encFrameDone
    let past : Rat := e.fill + ((8 * e.bytes : Nat) : Rat) - max e.fill (e.size : Rat)
    x.enc.cur = none ∧ x.enc.fill = e.fill + ((8 * e.bytes : Nat) : Rat) ∧ x.enc.lastQp = some e.qp ∧
    x.enc.encoded = e.encoded + 1 ∧ x.enc.pos = (if e.pos + 1 < e.sweep then e.pos + 1 else 0) ∧ x.enc.store = 1 - e.store ∧
    x.rd ENC.STAT_QP = e.qp % 64 ∧
    x.rd ENC.OVERSHOOT_BYTES = satAdd 4294967295 (s.rd ENC.OVERSHOOT_BYTES) (if 0 < past then (past / 8).floor.toNat else 0) ∧
    (e.sweep ≤ e.pos + 1 → x.flag ENC.EVT_SWEEP_DONE = true) ∧ (e.idr = true → x.flag ENC.EVT_IDR = true) ∧
    x.cmds = s.cmds ∧ x.vid = s.vid) ∧
  (∀ (s : State) (t : Nat), s.enc.closeTag = some t →
    s.encFinish stAborted = (s.encClosed stAborted).complete t stOK s.enc.encoded s.enc.skipped) ∧
  ∀ (w : BitVec 32) (s : State), Safety.takes s .enc →
    ∃ x : State, exec (.rateWrite w) s = .next x ∧ x.rd ENC.RATE_KBPS = clampNat 64 8000 (field w 0 16) ∧
      x.rd ENC.RATE_MAX_KBPS = (if s.enc.vbr then clampNat (clampNat 64 8000 (field w 0 16)) 8000 (field w 16 16) else 0) ∧
      Safety.only [ENC.RATE_KBPS, ENC.RATE_MAX_KBPS] s.idleRestart x

/-- R513 to R522: STREAM_OPEN lays out its picture buffers; DECODE_AU queues up to four access units, and is refused where no
stream is open, DEC may not read it (R27) or SHED_CODEC is in force; STREAM_CLOSE waits for what is queued unless it is told to drop
it; a decoded picture is written to its buffer, becomes the reference there and completes with its sizes; an access unit that no
stream can hold, or none to start from, completes so; what is lost of a picture is concealed, and nothing else of it; and picture
holds are released by the bits written. -/
def Obligations.Decoding : Prop :=
  (∀ (tag : Fin 64) (s : State) (c : Cmd), s.cmd? tag = some c → s.mayBegin c 0xD0 .dec = true → s.pllvOn = true →
    let w := c.p0 % 65536
    let h := c.p0 / 65536
    let n := min 8 (ringSlots (s.ownRun .dec).2 (nv12 w h))
    (n < 2 → exec (.decStreamOpen tag) s = .next (s.endOpen tag stBadParam).settle) ∧
    (2 ≤ n → s.rd DEC.STAT_STATE ≠ 0 →
      exec (.decStreamOpen tag) s = .next (s.endOpen tag stBusy).settle) ∧
    (2 ≤ n → s.rd DEC.STAT_STATE = 0 →
      ∃ x : State, exec (.decStreamOpen tag) s = .next (x.complete tag stOK n 0).settle ∧ x.rd DEC.STAT_STATE = 1 ∧
        x.rd DEC.STAT_BUFFERS = n ∧
        (∀ i : Nat, i < 8 → x.rd (picBase i) = if i < n then slotAddr (s.ownRun .dec).1 (nv12 w h) i % 2 ^ 32 else 0) ∧
        Safety.only ([DEC.STAT_STATE, DEC.STAT_BUFFERS] ++ (List.range 8).map picBase) { s with dec := { w := w, h := h } } x)) ∧
  (∀ (tag : Fin 64) (s : State) (c : Cmd), s.cmd? tag = some c → s.mayBegin c 0xD1 .dec = true → s.pllvOn = true →
    s.dec.closeTag = none →
    (s.rd DEC.STAT_STATE = 0 → exec (.decodeAu tag) s = .next (s.endOpen tag stBadParam).settle) ∧
    (s.rd DEC.STAT_STATE ≠ 0 → s.mayRead .dec c.p0 c.p1 = true → s.shed = true →
      exec (.decodeAu tag) s = .next (s.shedLoss.complete tag stBusy 0 0).settle) ∧
    (s.rd DEC.STAT_STATE ≠ 0 → s.mayRead .dec c.p0 c.p1 = false →
      exec (.decodeAu tag) s = .next ((s.refuseRead .dec c.p0 c.p1 tag).stopDec).settle) ∧
    (s.rd DEC.STAT_STATE ≠ 0 → s.mayRead .dec c.p0 c.p1 = true → s.shed = false → s.dec.queue.length < 4 →
      exec (.decodeAu tag) s = .next ({ s.start tag with dec := { s.dec with queue := s.dec.queue ++ [((tag : Nat), c.p2.testBit 0)] } } : State).settle)) ∧
  (∀ (tag : Fin 64) (s : State) (c : Cmd), s.cmd? tag = some c → s.mayBegin c 0xD2 .dec = true → s.dec.closeTag = none →
    (s.rd DEC.STAT_STATE = 0 → exec (.decStreamClose tag) s = .next (s.endOpen tag stBadParam).settle) ∧
    (s.rd DEC.STAT_STATE ≠ 0 →
      let x : State := { s.start tag with dec := { s.dec with closeTag := some (tag : Nat) } }
      exec (.decStreamClose tag) s = .next (if c.p0.testBit 0 then x.decDrop else x).settle)) ∧
  (∀ (s : State) (b t : Nat) (hold : Bool) (q : List (Nat × Bool)) (c : Cmd), s.awake = true → s.pllvOn = true →
    s.dec.cur = some b → s.dec.queue = (t, hold) :: q → s.cmd? t = some c →
    let x := (s.readMem .sram c.p0 c.p1).1
    exec (.auDecoded .unsupported) s = .next (x.auUnsupported t).settle ∧
    ∀ p : AuPicture,
      (s.dec.w < 16 * p.w.toNat ∨ s.dec.h < 16 * p.h.toNat → exec (.auDecoded (.picture p)) s = .next (x.auUnsupported t).settle) ∧
      (16 * p.w.toNat ≤ s.dec.w → 16 * p.h.toNat ≤ s.dec.h →
        let q : AuPicture :=
          { p with syn := if (s.badWord .sram c.p0 c.p1).isSome = true ∧ p.syn = 0 then 1 else p.syn }
        ∃ y : State, y.rd DEC.COUNT_SYNTAX = satAdd 255 (s.rd DEC.COUNT_SYNTAX) q.syn.toNat ∧
          y.rd DEC.COUNT_ASO = satAdd 255 (s.rd DEC.COUNT_ASO) q.aso.toNat ∧ Safety.only [DEC.COUNT_SYNTAX, DEC.COUNT_ASO] x y ∧
          (s.dec.ref = none → p.idr = false → p.recovery = none →
            exec (.auDecoded (.picture p)) s = .next (y.auDone.complete t stOK 0x4F 0).settle) ∧
          (s.dec.ref ≠ none ∨ p.idr = true ∨ p.recovery ≠ none →
            exec (.auDecoded (.picture p)) s = .next (y.auPicture t b hold q).settle))) ∧
  (∀ (s : State) (t : Nat), ∃ x : State, s.auUnsupported t = x.complete t stUnsupported 15 0 ∧ x.rd DEC.STAT_RECOVERED = 0 ∧
    x.rd DEC.COUNT2_UNSUPPORTED = satAdd 255 (s.rd DEC.COUNT2_UNSUPPORTED) 1 ∧ Safety.event DEC.EVT_UNSUPPORTED .dec s x ∧
    Safety.only [DEC.STAT_RECOVERED, DEC.COUNT2_UNSUPPORTED, DEC.EVT_UNSUPPORTED, VEC.PENDING_PENDING]
      { s with dec := { s.dec with cur := none, queue := s.dec.queue.drop 1, period := none, lossDue := false } } x) ∧
  (∀ (s : State) (t b : Nat) (hold : Bool) (p : AuPicture), b < 8 →
    let w := p.w.toNat
    let h := p.h.toNat
    let lost := p.lostCount
    let gaps := p.gaps.toNat
    let idr := p.idr || (s.dec.ref.isSome && (s.rd DEC.STAT_WIDTH_MB != w || s.rd DEC.STAT_HEIGHT_MB != h))
    let z := s.auBytes { p with idr := idr }
    ∃ (x : State) (rec : Nat), s.auPicture t b hold p = x.complete t stOK
        (b + 16 * bit idr + 32 * rec + 128 * bit (gaps != 0) + 256 * min 255 (p.syn.toNat + p.aso.toNat) + 65536 * lost)
        (w + 256 * h + 65536 * p.frameNum.toNat) ∧
      x.sram = (z.1.writeMem .sram (s.rd (picBase b)) z.2).sram ∧
      x.dec.ref = some b ∧ x.dec.last = some b ∧ x.dec.cur = none ∧ x.dec.queue = s.dec.queue.drop 1 ∧
      x.dec.pictures = s.dec.pictures + 1 ∧ x.dec.concealed = s.dec.concealed + lost ∧
      x.rd DEC.COUNT_CONCEALED = satAdd 65535 (s.rd DEC.COUNT_CONCEALED) lost ∧
      x.rd DEC.COUNT2_GAPS = satAdd 255 (s.rd DEC.COUNT2_GAPS) gaps ∧ x.rd DEC.STAT_WIDTH_MB = w ∧
      x.rd DEC.STAT_HEIGHT_MB = h ∧ x.rd DEC.PIC_HOLD_REF = 2 ^ b ∧
      (hold = true → x.rdBit DEC.PIC_HOLD_HOLD b = true) ∧ (hold = false → x.rd DEC.PIC_HOLD_HOLD = s.rd DEC.PIC_HOLD_HOLD) ∧
      (s.dec.ref = none → x.flag DEC.EVT_SYNC = true) ∧ x.rd DEC.STAT_RECOVERED = (if s.dec.lossDue then 0 else rec) ∧
      (s.dec.lossDue = true → x.dec.period = none) ∧
      (lost ≠ 0 ∨ gaps ≠ 0 → rec = 0 ∧ x.dec.period = none) ∧
      (lost = 0 → gaps = 0 → idr = true → rec = 1 ∧ x.dec.period = none) ∧
      (lost = 0 → gaps = 0 → idr = false → s.dec.period = none → p.recovery = none →
        rec = s.rd DEC.STAT_RECOVERED ∧ x.dec.period = none) ∧
      (∀ m : BitVec 16, lost = 0 → gaps = 0 → idr = false → s.dec.period = none → p.recovery = some m →
        (m = 0 → rec = 1) ∧ (m ≠ 0 → rec = s.rd DEC.STAT_RECOVERED ∧ (s.dec.lossDue = false → x.dec.period = some m.toNat))) ∧
      (∀ n : Nat, lost = 0 → gaps = 0 → idr = false → s.dec.period = some n → p.recovery = none →
        (n ≤ 1 → rec = 1) ∧ (1 < n → rec = s.rd DEC.STAT_RECOVERED ∧ (s.dec.lossDue = false → x.dec.period = some (n - 1)))) ∧
      x.cmds = s.cmds) ∧
  (∀ (p : AuPicture) (pic : List Nat) (ref : Nat → Nat) (k : Nat), (p.conceal pic ref k).length = pic.length ∧
    (p.lostCount = 0 → p.conceal pic ref k = pic)) ∧
  ∀ (w : BitVec 32) (s : State), Safety.takes s .dec →
    ∃ x : State, exec (.picHoldRelease w) s = .next x.settle ∧
      (∀ i : Nat, i < 8 → x.rdBit DEC.PIC_HOLD_HOLD i = (s.rdBit DEC.PIC_HOLD_HOLD i && !w.getLsbD i)) ∧
      Safety.only [DEC.PIC_HOLD_HOLD] s.idleRestart x

/-! ### Accelerometer, banks, register space, link -/

/-- R536 to R539: a sample of the accelerometer begins or follows a shock, a read that fails three times or a wrong
identity makes it absent and raises fault 0x0F01, and a retry that reads the identity clears the fault; a shock's end
is recorded, counted and shown. R542, R543: a bank's supply that rises makes the bank present with its class open, the class is
then selected, and the supply's fall makes the bank absent; with HL the reset pin reads high, with HD a strobe that is active
raises STROBE_FAULT, and without MX the accelerometer acknowledges nothing. -/
def Obligations.AccelerometerAndBanks : Prop :=
  ((∀ (ident : Option (BitVec 8)) (s : State), s.accelOn = true → s.hasFault 0x0F01 = false → s.accel.ready = true →
     exec (.accelSample ident none) s = .next s.accelNack ∧
     ∀ d : List (BitVec 8), (s.bank 3 = false → exec (.accelSample ident (some d)) s = .next s.accelNack) ∧
      (s.bank 3 = true → exec (.accelSample ident (some d)) s =
       .next (({ s with accel := { s.accel with nacks := 0 } } : State).shockSample (d.map (·.toNat))))) ∧
   (∀ (data : Option (List (BitVec 8))) (s : State), s.accelOn = true → s.hasFault 0x0F01 = false → s.accel.ready = false →
     exec (.accelSample none data) s = .next s.accelNack ∧
     (∀ ident : Option (BitVec 8), s.bank 3 = false → exec (.accelSample ident data) s = .next s.accelNack) ∧
     ∀ v : BitVec 8, s.bank 3 = true → (v.toNat ≠ u8 s.accelBead 3 → exec (.accelSample (some v) data) s = .next s.accelAbsent) ∧
       (v.toNat = u8 s.accelBead 3 → ∀ d : List (BitVec 8), data = some d → exec (.accelSample (some v) data) s =
         .next (({ s with accel := { s.accel with ready := true, nacks := 0 } } : State).shockSample (d.map (·.toNat))))) ∧
   (∀ s : State, (s.accel.nacks < 2 → s.accelNack = { s with accel := { s.accel with nacks := s.accel.nacks + 1 } }) ∧
     (2 ≤ s.accel.nacks → s.accelNack = s.accelAbsent) ∧
     s.accelAbsent = (({ s with accel := {} } : State).raise 0x0F01 0 (u8 s.accelBead 0)).settle) ∧
   (∀ (s : State) (data : List Nat),
     let mag := fun i => s.axisMag data i
     let top := max (mag 0) (max (mag 1) (mag 2))
     (s.accel.shock = none → top < u16 s.accelBead 10 * 100 → s.shockSample data = s) ∧
     (s.accel.shock = none → u16 s.accelBead 10 * 100 ≤ top → ∃ i : Nat, i < 3 ∧ mag i = top ∧ (∀ j : Nat, j < i → mag j < top) ∧
       s.shockSample data = { s with accel := { s.accel with shock := some ⟨top, i, 1, 1, 0⟩ } }) ∧
     (∀ x : Shock, s.accel.shock = some x → x.quiet = 2 → 4 * top < 3 * (u16 s.accelBead 10 * 100) →
       ∃ y : Shock, s.shockSample data = s.shockEnd y ∧ y.peak = max x.peak top ∧
         (top < u16 s.accelBead 10 * 100 → y.last = x.last)) ∧
     (∀ x : Shock, s.accel.shock = some x → (x.quiet < 2 ∨ 3 * (u16 s.accelBead 10 * 100) ≤ 4 * top) →
       ∃ y : Shock, s.shockSample data = { s with accel := { s.accel with shock := some y } } ∧ y.n = x.n + 1 ∧
         y.peak = max x.peak top ∧ y.last = (if u16 s.accelBead 10 * 100 ≤ top then y.n else x.last) ∧
         y.quiet = if 4 * top < 3 * (u16 s.accelBead 10 * 100) then x.quiet + 1 else 0)) ∧
   (∀ (s : State) (x : Shock),
     let y := s.shockEnd x
     y.rd LEDGER.SHOCK_PEAK_MG = min 65535 (x.peak / 100) ∧
     y.rd LEDGER.SHOCK_COUNT = satAdd 255 (s.rd LEDGER.SHOCK_COUNT) 1 ∧ y.accel.shock = none ∧
     Store.get 0 y.led.acc cntShocks = Store.get 0 s.led.acc cntShocks + 1 ∧
     (s.led.buf.length < appendRoom → y.led.buf.length = s.led.buf.length + 1) ∧ Safety.sameBytes s y) ∧
   ∀ (v : BitVec 8) (s : State), s.accelOn = true → s.hasFault 0x0F01 = true → s.bank 3 = true →
     v.toNat = u8 s.accelBead 3 → exec (.accelRetry (some v)) s =
       .next (({ s with accel := { s.accel with ready := true, nacks := 0 } } : State).clearFault 0x0F01).settle) ∧
  ((∀ (b : IoBank) (s : State), s.bank (bankIdx b) = false →
     ∃ x : State, exec (.vioRise b) s = .next x ∧ x.bank (bankIdx b) = true ∧ x.rdBit CORE.IO_STAT_CLASS33 (bankIdx b) = false ∧
       (∀ i : Nat, i ≠ bankIdx b → x.bank i = s.bank i) ∧ Safety.only [CORE.IO_STAT_PRESENT, CORE.IO_STAT_CLASS33] s x) ∧
   (∀ (b : IoBank) (high : Bool) (s : State), s.bank (bankIdx b) = true →
     ∃ x : State, exec (.vioClassSelect b high) s = .next x ∧ x.rdBit CORE.IO_STAT_CLASS33 (bankIdx b) = high ∧
       (∀ i : Nat, i ≠ bankIdx b → x.rdBit CORE.IO_STAT_CLASS33 i = s.rdBit CORE.IO_STAT_CLASS33 i) ∧
       Safety.only [CORE.IO_STAT_CLASS33] s x) ∧
   ∀ (b : IoBank) (s : State), s.bank (bankIdx b) = true →
     ∃ x : State, x.bank (bankIdx b) = false ∧ (∀ i : Nat, i ≠ bankIdx b → x.bank i = s.bank i) ∧
       Safety.only [CORE.IO_STAT_PRESENT, CORE.IO_STAT_CLASS33] s x ∧
       (b = .hl → exec (.vioFall b) s = .next (if s.boot.pinLow then
         { x with boot := { s.boot with pinLow := false, bootSrc := false } } else x)) ∧
       (b = .mx → exec (.vioFall b) s = .next (if s.awake then x.mxGone else x)) ∧
       (b = .hd → exec (.vioFall b) s = .next (if s.awake && s.boot.strobesKnown && s.print.strobes != 0 then
         ((x.raise 0x0630 0 s.boot.strobeIdle).quiet).settle else x)) ∧
       (b = .fl ∨ b = .cam → exec (.vioFall b) s = .next x))

/-- R160, R174, R188: a write that is a command of its own takes effect where the link executes it and the rod takes it; else the
link is silent, counts UNTRAINED, or nothing is written. R4, R10 to R13, R181 to R188, R567: a write of a hole is ignored, one to a rod that takes none is BUSY, and any other takes
effect by its register: RW bits take the written value, a 1 clears a W1C bit, other bits stay, and a field with a range holds
the nearest limit. A hole reads 0, and a full read clears RC bits. -/
def Obligations.RegisterSpace : Prop :=
  (∀ (s : State) (r : Rod) (f : State → State),
    (Safety.takes s r → s.hostReg r f = f s.idleRestart) ∧ (s.linkBegin.linkOn = false → s.hostReg r f = s.linkBegin) ∧
    (s.linkOn = true → s.untrained = true → s.hostReg r f = s.idleRestart.linkErr LINK.ERR_UNTRAINED) ∧
    (s.linkOn = true → s.untrained = false → (s.has r = false ∨ s.writesBlocked r = true) → s.hostReg r f = s.idleRestart)) ∧
  (∀ (a w : BitVec 32) (s : State),
    (Safety.takes s .core → a.toNat % 4 = 0 → 0x40000000 ≤ a.toNat → a.toNat < 0x60000000 →
      exec (.registerWrite a w) s = .next (s.idleRestart.writeWordAt a.toNat w).1.settle) ∧
    (a.toNat % 4 ≠ 0 ∨ a.toNat < 0x40000000 ∨ 0x60000000 ≤ a.toNat → exec (.registerWrite a w) s = .next s)) ∧
  (∀ (s : State) (a : Nat) (w : Word), s.isHole a = true →
    s.writeWordAt a w = (s, stHole) ∧ s.readWord a = 0 ∧ s.readEffect a = s) ∧
  (∀ (s : State) (a : Nat) (w : Word) (r : Rod), s.isHole a = false → isDoorbell a = false → blockRod? a = some r →
    s.writesBlocked r = true → s.writeWordAt a w = (s, stBusy)) ∧
  (∀ (s : State) (a : Nat) (w : Word), s.isHole a = false → isDoorbell a = false →
    (∀ r : Rod, blockRod? a = some r → s.writesBlocked r = false) → laneOf RASTER.RES_WIN0_ID.addr a = none →
    laneOf LOOP.COEF_WIN0_LOOP.addr a = none →
    (∀ e : Effect, effects.find? (fun e => e.addr == a) = some e → s.writeWordAt a w = (e.act s w, stOK)) ∧
    (∀ i : RegInfo, effects.find? (fun e => e.addr == a) = none → regInfo? a = some i →
      s.writeWordAt a w = (s.plainWrite i w, stOK))) ∧
  (∀ (s : State) (i : RegInfo) (w : Word), let x := s.plainWrite i w
    (∀ l ∈ limits, l.fld.addr = i.addr → l.lo ≤ x.rd l.fld ∧ x.rd l.fld ≤ l.hi ∧
      (∀ b : Nat, b < l.fld.wid → i.rw.testBit (l.fld.lo + b) = true) →
        x.rd l.fld = clampNat l.lo l.hi (field w l.fld.lo l.fld.wid)) ∧
    ((∀ l ∈ limits, l.fld.addr ≠ i.addr) → ∀ b : Nat, b < 32 → (x.reg i.addr).getLsbD b =
      if i.rw.testBit b then w.getLsbD b else (s.reg i.addr).getLsbD b && !(i.w1c.testBit b && w.getLsbD b)) ∧
    x = { s with regs := x.regs } ∧ (∀ a : Nat, a ≠ i.addr → x.reg a = s.reg a)) ∧
  ∀ (s : State) (a : Nat) (i : RegInfo), s.isHole a = false → a ≠ VIDIN.FRAME_WIN3_WORD.addr → regInfo? a = some i →
    let x := s.readEffect a
    (∀ b : Nat, b < 32 → (x.reg a).getLsbD b = ((s.reg a).getLsbD b && !i.rc.testBit b)) ∧
    x = { s with regs := x.regs } ∧ ∀ c : Nat, c ≠ a → x.reg c = s.reg c

/-- R161, R163 to R171, R174, R180, R190, R193: HL_CS_N that falls while TALLY is being entered returns the device first; with LINK not READY nothing is driven; a header that is refused sets its errors, counts them
and is answered with its status; POLL is answered with a status byte; a READ is answered with its bytes, a WRITE is
performed unless its data CRC is wrong; and a transaction cut short has its effect but no answer. -/
def Obligations.LinkTransactions : Prop :=
  (∀ s : State, (s.base = .tally → s.wake.entering = true → s.inReset = false → s.bank 0 = true → s.csFall = s.exitTally) ∧
    (s.base ≠ .tally ∨ s.wake.entering = false ∨ s.inReset = true ∨ s.bank 0 = false → s.csFall = s ∧
      s.linkBegin.linkOn = s.linkOn) ∧ (s.linkOn = true → s.linkBegin = s.idleRestart)) ∧
  (∀ s : State, s.linkBegin.linkOn = false → ∀ (h : Header) (o : Option Header) (d : List (BitVec 8)) (c : BitVec 16)
      (k : Option (BitVec 16)) (b : Bool), let x : Host.Outcome State Fault Refusal := .next { s.linkBegin with reply := [] }
    exec (.read h) s = x ∧ exec (.write h d c) s = x ∧ exec (.poll h) s = x ∧ exec (.train h b c) s = x ∧ exec .linkReset s = x ∧
    exec (.shortTransaction o d k) s = x ∧ exec (.transactionTimeout h d c c) s = x) ∧
  (∀ (s : State) (n : Nat) (l : List Nat),
    s.send n l = { s with
      reply := (n + 16 * bit (s.rd VEC.PENDING_PENDING != 0) + 32 * bit (s.reg LINK.ERR_ALIGN.addr != 0) + 128) :: l }) ∧
  (∀ (s : State) (f : Fld), f ∈ [LINK.ERR_ALIGN, LINK.ERR_HCRC, LINK.ERR_FRAME, LINK.ERR_LEN, LINK.ERR_DCRC, LINK.ERR_SHORT,
      LINK.ERR_UNTRAINED, LINK.ERR_TRAIN_FAIL, LINK.ERR_RESYNC, LINK.ERR_TIMEOUT] →
    (s.linkErr f).rd f = 1 ∧ (s.linkErr f).rd LINK.ERR_COUNT_COUNT = satAdd 65535 (s.rd LINK.ERR_COUNT_COUNT) 1 ∧
    Safety.only [f, LINK.ERR_COUNT_COUNT] s (s.linkErr f)) ∧
  (∀ (s : State) (h : Header) (c : Nat) (f : Fld), c ∈ statusOrder →
    let zeros := if headerSync h && headerCrc h && headerOp h == 1 && 1 ≤ h.len.toNat && h.len.toNat ≤ 4096 then
      (s.linkErr f).withCrc (List.replicate h.len.toNat 0) else []
    s.refuse h [(c, f)] = (s.linkErr f).send c zeros) ∧
  (∀ (h : Header) (s : State),
    (headerSync h = false → s.headerErrs h = [(stAborted, LINK.ERR_FRAME)]) ∧
    (headerSync h = true → headerCrc h = false → s.headerErrs h = [(stAborted, LINK.ERR_HCRC)]) ∧
    (headerSync h = true → headerCrc h = true → (s.rd LINK.AGREED_STATE = 2 ∨ s.rd LINK.AGREED_STATE = 4) →
      s.headerErrs h = [(stAborted, LINK.ERR_UNTRAINED)]) ∧
    (headerSync h = true → headerCrc h = true → s.rd LINK.AGREED_STATE ≠ 2 → s.rd LINK.AGREED_STATE ≠ 4 →
      (headerOp h = 0 → s.headerErrs h = [(stUnsupported, LINK.ERR_FRAME)]) ∧ (headerOp h = 3 → s.headerErrs h = []) ∧
      (headerOp h = 4 → h.len = 32#16 → h.addr = 0#32 → s.headerErrs h = []) ∧
      (headerOp h = 1 → h.addr.toNat < 0x40000000 → (h.len = 0#16 ∨ 4096 < h.len.toNat) →
        s.headerErrs h = [(stBadParam, LINK.ERR_LEN)]) ∧
      (headerOp h = 1 ∨ headerOp h = 2 → 1 ≤ h.len.toNat → h.len.toNat ≤ 4096 →
        h.addr.toNat + h.len.toNat ≤ 0x40000000 → s.headerErrs h = []) ∧
      (headerOp h = 1 ∨ headerOp h = 2 → 1 ≤ h.len.toNat → h.len.toNat ≤ 4096 → h.len.toNat % 4 = 0 →
        0x40000000 ≤ h.addr.toNat → h.addr.toNat + h.len.toNat ≤ 0x60000000 →
        s.headerErrs h = if h.addr.toNat % 4 = 0 then [] else [(stAlign, LINK.ERR_ALIGN)]))) ∧
  (∀ (h : Header) (s : State), s.linkOn = true →
    let y := s.linkBegin
    (otherOp h 3 = false → s.headerErrs h = [] → exec (.poll h) s = .next (y.send stOK [])) ∧
    (otherOp h 3 = false → s.headerErrs h ≠ [] → exec (.poll h) s = .next (y.refuse h (s.headerErrs h))) ∧
    (otherOp h 1 = false → s.headerErrs h ≠ [] → exec (.read h) s = .next (y.refuse h (s.headerErrs h))) ∧
    (otherOp h 1 = false → s.headerErrs h = [] →
      let r := y.access h.addr.toNat h.len.toNat
      let x := if r.2.2 = stTimeout then r.1.linkErr LINK.ERR_TIMEOUT else r.1
      exec (.read h) s = .next (x.send r.2.2 (if x.flag LINK.ACTIVE_DCRC then r.2.1 ++ leBytes 2 (crc16 r.2.1) else r.2.1))) ∧
    ∀ (d : List (BitVec 8)) (c : BitVec 16),
      (otherOp h 2 = false → s.headerErrs h ≠ [] → exec (.write h d c) s = .next (y.refuse h (s.headerErrs h))) ∧
      (otherOp h 2 = false → s.headerErrs h = [] →
        (s.rd LINK.ACTIVE_DCRC = 1 → crc16 (d.map (·.toNat)) ≠ c.toNat →
          exec (.write h d c) s = .next ((y.linkErr LINK.ERR_DCRC).send stAborted [])) ∧
        (s.rd LINK.ACTIVE_DCRC = 0 ∨ crc16 (d.map (·.toNat)) = c.toNat →
          let r := y.store h.addr.toNat ((d.map (·.toNat)).take h.len.toNat)
          exec (.write h d c) s = .next (r.1.send r.2 [])))) ∧
  (∀ (s : State) (a n : Nat), 1 ≤ n → a + n ≤ 0x600000 → (∀ w ∈ s.sramUe, n + a ≤ 16 * w ∨ 16 * w + 16 ≤ a) →
    (s.access a n).2 = (s.bytes .sram a n, stOK)) ∧
  (∀ (s : State) (a : Nat) (l : List Nat), l ≠ [] → a + l.length ≤ 0x600000 → s.isProtected a l.length = false → s.sramUe = [] →
    s.store a l = (s.writeMem .sram a l, stOK)) ∧
  (∀ (s : State), s.linkOn = true → ∀ (d : List (BitVec 8)) (k : Option (BitVec 16)),
    exec (.shortTransaction none d k) s = .next { s.linkBegin.linkErr LINK.ERR_SHORT with reply := [] } ∧
    ∀ h : Header, ∃ x : State, exec (.shortTransaction (some h) d k) s = .next { x.linkErr LINK.ERR_SHORT with reply := [] } ∧
      (s.headerErrs h ≠ [] → (s.untrained = false ∨ trainHeader h = false) →
        x = s.linkBegin.linkErrs ((s.headerErrs h).map (·.2))) ∧
      (s.headerErrs h = [] → (headerOp h = 2 → k = none) → headerOp h ≠ 1 → x = s.linkBegin) ∧
      (s.untrained = true → trainHeader h = true → x = s.linkBegin) ∧
      (s.headerErrs h = [] → headerOp h = 1 → x = (s.linkBegin.access h.addr.toNat h.len.toNat).1) ∧
      (∀ c : BitVec 16, s.headerErrs h = [] → headerOp h = 2 → k = some c →
        x = (s.linkBegin.doWrite h (d.map (·.toNat)) c.toNat).1)) ∧
  ∀ (h : Header) (d : List (BitVec 8)) (c done : BitVec 16) (s : State), s.linkOn = true → s.headerErrs h = [] →
    done.toNat ≤ h.len.toNat →
    (headerOp h = 1 → 1 ≤ done.toNat →
      let r := s.linkBegin.access h.addr.toNat done.toNat
      let x := r.1.linkErr LINK.ERR_TIMEOUT
      exec (.transactionTimeout h d c done) s = .next (x.send (rankStatus [r.2.2, stTimeout])
        (x.withCrc (r.2.1 ++ List.replicate (h.len.toNat - r.2.1.length) 0)))) ∧
    (headerOp h = 2 → s.rd LINK.ACTIVE_DCRC = 0 → (h.addr.toNat < 0x40000000 ∨ 0x60000000 ≤ h.addr.toNat) →
      s.isProtected h.addr.toNat h.len.toNat = true → exec (.transactionTimeout h d c done) s = .next (s.linkBegin.send stBusy [])) ∧
    (headerOp h = 2 → s.rd LINK.ACTIVE_DCRC = 0 → (inRegSpace h.addr.toNat = true ∨ s.isProtected h.addr.toNat h.len.toNat = false) →
      let r := s.linkBegin.store h.addr.toNat ((d.map (·.toNat)).take done.toNat)
      exec (.transactionTimeout h d c done) s = .next ((r.1.linkErr LINK.ERR_TIMEOUT).send (rankStatus [r.2, stTimeout]) []))

/-- R172, R173, R175 to R179: an offer meets what the image allows, SWITCH puts what was agreed in force, training takes the
middle of the widest run of good taps or fails, and a link reset brings the base settings back. That OFFER.LANES reads as it was
written is the model's choice (log entry 56). -/
def Obligations.LinkSettings : Prop :=
  (∀ (w : BitVec 32) (s : State), Safety.takes s .link →
    let mhz := if field w 8 8 = 0 then 25 else field w 8 8
    let cap := u8 (s.beadD 0x0181 [7]) 0 % 8
    let both := cap &&& (field w 0 3 ||| 1)
    ∃ x : State, exec (.linkOffer w) s = .next x ∧ x.rd LINK.CAP_MAX_MHZ = u8 (s.beadD 0x0180 [100]) 0 % 256 ∧
      x.rd LINK.CAP_LANES = cap ∧ x.rd LINK.CAP_DCRC = u8 (s.beadD 0x0182 [1]) 0 % 2 ∧ x.rd LINK.OFFER_LANES = field w 0 3 ∧
      x.rd LINK.OFFER_MHZ = mhz ∧ x.rd LINK.OFFER_DCRC = field w 16 1 ∧
      x.rd LINK.AGREED_LANES = (if both.testBit 2 then 4 else if both.testBit 1 then 2 else 1) ∧
      x.rd LINK.AGREED_MHZ = min (u8 (s.beadD 0x0180 [100]) 0 % 256) mhz ∧
      x.rd LINK.AGREED_DCRC = (u8 (s.beadD 0x0182 [1]) 0 % 2) &&& field w 16 1 ∧ x.rd LINK.AGREED_STATE = 1 ∧
      Safety.only [LINK.CAP_MAX_MHZ, LINK.CAP_LANES, LINK.CAP_DCRC, LINK.OFFER_LANES, LINK.OFFER_MHZ, LINK.OFFER_DCRC,
        LINK.AGREED_LANES, LINK.AGREED_MHZ, LINK.AGREED_DCRC, LINK.AGREED_STATE] s.idleRestart x) ∧
  (∀ (w : BitVec 32) (s : State), Safety.takes s .link →
    (field w 0 16 = 0x5357 → s.rd LINK.AGREED_STATE = 1 → ∃ x : State, exec (.linkSwitch w) s = .next x ∧
      x.rd LINK.ACTIVE_LANES = s.rd LINK.AGREED_LANES ∧ x.rd LINK.ACTIVE_MHZ = s.rd LINK.AGREED_MHZ ∧
      x.rd LINK.ACTIVE_DCRC = s.rd LINK.AGREED_DCRC ∧ x.rd LINK.AGREED_STATE = 2 ∧ x.rd LINK.TRAIN_FAILS = 0 ∧
      Safety.only [LINK.ACTIVE_LANES, LINK.ACTIVE_MHZ, LINK.ACTIVE_DCRC, LINK.AGREED_STATE, LINK.TRAIN_FAILS] s.idleRestart x) ∧
    (field w 0 16 ≠ 0x5357 ∨ s.rd LINK.AGREED_STATE ≠ 1 → exec (.linkSwitch w) s = .next s.idleRestart)) ∧
  (∀ (h : Header) (taps : BitVec 16) (s : State), s.linkOn = true →
    (s.untrained = true → exec (.train h true taps) s =
      .next ((s.linkBegin.trained taps.toNat).1.send (s.linkBegin.trained taps.toNat).2 pattern) ∧
      (s.headerErrs h ≠ [] → exec (.train h false taps) s = .next (s.linkBegin.refuse h (s.headerErrs h)))) ∧
    (s.untrained = false → otherOp h 4 = false → s.headerErrs h = [] →
      ∀ b : Bool, exec (.train h b taps) s = .next (s.linkBegin.send stOK pattern))) ∧
  (∀ (s : State) (taps : Nat),
    let r := widestRun taps 16
    let x := (s.trained taps).1
    (3 ≤ r.2.1 → (s.trained taps).2 = stOK ∧ x.rd LINK.TRAIN_PASS = taps % 65536 ∧ x.rd LINK.AGREED_TAP = r.1 + (r.2.1 - 1) / 2 ∧
      x.rd LINK.TRAIN_TAP = r.1 + (r.2.1 - 1) / 2 ∧ x.rd LINK.AGREED_STATE = 3 ∧ x.rd LINK.TRAIN_FAILS = 0 ∧
      Safety.only [LINK.TRAIN_PASS, LINK.TRAIN_TAP, LINK.TRAIN_FAILS, LINK.AGREED_TAP, LINK.AGREED_STATE] s x) ∧
    (r.2.1 < 3 → (s.trained taps).2 = stAborted ∧ x.rd LINK.ERR_TRAIN_FAIL = 1 ∧
      x.rd LINK.TRAIN_FAILS = min 4 (s.rd LINK.TRAIN_FAILS + 1) ∧
      (s.rd LINK.TRAIN_FAILS < 3 → x.rd LINK.AGREED_STATE = 4 ∧
        Safety.only [LINK.TRAIN_PASS, LINK.TRAIN_FAILS, LINK.AGREED_STATE, LINK.ERR_TRAIN_FAIL, LINK.ERR_COUNT_COUNT] s x) ∧
      (3 ≤ s.rd LINK.TRAIN_FAILS → ∃ y : State, x = y.linkBase))) ∧
  (∀ taps : Nat, let r := widestRun taps 16
    r.1 + r.2.1 ≤ 16 ∧ (∀ i : Nat, i < r.2.1 → taps.testBit (r.1 + i) = true) ∧
    ∀ a n : Nat, a + n ≤ 16 → (∀ i : Nat, i < n → taps.testBit (a + i) = true) → n ≤ r.2.1 ∧ (n = r.2.1 → 0 < n → r.1 ≤ a)) ∧
  (∀ s : State, s.linkOn = true → exec .linkReset s = .next { s.idleRestart.linkBase with reply := [] }) ∧
  ∀ s : State, let x := s.linkBase
    x.rd LINK.ACTIVE_LANES = 1 ∧ x.rd LINK.ACTIVE_MHZ = 25 ∧ x.rd LINK.ACTIVE_DCRC = 0 ∧ x.rd LINK.AGREED_TAP = 8 ∧
    x.rd LINK.AGREED_STATE = 0 ∧ x.rd LINK.ERR_RESYNC = 1 ∧
    x.rd LINK.ERR_COUNT_COUNT = satAdd 65535 (s.rd LINK.ERR_COUNT_COUNT) 1 ∧
    Safety.only [LINK.ACTIVE_LANES, LINK.ACTIVE_MHZ, LINK.ACTIVE_DCRC, LINK.AGREED_TAP, LINK.AGREED_STATE, LINK.ERR_RESYNC,
      LINK.ERR_COUNT_COUNT] s x

/-! ### Shared operations and the whole machine -/

/-- R252, R253, R265: a write of a memory changes exactly its bytes, but for a word that it covers in part and that holds an
uncorrectable error; a checked read returns the stored bytes and changes none; programming flash only clears bits, and
erasing sets a range to FFH. -/
def Obligations.MemoryAccess : Prop :=
  (∀ (m : Ram) (a : Nat) (bs : List Nat) (s : State) (x : Nat),
    let w := x / m.word
    let kept := (s.ue m).contains w && !(decide (a ≤ m.word * w) && decide (m.word * w + m.word ≤ a + bs.length))
    (s.writeMem m a bs).byte m x = if a ≤ x ∧ x < a + bs.length ∧ kept = false then bs.getD (x - a) 0 % 256 else s.byte m x) ∧
  (∀ (m : Ram) (a n : Nat) (s : State), (s.readMem m a n).2 = s.bytes m a n ∧ (s.readMem m a n).2.length = n ∧
    Safety.only [CORE.ECC_CE_SRAM, CORE.ECC_CE_KEEP, CORE.ECC_UE_SRAM, CORE.ECC_UE_KEEP, CORE.ECC_LAST_ADDR, VEC.PENDING_PENDING]
      s (s.readMem m a n).1) ∧
  (∀ (m : Ram) (w : Nat) (s : State), let x := s.checkWord m w
    (w ∈ s.ue m → x.rd m.ueFld = satAdd 65535 (s.rd m.ueFld) 1 ∧ x.rd CORE.ECC_LAST_ADDR = (m.base + m.word * w) % 2 ^ 32 ∧
      x.rd VEC.PENDING_PENDING = (s.vec 16).rd VEC.PENDING_PENDING) ∧
    (w ∉ s.ue m → w ∈ s.ce m → x.rd m.ceFld = satAdd 65535 (s.rd m.ceFld) 1 ∧ Safety.only [m.ceFld] s x) ∧
    (w ∉ s.ue m → w ∉ s.ce m → x = s)) ∧
  (∀ (s : State) (a : Nat) (bs : List Nat) (x : Nat), (Store.get 0xFF (s.flashProgram a bs).flash x).toNat =
    if a ≤ x ∧ x < a + bs.length then (Store.get 0xFF s.flash x).toNat &&& (bs.getD (x - a) 0 % 256)
    else (Store.get 0xFF s.flash x).toNat) ∧
  ∀ (s : State) (a n x : Nat), Store.wf 0xFF s.flash = true → (Store.get 0xFF (s.flashErase a n).flash x).toNat =
    if a ≤ x ∧ x < a + n then 0xFF else (Store.get 0xFF s.flash x).toNat

/-- R203, R204, R219: a completion entry is the 16 bytes at the completion tail of its ring and no other byte; the tail advances,
and at the end of the ring it returns to 0 and the phase changes; and the queue's vector is set when enough completions have
come, or at once for one that is not OK or is to be told now. -/
def Obligations.CompletionEntry : Prop :=
  ∀ (q : Fin 16) (c : Compl) (s : State), s.rd (VEC.Q_CQ_IDX_TAIL q) < s.depth q →
    let tail := s.rd (VEC.Q_CQ_IDX_TAIL q)
    let phase := s.rd (VEC.Q_CQ_IDX_PHASE q)
    let n := (s.queues.getD q {}).count + 1
    let entry := leBytes 2 c.cmdId ++ [c.status, phase + 16 * c.origin] ++ leBytes 2 (s.rd (VEC.Q_SQ_IDX_HEAD q)) ++ [0, 0] ++
      leBytes 4 c.r0 ++ leBytes 4 c.r1
    let x := s.writeCompl q c
    (∀ a : Nat, x.byte .sram a = if s.cqBase q + 16 * tail ≤ a ∧ a < s.cqBase q + 16 * tail + 16 then
      entry.getD (a - (s.cqBase q + 16 * tail)) 0 % 256 else s.byte .sram a) ∧
    x.rd (VEC.Q_CQ_IDX_TAIL q) = (if tail + 1 = s.depth q then 0 else tail + 1) ∧
    x.rd (VEC.Q_CQ_IDX_PHASE q) = (if tail + 1 = s.depth q then 1 - phase else phase) ∧
    (max 1 (s.rd (VEC.Q_COAL_COUNT q)) ≤ n ∨ c.status ≠ stOK ∨ c.now = true →
      x.rd VEC.PENDING_PENDING = (s.vec q).rd VEC.PENDING_PENDING) ∧
    (n < max 1 (s.rd (VEC.Q_COAL_COUNT q)) → c.status = stOK → c.now = false →
      x.rd VEC.PENDING_PENDING = s.rd VEC.PENDING_PENDING) ∧
    Safety.regsBut [VEC.Q_CQ_IDX_TAIL q, VEC.Q_CQ_IDX_PHASE q, VEC.PENDING_PENDING] s x ∧
    x = { s with regs := x.regs, sram := x.sram, sramUe := x.sramUe, sramCe := x.sramCe, queues := x.queues }

/-- R199, R205, R211, R214, R216, R217: a command that completes leaves the commands in flight and gives its completion to its
queue, where it is written, held while the queue is full, or dropped if the pair is disabled; an ABORT that cancelled it
completes behind it, and waits while its completion is held; and NOP completes with its own parameters. -/
def Obligations.CompletionEndsTheCommand : Prop :=
  (∀ (tag : Fin 64) (s : State) (c : Cmd), s.awake = true → s.cmd? tag = some c → c.op = 0 →
    exec (.nop tag) s = .next (s.complete tag stOK c.p0 c.p1).settle) ∧
  (∀ (s : State) (t st r0 r1 : Nat) (c : Cmd), s.cmd? t = some c → (∀ d ∈ s.cmds, d.abortOf ≠ some t) →
    s.complete t st r0 r1 = ({ s with cmds := s.cmds.filter fun d => d.tag != t } : State).post c.queue
      { tag := some t, cmdId := c.cmdId, status := st, origin := c.queue, now := c.now, r0 := r0 % 2 ^ 32, r1 := r1 % 2 ^ 32 }) ∧
  (∀ (s : State) (t st r0 r1 : Nat) (a : Cmd), (s.cmds.filter fun d => d.abortOf == some t) = [a] →
    s.complete t st r0 r1 = if (s.finish t st r0 r1).tagsHeld.contains t then s.finish t st r0 r1
      else (s.finish t st r0 r1).finish a.tag stOK st 0) ∧
  (∀ (s : State) (t st r0 r1 : Nat), s.cmd? t = none → (∀ d ∈ s.cmds, d.abortOf ≠ some t) → s.complete t st r0 r1 = s) ∧
  ∀ (q : Nat) (c : Compl) (s : State), q < s.queues.length →
    (s.rd (VEC.Q_CFG_EN q) = 0 → s.post q c = s) ∧
    (s.rd (VEC.Q_CFG_EN q) = 1 → s.cqFull q = true ∨ (s.queues.getD q {}).held ≠ [] →
      s.post q c = { s with queues := s.queues.modify q fun x => { x with held := x.held ++ [c] } }) ∧
    (s.rd (VEC.Q_CFG_EN q) = 1 → s.cqFull q = false → (s.queues.getD q {}).held = [] → s.post q c = s.writeCompl q c)

/-- R525 to R529: a fault that is raised is listed behind those present, asserts its rod's vector and is recorded at most once a
minute; one whose response is HELD takes the device there, with nothing strobed and VH stopped; in TALLY it wakes the device. A fault that keeps
its rod from READY ends the mark of the rod's reset (R188), and one after which the bridges are free lets go of every one. -/
def Obligations.FaultsAndHeld : Prop :=
  (∀ (s : State) (code p1 p2 : Nat),
    (s.base = .cleared → s.raise code p1 p2 = s) ∧
    (s.base = .tally → s.wake.waking = false → ∃ x : State, s.raise code p1 p2 = x ∧ x.rd CORE.MODE_WAKE_SRC = 9 ∧
      Safety.only [CORE.MODE_WAKE_SRC]
        { s with wake := { s.wake with faults := s.wake.faults ++ [(code, p1, p2)], waking := true } } x) ∧
    (s.base = .run → code ∉ heldCodes → s.raise code p1 p2 = (s.addFault code p1 p2).faultMark code) ∧
    (s.base = .run → code ∈ heldCodes → s.raise code p1 p2 = ((s.addFault code p1 p2).faultMark code).enterHeld code) ∧
    (s.base = .held → code ∉ freeCodes → s.raise code p1 p2 = (s.addFault code p1 p2).faultMark code) ∧
    (s.base = .held → code ∈ freeCodes → s.raise code p1 p2 = ((s.addFault code p1 p2).faultMark code).bridgesZ)) ∧
  (∀ (s : State) (code p1 p2 : Nat), let x := s.addFault code p1 p2
    x.faults = (if s.hasFault code then s.faults else s.faults ++ [{ code := code, param := p1 }]) ∧
    x.rd VEC.PENDING_PENDING = (s.vec (16 + code / 256)).rd VEC.PENDING_PENDING ∧
    ((∃ t : Nat, (code, t) ∈ s.faultLog ∧ s.clock < t + 60000000) →
      x.rd CORE.FAULT_LOG_SUPPRESSED = satAdd 65535 (s.rd CORE.FAULT_LOG_SUPPRESSED) 1 ∧ x.led = s.led) ∧
    ((∀ t : Nat, (code, t) ∈ s.faultLog → t + 60000000 ≤ s.clock) → s.led.buf.length < appendRoom →
      x.led.buf = s.led.buf ++ [{ ty := 3, on := s.onSeconds,
                                  payload := leBytes 2 code ++ [s.mode, 0] ++ leBytes 4 p1 ++ leBytes 4 p2 }]) ∧
    Safety.sameBytes s x ∧ x.base = s.base ∧ x.cmds = s.cmds) ∧
  (∀ (s : State) (code : Nat),
    (∀ r : Rod, Rod.ofNat? (code / 256) = some r → notReadyCode r code = true → s.faultMark code = s.markReset r false) ∧
    ((∀ r : Rod, Rod.ofNat? (code / 256) = some r → notReadyCode r code = false) → s.faultMark code = s)) ∧
  (∀ (s : State) (r q : Rod) (on : Bool), let x := s.markReset r on
    x.boot.resetting.testBit q.idx = (if q = r then on else s.boot.resetting.testBit q.idx) ∧
    x = { s with boot := { s.boot with resetting := x.boot.resetting } }) ∧
  (∀ s : State, let x := s.bridgesZ
    x.feed.hb = [.z, .z, .z, .z] ∧ x.cut.hb = [.z, .z] ∧ x.boot.brake = 0 ∧ x.rd CORE.HELD_STAT_BRAKE = 0 ∧
    x.feed.onBrake = false ∧ Safety.sameBytes s x) ∧
  ∀ (s : State) (code : Nat), code ∈ heldCodes → let x := s.enterHeld code
    x.base = .held ∧ x.rd CORE.HELD_CAUSE = code ∧
    x.rd CORE.HELD_STAT_ENTRIES = satAdd 65535 (s.rd CORE.HELD_STAT_ENTRIES) 1 ∧ x.print.firing = none ∧ x.print.strobes = 0 ∧
    x.rd SUPPLY.VH_STAT_ON = 0 ∧ (∀ r : Rod, x.ready r = s.ready r)

/-- R33, R34, R87, R188: a rod's bit of ROD_READY follows its own conditions and its suppliers, each change asserts its vector, a rod
that becomes READY has ended its reset, and a loss stops the work that rests on it. -/
def Obligations.Readiness : Prop :=
  ∀ (s : State) (r : Rod),
    let now := s.ownReady r && s.supplied r
    (s.ready r = now → s.updateReady r = s) ∧
    (s.ready r ≠ now → ∃ x : State,
      (now = true → let y := x.markReset r false
        let z := if r = .therm then { y with therm := { y.therm with mon := false } } else y
        s.updateReady r = if r = .flash ∧ s.imageApplied = true then z.wr RASTER.STAT_STORE 1 else z) ∧
      (now = false → s.updateReady r = x.lost r) ∧
      x.ready r = now ∧ (∀ q : Rod, q ≠ r → x.ready q = s.ready q) ∧
      x.rd VEC.PENDING_PENDING = (s.rodVec r).rd VEC.PENDING_PENDING ∧
      Safety.only [CORE.ROD_READY_READY, VEC.PENDING_PENDING] s x)

/-- What bringing readiness into step leaves alone, after any command: every register field but those listed in `settleFlds`,
every byte of main SRAM outside the completion rings and the banks of bands, every byte of keep RAM outside the RECEIPT record, flash,
and the state of the clocks, of the monitor, of the camera and of the others named here. -/
def Obligations.SettleFrame : Prop :=
  ∀ s : State, let x := s.settle
    (s.awake = false → x = s) ∧
    (∀ f : Fld, (∀ g ∈ settleFlds, g.apart f = true) → x.rd f = s.rd f) ∧
    (∀ a : Nat, (∀ q : Nat, q < 16 → a < s.cqBase q ∨ s.cqBase q + 8192 ≤ a) →
      (∀ i : Nat, i < 3 → a < s.rd (bandBank i) * bankSize ∨ s.rd (bandBank i) * bankSize + bankSize ≤ a) → x.byte .sram a = s.byte .sram a) ∧
    (∀ a : Nat, (a < 0x100 ∨ 0x120 ≤ a) → x.byte .keep a = s.byte .keep a) ∧ x.flash = s.flash ∧
    x.part = s.part ∧ x.base = s.base ∧ x.clock = s.clock ∧ x.otp = s.otp ∧ x.fl = s.fl ∧ x.clk = s.clk ∧ x.wake = s.wake ∧
    x.bg = { s.bg with trimStep := x.bg.trimStep } ∧ x.therm = { s.therm with mon := x.therm.mon } ∧ x.vid = s.vid ∧ x.scan = s.scan ∧ x.accel = s.accel ∧ x.reply = s.reply ∧
    x.faultLog = s.faultLog ∧ x.pending = s.pending

/-- Every command has a meaning on every state: it answers a next state, never a fault or a refusal. R41, R51, R53, R528,
R532: whatever a command does, it does not touch the queue of commands, the part or the clock; OTP only grows; and
only RELEASE_HELD and the causes of a device reset leave HELD. -/
def Obligations.EveryCommand : Prop :=
  (∀ (c : Instr) (s : State), ∃ t : State, exec c s = .next t) ∧
  (∀ (c : Instr) (s t : State), exec c s = .next t →
     t.pending = s.pending ∧ t.part = s.part ∧ t.clock = s.clock ∧
     t.otp.vendorKey = s.otp.vendorKey ∧ t.otp.intKey1 = s.otp.intKey1 ∧ t.otp.intKey2 = s.otp.intKey2 ∧
     t.otp.svcClosed = s.otp.svcClosed ∧ s.otp.rollback ≤ t.otp.rollback ∧
     (∀ h : List Nat, s.otp.frozen = some h → t.otp.frozen = some h) ∧
     (s.base = .held → t.base = .held ∨ match c with
       | .releaseHeld .. | .por .. | .vinPowerOff | .pin .. | .soft .. | .coreUv .. | .svcWdt .. => True
       | _ => False))

/-- Every step keeps each store in its one canonical form: the registers, main SRAM, keep RAM, flash, and the ledger's
accumulators and totals list their addresses in rising order and nothing that an unlisted address reads as. -/
def Obligations.StepKeepsCanonical : Prop :=
  ∀ s t : State, Safety.canonical s → step s = .next t → Safety.canonical t

/-- The state after reset has every store in its canonical form, with no command waiting and nothing in flight. -/
def Obligations.ResetIsCanonical : Prop :=
  Safety.canonical State.reset ∧ State.reset.pending = [] ∧ State.reset.cmds = [] ∧ State.reset.faults = []

/-- A step takes the command at the front of the queue and carries it out with the queue's rest. With none waiting a microsecond
passes, the model's own choice (assumption log, entry 1): R322, ON_SECONDS advances with the LFXO's correction; R411, the speed of paper
that stands still for 16 ms becomes 0. -/
def Obligations.StepRunsTheFront : Prop :=
  (∀ (c : Instr) (rest : List Instr) (s : State), s.pending = c :: rest → step s = exec c { s with pending := rest }) ∧
  ∀ s : State, s.pending = [] → ∃ t : State, step s = .next t ∧ t.clock = s.clock + 1 ∧ t.pending = [] ∧ t.cmds = s.cmds ∧
    t.faults = s.faults ∧ Safety.sameBytes s t ∧
    t.wake = { s.wake with entering := false } ∧
    (s.boot.off = false → ∃ n : Nat, n ≤ 2 ∧ t.led.onUs = s.led.onUs + n ∧
      let f := s.led.onFrac + if s.flag CORE.CLK_STAT_LF_SRC then 0 else s.bg.corr
      t.led.onFrac + n * 100000000 = f + 100000000 ∧ (-100000000 < f → f < 100000000 → n = 1)) ∧
    (s.awake = true → s.rd FEED.CFG_FB_TYPE ≠ 0 → s.feed.lastCount + 16000 ≤ s.clock + 1 → t.rd FEED.SPEED_MEAS = 0) ∧
    (s.awake = true → s.has .vidin = true → t.rd VIDIN.TIME_US = (s.rd VIDIN.TIME_US + 1) % 2 ^ 32)
end

