-- ==== Sys2Proof/Laws/Store.lean ====
section
/-! SUPPORT. The laws of sparse stores: a read after a write to the same key gives the value written, a write leaves
every other key alone, and every write keeps the canonical form. -/

namespace Sys2Proof.Machine

variable {α : Type}

theorem Store.get_erase_same (d : α) (m : Store α) (a : Nat) : (m.erase a).get d a = d := by
  induction m with
  | nil => rfl
  | cons p m ih =>
    obtain ⟨k, v⟩ := p
    by_cases h : k = a <;> simp [Store.erase, h, Store.get, ih]

theorem Store.get_erase_ne (d : α) (m : Store α) {a b : Nat} (hab : b ≠ a) :
    (m.erase a).get d b = m.get d b := by
  induction m with
  | nil => rfl
  | cons p m ih =>
    obtain ⟨k, v⟩ := p
    by_cases h : k = a
    · have hkb : k ≠ b := fun e => hab (e.symm.trans h)
      simp only [Store.erase, h, if_true, ih, Store.get]
      rw [if_neg (by omega)]
    · simp [Store.erase, h, Store.get, ih]

theorem Store.get_insert_same (d : α) (a : Nat) (v : α) (m : Store α) (h : ∀ p ∈ m, p.1 ≠ a) :
    (Store.insert a v m).get d a = v := by
  induction m with
  | nil => simp [Store.insert, Store.get]
  | cons p m ih =>
    obtain ⟨k, w⟩ := p
    have hk : k ≠ a := h (k, w) (by simp)
    by_cases hlt : a < k
    · simp [Store.insert, hlt, Store.get]
    · simp only [Store.insert, hlt, if_false, Store.get, hk]
      exact ih fun p hp => h p (by simp [hp])

theorem Store.get_insert_ne (d : α) (a : Nat) (v : α) (m : Store α) {b : Nat} (hab : b ≠ a) :
    (Store.insert a v m).get d b = m.get d b := by
  induction m with
  | nil => simp [Store.insert, Store.get, Ne.symm hab]
  | cons p m ih =>
    obtain ⟨k, w⟩ := p
    by_cases hlt : a < k
    · simp [Store.insert, hlt, Store.get, Ne.symm hab]
    · simp [Store.insert, hlt, Store.get, ih]

theorem Store.erase_keys (m : Store α) (a : Nat) : ∀ p ∈ m.erase a, p.1 ≠ a := by
  induction m with
  | nil => simp [Store.erase]
  | cons p m ih =>
    obtain ⟨k, v⟩ := p
    by_cases h : k = a
    · simpa [Store.erase, h] using ih
    · intro q hq
      simp only [Store.erase, h, if_false, List.mem_cons] at hq
      rcases hq with rfl | hq
      · exact h
      · exact ih q hq

/-- A read after a write to the same key gives the value written. -/
@[simp] theorem Store.get_set_same [DecidableEq α] (d : α) (m : Store α) (a : Nat) (v : α) :
    (m.set d a v).get d a = v := by
  unfold Store.set
  split
  · next h => rw [Store.get_erase_same, h]
  · exact Store.get_insert_same d a v _ (Store.erase_keys m a)

/-- A write leaves every other key alone. -/
theorem Store.get_set_ne [DecidableEq α] (d : α) (m : Store α) {a b : Nat} (v : α) (hab : b ≠ a) :
    (m.set d a v).get d b = m.get d b := by
  unfold Store.set
  split
  · exact Store.get_erase_ne d m hab
  · rw [Store.get_insert_ne d a v _ hab, Store.get_erase_ne d m hab]

theorem Store.wfFrom_mono [DecidableEq α] (d : α) (m : Store α) {lo lo' : Nat} (h : lo' ≤ lo)
    (hw : Store.wfFrom d lo m = true) : Store.wfFrom d lo' m = true := by
  cases m with
  | nil => rfl
  | cons p m =>
    obtain ⟨k, v⟩ := p
    simp only [Store.wfFrom, Bool.and_eq_true, decide_eq_true_eq] at hw ⊢
    exact ⟨⟨h.trans hw.1.1, hw.1.2⟩, hw.2⟩

theorem Store.wfFrom_erase [DecidableEq α] (d : α) (m : Store α) (lo a : Nat)
    (hw : Store.wfFrom d lo m = true) : Store.wfFrom d lo (m.erase a) = true := by
  induction m generalizing lo with
  | nil => rfl
  | cons p m ih =>
    obtain ⟨k, v⟩ := p
    simp only [Store.wfFrom, Bool.and_eq_true, decide_eq_true_eq] at hw
    by_cases h : k = a
    · simp only [Store.erase, h, if_true]
      exact Store.wfFrom_mono d _ (by omega) (ih (k + 1) hw.2)
    · simp only [Store.erase, h, if_false, Store.wfFrom, Bool.and_eq_true, decide_eq_true_eq]
      exact ⟨hw.1, ih (k + 1) hw.2⟩

theorem Store.wfFrom_insert [DecidableEq α] (d : α) (m : Store α) (lo a : Nat) (v : α) (hv : v ≠ d)
    (hlo : lo ≤ a) (ha : ∀ p ∈ m, p.1 ≠ a) (hw : Store.wfFrom d lo m = true) :
    Store.wfFrom d lo (Store.insert a v m) = true := by
  induction m generalizing lo with
  | nil => simp [Store.insert, Store.wfFrom, hv, hlo]
  | cons p m ih =>
    obtain ⟨k, w⟩ := p
    simp only [Store.wfFrom, Bool.and_eq_true, decide_eq_true_eq] at hw
    have hk : k ≠ a := ha (k, w) (by simp)
    by_cases hlt : a < k
    · simp only [Store.insert, hlt, if_true, Store.wfFrom, Bool.and_eq_true, decide_eq_true_eq]
      exact ⟨⟨hlo, hv⟩, ⟨hlt, hw.1.2⟩, hw.2⟩
    · simp only [Store.insert, hlt, if_false, Store.wfFrom, Bool.and_eq_true, decide_eq_true_eq]
      exact ⟨hw.1, ih (k + 1) (by omega) (fun p hp => ha p (by simp [hp])) hw.2⟩

/-- Every write keeps the canonical form. -/
theorem Store.wf_set [DecidableEq α] (d : α) (m : Store α) (a : Nat) (v : α) (hw : m.wf d = true) :
    (m.set d a v).wf d = true := by
  unfold Store.set Store.wf at *
  split
  · exact Store.wfFrom_erase d m 0 a hw
  · next h =>
    exact Store.wfFrom_insert d _ 0 a v h (Nat.zero_le _) (Store.erase_keys m a) (Store.wfFrom_erase d m 0 a hw)

/-- Keys that a filter lets through read as before. -/
theorem Store.get_filter (d : α) (m : Store α) (p : Nat × α → Bool) (a : Nat) (h : ∀ v, p (a, v) = true) :
    Store.get d (m.filter p) a = Store.get d m a := by
  induction m with
  | nil => rfl
  | cons c m ih =>
    obtain ⟨k, v⟩ := c
    by_cases hp : p (k, v)
    · simp [List.filter_cons_of_pos hp, Store.get, ih]
    · have : k ≠ a := fun e => hp (e ▸ h v)
      simp [List.filter_cons_of_neg hp, Store.get, this, ih]

/-- A filter keeps the canonical form. -/
theorem Store.wfFrom_filter [DecidableEq α] (d : α) (m : Store α) (lo : Nat) (p : Nat × α → Bool)
    (h : Store.wfFrom d lo m = true) : Store.wfFrom d lo (m.filter p) = true := by
  induction m generalizing lo with
  | nil => rfl
  | cons c m ih =>
    simp only [Store.wfFrom, Bool.and_eq_true, decide_eq_true_eq] at h
    by_cases hp : p c
    · simp only [List.filter_cons_of_pos hp, Store.wfFrom, Bool.and_eq_true, decide_eq_true_eq]
      exact ⟨h.1, ih _ h.2⟩
    · rw [List.filter_cons_of_neg hp]
      exact ih _ (Store.wfFrom_mono d m (Nat.le_succ_of_le h.1.1) h.2)

end Sys2Proof.Machine
end

