-- ==== Sys2Proof/Laws/Field.lean ====
section
/-! SUPPORT. Register fields: what a field reads after its own write, and after the write of a field that lies elsewhere. -/

namespace Sys2Proof.Machine

theorem field_lt (w : Word) (lo wid : Nat) : field w lo wid < 2 ^ wid := Nat.mod_lt _ (Nat.two_pow_pos wid)

theorem field_testBit (w : Word) (lo wid i : Nat) :
    (field w lo wid).testBit i = (decide (i < wid) && w.toNat.testBit (lo + i)) := by
  simp [field, Nat.testBit_mod_two_pow, Nat.testBit_div_two_pow, Nat.add_comm]

/-- The bits of a number split at `lo` and `lo + wid`. -/
theorem split_field (n lo wid : Nat) :
    n = 2 ^ lo * (2 ^ wid * (n / 2 ^ (lo + wid)) + n / 2 ^ lo % 2 ^ wid) + n % 2 ^ lo := by
  have h1 := Nat.div_add_mod n (2 ^ lo)
  have h2 := Nat.div_add_mod (n / 2 ^ lo) (2 ^ wid)
  rw [Nat.div_div_eq_div_mul, ← Nat.pow_add] at h2
  rw [h2, h1]

theorem putField_toNat (w : Word) (lo wid v : Nat) :
    (putField w lo wid v).toNat =
      (2 ^ lo * (2 ^ wid * (w.toNat / 2 ^ (lo + wid)) + v % 2 ^ wid) + w.toNat % 2 ^ lo) % 2 ^ 32 := by
  have h := split_field w.toNat lo wid
  have e : w.toNat - field w lo wid * 2 ^ lo + v % 2 ^ wid * 2 ^ lo =
      2 ^ lo * (2 ^ wid * (w.toNat / 2 ^ (lo + wid)) + v % 2 ^ wid) + w.toNat % 2 ^ lo := by
    unfold field
    generalize w.toNat / 2 ^ (lo + wid) = a at *
    generalize w.toNat / 2 ^ lo % 2 ^ wid = b at *
    generalize w.toNat % 2 ^ lo = c at *
    rw [h, Nat.mul_add, Nat.mul_add, Nat.mul_comm b, Nat.mul_comm (v % 2 ^ wid)]
    omega
  simp only [putField, BitVec.toNat_ofNat, e]

theorem putField_testBit (w : Word) (lo wid v i : Nat) :
    (putField w lo wid v).toNat.testBit i =
      (decide (i < 32) && if lo ≤ i ∧ i < lo + wid then v.testBit (i - lo) else w.toNat.testBit i) := by
  rw [putField_toNat, Nat.testBit_mod_two_pow, Nat.testBit_two_pow_mul_add _ (Nat.mod_lt _ (Nat.two_pow_pos lo))]
  congr 1
  by_cases h1 : i < lo
  · have h2 : ¬(lo ≤ i ∧ i < lo + wid) := by omega
    simp [h1, h2, Nat.testBit_mod_two_pow]
  · rw [if_neg h1, Nat.testBit_two_pow_mul_add _ (Nat.mod_lt _ (Nat.two_pow_pos wid))]
    by_cases h2 : i < lo + wid
    · have h3 : i - lo < wid := by omega
      have h4 : lo ≤ i ∧ i < lo + wid := by omega
      simp [h3, h4, Nat.testBit_mod_two_pow]
    · have h3 : ¬ i - lo < wid := by omega
      have h4 : ¬(lo ≤ i ∧ i < lo + wid) := by omega
      simp only [h3, h4, if_false, Nat.testBit_div_two_pow]
      congr 1
      omega

theorem field_putField (w : Word) (lo wid v : Nat) (h : lo + wid ≤ 32) : field (putField w lo wid v) lo wid = v % 2 ^ wid := by
  apply Nat.eq_of_testBit_eq
  intro i
  rw [field_testBit, putField_testBit, Nat.testBit_mod_two_pow]
  by_cases hi : i < wid
  · have h1 : lo + i < 32 := by omega
    have h2 : lo ≤ lo + i ∧ lo + i < lo + wid := by omega
    simp [hi, h1]
  · simp [hi]

theorem field_putField_apart (w : Word) (lo wid v lo' wid' : Nat) (h : lo + wid ≤ lo' ∨ lo' + wid' ≤ lo) :
    field (putField w lo wid v) lo' wid' = field w lo' wid' := by
  apply Nat.eq_of_testBit_eq
  intro i
  rw [field_testBit, field_testBit, putField_testBit]
  by_cases hi : i < wid'
  · have h1 : ¬(lo ≤ lo' + i ∧ lo' + i < lo + wid) := by omega
    rw [if_neg h1]
    by_cases h2 : lo' + i < 32
    · simp [h2]
    · have h3 : w.toNat < 2 ^ (lo' + i) := Nat.lt_of_lt_of_le w.isLt (Nat.pow_le_pow_right (by decide) (by omega))
      simp [Nat.testBit_lt_two_pow h3]
  · simp [hi]

@[simp] theorem State.reg_setReg (s : State) (a b : Nat) (w : Word) :
    (s.setReg a w).reg b = if a = b then w else s.reg b := by
  unfold State.reg State.setReg
  by_cases h : a = b
  · subst h; simp
  · rw [if_neg h, Store.get_set_ne _ _ _ (Ne.symm h)]

/-- A field reads the value that was written to it, held to its width. -/
theorem State.rd_wr (s : State) (f : Fld) (v : Nat) (h : f.lo + f.wid ≤ 32 := by decide) : (s.wr f v).rd f = v % 2 ^ f.wid := by
  simp [State.rd, State.wr, field_putField _ _ _ _ h]

/-- A write of one field leaves a field apart from it as it was. -/
theorem State.rd_wr_apart (s : State) (f g : Fld) (v : Nat) (h : f.apart g = true) : (s.wr f v).rd g = s.rd g := by
  simp only [State.rd, State.wr, State.reg_setReg]
  by_cases e : f.addr = g.addr
  · rw [if_pos e]
    simp only [Fld.apart, e, bne_self_eq_false, Bool.false_or, Bool.or_eq_true, decide_eq_true_eq] at h
    rw [e]
    exact field_putField_apart _ _ _ _ _ _ h
  · rw [if_neg e]

theorem State.rd_lt (s : State) (f : Fld) : s.rd f < 2 ^ f.wid := field_lt _ _ _

end Sys2Proof.Machine
end

