-- ==== Sys2Proof/Laws/Keeps.lean ====
section
/-! SUPPORT. What an operation leaves as it was. `Keeps C D H s t` says of a change from `s` to `t`: the fields that `C`
names, the queue, the part and the clock are as they were; OTP has only grown; where `H` holds, HELD is not left; where `D`
holds, the rest of the state that no event of readiness touches is as it was; and the stores stay canonical. -/

namespace Sys2Proof.Machine

/-- OTP only ever goes one way (R41, R51, R53): keys and the port stay, the counter does not fall, and a freeze hash that is
programmed stays. -/
def Otp.grown (a b : Otp) : Prop :=
  b.vendorKey = a.vendorKey ∧ b.intKey1 = a.intKey1 ∧ b.intKey2 = a.intKey2 ∧ b.svcClosed = a.svcClosed ∧
    a.rollback ≤ b.rollback ∧ ∀ h, a.frozen = some h → b.frozen = some h

theorem Otp.grown_refl (a : Otp) : a.grown a := ⟨rfl, rfl, rfl, rfl, Nat.le_refl _, fun _ h => h⟩

theorem Otp.grown_trans {a b c : Otp} (h : a.grown b) (k : b.grown c) : a.grown c :=
  ⟨k.1.trans h.1, k.2.1.trans h.2.1, k.2.2.1.trans h.2.2.1, k.2.2.2.1.trans h.2.2.2.1, h.2.2.2.2.1.trans k.2.2.2.2.1,
    fun x e => k.2.2.2.2.2 x (h.2.2.2.2.2 x e)⟩

/-- State that bringing readiness into step does not touch: a step of the FRC that waits for a line's end, and whether THERM has taken a
monitor sample since it became READY, apart. -/
abbrev State.deep (s : State) :=
  (s.base, s.otp, s.flash, s.fl, s.clk, s.wake, { s.bg with trimStep := 0 }, { s.therm with mon := false }, s.vid, s.scan, s.accel,
    s.reply, s.faultLog)

/-- A byte of main SRAM that a completion may be written to: one of the windows of the 16 completion rings. -/
def State.inRings (s : State) (a : Nat) : Prop := ∃ q, q < 16 ∧ s.cqBase q ≤ a ∧ a < s.cqBase q + 8192

/-- A byte of a bank that holds a band. -/
def State.inBands (s : State) (a : Nat) : Prop := ∃ i, i < 3 ∧ s.rd (bandBank i) * bankSize ≤ a ∧ a < s.rd (bandBank i) * bankSize + bankSize

/-- A byte that readiness may touch, where `C` keeps the bases of the rings and the banks of the bands: a completion's, a band's, or
the RECEIPT record's. -/
def Touch (C : Fld → Prop) (s : State) : Ram → Nat → Prop
  | .sram, a => (∀ q, C (VEC.Q_CQ_BASE_ADDR q)) → (∀ i, C (bandBank i)) → s.inRings a ∨ s.inBands a
  | .keep, a => 0x100 ≤ a ∧ a < 0x120

/-- The change from `s` to `t` keeps what `C`, `D` and `H` say. -/
structure Keeps (C : Fld → Prop) (D H : Prop) (s t : State) : Prop where
  regs : ∀ f, C f → t.rd f = s.rd f
  pending : t.pending = s.pending
  part : t.part = s.part
  clock : t.clock = s.clock
  otp : s.otp.grown t.otp
  held : H → s.base = .held → t.base = .held
  deep : D → t.deep = s.deep
  mem : D → ∀ m a, ¬Touch C s m a → t.byte m a = s.byte m a
  canon : Safety.canonical s → Safety.canonical t

/-- No field. -/
abbrev noFld : Fld → Prop := fun _ => False

theorem noFld_apart (g f : Fld) (h : noFld f) : g.apart f = true := h.elim

theorem noFld_ne (a : Nat) (f : Fld) (h : noFld f) : f.addr ≠ a := h.elim

variable {C : Fld → Prop} {D H : Prop} {r s t : State}

theorem Touch.back {m : Ram} {a : Nat} (h : ∀ f, C f → t.rd f = s.rd f) (k : Touch C t m a) : Touch C s m a := by
  cases m with
  | keep => exact k
  | sram =>
    intro hC hB
    rcases k hC hB with ⟨q, hq, l, u⟩ | ⟨i, hi, l, u⟩
    · have e : t.cqBase q = s.cqBase q := by simp only [State.cqBase, h _ (hC q)]
      exact .inl ⟨q, hq, e ▸ l, e ▸ u⟩
    · exact .inr ⟨i, hi, h _ (hB i) ▸ l, h _ (hB i) ▸ u⟩

theorem byte_congr {m : Ram} {a : Nat} (hs : t.sram = s.sram) (hk : t.keep = s.keep) : t.byte m a = s.byte m a := by
  cases m <;> simp only [State.byte, State.cells, hs, hk]

theorem Keeps.refl (s : State) : Keeps C D H s s :=
  ⟨fun _ _ => rfl, rfl, rfl, rfl, Otp.grown_refl _, fun _ h => h, fun _ => rfl, fun _ _ _ _ => rfl, fun h => h⟩

theorem Keeps.trans (h : Keeps C D H r s) (k : Keeps C D H s t) : Keeps C D H r t :=
  ⟨fun f hf => (k.regs f hf).trans (h.regs f hf), k.pending.trans h.pending, k.part.trans h.part, k.clock.trans h.clock,
    Otp.grown_trans h.otp k.otp, fun x e => k.held x (h.held x e), fun x => (k.deep x).trans (h.deep x),
    fun x m a n => (k.mem x m a fun y => n (y.back h.regs)).trans (h.mem x m a n), fun x => k.canon (h.canon x)⟩

theorem Keeps.weaken {C' : Fld → Prop} {D' H' : Prop} (h : Keeps C D H s t) (hC : ∀ f, C' f → C f) (hD : D' → D)
    (hH : H' → H) : Keeps C' D' H' s t :=
  ⟨fun f hf => h.regs f (hC f hf), h.pending, h.part, h.clock, h.otp, fun x => h.held (hH x), fun x => h.deep (hD x),
    fun x m a n => h.mem (hD x) m a fun y => n (by
      cases m with
      | keep => exact y
      | sram => exact fun z w => y (fun q => hC _ (z q)) fun i => hC _ (w i)), h.canon⟩

/-- A change of state that lies elsewhere. -/
theorem Keeps.same (h : Keeps C D H r s) (regs : t.regs = s.regs) (pending : t.pending = s.pending) (part : t.part = s.part)
    (clock : t.clock = s.clock) (otp : t.otp = s.otp) (base : t.base = s.base) (deep : D → t.deep = s.deep)
    (sram : t.sram = s.sram) (keep : t.keep = s.keep) (flash : t.flash = s.flash) (acc : t.led.acc = s.led.acc)
    (tot : t.led.base = s.led.base) : Keeps C D H r t :=
  h.trans ⟨fun f _ => by simp only [State.rd, State.reg, regs], pending, part, clock, otp ▸ Otp.grown_refl _,
    fun _ e => base.trans e, deep, fun _ _ _ _ => byte_congr sram keep, fun ⟨a, b, c, d, e, f⟩ =>
      ⟨regs ▸ a, sram ▸ b, keep ▸ c, flash ▸ d, acc ▸ e, tot ▸ f⟩⟩

/-- A chain of changes over a list. -/
theorem Keeps.foldl {α : Type} {f : State → α → State} (l : List α) (hf : ∀ s x, Keeps C D H r s → Keeps C D H r (f s x))
    (h : Keeps C D H r s) : Keeps C D H r (l.foldl f s) := by
  induction l generalizing s with
  | nil => exact h
  | cons x l ih => exact ih (hf s x h)

/-- A change that is made only where there is something to make it with. -/
theorem Keeps.elim {α : Type} {o : Option α} {f : α → State} (h : Keeps C D H r s) (hf : ∀ a, o = some a → Keeps C D H r (f a)) :
    Keeps C D H r (o.elim s f) := by
  cases o with
  | none => exact h
  | some a => exact hf a rfl

theorem Keeps.setReg {a : Nat} {w : Word} (hg : ∀ f, C f → f.addr ≠ a) (h : Keeps C D H r s) : Keeps C D H r (s.setReg a w) :=
  h.trans ⟨fun f hf => by simp only [State.rd, State.reg_setReg, if_neg (Ne.symm (hg f hf))], rfl, rfl, rfl, Otp.grown_refl _,
    fun _ e => e, fun _ => rfl, fun _ _ _ _ => byte_congr rfl rfl, fun ⟨x, y⟩ => ⟨Store.wf_set _ _ _ _ x, y⟩⟩

theorem Keeps.wr {g : Fld} {v : Nat} (hg : ∀ f, C f → g.apart f = true) (h : Keeps C D H r s) : Keeps C D H r (s.wr g v) :=
  h.trans ⟨fun f hf => State.rd_wr_apart _ _ _ _ (hg f hf), rfl, rfl, rfl, Otp.grown_refl _,
    fun _ e => e, fun _ => rfl, fun _ _ _ _ => byte_congr rfl rfl, fun ⟨x, y⟩ => ⟨Store.wf_set _ _ _ _ x, y⟩⟩

/-- Every next state that an outcome answers keeps what `C`, `D` and `H` say. -/
def KeepsOut (C : Fld → Prop) (D H : Prop) (s : State) (o : Host.Outcome State Fault Refusal) : Prop :=
  ∀ t, o = .next t → Keeps C D H s t

theorem KeepsOut.next (h : Keeps C D H r s) : KeepsOut C D H r (.next s) := fun _ e => Host.Outcome.next.inj e ▸ h

/-- A change of fields that lie elsewhere, written as a whole state. -/
theorem Keeps.lit {part : Part} {base : Base} {boot : Boot} {clock : Nat} {regs : Store Word} {sram : Store Byte} {keep : Store Byte} {flash : Store Byte} {sramUe : List Nat} {sramCe : List Nat} {keepUe : List Nat} {keepCe : List Nat} {otp : Otp} {img : Img} {cmds : List Cmd} {queues : List Queue} {fetchNext : Nat} {faults : List FaultRec} {faultLog : List (Nat × Nat)} {led : Ledger} {fl : Flash} {clk : Clk} {wake : Wake} {sup : Supply} {bg : Bg} {therm : Therm} {raster : Raster} {print : Print} {feed : Feed} {cut : Cutter} {loops : Loops} {chans : List Chan} {vid : Vid} {scan : ScanSt} {enc : Enc} {dec : Dec} {accel : Accel} {reply : List Nat} {free : Nat} {pending : List Instr}
    (e0 : regs = s.regs) (e1 : pending = s.pending) (e2 : part = s.part) (e3 : clock = s.clock) (e4 : otp = s.otp) (e5 : sram = s.sram) (e6 : keep = s.keep) (e7 : flash = s.flash) (e8 : led.acc = s.led.acc) (e9 : led.base = s.led.base) (hk : Keeps C D H r s)
    (hb : H → s.base = .held → base = .held)
    (hd : D → (State.mk part base boot clock regs sram keep flash sramUe sramCe keepUe keepCe otp img cmds queues fetchNext faults faultLog led fl clk wake sup bg therm raster print feed cut loops chans vid scan enc dec accel reply free pending).deep = s.deep) :
    Keeps C D H r (State.mk part base boot clock regs sram keep flash sramUe sramCe keepUe keepCe otp img cmds queues fetchNext faults faultLog led fl clk wake sup bg therm raster print feed cut loops chans vid scan enc dec accel reply free pending) := by
  subst e0 e1 e2 e3 e4 e5 e6 e7
  exact hk.trans ⟨fun _ _ => rfl, rfl, rfl, rfl, Otp.grown_refl _, hb, hd, fun _ _ _ _ => byte_congr rfl rfl, fun ⟨a, b, c, d, e, f⟩ => ⟨a, b, c, d, e8 ▸ e, e9 ▸ f⟩⟩

theorem putBytes_wf (c : Store Byte) (a : Nat) (l : List Nat) (h : Store.wf 0 c = true) : Store.wf 0 (putBytes c a l) = true := by
  induction l generalizing c a with
  | nil => exact h
  | cons b l ih => exact ih _ _ (Store.wf_set _ _ _ _ h)

theorem putBytes_get (c : Store Byte) (a : Nat) (l : List Nat) (x : Nat) (h : x < a ∨ a + l.length ≤ x) :
    Store.get 0 (putBytes c a l) x = Store.get 0 c x := by
  induction l generalizing c a with
  | nil => rfl
  | cons b l ih =>
    simp only [List.length_cons] at h
    rw [putBytes, ih _ _ (by omega), Store.get_set_ne _ _ _ (by omega)]

theorem Keeps.poke {m : Ram} {a : Nat} {l : List Nat} (hm : D → ∀ x, a ≤ x → x < a + l.length → Touch C r m x)
    (h : Keeps C D H r s) : Keeps C D H r (s.poke m a l) := by
  refine h.trans ?_
  have k : D → ∀ n x, ¬Touch C s n x → (s.poke m a l).byte n x = s.byte n x := by
    intro d n x nt
    by_cases e : n = m
    · subst e
      have o : x < a ∨ a + l.length ≤ x := by
        by_cases q : a ≤ x ∧ x < a + l.length
        · exact absurd ((hm d x q.1 q.2).back fun f hf => (h.regs f hf).symm) nt
        · omega
      cases n <;> exact congrArg BitVec.toNat (putBytes_get _ _ _ _ o)
    · cases n <;> cases m <;> first | rfl | exact absurd rfl e
  cases m
  · exact ⟨fun _ _ => rfl, rfl, rfl, rfl, Otp.grown_refl _, fun _ e => e, fun _ => rfl, k,
      fun ⟨x, y, z⟩ => ⟨x, putBytes_wf _ _ _ y, z⟩⟩
  · exact ⟨fun _ _ => rfl, rfl, rfl, rfl, Otp.grown_refl _, fun _ e => e, fun _ => rfl, k,
      fun ⟨x, y, z, w⟩ => ⟨x, y, putBytes_wf _ _ _ z, w⟩⟩

theorem Keeps.clearEcc {m : Ram} {w : Nat} (h : Keeps C D H r s) : Keeps C D H r (s.clearEcc m w) := by
  cases m <;> exact h.same rfl rfl rfl rfl rfl rfl (fun _ => rfl) rfl rfl rfl rfl rfl

theorem Keeps.fresh (h : Keeps C D H r s) : Keeps C D H r s.fresh.2 :=
  h.same rfl rfl rfl rfl rfl rfl (fun _ => rfl) rfl rfl rfl rfl rfl

theorem Keeps.openWord (h : Keeps C D H r s) : Keeps C D H r s.openWord.2 :=
  h.same rfl rfl rfl rfl rfl rfl (fun _ => rfl) rfl rfl rfl rfl rfl

theorem Keeps.count {k : Nat} {q : Rat} (h : Keeps C D H r s) : Keeps C D H r (s.count k q) :=
  h.trans ⟨fun _ _ => rfl, rfl, rfl, rfl, Otp.grown_refl _, fun _ e => e, fun _ => rfl,
    fun _ _ _ _ => byte_congr rfl rfl, fun ⟨a, b, c, d, e, f⟩ => ⟨a, b, c, d, Store.wf_set _ _ _ _ e, f⟩⟩

end Sys2Proof.Machine
end

