-- ==== Sys2Proof/Laws/SettleFields.lean ====
section
/-! SUPPORT. The register fields that `settle` may write: what completions, the record of errors, RECEIPTs, the paper, the
blade, the loops and the codecs show of themselves. -/

namespace Sys2Proof.Machine

/-- The field is apart from every field that `settle` may write. -/
def settleClear (f : Fld) : Bool := settleFlds.all fun g => g.apart f

/-- `C` names only fields that `settle` cannot write. -/
def Settles (C : Fld → Prop) : Prop := ∀ f, C f → settleClear f = true

theorem Settles.noFld : Settles noFld := fun _ h => h.elim

variable {C : Fld → Prop}

theorem Settles.at (hC : Settles C) {g : Fld} (hg : g ∈ settleFlds) (f : Fld) (hf : C f) : g.apart f = true :=
  List.all_eq_true.mp (hC f hf) g hg

theorem mem_fldsOf {n : Nat} {l : List (Nat → Fld)} {f : Nat → Fld} (hf : f ∈ l) (hm : ∀ i, f i = f (i % n)) (hn : 0 < n)
    (i : Nat) : f i ∈ fldsOf n l := by
  rw [hm i]
  exact List.mem_flatMap.mpr ⟨i % n, List.mem_range.mpr (Nat.mod_lt _ hn), List.mem_map.mpr ⟨f, hf, rfl⟩⟩

theorem mem_cqTail (q : Nat) : VEC.Q_CQ_IDX_TAIL q ∈ settleFlds := by
  have h : VEC.Q_CQ_IDX_TAIL q ∈ fldsOf 16 [VEC.Q_CQ_IDX_TAIL, VEC.Q_CQ_IDX_PHASE] :=
    mem_fldsOf (f := VEC.Q_CQ_IDX_TAIL) (by simp) (fun i => by simp [VEC.Q_CQ_IDX_TAIL]) (by decide) q
  simp only [settleFlds, List.mem_append]; tauto

theorem mem_cqPhase (q : Nat) : VEC.Q_CQ_IDX_PHASE q ∈ settleFlds := by
  have h : VEC.Q_CQ_IDX_PHASE q ∈ fldsOf 16 [VEC.Q_CQ_IDX_TAIL, VEC.Q_CQ_IDX_PHASE] :=
    mem_fldsOf (f := VEC.Q_CQ_IDX_PHASE) (by simp) (fun i => by simp [VEC.Q_CQ_IDX_PHASE]) (by decide) q
  simp only [settleFlds, List.mem_append]; tauto

theorem mem_loopSamples (k : Nat) : LOOP.L_SAMPLES_COUNT k ∈ settleFlds := by
  have h : LOOP.L_SAMPLES_COUNT k ∈ fldsOf 4 loopFlds :=
    mem_fldsOf (f := LOOP.L_SAMPLES_COUNT) (by simp [loopFlds]) (fun i => by simp [LOOP.L_SAMPLES_COUNT]) (by decide) k
  simp only [settleFlds, List.mem_append]; tauto

theorem mem_loopClamped (k : Nat) : LOOP.L_STAT_CLAMPED k ∈ settleFlds := by
  have h : LOOP.L_STAT_CLAMPED k ∈ fldsOf 4 loopFlds :=
    mem_fldsOf (f := LOOP.L_STAT_CLAMPED) (by simp [loopFlds]) (fun i => by simp [LOOP.L_STAT_CLAMPED]) (by decide) k
  simp only [settleFlds, List.mem_append]; tauto

theorem mem_loopState (k : Nat) : LOOP.L_STAT_STATE k ∈ settleFlds := by
  have h : LOOP.L_STAT_STATE k ∈ fldsOf 4 loopFlds :=
    mem_fldsOf (f := LOOP.L_STAT_STATE) (by simp [loopFlds]) (fun i => by simp [LOOP.L_STAT_STATE]) (by decide) k
  simp only [settleFlds, List.mem_append]; tauto

theorem mem_loopRun (k : Nat) : LOOP.L_FE_TIME_RUN_MS k ∈ settleFlds := by
  have h : LOOP.L_FE_TIME_RUN_MS k ∈ fldsOf 4 loopFlds :=
    mem_fldsOf (f := LOOP.L_FE_TIME_RUN_MS) (by simp [loopFlds]) (fun i => by simp [LOOP.L_FE_TIME_RUN_MS]) (by decide) k
  simp only [settleFlds, List.mem_append]; tauto

theorem mem_loopRev (k : Nat) : LOOP.L_OSC_REVERSALS k ∈ settleFlds := by
  have h : LOOP.L_OSC_REVERSALS k ∈ fldsOf 4 loopFlds :=
    mem_fldsOf (f := LOOP.L_OSC_REVERSALS) (by simp [loopFlds]) (fun i => by simp [LOOP.L_OSC_REVERSALS]) (by decide) k
  simp only [settleFlds, List.mem_append]; tauto

theorem mem_bandState (i : Nat) : bandState i ∈ settleFlds := by
  have h : bandState i ∈ fldsOf 3 [bandState, bandSeq, bandLines] :=
    mem_fldsOf (f := bandState) (by simp) (fun i => by simp [bandState]) (by decide) i
  simp only [settleFlds, List.mem_append]; tauto

theorem mem_bandSeq (i : Nat) : bandSeq i ∈ settleFlds := by
  have h : bandSeq i ∈ fldsOf 3 [bandState, bandSeq, bandLines] :=
    mem_fldsOf (f := bandSeq) (by simp) (fun i => by simp [bandSeq]) (by decide) i
  simp only [settleFlds, List.mem_append]; tauto

theorem mem_bandLines (i : Nat) : bandLines i ∈ settleFlds := by
  have h : bandLines i ∈ fldsOf 3 [bandState, bandSeq, bandLines] :=
    mem_fldsOf (f := bandLines) (by simp) (fun i => by simp [bandLines]) (by decide) i
  simp only [settleFlds, List.mem_append]; tauto

theorem mem_picBase (i : Nat) : (⟨DEC.PIC_BASE0_ADDR.addr + 4 * (i % 8), 0, 32⟩ : Fld) ∈ settleFlds := by
  have h : (⟨DEC.PIC_BASE0_ADDR.addr + 4 * (i % 8), 0, 32⟩ : Fld) ∈
      fldsOf 8 [fun i => ⟨DEC.PIC_BASE0_ADDR.addr + 4 * (i % 8), 0, 32⟩] :=
    mem_fldsOf (f := fun i => ⟨DEC.PIC_BASE0_ADDR.addr + 4 * (i % 8), 0, 32⟩) (by simp) (fun i => by simp) (by decide) i
  simp only [settleFlds, List.mem_append]; tauto

theorem mem_ceFld (m : Ram) : m.ceFld ∈ settleFlds := by cases m <;> decide +kernel

theorem mem_ueFld (m : Ram) : m.ueFld ∈ settleFlds := by cases m <;> decide +kernel

end Sys2Proof.Machine
end

