-- ==== Sys2Proof/Laws/KeepsSettle.lean ====
section
/-! SUPPORT. What bringing readiness into step, and each operation under it, keeps: one lemma per operation, each by the
lemmas of the operations it calls. -/

namespace Sys2Proof.Machine

set_option linter.all false
set_option Elab.async false

variable {C : Fld → Prop} {D H : Prop} {u₀ : State}

theorem State.wrI_keeps (hC : Settles C) {s : State} {f : Fld} {v : Int} (hg : ∀ x, C x → f.apart x = true) (hk : Keeps C D H u₀ s) :
    Keeps C D H u₀ (s.wrI f v) := by
  unfold State.wrI
  repeat' first
    | with_reducible assumption
    | (extract_lets +onlyGivenNames x; first | (refine (have hx : Keeps C D H u₀ x := ?_; ?_); subst x; rotate_left; clear_value x) | subst x)
    | with_reducible exact hC.at (by decide +kernel)
    | with_reducible exact hC.at (mem_cqTail _)
    | with_reducible exact hC.at (mem_cqPhase _)
    | with_reducible exact hC.at (mem_loopSamples _)
    | with_reducible exact hC.at (mem_loopClamped _)
    | with_reducible exact hC.at (mem_loopState _)
    | with_reducible exact hC.at (mem_loopRun _)
    | with_reducible exact hC.at (mem_loopRev _)
    | with_reducible exact hC.at (mem_bandState _)
    | with_reducible exact hC.at (mem_bandSeq _)
    | with_reducible exact hC.at (mem_bandLines _)
    | with_reducible exact hC.at (mem_picBase _)
    | with_reducible exact hC.at (mem_ceFld _)
    | with_reducible exact hC.at (mem_ueFld _)
    | with_reducible apply Keeps.wr
    | with_reducible apply Keeps.setReg
    | with_reducible apply Keeps.foldl
    | split
    | intro _
    | (with_reducible apply Keeps.lit <;> with_reducible first | rfl | assumption | exact fun _ h => h | exact fun _ _ => rfl | exact fun _ => rfl)

theorem State.wrB_keeps (hC : Settles C) {s : State} {f : Fld} {b : Bool} (hg : ∀ x, C x → f.apart x = true) (hk : Keeps C D H u₀ s) :
    Keeps C D H u₀ (s.wrB f b) := by
  unfold State.wrB
  repeat' first
    | with_reducible assumption
    | (extract_lets +onlyGivenNames x; first | (refine (have hx : Keeps C D H u₀ x := ?_; ?_); subst x; rotate_left; clear_value x) | subst x)
    | with_reducible exact hC.at (by decide +kernel)
    | with_reducible exact hC.at (mem_cqTail _)
    | with_reducible exact hC.at (mem_cqPhase _)
    | with_reducible exact hC.at (mem_loopSamples _)
    | with_reducible exact hC.at (mem_loopClamped _)
    | with_reducible exact hC.at (mem_loopState _)
    | with_reducible exact hC.at (mem_loopRun _)
    | with_reducible exact hC.at (mem_loopRev _)
    | with_reducible exact hC.at (mem_bandState _)
    | with_reducible exact hC.at (mem_bandSeq _)
    | with_reducible exact hC.at (mem_bandLines _)
    | with_reducible exact hC.at (mem_picBase _)
    | with_reducible exact hC.at (mem_ceFld _)
    | with_reducible exact hC.at (mem_ueFld _)
    | with_reducible apply Keeps.wr
    | with_reducible apply Keeps.setReg
    | with_reducible apply Keeps.foldl
    | split
    | intro _
    | (with_reducible apply Keeps.lit <;> with_reducible first | rfl | assumption | exact fun _ h => h | exact fun _ _ => rfl | exact fun _ => rfl)

theorem State.bump_keeps (hC : Settles C) {s : State} {f : Fld} {n : Nat} (hg : ∀ x, C x → f.apart x = true) (hk : Keeps C D H u₀ s) :
    Keeps C D H u₀ (s.bump f n) := by
  unfold State.bump
  repeat' first
    | with_reducible assumption
    | (extract_lets +onlyGivenNames x; first | (refine (have hx : Keeps C D H u₀ x := ?_; ?_); subst x; rotate_left; clear_value x) | subst x)
    | with_reducible exact hC.at (by decide +kernel)
    | with_reducible exact hC.at (mem_cqTail _)
    | with_reducible exact hC.at (mem_cqPhase _)
    | with_reducible exact hC.at (mem_loopSamples _)
    | with_reducible exact hC.at (mem_loopClamped _)
    | with_reducible exact hC.at (mem_loopState _)
    | with_reducible exact hC.at (mem_loopRun _)
    | with_reducible exact hC.at (mem_loopRev _)
    | with_reducible exact hC.at (mem_bandState _)
    | with_reducible exact hC.at (mem_bandSeq _)
    | with_reducible exact hC.at (mem_bandLines _)
    | with_reducible exact hC.at (mem_picBase _)
    | with_reducible exact hC.at (mem_ceFld _)
    | with_reducible exact hC.at (mem_ueFld _)
    | with_reducible apply Keeps.wr
    | with_reducible apply Keeps.setReg
    | with_reducible apply Keeps.foldl
    | split
    | intro _
    | (with_reducible apply Keeps.lit <;> with_reducible first | rfl | assumption | exact fun _ h => h | exact fun _ _ => rfl | exact fun _ => rfl)

theorem State.wrBit_keeps (hC : Settles C) {s : State} {f : Fld} {i : Nat} {b : Bool} (hg : ∀ x, C x → f.apart x = true) (hk : Keeps C D H u₀ s) :
    Keeps C D H u₀ (s.wrBit f i b) := by
  unfold State.wrBit
  repeat' first
    | with_reducible assumption
    | (extract_lets +onlyGivenNames x; first | (refine (have hx : Keeps C D H u₀ x := ?_; ?_); subst x; rotate_left; clear_value x) | subst x)
    | with_reducible exact hC.at (by decide +kernel)
    | with_reducible exact hC.at (mem_cqTail _)
    | with_reducible exact hC.at (mem_cqPhase _)
    | with_reducible exact hC.at (mem_loopSamples _)
    | with_reducible exact hC.at (mem_loopClamped _)
    | with_reducible exact hC.at (mem_loopState _)
    | with_reducible exact hC.at (mem_loopRun _)
    | with_reducible exact hC.at (mem_loopRev _)
    | with_reducible exact hC.at (mem_bandState _)
    | with_reducible exact hC.at (mem_bandSeq _)
    | with_reducible exact hC.at (mem_bandLines _)
    | with_reducible exact hC.at (mem_picBase _)
    | with_reducible exact hC.at (mem_ceFld _)
    | with_reducible exact hC.at (mem_ueFld _)
    | with_reducible apply Keeps.wr
    | with_reducible apply Keeps.setReg
    | with_reducible apply Keeps.foldl
    | split
    | intro _
    | (with_reducible apply Keeps.lit <;> with_reducible first | rfl | assumption | exact fun _ h => h | exact fun _ _ => rfl | exact fun _ => rfl)

theorem State.vec_keeps (hC : Settles C) {s : State} {v : Nat} (hk : Keeps C D H u₀ s) :
    Keeps C D H u₀ (s.vec v) := by
  unfold State.vec
  repeat' first
    | with_reducible assumption
    | (extract_lets +onlyGivenNames x; first | (refine (have hx : Keeps C D H u₀ x := ?_; ?_); subst x; rotate_left; clear_value x) | subst x)
    | with_reducible exact hC.at (by decide +kernel)
    | with_reducible exact hC.at (mem_cqTail _)
    | with_reducible exact hC.at (mem_cqPhase _)
    | with_reducible exact hC.at (mem_loopSamples _)
    | with_reducible exact hC.at (mem_loopClamped _)
    | with_reducible exact hC.at (mem_loopState _)
    | with_reducible exact hC.at (mem_loopRun _)
    | with_reducible exact hC.at (mem_loopRev _)
    | with_reducible exact hC.at (mem_bandState _)
    | with_reducible exact hC.at (mem_bandSeq _)
    | with_reducible exact hC.at (mem_bandLines _)
    | with_reducible exact hC.at (mem_picBase _)
    | with_reducible exact hC.at (mem_ceFld _)
    | with_reducible exact hC.at (mem_ueFld _)
    | with_reducible apply State.wrBit_keeps hC
    | with_reducible apply Keeps.wr
    | with_reducible apply Keeps.setReg
    | with_reducible apply Keeps.foldl
    | split
    | intro _
    | (with_reducible apply Keeps.lit <;> with_reducible first | rfl | assumption | exact fun _ h => h | exact fun _ _ => rfl | exact fun _ => rfl)

theorem State.rodVec_keeps (hC : Settles C) {s : State} {r : Rod} (hk : Keeps C D H u₀ s) :
    Keeps C D H u₀ (s.rodVec r) := by
  unfold State.rodVec
  repeat' first
    | with_reducible assumption
    | (extract_lets +onlyGivenNames x; first | (refine (have hx : Keeps C D H u₀ x := ?_; ?_); subst x; rotate_left; clear_value x) | subst x)
    | with_reducible exact hC.at (by decide +kernel)
    | with_reducible exact hC.at (mem_cqTail _)
    | with_reducible exact hC.at (mem_cqPhase _)
    | with_reducible exact hC.at (mem_loopSamples _)
    | with_reducible exact hC.at (mem_loopClamped _)
    | with_reducible exact hC.at (mem_loopState _)
    | with_reducible exact hC.at (mem_loopRun _)
    | with_reducible exact hC.at (mem_loopRev _)
    | with_reducible exact hC.at (mem_bandState _)
    | with_reducible exact hC.at (mem_bandSeq _)
    | with_reducible exact hC.at (mem_bandLines _)
    | with_reducible exact hC.at (mem_picBase _)
    | with_reducible exact hC.at (mem_ceFld _)
    | with_reducible exact hC.at (mem_ueFld _)
    | with_reducible apply State.vec_keeps hC
    | with_reducible apply Keeps.wr
    | with_reducible apply Keeps.setReg
    | with_reducible apply Keeps.foldl
    | split
    | intro _
    | (with_reducible apply Keeps.lit <;> with_reducible first | rfl | assumption | exact fun _ h => h | exact fun _ _ => rfl | exact fun _ => rfl)

theorem State.evt_keeps (hC : Settles C) {s : State} {f : Fld} {r : Rod} (hg : ∀ x, C x → f.apart x = true) (hk : Keeps C D H u₀ s) :
    Keeps C D H u₀ (s.evt f r) := by
  unfold State.evt
  repeat' first
    | with_reducible assumption
    | (extract_lets +onlyGivenNames x; first | (refine (have hx : Keeps C D H u₀ x := ?_; ?_); subst x; rotate_left; clear_value x) | subst x)
    | with_reducible exact hC.at (by decide +kernel)
    | with_reducible exact hC.at (mem_cqTail _)
    | with_reducible exact hC.at (mem_cqPhase _)
    | with_reducible exact hC.at (mem_loopSamples _)
    | with_reducible exact hC.at (mem_loopClamped _)
    | with_reducible exact hC.at (mem_loopState _)
    | with_reducible exact hC.at (mem_loopRun _)
    | with_reducible exact hC.at (mem_loopRev _)
    | with_reducible exact hC.at (mem_bandState _)
    | with_reducible exact hC.at (mem_bandSeq _)
    | with_reducible exact hC.at (mem_bandLines _)
    | with_reducible exact hC.at (mem_picBase _)
    | with_reducible exact hC.at (mem_ceFld _)
    | with_reducible exact hC.at (mem_ueFld _)
    | with_reducible apply State.rodVec_keeps hC
    | with_reducible apply Keeps.wr
    | with_reducible apply Keeps.setReg
    | with_reducible apply Keeps.foldl
    | split
    | intro _
    | (with_reducible apply Keeps.lit <;> with_reducible first | rfl | assumption | exact fun _ h => h | exact fun _ _ => rfl | exact fun _ => rfl)

theorem State.queueVec_keeps (hC : Settles C) {s : State} {q : Nat} (hk : Keeps C D H u₀ s) :
    Keeps C D H u₀ (s.queueVec q) := by
  unfold State.queueVec
  repeat' first
    | with_reducible assumption
    | (extract_lets +onlyGivenNames x; first | (refine (have hx : Keeps C D H u₀ x := ?_; ?_); subst x; rotate_left; clear_value x) | subst x)
    | with_reducible exact hC.at (by decide +kernel)
    | with_reducible exact hC.at (mem_cqTail _)
    | with_reducible exact hC.at (mem_cqPhase _)
    | with_reducible exact hC.at (mem_loopSamples _)
    | with_reducible exact hC.at (mem_loopClamped _)
    | with_reducible exact hC.at (mem_loopState _)
    | with_reducible exact hC.at (mem_loopRun _)
    | with_reducible exact hC.at (mem_loopRev _)
    | with_reducible exact hC.at (mem_bandState _)
    | with_reducible exact hC.at (mem_bandSeq _)
    | with_reducible exact hC.at (mem_bandLines _)
    | with_reducible exact hC.at (mem_picBase _)
    | with_reducible exact hC.at (mem_ceFld _)
    | with_reducible exact hC.at (mem_ueFld _)
    | with_reducible apply Keeps.count
    | with_reducible apply State.vec_keeps hC
    | with_reducible apply Keeps.wr
    | with_reducible apply Keeps.setReg
    | with_reducible apply Keeps.foldl
    | split
    | intro _
    | (with_reducible apply Keeps.lit <;> with_reducible first | rfl | assumption | exact fun _ h => h | exact fun _ _ => rfl | exact fun _ => rfl)

theorem State.checkWord_keeps (hC : Settles C) {s : State} {m : Ram} {w : Nat} (hk : Keeps C D H u₀ s) :
    Keeps C D H u₀ (s.checkWord m w) := by
  unfold State.checkWord
  repeat' first
    | with_reducible assumption
    | (extract_lets +onlyGivenNames x; first | (refine (have hx : Keeps C D H u₀ x := ?_; ?_); subst x; rotate_left; clear_value x) | subst x)
    | with_reducible exact hC.at (by decide +kernel)
    | with_reducible exact hC.at (mem_cqTail _)
    | with_reducible exact hC.at (mem_cqPhase _)
    | with_reducible exact hC.at (mem_loopSamples _)
    | with_reducible exact hC.at (mem_loopClamped _)
    | with_reducible exact hC.at (mem_loopState _)
    | with_reducible exact hC.at (mem_loopRun _)
    | with_reducible exact hC.at (mem_loopRev _)
    | with_reducible exact hC.at (mem_bandState _)
    | with_reducible exact hC.at (mem_bandSeq _)
    | with_reducible exact hC.at (mem_bandLines _)
    | with_reducible exact hC.at (mem_picBase _)
    | with_reducible exact hC.at (mem_ceFld _)
    | with_reducible exact hC.at (mem_ueFld _)
    | with_reducible apply State.bump_keeps hC
    | with_reducible apply State.rodVec_keeps hC
    | with_reducible apply Keeps.wr
    | with_reducible apply Keeps.setReg
    | with_reducible apply Keeps.foldl
    | split
    | intro _
    | (with_reducible apply Keeps.lit <;> with_reducible first | rfl | assumption | exact fun _ h => h | exact fun _ _ => rfl | exact fun _ => rfl)

theorem State.writeWord_keeps (hC : Settles C) {s : State} {m : Ram} {a : Nat} {bs : List Nat} {w : Nat}
    (hm : D → ∀ x, a ≤ x → x < a + bs.length → Touch C u₀ m x) (hk : Keeps C D H u₀ s) :
    Keeps C D H u₀ (s.writeWord m a bs w) := by
  unfold State.writeWord
  extract_lets lo hi part
  have hp : D → ∀ x, lo ≤ x → x < lo + part.length → Touch C u₀ m x := by
    intro d x l u
    have hl : part.length ≤ hi - lo := List.length_take_le _ _
    have h1 : a ≤ lo := Nat.le_max_left _ _
    have h2 : hi ≤ a + bs.length := Nat.min_le_left _ _
    exact hm d x (by omega) (by omega)
  split
  · exact Keeps.clearEcc (Keeps.poke hp hk)
  · split
    · exact State.checkWord_keeps hC hk
    · exact Keeps.clearEcc (Keeps.poke hp (State.checkWord_keeps hC hk))

theorem State.writeMem_keeps (hC : Settles C) {s : State} {m : Ram} {a : Nat} {bs : List Nat}
    (hm : D → ∀ x, a ≤ x → x < a + bs.length → Touch C u₀ m x) (hk : Keeps C D H u₀ s) : Keeps C D H u₀ (s.writeMem m a bs) := by
  unfold State.writeMem
  exact Keeps.foldl _ (fun _ _ h => State.writeWord_keeps hC hm h) hk

/-- A completion entry lies in the window of its ring. -/
theorem touch_entry {s : State} (hr : ∀ f, C f → s.rd f = u₀.rd f) (q : Nat) (bs : List Nat) (hl : bs.length = 16) :
    D → ∀ x, s.cqBase q + 16 * s.rd (VEC.Q_CQ_IDX_TAIL q) ≤ x → x < s.cqBase q + 16 * s.rd (VEC.Q_CQ_IDX_TAIL q) + bs.length →
      Touch C u₀ .sram x := by
  intro _ x l u hC _
  have e : s.cqBase q = u₀.cqBase (q % 16) := by
    have : VEC.Q_CQ_BASE_ADDR (q % 16) = VEC.Q_CQ_BASE_ADDR q := by simp [VEC.Q_CQ_BASE_ADDR]
    rw [State.cqBase, State.cqBase, this, hr _ (hC q)]
  have ht : s.rd (VEC.Q_CQ_IDX_TAIL q) < 2 ^ (VEC.Q_CQ_IDX_TAIL q).wid := State.rd_lt _ _
  have hw : 2 ^ (VEC.Q_CQ_IDX_TAIL q).wid ≤ 512 := by simp [VEC.Q_CQ_IDX_TAIL]
  exact .inl ⟨q % 16, Nat.mod_lt _ (by decide), by omega, by omega⟩

theorem State.clearFaults_keeps (hC : Settles C) {s : State} {codes : List Nat} (hk : Keeps C D H u₀ s) :
    Keeps C D H u₀ (s.clearFaults codes) := by
  unfold State.clearFaults
  repeat' first
    | with_reducible assumption
    | (extract_lets +onlyGivenNames x; first | (refine (have hx : Keeps C D H u₀ x := ?_; ?_); subst x; rotate_left; clear_value x) | subst x)
    | with_reducible exact hC.at (by decide +kernel)
    | with_reducible exact hC.at (mem_cqTail _)
    | with_reducible exact hC.at (mem_cqPhase _)
    | with_reducible exact hC.at (mem_loopSamples _)
    | with_reducible exact hC.at (mem_loopClamped _)
    | with_reducible exact hC.at (mem_loopState _)
    | with_reducible exact hC.at (mem_loopRun _)
    | with_reducible exact hC.at (mem_loopRev _)
    | with_reducible exact hC.at (mem_bandState _)
    | with_reducible exact hC.at (mem_bandSeq _)
    | with_reducible exact hC.at (mem_bandLines _)
    | with_reducible exact hC.at (mem_picBase _)
    | with_reducible exact hC.at (mem_ceFld _)
    | with_reducible exact hC.at (mem_ueFld _)
    | with_reducible apply Keeps.wr
    | with_reducible apply Keeps.setReg
    | with_reducible apply Keeps.foldl
    | split
    | intro _
    | (with_reducible apply Keeps.lit <;> with_reducible first | rfl | assumption | exact fun _ h => h | exact fun _ _ => rfl | exact fun _ => rfl)

theorem State.modCmd_keeps (hC : Settles C) {s : State} {t : Nat} {f : Cmd → Cmd} (hk : Keeps C D H u₀ s) :
    Keeps C D H u₀ (s.modCmd t f) := by
  unfold State.modCmd
  repeat' first
    | with_reducible assumption
    | (extract_lets +onlyGivenNames x; first | (refine (have hx : Keeps C D H u₀ x := ?_; ?_); subst x; rotate_left; clear_value x) | subst x)
    | with_reducible exact hC.at (by decide +kernel)
    | with_reducible exact hC.at (mem_cqTail _)
    | with_reducible exact hC.at (mem_cqPhase _)
    | with_reducible exact hC.at (mem_loopSamples _)
    | with_reducible exact hC.at (mem_loopClamped _)
    | with_reducible exact hC.at (mem_loopState _)
    | with_reducible exact hC.at (mem_loopRun _)
    | with_reducible exact hC.at (mem_loopRev _)
    | with_reducible exact hC.at (mem_bandState _)
    | with_reducible exact hC.at (mem_bandSeq _)
    | with_reducible exact hC.at (mem_bandLines _)
    | with_reducible exact hC.at (mem_picBase _)
    | with_reducible exact hC.at (mem_ceFld _)
    | with_reducible exact hC.at (mem_ueFld _)
    | with_reducible apply Keeps.wr
    | with_reducible apply Keeps.setReg
    | with_reducible apply Keeps.foldl
    | split
    | intro _
    | (with_reducible apply Keeps.lit <;> with_reducible first | rfl | assumption | exact fun _ h => h | exact fun _ _ => rfl | exact fun _ => rfl)

theorem State.start_keeps (hC : Settles C) {s : State} {t : Nat} (hk : Keeps C D H u₀ s) :
    Keeps C D H u₀ (s.start t) := by
  unfold State.start
  repeat' first
    | with_reducible assumption
    | (extract_lets +onlyGivenNames x; first | (refine (have hx : Keeps C D H u₀ x := ?_; ?_); subst x; rotate_left; clear_value x) | subst x)
    | with_reducible exact hC.at (by decide +kernel)
    | with_reducible exact hC.at (mem_cqTail _)
    | with_reducible exact hC.at (mem_cqPhase _)
    | with_reducible exact hC.at (mem_loopSamples _)
    | with_reducible exact hC.at (mem_loopClamped _)
    | with_reducible exact hC.at (mem_loopState _)
    | with_reducible exact hC.at (mem_loopRun _)
    | with_reducible exact hC.at (mem_loopRev _)
    | with_reducible exact hC.at (mem_bandState _)
    | with_reducible exact hC.at (mem_bandSeq _)
    | with_reducible exact hC.at (mem_bandLines _)
    | with_reducible exact hC.at (mem_picBase _)
    | with_reducible exact hC.at (mem_ceFld _)
    | with_reducible exact hC.at (mem_ueFld _)
    | with_reducible apply State.modCmd_keeps hC
    | with_reducible apply Keeps.wr
    | with_reducible apply Keeps.setReg
    | with_reducible apply Keeps.foldl
    | split
    | intro _
    | (with_reducible apply Keeps.lit <;> with_reducible first | rfl | assumption | exact fun _ h => h | exact fun _ _ => rfl | exact fun _ => rfl)

theorem State.release_keeps (hC : Settles C) {s : State} {t : Nat} {r : Rod} (hk : Keeps C D H u₀ s) :
    Keeps C D H u₀ (s.release t r) := by
  unfold State.release
  repeat' first
    | with_reducible assumption
    | (extract_lets +onlyGivenNames x; first | (refine (have hx : Keeps C D H u₀ x := ?_; ?_); subst x; rotate_left; clear_value x) | subst x)
    | with_reducible exact hC.at (by decide +kernel)
    | with_reducible exact hC.at (mem_cqTail _)
    | with_reducible exact hC.at (mem_cqPhase _)
    | with_reducible exact hC.at (mem_loopSamples _)
    | with_reducible exact hC.at (mem_loopClamped _)
    | with_reducible exact hC.at (mem_loopState _)
    | with_reducible exact hC.at (mem_loopRun _)
    | with_reducible exact hC.at (mem_loopRev _)
    | with_reducible exact hC.at (mem_bandState _)
    | with_reducible exact hC.at (mem_bandSeq _)
    | with_reducible exact hC.at (mem_bandLines _)
    | with_reducible exact hC.at (mem_picBase _)
    | with_reducible exact hC.at (mem_ceFld _)
    | with_reducible exact hC.at (mem_ueFld _)
    | with_reducible apply State.modCmd_keeps hC
    | with_reducible apply Keeps.wr
    | with_reducible apply Keeps.setReg
    | with_reducible apply Keeps.foldl
    | split
    | intro _
    | (with_reducible apply Keeps.lit <;> with_reducible first | rfl | assumption | exact fun _ h => h | exact fun _ _ => rfl | exact fun _ => rfl)

theorem State.writeCompl_keeps (hC : Settles C) {s : State} {q : Nat} {c : Compl} (hk : Keeps C D H u₀ s) :
    Keeps C D H u₀ (s.writeCompl q c) := by
  unfold State.writeCompl
  repeat' first
    | with_reducible assumption
    | (extract_lets +onlyGivenNames x; first | (refine (have hx : Keeps C D H u₀ x := ?_; ?_); subst x; rotate_left; clear_value x) | subst x)
    | with_reducible exact hC.at (by decide +kernel)
    | with_reducible exact hC.at (mem_cqTail _)
    | with_reducible exact hC.at (mem_cqPhase _)
    | with_reducible exact hC.at (mem_loopSamples _)
    | with_reducible exact hC.at (mem_loopClamped _)
    | with_reducible exact hC.at (mem_loopState _)
    | with_reducible exact hC.at (mem_loopRun _)
    | with_reducible exact hC.at (mem_loopRev _)
    | with_reducible exact hC.at (mem_bandState _)
    | with_reducible exact hC.at (mem_bandSeq _)
    | with_reducible exact hC.at (mem_bandLines _)
    | with_reducible exact hC.at (mem_picBase _)
    | with_reducible exact hC.at (mem_ceFld _)
    | with_reducible exact hC.at (mem_ueFld _)
    | with_reducible apply Keeps.count
    | with_reducible apply State.phase_keeps hC
    | with_reducible apply State.queueVec_keeps hC
    | with_reducible apply Keeps.wr
    | (with_reducible apply State.writeMem_keeps hC (touch_entry hk.regs _ _ (by simp [leBytes])))
    | with_reducible apply Keeps.setReg
    | with_reducible apply Keeps.foldl
    | split
    | intro _
    | (with_reducible apply Keeps.lit <;> with_reducible first | rfl | assumption | exact fun _ h => h | exact fun _ _ => rfl | exact fun _ => rfl)

theorem State.post_keeps (hC : Settles C) {s : State} {q : Nat} {c : Compl} (hk : Keeps C D H u₀ s) :
    Keeps C D H u₀ (s.post q c) := by
  unfold State.post
  repeat' first
    | with_reducible assumption
    | (extract_lets +onlyGivenNames x; first | (refine (have hx : Keeps C D H u₀ x := ?_; ?_); subst x; rotate_left; clear_value x) | subst x)
    | with_reducible exact hC.at (by decide +kernel)
    | with_reducible exact hC.at (mem_cqTail _)
    | with_reducible exact hC.at (mem_cqPhase _)
    | with_reducible exact hC.at (mem_loopSamples _)
    | with_reducible exact hC.at (mem_loopClamped _)
    | with_reducible exact hC.at (mem_loopState _)
    | with_reducible exact hC.at (mem_loopRun _)
    | with_reducible exact hC.at (mem_loopRev _)
    | with_reducible exact hC.at (mem_bandState _)
    | with_reducible exact hC.at (mem_bandSeq _)
    | with_reducible exact hC.at (mem_bandLines _)
    | with_reducible exact hC.at (mem_picBase _)
    | with_reducible exact hC.at (mem_ceFld _)
    | with_reducible exact hC.at (mem_ueFld _)
    | with_reducible apply State.writeCompl_keeps hC
    | with_reducible apply Keeps.wr
    | with_reducible apply Keeps.setReg
    | with_reducible apply Keeps.foldl
    | split
    | intro _
    | (with_reducible apply Keeps.lit <;> with_reducible first | rfl | assumption | exact fun _ h => h | exact fun _ _ => rfl | exact fun _ => rfl)

theorem State.finish_keeps (hC : Settles C) {s : State} {t : Nat} {status : Nat} {r0 : Nat} {r1 : Nat} (hk : Keeps C D H u₀ s) :
    Keeps C D H u₀ (s.finish t status r0 r1) := by
  unfold State.finish
  repeat' first
    | with_reducible assumption
    | (extract_lets +onlyGivenNames x; first | (refine (have hx : Keeps C D H u₀ x := ?_; ?_); subst x; rotate_left; clear_value x) | subst x)
    | with_reducible exact hC.at (by decide +kernel)
    | with_reducible exact hC.at (mem_cqTail _)
    | with_reducible exact hC.at (mem_cqPhase _)
    | with_reducible exact hC.at (mem_loopSamples _)
    | with_reducible exact hC.at (mem_loopClamped _)
    | with_reducible exact hC.at (mem_loopState _)
    | with_reducible exact hC.at (mem_loopRun _)
    | with_reducible exact hC.at (mem_loopRev _)
    | with_reducible exact hC.at (mem_bandState _)
    | with_reducible exact hC.at (mem_bandSeq _)
    | with_reducible exact hC.at (mem_bandLines _)
    | with_reducible exact hC.at (mem_picBase _)
    | with_reducible exact hC.at (mem_ceFld _)
    | with_reducible exact hC.at (mem_ueFld _)
    | with_reducible apply State.post_keeps hC
    | with_reducible apply Keeps.wr
    | with_reducible apply Keeps.setReg
    | with_reducible apply Keeps.foldl
    | split
    | intro _
    | (with_reducible apply Keeps.lit <;> with_reducible first | rfl | assumption | exact fun _ h => h | exact fun _ _ => rfl | exact fun _ => rfl)

theorem State.endAborts_keeps (hC : Settles C) {s : State} {t : Nat} {status : Nat} (hk : Keeps C D H u₀ s) :
    Keeps C D H u₀ (s.endAborts t status) := by
  unfold State.endAborts
  repeat' first
    | with_reducible assumption
    | (extract_lets +onlyGivenNames x; first | (refine (have hx : Keeps C D H u₀ x := ?_; ?_); subst x; rotate_left; clear_value x) | subst x)
    | with_reducible exact hC.at (by decide +kernel)
    | with_reducible exact hC.at (mem_cqTail _)
    | with_reducible exact hC.at (mem_cqPhase _)
    | with_reducible exact hC.at (mem_loopSamples _)
    | with_reducible exact hC.at (mem_loopClamped _)
    | with_reducible exact hC.at (mem_loopState _)
    | with_reducible exact hC.at (mem_loopRun _)
    | with_reducible exact hC.at (mem_loopRev _)
    | with_reducible exact hC.at (mem_bandState _)
    | with_reducible exact hC.at (mem_bandSeq _)
    | with_reducible exact hC.at (mem_bandLines _)
    | with_reducible exact hC.at (mem_picBase _)
    | with_reducible exact hC.at (mem_ceFld _)
    | with_reducible exact hC.at (mem_ueFld _)
    | with_reducible apply State.finish_keeps hC
    | with_reducible apply Keeps.wr
    | with_reducible apply Keeps.setReg
    | with_reducible apply Keeps.foldl
    | split
    | intro _
    | (with_reducible apply Keeps.lit <;> with_reducible first | rfl | assumption | exact fun _ h => h | exact fun _ _ => rfl | exact fun _ => rfl)

theorem State.complete_keeps (hC : Settles C) {s : State} {t : Nat} {status : Nat} {r0 : Nat} {r1 : Nat} (hk : Keeps C D H u₀ s) :
    Keeps C D H u₀ (s.complete t status r0 r1) := by
  unfold State.complete
  repeat' first
    | with_reducible assumption
    | (extract_lets +onlyGivenNames x; first | (refine (have hx : Keeps C D H u₀ x := ?_; ?_); subst x; rotate_left; clear_value x) | subst x)
    | with_reducible exact hC.at (by decide +kernel)
    | with_reducible exact hC.at (mem_cqTail _)
    | with_reducible exact hC.at (mem_cqPhase _)
    | with_reducible exact hC.at (mem_loopSamples _)
    | with_reducible exact hC.at (mem_loopClamped _)
    | with_reducible exact hC.at (mem_loopState _)
    | with_reducible exact hC.at (mem_loopRun _)
    | with_reducible exact hC.at (mem_loopRev _)
    | with_reducible exact hC.at (mem_bandState _)
    | with_reducible exact hC.at (mem_bandSeq _)
    | with_reducible exact hC.at (mem_bandLines _)
    | with_reducible exact hC.at (mem_picBase _)
    | with_reducible exact hC.at (mem_ceFld _)
    | with_reducible exact hC.at (mem_ueFld _)
    | with_reducible apply State.endAborts_keeps hC
    | with_reducible apply State.finish_keeps hC
    | with_reducible apply Keeps.wr
    | with_reducible apply Keeps.setReg
    | with_reducible apply Keeps.foldl
    | split
    | intro _
    | (with_reducible apply Keeps.lit <;> with_reducible first | rfl | assumption | exact fun _ h => h | exact fun _ _ => rfl | exact fun _ => rfl)

theorem State.endOpen_keeps (hC : Settles C) {s : State} {t : Nat} {status : Nat} (hk : Keeps C D H u₀ s) :
    Keeps C D H u₀ (s.endOpen t status) := by
  unfold State.endOpen
  repeat' first
    | with_reducible assumption
    | (extract_lets +onlyGivenNames x; first | (refine (have hx : Keeps C D H u₀ x := ?_; ?_); subst x; rotate_left; clear_value x) | subst x)
    | with_reducible exact hC.at (by decide +kernel)
    | with_reducible exact hC.at (mem_cqTail _)
    | with_reducible exact hC.at (mem_cqPhase _)
    | with_reducible exact hC.at (mem_loopSamples _)
    | with_reducible exact hC.at (mem_loopClamped _)
    | with_reducible exact hC.at (mem_loopState _)
    | with_reducible exact hC.at (mem_loopRun _)
    | with_reducible exact hC.at (mem_loopRev _)
    | with_reducible exact hC.at (mem_bandState _)
    | with_reducible exact hC.at (mem_bandSeq _)
    | with_reducible exact hC.at (mem_bandLines _)
    | with_reducible exact hC.at (mem_picBase _)
    | with_reducible exact hC.at (mem_ceFld _)
    | with_reducible exact hC.at (mem_ueFld _)
    | with_reducible apply State.complete_keeps hC
    | with_reducible apply Keeps.openWord
    | with_reducible apply Keeps.wr
    | with_reducible apply Keeps.setReg
    | with_reducible apply Keeps.foldl
    | split
    | intro _
    | (with_reducible apply Keeps.lit <;> with_reducible first | rfl | assumption | exact fun _ h => h | exact fun _ _ => rfl | exact fun _ => rfl)

theorem State.endAll_keeps (hC : Settles C) {s : State} {ts : List Nat} {status : Nat} (hk : Keeps C D H u₀ s) :
    Keeps C D H u₀ (s.endAll ts status) := by
  unfold State.endAll
  repeat' first
    | with_reducible assumption
    | (extract_lets +onlyGivenNames x; first | (refine (have hx : Keeps C D H u₀ x := ?_; ?_); subst x; rotate_left; clear_value x) | subst x)
    | with_reducible exact hC.at (by decide +kernel)
    | with_reducible exact hC.at (mem_cqTail _)
    | with_reducible exact hC.at (mem_cqPhase _)
    | with_reducible exact hC.at (mem_loopSamples _)
    | with_reducible exact hC.at (mem_loopClamped _)
    | with_reducible exact hC.at (mem_loopState _)
    | with_reducible exact hC.at (mem_loopRun _)
    | with_reducible exact hC.at (mem_loopRev _)
    | with_reducible exact hC.at (mem_bandState _)
    | with_reducible exact hC.at (mem_bandSeq _)
    | with_reducible exact hC.at (mem_bandLines _)
    | with_reducible exact hC.at (mem_picBase _)
    | with_reducible exact hC.at (mem_ceFld _)
    | with_reducible exact hC.at (mem_ueFld _)
    | with_reducible apply State.endOpen_keeps hC
    | with_reducible apply Keeps.wr
    | with_reducible apply Keeps.setReg
    | with_reducible apply Keeps.foldl
    | split
    | intro _
    | (with_reducible apply Keeps.lit <;> with_reducible first | rfl | assumption | exact fun _ h => h | exact fun _ _ => rfl | exact fun _ => rfl)

theorem State.modLoop_keeps (hC : Settles C) {s : State} {k : Nat} {f : LoopSt → LoopSt} (hk : Keeps C D H u₀ s) :
    Keeps C D H u₀ (s.modLoop k f) := by
  unfold State.modLoop
  repeat' first
    | with_reducible assumption
    | (extract_lets +onlyGivenNames x; first | (refine (have hx : Keeps C D H u₀ x := ?_; ?_); subst x; rotate_left; clear_value x) | subst x)
    | with_reducible exact hC.at (by decide +kernel)
    | with_reducible exact hC.at (mem_cqTail _)
    | with_reducible exact hC.at (mem_cqPhase _)
    | with_reducible exact hC.at (mem_loopSamples _)
    | with_reducible exact hC.at (mem_loopClamped _)
    | with_reducible exact hC.at (mem_loopState _)
    | with_reducible exact hC.at (mem_loopRun _)
    | with_reducible exact hC.at (mem_loopRev _)
    | with_reducible exact hC.at (mem_bandState _)
    | with_reducible exact hC.at (mem_bandSeq _)
    | with_reducible exact hC.at (mem_bandLines _)
    | with_reducible exact hC.at (mem_picBase _)
    | with_reducible exact hC.at (mem_ceFld _)
    | with_reducible exact hC.at (mem_ueFld _)
    | with_reducible apply Keeps.wr
    | with_reducible apply Keeps.setReg
    | with_reducible apply Keeps.foldl
    | split
    | intro _
    | (with_reducible apply Keeps.lit <;> with_reducible first | rfl | assumption | exact fun _ h => h | exact fun _ _ => rfl | exact fun _ => rfl)

theorem State.applyDealt_keeps (hC : Settles C) {s : State} {k : Nat} (hk : Keeps C D H u₀ s) :
    Keeps C D H u₀ (s.applyDealt k) := by
  unfold State.applyDealt
  repeat' first
    | with_reducible assumption
    | (extract_lets +onlyGivenNames x; first | (refine (have hx : Keeps C D H u₀ x := ?_; ?_); subst x; rotate_left; clear_value x) | subst x)
    | with_reducible exact hC.at (by decide +kernel)
    | with_reducible exact hC.at (mem_cqTail _)
    | with_reducible exact hC.at (mem_cqPhase _)
    | with_reducible exact hC.at (mem_loopSamples _)
    | with_reducible exact hC.at (mem_loopClamped _)
    | with_reducible exact hC.at (mem_loopState _)
    | with_reducible exact hC.at (mem_loopRun _)
    | with_reducible exact hC.at (mem_loopRev _)
    | with_reducible exact hC.at (mem_bandState _)
    | with_reducible exact hC.at (mem_bandSeq _)
    | with_reducible exact hC.at (mem_bandLines _)
    | with_reducible exact hC.at (mem_picBase _)
    | with_reducible exact hC.at (mem_ceFld _)
    | with_reducible exact hC.at (mem_ueFld _)
    | with_reducible apply State.evt_keeps hC
    | with_reducible apply Keeps.wr
    | with_reducible apply Keeps.setReg
    | with_reducible apply Keeps.foldl
    | split
    | intro _
    | (with_reducible apply Keeps.lit <;> with_reducible first | rfl | assumption | exact fun _ h => h | exact fun _ _ => rfl | exact fun _ => rfl)

theorem State.applyNow_keeps (hC : Settles C) {s : State} {k : Nat} (hk : Keeps C D H u₀ s) :
    Keeps C D H u₀ (s.applyNow k) := by
  unfold State.applyNow
  repeat' first
    | with_reducible assumption
    | (extract_lets +onlyGivenNames x; first | (refine (have hx : Keeps C D H u₀ x := ?_; ?_); subst x; rotate_left; clear_value x) | subst x)
    | with_reducible exact hC.at (by decide +kernel)
    | with_reducible exact hC.at (mem_cqTail _)
    | with_reducible exact hC.at (mem_cqPhase _)
    | with_reducible exact hC.at (mem_loopSamples _)
    | with_reducible exact hC.at (mem_loopClamped _)
    | with_reducible exact hC.at (mem_loopState _)
    | with_reducible exact hC.at (mem_loopRun _)
    | with_reducible exact hC.at (mem_loopRev _)
    | with_reducible exact hC.at (mem_bandState _)
    | with_reducible exact hC.at (mem_bandSeq _)
    | with_reducible exact hC.at (mem_bandLines _)
    | with_reducible exact hC.at (mem_picBase _)
    | with_reducible exact hC.at (mem_ceFld _)
    | with_reducible exact hC.at (mem_ueFld _)
    | with_reducible apply State.applyDealt_keeps hC
    | with_reducible apply State.modLoop_keeps hC
    | with_reducible apply State.wrBit_keeps hC
    | with_reducible apply Keeps.wr
    | with_reducible apply Keeps.setReg
    | with_reducible apply Keeps.foldl
    | split
    | intro _
    | (with_reducible apply Keeps.lit <;> with_reducible first | rfl | assumption | exact fun _ h => h | exact fun _ _ => rfl | exact fun _ => rfl)

theorem State.clientZero_keeps (hC : Settles C) {s : State} {k : Nat} (hk : Keeps C D H u₀ s) :
    Keeps C D H u₀ (s.clientZero k) := by
  unfold State.clientZero
  repeat' first
    | with_reducible assumption
    | (extract_lets +onlyGivenNames x; first | (refine (have hx : Keeps C D H u₀ x := ?_; ?_); subst x; rotate_left; clear_value x) | subst x)
    | with_reducible exact hC.at (by decide +kernel)
    | with_reducible exact hC.at (mem_cqTail _)
    | with_reducible exact hC.at (mem_cqPhase _)
    | with_reducible exact hC.at (mem_loopSamples _)
    | with_reducible exact hC.at (mem_loopClamped _)
    | with_reducible exact hC.at (mem_loopState _)
    | with_reducible exact hC.at (mem_loopRun _)
    | with_reducible exact hC.at (mem_loopRev _)
    | with_reducible exact hC.at (mem_bandState _)
    | with_reducible exact hC.at (mem_bandSeq _)
    | with_reducible exact hC.at (mem_bandLines _)
    | with_reducible exact hC.at (mem_picBase _)
    | with_reducible exact hC.at (mem_ceFld _)
    | with_reducible exact hC.at (mem_ueFld _)
    | with_reducible apply Keeps.wr
    | with_reducible apply Keeps.setReg
    | with_reducible apply Keeps.foldl
    | split
    | intro _
    | (with_reducible apply Keeps.lit <;> with_reducible first | rfl | assumption | exact fun _ h => h | exact fun _ _ => rfl | exact fun _ => rfl)

theorem State.loopOn_keeps (hC : Settles C) {s : State} {k : Nat} (hk : Keeps C D H u₀ s) :
    Keeps C D H u₀ (s.loopOn k) := by
  unfold State.loopOn
  repeat' first
    | with_reducible assumption
    | (extract_lets +onlyGivenNames x; first | (refine (have hx : Keeps C D H u₀ x := ?_; ?_); subst x; rotate_left; clear_value x) | subst x)
    | with_reducible exact hC.at (by decide +kernel)
    | with_reducible exact hC.at (mem_cqTail _)
    | with_reducible exact hC.at (mem_cqPhase _)
    | with_reducible exact hC.at (mem_loopSamples _)
    | with_reducible exact hC.at (mem_loopClamped _)
    | with_reducible exact hC.at (mem_loopState _)
    | with_reducible exact hC.at (mem_loopRun _)
    | with_reducible exact hC.at (mem_loopRev _)
    | with_reducible exact hC.at (mem_bandState _)
    | with_reducible exact hC.at (mem_bandSeq _)
    | with_reducible exact hC.at (mem_bandLines _)
    | with_reducible exact hC.at (mem_picBase _)
    | with_reducible exact hC.at (mem_ceFld _)
    | with_reducible exact hC.at (mem_ueFld _)
    | with_reducible apply State.clientZero_keeps hC
    | with_reducible apply State.modLoop_keeps hC
    | with_reducible apply Keeps.wr
    | with_reducible apply Keeps.setReg
    | with_reducible apply Keeps.foldl
    | split
    | intro _
    | (with_reducible apply Keeps.lit <;> with_reducible first | rfl | assumption | exact fun _ h => h | exact fun _ _ => rfl | exact fun _ => rfl)

theorem State.loopOff_keeps (hC : Settles C) {s : State} {k : Nat} (hk : Keeps C D H u₀ s) :
    Keeps C D H u₀ (s.loopOff k) := by
  unfold State.loopOff
  repeat' first
    | with_reducible assumption
    | (extract_lets +onlyGivenNames x; first | (refine (have hx : Keeps C D H u₀ x := ?_; ?_); subst x; rotate_left; clear_value x) | subst x)
    | with_reducible exact hC.at (by decide +kernel)
    | with_reducible exact hC.at (mem_cqTail _)
    | with_reducible exact hC.at (mem_cqPhase _)
    | with_reducible exact hC.at (mem_loopSamples _)
    | with_reducible exact hC.at (mem_loopClamped _)
    | with_reducible exact hC.at (mem_loopState _)
    | with_reducible exact hC.at (mem_loopRun _)
    | with_reducible exact hC.at (mem_loopRev _)
    | with_reducible exact hC.at (mem_bandState _)
    | with_reducible exact hC.at (mem_bandSeq _)
    | with_reducible exact hC.at (mem_bandLines _)
    | with_reducible exact hC.at (mem_picBase _)
    | with_reducible exact hC.at (mem_ceFld _)
    | with_reducible exact hC.at (mem_ueFld _)
    | with_reducible apply State.applyNow_keeps hC
    | with_reducible apply State.clientZero_keeps hC
    | with_reducible apply State.modLoop_keeps hC
    | with_reducible apply Keeps.wr
    | with_reducible apply Keeps.setReg
    | with_reducible apply Keeps.foldl
    | split
    | intro _
    | (with_reducible apply Keeps.lit <;> with_reducible first | rfl | assumption | exact fun _ h => h | exact fun _ _ => rfl | exact fun _ => rfl)

theorem State.setFeed_keeps (hC : Settles C) {s : State} {f : Feed → Feed} (hk : Keeps C D H u₀ s) :
    Keeps C D H u₀ (s.setFeed f) := by
  unfold State.setFeed
  repeat' first
    | with_reducible assumption
    | (extract_lets +onlyGivenNames x; first | (refine (have hx : Keeps C D H u₀ x := ?_; ?_); subst x; rotate_left; clear_value x) | subst x)
    | with_reducible exact hC.at (by decide +kernel)
    | with_reducible exact hC.at (mem_cqTail _)
    | with_reducible exact hC.at (mem_cqPhase _)
    | with_reducible exact hC.at (mem_loopSamples _)
    | with_reducible exact hC.at (mem_loopClamped _)
    | with_reducible exact hC.at (mem_loopState _)
    | with_reducible exact hC.at (mem_loopRun _)
    | with_reducible exact hC.at (mem_loopRev _)
    | with_reducible exact hC.at (mem_bandState _)
    | with_reducible exact hC.at (mem_bandSeq _)
    | with_reducible exact hC.at (mem_bandLines _)
    | with_reducible exact hC.at (mem_picBase _)
    | with_reducible exact hC.at (mem_ceFld _)
    | with_reducible exact hC.at (mem_ueFld _)
    | with_reducible apply Keeps.wr
    | with_reducible apply Keeps.setReg
    | with_reducible apply Keeps.foldl
    | split
    | intro _
    | (with_reducible apply Keeps.lit <;> with_reducible first | rfl | assumption | exact fun _ h => h | exact fun _ _ => rfl | exact fun _ => rfl)

theorem State.motorHb_keeps (hC : Settles C) {s : State} {l : List Hb} (hk : Keeps C D H u₀ s) :
    Keeps C D H u₀ (s.motorHb l) := by
  unfold State.motorHb
  repeat' first
    | with_reducible assumption
    | (extract_lets +onlyGivenNames x; first | (refine (have hx : Keeps C D H u₀ x := ?_; ?_); subst x; rotate_left; clear_value x) | subst x)
    | with_reducible exact hC.at (by decide +kernel)
    | with_reducible exact hC.at (mem_cqTail _)
    | with_reducible exact hC.at (mem_cqPhase _)
    | with_reducible exact hC.at (mem_loopSamples _)
    | with_reducible exact hC.at (mem_loopClamped _)
    | with_reducible exact hC.at (mem_loopState _)
    | with_reducible exact hC.at (mem_loopRun _)
    | with_reducible exact hC.at (mem_loopRev _)
    | with_reducible exact hC.at (mem_bandState _)
    | with_reducible exact hC.at (mem_bandSeq _)
    | with_reducible exact hC.at (mem_bandLines _)
    | with_reducible exact hC.at (mem_picBase _)
    | with_reducible exact hC.at (mem_ceFld _)
    | with_reducible exact hC.at (mem_ueFld _)
    | with_reducible apply State.setFeed_keeps hC
    | with_reducible apply Keeps.wr
    | with_reducible apply Keeps.setReg
    | with_reducible apply Keeps.foldl
    | split
    | intro _
    | (with_reducible apply Keeps.lit <;> with_reducible first | rfl | assumption | exact fun _ h => h | exact fun _ _ => rfl | exact fun _ => rfl)

theorem State.driveHb_keeps (hC : Settles C) {s : State} (hk : Keeps C D H u₀ s) :
    Keeps C D H u₀ (s.driveHb) := by
  unfold State.driveHb
  repeat' first
    | with_reducible assumption
    | (extract_lets +onlyGivenNames x; first | (refine (have hx : Keeps C D H u₀ x := ?_; ?_); subst x; rotate_left; clear_value x) | subst x)
    | with_reducible exact hC.at (by decide +kernel)
    | with_reducible exact hC.at (mem_cqTail _)
    | with_reducible exact hC.at (mem_cqPhase _)
    | with_reducible exact hC.at (mem_loopSamples _)
    | with_reducible exact hC.at (mem_loopClamped _)
    | with_reducible exact hC.at (mem_loopState _)
    | with_reducible exact hC.at (mem_loopRun _)
    | with_reducible exact hC.at (mem_loopRev _)
    | with_reducible exact hC.at (mem_bandState _)
    | with_reducible exact hC.at (mem_bandSeq _)
    | with_reducible exact hC.at (mem_bandLines _)
    | with_reducible exact hC.at (mem_picBase _)
    | with_reducible exact hC.at (mem_ceFld _)
    | with_reducible exact hC.at (mem_ueFld _)
    | with_reducible apply State.motorHb_keeps hC
    | with_reducible apply Keeps.wr
    | with_reducible apply Keeps.setReg
    | with_reducible apply Keeps.foldl
    | split
    | intro _
    | (with_reducible apply Keeps.lit <;> with_reducible first | rfl | assumption | exact fun _ h => h | exact fun _ _ => rfl | exact fun _ => rfl)

theorem State.feedDrive_keeps (hC : Settles C) {s : State} (hk : Keeps C D H u₀ s) :
    Keeps C D H u₀ (s.feedDrive) := by
  unfold State.feedDrive
  repeat' first
    | with_reducible assumption
    | (extract_lets +onlyGivenNames x; first | (refine (have hx : Keeps C D H u₀ x := ?_; ?_); subst x; rotate_left; clear_value x) | subst x)
    | with_reducible exact hC.at (by decide +kernel)
    | with_reducible exact hC.at (mem_cqTail _)
    | with_reducible exact hC.at (mem_cqPhase _)
    | with_reducible exact hC.at (mem_loopSamples _)
    | with_reducible exact hC.at (mem_loopClamped _)
    | with_reducible exact hC.at (mem_loopState _)
    | with_reducible exact hC.at (mem_loopRun _)
    | with_reducible exact hC.at (mem_loopRev _)
    | with_reducible exact hC.at (mem_bandState _)
    | with_reducible exact hC.at (mem_bandSeq _)
    | with_reducible exact hC.at (mem_bandLines _)
    | with_reducible exact hC.at (mem_picBase _)
    | with_reducible exact hC.at (mem_ceFld _)
    | with_reducible exact hC.at (mem_ueFld _)
    | with_reducible apply State.driveHb_keeps hC
    | with_reducible apply State.loopOn_keeps hC
    | with_reducible apply Keeps.wr
    | with_reducible apply Keeps.setReg
    | with_reducible apply Keeps.foldl
    | split
    | intro _
    | (with_reducible apply Keeps.lit <;> with_reducible first | rfl | assumption | exact fun _ h => h | exact fun _ _ => rfl | exact fun _ => rfl)

theorem State.feedLoopsOff_keeps (hC : Settles C) {s : State} (hk : Keeps C D H u₀ s) :
    Keeps C D H u₀ (s.feedLoopsOff) := by
  unfold State.feedLoopsOff
  repeat' first
    | with_reducible assumption
    | (extract_lets +onlyGivenNames x; first | (refine (have hx : Keeps C D H u₀ x := ?_; ?_); subst x; rotate_left; clear_value x) | subst x)
    | with_reducible exact hC.at (by decide +kernel)
    | with_reducible exact hC.at (mem_cqTail _)
    | with_reducible exact hC.at (mem_cqPhase _)
    | with_reducible exact hC.at (mem_loopSamples _)
    | with_reducible exact hC.at (mem_loopClamped _)
    | with_reducible exact hC.at (mem_loopState _)
    | with_reducible exact hC.at (mem_loopRun _)
    | with_reducible exact hC.at (mem_loopRev _)
    | with_reducible exact hC.at (mem_bandState _)
    | with_reducible exact hC.at (mem_bandSeq _)
    | with_reducible exact hC.at (mem_bandLines _)
    | with_reducible exact hC.at (mem_picBase _)
    | with_reducible exact hC.at (mem_ceFld _)
    | with_reducible exact hC.at (mem_ueFld _)
    | with_reducible apply State.loopOff_keeps hC
    | with_reducible apply State.setFeed_keeps hC
    | with_reducible apply Keeps.wr
    | with_reducible apply Keeps.setReg
    | with_reducible apply Keeps.foldl
    | split
    | intro _
    | (with_reducible apply Keeps.lit <;> with_reducible first | rfl | assumption | exact fun _ h => h | exact fun _ _ => rfl | exact fun _ => rfl)

theorem State.setSpeed_keeps (hC : Settles C) {s : State} {um : Int} (hk : Keeps C D H u₀ s) :
    Keeps C D H u₀ (s.setSpeed um) := by
  unfold State.setSpeed
  repeat' first
    | with_reducible assumption
    | (extract_lets +onlyGivenNames x; first | (refine (have hx : Keeps C D H u₀ x := ?_; ?_); subst x; rotate_left; clear_value x) | subst x)
    | with_reducible exact hC.at (by decide +kernel)
    | with_reducible exact hC.at (mem_cqTail _)
    | with_reducible exact hC.at (mem_cqPhase _)
    | with_reducible exact hC.at (mem_loopSamples _)
    | with_reducible exact hC.at (mem_loopClamped _)
    | with_reducible exact hC.at (mem_loopState _)
    | with_reducible exact hC.at (mem_loopRun _)
    | with_reducible exact hC.at (mem_loopRev _)
    | with_reducible exact hC.at (mem_bandState _)
    | with_reducible exact hC.at (mem_bandSeq _)
    | with_reducible exact hC.at (mem_bandLines _)
    | with_reducible exact hC.at (mem_picBase _)
    | with_reducible exact hC.at (mem_ceFld _)
    | with_reducible exact hC.at (mem_ueFld _)
    | with_reducible apply State.setFeed_keeps hC
    | with_reducible apply State.wrI_keeps hC
    | with_reducible apply Keeps.wr
    | with_reducible apply Keeps.setReg
    | with_reducible apply Keeps.foldl
    | split
    | intro _
    | (with_reducible apply Keeps.lit <;> with_reducible first | rfl | assumption | exact fun _ h => h | exact fun _ _ => rfl | exact fun _ => rfl)

theorem State.feedGo_keeps (hC : Settles C) {s : State} {job : FeedJob} {rev : Bool} (hk : Keeps C D H u₀ s) :
    Keeps C D H u₀ (s.feedGo job rev) := by
  unfold State.feedGo
  repeat' first
    | with_reducible assumption
    | (extract_lets +onlyGivenNames x; first | (refine (have hx : Keeps C D H u₀ x := ?_; ?_); subst x; rotate_left; clear_value x) | subst x)
    | with_reducible exact hC.at (by decide +kernel)
    | with_reducible exact hC.at (mem_cqTail _)
    | with_reducible exact hC.at (mem_cqPhase _)
    | with_reducible exact hC.at (mem_loopSamples _)
    | with_reducible exact hC.at (mem_loopClamped _)
    | with_reducible exact hC.at (mem_loopState _)
    | with_reducible exact hC.at (mem_loopRun _)
    | with_reducible exact hC.at (mem_loopRev _)
    | with_reducible exact hC.at (mem_bandState _)
    | with_reducible exact hC.at (mem_bandSeq _)
    | with_reducible exact hC.at (mem_bandLines _)
    | with_reducible exact hC.at (mem_picBase _)
    | with_reducible exact hC.at (mem_ceFld _)
    | with_reducible exact hC.at (mem_ueFld _)
    | with_reducible apply State.feedDrive_keeps hC
    | with_reducible apply State.loopOff_keeps hC
    | with_reducible apply State.loopOn_keeps hC
    | with_reducible apply State.setFeed_keeps hC
    | with_reducible apply Keeps.wr
    | with_reducible apply Keeps.setReg
    | with_reducible apply Keeps.foldl
    | split
    | intro _
    | (with_reducible apply Keeps.lit <;> with_reducible first | rfl | assumption | exact fun _ h => h | exact fun _ _ => rfl | exact fun _ => rfl)

theorem State.feedStop_keeps (hC : Settles C) {s : State} (hk : Keeps C D H u₀ s) :
    Keeps C D H u₀ (s.feedStop) := by
  unfold State.feedStop
  repeat' first
    | with_reducible assumption
    | (extract_lets +onlyGivenNames x; first | (refine (have hx : Keeps C D H u₀ x := ?_; ?_); subst x; rotate_left; clear_value x) | subst x)
    | with_reducible exact hC.at (by decide +kernel)
    | with_reducible exact hC.at (mem_cqTail _)
    | with_reducible exact hC.at (mem_cqPhase _)
    | with_reducible exact hC.at (mem_loopSamples _)
    | with_reducible exact hC.at (mem_loopClamped _)
    | with_reducible exact hC.at (mem_loopState _)
    | with_reducible exact hC.at (mem_loopRun _)
    | with_reducible exact hC.at (mem_loopRev _)
    | with_reducible exact hC.at (mem_bandState _)
    | with_reducible exact hC.at (mem_bandSeq _)
    | with_reducible exact hC.at (mem_bandLines _)
    | with_reducible exact hC.at (mem_picBase _)
    | with_reducible exact hC.at (mem_ceFld _)
    | with_reducible exact hC.at (mem_ueFld _)
    | with_reducible apply State.loopOff_keeps hC
    | with_reducible apply State.setFeed_keeps hC
    | with_reducible apply Keeps.wr
    | with_reducible apply Keeps.setReg
    | with_reducible apply Keeps.foldl
    | split
    | intro _
    | (with_reducible apply Keeps.lit <;> with_reducible first | rfl | assumption | exact fun _ h => h | exact fun _ _ => rfl | exact fun _ => rfl)

theorem State.feedCut_keeps (hC : Settles C) {s : State} {h : Hb} (hk : Keeps C D H u₀ s) :
    Keeps C D H u₀ (s.feedCut h) := by
  unfold State.feedCut
  repeat' first
    | with_reducible assumption
    | (extract_lets +onlyGivenNames x; first | (refine (have hx : Keeps C D H u₀ x := ?_; ?_); subst x; rotate_left; clear_value x) | subst x)
    | with_reducible exact hC.at (by decide +kernel)
    | with_reducible exact hC.at (mem_cqTail _)
    | with_reducible exact hC.at (mem_cqPhase _)
    | with_reducible exact hC.at (mem_loopSamples _)
    | with_reducible exact hC.at (mem_loopClamped _)
    | with_reducible exact hC.at (mem_loopState _)
    | with_reducible exact hC.at (mem_loopRun _)
    | with_reducible exact hC.at (mem_loopRev _)
    | with_reducible exact hC.at (mem_bandState _)
    | with_reducible exact hC.at (mem_bandSeq _)
    | with_reducible exact hC.at (mem_bandLines _)
    | with_reducible exact hC.at (mem_picBase _)
    | with_reducible exact hC.at (mem_ceFld _)
    | with_reducible exact hC.at (mem_ueFld _)
    | with_reducible apply State.feedLoopsOff_keeps hC
    | with_reducible apply State.motorHb_keeps hC
    | with_reducible apply State.setFeed_keeps hC
    | with_reducible apply State.setSpeed_keeps hC
    | with_reducible apply Keeps.wr
    | with_reducible apply Keeps.setReg
    | with_reducible apply Keeps.foldl
    | split
    | intro _
    | (with_reducible apply Keeps.lit <;> with_reducible first | rfl | assumption | exact fun _ h => h | exact fun _ _ => rfl | exact fun _ => rfl)

theorem State.feedBrakePath_keeps (hC : Settles C) {s : State} (hk : Keeps C D H u₀ s) :
    Keeps C D H u₀ (s.feedBrakePath) := by
  unfold State.feedBrakePath
  repeat' first
    | with_reducible assumption
    | (extract_lets +onlyGivenNames x; first | (refine (have hx : Keeps C D H u₀ x := ?_; ?_); subst x; rotate_left; clear_value x) | subst x)
    | with_reducible exact hC.at (by decide +kernel)
    | with_reducible exact hC.at (mem_cqTail _)
    | with_reducible exact hC.at (mem_cqPhase _)
    | with_reducible exact hC.at (mem_loopSamples _)
    | with_reducible exact hC.at (mem_loopClamped _)
    | with_reducible exact hC.at (mem_loopState _)
    | with_reducible exact hC.at (mem_loopRun _)
    | with_reducible exact hC.at (mem_loopRev _)
    | with_reducible exact hC.at (mem_bandState _)
    | with_reducible exact hC.at (mem_bandSeq _)
    | with_reducible exact hC.at (mem_bandLines _)
    | with_reducible exact hC.at (mem_picBase _)
    | with_reducible exact hC.at (mem_ceFld _)
    | with_reducible exact hC.at (mem_ueFld _)
    | with_reducible apply State.feedCut_keeps hC
    | with_reducible apply State.setFeed_keeps hC
    | with_reducible apply Keeps.wr
    | with_reducible apply Keeps.setReg
    | with_reducible apply Keeps.foldl
    | split
    | intro _
    | (with_reducible apply Keeps.lit <;> with_reducible first | rfl | assumption | exact fun _ h => h | exact fun _ _ => rfl | exact fun _ => rfl)

theorem State.modSlot_keeps (hC : Settles C) {s : State} {i : Nat} {f : Slot → Slot} (hk : Keeps C D H u₀ s) :
    Keeps C D H u₀ (s.modSlot i f) := by
  unfold State.modSlot
  repeat' first
    | with_reducible assumption
    | (extract_lets +onlyGivenNames x; first | (refine (have hx : Keeps C D H u₀ x := ?_; ?_); subst x; rotate_left; clear_value x) | subst x)
    | with_reducible exact hC.at (by decide +kernel)
    | with_reducible exact hC.at (mem_cqTail _)
    | with_reducible exact hC.at (mem_cqPhase _)
    | with_reducible exact hC.at (mem_loopSamples _)
    | with_reducible exact hC.at (mem_loopClamped _)
    | with_reducible exact hC.at (mem_loopState _)
    | with_reducible exact hC.at (mem_loopRun _)
    | with_reducible exact hC.at (mem_loopRev _)
    | with_reducible exact hC.at (mem_bandState _)
    | with_reducible exact hC.at (mem_bandSeq _)
    | with_reducible exact hC.at (mem_bandLines _)
    | with_reducible exact hC.at (mem_picBase _)
    | with_reducible exact hC.at (mem_ceFld _)
    | with_reducible exact hC.at (mem_ueFld _)
    | with_reducible apply Keeps.wr
    | with_reducible apply Keeps.setReg
    | with_reducible apply Keeps.foldl
    | split
    | intro _
    | (with_reducible apply Keeps.lit <;> with_reducible first | rfl | assumption | exact fun _ h => h | exact fun _ _ => rfl | exact fun _ => rfl)

theorem State.freeSlot_keeps (hC : Settles C) {s : State} {i : Nat} (hk : Keeps C D H u₀ s) :
    Keeps C D H u₀ (s.freeSlot i) := by
  unfold State.freeSlot
  repeat' first
    | with_reducible assumption
    | (extract_lets +onlyGivenNames x; first | (refine (have hx : Keeps C D H u₀ x := ?_; ?_); subst x; rotate_left; clear_value x) | subst x)
    | with_reducible exact hC.at (by decide +kernel)
    | with_reducible exact hC.at (mem_cqTail _)
    | with_reducible exact hC.at (mem_cqPhase _)
    | with_reducible exact hC.at (mem_loopSamples _)
    | with_reducible exact hC.at (mem_loopClamped _)
    | with_reducible exact hC.at (mem_loopState _)
    | with_reducible exact hC.at (mem_loopRun _)
    | with_reducible exact hC.at (mem_loopRev _)
    | with_reducible exact hC.at (mem_bandState _)
    | with_reducible exact hC.at (mem_bandSeq _)
    | with_reducible exact hC.at (mem_bandLines _)
    | with_reducible exact hC.at (mem_picBase _)
    | with_reducible exact hC.at (mem_ceFld _)
    | with_reducible exact hC.at (mem_ueFld _)
    | with_reducible apply State.modSlot_keeps hC
    | with_reducible apply Keeps.wr
    | with_reducible apply Keeps.setReg
    | with_reducible apply Keeps.foldl
    | split
    | intro _
    | (with_reducible apply Keeps.lit <;> with_reducible first | rfl | assumption | exact fun _ h => h | exact fun _ _ => rfl | exact fun _ => rfl)

theorem State.releaseBands_keeps (hC : Settles C) {s : State} {t : Nat} (hk : Keeps C D H u₀ s) :
    Keeps C D H u₀ (s.releaseBands t) := by
  unfold State.releaseBands
  repeat' first
    | with_reducible assumption
    | (extract_lets +onlyGivenNames x; first | (refine (have hx : Keeps C D H u₀ x := ?_; ?_); subst x; rotate_left; clear_value x) | subst x)
    | with_reducible exact hC.at (by decide +kernel)
    | with_reducible exact hC.at (mem_cqTail _)
    | with_reducible exact hC.at (mem_cqPhase _)
    | with_reducible exact hC.at (mem_loopSamples _)
    | with_reducible exact hC.at (mem_loopClamped _)
    | with_reducible exact hC.at (mem_loopState _)
    | with_reducible exact hC.at (mem_loopRun _)
    | with_reducible exact hC.at (mem_loopRev _)
    | with_reducible exact hC.at (mem_bandState _)
    | with_reducible exact hC.at (mem_bandSeq _)
    | with_reducible exact hC.at (mem_bandLines _)
    | with_reducible exact hC.at (mem_picBase _)
    | with_reducible exact hC.at (mem_ceFld _)
    | with_reducible exact hC.at (mem_ueFld _)
    | with_reducible apply State.freeSlot_keeps hC
    | with_reducible apply Keeps.wr
    | with_reducible apply Keeps.setReg
    | with_reducible apply Keeps.foldl
    | split
    | intro _
    | (with_reducible apply Keeps.lit <;> with_reducible first | rfl | assumption | exact fun _ h => h | exact fun _ _ => rfl | exact fun _ => rfl)

theorem State.rasterIdle_keeps (hC : Settles C) {s : State} {t : Nat} (hk : Keeps C D H u₀ s) :
    Keeps C D H u₀ (s.rasterIdle t) := by
  unfold State.rasterIdle
  repeat' first
    | with_reducible assumption
    | (extract_lets +onlyGivenNames x; first | (refine (have hx : Keeps C D H u₀ x := ?_; ?_); subst x; rotate_left; clear_value x) | subst x)
    | with_reducible exact hC.at (by decide +kernel)
    | with_reducible exact hC.at (mem_cqTail _)
    | with_reducible exact hC.at (mem_cqPhase _)
    | with_reducible exact hC.at (mem_loopSamples _)
    | with_reducible exact hC.at (mem_loopClamped _)
    | with_reducible exact hC.at (mem_loopState _)
    | with_reducible exact hC.at (mem_loopRun _)
    | with_reducible exact hC.at (mem_loopRev _)
    | with_reducible exact hC.at (mem_bandState _)
    | with_reducible exact hC.at (mem_bandSeq _)
    | with_reducible exact hC.at (mem_bandLines _)
    | with_reducible exact hC.at (mem_picBase _)
    | with_reducible exact hC.at (mem_ceFld _)
    | with_reducible exact hC.at (mem_ueFld _)
    | with_reducible apply State.release_keeps hC
    | with_reducible apply Keeps.wr
    | with_reducible apply Keeps.setReg
    | with_reducible apply Keeps.foldl
    | split
    | intro _
    | (with_reducible apply Keeps.lit <;> with_reducible first | rfl | assumption | exact fun _ h => h | exact fun _ _ => rfl | exact fun _ => rfl)

theorem State.zeroLines_keeps (hC : Settles C) {s : State} {i lines : Nat} (hk : Keeps C D H u₀ s) :
    Keeps C D H u₀ (s.zeroLines (s.rd (bandBank i)) lines) := by
  refine hk.trans ⟨fun _ _ => rfl, rfl, rfl, rfl, Otp.grown_refl _, fun _ e => e, fun _ => rfl, fun _ m a n => ?_,
    fun ⟨a, b, c⟩ => ⟨a, Store.wfFrom_filter _ _ _ _ b, c⟩⟩
  cases m with
  | keep => rfl
  | sram =>
    have hb : bandBank (i % 3) = bandBank i := by simp [bandBank]
    refine congrArg BitVec.toNat (Store.get_filter _ _ _ _ fun v => ?_)
    by_cases h : s.rd (bandBank i) * bankSize ≤ a ∧ a < s.rd (bandBank i) * bankSize + bankSize
    · exact absurd (fun _ _ => .inr ⟨i % 3, Nat.mod_lt _ (by decide), by rw [hb]; exact h.1, by rw [hb]; exact h.2⟩) n
    · simp only [Bool.or_eq_true, decide_eq_true_eq]
      omega

theorem State.takeSlot_keeps (hC : Settles C) {s : State} (hk : Keeps C D H u₀ s) :
    Keeps C D H u₀ (s.takeSlot) := by
  unfold State.takeSlot
  repeat' first
    | with_reducible assumption
    | (extract_lets +onlyGivenNames x; first | (refine (have hx : Keeps C D H u₀ x := ?_; ?_); subst x; rotate_left; clear_value x) | subst x)
    | with_reducible exact hC.at (by decide +kernel)
    | with_reducible exact hC.at (mem_cqTail _)
    | with_reducible exact hC.at (mem_cqPhase _)
    | with_reducible exact hC.at (mem_loopSamples _)
    | with_reducible exact hC.at (mem_loopClamped _)
    | with_reducible exact hC.at (mem_loopState _)
    | with_reducible exact hC.at (mem_loopRun _)
    | with_reducible exact hC.at (mem_loopRev _)
    | with_reducible exact hC.at (mem_bandState _)
    | with_reducible exact hC.at (mem_bandSeq _)
    | with_reducible exact hC.at (mem_bandLines _)
    | with_reducible exact hC.at (mem_picBase _)
    | with_reducible exact hC.at (mem_ceFld _)
    | with_reducible exact hC.at (mem_ueFld _)
    | with_reducible apply State.modSlot_keeps hC
    | with_reducible apply Keeps.wr
    | with_reducible apply State.zeroLines_keeps hC
    | with_reducible apply Keeps.setReg
    | with_reducible apply Keeps.foldl
    | split
    | intro _
    | (with_reducible apply Keeps.lit <;> with_reducible first | rfl | assumption | exact fun _ h => h | exact fun _ _ => rfl | exact fun _ => rfl)

theorem State.recPut_keeps (hC : Settles C) {s : State} {off : Nat} {bs : List Nat} (hl : D → off + bs.length ≤ 32)
    (hk : Keeps C D H u₀ s) : Keeps C D H u₀ (s.recPut off bs) := by
  unfold State.recPut
  refine State.writeMem_keeps hC (fun d x l u => ?_) hk
  have := hl d
  have e : recAt = 0x100 := rfl
  exact ⟨by omega, by omega⟩

theorem State.setPrint_keeps (hC : Settles C) {s : State} {f : Print → Print} (hk : Keeps C D H u₀ s) :
    Keeps C D H u₀ (s.setPrint f) := by
  unfold State.setPrint
  repeat' first
    | with_reducible assumption
    | (extract_lets +onlyGivenNames x; first | (refine (have hx : Keeps C D H u₀ x := ?_; ?_); subst x; rotate_left; clear_value x) | subst x)
    | with_reducible exact hC.at (by decide +kernel)
    | with_reducible exact hC.at (mem_cqTail _)
    | with_reducible exact hC.at (mem_cqPhase _)
    | with_reducible exact hC.at (mem_loopSamples _)
    | with_reducible exact hC.at (mem_loopClamped _)
    | with_reducible exact hC.at (mem_loopState _)
    | with_reducible exact hC.at (mem_loopRun _)
    | with_reducible exact hC.at (mem_loopRev _)
    | with_reducible exact hC.at (mem_bandState _)
    | with_reducible exact hC.at (mem_bandSeq _)
    | with_reducible exact hC.at (mem_bandLines _)
    | with_reducible exact hC.at (mem_picBase _)
    | with_reducible exact hC.at (mem_ceFld _)
    | with_reducible exact hC.at (mem_ueFld _)
    | with_reducible apply Keeps.wr
    | with_reducible apply Keeps.setReg
    | with_reducible apply Keeps.foldl
    | split
    | intro _
    | (with_reducible apply Keeps.lit <;> with_reducible first | rfl | assumption | exact fun _ h => h | exact fun _ _ => rfl | exact fun _ => rfl)

theorem State.modJob_keeps (hC : Settles C) {s : State} {t : Nat} {f : Job → Job} (hk : Keeps C D H u₀ s) :
    Keeps C D H u₀ (s.modJob t f) := by
  unfold State.modJob
  repeat' first
    | with_reducible assumption
    | (extract_lets +onlyGivenNames x; first | (refine (have hx : Keeps C D H u₀ x := ?_; ?_); subst x; rotate_left; clear_value x) | subst x)
    | with_reducible exact hC.at (by decide +kernel)
    | with_reducible exact hC.at (mem_cqTail _)
    | with_reducible exact hC.at (mem_cqPhase _)
    | with_reducible exact hC.at (mem_loopSamples _)
    | with_reducible exact hC.at (mem_loopClamped _)
    | with_reducible exact hC.at (mem_loopState _)
    | with_reducible exact hC.at (mem_loopRun _)
    | with_reducible exact hC.at (mem_loopRev _)
    | with_reducible exact hC.at (mem_bandState _)
    | with_reducible exact hC.at (mem_bandSeq _)
    | with_reducible exact hC.at (mem_bandLines _)
    | with_reducible exact hC.at (mem_picBase _)
    | with_reducible exact hC.at (mem_ceFld _)
    | with_reducible exact hC.at (mem_ueFld _)
    | with_reducible apply State.setPrint_keeps hC
    | with_reducible apply Keeps.wr
    | with_reducible apply Keeps.setReg
    | with_reducible apply Keeps.foldl
    | split
    | intro _
    | (with_reducible apply Keeps.lit <;> with_reducible first | rfl | assumption | exact fun _ h => h | exact fun _ _ => rfl | exact fun _ => rfl)

theorem State.endReceipt_keeps (hC : Settles C) {s : State} {t : Nat} {status : Nat} {r0 : Nat} {r1 : Nat} (hk : Keeps C D H u₀ s) :
    Keeps C D H u₀ (s.endReceipt t status r0 r1) := by
  unfold State.endReceipt
  repeat' first
    | with_reducible assumption
    | (extract_lets +onlyGivenNames x; first | (refine (have hx : Keeps C D H u₀ x := ?_; ?_); subst x; rotate_left; clear_value x) | subst x)
    | with_reducible exact hC.at (by decide +kernel)
    | with_reducible exact hC.at (mem_cqTail _)
    | with_reducible exact hC.at (mem_cqPhase _)
    | with_reducible exact hC.at (mem_loopSamples _)
    | with_reducible exact hC.at (mem_loopClamped _)
    | with_reducible exact hC.at (mem_loopState _)
    | with_reducible exact hC.at (mem_loopRun _)
    | with_reducible exact hC.at (mem_loopRev _)
    | with_reducible exact hC.at (mem_bandState _)
    | with_reducible exact hC.at (mem_bandSeq _)
    | with_reducible exact hC.at (mem_bandLines _)
    | with_reducible exact hC.at (mem_picBase _)
    | with_reducible exact hC.at (mem_ceFld _)
    | with_reducible exact hC.at (mem_ueFld _)
    | with_reducible apply State.bump_keeps hC
    | with_reducible apply State.complete_keeps hC
    | with_reducible apply State.recPut_keeps hC (fun _ => by simp [leBytes])
    | with_reducible apply State.releaseBands_keeps hC
    | with_reducible apply State.setPrint_keeps hC
    | with_reducible apply Keeps.wr
    | with_reducible apply Keeps.setReg
    | with_reducible apply Keeps.foldl
    | split
    | intro _
    | (with_reducible apply Keeps.lit <;> with_reducible first | rfl | assumption | exact fun _ h => h | exact fun _ _ => rfl | exact fun _ => rfl)

theorem State.rasterErr_keeps (hC : Settles C) {s : State} {off : Nat} {cause : Nat} (hk : Keeps C D H u₀ s) :
    Keeps C D H u₀ (s.rasterErr off cause) := by
  unfold State.rasterErr
  repeat' first
    | with_reducible assumption
    | (extract_lets +onlyGivenNames x; first | (refine (have hx : Keeps C D H u₀ x := ?_; ?_); subst x; rotate_left; clear_value x) | subst x)
    | with_reducible exact hC.at (by decide +kernel)
    | with_reducible exact hC.at (mem_cqTail _)
    | with_reducible exact hC.at (mem_cqPhase _)
    | with_reducible exact hC.at (mem_loopSamples _)
    | with_reducible exact hC.at (mem_loopClamped _)
    | with_reducible exact hC.at (mem_loopState _)
    | with_reducible exact hC.at (mem_loopRun _)
    | with_reducible exact hC.at (mem_loopRev _)
    | with_reducible exact hC.at (mem_bandState _)
    | with_reducible exact hC.at (mem_bandSeq _)
    | with_reducible exact hC.at (mem_bandLines _)
    | with_reducible exact hC.at (mem_picBase _)
    | with_reducible exact hC.at (mem_ceFld _)
    | with_reducible exact hC.at (mem_ueFld _)
    | with_reducible apply Keeps.wr
    | with_reducible apply Keeps.setReg
    | with_reducible apply Keeps.foldl
    | split
    | intro _
    | (with_reducible apply Keeps.lit <;> with_reducible first | rfl | assumption | exact fun _ h => h | exact fun _ _ => rfl | exact fun _ => rfl)

theorem State.renderStop_keeps (hC : Settles C) {s : State} {j : Job} {off : Nat} {cause : Nat} (hk : Keeps C D H u₀ s) :
    Keeps C D H u₀ (s.renderStop j off cause) := by
  unfold State.renderStop
  repeat' first
    | with_reducible assumption
    | (extract_lets +onlyGivenNames x; first | (refine (have hx : Keeps C D H u₀ x := ?_; ?_); subst x; rotate_left; clear_value x) | subst x)
    | with_reducible exact hC.at (by decide +kernel)
    | with_reducible exact hC.at (mem_cqTail _)
    | with_reducible exact hC.at (mem_cqPhase _)
    | with_reducible exact hC.at (mem_loopSamples _)
    | with_reducible exact hC.at (mem_loopClamped _)
    | with_reducible exact hC.at (mem_loopState _)
    | with_reducible exact hC.at (mem_loopRun _)
    | with_reducible exact hC.at (mem_loopRev _)
    | with_reducible exact hC.at (mem_bandState _)
    | with_reducible exact hC.at (mem_bandSeq _)
    | with_reducible exact hC.at (mem_bandLines _)
    | with_reducible exact hC.at (mem_picBase _)
    | with_reducible exact hC.at (mem_ceFld _)
    | with_reducible exact hC.at (mem_ueFld _)
    | with_reducible apply State.endReceipt_keeps hC
    | with_reducible apply State.freeSlot_keeps hC
    | with_reducible apply State.modJob_keeps hC
    | with_reducible apply State.rasterErr_keeps hC
    | with_reducible apply State.rasterIdle_keeps hC
    | with_reducible apply Keeps.wr
    | with_reducible apply Keeps.setReg
    | with_reducible apply Keeps.foldl
    | split
    | intro _
    | (with_reducible apply Keeps.lit <;> with_reducible first | rfl | assumption | exact fun _ h => h | exact fun _ _ => rfl | exact fun _ => rfl)

theorem State.countLine_keeps (hC : Settles C) {s : State} {t : Nat} (hk : Keeps C D H u₀ s) :
    Keeps C D H u₀ (s.countLine t) := by
  unfold State.countLine
  repeat' first
    | with_reducible assumption
    | (extract_lets +onlyGivenNames x; first | (refine (have hx : Keeps C D H u₀ x := ?_; ?_); subst x; rotate_left; clear_value x) | subst x)
    | with_reducible exact hC.at (by decide +kernel)
    | with_reducible exact hC.at (mem_cqTail _)
    | with_reducible exact hC.at (mem_cqPhase _)
    | with_reducible exact hC.at (mem_loopSamples _)
    | with_reducible exact hC.at (mem_loopClamped _)
    | with_reducible exact hC.at (mem_loopState _)
    | with_reducible exact hC.at (mem_loopRun _)
    | with_reducible exact hC.at (mem_loopRev _)
    | with_reducible exact hC.at (mem_bandState _)
    | with_reducible exact hC.at (mem_bandSeq _)
    | with_reducible exact hC.at (mem_bandLines _)
    | with_reducible exact hC.at (mem_picBase _)
    | with_reducible exact hC.at (mem_ceFld _)
    | with_reducible exact hC.at (mem_ueFld _)
    | with_reducible apply Keeps.count
    | with_reducible apply State.modJob_keeps hC
    | with_reducible apply State.recPut_keeps hC (fun _ => by simp [leBytes])
    | with_reducible apply Keeps.wr
    | with_reducible apply Keeps.setReg
    | with_reducible apply Keeps.foldl
    | split
    | intro _
    | (with_reducible apply Keeps.lit <;> with_reducible first | rfl | assumption | exact fun _ h => h | exact fun _ _ => rfl | exact fun _ => rfl)

theorem State.trimFrc_keeps (hC : Settles C) {s : State} (hk : Keeps C D H u₀ s) :
    Keeps C D H u₀ (s.trimFrc) := by
  unfold State.trimFrc
  repeat' first
    | with_reducible assumption
    | (extract_lets +onlyGivenNames x; first | (refine (have hx : Keeps C D H u₀ x := ?_; ?_); subst x; rotate_left; clear_value x) | subst x)
    | with_reducible exact hC.at (by decide +kernel)
    | with_reducible exact hC.at (mem_cqTail _)
    | with_reducible exact hC.at (mem_cqPhase _)
    | with_reducible exact hC.at (mem_loopSamples _)
    | with_reducible exact hC.at (mem_loopClamped _)
    | with_reducible exact hC.at (mem_loopState _)
    | with_reducible exact hC.at (mem_loopRun _)
    | with_reducible exact hC.at (mem_loopRev _)
    | with_reducible exact hC.at (mem_bandState _)
    | with_reducible exact hC.at (mem_bandSeq _)
    | with_reducible exact hC.at (mem_bandLines _)
    | with_reducible exact hC.at (mem_picBase _)
    | with_reducible exact hC.at (mem_ceFld _)
    | with_reducible exact hC.at (mem_ueFld _)
    | with_reducible apply State.wrI_keeps hC
    | with_reducible apply Keeps.wr
    | with_reducible apply Keeps.setReg
    | with_reducible apply Keeps.foldl
    | split
    | intro _
    | (with_reducible apply Keeps.lit <;> with_reducible first | rfl | assumption | exact fun _ h => h | exact fun _ _ => rfl | exact fun _ => rfl)

theorem State.addEnergy_keeps (hC : Settles C) {s : State} {p : Pass} {ticks : Nat → Nat} (hk : Keeps C D H u₀ s) :
    Keeps C D H u₀ (s.addEnergy p ticks) := by
  unfold State.addEnergy
  repeat' first
    | with_reducible assumption
    | (extract_lets +onlyGivenNames x; first | (refine (have hx : Keeps C D H u₀ x := ?_; ?_); subst x; rotate_left; clear_value x) | subst x)
    | with_reducible exact hC.at (by decide +kernel)
    | with_reducible exact hC.at (mem_cqTail _)
    | with_reducible exact hC.at (mem_cqPhase _)
    | with_reducible exact hC.at (mem_loopSamples _)
    | with_reducible exact hC.at (mem_loopClamped _)
    | with_reducible exact hC.at (mem_loopState _)
    | with_reducible exact hC.at (mem_loopRun _)
    | with_reducible exact hC.at (mem_loopRev _)
    | with_reducible exact hC.at (mem_bandState _)
    | with_reducible exact hC.at (mem_bandSeq _)
    | with_reducible exact hC.at (mem_bandLines _)
    | with_reducible exact hC.at (mem_picBase _)
    | with_reducible exact hC.at (mem_ceFld _)
    | with_reducible exact hC.at (mem_ueFld _)
    | with_reducible apply Keeps.count
    | with_reducible apply Keeps.wr
    | with_reducible apply Keeps.setReg
    | with_reducible apply Keeps.foldl
    | split
    | intro _
    | (with_reducible apply Keeps.lit <;> with_reducible first | rfl | assumption | exact fun _ h => h | exact fun _ _ => rfl | exact fun _ => rfl)

theorem State.cutPass_keeps (hC : Settles C) {s : State} (hk : Keeps C D H u₀ s) :
    Keeps C D H u₀ (s.cutPass) := by
  unfold State.cutPass
  repeat' first
    | with_reducible assumption
    | (extract_lets +onlyGivenNames x; first | (refine (have hx : Keeps C D H u₀ x := ?_; ?_); subst x; rotate_left; clear_value x) | subst x)
    | with_reducible exact hC.at (by decide +kernel)
    | with_reducible exact hC.at (mem_cqTail _)
    | with_reducible exact hC.at (mem_cqPhase _)
    | with_reducible exact hC.at (mem_loopSamples _)
    | with_reducible exact hC.at (mem_loopClamped _)
    | with_reducible exact hC.at (mem_loopState _)
    | with_reducible exact hC.at (mem_loopRun _)
    | with_reducible exact hC.at (mem_loopRev _)
    | with_reducible exact hC.at (mem_bandState _)
    | with_reducible exact hC.at (mem_bandSeq _)
    | with_reducible exact hC.at (mem_bandLines _)
    | with_reducible exact hC.at (mem_picBase _)
    | with_reducible exact hC.at (mem_ceFld _)
    | with_reducible exact hC.at (mem_ueFld _)
    | with_reducible apply State.addEnergy_keeps hC
    | with_reducible apply Keeps.openWord
    | with_reducible apply Keeps.wr
    | with_reducible apply Keeps.setReg
    | with_reducible apply Keeps.foldl
    | split
    | intro _
    | (with_reducible apply Keeps.lit <;> with_reducible first | rfl | assumption | exact fun _ h => h | exact fun _ _ => rfl | exact fun _ => rfl)

theorem State.quiet_keeps (hC : Settles C) {s : State} (hk : Keeps C D H u₀ s) :
    Keeps C D H u₀ (s.quiet) := by
  unfold State.quiet
  repeat' first
    | with_reducible assumption
    | (extract_lets +onlyGivenNames x; first | (refine (have hx : Keeps C D H u₀ x := ?_; ?_); subst x; rotate_left; clear_value x) | subst x)
    | with_reducible exact hC.at (by decide +kernel)
    | with_reducible exact hC.at (mem_cqTail _)
    | with_reducible exact hC.at (mem_cqPhase _)
    | with_reducible exact hC.at (mem_loopSamples _)
    | with_reducible exact hC.at (mem_loopClamped _)
    | with_reducible exact hC.at (mem_loopState _)
    | with_reducible exact hC.at (mem_loopRun _)
    | with_reducible exact hC.at (mem_loopRev _)
    | with_reducible exact hC.at (mem_bandState _)
    | with_reducible exact hC.at (mem_bandSeq _)
    | with_reducible exact hC.at (mem_bandLines _)
    | with_reducible exact hC.at (mem_picBase _)
    | with_reducible exact hC.at (mem_ceFld _)
    | with_reducible exact hC.at (mem_ueFld _)
    | with_reducible apply State.cutPass_keeps hC
    | with_reducible apply State.setPrint_keeps hC
    | with_reducible apply State.trimFrc_keeps hC
    | with_reducible apply Keeps.wr
    | with_reducible apply Keeps.setReg
    | with_reducible apply Keeps.foldl
    | split
    | intro _
    | (with_reducible apply Keeps.lit <;> with_reducible first | rfl | assumption | exact fun _ h => h | exact fun _ _ => rfl | exact fun _ => rfl)

theorem State.endTorn_keeps (hC : Settles C) {s : State} {t : Nat} (hk : Keeps C D H u₀ s) :
    Keeps C D H u₀ (s.endTorn t) := by
  unfold State.endTorn
  repeat' first
    | with_reducible assumption
    | (extract_lets +onlyGivenNames x; first | (refine (have hx : Keeps C D H u₀ x := ?_; ?_); subst x; rotate_left; clear_value x) | subst x)
    | with_reducible exact hC.at (by decide +kernel)
    | with_reducible exact hC.at (mem_cqTail _)
    | with_reducible exact hC.at (mem_cqPhase _)
    | with_reducible exact hC.at (mem_loopSamples _)
    | with_reducible exact hC.at (mem_loopClamped _)
    | with_reducible exact hC.at (mem_loopState _)
    | with_reducible exact hC.at (mem_loopRun _)
    | with_reducible exact hC.at (mem_loopRev _)
    | with_reducible exact hC.at (mem_bandState _)
    | with_reducible exact hC.at (mem_bandSeq _)
    | with_reducible exact hC.at (mem_bandLines _)
    | with_reducible exact hC.at (mem_picBase _)
    | with_reducible exact hC.at (mem_ceFld _)
    | with_reducible exact hC.at (mem_ueFld _)
    | with_reducible apply State.endReceipt_keeps hC
    | with_reducible apply Keeps.wr
    | with_reducible apply Keeps.setReg
    | with_reducible apply Keeps.foldl
    | split
    | intro _
    | (with_reducible apply Keeps.lit <;> with_reducible first | rfl | assumption | exact fun _ h => h | exact fun _ _ => rfl | exact fun _ => rfl)

theorem State.tearAlso_keeps (hC : Settles C) {s : State} {cause : Nat} (hk : Keeps C D H u₀ s) :
    Keeps C D H u₀ (s.tearAlso cause) := by
  unfold State.tearAlso
  repeat' first
    | with_reducible assumption
    | (extract_lets +onlyGivenNames x; first | (refine (have hx : Keeps C D H u₀ x := ?_; ?_); subst x; rotate_left; clear_value x) | subst x)
    | with_reducible exact hC.at (by decide +kernel)
    | with_reducible exact hC.at (mem_cqTail _)
    | with_reducible exact hC.at (mem_cqPhase _)
    | with_reducible exact hC.at (mem_loopSamples _)
    | with_reducible exact hC.at (mem_loopClamped _)
    | with_reducible exact hC.at (mem_loopState _)
    | with_reducible exact hC.at (mem_loopRun _)
    | with_reducible exact hC.at (mem_loopRev _)
    | with_reducible exact hC.at (mem_bandState _)
    | with_reducible exact hC.at (mem_bandSeq _)
    | with_reducible exact hC.at (mem_bandLines _)
    | with_reducible exact hC.at (mem_picBase _)
    | with_reducible exact hC.at (mem_ceFld _)
    | with_reducible exact hC.at (mem_ueFld _)
    | with_reducible apply State.modJob_keeps hC
    | with_reducible apply Keeps.wr
    | with_reducible apply Keeps.setReg
    | with_reducible apply Keeps.foldl
    | split
    | intro _
    | (with_reducible apply Keeps.lit <;> with_reducible first | rfl | assumption | exact fun _ h => h | exact fun _ _ => rfl | exact fun _ => rfl)

theorem State.tear_keeps (hC : Settles C) {s : State} {cause : Nat} {stop : Bool} (hk : Keeps C D H u₀ s) :
    Keeps C D H u₀ (s.tear cause stop) := by
  unfold State.tear
  repeat' first
    | with_reducible assumption
    | (extract_lets +onlyGivenNames x; first | (refine (have hx : Keeps C D H u₀ x := ?_; ?_); subst x; rotate_left; clear_value x) | subst x)
    | with_reducible exact hC.at (by decide +kernel)
    | with_reducible exact hC.at (mem_cqTail _)
    | with_reducible exact hC.at (mem_cqPhase _)
    | with_reducible exact hC.at (mem_loopSamples _)
    | with_reducible exact hC.at (mem_loopClamped _)
    | with_reducible exact hC.at (mem_loopState _)
    | with_reducible exact hC.at (mem_loopRun _)
    | with_reducible exact hC.at (mem_loopRev _)
    | with_reducible exact hC.at (mem_bandState _)
    | with_reducible exact hC.at (mem_bandSeq _)
    | with_reducible exact hC.at (mem_bandLines _)
    | with_reducible exact hC.at (mem_picBase _)
    | with_reducible exact hC.at (mem_ceFld _)
    | with_reducible exact hC.at (mem_ueFld _)
    | with_reducible apply Keeps.count
    | with_reducible apply State.countLine_keeps hC
    | with_reducible apply State.evt_keeps hC
    | with_reducible apply State.feedStop_keeps hC
    | with_reducible apply State.modJob_keeps hC
    | with_reducible apply State.quiet_keeps hC
    | with_reducible apply State.rasterIdle_keeps hC
    | with_reducible apply State.releaseBands_keeps hC
    | with_reducible apply State.tearAlso_keeps hC
    | with_reducible apply Keeps.wr
    | with_reducible apply Keeps.setReg
    | with_reducible apply Keeps.foldl
    | split
    | intro _
    | (with_reducible apply Keeps.lit <;> with_reducible first | rfl | assumption | exact fun _ h => h | exact fun _ _ => rfl | exact fun _ => rfl)

theorem State.endCheck_keeps (hC : Settles C) {s : State} {t : Nat} {status : Nat} (hk : Keeps C D H u₀ s) :
    Keeps C D H u₀ (s.endCheck t status) := by
  unfold State.endCheck
  repeat' first
    | with_reducible assumption
    | (extract_lets +onlyGivenNames x; first | (refine (have hx : Keeps C D H u₀ x := ?_; ?_); subst x; rotate_left; clear_value x) | subst x)
    | with_reducible exact hC.at (by decide +kernel)
    | with_reducible exact hC.at (mem_cqTail _)
    | with_reducible exact hC.at (mem_cqPhase _)
    | with_reducible exact hC.at (mem_loopSamples _)
    | with_reducible exact hC.at (mem_loopClamped _)
    | with_reducible exact hC.at (mem_loopState _)
    | with_reducible exact hC.at (mem_loopRun _)
    | with_reducible exact hC.at (mem_loopRev _)
    | with_reducible exact hC.at (mem_bandState _)
    | with_reducible exact hC.at (mem_bandSeq _)
    | with_reducible exact hC.at (mem_bandLines _)
    | with_reducible exact hC.at (mem_picBase _)
    | with_reducible exact hC.at (mem_ceFld _)
    | with_reducible exact hC.at (mem_ueFld _)
    | with_reducible apply State.complete_keeps hC
    | with_reducible apply Keeps.wr
    | with_reducible apply Keeps.setReg
    | with_reducible apply Keeps.foldl
    | split
    | intro _
    | (with_reducible apply Keeps.lit <;> with_reducible first | rfl | assumption | exact fun _ h => h | exact fun _ _ => rfl | exact fun _ => rfl)

theorem State.beginBand_keeps (hC : Settles C) {s : State} {t : Nat} {n : Nat} {i : Nat} (hk : Keeps C D H u₀ s) :
    Keeps C D H u₀ (s.beginBand t n i) := by
  unfold State.beginBand
  repeat' first
    | with_reducible assumption
    | (extract_lets +onlyGivenNames x; first | (refine (have hx : Keeps C D H u₀ x := ?_; ?_); subst x; rotate_left; clear_value x) | subst x)
    | with_reducible exact hC.at (by decide +kernel)
    | with_reducible exact hC.at (mem_cqTail _)
    | with_reducible exact hC.at (mem_cqPhase _)
    | with_reducible exact hC.at (mem_loopSamples _)
    | with_reducible exact hC.at (mem_loopClamped _)
    | with_reducible exact hC.at (mem_loopState _)
    | with_reducible exact hC.at (mem_loopRun _)
    | with_reducible exact hC.at (mem_loopRev _)
    | with_reducible exact hC.at (mem_bandState _)
    | with_reducible exact hC.at (mem_bandSeq _)
    | with_reducible exact hC.at (mem_bandLines _)
    | with_reducible exact hC.at (mem_picBase _)
    | with_reducible exact hC.at (mem_ceFld _)
    | with_reducible exact hC.at (mem_ueFld _)
    | with_reducible apply State.modJob_keeps hC
    | with_reducible apply State.recPut_keeps hC (fun _ => by simp [leBytes])
    | with_reducible apply State.setPrint_keeps hC
    | with_reducible apply Keeps.wr
    | with_reducible apply Keeps.setReg
    | with_reducible apply Keeps.foldl
    | split
    | intro _
    | (with_reducible apply Keeps.lit <;> with_reducible first | rfl | assumption | exact fun _ h => h | exact fun _ _ => rfl | exact fun _ => rfl)

theorem State.feedStart_keeps (hC : Settles C) {s : State} {first : Bool} (hk : Keeps C D H u₀ s) :
    Keeps C D H u₀ (s.feedStart first) := by
  unfold State.feedStart
  repeat' first
    | with_reducible assumption
    | (extract_lets +onlyGivenNames x; first | (refine (have hx : Keeps C D H u₀ x := ?_; ?_); subst x; rotate_left; clear_value x) | subst x)
    | with_reducible exact hC.at (by decide +kernel)
    | with_reducible exact hC.at (mem_cqTail _)
    | with_reducible exact hC.at (mem_cqPhase _)
    | with_reducible exact hC.at (mem_loopSamples _)
    | with_reducible exact hC.at (mem_loopClamped _)
    | with_reducible exact hC.at (mem_loopState _)
    | with_reducible exact hC.at (mem_loopRun _)
    | with_reducible exact hC.at (mem_loopRev _)
    | with_reducible exact hC.at (mem_bandState _)
    | with_reducible exact hC.at (mem_bandSeq _)
    | with_reducible exact hC.at (mem_bandLines _)
    | with_reducible exact hC.at (mem_picBase _)
    | with_reducible exact hC.at (mem_ceFld _)
    | with_reducible exact hC.at (mem_ueFld _)
    | with_reducible apply State.feedGo_keeps hC
    | with_reducible apply State.wrI_keeps hC
    | with_reducible apply Keeps.wr
    | with_reducible apply Keeps.setReg
    | with_reducible apply Keeps.foldl
    | split
    | intro _
    | (with_reducible apply Keeps.lit <;> with_reducible first | rfl | assumption | exact fun _ h => h | exact fun _ _ => rfl | exact fun _ => rfl)

theorem State.startPrint_keeps (hC : Settles C) {s : State} {j : Job} {i : Nat} (hk : Keeps C D H u₀ s) :
    Keeps C D H u₀ (s.startPrint j i) := by
  unfold State.startPrint
  repeat' first
    | with_reducible assumption
    | (extract_lets +onlyGivenNames x; first | (refine (have hx : Keeps C D H u₀ x := ?_; ?_); subst x; rotate_left; clear_value x) | subst x)
    | with_reducible exact hC.at (by decide +kernel)
    | with_reducible exact hC.at (mem_cqTail _)
    | with_reducible exact hC.at (mem_cqPhase _)
    | with_reducible exact hC.at (mem_loopSamples _)
    | with_reducible exact hC.at (mem_loopClamped _)
    | with_reducible exact hC.at (mem_loopState _)
    | with_reducible exact hC.at (mem_loopRun _)
    | with_reducible exact hC.at (mem_loopRev _)
    | with_reducible exact hC.at (mem_bandState _)
    | with_reducible exact hC.at (mem_bandSeq _)
    | with_reducible exact hC.at (mem_bandLines _)
    | with_reducible exact hC.at (mem_picBase _)
    | with_reducible exact hC.at (mem_ceFld _)
    | with_reducible exact hC.at (mem_ueFld _)
    | with_reducible apply State.beginBand_keeps hC
    | with_reducible apply State.feedStart_keeps hC
    | with_reducible apply State.modJob_keeps hC
    | with_reducible apply State.recPut_keeps hC (fun _ => by simp [leBytes])
    | with_reducible apply State.setPrint_keeps hC
    | with_reducible apply Keeps.wr
    | with_reducible apply Keeps.setReg
    | with_reducible apply Keeps.foldl
    | split
    | intro _
    | (with_reducible apply Keeps.lit <;> with_reducible first | rfl | assumption | exact fun _ h => h | exact fun _ _ => rfl | exact fun _ => rfl)

theorem State.nextBand_keeps (hC : Settles C) {s : State} {j : Job} (hk : Keeps C D H u₀ s) :
    Keeps C D H u₀ (s.nextBand j) := by
  unfold State.nextBand
  repeat' first
    | with_reducible assumption
    | (extract_lets +onlyGivenNames x; first | (refine (have hx : Keeps C D H u₀ x := ?_; ?_); subst x; rotate_left; clear_value x) | subst x)
    | with_reducible exact hC.at (by decide +kernel)
    | with_reducible exact hC.at (mem_cqTail _)
    | with_reducible exact hC.at (mem_cqPhase _)
    | with_reducible exact hC.at (mem_loopSamples _)
    | with_reducible exact hC.at (mem_loopClamped _)
    | with_reducible exact hC.at (mem_loopState _)
    | with_reducible exact hC.at (mem_loopRun _)
    | with_reducible exact hC.at (mem_loopRev _)
    | with_reducible exact hC.at (mem_bandState _)
    | with_reducible exact hC.at (mem_bandSeq _)
    | with_reducible exact hC.at (mem_bandLines _)
    | with_reducible exact hC.at (mem_picBase _)
    | with_reducible exact hC.at (mem_ceFld _)
    | with_reducible exact hC.at (mem_ueFld _)
    | with_reducible apply State.beginBand_keeps hC
    | with_reducible apply State.feedStart_keeps hC
    | with_reducible apply State.modJob_keeps hC
    | with_reducible apply State.setPrint_keeps hC
    | with_reducible apply State.tear_keeps hC
    | with_reducible apply Keeps.wr
    | with_reducible apply Keeps.setReg
    | with_reducible apply Keeps.foldl
    | split
    | intro _
    | (with_reducible apply Keeps.lit <;> with_reducible first | rfl | assumption | exact fun _ h => h | exact fun _ _ => rfl | exact fun _ => rfl)

theorem State.setCut_keeps (hC : Settles C) {s : State} {f : Cutter → Cutter} (hk : Keeps C D H u₀ s) :
    Keeps C D H u₀ (s.setCut f) := by
  unfold State.setCut
  repeat' first
    | with_reducible assumption
    | (extract_lets +onlyGivenNames x; first | (refine (have hx : Keeps C D H u₀ x := ?_; ?_); subst x; rotate_left; clear_value x) | subst x)
    | with_reducible exact hC.at (by decide +kernel)
    | with_reducible exact hC.at (mem_cqTail _)
    | with_reducible exact hC.at (mem_cqPhase _)
    | with_reducible exact hC.at (mem_loopSamples _)
    | with_reducible exact hC.at (mem_loopClamped _)
    | with_reducible exact hC.at (mem_loopState _)
    | with_reducible exact hC.at (mem_loopRun _)
    | with_reducible exact hC.at (mem_loopRev _)
    | with_reducible exact hC.at (mem_bandState _)
    | with_reducible exact hC.at (mem_bandSeq _)
    | with_reducible exact hC.at (mem_bandLines _)
    | with_reducible exact hC.at (mem_picBase _)
    | with_reducible exact hC.at (mem_ceFld _)
    | with_reducible exact hC.at (mem_ueFld _)
    | with_reducible apply Keeps.wr
    | with_reducible apply Keeps.setReg
    | with_reducible apply Keeps.foldl
    | split
    | intro _
    | (with_reducible apply Keeps.lit <;> with_reducible first | rfl | assumption | exact fun _ h => h | exact fun _ _ => rfl | exact fun _ => rfl)

theorem State.cutDrive_keeps (hC : Settles C) {s : State} {st : Nat} (hk : Keeps C D H u₀ s) :
    Keeps C D H u₀ (s.cutDrive st) := by
  unfold State.cutDrive
  repeat' first
    | with_reducible assumption
    | (extract_lets +onlyGivenNames x; first | (refine (have hx : Keeps C D H u₀ x := ?_; ?_); subst x; rotate_left; clear_value x) | subst x)
    | with_reducible exact hC.at (by decide +kernel)
    | with_reducible exact hC.at (mem_cqTail _)
    | with_reducible exact hC.at (mem_cqPhase _)
    | with_reducible exact hC.at (mem_loopSamples _)
    | with_reducible exact hC.at (mem_loopClamped _)
    | with_reducible exact hC.at (mem_loopState _)
    | with_reducible exact hC.at (mem_loopRun _)
    | with_reducible exact hC.at (mem_loopRev _)
    | with_reducible exact hC.at (mem_bandState _)
    | with_reducible exact hC.at (mem_bandSeq _)
    | with_reducible exact hC.at (mem_bandLines _)
    | with_reducible exact hC.at (mem_picBase _)
    | with_reducible exact hC.at (mem_ceFld _)
    | with_reducible exact hC.at (mem_ueFld _)
    | with_reducible apply State.loopOn_keeps hC
    | with_reducible apply State.setCut_keeps hC
    | with_reducible apply Keeps.wr
    | with_reducible apply Keeps.setReg
    | with_reducible apply Keeps.foldl
    | split
    | intro _
    | (with_reducible apply Keeps.lit <;> with_reducible first | rfl | assumption | exact fun _ h => h | exact fun _ _ => rfl | exact fun _ => rfl)

theorem State.cutBrake_keeps (hC : Settles C) {s : State} {n : CutNext} (hk : Keeps C D H u₀ s) :
    Keeps C D H u₀ (s.cutBrake n) := by
  unfold State.cutBrake
  repeat' first
    | with_reducible assumption
    | (extract_lets +onlyGivenNames x; first | (refine (have hx : Keeps C D H u₀ x := ?_; ?_); subst x; rotate_left; clear_value x) | subst x)
    | with_reducible exact hC.at (by decide +kernel)
    | with_reducible exact hC.at (mem_cqTail _)
    | with_reducible exact hC.at (mem_cqPhase _)
    | with_reducible exact hC.at (mem_loopSamples _)
    | with_reducible exact hC.at (mem_loopClamped _)
    | with_reducible exact hC.at (mem_loopState _)
    | with_reducible exact hC.at (mem_loopRun _)
    | with_reducible exact hC.at (mem_loopRev _)
    | with_reducible exact hC.at (mem_bandState _)
    | with_reducible exact hC.at (mem_bandSeq _)
    | with_reducible exact hC.at (mem_bandLines _)
    | with_reducible exact hC.at (mem_picBase _)
    | with_reducible exact hC.at (mem_ceFld _)
    | with_reducible exact hC.at (mem_ueFld _)
    | with_reducible apply State.loopOff_keeps hC
    | with_reducible apply State.setCut_keeps hC
    | with_reducible apply Keeps.wr
    | with_reducible apply Keeps.setReg
    | with_reducible apply Keeps.foldl
    | split
    | intro _
    | (with_reducible apply Keeps.lit <;> with_reducible first | rfl | assumption | exact fun _ h => h | exact fun _ _ => rfl | exact fun _ => rfl)

theorem State.cutEnd_keeps (hC : Settles C) {s : State} {cause : Nat} (hk : Keeps C D H u₀ s) :
    Keeps C D H u₀ (s.cutEnd cause) := by
  unfold State.cutEnd
  repeat' first
    | with_reducible assumption
    | (extract_lets +onlyGivenNames x; first | (refine (have hx : Keeps C D H u₀ x := ?_; ?_); subst x; rotate_left; clear_value x) | subst x)
    | with_reducible exact hC.at (by decide +kernel)
    | with_reducible exact hC.at (mem_cqTail _)
    | with_reducible exact hC.at (mem_cqPhase _)
    | with_reducible exact hC.at (mem_loopSamples _)
    | with_reducible exact hC.at (mem_loopClamped _)
    | with_reducible exact hC.at (mem_loopState _)
    | with_reducible exact hC.at (mem_loopRun _)
    | with_reducible exact hC.at (mem_loopRev _)
    | with_reducible exact hC.at (mem_bandState _)
    | with_reducible exact hC.at (mem_bandSeq _)
    | with_reducible exact hC.at (mem_bandLines _)
    | with_reducible exact hC.at (mem_picBase _)
    | with_reducible exact hC.at (mem_ceFld _)
    | with_reducible exact hC.at (mem_ueFld _)
    | with_reducible apply State.complete_keeps hC
    | with_reducible apply Keeps.count
    | with_reducible apply State.endReceipt_keeps hC
    | with_reducible apply State.evt_keeps hC
    | with_reducible apply State.setCut_keeps hC
    | with_reducible apply Keeps.wr
    | with_reducible apply Keeps.setReg
    | with_reducible apply Keeps.foldl
    | split
    | intro _
    | (with_reducible apply Keeps.lit <;> with_reducible first | rfl | assumption | exact fun _ h => h | exact fun _ _ => rfl | exact fun _ => rfl)

theorem State.cutAbort_keeps (hC : Settles C) {s : State} {cause : Nat} (hk : Keeps C D H u₀ s) :
    Keeps C D H u₀ (s.cutAbort cause) := by
  unfold State.cutAbort
  repeat' first
    | with_reducible assumption
    | (extract_lets +onlyGivenNames x; first | (refine (have hx : Keeps C D H u₀ x := ?_; ?_); subst x; rotate_left; clear_value x) | subst x)
    | with_reducible exact hC.at (by decide +kernel)
    | with_reducible exact hC.at (mem_cqTail _)
    | with_reducible exact hC.at (mem_cqPhase _)
    | with_reducible exact hC.at (mem_loopSamples _)
    | with_reducible exact hC.at (mem_loopClamped _)
    | with_reducible exact hC.at (mem_loopState _)
    | with_reducible exact hC.at (mem_loopRun _)
    | with_reducible exact hC.at (mem_loopRev _)
    | with_reducible exact hC.at (mem_bandState _)
    | with_reducible exact hC.at (mem_bandSeq _)
    | with_reducible exact hC.at (mem_bandLines _)
    | with_reducible exact hC.at (mem_picBase _)
    | with_reducible exact hC.at (mem_ceFld _)
    | with_reducible exact hC.at (mem_ueFld _)
    | with_reducible apply State.cutBrake_keeps hC
    | with_reducible apply State.cutEnd_keeps hC
    | with_reducible apply State.finish_keeps hC
    | with_reducible apply State.setCut_keeps hC
    | with_reducible apply Keeps.wr
    | with_reducible apply Keeps.setReg
    | with_reducible apply Keeps.foldl
    | split
    | intro _
    | (with_reducible apply Keeps.lit <;> with_reducible first | rfl | assumption | exact fun _ h => h | exact fun _ _ => rfl | exact fun _ => rfl)

theorem State.cutStart_keeps (hC : Settles C) {s : State} {t : Nat} {receipt : Bool} {part : Bool} {cut : Bool} (hk : Keeps C D H u₀ s) :
    Keeps C D H u₀ (s.cutStart t receipt part cut) := by
  unfold State.cutStart
  repeat' first
    | with_reducible assumption
    | (extract_lets +onlyGivenNames x; first | (refine (have hx : Keeps C D H u₀ x := ?_; ?_); subst x; rotate_left; clear_value x) | subst x)
    | with_reducible exact hC.at (by decide +kernel)
    | with_reducible exact hC.at (mem_cqTail _)
    | with_reducible exact hC.at (mem_cqPhase _)
    | with_reducible exact hC.at (mem_loopSamples _)
    | with_reducible exact hC.at (mem_loopClamped _)
    | with_reducible exact hC.at (mem_loopState _)
    | with_reducible exact hC.at (mem_loopRun _)
    | with_reducible exact hC.at (mem_loopRev _)
    | with_reducible exact hC.at (mem_bandState _)
    | with_reducible exact hC.at (mem_bandSeq _)
    | with_reducible exact hC.at (mem_bandLines _)
    | with_reducible exact hC.at (mem_picBase _)
    | with_reducible exact hC.at (mem_ceFld _)
    | with_reducible exact hC.at (mem_ueFld _)
    | with_reducible apply State.cutDrive_keeps hC
    | with_reducible apply State.setCut_keeps hC
    | with_reducible apply Keeps.wr
    | with_reducible apply Keeps.setReg
    | with_reducible apply Keeps.foldl
    | split
    | intro _
    | (with_reducible apply Keeps.lit <;> with_reducible first | rfl | assumption | exact fun _ h => h | exact fun _ _ => rfl | exact fun _ => rfl)

theorem State.homed_keeps (hC : Settles C) {s : State} (hk : Keeps C D H u₀ s) :
    Keeps C D H u₀ (s.homed) := by
  unfold State.homed
  repeat' first
    | with_reducible assumption
    | (extract_lets +onlyGivenNames x; first | (refine (have hx : Keeps C D H u₀ x := ?_; ?_); subst x; rotate_left; clear_value x) | subst x)
    | with_reducible exact hC.at (by decide +kernel)
    | with_reducible exact hC.at (mem_cqTail _)
    | with_reducible exact hC.at (mem_cqPhase _)
    | with_reducible exact hC.at (mem_loopSamples _)
    | with_reducible exact hC.at (mem_loopClamped _)
    | with_reducible exact hC.at (mem_loopState _)
    | with_reducible exact hC.at (mem_loopRun _)
    | with_reducible exact hC.at (mem_loopRev _)
    | with_reducible exact hC.at (mem_bandState _)
    | with_reducible exact hC.at (mem_bandSeq _)
    | with_reducible exact hC.at (mem_bandLines _)
    | with_reducible exact hC.at (mem_picBase _)
    | with_reducible exact hC.at (mem_ceFld _)
    | with_reducible exact hC.at (mem_ueFld _)
    | with_reducible apply State.clearFaults_keeps hC
    | with_reducible apply State.setCut_keeps hC
    | with_reducible apply Keeps.wr
    | with_reducible apply Keeps.setReg
    | with_reducible apply Keeps.foldl
    | split
    | intro _
    | (with_reducible apply Keeps.lit <;> with_reducible first | rfl | assumption | exact fun _ h => h | exact fun _ _ => rfl | exact fun _ => rfl)

theorem State.advanceCut_keeps (hC : Settles C) {s : State} (hk : Keeps C D H u₀ s) :
    Keeps C D H u₀ (s.advanceCut) := by
  unfold State.advanceCut
  repeat' first
    | with_reducible assumption
    | (extract_lets +onlyGivenNames x; first | (refine (have hx : Keeps C D H u₀ x := ?_; ?_); subst x; rotate_left; clear_value x) | subst x)
    | with_reducible exact hC.at (by decide +kernel)
    | with_reducible exact hC.at (mem_cqTail _)
    | with_reducible exact hC.at (mem_cqPhase _)
    | with_reducible exact hC.at (mem_loopSamples _)
    | with_reducible exact hC.at (mem_loopClamped _)
    | with_reducible exact hC.at (mem_loopState _)
    | with_reducible exact hC.at (mem_loopRun _)
    | with_reducible exact hC.at (mem_loopRev _)
    | with_reducible exact hC.at (mem_bandState _)
    | with_reducible exact hC.at (mem_bandSeq _)
    | with_reducible exact hC.at (mem_bandLines _)
    | with_reducible exact hC.at (mem_picBase _)
    | with_reducible exact hC.at (mem_ceFld _)
    | with_reducible exact hC.at (mem_ueFld _)
    | with_reducible apply State.cutDrive_keeps hC
    | with_reducible apply State.homed_keeps hC
    | with_reducible apply Keeps.wr
    | with_reducible apply Keeps.setReg
    | with_reducible apply Keeps.foldl
    | split
    | intro _
    | (with_reducible apply Keeps.lit <;> with_reducible first | rfl | assumption | exact fun _ h => h | exact fun _ _ => rfl | exact fun _ => rfl)

theorem State.receiptOut_keeps (hC : Settles C) {s : State} {j : Job} (hk : Keeps C D H u₀ s) :
    Keeps C D H u₀ (s.receiptOut j) := by
  unfold State.receiptOut
  repeat' first
    | with_reducible assumption
    | (extract_lets +onlyGivenNames x; first | (refine (have hx : Keeps C D H u₀ x := ?_; ?_); subst x; rotate_left; clear_value x) | subst x)
    | with_reducible exact hC.at (by decide +kernel)
    | with_reducible exact hC.at (mem_cqTail _)
    | with_reducible exact hC.at (mem_cqPhase _)
    | with_reducible exact hC.at (mem_loopSamples _)
    | with_reducible exact hC.at (mem_loopClamped _)
    | with_reducible exact hC.at (mem_loopState _)
    | with_reducible exact hC.at (mem_loopRun _)
    | with_reducible exact hC.at (mem_loopRev _)
    | with_reducible exact hC.at (mem_bandState _)
    | with_reducible exact hC.at (mem_bandSeq _)
    | with_reducible exact hC.at (mem_bandLines _)
    | with_reducible exact hC.at (mem_picBase _)
    | with_reducible exact hC.at (mem_ceFld _)
    | with_reducible exact hC.at (mem_ueFld _)
    | with_reducible apply Keeps.count
    | with_reducible apply State.cutStart_keeps hC
    | with_reducible apply State.endReceipt_keeps hC
    | with_reducible apply State.modJob_keeps hC
    | with_reducible apply State.recPut_keeps hC (fun _ => by simp [leBytes])
    | with_reducible apply State.release_keeps hC
    | with_reducible apply Keeps.wr
    | with_reducible apply Keeps.setReg
    | with_reducible apply Keeps.foldl
    | split
    | intro _
    | (with_reducible apply Keeps.lit <;> with_reducible first | rfl | assumption | exact fun _ h => h | exact fun _ _ => rfl | exact fun _ => rfl)

theorem State.advancePrint_keeps (hC : Settles C) {s : State} (hk : Keeps C D H u₀ s) :
    Keeps C D H u₀ (s.advancePrint) := by
  unfold State.advancePrint
  repeat' first
    | with_reducible assumption
    | (extract_lets +onlyGivenNames x; first | (refine (have hx : Keeps C D H u₀ x := ?_; ?_); subst x; rotate_left; clear_value x) | subst x)
    | with_reducible exact hC.at (by decide +kernel)
    | with_reducible exact hC.at (mem_cqTail _)
    | with_reducible exact hC.at (mem_cqPhase _)
    | with_reducible exact hC.at (mem_loopSamples _)
    | with_reducible exact hC.at (mem_loopClamped _)
    | with_reducible exact hC.at (mem_loopState _)
    | with_reducible exact hC.at (mem_loopRun _)
    | with_reducible exact hC.at (mem_loopRev _)
    | with_reducible exact hC.at (mem_bandState _)
    | with_reducible exact hC.at (mem_bandSeq _)
    | with_reducible exact hC.at (mem_bandLines _)
    | with_reducible exact hC.at (mem_picBase _)
    | with_reducible exact hC.at (mem_ceFld _)
    | with_reducible exact hC.at (mem_ueFld _)
    | with_reducible apply State.endTorn_keeps hC
    | with_reducible apply State.nextBand_keeps hC
    | with_reducible apply State.receiptOut_keeps hC
    | with_reducible apply State.setPrint_keeps hC
    | with_reducible apply State.startPrint_keeps hC
    | with_reducible apply Keeps.wr
    | with_reducible apply Keeps.setReg
    | with_reducible apply Keeps.foldl
    | split
    | intro _
    | (with_reducible apply Keeps.lit <;> with_reducible first | rfl | assumption | exact fun _ h => h | exact fun _ _ => rfl | exact fun _ => rfl)

theorem State.setEnc_keeps (hC : Settles C) {s : State} {f : Enc → Enc} (hk : Keeps C D H u₀ s) :
    Keeps C D H u₀ (s.setEnc f) := by
  unfold State.setEnc
  repeat' first
    | with_reducible assumption
    | (extract_lets +onlyGivenNames x; first | (refine (have hx : Keeps C D H u₀ x := ?_; ?_); subst x; rotate_left; clear_value x) | subst x)
    | with_reducible exact hC.at (by decide +kernel)
    | with_reducible exact hC.at (mem_cqTail _)
    | with_reducible exact hC.at (mem_cqPhase _)
    | with_reducible exact hC.at (mem_loopSamples _)
    | with_reducible exact hC.at (mem_loopClamped _)
    | with_reducible exact hC.at (mem_loopState _)
    | with_reducible exact hC.at (mem_loopRun _)
    | with_reducible exact hC.at (mem_loopRev _)
    | with_reducible exact hC.at (mem_bandState _)
    | with_reducible exact hC.at (mem_bandSeq _)
    | with_reducible exact hC.at (mem_bandLines _)
    | with_reducible exact hC.at (mem_picBase _)
    | with_reducible exact hC.at (mem_ceFld _)
    | with_reducible exact hC.at (mem_ueFld _)
    | with_reducible apply Keeps.wr
    | with_reducible apply Keeps.setReg
    | with_reducible apply Keeps.foldl
    | split
    | intro _
    | (with_reducible apply Keeps.lit <;> with_reducible first | rfl | assumption | exact fun _ h => h | exact fun _ _ => rfl | exact fun _ => rfl)

theorem State.setDec_keeps (hC : Settles C) {s : State} {f : Dec → Dec} (hk : Keeps C D H u₀ s) :
    Keeps C D H u₀ (s.setDec f) := by
  unfold State.setDec
  repeat' first
    | with_reducible assumption
    | (extract_lets +onlyGivenNames x; first | (refine (have hx : Keeps C D H u₀ x := ?_; ?_); subst x; rotate_left; clear_value x) | subst x)
    | with_reducible exact hC.at (by decide +kernel)
    | with_reducible exact hC.at (mem_cqTail _)
    | with_reducible exact hC.at (mem_cqPhase _)
    | with_reducible exact hC.at (mem_loopSamples _)
    | with_reducible exact hC.at (mem_loopClamped _)
    | with_reducible exact hC.at (mem_loopState _)
    | with_reducible exact hC.at (mem_loopRun _)
    | with_reducible exact hC.at (mem_loopRev _)
    | with_reducible exact hC.at (mem_bandState _)
    | with_reducible exact hC.at (mem_bandSeq _)
    | with_reducible exact hC.at (mem_bandLines _)
    | with_reducible exact hC.at (mem_picBase _)
    | with_reducible exact hC.at (mem_ceFld _)
    | with_reducible exact hC.at (mem_ueFld _)
    | with_reducible apply Keeps.wr
    | with_reducible apply Keeps.setReg
    | with_reducible apply Keeps.foldl
    | split
    | intro _
    | (with_reducible apply Keeps.lit <;> with_reducible first | rfl | assumption | exact fun _ h => h | exact fun _ _ => rfl | exact fun _ => rfl)

theorem State.setLent_keeps (hC : Settles C) {s : State} {l : List Nat} (hk : Keeps C D H u₀ s) :
    Keeps C D H u₀ (s.setLent l) := by
  unfold State.setLent
  repeat' first
    | with_reducible assumption
    | (extract_lets +onlyGivenNames x; first | (refine (have hx : Keeps C D H u₀ x := ?_; ?_); subst x; rotate_left; clear_value x) | subst x)
    | with_reducible exact hC.at (by decide +kernel)
    | with_reducible exact hC.at (mem_cqTail _)
    | with_reducible exact hC.at (mem_cqPhase _)
    | with_reducible exact hC.at (mem_loopSamples _)
    | with_reducible exact hC.at (mem_loopClamped _)
    | with_reducible exact hC.at (mem_loopState _)
    | with_reducible exact hC.at (mem_loopRun _)
    | with_reducible exact hC.at (mem_loopRev _)
    | with_reducible exact hC.at (mem_bandState _)
    | with_reducible exact hC.at (mem_bandSeq _)
    | with_reducible exact hC.at (mem_bandLines _)
    | with_reducible exact hC.at (mem_picBase _)
    | with_reducible exact hC.at (mem_ceFld _)
    | with_reducible exact hC.at (mem_ueFld _)
    | with_reducible apply State.setEnc_keeps hC
    | with_reducible apply Keeps.wr
    | with_reducible apply Keeps.setReg
    | with_reducible apply Keeps.foldl
    | split
    | intro _
    | (with_reducible apply Keeps.lit <;> with_reducible first | rfl | assumption | exact fun _ h => h | exact fun _ _ => rfl | exact fun _ => rfl)

theorem State.sliceDue_keeps (hC : Settles C) {s : State} (hk : Keeps C D H u₀ s) :
    Keeps C D H u₀ (s.sliceDue) := by
  unfold State.sliceDue
  repeat' first
    | with_reducible assumption
    | (extract_lets +onlyGivenNames x; first | (refine (have hx : Keeps C D H u₀ x := ?_; ?_); subst x; rotate_left; clear_value x) | subst x)
    | with_reducible exact hC.at (by decide +kernel)
    | with_reducible exact hC.at (mem_cqTail _)
    | with_reducible exact hC.at (mem_cqPhase _)
    | with_reducible exact hC.at (mem_loopSamples _)
    | with_reducible exact hC.at (mem_loopClamped _)
    | with_reducible exact hC.at (mem_loopState _)
    | with_reducible exact hC.at (mem_loopRun _)
    | with_reducible exact hC.at (mem_loopRev _)
    | with_reducible exact hC.at (mem_bandState _)
    | with_reducible exact hC.at (mem_bandSeq _)
    | with_reducible exact hC.at (mem_bandLines _)
    | with_reducible exact hC.at (mem_picBase _)
    | with_reducible exact hC.at (mem_ceFld _)
    | with_reducible exact hC.at (mem_ueFld _)
    | with_reducible apply State.bump_keeps hC
    | with_reducible apply Keeps.wr
    | with_reducible apply Keeps.setReg
    | with_reducible apply Keeps.foldl
    | split
    | intro _
    | (with_reducible apply Keeps.lit <;> with_reducible first | rfl | assumption | exact fun _ h => h | exact fun _ _ => rfl | exact fun _ => rfl)

theorem State.encRate_keeps (hC : Settles C) {s : State} (hk : Keeps C D H u₀ s) :
    Keeps C D H u₀ (s.encRate) := by
  unfold State.encRate
  repeat' first
    | with_reducible assumption
    | (extract_lets +onlyGivenNames x; first | (refine (have hx : Keeps C D H u₀ x := ?_; ?_); subst x; rotate_left; clear_value x) | subst x)
    | with_reducible exact hC.at (by decide +kernel)
    | with_reducible exact hC.at (mem_cqTail _)
    | with_reducible exact hC.at (mem_cqPhase _)
    | with_reducible exact hC.at (mem_loopSamples _)
    | with_reducible exact hC.at (mem_loopClamped _)
    | with_reducible exact hC.at (mem_loopState _)
    | with_reducible exact hC.at (mem_loopRun _)
    | with_reducible exact hC.at (mem_loopRev _)
    | with_reducible exact hC.at (mem_bandState _)
    | with_reducible exact hC.at (mem_bandSeq _)
    | with_reducible exact hC.at (mem_bandLines _)
    | with_reducible exact hC.at (mem_picBase _)
    | with_reducible exact hC.at (mem_ceFld _)
    | with_reducible exact hC.at (mem_ueFld _)
    | with_reducible apply State.setEnc_keeps hC
    | with_reducible apply Keeps.wr
    | with_reducible apply Keeps.setReg
    | with_reducible apply Keeps.foldl
    | split
    | intro _
    | (with_reducible apply Keeps.lit <;> with_reducible first | rfl | assumption | exact fun _ h => h | exact fun _ _ => rfl | exact fun _ => rfl)

theorem State.showBucket_keeps (hC : Settles C) {s : State} (hk : Keeps C D H u₀ s) :
    Keeps C D H u₀ (s.showBucket) := by
  unfold State.showBucket
  repeat' first
    | with_reducible assumption
    | (extract_lets +onlyGivenNames x; first | (refine (have hx : Keeps C D H u₀ x := ?_; ?_); subst x; rotate_left; clear_value x) | subst x)
    | with_reducible exact hC.at (by decide +kernel)
    | with_reducible exact hC.at (mem_cqTail _)
    | with_reducible exact hC.at (mem_cqPhase _)
    | with_reducible exact hC.at (mem_loopSamples _)
    | with_reducible exact hC.at (mem_loopClamped _)
    | with_reducible exact hC.at (mem_loopState _)
    | with_reducible exact hC.at (mem_loopRun _)
    | with_reducible exact hC.at (mem_loopRev _)
    | with_reducible exact hC.at (mem_bandState _)
    | with_reducible exact hC.at (mem_bandSeq _)
    | with_reducible exact hC.at (mem_bandLines _)
    | with_reducible exact hC.at (mem_picBase _)
    | with_reducible exact hC.at (mem_ceFld _)
    | with_reducible exact hC.at (mem_ueFld _)
    | with_reducible apply Keeps.wr
    | with_reducible apply Keeps.setReg
    | with_reducible apply Keeps.foldl
    | split
    | intro _
    | (with_reducible apply Keeps.lit <;> with_reducible first | rfl | assumption | exact fun _ h => h | exact fun _ _ => rfl | exact fun _ => rfl)

theorem State.encBegin_keeps (hC : Settles C) {s : State} {f : EncFrame} (hk : Keeps C D H u₀ s) :
    Keeps C D H u₀ (s.encBegin f) := by
  unfold State.encBegin
  repeat' first
    | with_reducible assumption
    | (extract_lets +onlyGivenNames x; first | (refine (have hx : Keeps C D H u₀ x := ?_; ?_); subst x; rotate_left; clear_value x) | subst x)
    | with_reducible exact hC.at (by decide +kernel)
    | with_reducible exact hC.at (mem_cqTail _)
    | with_reducible exact hC.at (mem_cqPhase _)
    | with_reducible exact hC.at (mem_loopSamples _)
    | with_reducible exact hC.at (mem_loopClamped _)
    | with_reducible exact hC.at (mem_loopState _)
    | with_reducible exact hC.at (mem_loopRun _)
    | with_reducible exact hC.at (mem_loopRev _)
    | with_reducible exact hC.at (mem_bandState _)
    | with_reducible exact hC.at (mem_bandSeq _)
    | with_reducible exact hC.at (mem_bandLines _)
    | with_reducible exact hC.at (mem_picBase _)
    | with_reducible exact hC.at (mem_ceFld _)
    | with_reducible exact hC.at (mem_ueFld _)
    | with_reducible apply State.complete_keeps hC
    | with_reducible apply State.encRate_keeps hC
    | with_reducible apply State.setEnc_keeps hC
    | with_reducible apply State.showBucket_keeps hC
    | with_reducible apply State.sliceDue_keeps hC
    | with_reducible apply State.start_keeps hC
    | with_reducible apply Keeps.wr
    | with_reducible apply Keeps.setReg
    | with_reducible apply Keeps.foldl
    | split
    | intro _
    | (with_reducible apply Keeps.lit <;> with_reducible first | rfl | assumption | exact fun _ h => h | exact fun _ _ => rfl | exact fun _ => rfl)

theorem State.encClosed_keeps (hC : Settles C) {s : State} {status : Nat} (hk : Keeps C D H u₀ s) :
    Keeps C D H u₀ (s.encClosed status) := by
  unfold State.encClosed
  repeat' first
    | with_reducible assumption
    | (extract_lets +onlyGivenNames x; first | (refine (have hx : Keeps C D H u₀ x := ?_; ?_); subst x; rotate_left; clear_value x) | subst x)
    | with_reducible exact hC.at (by decide +kernel)
    | with_reducible exact hC.at (mem_cqTail _)
    | with_reducible exact hC.at (mem_cqPhase _)
    | with_reducible exact hC.at (mem_loopSamples _)
    | with_reducible exact hC.at (mem_loopClamped _)
    | with_reducible exact hC.at (mem_loopState _)
    | with_reducible exact hC.at (mem_loopRun _)
    | with_reducible exact hC.at (mem_loopRev _)
    | with_reducible exact hC.at (mem_bandState _)
    | with_reducible exact hC.at (mem_bandSeq _)
    | with_reducible exact hC.at (mem_bandLines _)
    | with_reducible exact hC.at (mem_picBase _)
    | with_reducible exact hC.at (mem_ceFld _)
    | with_reducible exact hC.at (mem_ueFld _)
    | with_reducible apply State.endAll_keeps hC
    | with_reducible apply State.setEnc_keeps hC
    | with_reducible apply State.setLent_keeps hC
    | with_reducible apply Keeps.wr
    | with_reducible apply Keeps.setReg
    | with_reducible apply Keeps.foldl
    | split
    | intro _
    | (with_reducible apply Keeps.lit <;> with_reducible first | rfl | assumption | exact fun _ h => h | exact fun _ _ => rfl | exact fun _ => rfl)

theorem State.encFinish_keeps (hC : Settles C) {s : State} {status : Nat} (hk : Keeps C D H u₀ s) :
    Keeps C D H u₀ (s.encFinish status) := by
  unfold State.encFinish
  repeat' first
    | with_reducible assumption
    | (extract_lets +onlyGivenNames x; first | (refine (have hx : Keeps C D H u₀ x := ?_; ?_); subst x; rotate_left; clear_value x) | subst x)
    | with_reducible exact hC.at (by decide +kernel)
    | with_reducible exact hC.at (mem_cqTail _)
    | with_reducible exact hC.at (mem_cqPhase _)
    | with_reducible exact hC.at (mem_loopSamples _)
    | with_reducible exact hC.at (mem_loopClamped _)
    | with_reducible exact hC.at (mem_loopState _)
    | with_reducible exact hC.at (mem_loopRun _)
    | with_reducible exact hC.at (mem_loopRev _)
    | with_reducible exact hC.at (mem_bandState _)
    | with_reducible exact hC.at (mem_bandSeq _)
    | with_reducible exact hC.at (mem_bandLines _)
    | with_reducible exact hC.at (mem_picBase _)
    | with_reducible exact hC.at (mem_ceFld _)
    | with_reducible exact hC.at (mem_ueFld _)
    | with_reducible apply State.complete_keeps hC
    | with_reducible apply State.encClosed_keeps hC
    | with_reducible apply Keeps.wr
    | with_reducible apply Keeps.setReg
    | with_reducible apply Keeps.foldl
    | split
    | intro _
    | (with_reducible apply Keeps.lit <;> with_reducible first | rfl | assumption | exact fun _ h => h | exact fun _ _ => rfl | exact fun _ => rfl)

theorem State.encAdvance_keeps (hC : Settles C) {s : State} (hk : Keeps C D H u₀ s) :
    Keeps C D H u₀ (s.encAdvance) := by
  unfold State.encAdvance
  repeat' first
    | with_reducible assumption
    | (extract_lets +onlyGivenNames x; first | (refine (have hx : Keeps C D H u₀ x := ?_; ?_); subst x; rotate_left; clear_value x) | subst x)
    | with_reducible exact hC.at (by decide +kernel)
    | with_reducible exact hC.at (mem_cqTail _)
    | with_reducible exact hC.at (mem_cqPhase _)
    | with_reducible exact hC.at (mem_loopSamples _)
    | with_reducible exact hC.at (mem_loopClamped _)
    | with_reducible exact hC.at (mem_loopState _)
    | with_reducible exact hC.at (mem_loopRun _)
    | with_reducible exact hC.at (mem_loopRev _)
    | with_reducible exact hC.at (mem_bandState _)
    | with_reducible exact hC.at (mem_bandSeq _)
    | with_reducible exact hC.at (mem_bandLines _)
    | with_reducible exact hC.at (mem_picBase _)
    | with_reducible exact hC.at (mem_ceFld _)
    | with_reducible exact hC.at (mem_ueFld _)
    | with_reducible apply State.encBegin_keeps hC
    | with_reducible apply State.encFinish_keeps hC
    | with_reducible apply State.evt_keeps hC
    | with_reducible apply Keeps.wr
    | with_reducible apply Keeps.setReg
    | with_reducible apply Keeps.foldl
    | split
    | intro _
    | (with_reducible apply Keeps.lit <;> with_reducible first | rfl | assumption | exact fun _ h => h | exact fun _ _ => rfl | exact fun _ => rfl)

theorem State.showDec_keeps (hC : Settles C) {s : State} (hk : Keeps C D H u₀ s) :
    Keeps C D H u₀ (s.showDec) := by
  unfold State.showDec
  repeat' first
    | with_reducible assumption
    | (extract_lets +onlyGivenNames x; first | (refine (have hx : Keeps C D H u₀ x := ?_; ?_); subst x; rotate_left; clear_value x) | subst x)
    | with_reducible exact hC.at (by decide +kernel)
    | with_reducible exact hC.at (mem_cqTail _)
    | with_reducible exact hC.at (mem_cqPhase _)
    | with_reducible exact hC.at (mem_loopSamples _)
    | with_reducible exact hC.at (mem_loopClamped _)
    | with_reducible exact hC.at (mem_loopState _)
    | with_reducible exact hC.at (mem_loopRun _)
    | with_reducible exact hC.at (mem_loopRev _)
    | with_reducible exact hC.at (mem_bandState _)
    | with_reducible exact hC.at (mem_bandSeq _)
    | with_reducible exact hC.at (mem_bandLines _)
    | with_reducible exact hC.at (mem_picBase _)
    | with_reducible exact hC.at (mem_ceFld _)
    | with_reducible exact hC.at (mem_ueFld _)
    | with_reducible apply Keeps.wr
    | with_reducible apply Keeps.setReg
    | with_reducible apply Keeps.foldl
    | split
    | intro _
    | (with_reducible apply Keeps.lit <;> with_reducible first | rfl | assumption | exact fun _ h => h | exact fun _ _ => rfl | exact fun _ => rfl)

theorem State.decLoss_keeps (hC : Settles C) {s : State} (hk : Keeps C D H u₀ s) :
    Keeps C D H u₀ (s.decLoss) := by
  unfold State.decLoss
  repeat' first
    | with_reducible assumption
    | (extract_lets +onlyGivenNames x; first | (refine (have hx : Keeps C D H u₀ x := ?_; ?_); subst x; rotate_left; clear_value x) | subst x)
    | with_reducible exact hC.at (by decide +kernel)
    | with_reducible exact hC.at (mem_cqTail _)
    | with_reducible exact hC.at (mem_cqPhase _)
    | with_reducible exact hC.at (mem_loopSamples _)
    | with_reducible exact hC.at (mem_loopClamped _)
    | with_reducible exact hC.at (mem_loopState _)
    | with_reducible exact hC.at (mem_loopRun _)
    | with_reducible exact hC.at (mem_loopRev _)
    | with_reducible exact hC.at (mem_bandState _)
    | with_reducible exact hC.at (mem_bandSeq _)
    | with_reducible exact hC.at (mem_bandLines _)
    | with_reducible exact hC.at (mem_picBase _)
    | with_reducible exact hC.at (mem_ceFld _)
    | with_reducible exact hC.at (mem_ueFld _)
    | with_reducible apply State.setDec_keeps hC
    | with_reducible apply Keeps.wr
    | with_reducible apply Keeps.setReg
    | with_reducible apply Keeps.foldl
    | split
    | intro _
    | (with_reducible apply Keeps.lit <;> with_reducible first | rfl | assumption | exact fun _ h => h | exact fun _ _ => rfl | exact fun _ => rfl)

theorem State.shedLoss_keeps (hC : Settles C) {s : State} (hk : Keeps C D H u₀ s) :
    Keeps C D H u₀ (s.shedLoss) := by
  unfold State.shedLoss
  repeat' first
    | with_reducible assumption
    | (extract_lets +onlyGivenNames x; first | (refine (have hx : Keeps C D H u₀ x := ?_; ?_); subst x; rotate_left; clear_value x) | subst x)
    | with_reducible exact hC.at (by decide +kernel)
    | with_reducible exact hC.at (mem_cqTail _)
    | with_reducible exact hC.at (mem_cqPhase _)
    | with_reducible exact hC.at (mem_loopSamples _)
    | with_reducible exact hC.at (mem_loopClamped _)
    | with_reducible exact hC.at (mem_loopState _)
    | with_reducible exact hC.at (mem_loopRun _)
    | with_reducible exact hC.at (mem_loopRev _)
    | with_reducible exact hC.at (mem_bandState _)
    | with_reducible exact hC.at (mem_bandSeq _)
    | with_reducible exact hC.at (mem_bandLines _)
    | with_reducible exact hC.at (mem_picBase _)
    | with_reducible exact hC.at (mem_ceFld _)
    | with_reducible exact hC.at (mem_ueFld _)
    | with_reducible apply State.decLoss_keeps hC
    | with_reducible apply State.setDec_keeps hC
    | with_reducible apply Keeps.wr
    | with_reducible apply Keeps.setReg
    | with_reducible apply Keeps.foldl
    | split
    | intro _
    | (with_reducible apply Keeps.lit <;> with_reducible first | rfl | assumption | exact fun _ h => h | exact fun _ _ => rfl | exact fun _ => rfl)

theorem State.decDrop_keeps (hC : Settles C) {s : State} (hk : Keeps C D H u₀ s) :
    Keeps C D H u₀ (s.decDrop) := by
  unfold State.decDrop
  repeat' first
    | with_reducible assumption
    | (extract_lets +onlyGivenNames x; first | (refine (have hx : Keeps C D H u₀ x := ?_; ?_); subst x; rotate_left; clear_value x) | subst x)
    | with_reducible exact hC.at (by decide +kernel)
    | with_reducible exact hC.at (mem_cqTail _)
    | with_reducible exact hC.at (mem_cqPhase _)
    | with_reducible exact hC.at (mem_loopSamples _)
    | with_reducible exact hC.at (mem_loopClamped _)
    | with_reducible exact hC.at (mem_loopState _)
    | with_reducible exact hC.at (mem_loopRun _)
    | with_reducible exact hC.at (mem_loopRev _)
    | with_reducible exact hC.at (mem_bandState _)
    | with_reducible exact hC.at (mem_bandSeq _)
    | with_reducible exact hC.at (mem_bandLines _)
    | with_reducible exact hC.at (mem_picBase _)
    | with_reducible exact hC.at (mem_ceFld _)
    | with_reducible exact hC.at (mem_ueFld _)
    | with_reducible apply State.complete_keeps hC
    | with_reducible apply State.setDec_keeps hC
    | with_reducible apply Keeps.wr
    | with_reducible apply Keeps.setReg
    | with_reducible apply Keeps.foldl
    | split
    | intro _
    | (with_reducible apply Keeps.lit <;> with_reducible first | rfl | assumption | exact fun _ h => h | exact fun _ _ => rfl | exact fun _ => rfl)

theorem State.decShed_keeps (hC : Settles C) {s : State} (hk : Keeps C D H u₀ s) :
    Keeps C D H u₀ (s.decShed) := by
  unfold State.decShed
  repeat' first
    | with_reducible assumption
    | (extract_lets +onlyGivenNames x; first | (refine (have hx : Keeps C D H u₀ x := ?_; ?_); subst x; rotate_left; clear_value x) | subst x)
    | with_reducible exact hC.at (by decide +kernel)
    | with_reducible exact hC.at (mem_cqTail _)
    | with_reducible exact hC.at (mem_cqPhase _)
    | with_reducible exact hC.at (mem_loopSamples _)
    | with_reducible exact hC.at (mem_loopClamped _)
    | with_reducible exact hC.at (mem_loopState _)
    | with_reducible exact hC.at (mem_loopRun _)
    | with_reducible exact hC.at (mem_loopRev _)
    | with_reducible exact hC.at (mem_bandState _)
    | with_reducible exact hC.at (mem_bandSeq _)
    | with_reducible exact hC.at (mem_bandLines _)
    | with_reducible exact hC.at (mem_picBase _)
    | with_reducible exact hC.at (mem_ceFld _)
    | with_reducible exact hC.at (mem_ueFld _)
    | with_reducible apply State.decDrop_keeps hC
    | with_reducible apply State.shedLoss_keeps hC
    | with_reducible apply Keeps.wr
    | with_reducible apply Keeps.setReg
    | with_reducible apply Keeps.foldl
    | split
    | intro _
    | (with_reducible apply Keeps.lit <;> with_reducible first | rfl | assumption | exact fun _ h => h | exact fun _ _ => rfl | exact fun _ => rfl)

theorem State.decClosed_keeps (hC : Settles C) {s : State} (hk : Keeps C D H u₀ s) :
    Keeps C D H u₀ (s.decClosed) := by
  unfold State.decClosed
  repeat' first
    | with_reducible assumption
    | (extract_lets +onlyGivenNames x; first | (refine (have hx : Keeps C D H u₀ x := ?_; ?_); subst x; rotate_left; clear_value x) | subst x)
    | with_reducible exact hC.at (by decide +kernel)
    | with_reducible exact hC.at (mem_cqTail _)
    | with_reducible exact hC.at (mem_cqPhase _)
    | with_reducible exact hC.at (mem_loopSamples _)
    | with_reducible exact hC.at (mem_loopClamped _)
    | with_reducible exact hC.at (mem_loopState _)
    | with_reducible exact hC.at (mem_loopRun _)
    | with_reducible exact hC.at (mem_loopRev _)
    | with_reducible exact hC.at (mem_bandState _)
    | with_reducible exact hC.at (mem_bandSeq _)
    | with_reducible exact hC.at (mem_bandLines _)
    | with_reducible exact hC.at (mem_picBase _)
    | with_reducible exact hC.at (mem_ceFld _)
    | with_reducible exact hC.at (mem_ueFld _)
    | with_reducible apply State.setDec_keeps hC
    | with_reducible apply Keeps.wr
    | with_reducible apply Keeps.setReg
    | with_reducible apply Keeps.foldl
    | split
    | intro _
    | (with_reducible apply Keeps.lit <;> with_reducible first | rfl | assumption | exact fun _ h => h | exact fun _ _ => rfl | exact fun _ => rfl)

theorem State.decAdvance_keeps (hC : Settles C) {s : State} (hk : Keeps C D H u₀ s) :
    Keeps C D H u₀ (s.decAdvance) := by
  unfold State.decAdvance
  repeat' first
    | with_reducible assumption
    | (extract_lets +onlyGivenNames x; first | (refine (have hx : Keeps C D H u₀ x := ?_; ?_); subst x; rotate_left; clear_value x) | subst x)
    | with_reducible exact hC.at (by decide +kernel)
    | with_reducible exact hC.at (mem_cqTail _)
    | with_reducible exact hC.at (mem_cqPhase _)
    | with_reducible exact hC.at (mem_loopSamples _)
    | with_reducible exact hC.at (mem_loopClamped _)
    | with_reducible exact hC.at (mem_loopState _)
    | with_reducible exact hC.at (mem_loopRun _)
    | with_reducible exact hC.at (mem_loopRev _)
    | with_reducible exact hC.at (mem_bandState _)
    | with_reducible exact hC.at (mem_bandSeq _)
    | with_reducible exact hC.at (mem_bandLines _)
    | with_reducible exact hC.at (mem_picBase _)
    | with_reducible exact hC.at (mem_ceFld _)
    | with_reducible exact hC.at (mem_ueFld _)
    | with_reducible apply State.complete_keeps hC
    | with_reducible apply State.decClosed_keeps hC
    | with_reducible apply State.decShed_keeps hC
    | with_reducible apply State.setDec_keeps hC
    | with_reducible apply State.showDec_keeps hC
    | with_reducible apply Keeps.wr
    | with_reducible apply Keeps.setReg
    | with_reducible apply Keeps.foldl
    | split
    | intro _
    | (with_reducible apply Keeps.lit <;> with_reducible first | rfl | assumption | exact fun _ h => h | exact fun _ _ => rfl | exact fun _ => rfl)

theorem State.vhSwitch_keeps (hC : Settles C) {s : State} {empty : Bool} {high : Bool} (hk : Keeps C D H u₀ s) :
    Keeps C D H u₀ (s.vhSwitch empty high) := by
  unfold State.vhSwitch
  repeat' first
    | with_reducible assumption
    | (extract_lets +onlyGivenNames x; first | (refine (have hx : Keeps C D H u₀ x := ?_; ?_); subst x; rotate_left; clear_value x) | subst x)
    | with_reducible exact hC.at (by decide +kernel)
    | with_reducible exact hC.at (mem_cqTail _)
    | with_reducible exact hC.at (mem_cqPhase _)
    | with_reducible exact hC.at (mem_loopSamples _)
    | with_reducible exact hC.at (mem_loopClamped _)
    | with_reducible exact hC.at (mem_loopState _)
    | with_reducible exact hC.at (mem_loopRun _)
    | with_reducible exact hC.at (mem_loopRev _)
    | with_reducible exact hC.at (mem_bandState _)
    | with_reducible exact hC.at (mem_bandSeq _)
    | with_reducible exact hC.at (mem_bandLines _)
    | with_reducible exact hC.at (mem_picBase _)
    | with_reducible exact hC.at (mem_ceFld _)
    | with_reducible exact hC.at (mem_ueFld _)
    | with_reducible apply State.wrB_keeps hC
    | with_reducible apply Keeps.wr
    | with_reducible apply Keeps.setReg
    | with_reducible apply Keeps.foldl
    | split
    | intro _
    | (with_reducible apply Keeps.lit <;> with_reducible first | rfl | assumption | exact fun _ h => h | exact fun _ _ => rfl | exact fun _ => rfl)

theorem State.vhStop_keeps (hC : Settles C) {s : State} (hk : Keeps C D H u₀ s) :
    Keeps C D H u₀ (s.vhStop) := by
  unfold State.vhStop
  repeat' first
    | with_reducible assumption
    | (extract_lets +onlyGivenNames x; first | (refine (have hx : Keeps C D H u₀ x := ?_; ?_); subst x; rotate_left; clear_value x) | subst x)
    | with_reducible exact hC.at (by decide +kernel)
    | with_reducible exact hC.at (mem_cqTail _)
    | with_reducible exact hC.at (mem_cqPhase _)
    | with_reducible exact hC.at (mem_loopSamples _)
    | with_reducible exact hC.at (mem_loopClamped _)
    | with_reducible exact hC.at (mem_loopState _)
    | with_reducible exact hC.at (mem_loopRun _)
    | with_reducible exact hC.at (mem_loopRev _)
    | with_reducible exact hC.at (mem_bandState _)
    | with_reducible exact hC.at (mem_bandSeq _)
    | with_reducible exact hC.at (mem_bandLines _)
    | with_reducible exact hC.at (mem_picBase _)
    | with_reducible exact hC.at (mem_ceFld _)
    | with_reducible exact hC.at (mem_ueFld _)
    | with_reducible apply State.setPrint_keeps hC
    | with_reducible apply State.vhSwitch_keeps hC
    | with_reducible apply Keeps.wr
    | with_reducible apply Keeps.setReg
    | with_reducible apply Keeps.foldl
    | split
    | intro _
    | (with_reducible apply Keeps.lit <;> with_reducible first | rfl | assumption | exact fun _ h => h | exact fun _ _ => rfl | exact fun _ => rfl)

theorem State.markReset_keeps (hC : Settles C) {s : State} {r : Rod} {on : Bool} (hk : Keeps C D H u₀ s) :
    Keeps C D H u₀ (s.markReset r on) := by
  unfold State.markReset
  repeat' first
    | with_reducible assumption
    | (extract_lets +onlyGivenNames x; first | (refine (have hx : Keeps C D H u₀ x := ?_; ?_); subst x; rotate_left; clear_value x) | subst x)
    | with_reducible exact hC.at (by decide +kernel)
    | with_reducible exact hC.at (mem_cqTail _)
    | with_reducible exact hC.at (mem_cqPhase _)
    | with_reducible exact hC.at (mem_loopSamples _)
    | with_reducible exact hC.at (mem_loopClamped _)
    | with_reducible exact hC.at (mem_loopState _)
    | with_reducible exact hC.at (mem_loopRun _)
    | with_reducible exact hC.at (mem_loopRev _)
    | with_reducible exact hC.at (mem_bandState _)
    | with_reducible exact hC.at (mem_bandSeq _)
    | with_reducible exact hC.at (mem_bandLines _)
    | with_reducible exact hC.at (mem_picBase _)
    | with_reducible exact hC.at (mem_ceFld _)
    | with_reducible exact hC.at (mem_ueFld _)
    | with_reducible apply Keeps.wr
    | with_reducible apply Keeps.setReg
    | with_reducible apply Keeps.foldl
    | split
    | intro _
    | (with_reducible apply Keeps.lit <;> with_reducible first | rfl | assumption | exact fun _ h => h | exact fun _ _ => rfl | exact fun _ => rfl)

theorem State.feedLost_keeps (hC : Settles C) {s : State} (hk : Keeps C D H u₀ s) :
    Keeps C D H u₀ (s.feedLost) := by
  unfold State.feedLost
  repeat' first
    | with_reducible assumption
    | (extract_lets +onlyGivenNames x; first | (refine (have hx : Keeps C D H u₀ x := ?_; ?_); subst x; rotate_left; clear_value x) | subst x)
    | with_reducible exact hC.at (by decide +kernel)
    | with_reducible exact hC.at (mem_cqTail _)
    | with_reducible exact hC.at (mem_cqPhase _)
    | with_reducible exact hC.at (mem_loopSamples _)
    | with_reducible exact hC.at (mem_loopClamped _)
    | with_reducible exact hC.at (mem_loopState _)
    | with_reducible exact hC.at (mem_loopRun _)
    | with_reducible exact hC.at (mem_loopRev _)
    | with_reducible exact hC.at (mem_bandState _)
    | with_reducible exact hC.at (mem_bandSeq _)
    | with_reducible exact hC.at (mem_bandLines _)
    | with_reducible exact hC.at (mem_picBase _)
    | with_reducible exact hC.at (mem_ceFld _)
    | with_reducible exact hC.at (mem_ueFld _)
    | with_reducible apply State.feedBrakePath_keeps hC
    | with_reducible apply State.setFeed_keeps hC
    | with_reducible apply Keeps.wr
    | with_reducible apply Keeps.setReg
    | with_reducible apply Keeps.foldl
    | split
    | intro _
    | (with_reducible apply Keeps.lit <;> with_reducible first | rfl | assumption | exact fun _ h => h | exact fun _ _ => rfl | exact fun _ => rfl)

theorem State.lost_keeps (hC : Settles C) {s : State} {r : Rod} (hk : Keeps C D H u₀ s) :
    Keeps C D H u₀ (s.lost r) := by
  unfold State.lost
  repeat' first
    | with_reducible assumption
    | (extract_lets +onlyGivenNames x; first | (refine (have hx : Keeps C D H u₀ x := ?_; ?_); subst x; rotate_left; clear_value x) | subst x)
    | with_reducible exact hC.at (by decide +kernel)
    | with_reducible exact hC.at (mem_cqTail _)
    | with_reducible exact hC.at (mem_cqPhase _)
    | with_reducible exact hC.at (mem_loopSamples _)
    | with_reducible exact hC.at (mem_loopClamped _)
    | with_reducible exact hC.at (mem_loopState _)
    | with_reducible exact hC.at (mem_loopRun _)
    | with_reducible exact hC.at (mem_loopRev _)
    | with_reducible exact hC.at (mem_bandState _)
    | with_reducible exact hC.at (mem_bandSeq _)
    | with_reducible exact hC.at (mem_bandLines _)
    | with_reducible exact hC.at (mem_picBase _)
    | with_reducible exact hC.at (mem_ceFld _)
    | with_reducible exact hC.at (mem_ueFld _)
    | with_reducible apply State.cutAbort_keeps hC
    | with_reducible apply State.feedLost_keeps hC
    | with_reducible apply State.tear_keeps hC
    | with_reducible apply Keeps.wr
    | with_reducible apply Keeps.setReg
    | with_reducible apply Keeps.foldl
    | split
    | intro _
    | (with_reducible apply Keeps.lit <;> with_reducible first | rfl | assumption | exact fun _ h => h | exact fun _ _ => rfl | exact fun _ => rfl)

theorem State.updateReady_keeps (hC : Settles C) {s : State} {r : Rod} (hk : Keeps C D H u₀ s) :
    Keeps C D H u₀ (s.updateReady r) := by
  unfold State.updateReady
  repeat' first
    | with_reducible assumption
    | (extract_lets +onlyGivenNames x; first | (refine (have hx : Keeps C D H u₀ x := ?_; ?_); subst x; rotate_left; clear_value x) | subst x)
    | with_reducible exact hC.at (by decide +kernel)
    | with_reducible exact hC.at (mem_cqTail _)
    | with_reducible exact hC.at (mem_cqPhase _)
    | with_reducible exact hC.at (mem_loopSamples _)
    | with_reducible exact hC.at (mem_loopClamped _)
    | with_reducible exact hC.at (mem_loopState _)
    | with_reducible exact hC.at (mem_loopRun _)
    | with_reducible exact hC.at (mem_loopRev _)
    | with_reducible exact hC.at (mem_bandState _)
    | with_reducible exact hC.at (mem_bandSeq _)
    | with_reducible exact hC.at (mem_bandLines _)
    | with_reducible exact hC.at (mem_picBase _)
    | with_reducible exact hC.at (mem_ceFld _)
    | with_reducible exact hC.at (mem_ueFld _)
    | with_reducible apply State.lost_keeps hC
    | with_reducible apply State.markReset_keeps hC
    | with_reducible apply State.rodVec_keeps hC
    | with_reducible apply Keeps.wr
    | with_reducible apply State.wrBit_keeps hC
    | with_reducible apply Keeps.setReg
    | with_reducible apply Keeps.foldl
    | split
    | intro _
    | (with_reducible apply Keeps.lit <;> with_reducible first | rfl | assumption | exact fun _ h => h | exact fun _ _ => rfl | exact fun _ => rfl)

theorem State.waitOver_keeps (hC : Settles C) {s : State} {c : Cmd} (hk : Keeps C D H u₀ s) :
    Keeps C D H u₀ (s.waitOver c) := by
  unfold State.waitOver
  repeat' first
    | with_reducible assumption
    | (extract_lets +onlyGivenNames x; first | (refine (have hx : Keeps C D H u₀ x := ?_; ?_); subst x; rotate_left; clear_value x) | subst x)
    | with_reducible exact hC.at (by decide +kernel)
    | with_reducible exact hC.at (mem_cqTail _)
    | with_reducible exact hC.at (mem_cqPhase _)
    | with_reducible exact hC.at (mem_loopSamples _)
    | with_reducible exact hC.at (mem_loopClamped _)
    | with_reducible exact hC.at (mem_loopState _)
    | with_reducible exact hC.at (mem_loopRun _)
    | with_reducible exact hC.at (mem_loopRev _)
    | with_reducible exact hC.at (mem_bandState _)
    | with_reducible exact hC.at (mem_bandSeq _)
    | with_reducible exact hC.at (mem_bandLines _)
    | with_reducible exact hC.at (mem_picBase _)
    | with_reducible exact hC.at (mem_ceFld _)
    | with_reducible exact hC.at (mem_ueFld _)
    | with_reducible apply State.endCheck_keeps hC
    | with_reducible apply State.endOpen_keeps hC
    | with_reducible apply State.endReceipt_keeps hC
    | with_reducible apply Keeps.openWord
    | with_reducible apply State.rasterErr_keeps hC
    | with_reducible apply State.renderStop_keeps hC
    | with_reducible apply Keeps.wr
    | with_reducible apply Keeps.setReg
    | with_reducible apply Keeps.foldl
    | split
    | intro _
    | (with_reducible apply Keeps.lit <;> with_reducible first | rfl | assumption | exact fun _ h => h | exact fun _ _ => rfl | exact fun _ => rfl)

theorem State.dropWaiting_keeps (hC : Settles C) {s : State} (hk : Keeps C D H u₀ s) :
    Keeps C D H u₀ (s.dropWaiting) := by
  unfold State.dropWaiting
  repeat' first
    | with_reducible assumption
    | (extract_lets +onlyGivenNames x; first | (refine (have hx : Keeps C D H u₀ x := ?_; ?_); subst x; rotate_left; clear_value x) | subst x)
    | with_reducible exact hC.at (by decide +kernel)
    | with_reducible exact hC.at (mem_cqTail _)
    | with_reducible exact hC.at (mem_cqPhase _)
    | with_reducible exact hC.at (mem_loopSamples _)
    | with_reducible exact hC.at (mem_loopClamped _)
    | with_reducible exact hC.at (mem_loopState _)
    | with_reducible exact hC.at (mem_loopRun _)
    | with_reducible exact hC.at (mem_loopRev _)
    | with_reducible exact hC.at (mem_bandState _)
    | with_reducible exact hC.at (mem_bandSeq _)
    | with_reducible exact hC.at (mem_bandLines _)
    | with_reducible exact hC.at (mem_picBase _)
    | with_reducible exact hC.at (mem_ceFld _)
    | with_reducible exact hC.at (mem_ueFld _)
    | with_reducible apply State.waitOver_keeps hC
    | with_reducible apply Keeps.wr
    | with_reducible apply Keeps.setReg
    | with_reducible apply Keeps.foldl
    | split
    | intro _
    | (with_reducible apply Keeps.lit <;> with_reducible first | rfl | assumption | exact fun _ h => h | exact fun _ _ => rfl | exact fun _ => rfl)

theorem State.vhStart_keeps (hC : Settles C) {s : State} (hk : Keeps C D H u₀ s) :
    Keeps C D H u₀ (s.vhStart) := by
  unfold State.vhStart
  repeat' first
    | with_reducible assumption
    | (extract_lets +onlyGivenNames x; first | (refine (have hx : Keeps C D H u₀ x := ?_; ?_); subst x; rotate_left; clear_value x) | subst x)
    | with_reducible exact hC.at (by decide +kernel)
    | with_reducible exact hC.at (mem_cqTail _)
    | with_reducible exact hC.at (mem_cqPhase _)
    | with_reducible exact hC.at (mem_loopSamples _)
    | with_reducible exact hC.at (mem_loopClamped _)
    | with_reducible exact hC.at (mem_loopState _)
    | with_reducible exact hC.at (mem_loopRun _)
    | with_reducible exact hC.at (mem_loopRev _)
    | with_reducible exact hC.at (mem_bandState _)
    | with_reducible exact hC.at (mem_bandSeq _)
    | with_reducible exact hC.at (mem_bandLines _)
    | with_reducible exact hC.at (mem_picBase _)
    | with_reducible exact hC.at (mem_ceFld _)
    | with_reducible exact hC.at (mem_ueFld _)
    | with_reducible apply Keeps.fresh
    | with_reducible apply Keeps.wr
    | with_reducible apply Keeps.setReg
    | with_reducible apply Keeps.foldl
    | split
    | intro _
    | (with_reducible apply Keeps.lit <;> with_reducible first | rfl | assumption | exact fun _ h => h | exact fun _ _ => rfl | exact fun _ => rfl)

theorem State.updateVh_keeps (hC : Settles C) {s : State} (hk : Keeps C D H u₀ s) :
    Keeps C D H u₀ (s.updateVh) := by
  unfold State.updateVh
  repeat' first
    | with_reducible assumption
    | (extract_lets +onlyGivenNames x; first | (refine (have hx : Keeps C D H u₀ x := ?_; ?_); subst x; rotate_left; clear_value x) | subst x)
    | with_reducible exact hC.at (by decide +kernel)
    | with_reducible exact hC.at (mem_cqTail _)
    | with_reducible exact hC.at (mem_cqPhase _)
    | with_reducible exact hC.at (mem_loopSamples _)
    | with_reducible exact hC.at (mem_loopClamped _)
    | with_reducible exact hC.at (mem_loopState _)
    | with_reducible exact hC.at (mem_loopRun _)
    | with_reducible exact hC.at (mem_loopRev _)
    | with_reducible exact hC.at (mem_bandState _)
    | with_reducible exact hC.at (mem_bandSeq _)
    | with_reducible exact hC.at (mem_bandLines _)
    | with_reducible exact hC.at (mem_picBase _)
    | with_reducible exact hC.at (mem_ceFld _)
    | with_reducible exact hC.at (mem_ueFld _)
    | with_reducible apply State.tear_keeps hC
    | with_reducible apply State.vhStart_keeps hC
    | with_reducible apply State.vhStop_keeps hC
    | with_reducible apply Keeps.wr
    | with_reducible apply Keeps.setReg
    | with_reducible apply Keeps.foldl
    | split
    | intro _
    | (with_reducible apply Keeps.lit <;> with_reducible first | rfl | assumption | exact fun _ h => h | exact fun _ _ => rfl | exact fun _ => rfl)

theorem State.setImg_keeps (hC : Settles C) {s : State} {f : Img → Img} (hk : Keeps C D H u₀ s) :
    Keeps C D H u₀ (s.setImg f) := by
  unfold State.setImg
  repeat' first
    | with_reducible assumption
    | (extract_lets +onlyGivenNames x; first | (refine (have hx : Keeps C D H u₀ x := ?_; ?_); subst x; rotate_left; clear_value x) | subst x)
    | with_reducible exact hC.at (by decide +kernel)
    | with_reducible exact hC.at (mem_cqTail _)
    | with_reducible exact hC.at (mem_cqPhase _)
    | with_reducible exact hC.at (mem_loopSamples _)
    | with_reducible exact hC.at (mem_loopClamped _)
    | with_reducible exact hC.at (mem_loopState _)
    | with_reducible exact hC.at (mem_loopRun _)
    | with_reducible exact hC.at (mem_loopRev _)
    | with_reducible exact hC.at (mem_bandState _)
    | with_reducible exact hC.at (mem_bandSeq _)
    | with_reducible exact hC.at (mem_bandLines _)
    | with_reducible exact hC.at (mem_picBase _)
    | with_reducible exact hC.at (mem_ceFld _)
    | with_reducible exact hC.at (mem_ueFld _)
    | with_reducible apply Keeps.wr
    | with_reducible apply Keeps.setReg
    | with_reducible apply Keeps.foldl
    | split
    | intro _
    | (with_reducible apply Keeps.lit <;> with_reducible first | rfl | assumption | exact fun _ h => h | exact fun _ _ => rfl | exact fun _ => rfl)

theorem State.advanceApply_keeps (hC : Settles C) {s : State} (hk : Keeps C D H u₀ s) :
    Keeps C D H u₀ (s.advanceApply) := by
  unfold State.advanceApply
  repeat' first
    | with_reducible assumption
    | (extract_lets +onlyGivenNames x; first | (refine (have hx : Keeps C D H u₀ x := ?_; ?_); subst x; rotate_left; clear_value x) | subst x)
    | with_reducible exact hC.at (by decide +kernel)
    | with_reducible exact hC.at (mem_cqTail _)
    | with_reducible exact hC.at (mem_cqPhase _)
    | with_reducible exact hC.at (mem_loopSamples _)
    | with_reducible exact hC.at (mem_loopClamped _)
    | with_reducible exact hC.at (mem_loopState _)
    | with_reducible exact hC.at (mem_loopRun _)
    | with_reducible exact hC.at (mem_loopRev _)
    | with_reducible exact hC.at (mem_bandState _)
    | with_reducible exact hC.at (mem_bandSeq _)
    | with_reducible exact hC.at (mem_bandLines _)
    | with_reducible exact hC.at (mem_picBase _)
    | with_reducible exact hC.at (mem_ceFld _)
    | with_reducible exact hC.at (mem_ueFld _)
    | with_reducible apply State.complete_keeps hC
    | with_reducible apply State.setImg_keeps hC
    | with_reducible apply Keeps.wr
    | with_reducible apply Keeps.setReg
    | with_reducible apply Keeps.foldl
    | split
    | intro _
    | (with_reducible apply Keeps.lit <;> with_reducible first | rfl | assumption | exact fun _ h => h | exact fun _ _ => rfl | exact fun _ => rfl)

theorem State.settle_keeps (hC : Settles C) {s : State} (hk : Keeps C D H u₀ s) :
    Keeps C D H u₀ (s.settle) := by
  unfold State.settle
  repeat' first
    | with_reducible assumption
    | (extract_lets +onlyGivenNames x; first | (refine (have hx : Keeps C D H u₀ x := ?_; ?_); subst x; rotate_left; clear_value x) | subst x)
    | with_reducible exact hC.at (by decide +kernel)
    | with_reducible exact hC.at (mem_cqTail _)
    | with_reducible exact hC.at (mem_cqPhase _)
    | with_reducible exact hC.at (mem_loopSamples _)
    | with_reducible exact hC.at (mem_loopClamped _)
    | with_reducible exact hC.at (mem_loopState _)
    | with_reducible exact hC.at (mem_loopRun _)
    | with_reducible exact hC.at (mem_loopRev _)
    | with_reducible exact hC.at (mem_bandState _)
    | with_reducible exact hC.at (mem_bandSeq _)
    | with_reducible exact hC.at (mem_bandLines _)
    | with_reducible exact hC.at (mem_picBase _)
    | with_reducible exact hC.at (mem_ceFld _)
    | with_reducible exact hC.at (mem_ueFld _)
    | with_reducible apply State.advanceApply_keeps hC
    | with_reducible apply State.advanceCut_keeps hC
    | with_reducible apply State.advancePrint_keeps hC
    | with_reducible apply State.decAdvance_keeps hC
    | with_reducible apply State.dropWaiting_keeps hC
    | with_reducible apply State.encAdvance_keeps hC
    | with_reducible apply State.takeSlot_keeps hC
    | with_reducible apply State.updateReady_keeps hC
    | with_reducible apply State.updateVh_keeps hC
    | with_reducible apply Keeps.wr
    | with_reducible apply Keeps.setReg
    | with_reducible apply Keeps.foldl
    | split
    | intro _
    | (with_reducible apply Keeps.lit <;> with_reducible first | rfl | assumption | exact fun _ h => h | exact fun _ _ => rfl | exact fun _ => rfl)

end Sys2Proof.Machine
end

