-- ==== Sys2Proof/Laws/KeepsMech.lean ====
section
/-! SUPPORT. What each operation and each command keeps, for the mechanisms, heads, paper, blade, loops, clocks and sensing: one lemma per operation, each by the
lemmas of the operations it calls. -/

namespace Sys2Proof.Machine

set_option linter.all false
set_option Elab.async false

variable {C : Fld → Prop} {D H : Prop} {u₀ : State}

theorem State.linkErr_keeps (hC : Settles noFld) {s : State} {f : Fld} (hk : Keeps noFld False H u₀ s) :
    Keeps noFld False H u₀ (s.linkErr f) := by
  unfold State.linkErr
  repeat' first
    | with_reducible assumption
    | (extract_lets +onlyGivenNames x; first | (refine (have hx : Keeps noFld False H u₀ x := ?_; ?_); subst x; rotate_left; clear_value x) | subst x)
    | with_reducible exact noFld_apart _
    | with_reducible exact noFld_ne _
    | with_reducible apply State.bump_keeps hC
    | with_reducible apply Keeps.wr
    | with_reducible apply Keeps.setReg
    | with_reducible apply Keeps.foldl
    | split
    | intro _
    | (with_reducible apply Keeps.lit <;> with_reducible first | rfl | assumption | exact fun _ h => h | exact fun _ _ => rfl | exact fun _ => rfl | exact fun h => h.elim)

theorem State.setWake_keeps (hC : Settles noFld) {s : State} {f : Wake → Wake} (hk : Keeps noFld False H u₀ s) :
    Keeps noFld False H u₀ (s.setWake f) := by
  unfold State.setWake
  repeat' first
    | with_reducible assumption
    | (extract_lets +onlyGivenNames x; first | (refine (have hx : Keeps noFld False H u₀ x := ?_; ?_); subst x; rotate_left; clear_value x) | subst x)
    | with_reducible exact noFld_apart _
    | with_reducible exact noFld_ne _
    | with_reducible apply Keeps.wr
    | with_reducible apply Keeps.setReg
    | with_reducible apply Keeps.foldl
    | split
    | intro _
    | (with_reducible apply Keeps.lit <;> with_reducible first | rfl | assumption | exact fun _ h => h | exact fun _ _ => rfl | exact fun _ => rfl | exact fun h => h.elim)

theorem State.idleRestart_keeps (hC : Settles noFld) {s : State} (hk : Keeps noFld False H u₀ s) :
    Keeps noFld False H u₀ (s.idleRestart) := by
  unfold State.idleRestart
  repeat' first
    | with_reducible assumption
    | (extract_lets +onlyGivenNames x; first | (refine (have hx : Keeps noFld False H u₀ x := ?_; ?_); subst x; rotate_left; clear_value x) | subst x)
    | with_reducible exact noFld_apart _
    | with_reducible exact noFld_ne _
    | with_reducible apply State.setWake_keeps hC
    | with_reducible apply Keeps.wr
    | with_reducible apply Keeps.setReg
    | with_reducible apply Keeps.foldl
    | split
    | intro _
    | (with_reducible apply Keeps.lit <;> with_reducible first | rfl | assumption | exact fun _ h => h | exact fun _ _ => rfl | exact fun _ => rfl | exact fun h => h.elim)

theorem State.evtBit_keeps (hC : Settles noFld) {s : State} {f : Fld} {i : Nat} {r : Rod} (hk : Keeps noFld False H u₀ s) :
    Keeps noFld False H u₀ (s.evtBit f i r) := by
  unfold State.evtBit
  repeat' first
    | with_reducible assumption
    | (extract_lets +onlyGivenNames x; first | (refine (have hx : Keeps noFld False H u₀ x := ?_; ?_); subst x; rotate_left; clear_value x) | subst x)
    | with_reducible exact noFld_apart _
    | with_reducible exact noFld_ne _
    | with_reducible apply State.rodVec_keeps hC
    | with_reducible apply State.wrBit_keeps hC
    | with_reducible apply Keeps.wr
    | with_reducible apply Keeps.setReg
    | with_reducible apply Keeps.foldl
    | split
    | intro _
    | (with_reducible apply Keeps.lit <;> with_reducible first | rfl | assumption | exact fun _ h => h | exact fun _ _ => rfl | exact fun _ => rfl | exact fun h => h.elim)

theorem Keeps.getD {o : Option State} {s : State} (h : ∀ x ∈ o, Keeps noFld False H u₀ x)
    (hk : Keeps noFld False H u₀ s) :
    Keeps noFld False H u₀ (o.getD s) := by
  cases o with
  | none => exact hk
  | some x => exact h x rfl

/-- A change that is made only outside HELD. -/
theorem Keeps.outside {s t : State}
    (hk : Keeps noFld False H u₀ s) (hs : s.base ≠ .held) (h : Keeps noFld False False s t) :
    Keeps noFld False H u₀ t :=
  hk.trans ⟨h.regs, h.pending, h.part, h.clock, h.otp, fun _ e => absurd e hs, h.deep, h.mem, h.canon⟩

theorem resetWords_wf : Store.wf (0 : Word) resetWords = true := by decide +kernel

theorem State.readMem_keeps (hC : Settles noFld) {s : State} {m : Ram} {a : Nat} {len : Nat} (hk : Keeps noFld False H u₀ s) :
    Keeps noFld False H u₀ (s.readMem m a len).1 := by
  unfold State.readMem
  repeat' first
    | with_reducible assumption
    | (extract_lets +onlyGivenNames x; first | (refine (have hx : Keeps noFld False H u₀ x := ?_; ?_); subst x; rotate_left; clear_value x) | subst x)
    | with_reducible exact noFld_apart _
    | with_reducible exact noFld_ne _
    | with_reducible apply State.checkWord_keeps hC
    | with_reducible apply Keeps.wr
    | with_reducible apply Keeps.setReg
    | with_reducible apply Keeps.foldl
    | split
    | intro _
    | (with_reducible apply Keeps.lit <;> with_reducible first | rfl | assumption | exact fun _ h => h | exact fun _ _ => rfl | exact fun _ => rfl | exact fun h => h.elim)

theorem State.readMem_of (hC : Settles noFld) {s : State} {m : Ram} {a : Nat} {len : Nat} {x₁ : State} {y0 : List Nat} (he : (s.readMem m a len) = (x₁, y0))
    (hk : Keeps noFld False H u₀ s) : Keeps noFld False H u₀ x₁ := by
  have hr : Keeps noFld False H u₀ (s.readMem m a len).1 := State.readMem_keeps hC hk
  rw [he] at hr
  exact hr

theorem Keeps.setFlash {s : State} {a : Nat} {v : Byte} (hk : Keeps noFld False H u₀ s) :
    Keeps noFld False H u₀ { s with flash := Store.set 0xFF s.flash a v } :=
  hk.trans ⟨fun _ h => h.elim, rfl, rfl, rfl, Otp.grown_refl _, fun _ e => e, fun h => h.elim, fun h => h.elim,
    fun ⟨a, b, c, d, e⟩ => ⟨a, b, c, Store.wf_set _ _ _ _ d, e⟩⟩

theorem State.flashProgram_keeps (hC : Settles noFld) {s : State} {a : Nat} {l : List Nat}
    (hk : Keeps noFld False H u₀ s) : Keeps noFld False H u₀ (s.flashProgram a l) := by
  induction l generalizing s a with
  | nil => exact hk
  | cons b l ih => exact ih (Keeps.setFlash hk)

theorem State.flashRead_keeps (hC : Settles noFld) {s : State} (hk : Keeps noFld False H u₀ s) :
    Keeps noFld False H u₀ (s.flashRead) := by
  unfold State.flashRead
  repeat' first
    | with_reducible assumption
    | (extract_lets +onlyGivenNames x; first | (refine (have hx : Keeps noFld False H u₀ x := ?_; ?_); subst x; rotate_left; clear_value x) | subst x)
    | with_reducible exact noFld_apart _
    | with_reducible exact noFld_ne _
    | with_reducible apply State.bump_keeps hC
    | with_reducible apply Keeps.wr
    | with_reducible apply Keeps.setReg
    | with_reducible apply Keeps.foldl
    | split
    | intro _
    | (with_reducible apply Keeps.lit <;> with_reducible first | rfl | assumption | exact fun _ h => h | exact fun _ _ => rfl | exact fun _ => rfl | exact fun h => h.elim)



theorem State.flashErase_keeps (hC : Settles noFld) {s : State} {a len : Nat} (hk : Keeps noFld False H u₀ s) :
    Keeps noFld False H u₀ (s.flashErase a len) :=
  hk.trans ⟨fun _ h => h.elim, rfl, rfl, rfl, Otp.grown_refl _, fun _ e => e, fun h => h.elim, fun h => h.elim,
    fun ⟨a, b, c, d, e⟩ => ⟨a, b, c, Store.wfFrom_filter _ _ _ _ d, e⟩⟩

theorem State.bufferRecord_keeps (hC : Settles noFld) {s : State} {ty : Nat} {payload : List Nat} (hk : Keeps noFld False H u₀ s) :
    Keeps noFld False H u₀ (s.bufferRecord ty payload) := by
  unfold State.bufferRecord
  repeat' first
    | with_reducible assumption
    | (extract_lets +onlyGivenNames x; first | (refine (have hx : Keeps noFld False H u₀ x := ?_; ?_); subst x; rotate_left; clear_value x) | subst x)
    | with_reducible exact noFld_apart _
    | with_reducible exact noFld_ne _
    | with_reducible apply State.bump_keeps hC
    | with_reducible apply Keeps.wr
    | with_reducible apply Keeps.setReg
    | with_reducible apply Keeps.foldl
    | split
    | intro _
    | (with_reducible apply Keeps.lit <;> with_reducible first | rfl | assumption | exact fun _ h => h | exact fun _ _ => rfl | exact fun _ => rfl | exact fun h => h.elim)

theorem State.recordFault_keeps (hC : Settles noFld) {s : State} {code : Nat} {p1 : Nat} {p2 : Nat} (hk : Keeps noFld False H u₀ s) :
    Keeps noFld False H u₀ (s.recordFault code p1 p2) := by
  unfold State.recordFault
  repeat' first
    | with_reducible assumption
    | (extract_lets +onlyGivenNames x; first | (refine (have hx : Keeps noFld False H u₀ x := ?_; ?_); subst x; rotate_left; clear_value x) | subst x)
    | with_reducible exact noFld_apart _
    | with_reducible exact noFld_ne _
    | with_reducible apply State.bufferRecord_keeps hC
    | with_reducible apply State.bump_keeps hC
    | with_reducible apply Keeps.wr
    | with_reducible apply Keeps.setReg
    | with_reducible apply Keeps.foldl
    | split
    | intro _
    | (with_reducible apply Keeps.lit <;> with_reducible first | rfl | assumption | exact fun _ h => h | exact fun _ _ => rfl | exact fun _ => rfl | exact fun h => h.elim)

theorem State.addFault_keeps (hC : Settles noFld) {s : State} {code : Nat} {p1 : Nat} {p2 : Nat} (hk : Keeps noFld False H u₀ s) :
    Keeps noFld False H u₀ (s.addFault code p1 p2) := by
  unfold State.addFault
  repeat' first
    | with_reducible assumption
    | (extract_lets +onlyGivenNames x; first | (refine (have hx : Keeps noFld False H u₀ x := ?_; ?_); subst x; rotate_left; clear_value x) | subst x)
    | with_reducible exact noFld_apart _
    | with_reducible exact noFld_ne _
    | with_reducible apply State.recordFault_keeps hC
    | with_reducible apply State.vec_keeps hC
    | with_reducible apply Keeps.wr
    | with_reducible apply Keeps.setReg
    | with_reducible apply Keeps.foldl
    | split
    | intro _
    | (with_reducible apply Keeps.lit <;> with_reducible first | rfl | assumption | exact fun _ h => h | exact fun _ _ => rfl | exact fun _ => rfl | exact fun h => h.elim)

theorem State.clearFault_keeps (hC : Settles noFld) {s : State} {code : Nat} (hk : Keeps noFld False H u₀ s) :
    Keeps noFld False H u₀ (s.clearFault code) := by
  unfold State.clearFault
  repeat' first
    | with_reducible assumption
    | (extract_lets +onlyGivenNames x; first | (refine (have hx : Keeps noFld False H u₀ x := ?_; ?_); subst x; rotate_left; clear_value x) | subst x)
    | with_reducible exact noFld_apart _
    | with_reducible exact noFld_ne _
    | with_reducible apply Keeps.wr
    | with_reducible apply Keeps.setReg
    | with_reducible apply Keeps.foldl
    | split
    | intro _
    | (with_reducible apply Keeps.lit <;> with_reducible first | rfl | assumption | exact fun _ h => h | exact fun _ _ => rfl | exact fun _ => rfl | exact fun h => h.elim)

theorem State.wind_keeps (hC : Settles noFld) {s : State} {adv : Rat} (hk : Keeps noFld False H u₀ s) :
    Keeps noFld False H u₀ (s.wind adv) := by
  unfold State.wind
  repeat' first
    | with_reducible assumption
    | (extract_lets +onlyGivenNames x; first | (refine (have hx : Keeps noFld False H u₀ x := ?_; ?_); subst x; rotate_left; clear_value x) | subst x)
    | with_reducible exact noFld_apart _
    | with_reducible exact noFld_ne _
    | with_reducible apply State.setFeed_keeps hC
    | with_reducible apply Keeps.wr
    | with_reducible apply Keeps.setReg
    | with_reducible apply Keeps.foldl
    | split
    | intro _
    | (with_reducible apply Keeps.lit <;> with_reducible first | rfl | assumption | exact fun _ h => h | exact fun _ _ => rfl | exact fun _ => rfl | exact fun h => h.elim)

theorem State.feedTo_keeps (hC : Settles noFld) {s : State} {target : Int} {limit : Nat} (hk : Keeps noFld False H u₀ s) :
    Keeps noFld False H u₀ (s.feedTo target limit) := by
  unfold State.feedTo
  repeat' first
    | with_reducible assumption
    | (extract_lets +onlyGivenNames x; first | (refine (have hx : Keeps noFld False H u₀ x := ?_; ?_); subst x; rotate_left; clear_value x) | subst x)
    | with_reducible exact noFld_apart _
    | with_reducible exact noFld_ne _
    | with_reducible apply State.feedGo_keeps hC
    | with_reducible apply State.limit_keeps hC
    | with_reducible apply State.setFeed_keeps hC
    | with_reducible apply State.start_keeps hC
    | with_reducible apply Keeps.wr
    | with_reducible apply Keeps.setReg
    | with_reducible apply Keeps.foldl
    | split
    | intro _
    | (with_reducible apply Keeps.lit <;> with_reducible first | rfl | assumption | exact fun _ h => h | exact fun _ _ => rfl | exact fun _ => rfl | exact fun h => h.elim)

theorem State.auxPull_keeps (hC : Settles noFld) {s : State} (hk : Keeps noFld False H u₀ s) :
    Keeps noFld False H u₀ (s.auxPull) := by
  unfold State.auxPull
  repeat' first
    | with_reducible assumption
    | (extract_lets +onlyGivenNames x; first | (refine (have hx : Keeps noFld False H u₀ x := ?_; ?_); subst x; rotate_left; clear_value x) | subst x)
    | with_reducible exact noFld_apart _
    | with_reducible exact noFld_ne _
    | with_reducible apply State.setFeed_keeps hC
    | with_reducible apply Keeps.wr
    | with_reducible apply Keeps.setReg
    | with_reducible apply Keeps.foldl
    | split
    | intro _
    | (with_reducible apply Keeps.lit <;> with_reducible first | rfl | assumption | exact fun _ h => h | exact fun _ _ => rfl | exact fun _ => rfl | exact fun h => h.elim)

theorem State.auxOff_keeps (hC : Settles noFld) {s : State} (hk : Keeps noFld False H u₀ s) :
    Keeps noFld False H u₀ (s.auxOff) := by
  unfold State.auxOff
  repeat' first
    | with_reducible assumption
    | (extract_lets +onlyGivenNames x; first | (refine (have hx : Keeps noFld False H u₀ x := ?_; ?_); subst x; rotate_left; clear_value x) | subst x)
    | with_reducible exact noFld_apart _
    | with_reducible exact noFld_ne _
    | with_reducible apply State.setFeed_keeps hC
    | with_reducible apply Keeps.wr
    | with_reducible apply Keeps.setReg
    | with_reducible apply Keeps.foldl
    | split
    | intro _
    | (with_reducible apply Keeps.lit <;> with_reducible first | rfl | assumption | exact fun _ h => h | exact fun _ _ => rfl | exact fun _ => rfl | exact fun h => h.elim)

theorem State.printIdle_keeps (hC : Settles noFld) {s : State} (hk : Keeps noFld False H u₀ s) :
    Keeps noFld False H u₀ (s.printIdle) := by
  unfold State.printIdle
  repeat' first
    | with_reducible assumption
    | (extract_lets +onlyGivenNames x; first | (refine (have hx : Keeps noFld False H u₀ x := ?_; ?_); subst x; rotate_left; clear_value x) | subst x)
    | with_reducible exact noFld_apart _
    | with_reducible exact noFld_ne _
    | with_reducible apply Keeps.wr
    | with_reducible apply Keeps.setReg
    | with_reducible apply Keeps.foldl
    | split
    | intro _
    | (with_reducible apply Keeps.lit <;> with_reducible first | rfl | assumption | exact fun _ h => h | exact fun _ _ => rfl | exact fun _ => rfl | exact fun h => h.elim)

theorem State.abandonRecheck_keeps (hC : Settles noFld) {s : State} (hk : Keeps noFld False H u₀ s) :
    Keeps noFld False H u₀ (s.abandonRecheck) := by
  unfold State.abandonRecheck
  repeat' first
    | with_reducible assumption
    | (extract_lets +onlyGivenNames x; first | (refine (have hx : Keeps noFld False H u₀ x := ?_; ?_); subst x; rotate_left; clear_value x) | subst x)
    | with_reducible exact noFld_apart _
    | with_reducible exact noFld_ne _
    | with_reducible apply State.evt_keeps hC
    | with_reducible apply State.printIdle_keeps hC
    | with_reducible apply State.setPrint_keeps hC
    | with_reducible apply Keeps.wr
    | with_reducible apply Keeps.setReg
    | with_reducible apply Keeps.foldl
    | split
    | intro _
    | (with_reducible apply Keeps.lit <;> with_reducible first | rfl | assumption | exact fun _ h => h | exact fun _ _ => rfl | exact fun _ => rfl | exact fun h => h.elim)

theorem State.pausePrint_keeps (hC : Settles noFld) {s : State} (hk : Keeps noFld False H u₀ s) :
    Keeps noFld False H u₀ (s.pausePrint) := by
  unfold State.pausePrint
  repeat' first
    | with_reducible assumption
    | (extract_lets +onlyGivenNames x; first | (refine (have hx : Keeps noFld False H u₀ x := ?_; ?_); subst x; rotate_left; clear_value x) | subst x)
    | with_reducible exact noFld_apart _
    | with_reducible exact noFld_ne _
    | with_reducible apply State.feedStop_keeps hC
    | with_reducible apply State.modJob_keeps hC
    | with_reducible apply State.quiet_keeps hC
    | with_reducible apply State.recPut_keeps hC (fun h => h.elim)
    | with_reducible apply Keeps.wr
    | with_reducible apply Keeps.setReg
    | with_reducible apply Keeps.foldl
    | split
    | intro _
    | (with_reducible apply Keeps.lit <;> with_reducible first | rfl | assumption | exact fun _ h => h | exact fun _ _ => rfl | exact fun _ => rfl | exact fun h => h.elim)

theorem State.cutZ_keeps (hC : Settles noFld) {s : State} (hk : Keeps noFld False H u₀ s) :
    Keeps noFld False H u₀ (s.cutZ) := by
  unfold State.cutZ
  repeat' first
    | with_reducible assumption
    | (extract_lets +onlyGivenNames x; first | (refine (have hx : Keeps noFld False H u₀ x := ?_; ?_); subst x; rotate_left; clear_value x) | subst x)
    | with_reducible exact noFld_apart _
    | with_reducible exact noFld_ne _
    | with_reducible apply State.loopOff_keeps hC
    | with_reducible apply State.setCut_keeps hC
    | with_reducible apply Keeps.wr
    | with_reducible apply Keeps.setReg
    | with_reducible apply Keeps.foldl
    | split
    | intro _
    | (with_reducible apply Keeps.lit <;> with_reducible first | rfl | assumption | exact fun _ h => h | exact fun _ _ => rfl | exact fun _ => rfl | exact fun h => h.elim)

theorem State.feedHold_keeps (hC : Settles noFld) {s : State} (hk : Keeps noFld False H u₀ s) :
    Keeps noFld False H u₀ (s.feedHold) := by
  unfold State.feedHold
  repeat' first
    | with_reducible assumption
    | (extract_lets +onlyGivenNames x; first | (refine (have hx : Keeps noFld False H u₀ x := ?_; ?_); subst x; rotate_left; clear_value x) | subst x)
    | with_reducible exact noFld_apart _
    | with_reducible exact noFld_ne _
    | with_reducible apply State.loopOn_keeps hC
    | with_reducible apply State.motorHb_keeps hC
    | with_reducible apply State.setFeed_keeps hC
    | with_reducible apply State.wind_keeps hC
    | with_reducible apply Keeps.wr
    | with_reducible apply Keeps.setReg
    | with_reducible apply Keeps.foldl
    | split
    | intro _
    | (with_reducible apply Keeps.lit <;> with_reducible first | rfl | assumption | exact fun _ h => h | exact fun _ _ => rfl | exact fun _ => rfl | exact fun h => h.elim)

theorem State.afterRest_keeps (hC : Settles noFld) {s : State} (hk : Keeps noFld False H u₀ s) :
    Keeps noFld False H u₀ (s.afterRest) := by
  unfold State.afterRest
  repeat' first
    | with_reducible assumption
    | (extract_lets +onlyGivenNames x; first | (refine (have hx : Keeps noFld False H u₀ x := ?_; ?_); subst x; rotate_left; clear_value x) | subst x)
    | with_reducible exact noFld_apart _
    | with_reducible exact noFld_ne _
    | with_reducible apply State.complete_keeps hC
    | with_reducible apply State.endTorn_keeps hC
    | with_reducible apply State.receiptOut_keeps hC
    | with_reducible apply State.setFeed_keeps hC
    | with_reducible apply State.start_keeps hC
    | with_reducible apply Keeps.wr
    | with_reducible apply Keeps.setReg
    | with_reducible apply Keeps.foldl
    | split
    | intro _
    | (with_reducible apply Keeps.lit <;> with_reducible first | rfl | assumption | exact fun _ h => h | exact fun _ _ => rfl | exact fun _ => rfl | exact fun h => h.elim)

theorem State.modChan_keeps (hC : Settles noFld) {s : State} {k : Nat} {f : Chan → Chan} (hk : Keeps noFld False H u₀ s) :
    Keeps noFld False H u₀ (s.modChan k f) := by
  unfold State.modChan
  repeat' first
    | with_reducible assumption
    | (extract_lets +onlyGivenNames x; first | (refine (have hx : Keeps noFld False H u₀ x := ?_; ?_); subst x; rotate_left; clear_value x) | subst x)
    | with_reducible exact noFld_apart _
    | with_reducible exact noFld_ne _
    | with_reducible apply Keeps.wr
    | with_reducible apply Keeps.setReg
    | with_reducible apply Keeps.foldl
    | split
    | intro _
    | (with_reducible apply Keeps.lit <;> with_reducible first | rfl | assumption | exact fun _ h => h | exact fun _ _ => rfl | exact fun _ => rfl | exact fun h => h.elim)

theorem State.poisonWord_keeps (hC : Settles noFld) {s : State} {w : Nat} (hk : Keeps noFld False H u₀ s) :
    Keeps noFld False H u₀ (s.poisonWord w) := by
  unfold State.poisonWord
  repeat' first
    | with_reducible assumption
    | (extract_lets +onlyGivenNames x; first | (refine (have hx : Keeps noFld False H u₀ x := ?_; ?_); subst x; rotate_left; clear_value x) | subst x)
    | with_reducible exact noFld_apart _
    | with_reducible exact noFld_ne _
    | with_reducible apply State.bump_keeps hC
    | with_reducible apply Keeps.wr
    | with_reducible apply Keeps.setReg
    | with_reducible apply Keeps.foldl
    | split
    | intro _
    | (with_reducible apply Keeps.lit <;> with_reducible first | rfl | assumption | exact fun _ h => h | exact fun _ _ => rfl | exact fun _ => rfl | exact fun h => h.elim)

theorem Xfer.piece_keeps (hC : Settles noFld) {x : Xfer} {d : Desc} {b : Bool} {src dst : Nat} {p : Nat × Nat}
    (hk : Keeps noFld False H u₀ x.s) : Keeps noFld False H u₀ (x.piece d b src dst p).s := by
  unfold Xfer.piece
  split
  · exact hk
  · split
    next o n =>
    extract_lets a e rd w
    have he : Keeps noFld False H u₀ e := hk
    clear_value e
    have hr : Keeps noFld False H u₀ rd.1 := by
      unfold rd
      split
      · exact hk
      · exact hk
      · refine Keeps.foldl _ (fun s x h => State.checkWord_keeps hC h) ?_
        exact he.same rfl rfl rfl rfl rfl rfl (fun h => h.elim) rfl rfl rfl rfl rfl
    clear_value rd
    split
    next s bs bad =>
    have hs : Keeps noFld False H u₀ s := hr
    extract_lets dstBad s₁ s₂
    have h₁ : Keeps noFld False H u₀ s₁ := State.checkWord_keeps hC hs
    have h₂ : Keeps noFld False H u₀ s₂ := State.writeWord_keeps hC (fun h => h.elim) hs
    split
    · exact hs
    · split
      · split
        · exact State.poisonWord_keeps hC h₁
        · exact h₁
      · split
        · exact State.poisonWord_keeps hC h₂
        · exact h₂

theorem Xfer.burst_keeps (hC : Settles noFld) {x : Xfer} {d : Desc} {b : Bool} {line src dst : Nat} {l : List (Nat × Nat)}
    (hk : Keeps noFld False H u₀ x.s) : Keeps noFld False H u₀ (x.burst d b line src dst l).s := by
  unfold Xfer.burst
  split
  · exact hk
  · extract_lets y o n z
    have hy : Keeps noFld False H u₀ y.s := hk
    split
    · exact hy
    · split
      · exact hy
      · have hz : Keeps noFld False H u₀ z.s := by
          unfold z
          split
          · exact State.flashRead_keeps hC hy
          · exact hy
        clear_value z
        have h : ∀ (l : List (Nat × Nat)) (y : Xfer), Keeps noFld False H u₀ y.s →
            Keeps noFld False H u₀ (l.foldl (fun x p => x.piece d b src dst p) y).s := by
          intro l
          induction l with
          | nil => exact fun _ h => h
          | cons p l ih => exact fun y hy => ih _ (Xfer.piece_keeps hC hy)
        exact h l z hz

theorem Xfer.copyLine_keeps (hC : Settles noFld) {x : Xfer} {d : Desc} {b : Bool} {i : Nat}
    (hk : Keeps noFld False H u₀ x.s) : Keeps noFld False H u₀ (x.copyLine d b i).s := by
  unfold Xfer.copyLine
  extract_lets src dst
  generalize groups4 (linePieces dst d.len) = l
  induction l generalizing x with
  | nil => exact hk
  | cons p l ih => exact ih (Xfer.burst_keeps hC hk)

theorem State.transfer_keeps (hC : Settles noFld) {s : State} {d : Desc} {b : Bool} {n : Nat}
    (hk : Keeps noFld False H u₀ s) : Keeps noFld False H u₀ (s.transfer d b n).s := by
  unfold State.transfer
  have hx : Keeps noFld False H u₀ ({ s := s, left := n } : Xfer).s := hk
  generalize ({ s := s, left := n } : Xfer) = x at hx
  generalize List.range d.count = l
  induction l generalizing x with
  | nil => exact hx
  | cons p l ih => exact ih _ (Xfer.copyLine_keeps hC hx)

theorem State.runBursts_keeps (hC : Settles noFld) {s : State} {k n : Nat} (hk : Keeps noFld False H u₀ s) :
    Keeps noFld False H u₀ (s.runBursts k n).1 := by
  unfold State.runBursts
  extract_lets c x cur t t₂
  have ht : Keeps noFld False H u₀ t := State.modChan_keeps hC (Keeps.wr (noFld_apart _) (State.transfer_keeps hC hk))
  clear_value t
  show Keeps noFld False H u₀ t₂
  unfold t₂
  split
  · split
    · exact Keeps.wr (noFld_apart _) (Keeps.wr (noFld_apart _) ht)
    · exact ht
  · exact ht

theorem State.runBursts_of (hC : Settles noFld) {s : State} {k : Nat} {bursts : Nat} {x₁ : State} {y0 : Option (Nat × Nat)} (he : (s.runBursts k bursts) = (x₁, y0))
    (hk : Keeps noFld False H u₀ s) : Keeps noFld False H u₀ x₁ := by
  have hr : Keeps noFld False H u₀ (s.runBursts k bursts).1 := State.runBursts_keeps hC hk
  rw [he] at hr
  exact hr

theorem State.interrupt_keeps (hC : Settles noFld) {s : State} {k : Nat} (hk : Keeps noFld False H u₀ s) :
    Keeps noFld False H u₀ (s.interrupt k) := by
  unfold State.interrupt
  repeat' first
    | with_reducible assumption
    | (extract_lets +onlyGivenNames x; first | (refine (have hx : Keeps noFld False H u₀ x := ?_; ?_); subst x; rotate_left; clear_value x) | subst x)
    | with_reducible exact noFld_apart _
    | with_reducible exact noFld_ne _
    | with_reducible apply Keeps.openWord
    | with_reducible refine State.runBursts_of hC (by with_reducible assumption) ?_
    | with_reducible apply State.runBursts_keeps hC
    | with_reducible apply Keeps.wr
    | with_reducible apply Keeps.setReg
    | with_reducible apply Keeps.foldl
    | split
    | intro _
    | (with_reducible apply Keeps.lit <;> with_reducible first | rfl | assumption | exact fun _ h => h | exact fun _ _ => rfl | exact fun _ => rfl | exact fun h => h.elim)

theorem State.interruptAll_keeps (hC : Settles noFld) {s : State} (hk : Keeps noFld False H u₀ s) :
    Keeps noFld False H u₀ (s.interruptAll) := by
  unfold State.interruptAll
  repeat' first
    | with_reducible assumption
    | (extract_lets +onlyGivenNames x; first | (refine (have hx : Keeps noFld False H u₀ x := ?_; ?_); subst x; rotate_left; clear_value x) | subst x)
    | with_reducible exact noFld_apart _
    | with_reducible exact noFld_ne _
    | with_reducible apply State.interrupt_keeps hC
    | with_reducible apply Keeps.wr
    | with_reducible apply Keeps.setReg
    | with_reducible apply Keeps.foldl
    | split
    | intro _
    | (with_reducible apply Keeps.lit <;> with_reducible first | rfl | assumption | exact fun _ h => h | exact fun _ _ => rfl | exact fun _ => rfl | exact fun h => h.elim)

theorem State.setVid_keeps (hC : Settles noFld) {s : State} {f : Vid → Vid} (hk : Keeps noFld False H u₀ s) :
    Keeps noFld False H u₀ (s.setVid f) := by
  unfold State.setVid
  repeat' first
    | with_reducible assumption
    | (extract_lets +onlyGivenNames x; first | (refine (have hx : Keeps noFld False H u₀ x := ?_; ?_); subst x; rotate_left; clear_value x) | subst x)
    | with_reducible exact noFld_apart _
    | with_reducible exact noFld_ne _
    | with_reducible apply Keeps.wr
    | with_reducible apply Keeps.setReg
    | with_reducible apply Keeps.foldl
    | split
    | intro _
    | (with_reducible apply Keeps.lit <;> with_reducible first | rfl | assumption | exact fun _ h => h | exact fun _ _ => rfl | exact fun _ => rfl | exact fun h => h.elim)

theorem State.setScan_keeps (hC : Settles noFld) {s : State} {f : ScanSt → ScanSt} (hk : Keeps noFld False H u₀ s) :
    Keeps noFld False H u₀ (s.setScan f) := by
  unfold State.setScan
  repeat' first
    | with_reducible assumption
    | (extract_lets +onlyGivenNames x; first | (refine (have hx : Keeps noFld False H u₀ x := ?_; ?_); subst x; rotate_left; clear_value x) | subst x)
    | with_reducible exact noFld_apart _
    | with_reducible exact noFld_ne _
    | with_reducible apply Keeps.wr
    | with_reducible apply Keeps.setReg
    | with_reducible apply Keeps.foldl
    | split
    | intro _
    | (with_reducible apply Keeps.lit <;> with_reducible first | rfl | assumption | exact fun _ h => h | exact fun _ _ => rfl | exact fun _ => rfl | exact fun h => h.elim)

theorem State.openBytes_keeps (hC : Settles noFld) {s : State} {n : Nat} (hk : Keeps noFld False H u₀ s) :
    Keeps noFld False H u₀ (s.openBytes n).1 := by
  unfold State.openBytes
  repeat' first
    | with_reducible assumption
    | (extract_lets +onlyGivenNames x; first | (refine (have hx : Keeps noFld False H u₀ x := ?_; ?_); subst x; rotate_left; clear_value x) | subst x)
    | with_reducible exact noFld_apart _
    | with_reducible exact noFld_ne _
    | with_reducible apply Keeps.fresh
    | with_reducible apply Keeps.wr
    | with_reducible apply Keeps.setReg
    | with_reducible apply Keeps.foldl
    | split
    | intro _
    | (with_reducible apply Keeps.lit <;> with_reducible first | rfl | assumption | exact fun _ h => h | exact fun _ _ => rfl | exact fun _ => rfl | exact fun h => h.elim)

theorem State.openBytes_of (hC : Settles noFld) {s : State} {n : Nat} {x₁ : State} {y0 : List Nat} (he : (s.openBytes n) = (x₁, y0))
    (hk : Keeps noFld False H u₀ s) : Keeps noFld False H u₀ x₁ := by
  have hr : Keeps noFld False H u₀ (s.openBytes n).1 := State.openBytes_keeps hC hk
  rw [he] at hr
  exact hr

theorem State.encAbandon_keeps (hC : Settles noFld) {s : State} (hk : Keeps noFld False H u₀ s) :
    Keeps noFld False H u₀ (s.encAbandon) := by
  unfold State.encAbandon
  repeat' first
    | with_reducible assumption
    | (extract_lets +onlyGivenNames x; first | (refine (have hx : Keeps noFld False H u₀ x := ?_; ?_); subst x; rotate_left; clear_value x) | subst x)
    | with_reducible exact noFld_apart _
    | with_reducible exact noFld_ne _
    | with_reducible apply State.setEnc_keeps hC
    | with_reducible apply Keeps.wr
    | with_reducible apply Keeps.setReg
    | with_reducible apply Keeps.foldl
    | split
    | intro _
    | (with_reducible apply Keeps.lit <;> with_reducible first | rfl | assumption | exact fun _ h => h | exact fun _ _ => rfl | exact fun _ => rfl | exact fun h => h.elim)

theorem State.bridgesZ_keeps (hC : Settles noFld) {s : State} (hk : Keeps noFld False H u₀ s) :
    Keeps noFld False H u₀ (s.bridgesZ) := by
  unfold State.bridgesZ
  repeat' first
    | with_reducible assumption
    | (extract_lets +onlyGivenNames x; first | (refine (have hx : Keeps noFld False H u₀ x := ?_; ?_); subst x; rotate_left; clear_value x) | subst x)
    | with_reducible exact noFld_apart _
    | with_reducible exact noFld_ne _
    | with_reducible apply State.setCut_keeps hC
    | with_reducible apply State.setFeed_keeps hC
    | with_reducible apply Keeps.wr
    | with_reducible apply Keeps.setReg
    | with_reducible apply Keeps.foldl
    | split
    | intro _
    | (with_reducible apply Keeps.lit <;> with_reducible first | rfl | assumption | exact fun _ h => h | exact fun _ _ => rfl | exact fun _ => rfl | exact fun h => h.elim)

theorem State.heldBridges_keeps (hC : Settles noFld) {s : State} {z : Bool} (hk : Keeps noFld False H u₀ s) :
    Keeps noFld False H u₀ (s.heldBridges z) := by
  unfold State.heldBridges
  repeat' first
    | with_reducible assumption
    | (extract_lets +onlyGivenNames x; first | (refine (have hx : Keeps noFld False H u₀ x := ?_; ?_); subst x; rotate_left; clear_value x) | subst x)
    | with_reducible exact noFld_apart _
    | with_reducible exact noFld_ne _
    | with_reducible apply State.bridgesZ_keeps hC
    | with_reducible apply State.feedCut_keeps hC
    | with_reducible apply State.loopOff_keeps hC
    | with_reducible apply State.setCut_keeps hC
    | with_reducible apply State.setFeed_keeps hC
    | with_reducible apply Keeps.wr
    | with_reducible apply Keeps.setReg
    | with_reducible apply Keeps.foldl
    | split
    | intro _
    | (with_reducible apply Keeps.lit <;> with_reducible first | rfl | assumption | exact fun _ h => h | exact fun _ _ => rfl | exact fun _ => rfl | exact fun h => h.elim)

theorem State.heldWork_keeps (hC : Settles noFld) {s : State} (hk : Keeps noFld False H u₀ s) :
    Keeps noFld False H u₀ (s.heldWork) := by
  unfold State.heldWork
  repeat' first
    | with_reducible assumption
    | (extract_lets +onlyGivenNames x; first | (refine (have hx : Keeps noFld False H u₀ x := ?_; ?_); subst x; rotate_left; clear_value x) | subst x)
    | with_reducible exact noFld_apart _
    | with_reducible exact noFld_ne _
    | with_reducible apply State.abandonRecheck_keeps hC
    | with_reducible apply State.complete_keeps hC
    | with_reducible apply State.cutEnd_keeps hC
    | with_reducible apply State.endCheck_keeps hC
    | with_reducible apply State.endOpen_keeps hC
    | with_reducible apply State.endReceipt_keeps hC
    | with_reducible apply State.setCut_keeps hC
    | with_reducible apply State.setFeed_keeps hC
    | with_reducible apply State.setPrint_keeps hC
    | with_reducible apply State.tear_keeps hC
    | with_reducible apply Keeps.wr
    | with_reducible apply Keeps.setReg
    | with_reducible apply Keeps.foldl
    | split
    | intro _
    | (with_reducible apply Keeps.lit <;> with_reducible first | rfl | assumption | exact fun _ h => h | exact fun _ _ => rfl | exact fun _ => rfl | exact fun h => h.elim)

theorem State.enterHeld_keeps (hC : Settles noFld) {s : State} {code : Nat} (hk : Keeps noFld False H u₀ s) :
    Keeps noFld False H u₀ (s.enterHeld code) := by
  unfold State.enterHeld
  repeat' first
    | with_reducible assumption
    | (extract_lets +onlyGivenNames x; first | (refine (have hx : Keeps noFld False H u₀ x := ?_; ?_); subst x; rotate_left; clear_value x) | subst x)
    | with_reducible exact noFld_apart _
    | with_reducible exact noFld_ne _
    | with_reducible apply State.afterRest_keeps hC
    | with_reducible apply State.bump_keeps hC
    | with_reducible apply State.heldBridges_keeps hC
    | with_reducible apply State.heldWork_keeps hC
    | with_reducible apply State.quiet_keeps hC
    | with_reducible apply State.rodVec_keeps hC
    | with_reducible apply State.vhStop_keeps hC
    | with_reducible apply Keeps.wr
    | with_reducible apply Keeps.setReg
    | with_reducible apply Keeps.foldl
    | split
    | intro _
    | (with_reducible apply Keeps.lit <;> with_reducible first | rfl | assumption | exact fun _ h => h | exact fun _ _ => rfl | exact fun _ => rfl | exact fun h => h.elim)

theorem State.faultMark_keeps (hC : Settles noFld) {s : State} {code : Nat} (hk : Keeps noFld False H u₀ s) :
    Keeps noFld False H u₀ (s.faultMark code) := by
  unfold State.faultMark
  repeat' first
    | with_reducible assumption
    | (extract_lets +onlyGivenNames x; first | (refine (have hx : Keeps noFld False H u₀ x := ?_; ?_); subst x; rotate_left; clear_value x) | subst x)
    | with_reducible exact noFld_apart _
    | with_reducible exact noFld_ne _
    | with_reducible apply State.markReset_keeps hC
    | with_reducible apply Keeps.wr
    | with_reducible apply Keeps.setReg
    | with_reducible apply Keeps.foldl
    | split
    | intro _
    | (with_reducible apply Keeps.lit <;> with_reducible first | rfl | assumption | exact fun _ h => h | exact fun _ _ => rfl | exact fun _ => rfl | exact fun h => h.elim)

theorem State.raise_keeps (hC : Settles noFld) {s : State} {code : Nat} {p1 : Nat} {p2 : Nat} (hk : Keeps noFld False H u₀ s) :
    Keeps noFld False H u₀ (s.raise code p1 p2) := by
  unfold State.raise
  repeat' first
    | with_reducible assumption
    | (extract_lets +onlyGivenNames x; first | (refine (have hx : Keeps noFld False H u₀ x := ?_; ?_); subst x; rotate_left; clear_value x) | subst x)
    | with_reducible exact noFld_apart _
    | with_reducible exact noFld_ne _
    | with_reducible apply State.addFault_keeps hC
    | with_reducible apply State.bridgesZ_keeps hC
    | with_reducible apply State.enterHeld_keeps hC
    | with_reducible apply State.faultMark_keeps hC
    | with_reducible apply Keeps.wr
    | with_reducible apply Keeps.setReg
    | with_reducible apply Keeps.foldl
    | split
    | intro _
    | (with_reducible apply Keeps.lit <;> with_reducible first | rfl | assumption | exact fun _ h => h | exact fun _ _ => rfl | exact fun _ => rfl | exact fun h => h.elim)

theorem State.bankAccess_keeps (hC : Settles noFld) {s : State} {r : Rod} {a : Nat} {t : Nat} (hk : Keeps noFld False H u₀ s) :
    Keeps noFld False H u₀ (s.bankAccess r a t) := by
  unfold State.bankAccess
  repeat' first
    | with_reducible assumption
    | (extract_lets +onlyGivenNames x; first | (refine (have hx : Keeps noFld False H u₀ x := ?_; ?_); subst x; rotate_left; clear_value x) | subst x)
    | with_reducible exact noFld_apart _
    | with_reducible exact noFld_ne _
    | with_reducible apply State.endOpen_keeps hC
    | with_reducible apply State.raise_keeps hC
    | with_reducible apply Keeps.wr
    | with_reducible apply Keeps.setReg
    | with_reducible apply Keeps.foldl
    | split
    | intro _
    | (with_reducible apply Keeps.lit <;> with_reducible first | rfl | assumption | exact fun _ h => h | exact fun _ _ => rfl | exact fun _ => rfl | exact fun h => h.elim)

theorem State.refuseWrite_keeps (hC : Settles noFld) {s : State} {r : Rod} {a : Nat} {len : Nat} {t : Nat} (hk : Keeps noFld False H u₀ s) :
    Keeps noFld False H u₀ (s.refuseWrite r a len t) := by
  unfold State.refuseWrite
  repeat' first
    | with_reducible assumption
    | (extract_lets +onlyGivenNames x; first | (refine (have hx : Keeps noFld False H u₀ x := ?_; ?_); subst x; rotate_left; clear_value x) | subst x)
    | with_reducible exact noFld_apart _
    | with_reducible exact noFld_ne _
    | with_reducible apply State.bankAccess_keeps hC
    | with_reducible apply Keeps.wr
    | with_reducible apply Keeps.setReg
    | with_reducible apply Keeps.foldl
    | split
    | intro _
    | (with_reducible apply Keeps.lit <;> with_reducible first | rfl | assumption | exact fun _ h => h | exact fun _ _ => rfl | exact fun _ => rfl | exact fun h => h.elim)

theorem State.refuseRead_keeps (hC : Settles noFld) {s : State} {r : Rod} {a : Nat} {len : Nat} {t : Nat} (hk : Keeps noFld False H u₀ s) :
    Keeps noFld False H u₀ (s.refuseRead r a len t) := by
  unfold State.refuseRead
  repeat' first
    | with_reducible assumption
    | (extract_lets +onlyGivenNames x; first | (refine (have hx : Keeps noFld False H u₀ x := ?_; ?_); subst x; rotate_left; clear_value x) | subst x)
    | with_reducible exact noFld_apart _
    | with_reducible exact noFld_ne _
    | with_reducible apply State.bankAccess_keeps hC
    | with_reducible apply Keeps.wr
    | with_reducible apply Keeps.setReg
    | with_reducible apply Keeps.foldl
    | split
    | intro _
    | (with_reducible apply Keeps.lit <;> with_reducible first | rfl | assumption | exact fun _ h => h | exact fun _ _ => rfl | exact fun _ => rfl | exact fun h => h.elim)

theorem State.modSrc_keeps (hC : Settles noFld) {s : State} {i : Nat} {f : ThermSrc → ThermSrc} (hk : Keeps noFld False H u₀ s) :
    Keeps noFld False H u₀ (s.modSrc i f) := by
  unfold State.modSrc
  repeat' first
    | with_reducible assumption
    | (extract_lets +onlyGivenNames x; first | (refine (have hx : Keeps noFld False H u₀ x := ?_; ?_); subst x; rotate_left; clear_value x) | subst x)
    | with_reducible exact noFld_apart _
    | with_reducible exact noFld_ne _
    | with_reducible apply Keeps.wr
    | with_reducible apply Keeps.setReg
    | with_reducible apply Keeps.foldl
    | split
    | intro _
    | (with_reducible apply Keeps.lit <;> with_reducible first | rfl | assumption | exact fun _ h => h | exact fun _ _ => rfl | exact fun _ => rfl | exact fun h => h.elim)

theorem State.evalEntry_keeps (hC : Settles noFld) {s : State} {k : Nat} (hk : Keeps noFld False H u₀ s) :
    Keeps noFld False H u₀ (s.evalEntry k) := by
  unfold State.evalEntry
  repeat' first
    | with_reducible assumption
    | (extract_lets +onlyGivenNames x; first | (refine (have hx : Keeps noFld False H u₀ x := ?_; ?_); subst x; rotate_left; clear_value x) | subst x)
    | with_reducible exact noFld_apart _
    | with_reducible exact noFld_ne _
    | with_reducible apply Keeps.wr
    | with_reducible apply Keeps.setReg
    | with_reducible apply Keeps.foldl
    | split
    | intro _
    | (with_reducible apply Keeps.lit <;> with_reducible first | rfl | assumption | exact fun _ h => h | exact fun _ _ => rfl | exact fun _ => rfl | exact fun h => h.elim)

theorem State.actionChange_keeps (hC : Settles noFld) {s : State} {old : Nat} {new : Nat} {a : Nat} (hk : Keeps noFld False H u₀ s) :
    Keeps noFld False H u₀ (s.actionChange old new a) := by
  unfold State.actionChange
  repeat' first
    | with_reducible assumption
    | (extract_lets +onlyGivenNames x; first | (refine (have hx : Keeps noFld False H u₀ x := ?_; ?_); subst x; rotate_left; clear_value x) | subst x)
    | with_reducible exact noFld_apart _
    | with_reducible exact noFld_ne _
    | with_reducible apply Keeps.count
    | with_reducible apply State.evtBit_keeps hC
    | with_reducible apply State.rodVec_keeps hC
    | with_reducible apply State.wrBit_keeps hC
    | with_reducible apply Keeps.wr
    | with_reducible apply Keeps.setReg
    | with_reducible apply Keeps.foldl
    | split
    | intro _
    | (with_reducible apply Keeps.lit <;> with_reducible first | rfl | assumption | exact fun _ h => h | exact fun _ _ => rfl | exact fun _ => rfl | exact fun h => h.elim)

theorem State.episode_keeps (hC : Settles noFld) {s : State} {src : Nat} (hk : Keeps noFld False H u₀ s) :
    Keeps noFld False H u₀ (s.episode src) := by
  unfold State.episode
  repeat' first
    | with_reducible assumption
    | (extract_lets +onlyGivenNames x; first | (refine (have hx : Keeps noFld False H u₀ x := ?_; ?_); subst x; rotate_left; clear_value x) | subst x)
    | with_reducible exact noFld_apart _
    | with_reducible exact noFld_ne _
    | with_reducible apply State.bufferRecord_keeps hC
    | with_reducible apply State.modSrc_keeps hC
    | with_reducible apply Keeps.wr
    | with_reducible apply Keeps.setReg
    | with_reducible apply Keeps.foldl
    | split
    | intro _
    | (with_reducible apply Keeps.lit <;> with_reducible first | rfl | assumption | exact fun _ h => h | exact fun _ _ => rfl | exact fun _ => rfl | exact fun h => h.elim)

theorem State.thermEval_keeps (hC : Settles noFld) {s : State} {only : Nat → Bool} (hk : Keeps noFld False H u₀ s) :
    Keeps noFld False H u₀ (s.thermEval only) := by
  unfold State.thermEval
  repeat' first
    | with_reducible assumption
    | (extract_lets +onlyGivenNames x; first | (refine (have hx : Keeps noFld False H u₀ x := ?_; ?_); subst x; rotate_left; clear_value x) | subst x)
    | with_reducible exact noFld_apart _
    | with_reducible exact noFld_ne _
    | with_reducible apply State.actionChange_keeps hC
    | with_reducible apply State.episode_keeps hC
    | with_reducible apply State.evalEntry_keeps hC
    | with_reducible apply State.pausePrint_keeps hC
    | with_reducible apply State.raise_keeps hC
    | with_reducible apply Keeps.wr
    | with_reducible apply Keeps.setReg
    | with_reducible apply Keeps.foldl
    | split
    | intro _
    | (with_reducible apply Keeps.lit <;> with_reducible first | rfl | assumption | exact fun _ h => h | exact fun _ _ => rfl | exact fun _ => rfl | exact fun h => h.elim)

theorem State.thermNow_keeps (hC : Settles noFld) {s : State} {only : Nat → Bool} (hk : Keeps noFld False H u₀ s) :
    Keeps noFld False H u₀ (s.thermNow only) := by
  unfold State.thermNow
  repeat' first
    | with_reducible assumption
    | (extract_lets +onlyGivenNames x; first | (refine (have hx : Keeps noFld False H u₀ x := ?_; ?_); subst x; rotate_left; clear_value x) | subst x)
    | with_reducible exact noFld_apart _
    | with_reducible exact noFld_ne _
    | with_reducible apply State.thermEval_keeps hC
    | with_reducible apply Keeps.wr
    | with_reducible apply Keeps.setReg
    | with_reducible apply Keeps.foldl
    | split
    | intro _
    | (with_reducible apply Keeps.lit <;> with_reducible first | rfl | assumption | exact fun _ h => h | exact fun _ _ => rfl | exact fun _ => rfl | exact fun h => h.elim)

theorem State.tallyEval_keeps (hC : Settles noFld) {s : State} (hk : Keeps noFld False H u₀ s) :
    Keeps noFld False H u₀ (s.tallyEval).1 := by
  unfold State.tallyEval
  repeat' first
    | with_reducible assumption
    | (extract_lets +onlyGivenNames x; first | (refine (have hx : Keeps noFld False H u₀ x := ?_; ?_); subst x; rotate_left; clear_value x) | subst x)
    | with_reducible exact noFld_apart _
    | with_reducible exact noFld_ne _
    | with_reducible apply State.episode_keeps hC
    | with_reducible apply State.evalEntry_keeps hC
    | with_reducible apply Keeps.wr
    | with_reducible apply Keeps.setReg
    | with_reducible apply Keeps.foldl
    | split
    | intro _
    | (with_reducible apply Keeps.lit <;> with_reducible first | rfl | assumption | exact fun _ h => h | exact fun _ _ => rfl | exact fun _ => rfl | exact fun h => h.elim)

theorem State.tallyEval_of (hC : Settles noFld) {s : State} {x₁ : State} {y0 : Bool} (he : (s.tallyEval) = (x₁, y0))
    (hk : Keeps noFld False H u₀ s) : Keeps noFld False H u₀ x₁ := by
  have hr : Keeps noFld False H u₀ (s.tallyEval).1 := State.tallyEval_keeps hC hk
  rw [he] at hr
  exact hr

theorem State.headThermOpen_keeps (hC : Settles noFld) {s : State} (hk : Keeps noFld False H u₀ s) :
    Keeps noFld False H u₀ (s.headThermOpen) := by
  unfold State.headThermOpen
  repeat' first
    | with_reducible assumption
    | (extract_lets +onlyGivenNames x; first | (refine (have hx : Keeps noFld False H u₀ x := ?_; ?_); subst x; rotate_left; clear_value x) | subst x)
    | with_reducible exact noFld_apart _
    | with_reducible exact noFld_ne _
    | with_reducible apply State.raise_keeps hC
    | with_reducible apply State.setPrint_keeps hC
    | with_reducible apply State.tear_keeps hC
    | with_reducible apply Keeps.wr
    | with_reducible apply Keeps.setReg
    | with_reducible apply Keeps.foldl
    | split
    | intro _
    | (with_reducible apply Keeps.lit <;> with_reducible first | rfl | assumption | exact fun _ h => h | exact fun _ _ => rfl | exact fun _ => rfl | exact fun h => h.elim)

theorem State.markSource_keeps (hC : Settles noFld) {s : State} {src : Nat} {code : Nat} (hk : Keeps noFld False H u₀ s) :
    Keeps noFld False H u₀ (s.markSource src code) := by
  unfold State.markSource
  repeat' first
    | with_reducible assumption
    | (extract_lets +onlyGivenNames x; first | (refine (have hx : Keeps noFld False H u₀ x := ?_; ?_); subst x; rotate_left; clear_value x) | subst x)
    | with_reducible exact noFld_apart _
    | with_reducible exact noFld_ne _
    | with_reducible apply State.clearFault_keeps hC
    | with_reducible apply State.headThermOpen_keeps hC
    | with_reducible apply State.modSrc_keeps hC
    | with_reducible apply State.raise_keeps hC
    | with_reducible apply State.wrBit_keeps hC
    | with_reducible apply Keeps.wr
    | with_reducible apply Keeps.setReg
    | with_reducible apply Keeps.foldl
    | split
    | intro _
    | (with_reducible apply Keeps.lit <;> with_reducible first | rfl | assumption | exact fun _ h => h | exact fun _ _ => rfl | exact fun _ => rfl | exact fun h => h.elim)

theorem State.pushTemp_keeps (hC : Settles noFld) {s : State} {src : Nat} {t : Int} (hk : Keeps noFld False H u₀ s) :
    Keeps noFld False H u₀ (s.pushTemp src t) := by
  unfold State.pushTemp
  repeat' first
    | with_reducible assumption
    | (extract_lets +onlyGivenNames x; first | (refine (have hx : Keeps noFld False H u₀ x := ?_; ?_); subst x; rotate_left; clear_value x) | subst x)
    | with_reducible exact noFld_apart _
    | with_reducible exact noFld_ne _
    | with_reducible apply Keeps.fresh
    | with_reducible apply State.modSrc_keeps hC
    | with_reducible apply Keeps.wr
    | with_reducible apply Keeps.setReg
    | with_reducible apply Keeps.foldl
    | split
    | intro _
    | (with_reducible apply Keeps.lit <;> with_reducible first | rfl | assumption | exact fun _ h => h | exact fun _ _ => rfl | exact fun _ => rfl | exact fun h => h.elim)

theorem State.dieSeen_keeps (hC : Settles noFld) {s : State} {t : Int} (hk : Keeps noFld False H u₀ s) :
    Keeps noFld False H u₀ (s.dieSeen t) := by
  unfold State.dieSeen
  repeat' first
    | with_reducible assumption
    | (extract_lets +onlyGivenNames x; first | (refine (have hx : Keeps noFld False H u₀ x := ?_; ?_); subst x; rotate_left; clear_value x) | subst x)
    | with_reducible exact noFld_apart _
    | with_reducible exact noFld_ne _
    | with_reducible apply Keeps.wr
    | with_reducible apply Keeps.setReg
    | with_reducible apply Keeps.foldl
    | split
    | intro _
    | (with_reducible apply Keeps.lit <;> with_reducible first | rfl | assumption | exact fun _ h => h | exact fun _ _ => rfl | exact fun _ => rfl | exact fun h => h.elim)

theorem State.takeTemp_keeps (hC : Settles noFld) {s : State} {src : Nat} {t : Int} (hk : Keeps noFld False H u₀ s) :
    Keeps noFld False H u₀ (s.takeTemp src t) := by
  unfold State.takeTemp
  repeat' first
    | with_reducible assumption
    | (extract_lets +onlyGivenNames x; first | (refine (have hx : Keeps noFld False H u₀ x := ?_; ?_); subst x; rotate_left; clear_value x) | subst x)
    | with_reducible exact noFld_apart _
    | with_reducible exact noFld_ne _
    | with_reducible apply State.dieSeen_keeps hC
    | with_reducible apply State.pushTemp_keeps hC
    | with_reducible apply State.wrI_keeps hC
    | with_reducible apply Keeps.wr
    | with_reducible apply Keeps.setReg
    | with_reducible apply Keeps.foldl
    | split
    | intro _
    | (with_reducible apply Keeps.lit <;> with_reducible first | rfl | assumption | exact fun _ h => h | exact fun _ _ => rfl | exact fun _ => rfl | exact fun h => h.elim)

theorem State.takeThm_keeps (hC : Settles noFld) {s : State} {n : Nat} {code : Nat} (hk : Keeps noFld False H u₀ s) :
    Keeps noFld False H u₀ (s.takeThm n code) := by
  unfold State.takeThm
  repeat' first
    | with_reducible assumption
    | (extract_lets +onlyGivenNames x; first | (refine (have hx : Keeps noFld False H u₀ x := ?_; ?_); subst x; rotate_left; clear_value x) | subst x)
    | with_reducible exact noFld_apart _
    | with_reducible exact noFld_ne _
    | with_reducible apply State.markSource_keeps hC
    | with_reducible apply State.takeTemp_keeps hC
    | with_reducible apply Keeps.wr
    | with_reducible apply Keeps.setReg
    | with_reducible apply Keeps.foldl
    | split
    | intro _
    | (with_reducible apply Keeps.lit <;> with_reducible first | rfl | assumption | exact fun _ h => h | exact fun _ _ => rfl | exact fun _ => rfl | exact fun h => h.elim)

theorem State.takeHead_keeps (hC : Settles noFld) {s : State} {code : Nat} (hk : Keeps noFld False H u₀ s) :
    Keeps noFld False H u₀ (s.takeHead code) := by
  unfold State.takeHead
  repeat' first
    | with_reducible assumption
    | (extract_lets +onlyGivenNames x; first | (refine (have hx : Keeps noFld False H u₀ x := ?_; ?_); subst x; rotate_left; clear_value x) | subst x)
    | with_reducible exact noFld_apart _
    | with_reducible exact noFld_ne _
    | with_reducible apply State.markSource_keeps hC
    | with_reducible apply State.takeTemp_keeps hC
    | with_reducible apply Keeps.wr
    | with_reducible apply Keeps.setReg
    | with_reducible apply Keeps.foldl
    | split
    | intro _
    | (with_reducible apply Keeps.lit <;> with_reducible first | rfl | assumption | exact fun _ h => h | exact fun _ _ => rfl | exact fun _ => rfl | exact fun h => h.elim)

theorem execMonitorSample_keeps (hC : Settles noFld) {m : TempSample} {s : State} (hk : Keeps noFld False H u₀ s) :
    KeepsOut noFld False H u₀ (execMonitorSample m s) := by
  unfold execMonitorSample
  repeat' first
    | with_reducible assumption
    | (extract_lets +onlyGivenNames x; first | (refine (have hx : Keeps noFld False H u₀ x := ?_; ?_); subst x; rotate_left; clear_value x) | subst x)
    | with_reducible exact noFld_apart _
    | with_reducible exact noFld_ne _
    | with_reducible apply State.settle_keeps hC
    | with_reducible apply State.takeHead_keeps hC
    | with_reducible apply State.takeTemp_keeps hC
    | with_reducible apply State.takeThm_keeps hC
    | with_reducible apply State.thermEval_keeps hC
    | with_reducible apply Keeps.wr
    | with_reducible apply Keeps.setReg
    | with_reducible apply KeepsOut.next
    | with_reducible apply Keeps.foldl
    | split
    | intro _
    | (with_reducible apply Keeps.lit <;> with_reducible first | rfl | assumption | exact fun _ h => h | exact fun _ _ => rfl | exact fun _ => rfl | exact fun h => h.elim)

theorem execDieOvertemp_keeps (hC : Settles noFld) {t : BitVec 16} {s : State} (hk : Keeps noFld False H u₀ s) :
    KeepsOut noFld False H u₀ (execDieOvertemp t s) := by
  unfold execDieOvertemp
  repeat' first
    | with_reducible assumption
    | (extract_lets +onlyGivenNames x; first | (refine (have hx : Keeps noFld False H u₀ x := ?_; ?_); subst x; rotate_left; clear_value x) | subst x)
    | with_reducible exact noFld_apart _
    | with_reducible exact noFld_ne _
    | with_reducible apply State.raise_keeps hC
    | with_reducible apply State.settle_keeps hC
    | with_reducible apply State.takeTemp_keeps hC
    | with_reducible apply Keeps.wr
    | with_reducible apply Keeps.setReg
    | with_reducible apply KeepsOut.next
    | with_reducible apply Keeps.foldl
    | split
    | intro _
    | (with_reducible apply Keeps.lit <;> with_reducible first | rfl | assumption | exact fun _ h => h | exact fun _ _ => rfl | exact fun _ => rfl | exact fun h => h.elim)

theorem execPauseTimeout_keeps (hC : Settles noFld) {s : State} (hk : Keeps noFld False H u₀ s) :
    KeepsOut noFld False H u₀ (execPauseTimeout s) := by
  unfold execPauseTimeout
  repeat' first
    | with_reducible assumption
    | (extract_lets +onlyGivenNames x; first | (refine (have hx : Keeps noFld False H u₀ x := ?_; ?_); subst x; rotate_left; clear_value x) | subst x)
    | with_reducible exact noFld_apart _
    | with_reducible exact noFld_ne _
    | with_reducible apply State.endReceipt_keeps hC
    | with_reducible apply State.settle_keeps hC
    | with_reducible apply Keeps.wr
    | with_reducible apply Keeps.setReg
    | with_reducible apply KeepsOut.next
    | with_reducible apply Keeps.foldl
    | split
    | intro _
    | (with_reducible apply Keeps.lit <;> with_reducible first | rfl | assumption | exact fun _ h => h | exact fun _ _ => rfl | exact fun _ => rfl | exact fun h => h.elim)

theorem State.sampleMarks_keeps (hC : Settles noFld) {s : State} {mask : Nat} {codes : List Nat} (hk : Keeps noFld False H u₀ s) :
    Keeps noFld False H u₀ (s.sampleMarks mask codes) := by
  unfold State.sampleMarks
  repeat' first
    | with_reducible assumption
    | (extract_lets +onlyGivenNames x; first | (refine (have hx : Keeps noFld False H u₀ x := ?_; ?_); subst x; rotate_left; clear_value x) | subst x)
    | with_reducible exact noFld_apart _
    | with_reducible exact noFld_ne _
    | with_reducible apply State.markSource_keeps hC
    | with_reducible apply Keeps.wr
    | with_reducible apply Keeps.setReg
    | with_reducible apply Keeps.foldl
    | split
    | intro _
    | (with_reducible apply Keeps.lit <;> with_reducible first | rfl | assumption | exact fun _ h => h | exact fun _ _ => rfl | exact fun _ => rfl | exact fun h => h.elim)

theorem execSample_keeps (hC : Settles noFld) {tag : Fin 64} {codes : List (BitVec 16)} {s : State} (hk : Keeps noFld False H u₀ s) :
    KeepsOut noFld False H u₀ (execSample tag codes s) := by
  unfold execSample
  repeat' first
    | with_reducible assumption
    | (extract_lets +onlyGivenNames x; first | (refine (have hx : Keeps noFld False H u₀ x := ?_; ?_); subst x; rotate_left; clear_value x) | subst x)
    | with_reducible exact noFld_apart _
    | with_reducible exact noFld_ne _
    | with_reducible apply State.complete_keeps hC
    | with_reducible apply State.endOpen_keeps hC
    | with_reducible apply State.refuseWrite_keeps hC
    | with_reducible apply State.sampleMarks_keeps hC
    | with_reducible apply State.settle_keeps hC
    | with_reducible apply State.writeMem_keeps hC (fun h => h.elim)
    | with_reducible apply Keeps.wr
    | with_reducible apply Keeps.setReg
    | with_reducible apply KeepsOut.next
    | with_reducible apply Keeps.foldl
    | split
    | intro _
    | (with_reducible apply Keeps.lit <;> with_reducible first | rfl | assumption | exact fun _ h => h | exact fun _ _ => rfl | exact fun _ => rfl | exact fun h => h.elim)

theorem State.lfxoComp_keeps (hC : Settles noFld) {s : State} {die : Int} (hk : Keeps noFld False H u₀ s) :
    Keeps noFld False H u₀ (s.lfxoComp die) := by
  unfold State.lfxoComp
  repeat' first
    | with_reducible assumption
    | (extract_lets +onlyGivenNames x; first | (refine (have hx : Keeps noFld False H u₀ x := ?_; ?_); subst x; rotate_left; clear_value x) | subst x)
    | with_reducible exact noFld_apart _
    | with_reducible exact noFld_ne _
    | with_reducible apply Keeps.wr
    | with_reducible apply Keeps.setReg
    | with_reducible apply Keeps.foldl
    | split
    | intro _
    | (with_reducible apply Keeps.lit <;> with_reducible first | rfl | assumption | exact fun _ h => h | exact fun _ _ => rfl | exact fun _ => rfl | exact fun h => h.elim)

theorem State.telemetry_keeps (hC : Settles noFld) {s : State} {vin : Nat} {m : TempSample} (hk : Keeps noFld False H u₀ s) :
    Keeps noFld False H u₀ (s.telemetry vin m) := by
  unfold State.telemetry
  repeat' first
    | with_reducible assumption
    | (extract_lets +onlyGivenNames x; first | (refine (have hx : Keeps noFld False H u₀ x := ?_; ?_); subst x; rotate_left; clear_value x) | subst x)
    | with_reducible exact noFld_apart _
    | with_reducible exact noFld_ne _
    | with_reducible apply Keeps.wr
    | with_reducible apply State.writeMem_keeps hC (fun h => h.elim)
    | with_reducible apply Keeps.setReg
    | with_reducible apply Keeps.foldl
    | split
    | intro _
    | (with_reducible apply Keeps.lit <;> with_reducible first | rfl | assumption | exact fun _ h => h | exact fun _ _ => rfl | exact fun _ => rfl | exact fun h => h.elim)

theorem State.takeTelemetry_keeps (hC : Settles noFld) {s : State} {m : TempSample} (hk : Keeps noFld False H u₀ s) :
    Keeps noFld False H u₀ (s.takeTelemetry m) := by
  unfold State.takeTelemetry
  repeat' first
    | with_reducible assumption
    | (extract_lets +onlyGivenNames x; first | (refine (have hx : Keeps noFld False H u₀ x := ?_; ?_); subst x; rotate_left; clear_value x) | subst x)
    | with_reducible exact noFld_apart _
    | with_reducible exact noFld_ne _
    | with_reducible apply State.takeTemp_keeps hC
    | with_reducible apply State.takeThm_keeps hC
    | with_reducible apply Keeps.wr
    | with_reducible apply Keeps.setReg
    | with_reducible apply Keeps.foldl
    | split
    | intro _
    | (with_reducible apply Keeps.lit <;> with_reducible first | rfl | assumption | exact fun _ h => h | exact fun _ _ => rfl | exact fun _ => rfl | exact fun h => h.elim)

theorem State.lineDots_keeps (hC : Settles noFld) {s : State} {slot : Nat} {line : Nat} (hk : Keeps noFld False H u₀ s) :
    Keeps noFld False H u₀ (s.lineDots slot line).1 := by
  unfold State.lineDots
  repeat' first
    | with_reducible assumption
    | (extract_lets +onlyGivenNames x; first | (refine (have hx : Keeps noFld False H u₀ x := ?_; ?_); subst x; rotate_left; clear_value x) | subst x)
    | with_reducible exact noFld_apart _
    | with_reducible exact noFld_ne _
    | with_reducible refine State.readMem_of hC (by with_reducible assumption) ?_
    | with_reducible apply State.readMem_keeps hC
    | with_reducible apply Keeps.wr
    | with_reducible apply Keeps.setReg
    | with_reducible apply Keeps.foldl
    | split
    | intro _
    | (with_reducible apply Keeps.lit <;> with_reducible first | rfl | assumption | exact fun _ h => h | exact fun _ _ => rfl | exact fun _ => rfl | exact fun h => h.elim)

theorem State.lineDots_of (hC : Settles noFld) {s : State} {slot : Nat} {line : Nat} {x₁ : State} {y0 : List Bool} (he : (s.lineDots slot line) = (x₁, y0))
    (hk : Keeps noFld False H u₀ s) : Keeps noFld False H u₀ x₁ := by
  have hr : Keeps noFld False H u₀ (s.lineDots slot line).1 := State.lineDots_keeps hC hk
  rw [he] at hr
  exact hr

theorem State.lineEnd_keeps (hC : Settles noFld) {s : State} {t : Nat} {f : Firing} (hk : Keeps noFld False H u₀ s) :
    Keeps noFld False H u₀ (s.lineEnd t f) := by
  unfold State.lineEnd
  repeat' first
    | with_reducible assumption
    | (extract_lets +onlyGivenNames x; first | (refine (have hx : Keeps noFld False H u₀ x := ?_; ?_); subst x; rotate_left; clear_value x) | subst x)
    | with_reducible exact noFld_apart _
    | with_reducible exact noFld_ne _
    | with_reducible apply State.beginBand_keeps hC
    | with_reducible apply State.countLine_keeps hC
    | with_reducible apply State.feedStop_keeps hC
    | with_reducible apply State.freeSlot_keeps hC
    | with_reducible apply State.limit_keeps hC
    | with_reducible apply State.loopOn_keeps hC
    | with_reducible apply State.modJob_keeps hC
    | with_reducible apply State.release_keeps hC
    | with_reducible apply State.setFeed_keeps hC
    | with_reducible apply State.setPrint_keeps hC
    | with_reducible apply State.start_keeps hC
    | with_reducible apply State.tear_keeps hC
    | with_reducible apply State.trimFrc_keeps hC
    | with_reducible apply Keeps.wr
    | with_reducible apply Keeps.setReg
    | with_reducible apply Keeps.foldl
    | split
    | intro _
    | (with_reducible apply Keeps.lit <;> with_reducible first | rfl | assumption | exact fun _ h => h | exact fun _ _ => rfl | exact fun _ => rfl | exact fun h => h.elim)

theorem State.lineSample_keeps (hC : Settles noFld) {s : State} {m : LineSample} (hk : Keeps noFld False H u₀ s) :
    Keeps noFld False H u₀ (s.lineSample m) := by
  unfold State.lineSample
  repeat' first
    | with_reducible assumption
    | (extract_lets +onlyGivenNames x; first | (refine (have hx : Keeps noFld False H u₀ x := ?_; ?_); subst x; rotate_left; clear_value x) | subst x)
    | with_reducible exact noFld_apart _
    | with_reducible exact noFld_ne _
    | with_reducible apply State.takeHead_keeps hC
    | with_reducible apply State.thermNow_keeps hC
    | with_reducible apply Keeps.wr
    | with_reducible apply State.wrI_keeps hC
    | with_reducible apply Keeps.setReg
    | with_reducible apply Keeps.foldl
    | split
    | intro _
    | (with_reducible apply Keeps.lit <;> with_reducible first | rfl | assumption | exact fun _ h => h | exact fun _ _ => rfl | exact fun _ => rfl | exact fun h => h.elim)

theorem State.fireLine_keeps (hC : Settles noFld) {s : State} {t : Nat} {m : LineSample} (hk : Keeps noFld False H u₀ s) :
    Keeps noFld False H u₀ (s.fireLine t m) := by
  unfold State.fireLine
  repeat' first
    | with_reducible assumption
    | (extract_lets +onlyGivenNames x; first | (refine (have hx : Keeps noFld False H u₀ x := ?_; ?_); subst x; rotate_left; clear_value x) | subst x)
    | with_reducible exact noFld_apart _
    | with_reducible exact noFld_ne _
    | with_reducible apply State.bump_keeps hC
    | with_reducible refine State.lineDots_of hC (by with_reducible assumption) ?_
    | with_reducible apply State.lineDots_keeps hC
    | with_reducible apply State.lineEnd_keeps hC
    | with_reducible apply State.lineSample_keeps hC
    | with_reducible apply State.setPrint_keeps hC
    | with_reducible apply State.tear_keeps hC
    | with_reducible apply Keeps.wr
    | with_reducible apply Keeps.setReg
    | with_reducible apply Keeps.foldl
    | split
    | intro _
    | (with_reducible apply Keeps.lit <;> with_reducible first | rfl | assumption | exact fun _ h => h | exact fun _ _ => rfl | exact fun _ => rfl | exact fun h => h.elim)

theorem State.fireHeld_keeps (hC : Settles noFld) {s : State} {t : Nat} {m : LineSample} {n : Nat}
    (hk : Keeps noFld False H u₀ s) : Keeps noFld False H u₀ (s.fireHeld t m n) := by
  induction n generalizing s with
  | zero => exact hk
  | succ n ih =>
    unfold State.fireHeld
    repeat' first
      | with_reducible assumption
      | (extract_lets +onlyGivenNames x; first | (refine (have hx : Keeps noFld False H u₀ x := ?_; ?_); subst x; rotate_left; clear_value x) | subst x)
      | with_reducible exact noFld_apart _
      | with_reducible apply ih
      | with_reducible apply Keeps.wr
      | with_reducible apply State.bump_keeps hC
      | with_reducible apply State.modJob_keeps hC
      | with_reducible apply State.fireLine_keeps hC
      | split

theorem State.trigger_keeps (hC : Settles noFld) {s : State} {m : LineSample} (hk : Keeps noFld False H u₀ s) :
    Keeps noFld False H u₀ (s.trigger m) := by
  unfold State.trigger
  repeat' first
    | with_reducible assumption
    | (extract_lets +onlyGivenNames x; first | (refine (have hx : Keeps noFld False H u₀ x := ?_; ?_); subst x; rotate_left; clear_value x) | subst x)
    | with_reducible exact noFld_apart _
    | with_reducible exact noFld_ne _
    | with_reducible apply State.evt_keeps hC
    | with_reducible apply State.fireLine_keeps hC
    | with_reducible apply State.setFeed_keeps hC
    | with_reducible apply State.setPrint_keeps hC
    | with_reducible apply State.tear_keeps hC
    | with_reducible apply Keeps.wr
    | with_reducible apply Keeps.setReg
    | with_reducible apply Keeps.foldl
    | split
    | intro _
    | (with_reducible apply Keeps.lit <;> with_reducible first | rfl | assumption | exact fun _ h => h | exact fun _ _ => rfl | exact fun _ => rfl | exact fun h => h.elim)

theorem execLineTimer_keeps (hC : Settles noFld) {m : LineSample} {s : State} (hk : Keeps noFld False H u₀ s) :
    KeepsOut noFld False H u₀ (execLineTimer m s) := by
  unfold execLineTimer
  repeat' first
    | with_reducible assumption
    | (extract_lets +onlyGivenNames x; first | (refine (have hx : Keeps noFld False H u₀ x := ?_; ?_); subst x; rotate_left; clear_value x) | subst x)
    | with_reducible exact noFld_apart _
    | with_reducible exact noFld_ne _
    | with_reducible apply State.setFeed_keeps hC
    | with_reducible apply State.setPrint_keeps hC
    | with_reducible apply State.setSpeed_keeps hC
    | with_reducible apply State.settle_keeps hC
    | with_reducible apply State.start_keeps hC
    | with_reducible apply State.trigger_keeps hC
    | with_reducible apply Keeps.wr
    | with_reducible apply Keeps.setReg
    | with_reducible apply KeepsOut.next
    | with_reducible apply Keeps.foldl
    | split
    | intro _
    | (with_reducible apply Keeps.lit <;> with_reducible first | rfl | assumption | exact fun _ h => h | exact fun _ _ => rfl | exact fun _ => rfl | exact fun h => h.elim)

theorem execShiftEnd_keeps (hC : Settles noFld) {s : State} (hk : Keeps noFld False H u₀ s) :
    KeepsOut noFld False H u₀ (execShiftEnd s) := by
  unfold execShiftEnd
  repeat' first
    | with_reducible assumption
    | (extract_lets +onlyGivenNames x; first | (refine (have hx : Keeps noFld False H u₀ x := ?_; ?_); subst x; rotate_left; clear_value x) | subst x)
    | with_reducible exact noFld_apart _
    | with_reducible exact noFld_ne _
    | with_reducible apply State.setPrint_keeps hC
    | with_reducible apply Keeps.wr
    | with_reducible apply Keeps.setReg
    | with_reducible apply KeepsOut.next
    | with_reducible apply Keeps.foldl
    | split
    | intro _
    | (with_reducible apply Keeps.lit <;> with_reducible first | rfl | assumption | exact fun _ h => h | exact fun _ _ => rfl | exact fun _ => rfl | exact fun h => h.elim)

theorem execSliceEnd_keeps (hC : Settles noFld) {s : State} (hk : Keeps noFld False H u₀ s) :
    KeepsOut noFld False H u₀ (execSliceEnd s) := by
  unfold execSliceEnd
  repeat' first
    | with_reducible assumption
    | (extract_lets +onlyGivenNames x; first | (refine (have hx : Keeps noFld False H u₀ x := ?_; ?_); subst x; rotate_left; clear_value x) | subst x)
    | with_reducible exact noFld_apart _
    | with_reducible exact noFld_ne _
    | with_reducible apply State.setPrint_keeps hC
    | with_reducible apply Keeps.wr
    | with_reducible apply Keeps.setReg
    | with_reducible apply KeepsOut.next
    | with_reducible apply Keeps.foldl
    | split
    | intro _
    | (with_reducible apply Keeps.lit <;> with_reducible first | rfl | assumption | exact fun _ h => h | exact fun _ _ => rfl | exact fun _ => rfl | exact fun h => h.elim)

theorem execPassEnd_keeps (hC : Settles noFld) {m : LineSample} {s : State} (hk : Keeps noFld False H u₀ s) :
    KeepsOut noFld False H u₀ (execPassEnd m s) := by
  unfold execPassEnd
  repeat' first
    | with_reducible assumption
    | (extract_lets +onlyGivenNames x; first | (refine (have hx : Keeps noFld False H u₀ x := ?_; ?_); subst x; rotate_left; clear_value x) | subst x)
    | with_reducible exact noFld_apart _
    | with_reducible exact noFld_ne _
    | with_reducible apply State.addEnergy_keeps hC
    | with_reducible apply State.fireHeld_keeps hC
    | with_reducible apply State.lineEnd_keeps hC
    | with_reducible apply State.setPrint_keeps hC
    | with_reducible apply State.settle_keeps hC
    | with_reducible apply Keeps.wr
    | with_reducible apply Keeps.setReg
    | with_reducible apply KeepsOut.next
    | with_reducible apply Keeps.foldl
    | split
    | intro _
    | (with_reducible apply Keeps.lit <;> with_reducible first | rfl | assumption | exact fun _ h => h | exact fun _ _ => rfl | exact fun _ => rfl | exact fun h => h.elim)

theorem execStrobeFault_keeps (hC : Settles noFld) {levels : BitVec 8} {s : State} (hk : Keeps noFld False H u₀ s) :
    KeepsOut noFld False H u₀ (execStrobeFault levels s) := by
  unfold execStrobeFault
  repeat' first
    | with_reducible assumption
    | (extract_lets +onlyGivenNames x; first | (refine (have hx : Keeps noFld False H u₀ x := ?_; ?_); subst x; rotate_left; clear_value x) | subst x)
    | with_reducible exact noFld_apart _
    | with_reducible exact noFld_ne _
    | with_reducible apply State.quiet_keeps hC
    | with_reducible apply State.raise_keeps hC
    | with_reducible apply State.settle_keeps hC
    | with_reducible apply Keeps.wr
    | with_reducible apply Keeps.setReg
    | with_reducible apply KeepsOut.next
    | with_reducible apply Keeps.foldl
    | split
    | intro _
    | (with_reducible apply Keeps.lit <;> with_reducible first | rfl | assumption | exact fun _ h => h | exact fun _ _ => rfl | exact fun _ => rfl | exact fun h => h.elim)

theorem State.stopRaster_keeps (hC : Settles noFld) {s : State} (hk : Keeps noFld False H u₀ s) :
    Keeps noFld False H u₀ (s.stopRaster) := by
  unfold State.stopRaster
  repeat' first
    | with_reducible assumption
    | (extract_lets +onlyGivenNames x; first | (refine (have hx : Keeps noFld False H u₀ x := ?_; ?_); subst x; rotate_left; clear_value x) | subst x)
    | with_reducible exact noFld_apart _
    | with_reducible exact noFld_ne _
    | with_reducible apply State.endCheck_keeps hC
    | with_reducible apply State.endReceipt_keeps hC
    | with_reducible apply State.freeSlot_keeps hC
    | with_reducible apply State.setPrint_keeps hC
    | with_reducible apply Keeps.wr
    | with_reducible apply Keeps.setReg
    | with_reducible apply Keeps.foldl
    | split
    | intro _
    | (with_reducible apply Keeps.lit <;> with_reducible first | rfl | assumption | exact fun _ h => h | exact fun _ _ => rfl | exact fun _ => rfl | exact fun h => h.elim)

theorem State.identify_keeps (hC : Settles noFld) {s : State} {mv : Nat} (hk : Keeps noFld False H u₀ s) :
    Keeps noFld False H u₀ (s.identify mv).1 := by
  unfold State.identify
  repeat' first
    | with_reducible assumption
    | (extract_lets +onlyGivenNames x; first | (refine (have hx : Keeps noFld False H u₀ x := ?_; ?_); subst x; rotate_left; clear_value x) | subst x)
    | with_reducible exact noFld_apart _
    | with_reducible exact noFld_ne _
    | with_reducible apply Keeps.wr
    | with_reducible apply Keeps.setReg
    | with_reducible apply Keeps.foldl
    | split
    | intro _
    | (with_reducible apply Keeps.lit <;> with_reducible first | rfl | assumption | exact fun _ h => h | exact fun _ _ => rfl | exact fun _ => rfl | exact fun h => h.elim)

theorem State.identify_of (hC : Settles noFld) {s : State} {mv : Nat} {x₁ : State} {y0 : Option (Nat × Nat × Nat)} (he : (s.identify mv) = (x₁, y0))
    (hk : Keeps noFld False H u₀ s) : Keeps noFld False H u₀ x₁ := by
  have hr : Keeps noFld False H u₀ (s.identify mv).1 := State.identify_keeps hC hk
  rw [he] at hr
  exact hr

theorem State.probeHead_keeps (hC : Settles noFld) {s : State} {m : HeadMeas} (hk : Keeps noFld False H u₀ s) :
    Keeps noFld False H u₀ (s.probeHead m).1 := by
  unfold State.probeHead
  repeat' first
    | with_reducible assumption
    | (extract_lets +onlyGivenNames x; first | (refine (have hx : Keeps noFld False H u₀ x := ?_; ?_); subst x; rotate_left; clear_value x) | subst x)
    | with_reducible exact noFld_apart _
    | with_reducible exact noFld_ne _
    | with_reducible refine State.identify_of hC (by with_reducible assumption) ?_
    | with_reducible apply State.identify_keeps hC
    | with_reducible apply Keeps.openWord
    | with_reducible apply Keeps.wr
    | with_reducible apply Keeps.setReg
    | with_reducible apply Keeps.foldl
    | split
    | intro _
    | (with_reducible apply Keeps.lit <;> with_reducible first | rfl | assumption | exact fun _ h => h | exact fun _ _ => rfl | exact fun _ => rfl | exact fun h => h.elim)

theorem State.probeHead_of (hC : Settles noFld) {s : State} {m : HeadMeas} {x₁ : State} {y0 : Option (Nat × Nat × Nat)} (he : (s.probeHead m) = (x₁, y0))
    (hk : Keeps noFld False H u₀ s) : Keeps noFld False H u₀ x₁ := by
  have hr : Keeps noFld False H u₀ (s.probeHead m).1 := State.probeHead_keeps hC hk
  rw [he] at hr
  exact hr

theorem State.headFault_keeps (hC : Settles noFld) {s : State} {f : Nat × Nat × Nat} (hk : Keeps noFld False H u₀ s) :
    Keeps noFld False H u₀ (s.headFault f) := by
  unfold State.headFault
  repeat' first
    | with_reducible assumption
    | (extract_lets +onlyGivenNames x; first | (refine (have hx : Keeps noFld False H u₀ x := ?_; ?_); subst x; rotate_left; clear_value x) | subst x)
    | with_reducible exact noFld_apart _
    | with_reducible exact noFld_ne _
    | with_reducible apply State.raise_keeps hC
    | with_reducible apply State.setPrint_keeps hC
    | with_reducible apply State.tear_keeps hC
    | with_reducible apply Keeps.wr
    | with_reducible apply Keeps.setReg
    | with_reducible apply Keeps.foldl
    | split
    | intro _
    | (with_reducible apply Keeps.lit <;> with_reducible first | rfl | assumption | exact fun _ h => h | exact fun _ _ => rfl | exact fun _ => rfl | exact fun h => h.elim)

theorem State.foundWet_keeps (hC : Settles noFld) {s : State} (hk : Keeps noFld False H u₀ s) :
    Keeps noFld False H u₀ (s.foundWet) := by
  unfold State.foundWet
  repeat' first
    | with_reducible assumption
    | (extract_lets +onlyGivenNames x; first | (refine (have hx : Keeps noFld False H u₀ x := ?_; ?_); subst x; rotate_left; clear_value x) | subst x)
    | with_reducible exact noFld_apart _
    | with_reducible exact noFld_ne _
    | with_reducible apply Keeps.count
    | with_reducible apply State.evt_keeps hC
    | with_reducible apply State.setPrint_keeps hC
    | with_reducible apply Keeps.wr
    | with_reducible apply Keeps.setReg
    | with_reducible apply Keeps.foldl
    | split
    | intro _
    | (with_reducible apply Keeps.lit <;> with_reducible first | rfl | assumption | exact fun _ h => h | exact fun _ _ => rfl | exact fun _ => rfl | exact fun h => h.elim)

theorem State.foundDry_keeps (hC : Settles noFld) {s : State} (hk : Keeps noFld False H u₀ s) :
    Keeps noFld False H u₀ (s.foundDry) := by
  unfold State.foundDry
  repeat' first
    | with_reducible assumption
    | (extract_lets +onlyGivenNames x; first | (refine (have hx : Keeps noFld False H u₀ x := ?_; ?_); subst x; rotate_left; clear_value x) | subst x)
    | with_reducible exact noFld_apart _
    | with_reducible exact noFld_ne _
    | with_reducible apply State.setPrint_keeps hC
    | with_reducible apply Keeps.wr
    | with_reducible apply Keeps.setReg
    | with_reducible apply Keeps.foldl
    | split
    | intro _
    | (with_reducible apply Keeps.lit <;> with_reducible first | rfl | assumption | exact fun _ h => h | exact fun _ _ => rfl | exact fun _ => rfl | exact fun h => h.elim)

theorem State.dryStart_keeps (hC : Settles noFld) {s : State} {tag : Option Nat} {maxS : Nat} (hk : Keeps noFld False H u₀ s) :
    Keeps noFld False H u₀ (s.dryStart tag maxS) := by
  unfold State.dryStart
  repeat' first
    | with_reducible assumption
    | (extract_lets +onlyGivenNames x; first | (refine (have hx : Keeps noFld False H u₀ x := ?_; ?_); subst x; rotate_left; clear_value x) | subst x)
    | with_reducible exact noFld_apart _
    | with_reducible exact noFld_ne _
    | with_reducible apply State.setPrint_keeps hC
    | with_reducible apply Keeps.wr
    | with_reducible apply Keeps.setReg
    | with_reducible apply Keeps.foldl
    | split
    | intro _
    | (with_reducible apply Keeps.lit <;> with_reducible first | rfl | assumption | exact fun _ h => h | exact fun _ _ => rfl | exact fun _ => rfl | exact fun h => h.elim)

theorem State.stillWet_keeps (hC : Settles noFld) {s : State} (hk : Keeps noFld False H u₀ s) :
    Keeps noFld False H u₀ (s.stillWet) := by
  unfold State.stillWet
  repeat' first
    | with_reducible assumption
    | (extract_lets +onlyGivenNames x; first | (refine (have hx : Keeps noFld False H u₀ x := ?_; ?_); subst x; rotate_left; clear_value x) | subst x)
    | with_reducible exact noFld_apart _
    | with_reducible exact noFld_ne _
    | with_reducible apply State.foundWet_keeps hC
    | with_reducible apply Keeps.wr
    | with_reducible apply Keeps.setReg
    | with_reducible apply Keeps.foldl
    | split
    | intro _
    | (with_reducible apply Keeps.lit <;> with_reducible first | rfl | assumption | exact fun _ h => h | exact fun _ _ => rfl | exact fun _ => rfl | exact fun h => h.elim)

theorem State.leakSeen_keeps (hC : Settles noFld) {s : State} {leak : Nat} (hk : Keeps noFld False H u₀ s) :
    Keeps noFld False H u₀ (s.leakSeen leak) := by
  unfold State.leakSeen
  repeat' first
    | with_reducible assumption
    | (extract_lets +onlyGivenNames x; first | (refine (have hx : Keeps noFld False H u₀ x := ?_; ?_); subst x; rotate_left; clear_value x) | subst x)
    | with_reducible exact noFld_apart _
    | with_reducible exact noFld_ne _
    | with_reducible apply State.foundDry_keeps hC
    | with_reducible apply State.foundWet_keeps hC
    | with_reducible apply State.setPrint_keeps hC
    | with_reducible apply Keeps.wr
    | with_reducible apply Keeps.setReg
    | with_reducible apply Keeps.foldl
    | split
    | intro _
    | (with_reducible apply Keeps.lit <;> with_reducible first | rfl | assumption | exact fun _ h => h | exact fun _ _ => rfl | exact fun _ => rfl | exact fun h => h.elim)

theorem State.autoDry_keeps (hC : Settles noFld) {s : State} (hk : Keeps noFld False H u₀ s) :
    Keeps noFld False H u₀ (s.autoDry) := by
  unfold State.autoDry
  repeat' first
    | with_reducible assumption
    | (extract_lets +onlyGivenNames x; first | (refine (have hx : Keeps noFld False H u₀ x := ?_; ?_); subst x; rotate_left; clear_value x) | subst x)
    | with_reducible exact noFld_apart _
    | with_reducible exact noFld_ne _
    | with_reducible apply State.dryStart_keeps hC
    | with_reducible apply Keeps.wr
    | with_reducible apply Keeps.setReg
    | with_reducible apply Keeps.foldl
    | split
    | intro _
    | (with_reducible apply Keeps.lit <;> with_reducible first | rfl | assumption | exact fun _ h => h | exact fun _ _ => rfl | exact fun _ => rfl | exact fun h => h.elim)

theorem execHeadProbe_keeps (hC : Settles noFld) {tag : Fin 64} {m : HeadMeas} {s : State} (hk : Keeps noFld False H u₀ s) :
    KeepsOut noFld False H u₀ (execHeadProbe tag m s) := by
  unfold execHeadProbe
  repeat' first
    | with_reducible assumption
    | (extract_lets +onlyGivenNames x; first | (refine (have hx : Keeps noFld False H u₀ x := ?_; ?_); subst x; rotate_left; clear_value x) | subst x)
    | with_reducible exact noFld_apart _
    | with_reducible exact noFld_ne _
    | with_reducible apply State.complete_keeps hC
    | with_reducible apply State.headFault_keeps hC
    | with_reducible refine State.probeHead_of hC (by with_reducible assumption) ?_
    | with_reducible apply State.probeHead_keeps hC
    | with_reducible apply State.setPrint_keeps hC
    | with_reducible apply State.settle_keeps hC
    | with_reducible apply State.start_keeps hC
    | with_reducible apply Keeps.wr
    | with_reducible apply Keeps.setReg
    | with_reducible apply KeepsOut.next
    | with_reducible apply Keeps.foldl
    | split
    | intro _
    | (with_reducible apply Keeps.lit <;> with_reducible first | rfl | assumption | exact fun _ h => h | exact fun _ _ => rfl | exact fun _ => rfl | exact fun h => h.elim)

theorem execLeakageMeasured_keeps (hC : Settles noFld) {leak : BitVec 16} {s : State} (hk : Keeps noFld False H u₀ s) :
    KeepsOut noFld False H u₀ (execLeakageMeasured leak s) := by
  unfold execLeakageMeasured
  repeat' first
    | with_reducible assumption
    | (extract_lets +onlyGivenNames x; first | (refine (have hx : Keeps noFld False H u₀ x := ?_; ?_); subst x; rotate_left; clear_value x) | subst x)
    | with_reducible exact noFld_apart _
    | with_reducible exact noFld_ne _
    | with_reducible apply State.autoDry_keeps hC
    | with_reducible apply State.clearFaults_keeps hC
    | with_reducible apply State.complete_keeps hC
    | with_reducible apply State.foundDry_keeps hC
    | with_reducible apply State.foundWet_keeps hC
    | with_reducible apply State.leakSeen_keeps hC
    | with_reducible apply State.modJob_keeps hC
    | with_reducible apply State.printIdle_keeps hC
    | with_reducible apply State.setPrint_keeps hC
    | with_reducible apply State.settle_keeps hC
    | with_reducible apply Keeps.wr
    | with_reducible apply Keeps.setReg
    | with_reducible apply KeepsOut.next
    | with_reducible apply Keeps.foldl
    | split
    | intro _
    | (with_reducible apply Keeps.lit <;> with_reducible first | rfl | assumption | exact fun _ h => h | exact fun _ _ => rfl | exact fun _ => rfl | exact fun h => h.elim)

theorem execDryHead_keeps (hC : Settles noFld) {tag : Fin 64} {s : State} (hk : Keeps noFld False H u₀ s) :
    KeepsOut noFld False H u₀ (execDryHead tag s) := by
  unfold execDryHead
  repeat' first
    | with_reducible assumption
    | (extract_lets +onlyGivenNames x; first | (refine (have hx : Keeps noFld False H u₀ x := ?_; ?_); subst x; rotate_left; clear_value x) | subst x)
    | with_reducible exact noFld_apart _
    | with_reducible exact noFld_ne _
    | with_reducible apply State.dryStart_keeps hC
    | with_reducible apply State.endOpen_keeps hC
    | with_reducible apply State.settle_keeps hC
    | with_reducible apply State.start_keeps hC
    | with_reducible apply Keeps.wr
    | with_reducible apply Keeps.setReg
    | with_reducible apply KeepsOut.next
    | with_reducible apply Keeps.foldl
    | split
    | intro _
    | (with_reducible apply Keeps.lit <;> with_reducible first | rfl | assumption | exact fun _ h => h | exact fun _ _ => rfl | exact fun _ => rfl | exact fun h => h.elim)

theorem execDryPulse_keeps (hC : Settles noFld) {m : LineSample} {s : State} (hk : Keeps noFld False H u₀ s) :
    KeepsOut noFld False H u₀ (execDryPulse m s) := by
  unfold execDryPulse
  repeat' first
    | with_reducible assumption
    | (extract_lets +onlyGivenNames x; first | (refine (have hx : Keeps noFld False H u₀ x := ?_; ?_); subst x; rotate_left; clear_value x) | subst x)
    | with_reducible exact noFld_apart _
    | with_reducible exact noFld_ne _
    | with_reducible apply State.addEnergy_keeps hC
    | with_reducible apply State.bump_keeps hC
    | with_reducible apply State.settle_keeps hC
    | with_reducible apply State.takeHead_keeps hC
    | with_reducible apply Keeps.wr
    | with_reducible apply Keeps.setReg
    | with_reducible apply KeepsOut.next
    | with_reducible apply Keeps.foldl
    | split
    | intro _
    | (with_reducible apply Keeps.lit <;> with_reducible first | rfl | assumption | exact fun _ h => h | exact fun _ _ => rfl | exact fun _ => rfl | exact fun h => h.elim)

theorem State.dryEnd_keeps (hC : Settles noFld) {s : State} {d : Dry} {status : Nat} {leak : Nat} (hk : Keeps noFld False H u₀ s) :
    Keeps noFld False H u₀ (s.dryEnd d status leak) := by
  unfold State.dryEnd
  repeat' first
    | with_reducible assumption
    | (extract_lets +onlyGivenNames x; first | (refine (have hx : Keeps noFld False H u₀ x := ?_; ?_); subst x; rotate_left; clear_value x) | subst x)
    | with_reducible exact noFld_apart _
    | with_reducible exact noFld_ne _
    | with_reducible apply State.complete_keeps hC
    | with_reducible apply State.printIdle_keeps hC
    | with_reducible apply State.setPrint_keeps hC
    | with_reducible apply Keeps.wr
    | with_reducible apply Keeps.setReg
    | with_reducible apply Keeps.foldl
    | split
    | intro _
    | (with_reducible apply Keeps.lit <;> with_reducible first | rfl | assumption | exact fun _ h => h | exact fun _ _ => rfl | exact fun _ => rfl | exact fun h => h.elim)

theorem State.dryWet_keeps (hC : Settles noFld) {s : State} {leak : Nat} (hk : Keeps noFld False H u₀ s) :
    Keeps noFld False H u₀ (s.dryWet leak) := by
  unfold State.dryWet
  repeat' first
    | with_reducible assumption
    | (extract_lets +onlyGivenNames x; first | (refine (have hx : Keeps noFld False H u₀ x := ?_; ?_); subst x; rotate_left; clear_value x) | subst x)
    | with_reducible exact noFld_apart _
    | with_reducible exact noFld_ne _
    | with_reducible apply State.stillWet_keeps hC
    | with_reducible apply Keeps.wr
    | with_reducible apply Keeps.setReg
    | with_reducible apply Keeps.foldl
    | split
    | intro _
    | (with_reducible apply Keeps.lit <;> with_reducible first | rfl | assumption | exact fun _ h => h | exact fun _ _ => rfl | exact fun _ => rfl | exact fun h => h.elim)

theorem State.dryDone_keeps (hC : Settles noFld) {s : State} {d : Dry} {leak : Nat} (hk : Keeps noFld False H u₀ s) :
    Keeps noFld False H u₀ (s.dryDone d leak) := by
  unfold State.dryDone
  repeat' first
    | with_reducible assumption
    | (extract_lets +onlyGivenNames x; first | (refine (have hx : Keeps noFld False H u₀ x := ?_; ?_); subst x; rotate_left; clear_value x) | subst x)
    | with_reducible exact noFld_apart _
    | with_reducible exact noFld_ne _
    | with_reducible apply State.clearFault_keeps hC
    | with_reducible apply State.dryEnd_keeps hC
    | with_reducible apply State.evt_keeps hC
    | with_reducible apply State.foundDry_keeps hC
    | with_reducible apply Keeps.wr
    | with_reducible apply Keeps.setReg
    | with_reducible apply Keeps.foldl
    | split
    | intro _
    | (with_reducible apply Keeps.lit <;> with_reducible first | rfl | assumption | exact fun _ h => h | exact fun _ _ => rfl | exact fun _ => rfl | exact fun h => h.elim)

theorem execDryMeasure_keeps (hC : Settles noFld) {leak : BitVec 16} {s : State} (hk : Keeps noFld False H u₀ s) :
    KeepsOut noFld False H u₀ (execDryMeasure leak s) := by
  unfold execDryMeasure
  repeat' first
    | with_reducible assumption
    | (extract_lets +onlyGivenNames x; first | (refine (have hx : Keeps noFld False H u₀ x := ?_; ?_); subst x; rotate_left; clear_value x) | subst x)
    | with_reducible exact noFld_apart _
    | with_reducible exact noFld_ne _
    | with_reducible apply State.dryDone_keeps hC
    | with_reducible apply State.dryWet_keeps hC
    | with_reducible apply State.settle_keeps hC
    | with_reducible apply Keeps.wr
    | with_reducible apply Keeps.setReg
    | with_reducible apply KeepsOut.next
    | with_reducible apply Keeps.foldl
    | split
    | intro _
    | (with_reducible apply Keeps.lit <;> with_reducible first | rfl | assumption | exact fun _ h => h | exact fun _ _ => rfl | exact fun _ => rfl | exact fun h => h.elim)

theorem execWetHead_keeps (hC : Settles noFld) {leak : BitVec 16} {s : State} (hk : Keeps noFld False H u₀ s) :
    KeepsOut noFld False H u₀ (execWetHead leak s) := by
  unfold execWetHead
  repeat' first
    | with_reducible assumption
    | (extract_lets +onlyGivenNames x; first | (refine (have hx : Keeps noFld False H u₀ x := ?_; ?_); subst x; rotate_left; clear_value x) | subst x)
    | with_reducible exact noFld_apart _
    | with_reducible exact noFld_ne _
    | with_reducible apply State.dryDone_keeps hC
    | with_reducible apply State.dryEnd_keeps hC
    | with_reducible apply State.dryWet_keeps hC
    | with_reducible apply State.raise_keeps hC
    | with_reducible apply State.settle_keeps hC
    | with_reducible apply Keeps.wr
    | with_reducible apply Keeps.setReg
    | with_reducible apply KeepsOut.next
    | with_reducible apply Keeps.foldl
    | split
    | intro _
    | (with_reducible apply Keeps.lit <;> with_reducible first | rfl | assumption | exact fun _ h => h | exact fun _ _ => rfl | exact fun _ => rfl | exact fun h => h.elim)

theorem execHeadRecheck_keeps (hC : Settles noFld) {s : State} (hk : Keeps noFld False H u₀ s) :
    KeepsOut noFld False H u₀ (execHeadRecheck s) := by
  unfold execHeadRecheck
  repeat' first
    | with_reducible assumption
    | (extract_lets +onlyGivenNames x; first | (refine (have hx : Keeps noFld False H u₀ x := ?_; ?_); subst x; rotate_left; clear_value x) | subst x)
    | with_reducible exact noFld_apart _
    | with_reducible exact noFld_ne _
    | with_reducible apply State.setPrint_keeps hC
    | with_reducible apply Keeps.wr
    | with_reducible apply Keeps.setReg
    | with_reducible apply KeepsOut.next
    | with_reducible apply Keeps.foldl
    | split
    | intro _
    | (with_reducible apply Keeps.lit <;> with_reducible first | rfl | assumption | exact fun _ h => h | exact fun _ _ => rfl | exact fun _ => rfl | exact fun h => h.elim)

theorem execHeadRecheckDone_keeps (hC : Settles noFld) {m : HeadMeas} {leak : BitVec 16} {s : State} (hk : Keeps noFld False H u₀ s) :
    KeepsOut noFld False H u₀ (execHeadRecheckDone m leak s) := by
  unfold execHeadRecheckDone
  repeat' first
    | with_reducible assumption
    | (extract_lets +onlyGivenNames x; first | (refine (have hx : Keeps noFld False H u₀ x := ?_; ?_); subst x; rotate_left; clear_value x) | subst x)
    | with_reducible exact noFld_apart _
    | with_reducible exact noFld_ne _
    | with_reducible apply State.autoDry_keeps hC
    | with_reducible apply State.headFault_keeps hC
    | with_reducible apply State.leakSeen_keeps hC
    | with_reducible apply State.printIdle_keeps hC
    | with_reducible refine State.probeHead_of hC (by with_reducible assumption) ?_
    | with_reducible apply State.probeHead_keeps hC
    | with_reducible apply State.rodVec_keeps hC
    | with_reducible apply State.setPrint_keeps hC
    | with_reducible apply State.settle_keeps hC
    | with_reducible apply Keeps.wr
    | with_reducible apply Keeps.setReg
    | with_reducible apply KeepsOut.next
    | with_reducible apply Keeps.foldl
    | split
    | intro _
    | (with_reducible apply Keeps.lit <;> with_reducible first | rfl | assumption | exact fun _ h => h | exact fun _ _ => rfl | exact fun _ => rfl | exact fun h => h.elim)

theorem State.headchkNow_keeps (hC : Settles noFld) {s : State} (hk : Keeps noFld False H u₀ s) :
    Keeps noFld False H u₀ (s.headchkNow) := by
  unfold State.headchkNow
  repeat' first
    | with_reducible assumption
    | (extract_lets +onlyGivenNames x; first | (refine (have hx : Keeps noFld False H u₀ x := ?_; ?_); subst x; rotate_left; clear_value x) | subst x)
    | with_reducible exact noFld_apart _
    | with_reducible exact noFld_ne _
    | with_reducible apply State.setPrint_keeps hC
    | with_reducible apply Keeps.wr
    | with_reducible apply Keeps.setReg
    | with_reducible apply Keeps.foldl
    | split
    | intro _
    | (with_reducible apply Keeps.lit <;> with_reducible first | rfl | assumption | exact fun _ h => h | exact fun _ _ => rfl | exact fun _ => rfl | exact fun h => h.elim)

theorem State.setClk_keeps (hC : Settles noFld) {s : State} {f : Clk → Clk} (hk : Keeps noFld False H u₀ s) :
    Keeps noFld False H u₀ (s.setClk f) := by
  unfold State.setClk
  repeat' first
    | with_reducible assumption
    | (extract_lets +onlyGivenNames x; first | (refine (have hx : Keeps noFld False H u₀ x := ?_; ?_); subst x; rotate_left; clear_value x) | subst x)
    | with_reducible exact noFld_apart _
    | with_reducible exact noFld_ne _
    | with_reducible apply Keeps.wr
    | with_reducible apply Keeps.setReg
    | with_reducible apply Keeps.foldl
    | split
    | intro _
    | (with_reducible apply Keeps.lit <;> with_reducible first | rfl | assumption | exact fun _ h => h | exact fun _ _ => rfl | exact fun _ => rfl | exact fun h => h.elim)

theorem State.setPll_keeps (hC : Settles noFld) {s : State} {f : Pll → Pll} (hk : Keeps noFld False H u₀ s) :
    Keeps noFld False H u₀ (s.setPll f) := by
  unfold State.setPll
  repeat' first
    | with_reducible assumption
    | (extract_lets +onlyGivenNames x; first | (refine (have hx : Keeps noFld False H u₀ x := ?_; ?_); subst x; rotate_left; clear_value x) | subst x)
    | with_reducible exact noFld_apart _
    | with_reducible exact noFld_ne _
    | with_reducible apply State.setClk_keeps hC
    | with_reducible apply Keeps.wr
    | with_reducible apply Keeps.setReg
    | with_reducible apply Keeps.foldl
    | split
    | intro _
    | (with_reducible apply Keeps.lit <;> with_reducible first | rfl | assumption | exact fun _ h => h | exact fun _ _ => rfl | exact fun _ => rfl | exact fun h => h.elim)

theorem execLfxoStable_keeps (hC : Settles noFld) {s : State} (hk : Keeps noFld False H u₀ s) :
    KeepsOut noFld False H u₀ (execLfxoStable s) := by
  unfold execLfxoStable
  repeat' first
    | with_reducible assumption
    | (extract_lets +onlyGivenNames x; first | (refine (have hx : Keeps noFld False H u₀ x := ?_; ?_); subst x; rotate_left; clear_value x) | subst x)
    | with_reducible exact noFld_apart _
    | with_reducible exact noFld_ne _
    | with_reducible apply State.setClk_keeps hC
    | with_reducible apply Keeps.wr
    | with_reducible apply Keeps.setReg
    | with_reducible apply KeepsOut.next
    | with_reducible apply Keeps.foldl
    | split
    | intro _
    | (with_reducible apply Keeps.lit <;> with_reducible first | rfl | assumption | exact fun _ h => h | exact fun _ _ => rfl | exact fun _ => rfl | exact fun h => h.elim)

theorem execLfxoLoss_keeps (hC : Settles noFld) {s : State} (hk : Keeps noFld False H u₀ s) :
    KeepsOut noFld False H u₀ (execLfxoLoss s) := by
  unfold execLfxoLoss
  repeat' first
    | with_reducible assumption
    | (extract_lets +onlyGivenNames x; first | (refine (have hx : Keeps noFld False H u₀ x := ?_; ?_); subst x; rotate_left; clear_value x) | subst x)
    | with_reducible exact noFld_apart _
    | with_reducible exact noFld_ne _
    | with_reducible apply State.rodVec_keeps hC
    | with_reducible apply State.setClk_keeps hC
    | with_reducible apply Keeps.wr
    | with_reducible apply Keeps.setReg
    | with_reducible apply KeepsOut.next
    | with_reducible apply Keeps.foldl
    | split
    | intro _
    | (with_reducible apply Keeps.lit <;> with_reducible first | rfl | assumption | exact fun _ h => h | exact fun _ _ => rfl | exact fun _ => rfl | exact fun h => h.elim)

theorem execLfxoRetry_keeps (hC : Settles noFld) {s : State} (hk : Keeps noFld False H u₀ s) :
    KeepsOut noFld False H u₀ (execLfxoRetry s) := by
  unfold execLfxoRetry
  repeat' first
    | with_reducible assumption
    | (extract_lets +onlyGivenNames x; first | (refine (have hx : Keeps noFld False H u₀ x := ?_; ?_); subst x; rotate_left; clear_value x) | subst x)
    | with_reducible exact noFld_apart _
    | with_reducible exact noFld_ne _
    | with_reducible apply State.setClk_keeps hC
    | with_reducible apply Keeps.wr
    | with_reducible apply Keeps.setReg
    | with_reducible apply KeepsOut.next
    | with_reducible apply Keeps.foldl
    | split
    | intro _
    | (with_reducible apply Keeps.lit <;> with_reducible first | rfl | assumption | exact fun _ h => h | exact fun _ _ => rfl | exact fun _ => rfl | exact fun h => h.elim)

theorem State.relock_keeps (hC : Settles noFld) {s : State} {mhz : Nat} (hk : Keeps noFld False H u₀ s) :
    Keeps noFld False H u₀ (s.relock mhz) := by
  unfold State.relock
  repeat' first
    | with_reducible assumption
    | (extract_lets +onlyGivenNames x; first | (refine (have hx : Keeps noFld False H u₀ x := ?_; ?_); subst x; rotate_left; clear_value x) | subst x)
    | with_reducible exact noFld_apart _
    | with_reducible exact noFld_ne _
    | with_reducible apply State.setPll_keeps hC
    | with_reducible apply Keeps.wr
    | with_reducible apply Keeps.setReg
    | with_reducible apply Keeps.foldl
    | split
    | intro _
    | (with_reducible apply Keeps.lit <;> with_reducible first | rfl | assumption | exact fun _ h => h | exact fun _ _ => rfl | exact fun _ => rfl | exact fun h => h.elim)

theorem State.hbRestart_keeps (hC : Settles noFld) {s : State} (hk : Keeps noFld False H u₀ s) :
    Keeps noFld False H u₀ (s.hbRestart) := by
  unfold State.hbRestart
  repeat' first
    | with_reducible assumption
    | (extract_lets +onlyGivenNames x; first | (refine (have hx : Keeps noFld False H u₀ x := ?_; ?_); subst x; rotate_left; clear_value x) | subst x)
    | with_reducible exact noFld_apart _
    | with_reducible exact noFld_ne _
    | with_reducible apply State.setClk_keeps hC
    | with_reducible apply Keeps.wr
    | with_reducible apply Keeps.setReg
    | with_reducible apply Keeps.foldl
    | split
    | intro _
    | (with_reducible apply Keeps.lit <;> with_reducible first | rfl | assumption | exact fun _ h => h | exact fun _ _ => rfl | exact fun _ => rfl | exact fun h => h.elim)

theorem State.clocksOn_keeps (hC : Settles noFld) {s : State} (hk : Keeps noFld False H u₀ s) :
    Keeps noFld False H u₀ (s.clocksOn) := by
  unfold State.clocksOn
  repeat' first
    | with_reducible assumption
    | (extract_lets +onlyGivenNames x; first | (refine (have hx : Keeps noFld False H u₀ x := ?_; ?_); subst x; rotate_left; clear_value x) | subst x)
    | with_reducible exact noFld_apart _
    | with_reducible exact noFld_ne _
    | with_reducible apply State.relock_keeps hC
    | with_reducible apply Keeps.wr
    | with_reducible apply Keeps.setReg
    | with_reducible apply Keeps.foldl
    | split
    | intro _
    | (with_reducible apply Keeps.lit <;> with_reducible first | rfl | assumption | exact fun _ h => h | exact fun _ _ => rfl | exact fun _ => rfl | exact fun h => h.elim)

theorem State.frcCalDue_keeps (hC : Settles noFld) {s : State} (hk : Keeps noFld False H u₀ s) :
    Keeps noFld False H u₀ (s.frcCalDue) := by
  unfold State.frcCalDue
  repeat' first
    | with_reducible assumption
    | (extract_lets +onlyGivenNames x; first | (refine (have hx : Keeps noFld False H u₀ x := ?_; ?_); subst x; rotate_left; clear_value x) | subst x)
    | with_reducible exact noFld_apart _
    | with_reducible exact noFld_ne _
    | with_reducible apply Keeps.wr
    | with_reducible apply Keeps.setReg
    | with_reducible apply Keeps.foldl
    | split
    | intro _
    | (with_reducible apply Keeps.lit <;> with_reducible first | rfl | assumption | exact fun _ h => h | exact fun _ _ => rfl | exact fun _ => rfl | exact fun h => h.elim)

theorem State.exitTally_keeps (hC : Settles noFld) {s : State} (hk : Keeps noFld False False u₀ s) :
    Keeps noFld False False u₀ (s.exitTally) := by
  unfold State.exitTally
  repeat' first
    | with_reducible assumption
    | (extract_lets +onlyGivenNames x; first | (refine (have hx : Keeps noFld False False u₀ x := ?_; ?_); subst x; rotate_left; clear_value x) | subst x)
    | with_reducible exact noFld_apart _
    | with_reducible exact noFld_ne _
    | with_reducible apply State.clocksOn_keeps hC
    | with_reducible apply State.frcCalDue_keeps hC
    | with_reducible apply State.hbRestart_keeps hC
    | with_reducible apply State.idleRestart_keeps hC
    | with_reducible apply State.raise_keeps hC
    | with_reducible apply State.rodVec_keeps hC
    | with_reducible apply State.setWake_keeps hC
    | with_reducible apply State.settle_keeps hC
    | with_reducible apply Keeps.wr
    | with_reducible apply Keeps.setReg
    | with_reducible apply Keeps.foldl
    | split
    | intro _
    | (with_reducible apply Keeps.lit <;> with_reducible first | rfl | assumption | exact fun _ h => h | exact fun _ _ => rfl | exact fun _ => rfl | exact fun h => h.elim)

theorem State.csFall_keepsF (hC : Settles noFld) {s : State} (hk : Keeps noFld False False u₀ s) :
    Keeps noFld False False u₀ s.csFall := by
  unfold State.csFall
  split
  · exact State.exitTally_keeps hC hk
  · exact hk

theorem State.csFall_keeps (hC : Settles noFld) {s : State} (hk : Keeps noFld False H u₀ s) :
    Keeps noFld False H u₀ s.csFall := by
  by_cases hs : s.base = .held
  · unfold State.csFall
    simp only [hs, show (Base.held == Base.tally) = false from rfl, Bool.false_and, Bool.false_eq_true, if_false]
    exact hk
  · exact Keeps.outside hk hs (State.csFall_keepsF hC (Keeps.refl s))

theorem State.linkBegin_keeps (hC : Settles noFld) {s : State} (hk : Keeps noFld False H u₀ s) :
    Keeps noFld False H u₀ (s.linkBegin) := by
  unfold State.linkBegin
  repeat' first
    | with_reducible assumption
    | (extract_lets +onlyGivenNames x; first | (refine (have hx : Keeps noFld False H u₀ x := ?_; ?_); subst x; rotate_left; clear_value x) | subst x)
    | with_reducible exact noFld_apart _
    | with_reducible exact noFld_ne _
    | with_reducible apply State.csFall_keeps hC
    | with_reducible apply State.idleRestart_keeps hC
    | with_reducible apply Keeps.wr
    | with_reducible apply Keeps.setReg
    | with_reducible apply Keeps.foldl
    | split
    | intro _
    | (with_reducible apply Keeps.lit <;> with_reducible first | rfl | assumption | exact fun _ h => h | exact fun _ _ => rfl | exact fun _ => rfl | exact fun h => h.elim)

theorem State.hostReg_keeps (hC : Settles noFld) {s : State} {r : Rod} {f : State → State}
    (hf : ∀ x, Keeps noFld False H u₀ x → Keeps noFld False H u₀ (f x)) (hk : Keeps noFld False H u₀ s) :
    Keeps noFld False H u₀ (s.hostReg r f) := by
  unfold State.hostReg
  extract_lets x
  have hx : Keeps noFld False H u₀ x := State.linkBegin_keeps hC hk
  clear_value x
  split
  · exact hx
  · split
    · exact State.linkErr_keeps hC hx
    · split
      · exact hx
      · exact hf _ hx

theorem State.hostRead_keeps (hC : Settles noFld) {s : State} {r : Rod} {f : State → State}
    (hf : ∀ x, Keeps noFld False H u₀ x → Keeps noFld False H u₀ (f x)) (hk : Keeps noFld False H u₀ s) :
    Keeps noFld False H u₀ (s.hostRead r f) := by
  unfold State.hostRead
  extract_lets x
  have hx : Keeps noFld False H u₀ x := State.linkBegin_keeps hC hk
  clear_value x
  split
  · exact hx
  · split
    · exact State.linkErr_keeps hC hx
    · split
      · exact hf _ hx
      · exact hx

theorem State.attempt_keeps (hC : Settles noFld) {s : State} (hk : Keeps noFld False H u₀ s) :
    Keeps noFld False H u₀ (s.attempt) := by
  unfold State.attempt
  repeat' first
    | with_reducible assumption
    | (extract_lets +onlyGivenNames x; first | (refine (have hx : Keeps noFld False H u₀ x := ?_; ?_); subst x; rotate_left; clear_value x) | subst x)
    | with_reducible exact noFld_apart _
    | with_reducible exact noFld_ne _
    | with_reducible apply State.bump_keeps hC
    | with_reducible apply Keeps.wr
    | with_reducible apply Keeps.setReg
    | with_reducible apply Keeps.foldl
    | split
    | intro _
    | (with_reducible apply Keeps.lit <;> with_reducible first | rfl | assumption | exact fun _ h => h | exact fun _ _ => rfl | exact fun _ => rfl | exact fun h => h.elim)

theorem State.vcoreTarget_keeps (hC : Settles noFld) {s : State} {lvl : Nat} (hk : Keeps noFld False H u₀ s) :
    Keeps noFld False H u₀ (s.vcoreTarget lvl) := by
  unfold State.vcoreTarget
  repeat' first
    | with_reducible assumption
    | (extract_lets +onlyGivenNames x; first | (refine (have hx : Keeps noFld False H u₀ x := ?_; ?_); subst x; rotate_left; clear_value x) | subst x)
    | with_reducible exact noFld_apart _
    | with_reducible exact noFld_ne _
    | with_reducible apply Keeps.wr
    | with_reducible apply Keeps.setReg
    | with_reducible apply Keeps.foldl
    | split
    | intro _
    | (with_reducible apply Keeps.lit <;> with_reducible first | rfl | assumption | exact fun _ h => h | exact fun _ _ => rfl | exact fun _ => rfl | exact fun h => h.elim)

theorem State.phase_keeps (hC : Settles noFld) {s : State} {p : DvfsPhase} (hk : Keeps noFld False H u₀ s) :
    Keeps noFld False H u₀ (s.phase p) := by
  unfold State.phase
  repeat' first
    | with_reducible assumption
    | (extract_lets +onlyGivenNames x; first | (refine (have hx : Keeps noFld False H u₀ x := ?_; ?_); subst x; rotate_left; clear_value x) | subst x)
    | with_reducible exact noFld_apart _
    | with_reducible exact noFld_ne _
    | with_reducible apply State.setClk_keeps hC
    | with_reducible apply Keeps.wr
    | with_reducible apply Keeps.setReg
    | with_reducible apply Keeps.foldl
    | split
    | intro _
    | (with_reducible apply Keeps.lit <;> with_reducible first | rfl | assumption | exact fun _ h => h | exact fun _ _ => rfl | exact fun _ => rfl | exact fun h => h.elim)

theorem State.dvfsIdle_keeps (hC : Settles noFld) {s : State} (hk : Keeps noFld False H u₀ s) :
    Keeps noFld False H u₀ (s.dvfsIdle) := by
  unfold State.dvfsIdle
  repeat' first
    | with_reducible assumption
    | (extract_lets +onlyGivenNames x; first | (refine (have hx : Keeps noFld False H u₀ x := ?_; ?_); subst x; rotate_left; clear_value x) | subst x)
    | with_reducible exact noFld_apart _
    | with_reducible exact noFld_ne _
    | with_reducible apply State.phase_keeps hC
    | with_reducible apply State.rodVec_keeps hC
    | with_reducible apply Keeps.wr
    | with_reducible apply Keeps.setReg
    | with_reducible apply Keeps.foldl
    | split
    | intro _
    | (with_reducible apply Keeps.lit <;> with_reducible first | rfl | assumption | exact fun _ h => h | exact fun _ _ => rfl | exact fun _ => rfl | exact fun h => h.elim)

theorem State.dvfsDone_keeps (hC : Settles noFld) {s : State} (hk : Keeps noFld False H u₀ s) :
    Keeps noFld False H u₀ (s.dvfsDone) := by
  unfold State.dvfsDone
  repeat' first
    | with_reducible assumption
    | (extract_lets +onlyGivenNames x; first | (refine (have hx : Keeps noFld False H u₀ x := ?_; ?_); subst x; rotate_left; clear_value x) | subst x)
    | with_reducible exact noFld_apart _
    | with_reducible exact noFld_ne _
    | with_reducible apply State.dvfsIdle_keeps hC
    | with_reducible apply State.setClk_keeps hC
    | with_reducible apply Keeps.wr
    | with_reducible apply Keeps.setReg
    | with_reducible apply Keeps.foldl
    | split
    | intro _
    | (with_reducible apply Keeps.lit <;> with_reducible first | rfl | assumption | exact fun _ h => h | exact fun _ _ => rfl | exact fun _ => rfl | exact fun h => h.elim)

theorem State.dvfsRelock_keeps (hC : Settles noFld) {s : State} {p : DvfsPhase} (hk : Keeps noFld False H u₀ s) :
    Keeps noFld False H u₀ (s.dvfsRelock p) := by
  unfold State.dvfsRelock
  repeat' first
    | with_reducible assumption
    | (extract_lets +onlyGivenNames x; first | (refine (have hx : Keeps noFld False H u₀ x := ?_; ?_); subst x; rotate_left; clear_value x) | subst x)
    | with_reducible exact noFld_apart _
    | with_reducible exact noFld_ne _
    | with_reducible apply State.attempt_keeps hC
    | with_reducible apply State.phase_keeps hC
    | with_reducible apply State.relock_keeps hC
    | with_reducible apply Keeps.wr
    | with_reducible apply Keeps.setReg
    | with_reducible apply Keeps.foldl
    | split
    | intro _
    | (with_reducible apply Keeps.lit <;> with_reducible first | rfl | assumption | exact fun _ h => h | exact fun _ _ => rfl | exact fun _ => rfl | exact fun h => h.elim)

theorem State.dvfsSettled_keeps (hC : Settles noFld) {s : State} (hk : Keeps noFld False H u₀ s) :
    Keeps noFld False H u₀ (s.dvfsSettled) := by
  unfold State.dvfsSettled
  repeat' first
    | with_reducible assumption
    | (extract_lets +onlyGivenNames x; first | (refine (have hx : Keeps noFld False H u₀ x := ?_; ?_); subst x; rotate_left; clear_value x) | subst x)
    | with_reducible exact noFld_apart _
    | with_reducible exact noFld_ne _
    | with_reducible apply State.dvfsDone_keeps hC
    | with_reducible apply State.dvfsRelock_keeps hC
    | with_reducible apply Keeps.wr
    | with_reducible apply Keeps.setReg
    | with_reducible apply Keeps.foldl
    | split
    | intro _
    | (with_reducible apply Keeps.lit <;> with_reducible first | rfl | assumption | exact fun _ h => h | exact fun _ _ => rfl | exact fun _ => rfl | exact fun h => h.elim)

theorem State.dvfsVcore_keeps (hC : Settles noFld) {s : State} {p : DvfsPhase} (hk : Keeps noFld False H u₀ s) :
    Keeps noFld False H u₀ (s.dvfsVcore p) := by
  unfold State.dvfsVcore
  repeat' first
    | with_reducible assumption
    | (extract_lets +onlyGivenNames x; first | (refine (have hx : Keeps noFld False H u₀ x := ?_; ?_); subst x; rotate_left; clear_value x) | subst x)
    | with_reducible exact noFld_apart _
    | with_reducible exact noFld_ne _
    | with_reducible apply State.dvfsSettled_keeps hC
    | with_reducible apply State.phase_keeps hC
    | with_reducible apply State.vcoreTarget_keeps hC
    | with_reducible apply Keeps.wr
    | with_reducible apply Keeps.setReg
    | with_reducible apply Keeps.foldl
    | split
    | intro _
    | (with_reducible apply Keeps.lit <;> with_reducible first | rfl | assumption | exact fun _ h => h | exact fun _ _ => rfl | exact fun _ => rfl | exact fun h => h.elim)

theorem State.dvfsStart_keeps (hC : Settles noFld) {s : State} {p : Nat} (hk : Keeps noFld False H u₀ s) :
    Keeps noFld False H u₀ (s.dvfsStart p) := by
  unfold State.dvfsStart
  repeat' first
    | with_reducible assumption
    | (extract_lets +onlyGivenNames x; first | (refine (have hx : Keeps noFld False H u₀ x := ?_; ?_); subst x; rotate_left; clear_value x) | subst x)
    | with_reducible exact noFld_apart _
    | with_reducible exact noFld_ne _
    | with_reducible apply State.dvfsRelock_keeps hC
    | with_reducible apply State.dvfsVcore_keeps hC
    | with_reducible apply State.setClk_keeps hC
    | with_reducible apply Keeps.wr
    | with_reducible apply Keeps.setReg
    | with_reducible apply Keeps.foldl
    | split
    | intro _
    | (with_reducible apply Keeps.lit <;> with_reducible first | rfl | assumption | exact fun _ h => h | exact fun _ _ => rfl | exact fun _ => rfl | exact fun h => h.elim)

theorem State.dvfsPending_keeps (hC : Settles noFld) {s : State} (hk : Keeps noFld False H u₀ s) :
    Keeps noFld False H u₀ (s.dvfsPending) := by
  unfold State.dvfsPending
  repeat' first
    | with_reducible assumption
    | (extract_lets +onlyGivenNames x; first | (refine (have hx : Keeps noFld False H u₀ x := ?_; ?_); subst x; rotate_left; clear_value x) | subst x)
    | with_reducible exact noFld_apart _
    | with_reducible exact noFld_ne _
    | with_reducible apply State.dvfsStart_keeps hC
    | with_reducible apply Keeps.wr
    | with_reducible apply Keeps.setReg
    | with_reducible apply Keeps.foldl
    | split
    | intro _
    | (with_reducible apply Keeps.lit <;> with_reducible first | rfl | assumption | exact fun _ h => h | exact fun _ _ => rfl | exact fun _ => rfl | exact fun h => h.elim)

theorem State.writeDvfs_keeps (hC : Settles noFld) {s : State} {w : Word} (hk : Keeps noFld False H u₀ s) :
    Keeps noFld False H u₀ (s.writeDvfs w) := by
  unfold State.writeDvfs
  repeat' first
    | with_reducible assumption
    | (extract_lets +onlyGivenNames x; first | (refine (have hx : Keeps noFld False H u₀ x := ?_; ?_); subst x; rotate_left; clear_value x) | subst x)
    | with_reducible exact noFld_apart _
    | with_reducible exact noFld_ne _
    | with_reducible apply State.dvfsPending_keeps hC
    | with_reducible apply State.dvfsStart_keeps hC
    | with_reducible apply State.setClk_keeps hC
    | with_reducible apply Keeps.wr
    | with_reducible apply Keeps.setReg
    | with_reducible apply Keeps.foldl
    | split
    | intro _
    | (with_reducible apply Keeps.lit <;> with_reducible first | rfl | assumption | exact fun _ h => h | exact fun _ _ => rfl | exact fun _ => rfl | exact fun h => h.elim)

theorem execDvfsPointWrite_keeps (hC : Settles noFld) {w : BitVec 32} {s : State} (hk : Keeps noFld False H u₀ s) :
    KeepsOut noFld False H u₀ (execDvfsPointWrite w s) := by
  unfold execDvfsPointWrite
  repeat' first
    | with_reducible assumption
    | (extract_lets +onlyGivenNames x; first | (refine (have hx : Keeps noFld False H u₀ x := ?_; ?_); subst x; rotate_left; clear_value x) | subst x)
    | with_reducible exact noFld_apart _
    | with_reducible exact noFld_ne _
    | with_reducible refine State.hostReg_keeps hC ?_ ?_
    | with_reducible apply State.settle_keeps hC
    | with_reducible apply State.writeDvfs_keeps hC
    | with_reducible apply Keeps.wr
    | with_reducible apply Keeps.setReg
    | with_reducible apply KeepsOut.next
    | with_reducible apply Keeps.foldl
    | split
    | intro _
    | (with_reducible apply Keeps.lit <;> with_reducible first | rfl | assumption | exact fun _ h => h | exact fun _ _ => rfl | exact fun _ => rfl | exact fun h => h.elim)

theorem State.lockS_keeps (hC : Settles noFld) {s : State} (hk : Keeps noFld False H u₀ s) :
    Keeps noFld False H u₀ (s.lockS) := by
  unfold State.lockS
  repeat' first
    | with_reducible assumption
    | (extract_lets +onlyGivenNames x; first | (refine (have hx : Keeps noFld False H u₀ x := ?_; ?_); subst x; rotate_left; clear_value x) | subst x)
    | with_reducible exact noFld_apart _
    | with_reducible exact noFld_ne _
    | with_reducible apply State.dvfsDone_keeps hC
    | with_reducible apply State.dvfsIdle_keeps hC
    | with_reducible apply State.dvfsPending_keeps hC
    | with_reducible apply State.dvfsVcore_keeps hC
    | with_reducible apply State.setPll_keeps hC
    | with_reducible apply Keeps.wr
    | with_reducible apply Keeps.setReg
    | with_reducible apply Keeps.foldl
    | split
    | intro _
    | (with_reducible apply Keeps.lit <;> with_reducible first | rfl | assumption | exact fun _ h => h | exact fun _ _ => rfl | exact fun _ => rfl | exact fun h => h.elim)

theorem State.lockV_keeps (hC : Settles noFld) {s : State} (hk : Keeps noFld False H u₀ s) :
    Keeps noFld False H u₀ (s.lockV) := by
  unfold State.lockV
  repeat' first
    | with_reducible assumption
    | (extract_lets +onlyGivenNames x; first | (refine (have hx : Keeps noFld False H u₀ x := ?_; ?_); subst x; rotate_left; clear_value x) | subst x)
    | with_reducible exact noFld_apart _
    | with_reducible exact noFld_ne _
    | with_reducible apply State.clearFault_keeps hC
    | with_reducible apply State.setClk_keeps hC
    | with_reducible apply Keeps.wr
    | with_reducible apply Keeps.setReg
    | with_reducible apply Keeps.foldl
    | split
    | intro _
    | (with_reducible apply Keeps.lit <;> with_reducible first | rfl | assumption | exact fun _ h => h | exact fun _ _ => rfl | exact fun _ => rfl | exact fun h => h.elim)

theorem execPllLock_keeps (hC : Settles noFld) {p : PllId} {s : State} (hk : Keeps noFld False H u₀ s) :
    KeepsOut noFld False H u₀ (execPllLock p s) := by
  unfold execPllLock
  repeat' first
    | with_reducible assumption
    | (extract_lets +onlyGivenNames x; first | (refine (have hx : Keeps noFld False H u₀ x := ?_; ?_); subst x; rotate_left; clear_value x) | subst x)
    | with_reducible exact noFld_apart _
    | with_reducible exact noFld_ne _
    | with_reducible apply State.lockS_keeps hC
    | with_reducible apply State.lockV_keeps hC
    | with_reducible apply State.settle_keeps hC
    | with_reducible apply Keeps.wr
    | with_reducible apply Keeps.setReg
    | with_reducible apply KeepsOut.next
    | with_reducible apply Keeps.foldl
    | split
    | intro _
    | (with_reducible apply Keeps.lit <;> with_reducible first | rfl | assumption | exact fun _ h => h | exact fun _ _ => rfl | exact fun _ => rfl | exact fun h => h.elim)

theorem execClockGrant_keeps (hC : Settles noFld) {src : ClkSrc} {s : State} (hk : Keeps noFld False H u₀ s) :
    KeepsOut noFld False H u₀ (execClockGrant src s) := by
  unfold execClockGrant
  repeat' first
    | with_reducible assumption
    | (extract_lets +onlyGivenNames x; first | (refine (have hx : Keeps noFld False H u₀ x := ?_; ?_); subst x; rotate_left; clear_value x) | subst x)
    | with_reducible exact noFld_apart _
    | with_reducible exact noFld_ne _
    | with_reducible apply State.clearFault_keeps hC
    | with_reducible apply State.frcCalDue_keeps hC
    | with_reducible apply State.lockS_keeps hC
    | with_reducible apply State.lockV_keeps hC
    | with_reducible apply State.setClk_keeps hC
    | with_reducible apply State.settle_keeps hC
    | with_reducible apply Keeps.wr
    | with_reducible apply Keeps.setReg
    | with_reducible apply KeepsOut.next
    | with_reducible apply Keeps.foldl
    | split
    | intro _
    | (with_reducible apply Keeps.lit <;> with_reducible first | rfl | assumption | exact fun _ h => h | exact fun _ _ => rfl | exact fun _ => rfl | exact fun h => h.elim)

theorem execClockStop_keeps (hC : Settles noFld) {src : ClkSrc} {s : State} (hk : Keeps noFld False H u₀ s) :
    KeepsOut noFld False H u₀ (execClockStop src s) := by
  unfold execClockStop
  repeat' first
    | with_reducible assumption
    | (extract_lets +onlyGivenNames x; first | (refine (have hx : Keeps noFld False H u₀ x := ?_; ?_); subst x; rotate_left; clear_value x) | subst x)
    | with_reducible exact noFld_apart _
    | with_reducible exact noFld_ne _
    | with_reducible apply Keeps.wr
    | with_reducible apply Keeps.setReg
    | with_reducible apply KeepsOut.next
    | with_reducible apply Keeps.foldl
    | split
    | intro _
    | (with_reducible apply Keeps.lit <;> with_reducible first | rfl | assumption | exact fun _ h => h | exact fun _ _ => rfl | exact fun _ => rfl | exact fun h => h.elim)

theorem execHfxoFail_keeps (hC : Settles noFld) {s : State} (hk : Keeps noFld False H u₀ s) :
    KeepsOut noFld False H u₀ (execHfxoFail s) := by
  unfold execHfxoFail
  repeat' first
    | with_reducible assumption
    | (extract_lets +onlyGivenNames x; first | (refine (have hx : Keeps noFld False H u₀ x := ?_; ?_); subst x; rotate_left; clear_value x) | subst x)
    | with_reducible exact noFld_apart _
    | with_reducible exact noFld_ne _
    | with_reducible apply State.encAbandon_keeps hC
    | with_reducible apply State.raise_keeps hC
    | with_reducible apply State.relock_keeps hC
    | with_reducible apply State.setClk_keeps hC
    | with_reducible apply State.settle_keeps hC
    | with_reducible apply Keeps.wr
    | with_reducible apply Keeps.setReg
    | with_reducible apply KeepsOut.next
    | with_reducible apply Keeps.foldl
    | split
    | intro _
    | (with_reducible apply Keeps.lit <;> with_reducible first | rfl | assumption | exact fun _ h => h | exact fun _ _ => rfl | exact fun _ => rfl | exact fun h => h.elim)

theorem execHfxoRetry_keeps (hC : Settles noFld) {s : State} (hk : Keeps noFld False H u₀ s) :
    KeepsOut noFld False H u₀ (execHfxoRetry s) := by
  unfold execHfxoRetry
  repeat' first
    | with_reducible assumption
    | (extract_lets +onlyGivenNames x; first | (refine (have hx : Keeps noFld False H u₀ x := ?_; ?_); subst x; rotate_left; clear_value x) | subst x)
    | with_reducible exact noFld_apart _
    | with_reducible exact noFld_ne _
    | with_reducible apply State.setClk_keeps hC
    | with_reducible apply Keeps.wr
    | with_reducible apply Keeps.setReg
    | with_reducible apply KeepsOut.next
    | with_reducible apply Keeps.foldl
    | split
    | intro _
    | (with_reducible apply Keeps.lit <;> with_reducible first | rfl | assumption | exact fun _ h => h | exact fun _ _ => rfl | exact fun _ => rfl | exact fun h => h.elim)

theorem State.writeClkReq_keeps (hC : Settles noFld) {s : State} {w : Word} (hk : Keeps noFld False H u₀ s) :
    Keeps noFld False H u₀ (s.writeClkReq w) := by
  unfold State.writeClkReq
  repeat' first
    | with_reducible assumption
    | (extract_lets +onlyGivenNames x; first | (refine (have hx : Keeps noFld False H u₀ x := ?_; ?_); subst x; rotate_left; clear_value x) | subst x)
    | with_reducible exact noFld_apart _
    | with_reducible exact noFld_ne _
    | with_reducible apply Keeps.wr
    | with_reducible apply Keeps.setReg
    | with_reducible apply Keeps.foldl
    | split
    | intro _
    | (with_reducible apply Keeps.lit <;> with_reducible first | rfl | assumption | exact fun _ h => h | exact fun _ _ => rfl | exact fun _ => rfl | exact fun h => h.elim)

theorem execPllvWarmWrite_keeps (hC : Settles noFld) {w : BitVec 32} {s : State} (hk : Keeps noFld False H u₀ s) :
    KeepsOut noFld False H u₀ (execPllvWarmWrite w s) := by
  unfold execPllvWarmWrite
  repeat' first
    | with_reducible assumption
    | (extract_lets +onlyGivenNames x; first | (refine (have hx : Keeps noFld False H u₀ x := ?_; ?_); subst x; rotate_left; clear_value x) | subst x)
    | with_reducible exact noFld_apart _
    | with_reducible exact noFld_ne _
    | with_reducible refine State.hostReg_keeps hC ?_ ?_
    | with_reducible apply State.writeClkReq_keeps hC
    | with_reducible apply Keeps.wr
    | with_reducible apply Keeps.setReg
    | with_reducible apply KeepsOut.next
    | with_reducible apply Keeps.foldl
    | split
    | intro _
    | (with_reducible apply Keeps.lit <;> with_reducible first | rfl | assumption | exact fun _ h => h | exact fun _ _ => rfl | exact fun _ => rfl | exact fun h => h.elim)

theorem execGuardTrip_keeps (hC : Settles noFld) {p : PllId} {s : State} (hk : Keeps noFld False H u₀ s) :
    KeepsOut noFld False H u₀ (execGuardTrip p s) := by
  unfold execGuardTrip
  repeat' first
    | with_reducible assumption
    | (extract_lets +onlyGivenNames x; first | (refine (have hx : Keeps noFld False H u₀ x := ?_; ?_); subst x; rotate_left; clear_value x) | subst x)
    | with_reducible exact noFld_apart _
    | with_reducible exact noFld_ne _
    | with_reducible apply State.bump_keeps hC
    | with_reducible apply State.relock_keeps hC
    | with_reducible apply State.rodVec_keeps hC
    | with_reducible apply State.setClk_keeps hC
    | with_reducible apply State.settle_keeps hC
    | with_reducible apply Keeps.wr
    | with_reducible apply Keeps.setReg
    | with_reducible apply KeepsOut.next
    | with_reducible apply Keeps.foldl
    | split
    | intro _
    | (with_reducible apply Keeps.lit <;> with_reducible first | rfl | assumption | exact fun _ h => h | exact fun _ _ => rfl | exact fun _ => rfl | exact fun h => h.elim)

theorem State.failS_keeps (hC : Settles noFld) {s : State} (hk : Keeps noFld False H u₀ s) :
    Keeps noFld False H u₀ (s.failS) := by
  unfold State.failS
  repeat' first
    | with_reducible assumption
    | (extract_lets +onlyGivenNames x; first | (refine (have hx : Keeps noFld False H u₀ x := ?_; ?_); subst x; rotate_left; clear_value x) | subst x)
    | with_reducible exact noFld_apart _
    | with_reducible exact noFld_ne _
    | with_reducible apply State.attempt_keeps hC
    | with_reducible apply State.dvfsIdle_keeps hC
    | with_reducible apply State.dvfsPending_keeps hC
    | with_reducible apply State.raise_keeps hC
    | with_reducible apply State.setPll_keeps hC
    | with_reducible apply Keeps.wr
    | with_reducible apply Keeps.setReg
    | with_reducible apply Keeps.foldl
    | split
    | intro _
    | (with_reducible apply Keeps.lit <;> with_reducible first | rfl | assumption | exact fun _ h => h | exact fun _ _ => rfl | exact fun _ => rfl | exact fun h => h.elim)

theorem State.failV_keeps (hC : Settles noFld) {s : State} (hk : Keeps noFld False H u₀ s) :
    Keeps noFld False H u₀ (s.failV) := by
  unfold State.failV
  repeat' first
    | with_reducible assumption
    | (extract_lets +onlyGivenNames x; first | (refine (have hx : Keeps noFld False H u₀ x := ?_; ?_); subst x; rotate_left; clear_value x) | subst x)
    | with_reducible exact noFld_apart _
    | with_reducible exact noFld_ne _
    | with_reducible apply State.complete_keeps hC
    | with_reducible apply State.encFinish_keeps hC
    | with_reducible apply State.endAll_keeps hC
    | with_reducible apply State.raise_keeps hC
    | with_reducible apply State.setClk_keeps hC
    | with_reducible apply State.setDec_keeps hC
    | with_reducible apply State.setVid_keeps hC
    | with_reducible apply Keeps.wr
    | with_reducible apply Keeps.setReg
    | with_reducible apply Keeps.foldl
    | split
    | intro _
    | (with_reducible apply Keeps.lit <;> with_reducible first | rfl | assumption | exact fun _ h => h | exact fun _ _ => rfl | exact fun _ => rfl | exact fun h => h.elim)

theorem execRelockFail_keeps (hC : Settles noFld) {p : PllId} {s : State} (hk : Keeps noFld False H u₀ s) :
    KeepsOut noFld False H u₀ (execRelockFail p s) := by
  unfold execRelockFail
  repeat' first
    | with_reducible assumption
    | (extract_lets +onlyGivenNames x; first | (refine (have hx : Keeps noFld False H u₀ x := ?_; ?_); subst x; rotate_left; clear_value x) | subst x)
    | with_reducible exact noFld_apart _
    | with_reducible exact noFld_ne _
    | with_reducible apply State.failS_keeps hC
    | with_reducible apply State.failV_keeps hC
    | with_reducible apply State.settle_keeps hC
    | with_reducible apply Keeps.wr
    | with_reducible apply Keeps.setReg
    | with_reducible apply KeepsOut.next
    | with_reducible apply Keeps.foldl
    | split
    | intro _
    | (with_reducible apply Keeps.lit <;> with_reducible first | rfl | assumption | exact fun _ h => h | exact fun _ _ => rfl | exact fun _ => rfl | exact fun h => h.elim)

theorem State.showAdv_keeps (hC : Settles noFld) {s : State} (hk : Keeps noFld False H u₀ s) :
    Keeps noFld False H u₀ (s.showAdv) := by
  unfold State.showAdv
  repeat' first
    | with_reducible assumption
    | (extract_lets +onlyGivenNames x; first | (refine (have hx : Keeps noFld False H u₀ x := ?_; ?_); subst x; rotate_left; clear_value x) | subst x)
    | with_reducible exact noFld_apart _
    | with_reducible exact noFld_ne _
    | with_reducible apply State.wind_keeps hC
    | with_reducible apply Keeps.wr
    | with_reducible apply Keeps.setReg
    | with_reducible apply Keeps.foldl
    | split
    | intro _
    | (with_reducible apply Keeps.lit <;> with_reducible first | rfl | assumption | exact fun _ h => h | exact fun _ _ => rfl | exact fun _ => rfl | exact fun h => h.elim)

theorem State.posOut_keeps (hC : Settles noFld) {s : State} {d : Int} (hk : Keeps noFld False H u₀ s) :
    Keeps noFld False H u₀ (s.posOut d) := by
  unfold State.posOut
  repeat' first
    | with_reducible assumption
    | (extract_lets +onlyGivenNames x; first | (refine (have hx : Keeps noFld False H u₀ x := ?_; ?_); subst x; rotate_left; clear_value x) | subst x)
    | with_reducible exact noFld_apart _
    | with_reducible exact noFld_ne _
    | with_reducible apply State.setFeed_keeps hC
    | with_reducible apply Keeps.wr
    | with_reducible apply Keeps.setReg
    | with_reducible apply Keeps.foldl
    | split
    | intro _
    | (with_reducible apply Keeps.lit <;> with_reducible first | rfl | assumption | exact fun _ h => h | exact fun _ _ => rfl | exact fun _ => rfl | exact fun h => h.elim)

theorem State.countOne_keeps (hC : Settles noFld) {s : State} {fwd : Bool} {m : LineSample} (hk : Keeps noFld False H u₀ s) :
    Keeps noFld False H u₀ (s.countOne fwd m) := by
  unfold State.countOne
  repeat' first
    | with_reducible assumption
    | (extract_lets +onlyGivenNames x; first | (refine (have hx : Keeps noFld False H u₀ x := ?_; ?_); subst x; rotate_left; clear_value x) | subst x)
    | with_reducible exact noFld_apart _
    | with_reducible exact noFld_ne _
    | with_reducible apply Keeps.count
    | with_reducible apply State.posOut_keeps hC
    | with_reducible apply State.setFeed_keeps hC
    | with_reducible apply State.trigger_keeps hC
    | with_reducible apply Keeps.wr
    | with_reducible apply State.wrI_keeps hC
    | with_reducible apply Keeps.setReg
    | with_reducible apply Keeps.foldl
    | split
    | intro _
    | (with_reducible apply Keeps.lit <;> with_reducible first | rfl | assumption | exact fun _ h => h | exact fun _ _ => rfl | exact fun _ => rfl | exact fun h => h.elim)

theorem State.countMany_keeps (hC : Settles noFld) {s : State} {fwd : Bool} {m : LineSample} {n : Nat}
    (hk : Keeps noFld False H u₀ s) : Keeps noFld False H u₀ (s.countMany fwd m n) := by
  induction n generalizing s with
  | zero => exact hk
  | succ n ih => exact ih (State.countOne_keeps hC hk)

theorem State.backDone_keeps (hC : Settles noFld) {s : State} (hk : Keeps noFld False H u₀ s) :
    Keeps noFld False H u₀ (s.backDone) := by
  unfold State.backDone
  repeat' first
    | with_reducible assumption
    | (extract_lets +onlyGivenNames x; first | (refine (have hx : Keeps noFld False H u₀ x := ?_; ?_); subst x; rotate_left; clear_value x) | subst x)
    | with_reducible exact noFld_apart _
    | with_reducible exact noFld_ne _
    | with_reducible apply Keeps.wr
    | with_reducible apply Keeps.setReg
    | with_reducible apply Keeps.foldl
    | split
    | intro _
    | (with_reducible apply Keeps.lit <;> with_reducible first | rfl | assumption | exact fun _ h => h | exact fun _ _ => rfl | exact fun _ => rfl | exact fun h => h.elim)

theorem State.speedCount_keeps (hC : Settles noFld) {s : State} {dir : Int} {ticks : Nat} (hk : Keeps noFld False H u₀ s) :
    Keeps noFld False H u₀ (s.speedCount dir ticks) := by
  unfold State.speedCount
  repeat' first
    | with_reducible assumption
    | (extract_lets +onlyGivenNames x; first | (refine (have hx : Keeps noFld False H u₀ x := ?_; ?_); subst x; rotate_left; clear_value x) | subst x)
    | with_reducible exact noFld_apart _
    | with_reducible exact noFld_ne _
    | with_reducible apply State.bump_keeps hC
    | with_reducible apply State.setFeed_keeps hC
    | with_reducible apply State.showAdv_keeps hC
    | with_reducible apply Keeps.wr
    | with_reducible apply State.wrI_keeps hC
    | with_reducible apply Keeps.setReg
    | with_reducible apply Keeps.foldl
    | split
    | intro _
    | (with_reducible apply Keeps.lit <;> with_reducible first | rfl | assumption | exact fun _ h => h | exact fun _ _ => rfl | exact fun _ => rfl | exact fun h => h.elim)

theorem execEncoderCount_keeps (hC : Settles noFld) {a : Bool} {b : Bool} {ticks : BitVec 32} {m : LineSample} {s : State} (hk : Keeps noFld False H u₀ s) :
    KeepsOut noFld False H u₀ (execEncoderCount a b ticks m s) := by
  unfold execEncoderCount
  repeat' first
    | with_reducible assumption
    | (extract_lets +onlyGivenNames x; first | (refine (have hx : Keeps noFld False H u₀ x := ?_; ?_); subst x; rotate_left; clear_value x) | subst x)
    | with_reducible exact noFld_apart _
    | with_reducible exact noFld_ne _
    | with_reducible apply State.backDone_keeps hC
    | with_reducible apply State.bump_keeps hC
    | with_reducible apply State.countOne_keeps hC
    | with_reducible apply State.setFeed_keeps hC
    | with_reducible apply State.settle_keeps hC
    | with_reducible apply State.speedCount_keeps hC
    | with_reducible apply Keeps.wr
    | with_reducible apply Keeps.setReg
    | with_reducible apply KeepsOut.next
    | with_reducible apply Keeps.foldl
    | split
    | intro _
    | (with_reducible apply Keeps.lit <;> with_reducible first | rfl | assumption | exact fun _ h => h | exact fun _ _ => rfl | exact fun _ => rfl | exact fun h => h.elim)

theorem execIndex_keeps (hC : Settles noFld) {s : State} (hk : Keeps noFld False H u₀ s) :
    KeepsOut noFld False H u₀ (execIndex s) := by
  unfold execIndex
  repeat' first
    | with_reducible assumption
    | (extract_lets +onlyGivenNames x; first | (refine (have hx : Keeps noFld False H u₀ x := ?_; ?_); subst x; rotate_left; clear_value x) | subst x)
    | with_reducible exact noFld_apart _
    | with_reducible exact noFld_ne _
    | with_reducible apply State.evt_keeps hC
    | with_reducible apply Keeps.wr
    | with_reducible apply Keeps.setReg
    | with_reducible apply KeepsOut.next
    | with_reducible apply Keeps.foldl
    | split
    | intro _
    | (with_reducible apply Keeps.lit <;> with_reducible first | rfl | assumption | exact fun _ h => h | exact fun _ _ => rfl | exact fun _ => rfl | exact fun h => h.elim)

theorem execSerialRead_keeps (hC : Settles noFld) {frame : Option (BitVec 24)} {m : LineSample} {s : State} (hk : Keeps noFld False H u₀ s) :
    KeepsOut noFld False H u₀ (execSerialRead frame m s) := by
  unfold execSerialRead
  repeat' first
    | with_reducible assumption
    | (extract_lets +onlyGivenNames x; first | (refine (have hx : Keeps noFld False H u₀ x := ?_; ?_); subst x; rotate_left; clear_value x) | subst x)
    | with_reducible exact noFld_apart _
    | with_reducible exact noFld_ne _
    | with_reducible apply State.backDone_keeps hC
    | with_reducible apply State.bump_keeps hC
    | with_reducible apply State.countMany_keeps hC
    | with_reducible apply State.raise_keeps hC
    | with_reducible apply State.setFeed_keeps hC
    | with_reducible apply State.settle_keeps hC
    | with_reducible apply State.speedCount_keeps hC
    | with_reducible apply Keeps.wr
    | with_reducible apply Keeps.setReg
    | with_reducible apply KeepsOut.next
    | with_reducible apply Keeps.foldl
    | split
    | intro _
    | (with_reducible apply Keeps.lit <;> with_reducible first | rfl | assumption | exact fun _ h => h | exact fun _ _ => rfl | exact fun _ => rfl | exact fun h => h.elim)

theorem execHallEdge_keeps (hC : Settles noFld) {code : BitVec 3} {ticks : BitVec 32} {s : State} (hk : Keeps noFld False H u₀ s) :
    KeepsOut noFld False H u₀ (execHallEdge code ticks s) := by
  unfold execHallEdge
  repeat' first
    | with_reducible assumption
    | (extract_lets +onlyGivenNames x; first | (refine (have hx : Keeps noFld False H u₀ x := ?_; ?_); subst x; rotate_left; clear_value x) | subst x)
    | with_reducible exact noFld_apart _
    | with_reducible exact noFld_ne _
    | with_reducible apply State.bump_keeps hC
    | with_reducible apply Keeps.count
    | with_reducible apply State.driveHb_keeps hC
    | with_reducible apply State.setFeed_keeps hC
    | with_reducible apply State.showAdv_keeps hC
    | with_reducible apply Keeps.wr
    | with_reducible apply Keeps.setReg
    | with_reducible apply KeepsOut.next
    | with_reducible apply Keeps.foldl
    | split
    | intro _
    | (with_reducible apply Keeps.lit <;> with_reducible first | rfl | assumption | exact fun _ h => h | exact fun _ _ => rfl | exact fun _ => rfl | exact fun h => h.elim)

theorem execHallInvalid_keeps (hC : Settles noFld) {s : State} (hk : Keeps noFld False H u₀ s) :
    KeepsOut noFld False H u₀ (execHallInvalid s) := by
  unfold execHallInvalid
  repeat' first
    | with_reducible assumption
    | (extract_lets +onlyGivenNames x; first | (refine (have hx : Keeps noFld False H u₀ x := ?_; ?_); subst x; rotate_left; clear_value x) | subst x)
    | with_reducible exact noFld_apart _
    | with_reducible exact noFld_ne _
    | with_reducible apply State.raise_keeps hC
    | with_reducible apply State.setFeed_keeps hC
    | with_reducible apply State.settle_keeps hC
    | with_reducible apply Keeps.wr
    | with_reducible apply Keeps.setReg
    | with_reducible apply KeepsOut.next
    | with_reducible apply Keeps.foldl
    | split
    | intro _
    | (with_reducible apply Keeps.lit <;> with_reducible first | rfl | assumption | exact fun _ h => h | exact fun _ _ => rfl | exact fun _ => rfl | exact fun h => h.elim)

theorem execCommutationAdvance_keeps (hC : Settles noFld) {s : State} (hk : Keeps noFld False H u₀ s) :
    KeepsOut noFld False H u₀ (execCommutationAdvance s) := by
  unfold execCommutationAdvance
  repeat' first
    | with_reducible assumption
    | (extract_lets +onlyGivenNames x; first | (refine (have hx : Keeps noFld False H u₀ x := ?_; ?_); subst x; rotate_left; clear_value x) | subst x)
    | with_reducible exact noFld_apart _
    | with_reducible exact noFld_ne _
    | with_reducible apply State.driveHb_keeps hC
    | with_reducible apply State.setFeed_keeps hC
    | with_reducible apply Keeps.wr
    | with_reducible apply Keeps.setReg
    | with_reducible apply KeepsOut.next
    | with_reducible apply Keeps.foldl
    | split
    | intro _
    | (with_reducible apply Keeps.lit <;> with_reducible first | rfl | assumption | exact fun _ h => h | exact fun _ _ => rfl | exact fun _ => rfl | exact fun h => h.elim)

theorem execMicrostep_keeps (hC : Settles noFld) {m : LineSample} {s : State} (hk : Keeps noFld False H u₀ s) :
    KeepsOut noFld False H u₀ (execMicrostep m s) := by
  unfold execMicrostep
  repeat' first
    | with_reducible assumption
    | (extract_lets +onlyGivenNames x; first | (refine (have hx : Keeps noFld False H u₀ x := ?_; ?_); subst x; rotate_left; clear_value x) | subst x)
    | with_reducible exact noFld_apart _
    | with_reducible exact noFld_ne _
    | with_reducible apply State.backDone_keeps hC
    | with_reducible apply Keeps.count
    | with_reducible apply State.countOne_keeps hC
    | with_reducible apply State.setFeed_keeps hC
    | with_reducible apply State.settle_keeps hC
    | with_reducible apply State.showAdv_keeps hC
    | with_reducible apply Keeps.wr
    | with_reducible apply Keeps.setReg
    | with_reducible apply KeepsOut.next
    | with_reducible apply Keeps.foldl
    | split
    | intro _
    | (with_reducible apply Keeps.lit <;> with_reducible first | rfl | assumption | exact fun _ h => h | exact fun _ _ => rfl | exact fun _ => rfl | exact fun h => h.elim)

theorem execFeedbackLoss_keeps (hC : Settles noFld) {s : State} (hk : Keeps noFld False H u₀ s) :
    KeepsOut noFld False H u₀ (execFeedbackLoss s) := by
  unfold execFeedbackLoss
  repeat' first
    | with_reducible assumption
    | (extract_lets +onlyGivenNames x; first | (refine (have hx : Keeps noFld False H u₀ x := ?_; ?_); subst x; rotate_left; clear_value x) | subst x)
    | with_reducible exact noFld_apart _
    | with_reducible exact noFld_ne _
    | with_reducible apply State.raise_keeps hC
    | with_reducible apply State.settle_keeps hC
    | with_reducible apply Keeps.wr
    | with_reducible apply Keeps.setReg
    | with_reducible apply KeepsOut.next
    | with_reducible apply Keeps.foldl
    | split
    | intro _
    | (with_reducible apply Keeps.lit <;> with_reducible first | rfl | assumption | exact fun _ h => h | exact fun _ _ => rfl | exact fun _ => rfl | exact fun h => h.elim)

theorem execAtRest_keeps (hC : Settles noFld) {s : State} (hk : Keeps noFld False H u₀ s) :
    KeepsOut noFld False H u₀ (execAtRest s) := by
  unfold execAtRest
  repeat' first
    | with_reducible assumption
    | (extract_lets +onlyGivenNames x; first | (refine (have hx : Keeps noFld False H u₀ x := ?_; ?_); subst x; rotate_left; clear_value x) | subst x)
    | with_reducible exact noFld_apart _
    | with_reducible exact noFld_ne _
    | with_reducible apply State.afterRest_keeps hC
    | with_reducible apply State.evt_keeps hC
    | with_reducible apply State.feedGo_keeps hC
    | with_reducible apply State.feedHold_keeps hC
    | with_reducible apply State.limit_keeps hC
    | with_reducible apply State.setFeed_keeps hC
    | with_reducible apply State.setPrint_keeps hC
    | with_reducible apply State.setSpeed_keeps hC
    | with_reducible apply State.settle_keeps hC
    | with_reducible apply State.showAdv_keeps hC
    | with_reducible apply Keeps.wr
    | with_reducible apply Keeps.setReg
    | with_reducible apply KeepsOut.next
    | with_reducible apply Keeps.foldl
    | split
    | intro _
    | (with_reducible apply Keeps.lit <;> with_reducible first | rfl | assumption | exact fun _ h => h | exact fun _ _ => rfl | exact fun _ => rfl | exact fun h => h.elim)

theorem execHoldEnd_keeps (hC : Settles noFld) {s : State} (hk : Keeps noFld False H u₀ s) :
    KeepsOut noFld False H u₀ (execHoldEnd s) := by
  unfold execHoldEnd
  repeat' first
    | with_reducible assumption
    | (extract_lets +onlyGivenNames x; first | (refine (have hx : Keeps noFld False H u₀ x := ?_; ?_); subst x; rotate_left; clear_value x) | subst x)
    | with_reducible exact noFld_apart _
    | with_reducible exact noFld_ne _
    | with_reducible apply State.feedLoopsOff_keeps hC
    | with_reducible apply State.motorHb_keeps hC
    | with_reducible apply Keeps.wr
    | with_reducible apply Keeps.setReg
    | with_reducible apply KeepsOut.next
    | with_reducible apply Keeps.foldl
    | split
    | intro _
    | (with_reducible apply Keeps.lit <;> with_reducible first | rfl | assumption | exact fun _ h => h | exact fun _ _ => rfl | exact fun _ => rfl | exact fun h => h.elim)

theorem execRevDwellEnd_keeps (hC : Settles noFld) {s : State} (hk : Keeps noFld False H u₀ s) :
    KeepsOut noFld False H u₀ (execRevDwellEnd s) := by
  unfold execRevDwellEnd
  repeat' first
    | with_reducible assumption
    | (extract_lets +onlyGivenNames x; first | (refine (have hx : Keeps noFld False H u₀ x := ?_; ?_); subst x; rotate_left; clear_value x) | subst x)
    | with_reducible exact noFld_apart _
    | with_reducible exact noFld_ne _
    | with_reducible apply State.setFeed_keeps hC
    | with_reducible apply Keeps.wr
    | with_reducible apply State.wrB_keeps hC
    | with_reducible apply Keeps.setReg
    | with_reducible apply KeepsOut.next
    | with_reducible apply Keeps.foldl
    | split
    | intro _
    | (with_reducible apply Keeps.lit <;> with_reducible first | rfl | assumption | exact fun _ h => h | exact fun _ _ => rfl | exact fun _ => rfl | exact fun h => h.elim)

theorem execMovePaper_keeps (hC : Settles noFld) {tag : Fin 64} {s : State} (hk : Keeps noFld False H u₀ s) :
    KeepsOut noFld False H u₀ (execMovePaper tag s) := by
  unfold execMovePaper
  repeat' first
    | with_reducible assumption
    | (extract_lets +onlyGivenNames x; first | (refine (have hx : Keeps noFld False H u₀ x := ?_; ?_); subst x; rotate_left; clear_value x) | subst x)
    | with_reducible exact noFld_apart _
    | with_reducible exact noFld_ne _
    | with_reducible apply State.endOpen_keeps hC
    | with_reducible apply State.feedTo_keeps hC
    | with_reducible apply State.setFeed_keeps hC
    | with_reducible apply State.settle_keeps hC
    | with_reducible apply State.start_keeps hC
    | with_reducible apply Keeps.wr
    | with_reducible apply Keeps.setReg
    | with_reducible apply KeepsOut.next
    | with_reducible apply Keeps.foldl
    | split
    | intro _
    | (with_reducible apply Keeps.lit <;> with_reducible first | rfl | assumption | exact fun _ h => h | exact fun _ _ => rfl | exact fun _ => rfl | exact fun h => h.elim)

theorem State.motorSeen_keeps (hC : Settles noFld) {s : State} {m : List WindingMeas} (hk : Keeps noFld False H u₀ s) :
    Keeps noFld False H u₀ (s.motorSeen m) := by
  unfold State.motorSeen
  repeat' first
    | with_reducible assumption
    | (extract_lets +onlyGivenNames x; first | (refine (have hx : Keeps noFld False H u₀ x := ?_; ?_); subst x; rotate_left; clear_value x) | subst x)
    | with_reducible exact noFld_apart _
    | with_reducible exact noFld_ne _
    | with_reducible apply Keeps.wr
    | with_reducible apply Keeps.setReg
    | with_reducible apply Keeps.foldl
    | split
    | intro _
    | (with_reducible apply Keeps.lit <;> with_reducible first | rfl | assumption | exact fun _ h => h | exact fun _ _ => rfl | exact fun _ => rfl | exact fun h => h.elim)

theorem execMotorCheck_keeps (hC : Settles noFld) {tag : Fin 64} {m : List WindingMeas} {s : State} (hk : Keeps noFld False H u₀ s) :
    KeepsOut noFld False H u₀ (execMotorCheck tag m s) := by
  unfold execMotorCheck
  repeat' first
    | with_reducible assumption
    | (extract_lets +onlyGivenNames x; first | (refine (have hx : Keeps noFld False H u₀ x := ?_; ?_); subst x; rotate_left; clear_value x) | subst x)
    | with_reducible exact noFld_apart _
    | with_reducible exact noFld_ne _
    | with_reducible apply State.complete_keeps hC
    | with_reducible apply State.motorSeen_keeps hC
    | with_reducible apply State.settle_keeps hC
    | with_reducible apply Keeps.wr
    | with_reducible apply Keeps.setReg
    | with_reducible apply KeepsOut.next
    | with_reducible apply Keeps.foldl
    | split
    | intro _
    | (with_reducible apply Keeps.lit <;> with_reducible first | rfl | assumption | exact fun _ h => h | exact fun _ _ => rfl | exact fun _ => rfl | exact fun h => h.elim)

theorem State.sensorSet_keeps (hC : Settles noFld) {s : State} {x : Sensor} {active : Bool} (hk : Keeps noFld False H u₀ s) :
    Keeps noFld False H u₀ (s.sensorSet x active) := by
  unfold State.sensorSet
  repeat' first
    | with_reducible assumption
    | (extract_lets +onlyGivenNames x; first | (refine (have hx : Keeps noFld False H u₀ x := ?_; ?_); subst x; rotate_left; clear_value x) | subst x)
    | with_reducible exact noFld_apart _
    | with_reducible exact noFld_ne _
    | with_reducible apply State.cutBrake_keeps hC
    | with_reducible apply State.cutEnd_keeps hC
    | with_reducible apply State.evt_keeps hC
    | with_reducible apply State.feedStop_keeps hC
    | with_reducible apply State.modJob_keeps hC
    | with_reducible apply State.rodVec_keeps hC
    | with_reducible apply State.setCut_keeps hC
    | with_reducible apply State.setFeed_keeps hC
    | with_reducible apply State.settle_keeps hC
    | with_reducible apply State.tear_keeps hC
    | with_reducible apply State.wrB_keeps hC
    | with_reducible apply Keeps.wr
    | with_reducible apply Keeps.setReg
    | with_reducible apply Keeps.foldl
    | split
    | intro _
    | (with_reducible apply Keeps.lit <;> with_reducible first | rfl | assumption | exact fun _ h => h | exact fun _ _ => rfl | exact fun _ => rfl | exact fun h => h.elim)

theorem execSensorChange_keeps (hC : Settles noFld) {x : Sensor} {level : Bool} {s : State} (hk : Keeps noFld False H u₀ s) :
    KeepsOut noFld False H u₀ (execSensorChange x level s) := by
  unfold execSensorChange
  repeat' first
    | with_reducible assumption
    | (extract_lets +onlyGivenNames x; first | (refine (have hx : Keeps noFld False H u₀ x := ?_; ?_); subst x; rotate_left; clear_value x) | subst x)
    | with_reducible exact noFld_apart _
    | with_reducible exact noFld_ne _
    | with_reducible apply State.sensorSet_keeps hC
    | with_reducible apply Keeps.wr
    | with_reducible apply Keeps.setReg
    | with_reducible apply KeepsOut.next
    | with_reducible apply Keeps.foldl
    | split
    | intro _
    | (with_reducible apply Keeps.lit <;> with_reducible first | rfl | assumption | exact fun _ h => h | exact fun _ _ => rfl | exact fun _ => rfl | exact fun h => h.elim)

theorem State.writeAux_keeps (hC : Settles noFld) {s : State} {w : Word} (hk : Keeps noFld False H u₀ s) :
    Keeps noFld False H u₀ (s.writeAux w) := by
  unfold State.writeAux
  repeat' first
    | with_reducible assumption
    | (extract_lets +onlyGivenNames x; first | (refine (have hx : Keeps noFld False H u₀ x := ?_; ?_); subst x; rotate_left; clear_value x) | subst x)
    | with_reducible exact noFld_apart _
    | with_reducible exact noFld_ne _
    | with_reducible apply State.auxPull_keeps hC
    | with_reducible apply State.release_keeps hC
    | with_reducible apply State.setFeed_keeps hC
    | with_reducible apply Keeps.wr
    | with_reducible apply State.wrB_keeps hC
    | with_reducible apply Keeps.setReg
    | with_reducible apply Keeps.foldl
    | split
    | intro _
    | (with_reducible apply Keeps.lit <;> with_reducible first | rfl | assumption | exact fun _ h => h | exact fun _ _ => rfl | exact fun _ => rfl | exact fun h => h.elim)

theorem execAuxOn_keeps (hC : Settles noFld) {w : BitVec 32} {s : State} (hk : Keeps noFld False H u₀ s) :
    KeepsOut noFld False H u₀ (execAuxOn w s) := by
  unfold execAuxOn
  repeat' first
    | with_reducible assumption
    | (extract_lets +onlyGivenNames x; first | (refine (have hx : Keeps noFld False H u₀ x := ?_; ?_); subst x; rotate_left; clear_value x) | subst x)
    | with_reducible exact noFld_apart _
    | with_reducible exact noFld_ne _
    | with_reducible refine State.hostReg_keeps hC ?_ ?_
    | with_reducible apply State.writeAux_keeps hC
    | with_reducible apply Keeps.wr
    | with_reducible apply Keeps.setReg
    | with_reducible apply KeepsOut.next
    | with_reducible apply Keeps.foldl
    | split
    | intro _
    | (with_reducible apply Keeps.lit <;> with_reducible first | rfl | assumption | exact fun _ h => h | exact fun _ _ => rfl | exact fun _ => rfl | exact fun h => h.elim)

theorem execAuxOff_keeps (hC : Settles noFld) {w : BitVec 32} {s : State} (hk : Keeps noFld False H u₀ s) :
    KeepsOut noFld False H u₀ (execAuxOff w s) := by
  unfold execAuxOff
  repeat' first
    | with_reducible assumption
    | (extract_lets +onlyGivenNames x; first | (refine (have hx : Keeps noFld False H u₀ x := ?_; ?_); subst x; rotate_left; clear_value x) | subst x)
    | with_reducible exact noFld_apart _
    | with_reducible exact noFld_ne _
    | with_reducible refine State.hostReg_keeps hC ?_ ?_
    | with_reducible apply State.writeAux_keeps hC
    | with_reducible apply Keeps.wr
    | with_reducible apply Keeps.setReg
    | with_reducible apply KeepsOut.next
    | with_reducible apply Keeps.foldl
    | split
    | intro _
    | (with_reducible apply Keeps.lit <;> with_reducible first | rfl | assumption | exact fun _ h => h | exact fun _ _ => rfl | exact fun _ => rfl | exact fun h => h.elim)

theorem execAuxPullEnd_keeps (hC : Settles noFld) {s : State} (hk : Keeps noFld False H u₀ s) :
    KeepsOut noFld False H u₀ (execAuxPullEnd s) := by
  unfold execAuxPullEnd
  repeat' first
    | with_reducible assumption
    | (extract_lets +onlyGivenNames x; first | (refine (have hx : Keeps noFld False H u₀ x := ?_; ?_); subst x; rotate_left; clear_value x) | subst x)
    | with_reducible exact noFld_apart _
    | with_reducible exact noFld_ne _
    | with_reducible apply State.setFeed_keeps hC
    | with_reducible apply Keeps.wr
    | with_reducible apply Keeps.setReg
    | with_reducible apply KeepsOut.next
    | with_reducible apply Keeps.foldl
    | split
    | intro _
    | (with_reducible apply Keeps.lit <;> with_reducible first | rfl | assumption | exact fun _ h => h | exact fun _ _ => rfl | exact fun _ => rfl | exact fun h => h.elim)

theorem execAuxRelease_keeps (hC : Settles noFld) {s : State} (hk : Keeps noFld False H u₀ s) :
    KeepsOut noFld False H u₀ (execAuxRelease s) := by
  unfold execAuxRelease
  repeat' first
    | with_reducible assumption
    | (extract_lets +onlyGivenNames x; first | (refine (have hx : Keeps noFld False H u₀ x := ?_; ?_); subst x; rotate_left; clear_value x) | subst x)
    | with_reducible exact noFld_apart _
    | with_reducible exact noFld_ne _
    | with_reducible apply State.release_keeps hC
    | with_reducible apply State.setFeed_keeps hC
    | with_reducible apply Keeps.wr
    | with_reducible apply Keeps.setReg
    | with_reducible apply KeepsOut.next
    | with_reducible apply Keeps.foldl
    | split
    | intro _
    | (with_reducible apply Keeps.lit <;> with_reducible first | rfl | assumption | exact fun _ h => h | exact fun _ _ => rfl | exact fun _ => rfl | exact fun h => h.elim)

theorem execBridgeOcp_keeps (hC : Settles noFld) {hb : Fin 6} {s : State} (hk : Keeps noFld False H u₀ s) :
    KeepsOut noFld False H u₀ (execBridgeOcp hb s) := by
  unfold execBridgeOcp
  repeat' first
    | with_reducible assumption
    | (extract_lets +onlyGivenNames x; first | (refine (have hx : Keeps noFld False H u₀ x := ?_; ?_); subst x; rotate_left; clear_value x) | subst x)
    | with_reducible exact noFld_apart _
    | with_reducible exact noFld_ne _
    | with_reducible apply State.raise_keeps hC
    | with_reducible apply State.settle_keeps hC
    | with_reducible apply Keeps.wr
    | with_reducible apply Keeps.setReg
    | with_reducible apply KeepsOut.next
    | with_reducible apply Keeps.foldl
    | split
    | intro _
    | (with_reducible apply Keeps.lit <;> with_reducible first | rfl | assumption | exact fun _ h => h | exact fun _ _ => rfl | exact fun _ => rfl | exact fun h => h.elim)

theorem execHeldBrakeEnd_keeps (hC : Settles noFld) {s : State} (hk : Keeps noFld False H u₀ s) :
    KeepsOut noFld False H u₀ (execHeldBrakeEnd s) := by
  unfold execHeldBrakeEnd
  repeat' first
    | with_reducible assumption
    | (extract_lets +onlyGivenNames x; first | (refine (have hx : Keeps noFld False H u₀ x := ?_; ?_); subst x; rotate_left; clear_value x) | subst x)
    | with_reducible exact noFld_apart _
    | with_reducible exact noFld_ne _
    | with_reducible apply State.bridgesZ_keeps hC
    | with_reducible apply State.settle_keeps hC
    | with_reducible apply Keeps.wr
    | with_reducible apply Keeps.setReg
    | with_reducible apply KeepsOut.next
    | with_reducible apply Keeps.foldl
    | split
    | intro _
    | (with_reducible apply Keeps.lit <;> with_reducible first | rfl | assumption | exact fun _ h => h | exact fun _ _ => rfl | exact fun _ => rfl | exact fun h => h.elim)

theorem execCut_keeps (hC : Settles noFld) {tag : Fin 64} {s : State} (hk : Keeps noFld False H u₀ s) :
    KeepsOut noFld False H u₀ (execCut tag s) := by
  unfold execCut
  repeat' first
    | with_reducible assumption
    | (extract_lets +onlyGivenNames x; first | (refine (have hx : Keeps noFld False H u₀ x := ?_; ?_); subst x; rotate_left; clear_value x) | subst x)
    | with_reducible exact noFld_apart _
    | with_reducible exact noFld_ne _
    | with_reducible apply State.cutStart_keeps hC
    | with_reducible apply State.settle_keeps hC
    | with_reducible apply State.start_keeps hC
    | with_reducible apply Keeps.wr
    | with_reducible apply Keeps.setReg
    | with_reducible apply KeepsOut.next
    | with_reducible apply Keeps.foldl
    | split
    | intro _
    | (with_reducible apply Keeps.lit <;> with_reducible first | rfl | assumption | exact fun _ h => h | exact fun _ _ => rfl | exact fun _ => rfl | exact fun h => h.elim)

theorem execHome_keeps (hC : Settles noFld) {tag : Fin 64} {s : State} (hk : Keeps noFld False H u₀ s) :
    KeepsOut noFld False H u₀ (execHome tag s) := by
  unfold execHome
  repeat' first
    | with_reducible assumption
    | (extract_lets +onlyGivenNames x; first | (refine (have hx : Keeps noFld False H u₀ x := ?_; ?_); subst x; rotate_left; clear_value x) | subst x)
    | with_reducible exact noFld_apart _
    | with_reducible exact noFld_ne _
    | with_reducible apply State.cutEnd_keeps hC
    | with_reducible apply State.cutStart_keeps hC
    | with_reducible apply State.homed_keeps hC
    | with_reducible apply State.setCut_keeps hC
    | with_reducible apply State.settle_keeps hC
    | with_reducible apply State.start_keeps hC
    | with_reducible apply Keeps.wr
    | with_reducible apply Keeps.setReg
    | with_reducible apply KeepsOut.next
    | with_reducible apply Keeps.foldl
    | split
    | intro _
    | (with_reducible apply Keeps.lit <;> with_reducible first | rfl | assumption | exact fun _ h => h | exact fun _ _ => rfl | exact fun _ => rfl | exact fun h => h.elim)

theorem State.cutSwitches_keeps (hC : Settles noFld) {s : State} {home : Bool} {fin : Bool} (hk : Keeps noFld False H u₀ s) :
    Keeps noFld False H u₀ (s.cutSwitches home fin) := by
  unfold State.cutSwitches
  repeat' first
    | with_reducible assumption
    | (extract_lets +onlyGivenNames x; first | (refine (have hx : Keeps noFld False H u₀ x := ?_; ?_); subst x; rotate_left; clear_value x) | subst x)
    | with_reducible exact noFld_apart _
    | with_reducible exact noFld_ne _
    | with_reducible apply State.cutBrake_keeps hC
    | with_reducible apply State.cutDrive_keeps hC
    | with_reducible apply State.cutEnd_keeps hC
    | with_reducible apply State.finish_keeps hC
    | with_reducible apply State.raise_keeps hC
    | with_reducible apply State.setCut_keeps hC
    | with_reducible apply State.settle_keeps hC
    | with_reducible apply State.wrB_keeps hC
    | with_reducible apply Keeps.wr
    | with_reducible apply Keeps.setReg
    | with_reducible apply Keeps.foldl
    | split
    | intro _
    | (with_reducible apply Keeps.lit <;> with_reducible first | rfl | assumption | exact fun _ h => h | exact fun _ _ => rfl | exact fun _ => rfl | exact fun h => h.elim)

theorem execCutSwitch_keeps (hC : Settles noFld) {homeLevel : Bool} {endLevel : Bool} {s : State} (hk : Keeps noFld False H u₀ s) :
    KeepsOut noFld False H u₀ (execCutSwitch homeLevel endLevel s) := by
  unfold execCutSwitch
  repeat' first
    | with_reducible assumption
    | (extract_lets +onlyGivenNames x; first | (refine (have hx : Keeps noFld False H u₀ x := ?_; ?_); subst x; rotate_left; clear_value x) | subst x)
    | with_reducible exact noFld_apart _
    | with_reducible exact noFld_ne _
    | with_reducible apply State.cutSwitches_keeps hC
    | with_reducible apply Keeps.wr
    | with_reducible apply Keeps.setReg
    | with_reducible apply KeepsOut.next
    | with_reducible apply Keeps.foldl
    | split
    | intro _
    | (with_reducible apply Keeps.lit <;> with_reducible first | rfl | assumption | exact fun _ h => h | exact fun _ _ => rfl | exact fun _ => rfl | exact fun h => h.elim)

theorem execSwitchConflict_keeps (hC : Settles noFld) {s : State} (hk : Keeps noFld False H u₀ s) :
    KeepsOut noFld False H u₀ (execSwitchConflict s) := by
  unfold execSwitchConflict
  repeat' first
    | with_reducible assumption
    | (extract_lets +onlyGivenNames x; first | (refine (have hx : Keeps noFld False H u₀ x := ?_; ?_); subst x; rotate_left; clear_value x) | subst x)
    | with_reducible exact noFld_apart _
    | with_reducible exact noFld_ne _
    | with_reducible apply State.cutBrake_keeps hC
    | with_reducible apply State.cutEnd_keeps hC
    | with_reducible apply State.raise_keeps hC
    | with_reducible apply State.settle_keeps hC
    | with_reducible apply Keeps.wr
    | with_reducible apply Keeps.setReg
    | with_reducible apply KeepsOut.next
    | with_reducible apply Keeps.foldl
    | split
    | intro _
    | (with_reducible apply Keeps.lit <;> with_reducible first | rfl | assumption | exact fun _ h => h | exact fun _ _ => rfl | exact fun _ => rfl | exact fun h => h.elim)

theorem State.homeFailed_keeps (hC : Settles noFld) {s : State} (hk : Keeps noFld False H u₀ s) :
    Keeps noFld False H u₀ (s.homeFailed) := by
  unfold State.homeFailed
  repeat' first
    | with_reducible assumption
    | (extract_lets +onlyGivenNames x; first | (refine (have hx : Keeps noFld False H u₀ x := ?_; ?_); subst x; rotate_left; clear_value x) | subst x)
    | with_reducible exact noFld_apart _
    | with_reducible exact noFld_ne _
    | with_reducible apply State.cutBrake_keeps hC
    | with_reducible apply State.cutEnd_keeps hC
    | with_reducible apply State.raise_keeps hC
    | with_reducible apply State.setCut_keeps hC
    | with_reducible apply Keeps.wr
    | with_reducible apply Keeps.setReg
    | with_reducible apply Keeps.foldl
    | split
    | intro _
    | (with_reducible apply Keeps.lit <;> with_reducible first | rfl | assumption | exact fun _ h => h | exact fun _ _ => rfl | exact fun _ => rfl | exact fun h => h.elim)

theorem execJam_keeps (hC : Settles noFld) {s : State} (hk : Keeps noFld False H u₀ s) :
    KeepsOut noFld False H u₀ (execJam s) := by
  unfold execJam
  repeat' first
    | with_reducible assumption
    | (extract_lets +onlyGivenNames x; first | (refine (have hx : Keeps noFld False H u₀ x := ?_; ?_); subst x; rotate_left; clear_value x) | subst x)
    | with_reducible exact noFld_apart _
    | with_reducible exact noFld_ne _
    | with_reducible apply Keeps.count
    | with_reducible apply State.cutBrake_keeps hC
    | with_reducible apply State.evt_keeps hC
    | with_reducible apply State.homeFailed_keeps hC
    | with_reducible apply State.setCut_keeps hC
    | with_reducible apply State.settle_keeps hC
    | with_reducible apply Keeps.wr
    | with_reducible apply Keeps.setReg
    | with_reducible apply KeepsOut.next
    | with_reducible apply Keeps.foldl
    | split
    | intro _
    | (with_reducible apply Keeps.lit <;> with_reducible first | rfl | assumption | exact fun _ h => h | exact fun _ _ => rfl | exact fun _ => rfl | exact fun h => h.elim)

theorem execCutBrakeEnd_keeps (hC : Settles noFld) {s : State} (hk : Keeps noFld False H u₀ s) :
    KeepsOut noFld False H u₀ (execCutBrakeEnd s) := by
  unfold execCutBrakeEnd
  repeat' first
    | with_reducible assumption
    | (extract_lets +onlyGivenNames x; first | (refine (have hx : Keeps noFld False H u₀ x := ?_; ?_); subst x; rotate_left; clear_value x) | subst x)
    | with_reducible exact noFld_apart _
    | with_reducible exact noFld_ne _
    | with_reducible apply State.cutDrive_keeps hC
    | with_reducible apply State.cutEnd_keeps hC
    | with_reducible apply State.cutZ_keeps hC
    | with_reducible apply State.finish_keeps hC
    | with_reducible apply State.homed_keeps hC
    | with_reducible apply State.setCut_keeps hC
    | with_reducible apply State.settle_keeps hC
    | with_reducible apply Keeps.wr
    | with_reducible apply Keeps.setReg
    | with_reducible apply KeepsOut.next
    | with_reducible apply Keeps.foldl
    | split
    | intro _
    | (with_reducible apply Keeps.lit <;> with_reducible first | rfl | assumption | exact fun _ h => h | exact fun _ _ => rfl | exact fun _ => rfl | exact fun h => h.elim)

theorem execPartialMsEnd_keeps (hC : Settles noFld) {s : State} (hk : Keeps noFld False H u₀ s) :
    KeepsOut noFld False H u₀ (execPartialMsEnd s) := by
  unfold execPartialMsEnd
  repeat' first
    | with_reducible assumption
    | (extract_lets +onlyGivenNames x; first | (refine (have hx : Keeps noFld False H u₀ x := ?_; ?_); subst x; rotate_left; clear_value x) | subst x)
    | with_reducible exact noFld_apart _
    | with_reducible exact noFld_ne _
    | with_reducible apply State.cutBrake_keeps hC
    | with_reducible apply State.settle_keeps hC
    | with_reducible apply Keeps.wr
    | with_reducible apply Keeps.setReg
    | with_reducible apply KeepsOut.next
    | with_reducible apply Keeps.foldl
    | split
    | intro _
    | (with_reducible apply Keeps.lit <;> with_reducible first | rfl | assumption | exact fun _ h => h | exact fun _ _ => rfl | exact fun _ => rfl | exact fun h => h.elim)

theorem execHomeTimeout_keeps (hC : Settles noFld) {s : State} (hk : Keeps noFld False H u₀ s) :
    KeepsOut noFld False H u₀ (execHomeTimeout s) := by
  unfold execHomeTimeout
  repeat' first
    | with_reducible assumption
    | (extract_lets +onlyGivenNames x; first | (refine (have hx : Keeps noFld False H u₀ x := ?_; ?_); subst x; rotate_left; clear_value x) | subst x)
    | with_reducible exact noFld_apart _
    | with_reducible exact noFld_ne _
    | with_reducible apply State.homeFailed_keeps hC
    | with_reducible apply State.settle_keeps hC
    | with_reducible apply Keeps.wr
    | with_reducible apply Keeps.setReg
    | with_reducible apply KeepsOut.next
    | with_reducible apply Keeps.foldl
    | split
    | intro _
    | (with_reducible apply Keeps.lit <;> with_reducible first | rfl | assumption | exact fun _ h => h | exact fun _ _ => rfl | exact fun _ => rfl | exact fun h => h.elim)

theorem State.writeCutTiming_keeps (hC : Settles noFld) {s : State} {w : Word} (hk : Keeps noFld False H u₀ s) :
    Keeps noFld False H u₀ (s.writeCutTiming w) := by
  unfold State.writeCutTiming
  repeat' first
    | with_reducible assumption
    | (extract_lets +onlyGivenNames x; first | (refine (have hx : Keeps noFld False H u₀ x := ?_; ?_); subst x; rotate_left; clear_value x) | subst x)
    | with_reducible exact noFld_apart _
    | with_reducible exact noFld_ne _
    | with_reducible apply State.evt_keeps hC
    | with_reducible apply Keeps.wr
    | with_reducible apply Keeps.setReg
    | with_reducible apply Keeps.foldl
    | split
    | intro _
    | (with_reducible apply Keeps.lit <;> with_reducible first | rfl | assumption | exact fun _ h => h | exact fun _ _ => rfl | exact fun _ => rfl | exact fun h => h.elim)

theorem execCutTimingWrite_keeps (hC : Settles noFld) {w : BitVec 32} {s : State} (hk : Keeps noFld False H u₀ s) :
    KeepsOut noFld False H u₀ (execCutTimingWrite w s) := by
  unfold execCutTimingWrite
  repeat' first
    | with_reducible assumption
    | (extract_lets +onlyGivenNames x; first | (refine (have hx : Keeps noFld False H u₀ x := ?_; ?_); subst x; rotate_left; clear_value x) | subst x)
    | with_reducible exact noFld_apart _
    | with_reducible exact noFld_ne _
    | with_reducible refine State.hostReg_keeps hC ?_ ?_
    | with_reducible apply State.writeCutTiming_keeps hC
    | with_reducible apply Keeps.wr
    | with_reducible apply Keeps.setReg
    | with_reducible apply KeepsOut.next
    | with_reducible apply Keeps.foldl
    | split
    | intro _
    | (with_reducible apply Keeps.lit <;> with_reducible first | rfl | assumption | exact fun _ h => h | exact fun _ _ => rfl | exact fun _ => rfl | exact fun h => h.elim)

theorem State.rampSpeed_keeps (hC : Settles noFld) {s : State} {ticks : Nat} (hk : Keeps noFld False H u₀ s) :
    Keeps noFld False H u₀ (s.rampSpeed ticks) := by
  unfold State.rampSpeed
  repeat' first
    | with_reducible assumption
    | (extract_lets +onlyGivenNames x; first | (refine (have hx : Keeps noFld False H u₀ x := ?_; ?_); subst x; rotate_left; clear_value x) | subst x)
    | with_reducible exact noFld_apart _
    | with_reducible exact noFld_ne _
    | with_reducible apply State.setSpeed_keeps hC
    | with_reducible apply Keeps.wr
    | with_reducible apply Keeps.setReg
    | with_reducible apply Keeps.foldl
    | split
    | intro _
    | (with_reducible apply Keeps.lit <;> with_reducible first | rfl | assumption | exact fun _ h => h | exact fun _ _ => rfl | exact fun _ => rfl | exact fun h => h.elim)

theorem State.deliver_keeps (hC : Settles noFld) {s : State} {client : Nat} {u : Int} (hk : Keeps noFld False H u₀ s) :
    Keeps noFld False H u₀ (s.deliver client u) := by
  unfold State.deliver
  repeat' first
    | with_reducible assumption
    | (extract_lets +onlyGivenNames x; first | (refine (have hx : Keeps noFld False H u₀ x := ?_; ?_); subst x; rotate_left; clear_value x) | subst x)
    | with_reducible exact noFld_apart _
    | with_reducible exact noFld_ne _
    | with_reducible apply State.driveHb_keeps hC
    | with_reducible apply State.setCut_keeps hC
    | with_reducible apply State.setFeed_keeps hC
    | with_reducible apply State.wind_keeps hC
    | with_reducible apply Keeps.wr
    | with_reducible apply Keeps.setReg
    | with_reducible apply Keeps.foldl
    | split
    | intro _
    | (with_reducible apply Keeps.lit <;> with_reducible first | rfl | assumption | exact fun _ h => h | exact fun _ _ => rfl | exact fun _ => rfl | exact fun h => h.elim)

theorem State.tripLoop_keeps (hC : Settles noFld) {s : State} {k : Nat} {client : Nat} {cause : Nat} (hk : Keeps noFld False H u₀ s) :
    Keeps noFld False H u₀ (s.tripLoop k client cause) := by
  unfold State.tripLoop
  repeat' first
    | with_reducible assumption
    | (extract_lets +onlyGivenNames x; first | (refine (have hx : Keeps noFld False H u₀ x := ?_; ?_); subst x; rotate_left; clear_value x) | subst x)
    | with_reducible exact noFld_apart _
    | with_reducible exact noFld_ne _
    | with_reducible apply State.bump_keeps hC
    | with_reducible apply State.clientZero_keeps hC
    | with_reducible apply State.cutBrake_keeps hC
    | with_reducible apply State.cutEnd_keeps hC
    | with_reducible apply State.evtBit_keeps hC
    | with_reducible apply State.modLoop_keeps hC
    | with_reducible apply State.raise_keeps hC
    | with_reducible apply State.rodVec_keeps hC
    | with_reducible apply Keeps.wr
    | with_reducible apply Keeps.setReg
    | with_reducible apply Keeps.foldl
    | split
    | intro _
    | (with_reducible apply Keeps.lit <;> with_reducible first | rfl | assumption | exact fun _ h => h | exact fun _ _ => rfl | exact fun _ => rfl | exact fun h => h.elim)

theorem execLoopSample_keeps (hC : Settles noFld) {k : Fin 4} {meas : BitVec 16} {s : State} (hk : Keeps noFld False H u₀ s) :
    KeepsOut noFld False H u₀ (execLoopSample k meas s) := by
  unfold execLoopSample
  repeat' first
    | with_reducible assumption
    | (extract_lets +onlyGivenNames x; first | (refine (have hx : Keeps noFld False H u₀ x := ?_; ?_); subst x; rotate_left; clear_value x) | subst x)
    | with_reducible exact noFld_apart _
    | with_reducible exact noFld_ne _
    | with_reducible apply State.applyNow_keeps hC
    | with_reducible apply State.bump_keeps hC
    | with_reducible apply Keeps.fresh
    | with_reducible apply State.modLoop_keeps hC
    | with_reducible apply State.rampSpeed_keeps hC
    | with_reducible apply State.settle_keeps hC
    | with_reducible apply State.tripLoop_keeps hC
    | with_reducible apply Keeps.wr
    | with_reducible apply State.wrB_keeps hC
    | with_reducible apply State.wrI_keeps hC
    | with_reducible apply Keeps.setReg
    | with_reducible apply KeepsOut.next
    | with_reducible apply Keeps.foldl
    | split
    | intro _
    | (with_reducible apply Keeps.lit <;> with_reducible first | rfl | assumption | exact fun _ h => h | exact fun _ _ => rfl | exact fun _ => rfl | exact fun h => h.elim)

theorem execLoopOutput_keeps (hC : Settles noFld) {k : Fin 4} {s : State} (hk : Keeps noFld False H u₀ s) :
    KeepsOut noFld False H u₀ (execLoopOutput k s) := by
  unfold execLoopOutput
  repeat' first
    | with_reducible assumption
    | (extract_lets +onlyGivenNames x; first | (refine (have hx : Keeps noFld False H u₀ x := ?_; ?_); subst x; rotate_left; clear_value x) | subst x)
    | with_reducible exact noFld_apart _
    | with_reducible exact noFld_ne _
    | with_reducible apply State.deliver_keeps hC
    | with_reducible apply State.modLoop_keeps hC
    | with_reducible apply Keeps.wr
    | with_reducible apply Keeps.setReg
    | with_reducible apply KeepsOut.next
    | with_reducible apply Keeps.foldl
    | split
    | intro _
    | (with_reducible apply Keeps.lit <;> with_reducible first | rfl | assumption | exact fun _ h => h | exact fun _ _ => rfl | exact fun _ => rfl | exact fun h => h.elim)

theorem State.coefCommit_keeps (hC : Settles noFld) {s : State} {w : Option Window} (hk : Keeps noFld False H u₀ s) :
    Keeps noFld False H u₀ (s.coefCommit w).1 := by
  unfold State.coefCommit
  repeat' first
    | with_reducible assumption
    | (extract_lets +onlyGivenNames x; first | (refine (have hx : Keeps noFld False H u₀ x := ?_; ?_); subst x; rotate_left; clear_value x) | subst x)
    | with_reducible exact noFld_apart _
    | with_reducible exact noFld_ne _
    | with_reducible apply State.modLoop_keeps hC
    | with_reducible apply Keeps.wr
    | with_reducible apply Keeps.setReg
    | with_reducible apply Keeps.foldl
    | split
    | intro _
    | (with_reducible apply Keeps.lit <;> with_reducible first | rfl | assumption | exact fun _ h => h | exact fun _ _ => rfl | exact fun _ => rfl | exact fun h => h.elim)

theorem State.coefCommit_of (hC : Settles noFld) {s : State} {w : Option Window} {x₁ : State} {y0 : Bool} (he : (s.coefCommit w) = (x₁, y0))
    (hk : Keeps noFld False H u₀ s) : Keeps noFld False H u₀ x₁ := by
  have hr : Keeps noFld False H u₀ (s.coefCommit w).1 := State.coefCommit_keeps hC hk
  rw [he] at hr
  exact hr

theorem State.applyLoop_keeps (hC : Settles noFld) {s : State} {k : Nat} (hk : Keeps noFld False H u₀ s) :
    Keeps noFld False H u₀ (s.applyLoop k) := by
  unfold State.applyLoop
  repeat' first
    | with_reducible assumption
    | (extract_lets +onlyGivenNames x; first | (refine (have hx : Keeps noFld False H u₀ x := ?_; ?_); subst x; rotate_left; clear_value x) | subst x)
    | with_reducible exact noFld_apart _
    | with_reducible exact noFld_ne _
    | with_reducible apply State.applyDealt_keeps hC
    | with_reducible apply State.modLoop_keeps hC
    | with_reducible apply State.wrBit_keeps hC
    | with_reducible apply Keeps.wr
    | with_reducible apply Keeps.setReg
    | with_reducible apply Keeps.foldl
    | split
    | intro _
    | (with_reducible apply Keeps.lit <;> with_reducible first | rfl | assumption | exact fun _ h => h | exact fun _ _ => rfl | exact fun _ => rfl | exact fun h => h.elim)

theorem State.writeApply_keeps (hC : Settles noFld) {s : State} {w : Word} (hk : Keeps noFld False H u₀ s) :
    Keeps noFld False H u₀ (s.writeApply w) := by
  unfold State.writeApply
  repeat' first
    | with_reducible assumption
    | (extract_lets +onlyGivenNames x; first | (refine (have hx : Keeps noFld False H u₀ x := ?_; ?_); subst x; rotate_left; clear_value x) | subst x)
    | with_reducible exact noFld_apart _
    | with_reducible exact noFld_ne _
    | with_reducible apply State.applyLoop_keeps hC
    | with_reducible apply Keeps.wr
    | with_reducible apply Keeps.setReg
    | with_reducible apply Keeps.foldl
    | split
    | intro _
    | (with_reducible apply Keeps.lit <;> with_reducible first | rfl | assumption | exact fun _ h => h | exact fun _ _ => rfl | exact fun _ => rfl | exact fun h => h.elim)

theorem execApply_keeps (hC : Settles noFld) {mask : BitVec 32} {s : State} (hk : Keeps noFld False H u₀ s) :
    KeepsOut noFld False H u₀ (execApply mask s) := by
  unfold execApply
  repeat' first
    | with_reducible assumption
    | (extract_lets +onlyGivenNames x; first | (refine (have hx : Keeps noFld False H u₀ x := ?_; ?_); subst x; rotate_left; clear_value x) | subst x)
    | with_reducible exact noFld_apart _
    | with_reducible exact noFld_ne _
    | with_reducible refine State.hostReg_keeps hC ?_ ?_
    | with_reducible apply State.writeApply_keeps hC
    | with_reducible apply Keeps.wr
    | with_reducible apply Keeps.setReg
    | with_reducible apply KeepsOut.next
    | with_reducible apply Keeps.foldl
    | split
    | intro _
    | (with_reducible apply Keeps.lit <;> with_reducible first | rfl | assumption | exact fun _ h => h | exact fun _ _ => rfl | exact fun _ => rfl | exact fun h => h.elim)

theorem State.writeCoefWin_keeps (hC : Settles noFld) {s : State} {lane : Nat} {w : Word} (hk : Keeps noFld False H u₀ s) :
    Keeps noFld False H u₀ (s.writeCoefWin lane w).1 := by
  unfold State.writeCoefWin
  repeat' first
    | with_reducible assumption
    | (extract_lets +onlyGivenNames x; first | (refine (have hx : Keeps noFld False H u₀ x := ?_; ?_); subst x; rotate_left; clear_value x) | subst x)
    | with_reducible exact noFld_apart _
    | with_reducible exact noFld_ne _
    | with_reducible refine State.coefCommit_of hC (by with_reducible assumption) ?_
    | with_reducible apply State.coefCommit_keeps hC
    | with_reducible apply Keeps.wr
    | with_reducible apply Keeps.setReg
    | with_reducible apply Keeps.foldl
    | split
    | intro _
    | (with_reducible apply Keeps.lit <;> with_reducible first | rfl | assumption | exact fun _ h => h | exact fun _ _ => rfl | exact fun _ => rfl | exact fun h => h.elim)

theorem State.writeCoefWin_of (hC : Settles noFld) {s : State} {lane : Nat} {w : Word} {x₁ : State} {y0 : Bool} (he : (s.writeCoefWin lane w) = (x₁, y0))
    (hk : Keeps noFld False H u₀ s) : Keeps noFld False H u₀ x₁ := by
  have hr : Keeps noFld False H u₀ (s.writeCoefWin lane w).1 := State.writeCoefWin_keeps hC hk
  rw [he] at hr
  exact hr

theorem execCoefCommit_keeps (hC : Settles noFld) {w : BitVec 32} {s : State} (hk : Keeps noFld False H u₀ s) :
    KeepsOut noFld False H u₀ (execCoefCommit w s) := by
  unfold execCoefCommit
  repeat' first
    | with_reducible assumption
    | (extract_lets +onlyGivenNames x; first | (refine (have hx : Keeps noFld False H u₀ x := ?_; ?_); subst x; rotate_left; clear_value x) | subst x)
    | with_reducible exact noFld_apart _
    | with_reducible exact noFld_ne _
    | with_reducible refine State.hostReg_keeps hC ?_ ?_
    | with_reducible refine State.writeCoefWin_of hC (by with_reducible assumption) ?_
    | with_reducible apply State.writeCoefWin_keeps hC
    | with_reducible apply Keeps.wr
    | with_reducible apply Keeps.setReg
    | with_reducible apply KeepsOut.next
    | with_reducible apply Keeps.foldl
    | split
    | intro _
    | (with_reducible apply Keeps.lit <;> with_reducible first | rfl | assumption | exact fun _ h => h | exact fun _ _ => rfl | exact fun _ => rfl | exact fun h => h.elim)

end Sys2Proof.Machine
end

