-- ==== Sys2Proof/Laws/KeepsSystem.lean ====
section
/-! SUPPORT. What each operation and each command keeps, for supplies, resets, modes, queues, flash, the mover, the camera, pictures, the raster, background work and the ledger: one lemma per operation, each by the
lemmas of the operations it calls. -/

namespace Sys2Proof.Machine

set_option linter.all false
set_option Elab.async false

variable {C : Fld → Prop} {D H : Prop} {u₀ : State}

theorem State.setSup_keeps (hC : Settles noFld) {s : State} {f : Supply → Supply} (hk : Keeps noFld False H u₀ s) :
    Keeps noFld False H u₀ (s.setSup f) := by
  unfold State.setSup
  repeat' first
    | with_reducible assumption
    | (extract_lets +onlyGivenNames x; first | (refine (have hx : Keeps noFld False H u₀ x := ?_; ?_); subst x; rotate_left; clear_value x) | subst x)
    | with_reducible exact noFld_apart _
    | with_reducible exact noFld_ne _
    | with_reducible apply Keeps.wr
    | with_reducible apply Keeps.setReg
    | with_reducible apply Keeps.foldl
    | split
    | intro _
    | (with_reducible apply Keeps.lit <;> with_reducible first | rfl | assumption | exact fun _ h => h | exact fun _ _ => rfl | exact fun _ => rfl | exact fun h => h.elim)

theorem State.writeVcoreTgt_keeps (hC : Settles noFld) {s : State} {w : Word} (hk : Keeps noFld False H u₀ s) :
    Keeps noFld False H u₀ (s.writeVcoreTgt w) := by
  unfold State.writeVcoreTgt
  repeat' first
    | with_reducible assumption
    | (extract_lets +onlyGivenNames x; first | (refine (have hx : Keeps noFld False H u₀ x := ?_; ?_); subst x; rotate_left; clear_value x) | subst x)
    | with_reducible exact noFld_apart _
    | with_reducible exact noFld_ne _
    | with_reducible apply State.vcoreTarget_keeps hC
    | with_reducible apply Keeps.wr
    | with_reducible apply Keeps.setReg
    | with_reducible apply Keeps.foldl
    | split
    | intro _
    | (with_reducible apply Keeps.lit <;> with_reducible first | rfl | assumption | exact fun _ h => h | exact fun _ _ => rfl | exact fun _ => rfl | exact fun h => h.elim)

theorem execVcoreTgtWrite_keeps (hC : Settles noFld) {w : BitVec 32} {s : State} (hk : Keeps noFld False H u₀ s) :
    KeepsOut noFld False H u₀ (execVcoreTgtWrite w s) := by
  unfold execVcoreTgtWrite
  repeat' first
    | with_reducible assumption
    | (extract_lets +onlyGivenNames x; first | (refine (have hx : Keeps noFld False H u₀ x := ?_; ?_); subst x; rotate_left; clear_value x) | subst x)
    | with_reducible exact noFld_apart _
    | with_reducible exact noFld_ne _
    | with_reducible refine State.hostReg_keeps hC ?_ ?_
    | with_reducible apply State.writeVcoreTgt_keeps hC
    | with_reducible apply Keeps.wr
    | with_reducible apply Keeps.setReg
    | with_reducible apply KeepsOut.next
    | with_reducible apply Keeps.foldl
    | split
    | intro _
    | (with_reducible apply Keeps.lit <;> with_reducible first | rfl | assumption | exact fun _ h => h | exact fun _ _ => rfl | exact fun _ => rfl | exact fun h => h.elim)

theorem State.writeVhTgt_keeps (hC : Settles noFld) {s : State} {w : Word} (hk : Keeps noFld False H u₀ s) :
    Keeps noFld False H u₀ (s.writeVhTgt w) := by
  unfold State.writeVhTgt
  repeat' first
    | with_reducible assumption
    | (extract_lets +onlyGivenNames x; first | (refine (have hx : Keeps noFld False H u₀ x := ?_; ?_); subst x; rotate_left; clear_value x) | subst x)
    | with_reducible exact noFld_apart _
    | with_reducible exact noFld_ne _
    | with_reducible apply Keeps.wr
    | with_reducible apply Keeps.setReg
    | with_reducible apply Keeps.foldl
    | split
    | intro _
    | (with_reducible apply Keeps.lit <;> with_reducible first | rfl | assumption | exact fun _ h => h | exact fun _ _ => rfl | exact fun _ => rfl | exact fun h => h.elim)

theorem execVhTgtWrite_keeps (hC : Settles noFld) {w : BitVec 32} {s : State} (hk : Keeps noFld False H u₀ s) :
    KeepsOut noFld False H u₀ (execVhTgtWrite w s) := by
  unfold execVhTgtWrite
  repeat' first
    | with_reducible assumption
    | (extract_lets +onlyGivenNames x; first | (refine (have hx : Keeps noFld False H u₀ x := ?_; ?_); subst x; rotate_left; clear_value x) | subst x)
    | with_reducible exact noFld_apart _
    | with_reducible exact noFld_ne _
    | with_reducible refine State.hostReg_keeps hC ?_ ?_
    | with_reducible apply State.writeVhTgt_keeps hC
    | with_reducible apply Keeps.wr
    | with_reducible apply Keeps.setReg
    | with_reducible apply KeepsOut.next
    | with_reducible apply Keeps.foldl
    | split
    | intro _
    | (with_reducible apply Keeps.lit <;> with_reducible first | rfl | assumption | exact fun _ h => h | exact fun _ _ => rfl | exact fun _ => rfl | exact fun h => h.elim)

theorem State.writeVhCtl_keeps (hC : Settles noFld) {s : State} {w : Word} (hk : Keeps noFld False H u₀ s) :
    Keeps noFld False H u₀ (s.writeVhCtl w) := by
  unfold State.writeVhCtl
  repeat' first
    | with_reducible assumption
    | (extract_lets +onlyGivenNames x; first | (refine (have hx : Keeps noFld False H u₀ x := ?_; ?_); subst x; rotate_left; clear_value x) | subst x)
    | with_reducible exact noFld_apart _
    | with_reducible exact noFld_ne _
    | with_reducible apply Keeps.wr
    | with_reducible apply Keeps.setReg
    | with_reducible apply Keeps.foldl
    | split
    | intro _
    | (with_reducible apply Keeps.lit <;> with_reducible first | rfl | assumption | exact fun _ h => h | exact fun _ _ => rfl | exact fun _ => rfl | exact fun h => h.elim)

theorem execVhCtlWrite_keeps (hC : Settles noFld) {w : BitVec 32} {s : State} (hk : Keeps noFld False H u₀ s) :
    KeepsOut noFld False H u₀ (execVhCtlWrite w s) := by
  unfold execVhCtlWrite
  repeat' first
    | with_reducible assumption
    | (extract_lets +onlyGivenNames x; first | (refine (have hx : Keeps noFld False H u₀ x := ?_; ?_); subst x; rotate_left; clear_value x) | subst x)
    | with_reducible exact noFld_apart _
    | with_reducible exact noFld_ne _
    | with_reducible refine State.hostReg_keeps hC ?_ ?_
    | with_reducible apply State.settle_keeps hC
    | with_reducible apply State.writeVhCtl_keeps hC
    | with_reducible apply Keeps.wr
    | with_reducible apply Keeps.setReg
    | with_reducible apply KeepsOut.next
    | with_reducible apply Keeps.foldl
    | split
    | intro _
    | (with_reducible apply Keeps.lit <;> with_reducible first | rfl | assumption | exact fun _ h => h | exact fun _ _ => rfl | exact fun _ => rfl | exact fun h => h.elim)

theorem State.levelWrite_keeps (hC : Settles noFld) {s : State} {f : Fld} {lo : Nat} {hi : Nat} {lvl : Nat} {order : Bool} (hk : Keeps noFld False H u₀ s) :
    Keeps noFld False H u₀ (s.levelWrite f lo hi lvl order) := by
  unfold State.levelWrite
  repeat' first
    | with_reducible assumption
    | (extract_lets +onlyGivenNames x; first | (refine (have hx : Keeps noFld False H u₀ x := ?_; ?_); subst x; rotate_left; clear_value x) | subst x)
    | with_reducible exact noFld_apart _
    | with_reducible exact noFld_ne _
    | with_reducible apply State.evt_keeps hC
    | with_reducible apply Keeps.wr
    | with_reducible apply Keeps.setReg
    | with_reducible apply Keeps.foldl
    | split
    | intro _
    | (with_reducible apply Keeps.lit <;> with_reducible first | rfl | assumption | exact fun _ h => h | exact fun _ _ => rfl | exact fun _ => rfl | exact fun h => h.elim)

theorem State.writeVinFloor_keeps (hC : Settles noFld) {s : State} {w : Word} (hk : Keeps noFld False H u₀ s) :
    Keeps noFld False H u₀ (s.writeVinFloor w) := by
  unfold State.writeVinFloor
  repeat' first
    | with_reducible assumption
    | (extract_lets +onlyGivenNames x; first | (refine (have hx : Keeps noFld False H u₀ x := ?_; ?_); subst x; rotate_left; clear_value x) | subst x)
    | with_reducible exact noFld_apart _
    | with_reducible exact noFld_ne _
    | with_reducible apply State.levelWrite_keeps hC
    | with_reducible apply Keeps.wr
    | with_reducible apply Keeps.setReg
    | with_reducible apply Keeps.foldl
    | split
    | intro _
    | (with_reducible apply Keeps.lit <;> with_reducible first | rfl | assumption | exact fun _ h => h | exact fun _ _ => rfl | exact fun _ => rfl | exact fun h => h.elim)

theorem State.writeVinCrit_keeps (hC : Settles noFld) {s : State} {w : Word} (hk : Keeps noFld False H u₀ s) :
    Keeps noFld False H u₀ (s.writeVinCrit w) := by
  unfold State.writeVinCrit
  repeat' first
    | with_reducible assumption
    | (extract_lets +onlyGivenNames x; first | (refine (have hx : Keeps noFld False H u₀ x := ?_; ?_); subst x; rotate_left; clear_value x) | subst x)
    | with_reducible exact noFld_apart _
    | with_reducible exact noFld_ne _
    | with_reducible apply State.levelWrite_keeps hC
    | with_reducible apply Keeps.wr
    | with_reducible apply Keeps.setReg
    | with_reducible apply Keeps.foldl
    | split
    | intro _
    | (with_reducible apply Keeps.lit <;> with_reducible first | rfl | assumption | exact fun _ h => h | exact fun _ _ => rfl | exact fun _ => rfl | exact fun h => h.elim)

theorem State.writeVmCeil_keeps (hC : Settles noFld) {s : State} {w : Word} (hk : Keeps noFld False H u₀ s) :
    Keeps noFld False H u₀ (s.writeVmCeil w) := by
  unfold State.writeVmCeil
  repeat' first
    | with_reducible assumption
    | (extract_lets +onlyGivenNames x; first | (refine (have hx : Keeps noFld False H u₀ x := ?_; ?_); subst x; rotate_left; clear_value x) | subst x)
    | with_reducible exact noFld_apart _
    | with_reducible exact noFld_ne _
    | with_reducible apply State.levelWrite_keeps hC
    | with_reducible apply Keeps.wr
    | with_reducible apply Keeps.setReg
    | with_reducible apply Keeps.foldl
    | split
    | intro _
    | (with_reducible apply Keeps.lit <;> with_reducible first | rfl | assumption | exact fun _ h => h | exact fun _ _ => rfl | exact fun _ => rfl | exact fun h => h.elim)

theorem State.writeVmDump_keeps (hC : Settles noFld) {s : State} {w : Word} (hk : Keeps noFld False H u₀ s) :
    Keeps noFld False H u₀ (s.writeVmDump w) := by
  unfold State.writeVmDump
  repeat' first
    | with_reducible assumption
    | (extract_lets +onlyGivenNames x; first | (refine (have hx : Keeps noFld False H u₀ x := ?_; ?_); subst x; rotate_left; clear_value x) | subst x)
    | with_reducible exact noFld_apart _
    | with_reducible exact noFld_ne _
    | with_reducible apply State.levelWrite_keeps hC
    | with_reducible apply Keeps.wr
    | with_reducible apply Keeps.setReg
    | with_reducible apply Keeps.foldl
    | split
    | intro _
    | (with_reducible apply Keeps.lit <;> with_reducible first | rfl | assumption | exact fun _ h => h | exact fun _ _ => rfl | exact fun _ => rfl | exact fun h => h.elim)

theorem execVinFloorWrite_keeps (hC : Settles noFld) {w : BitVec 32} {s : State} (hk : Keeps noFld False H u₀ s) :
    KeepsOut noFld False H u₀ (execVinFloorWrite w s) := by
  unfold execVinFloorWrite
  repeat' first
    | with_reducible assumption
    | (extract_lets +onlyGivenNames x; first | (refine (have hx : Keeps noFld False H u₀ x := ?_; ?_); subst x; rotate_left; clear_value x) | subst x)
    | with_reducible exact noFld_apart _
    | with_reducible exact noFld_ne _
    | with_reducible refine State.hostReg_keeps hC ?_ ?_
    | with_reducible apply State.writeVinFloor_keeps hC
    | with_reducible apply Keeps.wr
    | with_reducible apply Keeps.setReg
    | with_reducible apply KeepsOut.next
    | with_reducible apply Keeps.foldl
    | split
    | intro _
    | (with_reducible apply Keeps.lit <;> with_reducible first | rfl | assumption | exact fun _ h => h | exact fun _ _ => rfl | exact fun _ => rfl | exact fun h => h.elim)

theorem execVinCritWrite_keeps (hC : Settles noFld) {w : BitVec 32} {s : State} (hk : Keeps noFld False H u₀ s) :
    KeepsOut noFld False H u₀ (execVinCritWrite w s) := by
  unfold execVinCritWrite
  repeat' first
    | with_reducible assumption
    | (extract_lets +onlyGivenNames x; first | (refine (have hx : Keeps noFld False H u₀ x := ?_; ?_); subst x; rotate_left; clear_value x) | subst x)
    | with_reducible exact noFld_apart _
    | with_reducible exact noFld_ne _
    | with_reducible refine State.hostReg_keeps hC ?_ ?_
    | with_reducible apply State.writeVinCrit_keeps hC
    | with_reducible apply Keeps.wr
    | with_reducible apply Keeps.setReg
    | with_reducible apply KeepsOut.next
    | with_reducible apply Keeps.foldl
    | split
    | intro _
    | (with_reducible apply Keeps.lit <;> with_reducible first | rfl | assumption | exact fun _ h => h | exact fun _ _ => rfl | exact fun _ => rfl | exact fun h => h.elim)

theorem execVmCeilWrite_keeps (hC : Settles noFld) {w : BitVec 32} {s : State} (hk : Keeps noFld False H u₀ s) :
    KeepsOut noFld False H u₀ (execVmCeilWrite w s) := by
  unfold execVmCeilWrite
  repeat' first
    | with_reducible assumption
    | (extract_lets +onlyGivenNames x; first | (refine (have hx : Keeps noFld False H u₀ x := ?_; ?_); subst x; rotate_left; clear_value x) | subst x)
    | with_reducible exact noFld_apart _
    | with_reducible exact noFld_ne _
    | with_reducible refine State.hostReg_keeps hC ?_ ?_
    | with_reducible apply State.writeVmCeil_keeps hC
    | with_reducible apply Keeps.wr
    | with_reducible apply Keeps.setReg
    | with_reducible apply KeepsOut.next
    | with_reducible apply Keeps.foldl
    | split
    | intro _
    | (with_reducible apply Keeps.lit <;> with_reducible first | rfl | assumption | exact fun _ h => h | exact fun _ _ => rfl | exact fun _ => rfl | exact fun h => h.elim)

theorem execVmDumpWrite_keeps (hC : Settles noFld) {w : BitVec 32} {s : State} (hk : Keeps noFld False H u₀ s) :
    KeepsOut noFld False H u₀ (execVmDumpWrite w s) := by
  unfold execVmDumpWrite
  repeat' first
    | with_reducible assumption
    | (extract_lets +onlyGivenNames x; first | (refine (have hx : Keeps noFld False H u₀ x := ?_; ?_); subst x; rotate_left; clear_value x) | subst x)
    | with_reducible exact noFld_apart _
    | with_reducible exact noFld_ne _
    | with_reducible refine State.hostReg_keeps hC ?_ ?_
    | with_reducible apply State.writeVmDump_keeps hC
    | with_reducible apply Keeps.wr
    | with_reducible apply Keeps.setReg
    | with_reducible apply KeepsOut.next
    | with_reducible apply Keeps.foldl
    | split
    | intro _
    | (with_reducible apply Keeps.lit <;> with_reducible first | rfl | assumption | exact fun _ h => h | exact fun _ _ => rfl | exact fun _ => rfl | exact fun h => h.elim)

theorem State.setVcore_keeps (hC : Settles noFld) {s : State} {uv : Nat} (hk : Keeps noFld False H u₀ s) :
    Keeps noFld False H u₀ (s.setVcore uv) := by
  unfold State.setVcore
  repeat' first
    | with_reducible assumption
    | (extract_lets +onlyGivenNames x; first | (refine (have hx : Keeps noFld False H u₀ x := ?_; ?_); subst x; rotate_left; clear_value x) | subst x)
    | with_reducible exact noFld_apart _
    | with_reducible exact noFld_ne _
    | with_reducible apply State.setSup_keeps hC
    | with_reducible apply Keeps.wr
    | with_reducible apply Keeps.setReg
    | with_reducible apply Keeps.foldl
    | split
    | intro _
    | (with_reducible apply Keeps.lit <;> with_reducible first | rfl | assumption | exact fun _ h => h | exact fun _ _ => rfl | exact fun _ => rfl | exact fun h => h.elim)

theorem State.setVh_keeps (hC : Settles noFld) {s : State} {uv : Nat} (hk : Keeps noFld False H u₀ s) :
    Keeps noFld False H u₀ (s.setVh uv) := by
  unfold State.setVh
  repeat' first
    | with_reducible assumption
    | (extract_lets +onlyGivenNames x; first | (refine (have hx : Keeps noFld False H u₀ x := ?_; ?_); subst x; rotate_left; clear_value x) | subst x)
    | with_reducible exact noFld_apart _
    | with_reducible exact noFld_ne _
    | with_reducible apply State.setSup_keeps hC
    | with_reducible apply Keeps.wr
    | with_reducible apply Keeps.setReg
    | with_reducible apply Keeps.foldl
    | split
    | intro _
    | (with_reducible apply Keeps.lit <;> with_reducible first | rfl | assumption | exact fun _ h => h | exact fun _ _ => rfl | exact fun _ => rfl | exact fun h => h.elim)

theorem State.vhWatch_keeps (hC : Settles noFld) {s : State} {uv : Nat} (hk : Keeps noFld False H u₀ s) :
    Keeps noFld False H u₀ (s.vhWatch uv) := by
  unfold State.vhWatch
  repeat' first
    | with_reducible assumption
    | (extract_lets +onlyGivenNames x; first | (refine (have hx : Keeps noFld False H u₀ x := ?_; ?_); subst x; rotate_left; clear_value x) | subst x)
    | with_reducible exact noFld_apart _
    | with_reducible exact noFld_ne _
    | with_reducible apply State.vhSwitch_keeps hC
    | with_reducible apply Keeps.wr
    | with_reducible apply Keeps.setReg
    | with_reducible apply Keeps.foldl
    | split
    | intro _
    | (with_reducible apply Keeps.lit <;> with_reducible first | rfl | assumption | exact fun _ h => h | exact fun _ _ => rfl | exact fun _ => rfl | exact fun h => h.elim)

theorem State.rampTick_keeps (hC : Settles noFld) {s : State} (hk : Keeps noFld False H u₀ s) :
    Keeps noFld False H u₀ (s.rampTick) := by
  unfold State.rampTick
  repeat' first
    | with_reducible assumption
    | (extract_lets +onlyGivenNames x; first | (refine (have hx : Keeps noFld False H u₀ x := ?_; ?_); subst x; rotate_left; clear_value x) | subst x)
    | with_reducible exact noFld_apart _
    | with_reducible exact noFld_ne _
    | with_reducible apply Keeps.fresh
    | with_reducible apply State.setVcore_keeps hC
    | with_reducible apply State.setVh_keeps hC
    | with_reducible apply State.vhWatch_keeps hC
    | with_reducible apply Keeps.wr
    | with_reducible apply Keeps.setReg
    | with_reducible apply Keeps.foldl
    | split
    | intro _
    | (with_reducible apply Keeps.lit <;> with_reducible first | rfl | assumption | exact fun _ h => h | exact fun _ _ => rfl | exact fun _ => rfl | exact fun h => h.elim)

theorem execVcoreSettled_keeps (hC : Settles noFld) {mv : BitVec 16} {s : State} (hk : Keeps noFld False H u₀ s) :
    KeepsOut noFld False H u₀ (execVcoreSettled mv s) := by
  unfold execVcoreSettled
  repeat' first
    | with_reducible assumption
    | (extract_lets +onlyGivenNames x; first | (refine (have hx : Keeps noFld False H u₀ x := ?_; ?_); subst x; rotate_left; clear_value x) | subst x)
    | with_reducible exact noFld_apart _
    | with_reducible exact noFld_ne _
    | with_reducible apply State.dvfsPending_keeps hC
    | with_reducible apply State.dvfsSettled_keeps hC
    | with_reducible apply State.evt_keeps hC
    | with_reducible apply State.setSup_keeps hC
    | with_reducible apply State.setVcore_keeps hC
    | with_reducible apply State.settle_keeps hC
    | with_reducible apply Keeps.wr
    | with_reducible apply Keeps.setReg
    | with_reducible apply KeepsOut.next
    | with_reducible apply Keeps.foldl
    | split
    | intro _
    | (with_reducible apply Keeps.lit <;> with_reducible first | rfl | assumption | exact fun _ h => h | exact fun _ _ => rfl | exact fun _ => rfl | exact fun h => h.elim)

theorem execVhSettled_keeps (hC : Settles noFld) {s : State} (hk : Keeps noFld False H u₀ s) :
    KeepsOut noFld False H u₀ (execVhSettled s) := by
  unfold execVhSettled
  repeat' first
    | with_reducible assumption
    | (extract_lets +onlyGivenNames x; first | (refine (have hx : Keeps noFld False H u₀ x := ?_; ?_); subst x; rotate_left; clear_value x) | subst x)
    | with_reducible exact noFld_apart _
    | with_reducible exact noFld_ne _
    | with_reducible apply State.evt_keeps hC
    | with_reducible apply State.setPrint_keeps hC
    | with_reducible apply State.setVh_keeps hC
    | with_reducible apply State.settle_keeps hC
    | with_reducible apply Keeps.wr
    | with_reducible apply Keeps.setReg
    | with_reducible apply KeepsOut.next
    | with_reducible apply Keeps.foldl
    | split
    | intro _
    | (with_reducible apply Keeps.lit <;> with_reducible first | rfl | assumption | exact fun _ h => h | exact fun _ _ => rfl | exact fun _ => rfl | exact fun h => h.elim)

theorem execVhDischarged_keeps (hC : Settles noFld) {s : State} (hk : Keeps noFld False H u₀ s) :
    KeepsOut noFld False H u₀ (execVhDischarged s) := by
  unfold execVhDischarged
  repeat' first
    | with_reducible assumption
    | (extract_lets +onlyGivenNames x; first | (refine (have hx : Keeps noFld False H u₀ x := ?_; ?_); subst x; rotate_left; clear_value x) | subst x)
    | with_reducible exact noFld_apart _
    | with_reducible exact noFld_ne _
    | with_reducible apply State.vhSwitch_keeps hC
    | with_reducible apply Keeps.wr
    | with_reducible apply Keeps.setReg
    | with_reducible apply KeepsOut.next
    | with_reducible apply Keeps.foldl
    | split
    | intro _
    | (with_reducible apply Keeps.lit <;> with_reducible first | rfl | assumption | exact fun _ h => h | exact fun _ _ => rfl | exact fun _ => rfl | exact fun h => h.elim)

theorem execVinFloor_keeps (hC : Settles noFld) {s : State} (hk : Keeps noFld False H u₀ s) :
    KeepsOut noFld False H u₀ (execVinFloor s) := by
  unfold execVinFloor
  repeat' first
    | with_reducible assumption
    | (extract_lets +onlyGivenNames x; first | (refine (have hx : Keeps noFld False H u₀ x := ?_; ?_); subst x; rotate_left; clear_value x) | subst x)
    | with_reducible exact noFld_apart _
    | with_reducible exact noFld_ne _
    | with_reducible apply State.bump_keeps hC
    | with_reducible apply State.evt_keeps hC
    | with_reducible apply State.setPrint_keeps hC
    | with_reducible apply Keeps.wr
    | with_reducible apply Keeps.setReg
    | with_reducible apply KeepsOut.next
    | with_reducible apply Keeps.foldl
    | split
    | intro _
    | (with_reducible apply Keeps.lit <;> with_reducible first | rfl | assumption | exact fun _ h => h | exact fun _ _ => rfl | exact fun _ => rfl | exact fun h => h.elim)

theorem execVinCrit_keeps (hC : Settles noFld) {s : State} (hk : Keeps noFld False H u₀ s) :
    KeepsOut noFld False H u₀ (execVinCrit s) := by
  unfold execVinCrit
  repeat' first
    | with_reducible assumption
    | (extract_lets +onlyGivenNames x; first | (refine (have hx : Keeps noFld False H u₀ x := ?_; ?_); subst x; rotate_left; clear_value x) | subst x)
    | with_reducible exact noFld_apart _
    | with_reducible exact noFld_ne _
    | with_reducible apply State.bump_keeps hC
    | with_reducible apply State.evt_keeps hC
    | with_reducible apply State.settle_keeps hC
    | with_reducible apply State.tear_keeps hC
    | with_reducible apply State.vec_keeps hC
    | with_reducible apply Keeps.wr
    | with_reducible apply Keeps.setReg
    | with_reducible apply KeepsOut.next
    | with_reducible apply Keeps.foldl
    | split
    | intro _
    | (with_reducible apply Keeps.lit <;> with_reducible first | rfl | assumption | exact fun _ h => h | exact fun _ _ => rfl | exact fun _ => rfl | exact fun h => h.elim)

theorem execVmCeil_keeps (hC : Settles noFld) {s : State} (hk : Keeps noFld False H u₀ s) :
    KeepsOut noFld False H u₀ (execVmCeil s) := by
  unfold execVmCeil
  repeat' first
    | with_reducible assumption
    | (extract_lets +onlyGivenNames x; first | (refine (have hx : Keeps noFld False H u₀ x := ?_; ?_); subst x; rotate_left; clear_value x) | subst x)
    | with_reducible exact noFld_apart _
    | with_reducible exact noFld_ne _
    | with_reducible apply State.evt_keeps hC
    | with_reducible apply State.setSup_keeps hC
    | with_reducible apply Keeps.wr
    | with_reducible apply Keeps.setReg
    | with_reducible apply KeepsOut.next
    | with_reducible apply Keeps.foldl
    | split
    | intro _
    | (with_reducible apply Keeps.lit <;> with_reducible first | rfl | assumption | exact fun _ h => h | exact fun _ _ => rfl | exact fun _ => rfl | exact fun h => h.elim)

theorem execVmCeilClear_keeps (hC : Settles noFld) {s : State} (hk : Keeps noFld False H u₀ s) :
    KeepsOut noFld False H u₀ (execVmCeilClear s) := by
  unfold execVmCeilClear
  repeat' first
    | with_reducible assumption
    | (extract_lets +onlyGivenNames x; first | (refine (have hx : Keeps noFld False H u₀ x := ?_; ?_); subst x; rotate_left; clear_value x) | subst x)
    | with_reducible exact noFld_apart _
    | with_reducible exact noFld_ne _
    | with_reducible apply State.setSup_keeps hC
    | with_reducible apply Keeps.wr
    | with_reducible apply Keeps.setReg
    | with_reducible apply KeepsOut.next
    | with_reducible apply Keeps.foldl
    | split
    | intro _
    | (with_reducible apply Keeps.lit <;> with_reducible first | rfl | assumption | exact fun _ h => h | exact fun _ _ => rfl | exact fun _ => rfl | exact fun h => h.elim)

theorem execVmDump_keeps (hC : Settles noFld) {s : State} (hk : Keeps noFld False H u₀ s) :
    KeepsOut noFld False H u₀ (execVmDump s) := by
  unfold execVmDump
  repeat' first
    | with_reducible assumption
    | (extract_lets +onlyGivenNames x; first | (refine (have hx : Keeps noFld False H u₀ x := ?_; ?_); subst x; rotate_left; clear_value x) | subst x)
    | with_reducible exact noFld_apart _
    | with_reducible exact noFld_ne _
    | with_reducible apply State.bump_keeps hC
    | with_reducible apply Keeps.count
    | with_reducible apply State.evt_keeps hC
    | with_reducible apply Keeps.wr
    | with_reducible apply Keeps.setReg
    | with_reducible apply KeepsOut.next
    | with_reducible apply Keeps.foldl
    | split
    | intro _
    | (with_reducible apply Keeps.lit <;> with_reducible first | rfl | assumption | exact fun _ h => h | exact fun _ _ => rfl | exact fun _ => rfl | exact fun h => h.elim)

theorem execDumpRelease_keeps (hC : Settles noFld) {s : State} (hk : Keeps noFld False H u₀ s) :
    KeepsOut noFld False H u₀ (execDumpRelease s) := by
  unfold execDumpRelease
  repeat' first
    | with_reducible assumption
    | (extract_lets +onlyGivenNames x; first | (refine (have hx : Keeps noFld False H u₀ x := ?_; ?_); subst x; rotate_left; clear_value x) | subst x)
    | with_reducible exact noFld_apart _
    | with_reducible exact noFld_ne _
    | with_reducible apply State.setSup_keeps hC
    | with_reducible apply Keeps.wr
    | with_reducible apply Keeps.setReg
    | with_reducible apply KeepsOut.next
    | with_reducible apply Keeps.foldl
    | split
    | intro _
    | (with_reducible apply Keeps.lit <;> with_reducible first | rfl | assumption | exact fun _ h => h | exact fun _ _ => rfl | exact fun _ => rfl | exact fun h => h.elim)

theorem execVmTrip_keeps (hC : Settles noFld) {vm : BitVec 16} {s : State} (hk : Keeps noFld False H u₀ s) :
    KeepsOut noFld False H u₀ (execVmTrip vm s) := by
  unfold execVmTrip
  repeat' first
    | with_reducible assumption
    | (extract_lets +onlyGivenNames x; first | (refine (have hx : Keeps noFld False H u₀ x := ?_; ?_); subst x; rotate_left; clear_value x) | subst x)
    | with_reducible exact noFld_apart _
    | with_reducible exact noFld_ne _
    | with_reducible apply State.raise_keeps hC
    | with_reducible apply State.settle_keeps hC
    | with_reducible apply Keeps.wr
    | with_reducible apply Keeps.setReg
    | with_reducible apply KeepsOut.next
    | with_reducible apply Keeps.foldl
    | split
    | intro _
    | (with_reducible apply Keeps.lit <;> with_reducible first | rfl | assumption | exact fun _ h => h | exact fun _ _ => rfl | exact fun _ => rfl | exact fun h => h.elim)

theorem execDumpOverrun_keeps (hC : Settles noFld) {vm : BitVec 16} {s : State} (hk : Keeps noFld False H u₀ s) :
    KeepsOut noFld False H u₀ (execDumpOverrun vm s) := by
  unfold execDumpOverrun
  repeat' first
    | with_reducible assumption
    | (extract_lets +onlyGivenNames x; first | (refine (have hx : Keeps noFld False H u₀ x := ?_; ?_); subst x; rotate_left; clear_value x) | subst x)
    | with_reducible exact noFld_apart _
    | with_reducible exact noFld_ne _
    | with_reducible apply State.raise_keeps hC
    | with_reducible apply State.setSup_keeps hC
    | with_reducible apply State.settle_keeps hC
    | with_reducible apply Keeps.wr
    | with_reducible apply Keeps.setReg
    | with_reducible apply KeepsOut.next
    | with_reducible apply Keeps.foldl
    | split
    | intro _
    | (with_reducible apply Keeps.lit <;> with_reducible first | rfl | assumption | exact fun _ h => h | exact fun _ _ => rfl | exact fun _ => rfl | exact fun h => h.elim)

theorem State.vhFault_keeps (hC : Settles noFld) {s : State} {code : Nat} {vh : Nat} (hk : Keeps noFld False H u₀ s) :
    Keeps noFld False H u₀ (s.vhFault code vh) := by
  unfold State.vhFault
  repeat' first
    | with_reducible assumption
    | (extract_lets +onlyGivenNames x; first | (refine (have hx : Keeps noFld False H u₀ x := ?_; ?_); subst x; rotate_left; clear_value x) | subst x)
    | with_reducible exact noFld_apart _
    | with_reducible exact noFld_ne _
    | with_reducible apply State.raise_keeps hC
    | with_reducible apply State.settle_keeps hC
    | with_reducible apply Keeps.wr
    | with_reducible apply Keeps.setReg
    | with_reducible apply Keeps.foldl
    | split
    | intro _
    | (with_reducible apply Keeps.lit <;> with_reducible first | rfl | assumption | exact fun _ h => h | exact fun _ _ => rfl | exact fun _ => rfl | exact fun h => h.elim)

theorem execVhOvp_keeps (hC : Settles noFld) {vh : BitVec 16} {s : State} (hk : Keeps noFld False H u₀ s) :
    KeepsOut noFld False H u₀ (execVhOvp vh s) := by
  unfold execVhOvp
  repeat' first
    | with_reducible assumption
    | (extract_lets +onlyGivenNames x; first | (refine (have hx : Keeps noFld False H u₀ x := ?_; ?_); subst x; rotate_left; clear_value x) | subst x)
    | with_reducible exact noFld_apart _
    | with_reducible exact noFld_ne _
    | with_reducible apply State.vhFault_keeps hC
    | with_reducible apply Keeps.wr
    | with_reducible apply Keeps.setReg
    | with_reducible apply KeepsOut.next
    | with_reducible apply Keeps.foldl
    | split
    | intro _
    | (with_reducible apply Keeps.lit <;> with_reducible first | rfl | assumption | exact fun _ h => h | exact fun _ _ => rfl | exact fun _ => rfl | exact fun h => h.elim)

theorem execVhOcp_keeps (hC : Settles noFld) {vh : BitVec 16} {s : State} (hk : Keeps noFld False H u₀ s) :
    KeepsOut noFld False H u₀ (execVhOcp vh s) := by
  unfold execVhOcp
  repeat' first
    | with_reducible assumption
    | (extract_lets +onlyGivenNames x; first | (refine (have hx : Keeps noFld False H u₀ x := ?_; ?_); subst x; rotate_left; clear_value x) | subst x)
    | with_reducible exact noFld_apart _
    | with_reducible exact noFld_ne _
    | with_reducible apply State.vhFault_keeps hC
    | with_reducible apply Keeps.wr
    | with_reducible apply Keeps.setReg
    | with_reducible apply KeepsOut.next
    | with_reducible apply Keeps.foldl
    | split
    | intro _
    | (with_reducible apply Keeps.lit <;> with_reducible first | rfl | assumption | exact fun _ h => h | exact fun _ _ => rfl | exact fun _ => rfl | exact fun h => h.elim)

theorem execVhSettle_keeps (hC : Settles noFld) {vh : BitVec 16} {s : State} (hk : Keeps noFld False H u₀ s) :
    KeepsOut noFld False H u₀ (execVhSettle vh s) := by
  unfold execVhSettle
  repeat' first
    | with_reducible assumption
    | (extract_lets +onlyGivenNames x; first | (refine (have hx : Keeps noFld False H u₀ x := ?_; ?_); subst x; rotate_left; clear_value x) | subst x)
    | with_reducible exact noFld_apart _
    | with_reducible exact noFld_ne _
    | with_reducible apply State.vhFault_keeps hC
    | with_reducible apply Keeps.wr
    | with_reducible apply Keeps.setReg
    | with_reducible apply KeepsOut.next
    | with_reducible apply Keeps.foldl
    | split
    | intro _
    | (with_reducible apply Keeps.lit <;> with_reducible first | rfl | assumption | exact fun _ h => h | exact fun _ _ => rfl | exact fun _ => rfl | exact fun h => h.elim)

theorem execSupplyMeas_keeps (hC : Settles noFld) {vin : BitVec 16} {vm : BitVec 16} {s : State} (hk : Keeps noFld False H u₀ s) :
    KeepsOut noFld False H u₀ (execSupplyMeas vin vm s) := by
  unfold execSupplyMeas
  repeat' first
    | with_reducible assumption
    | (extract_lets +onlyGivenNames x; first | (refine (have hx : Keeps noFld False H u₀ x := ?_; ?_); subst x; rotate_left; clear_value x) | subst x)
    | with_reducible exact noFld_apart _
    | with_reducible exact noFld_ne _
    | with_reducible apply Keeps.wr
    | with_reducible apply Keeps.setReg
    | with_reducible apply KeepsOut.next
    | with_reducible apply Keeps.foldl
    | split
    | intro _
    | (with_reducible apply Keeps.lit <;> with_reducible first | rfl | assumption | exact fun _ h => h | exact fun _ _ => rfl | exact fun _ => rfl | exact fun h => h.elim)

theorem State.bootRecord_keeps (hC : Settles noFld) {s : State} {kind : Nat} (hk : Keeps noFld False H u₀ s) :
    Keeps noFld False H u₀ (s.bootRecord kind) := by
  unfold State.bootRecord
  repeat' first
    | with_reducible assumption
    | (extract_lets +onlyGivenNames x; first | (refine (have hx : Keeps noFld False H u₀ x := ?_; ?_); subst x; rotate_left; clear_value x) | subst x)
    | with_reducible exact noFld_apart _
    | with_reducible exact noFld_ne _
    | with_reducible refine State.readMem_of hC (by with_reducible assumption) ?_
    | with_reducible apply State.readMem_keeps hC
    | with_reducible apply State.recPut_keeps hC (fun h => h.elim)
    | with_reducible apply Keeps.wr
    | with_reducible apply Keeps.setReg
    | with_reducible apply Keeps.foldl
    | split
    | intro _
    | (with_reducible apply Keeps.lit <;> with_reducible first | rfl | assumption | exact fun _ h => h | exact fun _ _ => rfl | exact fun _ => rfl | exact fun h => h.elim)

theorem State.keepFld_keeps (hC : Settles noFld) {t : State} {s : State} {f : Fld} (hk : Keeps noFld False H u₀ t) :
    Keeps noFld False H u₀ (t.keepFld s f) := by
  unfold State.keepFld
  repeat' first
    | with_reducible assumption
    | (extract_lets +onlyGivenNames x; first | (refine (have hx : Keeps noFld False H u₀ x := ?_; ?_); subst x; rotate_left; clear_value x) | subst x)
    | with_reducible exact noFld_apart _
    | with_reducible exact noFld_ne _
    | with_reducible apply Keeps.wr
    | with_reducible apply Keeps.setReg
    | with_reducible apply Keeps.foldl
    | split
    | intro _
    | (with_reducible apply Keeps.lit <;> with_reducible first | rfl | assumption | exact fun _ h => h | exact fun _ _ => rfl | exact fun _ => rfl | exact fun h => h.elim)

theorem State.resetRegs_keeps (hC : Settles noFld) {t : State} {s : State} {kind : Nat} (hk : Keeps noFld False H u₀ t) :
    Keeps noFld False H u₀ (t.resetRegs s kind) := by
  unfold State.resetRegs
  repeat' first
    | with_reducible assumption
    | (extract_lets +onlyGivenNames x; first | (refine (have hx : Keeps noFld False H u₀ x := ?_; ?_); subst x; rotate_left; clear_value x) | subst x)
    | with_reducible exact noFld_apart _
    | with_reducible exact noFld_ne _
    | with_reducible apply State.keepFld_keeps hC
    | with_reducible apply State.vhSwitch_keeps hC
    | with_reducible apply Keeps.wr
    | with_reducible apply State.wrB_keeps hC
    | with_reducible apply Keeps.setReg
    | with_reducible apply Keeps.foldl
    | split
    | intro _
    | (with_reducible apply Keeps.lit <;> with_reducible first | rfl | assumption | exact fun _ h => h | exact fun _ _ => rfl | exact fun _ => rfl | exact fun h => h.elim)

/-- A state built anew. -/
theorem Keeps.renew {s t : State} (hk : Keeps noFld False False u₀ s) (pending : t.pending = s.pending)
    (part : t.part = s.part) (clock : t.clock = s.clock) (otp : t.otp = s.otp)
    (canon : Safety.canonical s → Safety.canonical t) : Keeps noFld False False u₀ t :=
  hk.trans ⟨fun _ h => h.elim, pending, part, clock, otp ▸ Otp.grown_refl _, fun h => h.elim, fun h => h.elim, fun h => h.elim, canon⟩

theorem State.deviceReset_keeps (hC : Settles noFld) {s : State} {kind : Nat} {bootSrc : Bool}
    (hk : Keeps noFld False False u₀ s) : Keeps noFld False False u₀ (s.deviceReset kind bootSrc) := by
  have wf_ite : ∀ (c : Bool) (m : Store Byte), Store.wf 0 m = true → Store.wf 0 (if c = true then [] else m) = true := by
    intro c m h
    cases c <;> first | exact h | rfl
  have wf_acc : ∀ (c : Bool) (m : Store Rat), Store.wf 0 m = true → Store.wf 0 (if c = true then [] else m) = true := by
    intro c m h
    cases c <;> first | exact h | rfl
  unfold State.deviceReset
  extract_lets por fill s₁ mask t
  have h₁ : Keeps noFld False False u₀ s₁ := by
    unfold s₁
    split
    · exact hk
    · exact State.interruptAll_keeps hC hk
  clear_value s₁
  have ht : Keeps noFld False False u₀ t :=
    Keeps.renew h₁ rfl rfl rfl rfl fun ⟨_, b, c, d, e, f⟩ => ⟨resetWords_wf, wf_ite _ _ b, wf_ite _ _ c, d, wf_acc _ _ e, f⟩
  exact State.bootRecord_keeps hC (State.resetRegs_keeps hC ht)

theorem execPor_keeps (hC : Settles noFld) {bootSrc : Bool} {s : State} (hk : Keeps noFld False False u₀ s) :
    KeepsOut noFld False False u₀ (execPor bootSrc s) := by
  unfold execPor
  repeat' first
    | with_reducible assumption
    | (extract_lets +onlyGivenNames x; first | (refine (have hx : Keeps noFld False False u₀ x := ?_; ?_); subst x; rotate_left; clear_value x) | subst x)
    | with_reducible exact noFld_apart _
    | with_reducible exact noFld_ne _
    | with_reducible apply State.deviceReset_keeps hC
    | with_reducible apply Keeps.wr
    | with_reducible apply Keeps.setReg
    | with_reducible apply KeepsOut.next
    | with_reducible apply Keeps.foldl
    | split
    | intro _
    | (with_reducible apply Keeps.lit <;> with_reducible first | rfl | assumption | exact fun _ h => h | exact fun _ _ => rfl | exact fun _ => rfl | exact fun h => h.elim)

theorem execVinPowerOff_keeps (hC : Settles noFld) {s : State} (hk : Keeps noFld False False u₀ s) :
    KeepsOut noFld False False u₀ (execVinPowerOff s) := by
  unfold execVinPowerOff
  repeat' first
    | with_reducible assumption
    | (extract_lets +onlyGivenNames x; first | (refine (have hx : Keeps noFld False False u₀ x := ?_; ?_); subst x; rotate_left; clear_value x) | subst x)
    | with_reducible exact noFld_apart _
    | with_reducible exact noFld_ne _
    | with_reducible apply State.deviceReset_keeps hC
    | with_reducible apply State.vhSwitch_keeps hC
    | with_reducible apply Keeps.wr
    | with_reducible apply Keeps.setReg
    | with_reducible apply KeepsOut.next
    | with_reducible apply Keeps.foldl
    | split
    | intro _
    | (with_reducible apply Keeps.lit <;> with_reducible first | rfl | assumption | exact fun _ h => h | exact fun _ _ => rfl | exact fun _ => rfl | exact fun h => h.elim)

theorem execPin_keeps (hC : Settles noFld) {s : State} (hk : Keeps noFld False False u₀ s) :
    KeepsOut noFld False False u₀ (execPin s) := by
  unfold execPin
  repeat' first
    | with_reducible assumption
    | (extract_lets +onlyGivenNames x; first | (refine (have hx : Keeps noFld False False u₀ x := ?_; ?_); subst x; rotate_left; clear_value x) | subst x)
    | with_reducible exact noFld_apart _
    | with_reducible exact noFld_ne _
    | with_reducible apply State.deviceReset_keeps hC
    | with_reducible apply Keeps.wr
    | with_reducible apply Keeps.setReg
    | with_reducible apply KeepsOut.next
    | with_reducible apply Keeps.foldl
    | split
    | intro _
    | (with_reducible apply Keeps.lit <;> with_reducible first | rfl | assumption | exact fun _ h => h | exact fun _ _ => rfl | exact fun _ => rfl | exact fun h => h.elim)

theorem execResetNRelease_keeps (hC : Settles noFld) {bootSrc : Bool} {s : State} (hk : Keeps noFld False H u₀ s) :
    KeepsOut noFld False H u₀ (execResetNRelease bootSrc s) := by
  unfold execResetNRelease
  repeat' first
    | with_reducible assumption
    | (extract_lets +onlyGivenNames x; first | (refine (have hx : Keeps noFld False H u₀ x := ?_; ?_); subst x; rotate_left; clear_value x) | subst x)
    | with_reducible exact noFld_apart _
    | with_reducible exact noFld_ne _
    | with_reducible apply Keeps.wr
    | with_reducible apply Keeps.setReg
    | with_reducible apply KeepsOut.next
    | with_reducible apply Keeps.foldl
    | split
    | intro _
    | (with_reducible apply Keeps.lit <;> with_reducible first | rfl | assumption | exact fun _ h => h | exact fun _ _ => rfl | exact fun _ => rfl | exact fun h => h.elim)

theorem State.writeResetCtl_keeps (hC : Settles noFld) {s : State} {w : Word} (hk : Keeps noFld False H u₀ s) :
    Keeps noFld False H u₀ (s.writeResetCtl w) := by
  unfold State.writeResetCtl
  repeat' first
    | with_reducible assumption
    | (extract_lets +onlyGivenNames x; first | (refine (have hx : Keeps noFld False H u₀ x := ?_; ?_); subst x; rotate_left; clear_value x) | subst x)
    | with_reducible exact noFld_apart _
    | with_reducible exact noFld_ne _
    | with_reducible apply Keeps.wr
    | with_reducible apply Keeps.setReg
    | with_reducible apply Keeps.foldl
    | split
    | intro _
    | (with_reducible apply Keeps.lit <;> with_reducible first | rfl | assumption | exact fun _ h => h | exact fun _ _ => rfl | exact fun _ => rfl | exact fun h => h.elim)

theorem execResetCtlGo_keeps (hC : Settles noFld) {w : BitVec 32} {s : State} (hk : Keeps noFld False H u₀ s) :
    KeepsOut noFld False H u₀ (execResetCtlGo w s) := by
  unfold execResetCtlGo
  repeat' first
    | with_reducible assumption
    | (extract_lets +onlyGivenNames x; first | (refine (have hx : Keeps noFld False H u₀ x := ?_; ?_); subst x; rotate_left; clear_value x) | subst x)
    | with_reducible exact noFld_apart _
    | with_reducible exact noFld_ne _
    | with_reducible refine State.hostReg_keeps hC ?_ ?_
    | with_reducible apply State.writeResetCtl_keeps hC
    | with_reducible apply Keeps.wr
    | with_reducible apply Keeps.setReg
    | with_reducible apply KeepsOut.next
    | with_reducible apply Keeps.foldl
    | split
    | intro _
    | (with_reducible apply Keeps.lit <;> with_reducible first | rfl | assumption | exact fun _ h => h | exact fun _ _ => rfl | exact fun _ => rfl | exact fun h => h.elim)

theorem execSoft_keeps (hC : Settles noFld) {bootSrc : Bool} {s : State} (hk : Keeps noFld False False u₀ s) :
    KeepsOut noFld False False u₀ (execSoft bootSrc s) := by
  unfold execSoft
  repeat' first
    | with_reducible assumption
    | (extract_lets +onlyGivenNames x; first | (refine (have hx : Keeps noFld False False u₀ x := ?_; ?_); subst x; rotate_left; clear_value x) | subst x)
    | with_reducible exact noFld_apart _
    | with_reducible exact noFld_ne _
    | with_reducible apply State.deviceReset_keeps hC
    | with_reducible apply Keeps.wr
    | with_reducible apply Keeps.setReg
    | with_reducible apply KeepsOut.next
    | with_reducible apply Keeps.foldl
    | split
    | intro _
    | (with_reducible apply Keeps.lit <;> with_reducible first | rfl | assumption | exact fun _ h => h | exact fun _ _ => rfl | exact fun _ => rfl | exact fun h => h.elim)

theorem execCoreUv_keeps (hC : Settles noFld) {mv : BitVec 16} {bootSrc : Bool} {s : State} (hk : Keeps noFld False False u₀ s) :
    KeepsOut noFld False False u₀ (execCoreUv mv bootSrc s) := by
  unfold execCoreUv
  repeat' first
    | with_reducible assumption
    | (extract_lets +onlyGivenNames x; first | (refine (have hx : Keeps noFld False False u₀ x := ?_; ?_); subst x; rotate_left; clear_value x) | subst x)
    | with_reducible exact noFld_apart _
    | with_reducible exact noFld_ne _
    | with_reducible apply State.deviceReset_keeps hC
    | with_reducible apply Keeps.wr
    | with_reducible apply Keeps.setReg
    | with_reducible apply KeepsOut.next
    | with_reducible apply Keeps.foldl
    | split
    | intro _
    | (with_reducible apply Keeps.lit <;> with_reducible first | rfl | assumption | exact fun _ h => h | exact fun _ _ => rfl | exact fun _ => rfl | exact fun h => h.elim)

theorem execSvcWdt_keeps (hC : Settles noFld) {bootSrc : Bool} {s : State} (hk : Keeps noFld False False u₀ s) :
    KeepsOut noFld False False u₀ (execSvcWdt bootSrc s) := by
  unfold execSvcWdt
  repeat' first
    | with_reducible assumption
    | (extract_lets +onlyGivenNames x; first | (refine (have hx : Keeps noFld False False u₀ x := ?_; ?_); subst x; rotate_left; clear_value x) | subst x)
    | with_reducible exact noFld_apart _
    | with_reducible exact noFld_ne _
    | with_reducible apply State.deviceReset_keeps hC
    | with_reducible apply Keeps.wr
    | with_reducible apply Keeps.setReg
    | with_reducible apply KeepsOut.next
    | with_reducible apply Keeps.foldl
    | split
    | intro _
    | (with_reducible apply Keeps.lit <;> with_reducible first | rfl | assumption | exact fun _ h => h | exact fun _ _ => rfl | exact fun _ => rfl | exact fun h => h.elim)

theorem execBrakeHoldEnd_keeps (hC : Settles noFld) {s : State} (hk : Keeps noFld False H u₀ s) :
    KeepsOut noFld False H u₀ (execBrakeHoldEnd s) := by
  unfold execBrakeHoldEnd
  repeat' first
    | with_reducible assumption
    | (extract_lets +onlyGivenNames x; first | (refine (have hx : Keeps noFld False H u₀ x := ?_; ?_); subst x; rotate_left; clear_value x) | subst x)
    | with_reducible exact noFld_apart _
    | with_reducible exact noFld_ne _
    | with_reducible apply State.auxPull_keeps hC
    | with_reducible apply State.setCut_keeps hC
    | with_reducible apply State.setFeed_keeps hC
    | with_reducible apply State.settle_keeps hC
    | with_reducible apply Keeps.wr
    | with_reducible apply Keeps.setReg
    | with_reducible apply KeepsOut.next
    | with_reducible apply Keeps.foldl
    | split
    | intro _
    | (with_reducible apply Keeps.lit <;> with_reducible first | rfl | assumption | exact fun _ h => h | exact fun _ _ => rfl | exact fun _ => rfl | exact fun h => h.elim)

theorem execZeroFillDone_keeps (hC : Settles noFld) {s : State} (hk : Keeps noFld False H u₀ s) :
    KeepsOut noFld False H u₀ (execZeroFillDone s) := by
  unfold execZeroFillDone
  repeat' first
    | with_reducible assumption
    | (extract_lets +onlyGivenNames x; first | (refine (have hx : Keeps noFld False H u₀ x := ?_; ?_); subst x; rotate_left; clear_value x) | subst x)
    | with_reducible exact noFld_apart _
    | with_reducible exact noFld_ne _
    | with_reducible apply State.settle_keeps hC
    | with_reducible apply Keeps.wr
    | with_reducible apply Keeps.setReg
    | with_reducible apply KeepsOut.next
    | with_reducible apply Keeps.foldl
    | split
    | intro _
    | (with_reducible apply Keeps.lit <;> with_reducible first | rfl | assumption | exact fun _ h => h | exact fun _ _ => rfl | exact fun _ => rfl | exact fun h => h.elim)

theorem State.writeHeartbeat_keeps (hC : Settles noFld) {s : State} {w : Word} (hk : Keeps noFld False H u₀ s) :
    Keeps noFld False H u₀ (s.writeHeartbeat w) := by
  unfold State.writeHeartbeat
  repeat' first
    | with_reducible assumption
    | (extract_lets +onlyGivenNames x; first | (refine (have hx : Keeps noFld False H u₀ x := ?_; ?_); subst x; rotate_left; clear_value x) | subst x)
    | with_reducible exact noFld_apart _
    | with_reducible exact noFld_ne _
    | with_reducible apply State.hbRestart_keeps hC
    | with_reducible apply Keeps.wr
    | with_reducible apply Keeps.setReg
    | with_reducible apply Keeps.foldl
    | split
    | intro _
    | (with_reducible apply Keeps.lit <;> with_reducible first | rfl | assumption | exact fun _ h => h | exact fun _ _ => rfl | exact fun _ => rfl | exact fun h => h.elim)

theorem execHeartbeatKick_keeps (hC : Settles noFld) {w : BitVec 32} {s : State} (hk : Keeps noFld False H u₀ s) :
    KeepsOut noFld False H u₀ (execHeartbeatKick w s) := by
  unfold execHeartbeatKick
  repeat' first
    | with_reducible assumption
    | (extract_lets +onlyGivenNames x; first | (refine (have hx : Keeps noFld False H u₀ x := ?_; ?_); subst x; rotate_left; clear_value x) | subst x)
    | with_reducible exact noFld_apart _
    | with_reducible exact noFld_ne _
    | with_reducible refine State.hostReg_keeps hC ?_ ?_
    | with_reducible apply State.writeHeartbeat_keeps hC
    | with_reducible apply Keeps.wr
    | with_reducible apply Keeps.setReg
    | with_reducible apply KeepsOut.next
    | with_reducible apply Keeps.foldl
    | split
    | intro _
    | (with_reducible apply Keeps.lit <;> with_reducible first | rfl | assumption | exact fun _ h => h | exact fun _ _ => rfl | exact fun _ => rfl | exact fun h => h.elim)

theorem State.writeHbPeriod_keeps (hC : Settles noFld) {s : State} {w : Word} (hk : Keeps noFld False H u₀ s) :
    Keeps noFld False H u₀ (s.writeHbPeriod w) := by
  unfold State.writeHbPeriod
  repeat' first
    | with_reducible assumption
    | (extract_lets +onlyGivenNames x; first | (refine (have hx : Keeps noFld False H u₀ x := ?_; ?_); subst x; rotate_left; clear_value x) | subst x)
    | with_reducible exact noFld_apart _
    | with_reducible exact noFld_ne _
    | with_reducible apply State.hbRestart_keeps hC
    | with_reducible apply Keeps.wr
    | with_reducible apply Keeps.setReg
    | with_reducible apply Keeps.foldl
    | split
    | intro _
    | (with_reducible apply Keeps.lit <;> with_reducible first | rfl | assumption | exact fun _ h => h | exact fun _ _ => rfl | exact fun _ => rfl | exact fun h => h.elim)

theorem execHbPeriodWrite_keeps (hC : Settles noFld) {w : BitVec 32} {s : State} (hk : Keeps noFld False H u₀ s) :
    KeepsOut noFld False H u₀ (execHbPeriodWrite w s) := by
  unfold execHbPeriodWrite
  repeat' first
    | with_reducible assumption
    | (extract_lets +onlyGivenNames x; first | (refine (have hx : Keeps noFld False H u₀ x := ?_; ?_); subst x; rotate_left; clear_value x) | subst x)
    | with_reducible exact noFld_apart _
    | with_reducible exact noFld_ne _
    | with_reducible refine State.hostReg_keeps hC ?_ ?_
    | with_reducible apply State.writeHbPeriod_keeps hC
    | with_reducible apply Keeps.wr
    | with_reducible apply Keeps.setReg
    | with_reducible apply KeepsOut.next
    | with_reducible apply Keeps.foldl
    | split
    | intro _
    | (with_reducible apply Keeps.lit <;> with_reducible first | rfl | assumption | exact fun _ h => h | exact fun _ _ => rfl | exact fun _ => rfl | exact fun h => h.elim)

theorem execHbExpired_keeps (hC : Settles noFld) {s : State} (hk : Keeps noFld False H u₀ s) :
    KeepsOut noFld False H u₀ (execHbExpired s) := by
  unfold execHbExpired
  repeat' first
    | with_reducible assumption
    | (extract_lets +onlyGivenNames x; first | (refine (have hx : Keeps noFld False H u₀ x := ?_; ?_); subst x; rotate_left; clear_value x) | subst x)
    | with_reducible exact noFld_apart _
    | with_reducible exact noFld_ne _
    | with_reducible apply State.hbRestart_keeps hC
    | with_reducible apply State.raise_keeps hC
    | with_reducible apply State.settle_keeps hC
    | with_reducible apply Keeps.wr
    | with_reducible apply Keeps.setReg
    | with_reducible apply KeepsOut.next
    | with_reducible apply Keeps.foldl
    | split
    | intro _
    | (with_reducible apply Keeps.lit <;> with_reducible first | rfl | assumption | exact fun _ h => h | exact fun _ _ => rfl | exact fun _ => rfl | exact fun h => h.elim)

theorem State.writeModeAllow_keeps (hC : Settles noFld) {s : State} {w : Word} (hk : Keeps noFld False H u₀ s) :
    Keeps noFld False H u₀ (s.writeModeAllow w) := by
  unfold State.writeModeAllow
  repeat' first
    | with_reducible assumption
    | (extract_lets +onlyGivenNames x; first | (refine (have hx : Keeps noFld False H u₀ x := ?_; ?_); subst x; rotate_left; clear_value x) | subst x)
    | with_reducible exact noFld_apart _
    | with_reducible exact noFld_ne _
    | with_reducible apply State.idleRestart_keeps hC
    | with_reducible apply Keeps.wr
    | with_reducible apply Keeps.setReg
    | with_reducible apply Keeps.foldl
    | split
    | intro _
    | (with_reducible apply Keeps.lit <;> with_reducible first | rfl | assumption | exact fun _ h => h | exact fun _ _ => rfl | exact fun _ => rfl | exact fun h => h.elim)

theorem execModeAllowWrite_keeps (hC : Settles noFld) {w : BitVec 32} {s : State} (hk : Keeps noFld False H u₀ s) :
    KeepsOut noFld False H u₀ (execModeAllowWrite w s) := by
  unfold execModeAllowWrite
  repeat' first
    | with_reducible assumption
    | (extract_lets +onlyGivenNames x; first | (refine (have hx : Keeps noFld False H u₀ x := ?_; ?_); subst x; rotate_left; clear_value x) | subst x)
    | with_reducible exact noFld_apart _
    | with_reducible exact noFld_ne _
    | with_reducible refine State.hostReg_keeps hC ?_ ?_
    | with_reducible apply State.writeModeAllow_keeps hC
    | with_reducible apply Keeps.wr
    | with_reducible apply Keeps.setReg
    | with_reducible apply KeepsOut.next
    | with_reducible apply Keeps.foldl
    | split
    | intro _
    | (with_reducible apply Keeps.lit <;> with_reducible first | rfl | assumption | exact fun _ h => h | exact fun _ _ => rfl | exact fun _ => rfl | exact fun h => h.elim)

theorem State.writeIdleHold_keeps (hC : Settles noFld) {s : State} {w : Word} (hk : Keeps noFld False H u₀ s) :
    Keeps noFld False H u₀ (s.writeIdleHold w) := by
  unfold State.writeIdleHold
  repeat' first
    | with_reducible assumption
    | (extract_lets +onlyGivenNames x; first | (refine (have hx : Keeps noFld False H u₀ x := ?_; ?_); subst x; rotate_left; clear_value x) | subst x)
    | with_reducible exact noFld_apart _
    | with_reducible exact noFld_ne _
    | with_reducible apply State.idleRestart_keeps hC
    | with_reducible apply Keeps.wr
    | with_reducible apply Keeps.setReg
    | with_reducible apply Keeps.foldl
    | split
    | intro _
    | (with_reducible apply Keeps.lit <;> with_reducible first | rfl | assumption | exact fun _ h => h | exact fun _ _ => rfl | exact fun _ => rfl | exact fun h => h.elim)

theorem execIdleHoldWrite_keeps (hC : Settles noFld) {w : BitVec 32} {s : State} (hk : Keeps noFld False H u₀ s) :
    KeepsOut noFld False H u₀ (execIdleHoldWrite w s) := by
  unfold execIdleHoldWrite
  repeat' first
    | with_reducible assumption
    | (extract_lets +onlyGivenNames x; first | (refine (have hx : Keeps noFld False H u₀ x := ?_; ?_); subst x; rotate_left; clear_value x) | subst x)
    | with_reducible exact noFld_apart _
    | with_reducible exact noFld_ne _
    | with_reducible refine State.hostReg_keeps hC ?_ ?_
    | with_reducible apply State.writeIdleHold_keeps hC
    | with_reducible apply Keeps.wr
    | with_reducible apply Keeps.setReg
    | with_reducible apply KeepsOut.next
    | with_reducible apply Keeps.foldl
    | split
    | intro _
    | (with_reducible apply Keeps.lit <;> with_reducible first | rfl | assumption | exact fun _ h => h | exact fun _ _ => rfl | exact fun _ => rfl | exact fun h => h.elim)

theorem State.wakeBy_keeps (hC : Settles noFld) {s : State} {code : Nat} {bootSrc : Bool} (hk : Keeps noFld False H u₀ s) :
    Keeps noFld False H u₀ (s.wakeBy code bootSrc) := by
  unfold State.wakeBy
  extract_lets s₁
  have hb : s₁.base = s.base := rfl
  have h₁ : Keeps noFld False H u₀ s₁ := Keeps.wr (noFld_apart _) hk
  clear_value s₁
  split
  · exact State.rodVec_keeps hC h₁
  · exact State.rodVec_keeps hC h₁
  · next e =>
    split
    · exact Keeps.outside h₁ (by rw [e]; exact Base.noConfusion) (State.exitTally_keeps hC (Keeps.refl _))
    · exact State.setWake_keeps hC h₁
  · next e =>
    exact Keeps.outside h₁ (by rw [e]; exact Base.noConfusion) (State.deviceReset_keeps hC (Keeps.refl _))

theorem State.pinLevel_keeps (hC : Settles noFld) {s : State} {k : Nat} {level : Bool} (hk : Keeps noFld False H u₀ s) :
    Keeps noFld False H u₀ (s.pinLevel k level) := by
  unfold State.pinLevel
  repeat' first
    | with_reducible assumption
    | (extract_lets +onlyGivenNames x; first | (refine (have hx : Keeps noFld False H u₀ x := ?_; ?_); subst x; rotate_left; clear_value x) | subst x)
    | with_reducible exact noFld_apart _
    | with_reducible exact noFld_ne _
    | with_reducible apply State.setWake_keeps hC
    | with_reducible apply Keeps.wr
    | with_reducible apply Keeps.setReg
    | with_reducible apply Keeps.foldl
    | split
    | intro _
    | (with_reducible apply Keeps.lit <;> with_reducible first | rfl | assumption | exact fun _ h => h | exact fun _ _ => rfl | exact fun _ => rfl | exact fun h => h.elim)

theorem execWakePin_keeps (hC : Settles noFld) {k : Fin 4} {level : Bool} {bootSrc : Bool} {s : State} (hk : Keeps noFld False H u₀ s) :
    KeepsOut noFld False H u₀ (execWakePin k level bootSrc s) := by
  unfold execWakePin
  repeat' first
    | with_reducible assumption
    | (extract_lets +onlyGivenNames x; first | (refine (have hx : Keeps noFld False H u₀ x := ?_; ?_); subst x; rotate_left; clear_value x) | subst x)
    | with_reducible exact noFld_apart _
    | with_reducible exact noFld_ne _
    | with_reducible apply State.pinLevel_keeps hC
    | with_reducible apply State.wakeBy_keeps hC
    | with_reducible apply Keeps.wr
    | with_reducible apply Keeps.setReg
    | with_reducible apply KeepsOut.next
    | with_reducible apply Keeps.foldl
    | split
    | intro _
    | (with_reducible apply Keeps.lit <;> with_reducible first | rfl | assumption | exact fun _ h => h | exact fun _ _ => rfl | exact fun _ => rfl | exact fun h => h.elim)

theorem execWakeTimer_keeps (hC : Settles noFld) {bootSrc : Bool} {s : State} (hk : Keeps noFld False H u₀ s) :
    KeepsOut noFld False H u₀ (execWakeTimer bootSrc s) := by
  unfold execWakeTimer
  repeat' first
    | with_reducible assumption
    | (extract_lets +onlyGivenNames x; first | (refine (have hx : Keeps noFld False H u₀ x := ?_; ?_); subst x; rotate_left; clear_value x) | subst x)
    | with_reducible exact noFld_apart _
    | with_reducible exact noFld_ne _
    | with_reducible apply State.wakeBy_keeps hC
    | with_reducible apply Keeps.wr
    | with_reducible apply Keeps.setReg
    | with_reducible apply KeepsOut.next
    | with_reducible apply Keeps.foldl
    | split
    | intro _
    | (with_reducible apply Keeps.lit <;> with_reducible first | rfl | assumption | exact fun _ h => h | exact fun _ _ => rfl | exact fun _ => rfl | exact fun h => h.elim)

theorem execVinComparator_keeps (hC : Settles noFld) {bootSrc : Bool} {s : State} (hk : Keeps noFld False H u₀ s) :
    KeepsOut noFld False H u₀ (execVinComparator bootSrc s) := by
  unfold execVinComparator
  repeat' first
    | with_reducible assumption
    | (extract_lets +onlyGivenNames x; first | (refine (have hx : Keeps noFld False H u₀ x := ?_; ?_); subst x; rotate_left; clear_value x) | subst x)
    | with_reducible exact noFld_apart _
    | with_reducible exact noFld_ne _
    | with_reducible apply State.wakeBy_keeps hC
    | with_reducible apply Keeps.wr
    | with_reducible apply Keeps.setReg
    | with_reducible apply KeepsOut.next
    | with_reducible apply Keeps.foldl
    | split
    | intro _
    | (with_reducible apply Keeps.lit <;> with_reducible first | rfl | assumption | exact fun _ h => h | exact fun _ _ => rfl | exact fun _ => rfl | exact fun h => h.elim)

theorem execHostWakePulse_keeps (hC : Settles noFld) {bootSrc : Bool} {s : State} (hk : Keeps noFld False H u₀ s) :
    KeepsOut noFld False H u₀ (execHostWakePulse bootSrc s) := by
  unfold execHostWakePulse
  repeat' first
    | with_reducible assumption
    | (extract_lets +onlyGivenNames x; first | (refine (have hx : Keeps noFld False H u₀ x := ?_; ?_); subst x; rotate_left; clear_value x) | subst x)
    | with_reducible exact noFld_apart _
    | with_reducible exact noFld_ne _
    | with_reducible apply State.csFall_keeps hC
    | with_reducible apply State.wakeBy_keeps hC
    | with_reducible apply Keeps.wr
    | with_reducible apply Keeps.setReg
    | with_reducible apply KeepsOut.next
    | with_reducible apply Keeps.foldl
    | split
    | intro _
    | (with_reducible apply Keeps.lit <;> with_reducible first | rfl | assumption | exact fun _ h => h | exact fun _ _ => rfl | exact fun _ => rfl | exact fun h => h.elim)

theorem State.clocksOff_keeps (hC : Settles noFld) {s : State} (hk : Keeps noFld False H u₀ s) :
    Keeps noFld False H u₀ (s.clocksOff) := by
  unfold State.clocksOff
  repeat' first
    | with_reducible assumption
    | (extract_lets +onlyGivenNames x; first | (refine (have hx : Keeps noFld False H u₀ x := ?_; ?_); subst x; rotate_left; clear_value x) | subst x)
    | with_reducible exact noFld_apart _
    | with_reducible exact noFld_ne _
    | with_reducible apply State.setClk_keeps hC
    | with_reducible apply Keeps.wr
    | with_reducible apply Keeps.setReg
    | with_reducible apply Keeps.foldl
    | split
    | intro _
    | (with_reducible apply Keeps.lit <;> with_reducible first | rfl | assumption | exact fun _ h => h | exact fun _ _ => rfl | exact fun _ => rfl | exact fun h => h.elim)

theorem State.tallyBridges_keeps (hC : Settles noFld) {s : State} (hk : Keeps noFld False H u₀ s) :
    Keeps noFld False H u₀ (s.tallyBridges) := by
  unfold State.tallyBridges
  repeat' first
    | with_reducible assumption
    | (extract_lets +onlyGivenNames x; first | (refine (have hx : Keeps noFld False H u₀ x := ?_; ?_); subst x; rotate_left; clear_value x) | subst x)
    | with_reducible exact noFld_apart _
    | with_reducible exact noFld_ne _
    | with_reducible apply State.bridgesZ_keeps hC
    | with_reducible apply State.feedLoopsOff_keeps hC
    | with_reducible apply State.setSpeed_keeps hC
    | with_reducible apply Keeps.wr
    | with_reducible apply Keeps.setReg
    | with_reducible apply Keeps.foldl
    | split
    | intro _
    | (with_reducible apply Keeps.lit <;> with_reducible first | rfl | assumption | exact fun _ h => h | exact fun _ _ => rfl | exact fun _ => rfl | exact fun h => h.elim)

theorem execEnterTally_keepsF (hC : Settles noFld) {s : State} (hk : Keeps noFld False False u₀ s) :
    KeepsOut noFld False False u₀ (execEnterTally s) := by
  unfold execEnterTally
  repeat' first
    | with_reducible assumption
    | (extract_lets +onlyGivenNames x; first | (refine (have hx : Keeps noFld False False u₀ x := ?_; ?_); subst x; rotate_left; clear_value x) | subst x)
    | with_reducible exact noFld_apart _
    | with_reducible exact noFld_ne _
    | with_reducible apply State.clocksOff_keeps hC
    | with_reducible apply State.setWake_keeps hC
    | with_reducible apply State.tallyBridges_keeps hC
    | with_reducible apply State.updateReady_keeps hC
    | with_reducible apply State.vhStop_keeps hC
    | with_reducible apply State.wakeBy_keeps hC
    | with_reducible apply Keeps.wr
    | with_reducible apply Keeps.setReg
    | with_reducible apply KeepsOut.next
    | with_reducible apply Keeps.foldl
    | split
    | intro _
    | (with_reducible apply Keeps.lit <;> with_reducible first | rfl | assumption | exact fun _ h => h | exact fun _ _ => rfl | exact fun _ => rfl | exact fun h => h.elim)

theorem execEnterTally_keeps (hC : Settles noFld) {s : State} (hk : Keeps noFld False H u₀ s) :
    KeepsOut noFld False H u₀ (execEnterTally s) := by
  by_cases hs : s.base = .held
  · have hi : s.idle = false := by simp [State.idle, State.mode, hs]
    unfold execEnterTally
    rw [hi, Bool.and_false]
    exact KeepsOut.next hk
  · exact fun t ht => Keeps.outside hk hs (execEnterTally_keepsF hC (Keeps.refl s) t ht)

theorem execEnterCleared_keepsF (hC : Settles noFld) {bootSrc : Bool} {s : State} (hk : Keeps noFld False False u₀ s) :
    KeepsOut noFld False False u₀ (execEnterCleared bootSrc s) := by
  unfold execEnterCleared
  split
  · extract_lets _ t
    have ht : Keeps noFld False False u₀ t := hk.trans ⟨fun _ _ => rfl, rfl, rfl, rfl, Otp.grown_refl _, fun h => h.elim,
      fun h => h.elim, fun h => h.elim, fun ⟨a, _, c⟩ => ⟨a, rfl, c⟩⟩
    clear_value t
    split
    · exact KeepsOut.next (State.wakeBy_keeps hC ht)
    · exact KeepsOut.next ht
  · exact KeepsOut.next hk

theorem execEnterCleared_keeps (hC : Settles noFld) {bootSrc : Bool} {s : State} (hk : Keeps noFld False H u₀ s) :
    KeepsOut noFld False H u₀ (execEnterCleared bootSrc s) := by
  by_cases hs : s.base = .held
  · unfold execEnterCleared
    simp only [hs, show (Base.held == Base.tally) = false from rfl, Bool.and_false, Bool.false_and, Bool.false_eq_true, if_false]
    exact KeepsOut.next hk
  · exact fun t ht => Keeps.outside hk hs (execEnterCleared_keepsF hC (Keeps.refl s) t ht)

theorem execTallyExitDone_keepsF (hC : Settles noFld) {s : State} (hk : Keeps noFld False False u₀ s) :
    KeepsOut noFld False False u₀ (execTallyExitDone s) := by
  unfold execTallyExitDone
  repeat' first
    | with_reducible assumption
    | (extract_lets +onlyGivenNames x; first | (refine (have hx : Keeps noFld False False u₀ x := ?_; ?_); subst x; rotate_left; clear_value x) | subst x)
    | with_reducible exact noFld_apart _
    | with_reducible exact noFld_ne _
    | with_reducible apply State.exitTally_keeps hC
    | with_reducible apply Keeps.wr
    | with_reducible apply Keeps.setReg
    | with_reducible apply KeepsOut.next
    | with_reducible apply Keeps.foldl
    | split
    | intro _
    | (with_reducible apply Keeps.lit <;> with_reducible first | rfl | assumption | exact fun _ h => h | exact fun _ _ => rfl | exact fun _ => rfl | exact fun h => h.elim)

theorem execTallyExitDone_keeps (hC : Settles noFld) {s : State} (hk : Keeps noFld False H u₀ s) :
    KeepsOut noFld False H u₀ (execTallyExitDone s) := by
  by_cases hs : s.base = .held
  · unfold execTallyExitDone
    simp only [hs, show (Base.held == Base.tally) = false from rfl, Bool.and_false, Bool.false_and, Bool.false_eq_true, if_false]
    exact KeepsOut.next hk
  · exact fun t ht => Keeps.outside hk hs (execTallyExitDone_keepsF hC (Keeps.refl s) t ht)

theorem State.modQueue_keeps (hC : Settles noFld) {s : State} {q : Nat} {f : Queue → Queue} (hk : Keeps noFld False H u₀ s) :
    Keeps noFld False H u₀ (s.modQueue q f) := by
  unfold State.modQueue
  repeat' first
    | with_reducible assumption
    | (extract_lets +onlyGivenNames x; first | (refine (have hx : Keeps noFld False H u₀ x := ?_; ?_); subst x; rotate_left; clear_value x) | subst x)
    | with_reducible exact noFld_apart _
    | with_reducible exact noFld_ne _
    | with_reducible apply Keeps.wr
    | with_reducible apply Keeps.setReg
    | with_reducible apply Keeps.foldl
    | split
    | intro _
    | (with_reducible apply Keeps.lit <;> with_reducible first | rfl | assumption | exact fun _ h => h | exact fun _ _ => rfl | exact fun _ => rfl | exact fun h => h.elim)

theorem State.disableQueue_keeps (hC : Settles noFld) {s : State} {q : Nat} {err : Nat} (hk : Keeps noFld False H u₀ s) :
    Keeps noFld False H u₀ (s.disableQueue q err) := by
  unfold State.disableQueue
  repeat' first
    | with_reducible assumption
    | (extract_lets +onlyGivenNames x; first | (refine (have hx : Keeps noFld False H u₀ x := ?_; ?_); subst x; rotate_left; clear_value x) | subst x)
    | with_reducible exact noFld_apart _
    | with_reducible exact noFld_ne _
    | with_reducible apply State.endAborts_keeps hC
    | with_reducible apply State.modQueue_keeps hC
    | with_reducible apply Keeps.wr
    | (with_reducible refine Keeps.elim ?_ fun _ _ => ?_)
    | with_reducible apply Keeps.setReg
    | with_reducible apply Keeps.foldl
    | split
    | intro _
    | (with_reducible apply Keeps.lit <;> with_reducible first | rfl | assumption | exact fun _ h => h | exact fun _ _ => rfl | exact fun _ => rfl | exact fun h => h.elim)

theorem State.reportTorn_keeps (hC : Settles noFld) {s : State} (hk : Keeps noFld False H u₀ s) :
    Keeps noFld False H u₀ (s.reportTorn) := by
  unfold State.reportTorn
  repeat' first
    | with_reducible assumption
    | (extract_lets +onlyGivenNames x; first | (refine (have hx : Keeps noFld False H u₀ x := ?_; ?_); subst x; rotate_left; clear_value x) | subst x)
    | with_reducible exact noFld_apart _
    | with_reducible exact noFld_ne _
    | with_reducible apply State.post_keeps hC
    | with_reducible refine State.readMem_of hC (by with_reducible assumption) ?_
    | with_reducible apply State.readMem_keeps hC
    | with_reducible apply State.recPut_keeps hC (fun h => h.elim)
    | with_reducible apply Keeps.wr
    | with_reducible apply Keeps.setReg
    | with_reducible apply Keeps.foldl
    | split
    | intro _
    | (with_reducible apply Keeps.lit <;> with_reducible first | rfl | assumption | exact fun _ h => h | exact fun _ _ => rfl | exact fun _ => rfl | exact fun h => h.elim)

theorem State.enableQueue_keeps (hC : Settles noFld) {s : State} {q : Nat} (hk : Keeps noFld False H u₀ s) :
    Keeps noFld False H u₀ (s.enableQueue q) := by
  unfold State.enableQueue
  repeat' first
    | with_reducible assumption
    | (extract_lets +onlyGivenNames x; first | (refine (have hx : Keeps noFld False H u₀ x := ?_; ?_); subst x; rotate_left; clear_value x) | subst x)
    | with_reducible exact noFld_apart _
    | with_reducible exact noFld_ne _
    | with_reducible apply State.modQueue_keeps hC
    | with_reducible apply State.reportTorn_keeps hC
    | with_reducible apply Keeps.setReg
    | with_reducible apply Keeps.wr
    | with_reducible apply Keeps.foldl
    | split
    | intro _
    | (with_reducible apply Keeps.lit <;> with_reducible first | rfl | assumption | exact fun _ h => h | exact fun _ _ => rfl | exact fun _ => rfl | exact fun h => h.elim)

theorem State.writeQCfg_keeps (hC : Settles noFld) {s : State} {q : Nat} {w : Word} (hk : Keeps noFld False H u₀ s) :
    Keeps noFld False H u₀ (s.writeQCfg q w) := by
  unfold State.writeQCfg
  repeat' first
    | with_reducible assumption
    | (extract_lets +onlyGivenNames x; first | (refine (have hx : Keeps noFld False H u₀ x := ?_; ?_); subst x; rotate_left; clear_value x) | subst x)
    | with_reducible exact noFld_apart _
    | with_reducible exact noFld_ne _
    | with_reducible apply State.disableQueue_keeps hC
    | with_reducible apply State.enableQueue_keeps hC
    | with_reducible apply Keeps.wr
    | with_reducible apply Keeps.setReg
    | with_reducible apply Keeps.foldl
    | split
    | intro _
    | (with_reducible apply Keeps.lit <;> with_reducible first | rfl | assumption | exact fun _ h => h | exact fun _ _ => rfl | exact fun _ => rfl | exact fun h => h.elim)

theorem execQueueEnable_keeps (hC : Settles noFld) {q : Fin 16} {w : BitVec 32} {s : State} (hk : Keeps noFld False H u₀ s) :
    KeepsOut noFld False H u₀ (execQueueEnable q w s) := by
  unfold execQueueEnable
  repeat' first
    | with_reducible assumption
    | (extract_lets +onlyGivenNames x; first | (refine (have hx : Keeps noFld False H u₀ x := ?_; ?_); subst x; rotate_left; clear_value x) | subst x)
    | with_reducible exact noFld_apart _
    | with_reducible exact noFld_ne _
    | with_reducible refine State.hostReg_keeps hC ?_ ?_
    | with_reducible apply State.writeQCfg_keeps hC
    | with_reducible apply Keeps.wr
    | with_reducible apply Keeps.setReg
    | with_reducible apply KeepsOut.next
    | with_reducible apply Keeps.foldl
    | split
    | intro _
    | (with_reducible apply Keeps.lit <;> with_reducible first | rfl | assumption | exact fun _ h => h | exact fun _ _ => rfl | exact fun _ => rfl | exact fun h => h.elim)

theorem execQueueDisable_keeps (hC : Settles noFld) {q : Fin 16} {w : BitVec 32} {s : State} (hk : Keeps noFld False H u₀ s) :
    KeepsOut noFld False H u₀ (execQueueDisable q w s) := by
  unfold execQueueDisable
  repeat' first
    | with_reducible assumption
    | (extract_lets +onlyGivenNames x; first | (refine (have hx : Keeps noFld False H u₀ x := ?_; ?_); subst x; rotate_left; clear_value x) | subst x)
    | with_reducible exact noFld_apart _
    | with_reducible exact noFld_ne _
    | with_reducible refine State.hostReg_keeps hC ?_ ?_
    | with_reducible apply State.writeQCfg_keeps hC
    | with_reducible apply Keeps.wr
    | with_reducible apply Keeps.setReg
    | with_reducible apply KeepsOut.next
    | with_reducible apply Keeps.foldl
    | split
    | intro _
    | (with_reducible apply Keeps.lit <;> with_reducible first | rfl | assumption | exact fun _ h => h | exact fun _ _ => rfl | exact fun _ => rfl | exact fun h => h.elim)

theorem State.writeQBase_keeps (hC : Settles noFld) {s : State} {q : Nat} {f : Fld} {w : Word} (hk : Keeps noFld False H u₀ s) :
    Keeps noFld False H u₀ (s.writeQBase q f w) := by
  unfold State.writeQBase
  repeat' first
    | with_reducible assumption
    | (extract_lets +onlyGivenNames x; first | (refine (have hx : Keeps noFld False H u₀ x := ?_; ?_); subst x; rotate_left; clear_value x) | subst x)
    | with_reducible exact noFld_apart _
    | with_reducible exact noFld_ne _
    | with_reducible apply Keeps.wr
    | with_reducible apply Keeps.setReg
    | with_reducible apply Keeps.foldl
    | split
    | intro _
    | (with_reducible apply Keeps.lit <;> with_reducible first | rfl | assumption | exact fun _ h => h | exact fun _ _ => rfl | exact fun _ => rfl | exact fun h => h.elim)

theorem State.qovf_keeps (hC : Settles noFld) {s : State} {q : Nat} (hk : Keeps noFld False H u₀ s) :
    Keeps noFld False H u₀ (s.qovf q) := by
  unfold State.qovf
  repeat' first
    | with_reducible assumption
    | (extract_lets +onlyGivenNames x; first | (refine (have hx : Keeps noFld False H u₀ x := ?_; ?_); subst x; rotate_left; clear_value x) | subst x)
    | with_reducible exact noFld_apart _
    | with_reducible exact noFld_ne _
    | with_reducible apply State.bump_keeps hC
    | with_reducible apply State.queueVec_keeps hC
    | with_reducible apply Keeps.wr
    | with_reducible apply Keeps.setReg
    | with_reducible apply Keeps.foldl
    | split
    | intro _
    | (with_reducible apply Keeps.lit <;> with_reducible first | rfl | assumption | exact fun _ h => h | exact fun _ _ => rfl | exact fun _ => rfl | exact fun h => h.elim)

theorem State.ringTail_keeps (hC : Settles noFld) {s : State} {q : Nat} {w : Word} (hk : Keeps noFld False H u₀ s) :
    Keeps noFld False H u₀ (s.ringTail q w).1 := by
  unfold State.ringTail
  repeat' first
    | with_reducible assumption
    | (extract_lets +onlyGivenNames x; first | (refine (have hx : Keeps noFld False H u₀ x := ?_; ?_); subst x; rotate_left; clear_value x) | subst x)
    | with_reducible exact noFld_apart _
    | with_reducible exact noFld_ne _
    | with_reducible apply State.qovf_keeps hC
    | with_reducible apply Keeps.wr
    | with_reducible apply Keeps.setReg
    | with_reducible apply Keeps.foldl
    | split
    | intro _
    | (with_reducible apply Keeps.lit <;> with_reducible first | rfl | assumption | exact fun _ h => h | exact fun _ _ => rfl | exact fun _ => rfl | exact fun h => h.elim)

theorem State.ringTail_of (hC : Settles noFld) {s : State} {q : Nat} {w : Word} {x₁ : State} {y0 : Bool} (he : (s.ringTail q w) = (x₁, y0))
    (hk : Keeps noFld False H u₀ s) : Keeps noFld False H u₀ x₁ := by
  have hr : Keeps noFld False H u₀ (s.ringTail q w).1 := State.ringTail_keeps hC hk
  rw [he] at hr
  exact hr

theorem State.writeHeld_keeps (hC : Settles noFld) {s : State} {q n : Nat}
    (hk : Keeps noFld False H u₀ s) : Keeps noFld False H u₀ (s.writeHeld q n) := by
  induction n generalizing s with
  | zero => exact hk
  | succ n ih =>
    unfold State.writeHeld
    repeat' first
      | with_reducible assumption
      | with_reducible apply ih
      | with_reducible apply State.modQueue_keeps hC
      | with_reducible apply State.writeCompl_keeps hC
      | (with_reducible refine Keeps.elim ?_ fun _ _ => ?_)
      | with_reducible apply State.endAborts_keeps hC
      | split

theorem State.ringHead_keeps (hC : Settles noFld) {s : State} {q : Nat} {w : Word} (hk : Keeps noFld False H u₀ s) :
    Keeps noFld False H u₀ (s.ringHead q w).1 := by
  unfold State.ringHead
  repeat' first
    | with_reducible assumption
    | (extract_lets +onlyGivenNames x; first | (refine (have hx : Keeps noFld False H u₀ x := ?_; ?_); subst x; rotate_left; clear_value x) | subst x)
    | with_reducible exact noFld_apart _
    | with_reducible exact noFld_ne _
    | with_reducible apply State.qovf_keeps hC
    | with_reducible apply State.queueVec_keeps hC
    | with_reducible apply Keeps.wr
    | with_reducible apply State.writeHeld_keeps hC
    | with_reducible apply Keeps.setReg
    | with_reducible apply Keeps.foldl
    | split
    | intro _
    | (with_reducible apply Keeps.lit <;> with_reducible first | rfl | assumption | exact fun _ h => h | exact fun _ _ => rfl | exact fun _ => rfl | exact fun h => h.elim)

theorem State.ringHead_of (hC : Settles noFld) {s : State} {q : Nat} {w : Word} {x₁ : State} {y0 : Bool} (he : (s.ringHead q w) = (x₁, y0))
    (hk : Keeps noFld False H u₀ s) : Keeps noFld False H u₀ x₁ := by
  have hr : Keeps noFld False H u₀ (s.ringHead q w).1 := State.ringHead_keeps hC hk
  rw [he] at hr
  exact hr

theorem execSubmissionTailDoorbell_keeps (hC : Settles noFld) {q : Fin 16} {w : BitVec 32} {s : State} (hk : Keeps noFld False H u₀ s) :
    KeepsOut noFld False H u₀ (execSubmissionTailDoorbell q w s) := by
  unfold execSubmissionTailDoorbell
  repeat' first
    | with_reducible assumption
    | (extract_lets +onlyGivenNames x; first | (refine (have hx : Keeps noFld False H u₀ x := ?_; ?_); subst x; rotate_left; clear_value x) | subst x)
    | with_reducible exact noFld_apart _
    | with_reducible exact noFld_ne _
    | with_reducible refine State.hostReg_keeps hC ?_ ?_
    | with_reducible refine State.ringTail_of hC (by with_reducible assumption) ?_
    | with_reducible apply State.ringTail_keeps hC
    | with_reducible apply Keeps.wr
    | with_reducible apply Keeps.setReg
    | with_reducible apply KeepsOut.next
    | with_reducible apply Keeps.foldl
    | split
    | intro _
    | (with_reducible apply Keeps.lit <;> with_reducible first | rfl | assumption | exact fun _ h => h | exact fun _ _ => rfl | exact fun _ => rfl | exact fun h => h.elim)

theorem execCompletionHeadDoorbell_keeps (hC : Settles noFld) {q : Fin 16} {w : BitVec 32} {s : State} (hk : Keeps noFld False H u₀ s) :
    KeepsOut noFld False H u₀ (execCompletionHeadDoorbell q w s) := by
  unfold execCompletionHeadDoorbell
  repeat' first
    | with_reducible assumption
    | (extract_lets +onlyGivenNames x; first | (refine (have hx : Keeps noFld False H u₀ x := ?_; ?_); subst x; rotate_left; clear_value x) | subst x)
    | with_reducible exact noFld_apart _
    | with_reducible exact noFld_ne _
    | with_reducible refine State.hostReg_keeps hC ?_ ?_
    | with_reducible refine State.ringHead_of hC (by with_reducible assumption) ?_
    | with_reducible apply State.ringHead_keeps hC
    | with_reducible apply Keeps.wr
    | with_reducible apply Keeps.setReg
    | with_reducible apply KeepsOut.next
    | with_reducible apply Keeps.foldl
    | split
    | intro _
    | (with_reducible apply Keeps.lit <;> with_reducible first | rfl | assumption | exact fun _ h => h | exact fun _ _ => rfl | exact fun _ => rfl | exact fun h => h.elim)

theorem execQcoalTimer_keeps (hC : Settles noFld) {q : Fin 16} {s : State} (hk : Keeps noFld False H u₀ s) :
    KeepsOut noFld False H u₀ (execQcoalTimer q s) := by
  unfold execQcoalTimer
  repeat' first
    | with_reducible assumption
    | (extract_lets +onlyGivenNames x; first | (refine (have hx : Keeps noFld False H u₀ x := ?_; ?_); subst x; rotate_left; clear_value x) | subst x)
    | with_reducible exact noFld_apart _
    | with_reducible exact noFld_ne _
    | with_reducible apply Keeps.count
    | with_reducible apply State.queueVec_keeps hC
    | with_reducible apply Keeps.wr
    | with_reducible apply Keeps.setReg
    | with_reducible apply KeepsOut.next
    | with_reducible apply Keeps.foldl
    | split
    | intro _
    | (with_reducible apply Keeps.lit <;> with_reducible first | rfl | assumption | exact fun _ h => h | exact fun _ _ => rfl | exact fun _ => rfl | exact fun h => h.elim)

theorem State.writePending_keeps (hC : Settles noFld) {s : State} {w : Word} (hk : Keeps noFld False H u₀ s) :
    Keeps noFld False H u₀ (s.writePending w) := by
  unfold State.writePending
  repeat' first
    | with_reducible assumption
    | (extract_lets +onlyGivenNames x; first | (refine (have hx : Keeps noFld False H u₀ x := ?_; ?_); subst x; rotate_left; clear_value x) | subst x)
    | with_reducible exact noFld_apart _
    | with_reducible exact noFld_ne _
    | with_reducible apply Keeps.wr
    | with_reducible apply Keeps.setReg
    | with_reducible apply Keeps.foldl
    | split
    | intro _
    | (with_reducible apply Keeps.lit <;> with_reducible first | rfl | assumption | exact fun _ h => h | exact fun _ _ => rfl | exact fun _ => rfl | exact fun h => h.elim)

theorem execPendingClear_keeps (hC : Settles noFld) {w : BitVec 32} {s : State} (hk : Keeps noFld False H u₀ s) :
    KeepsOut noFld False H u₀ (execPendingClear w s) := by
  unfold execPendingClear
  repeat' first
    | with_reducible assumption
    | (extract_lets +onlyGivenNames x; first | (refine (have hx : Keeps noFld False H u₀ x := ?_; ?_); subst x; rotate_left; clear_value x) | subst x)
    | with_reducible exact noFld_apart _
    | with_reducible exact noFld_ne _
    | with_reducible refine State.hostReg_keeps hC ?_ ?_
    | with_reducible apply State.writePending_keeps hC
    | with_reducible apply Keeps.wr
    | with_reducible apply Keeps.setReg
    | with_reducible apply KeepsOut.next
    | with_reducible apply Keeps.foldl
    | split
    | intro _
    | (with_reducible apply Keeps.lit <;> with_reducible first | rfl | assumption | exact fun _ h => h | exact fun _ _ => rfl | exact fun _ => rfl | exact fun h => h.elim)

theorem State.writePinmask_keeps (hC : Settles noFld) {s : State} {k : Nat} {w : Word} (hk : Keeps noFld False H u₀ s) :
    Keeps noFld False H u₀ (s.writePinmask k w) := by
  unfold State.writePinmask
  repeat' first
    | with_reducible assumption
    | (extract_lets +onlyGivenNames x; first | (refine (have hx : Keeps noFld False H u₀ x := ?_; ?_); subst x; rotate_left; clear_value x) | subst x)
    | with_reducible exact noFld_apart _
    | with_reducible exact noFld_ne _
    | with_reducible apply Keeps.wr
    | with_reducible apply Keeps.setReg
    | with_reducible apply Keeps.foldl
    | split
    | intro _
    | (with_reducible apply Keeps.lit <;> with_reducible first | rfl | assumption | exact fun _ h => h | exact fun _ _ => rfl | exact fun _ => rfl | exact fun h => h.elim)

theorem execPinmaskWrite_keeps (hC : Settles noFld) {k : Fin 4} {w : BitVec 32} {s : State} (hk : Keeps noFld False H u₀ s) :
    KeepsOut noFld False H u₀ (execPinmaskWrite k w s) := by
  unfold execPinmaskWrite
  repeat' first
    | with_reducible assumption
    | (extract_lets +onlyGivenNames x; first | (refine (have hx : Keeps noFld False H u₀ x := ?_; ?_); subst x; rotate_left; clear_value x) | subst x)
    | with_reducible exact noFld_apart _
    | with_reducible exact noFld_ne _
    | with_reducible refine State.hostReg_keeps hC ?_ ?_
    | with_reducible apply State.writePinmask_keeps hC
    | with_reducible apply Keeps.wr
    | with_reducible apply Keeps.setReg
    | with_reducible apply KeepsOut.next
    | with_reducible apply Keeps.foldl
    | split
    | intro _
    | (with_reducible apply Keeps.lit <;> with_reducible first | rfl | assumption | exact fun _ h => h | exact fun _ _ => rfl | exact fun _ => rfl | exact fun h => h.elim)

theorem execNop_keeps (hC : Settles noFld) {tag : Fin 64} {s : State} (hk : Keeps noFld False H u₀ s) :
    KeepsOut noFld False H u₀ (execNop tag s) := by
  unfold execNop
  repeat' first
    | with_reducible assumption
    | (extract_lets +onlyGivenNames x; first | (refine (have hx : Keeps noFld False H u₀ x := ?_; ?_); subst x; rotate_left; clear_value x) | subst x)
    | with_reducible exact noFld_apart _
    | with_reducible exact noFld_ne _
    | with_reducible apply State.complete_keeps hC
    | with_reducible apply State.settle_keeps hC
    | with_reducible apply Keeps.wr
    | with_reducible apply Keeps.setReg
    | with_reducible apply KeepsOut.next
    | with_reducible apply Keeps.foldl
    | split
    | intro _
    | (with_reducible apply Keeps.lit <;> with_reducible first | rfl | assumption | exact fun _ h => h | exact fun _ _ => rfl | exact fun _ => rfl | exact fun h => h.elim)

theorem State.setFl_keeps (hC : Settles noFld) {s : State} {f : Flash → Flash} (hk : Keeps noFld False H u₀ s) :
    Keeps noFld False H u₀ (s.setFl f) := by
  unfold State.setFl
  repeat' first
    | with_reducible assumption
    | (extract_lets +onlyGivenNames x; first | (refine (have hx : Keeps noFld False H u₀ x := ?_; ?_); subst x; rotate_left; clear_value x) | subst x)
    | with_reducible exact noFld_apart _
    | with_reducible exact noFld_ne _
    | with_reducible apply Keeps.wr
    | with_reducible apply Keeps.setReg
    | with_reducible apply Keeps.foldl
    | split
    | intro _
    | (with_reducible apply Keeps.lit <;> with_reducible first | rfl | assumption | exact fun _ h => h | exact fun _ _ => rfl | exact fun _ => rfl | exact fun h => h.elim)

theorem State.flashSelect_keeps (hC : Settles noFld) {s : State} (hk : Keeps noFld False H u₀ s) :
    Keeps noFld False H u₀ (s.flashSelect) := by
  unfold State.flashSelect
  repeat' first
    | with_reducible assumption
    | (extract_lets +onlyGivenNames x; first | (refine (have hx : Keeps noFld False H u₀ x := ?_; ?_); subst x; rotate_left; clear_value x) | subst x)
    | with_reducible exact noFld_apart _
    | with_reducible exact noFld_ne _
    | with_reducible apply Keeps.wr
    | with_reducible apply Keeps.setReg
    | with_reducible apply Keeps.foldl
    | split
    | intro _
    | (with_reducible apply Keeps.lit <;> with_reducible first | rfl | assumption | exact fun _ h => h | exact fun _ _ => rfl | exact fun _ => rfl | exact fun h => h.elim)

theorem State.flashBusy_keeps (hC : Settles noFld) {s : State} (hk : Keeps noFld False H u₀ s) :
    Keeps noFld False H u₀ (s.flashBusy) := by
  unfold State.flashBusy
  repeat' first
    | with_reducible assumption
    | (extract_lets +onlyGivenNames x; first | (refine (have hx : Keeps noFld False H u₀ x := ?_; ?_); subst x; rotate_left; clear_value x) | subst x)
    | with_reducible exact noFld_apart _
    | with_reducible exact noFld_ne _
    | with_reducible apply State.wrB_keeps hC
    | with_reducible apply Keeps.wr
    | with_reducible apply Keeps.setReg
    | with_reducible apply Keeps.foldl
    | split
    | intro _
    | (with_reducible apply Keeps.lit <;> with_reducible first | rfl | assumption | exact fun _ h => h | exact fun _ _ => rfl | exact fun _ => rfl | exact fun h => h.elim)

theorem State.writeJournal_keeps (hC : Settles noFld) {s : State} {active : Nat} {len : Nat} {serial : Nat} (hk : Keeps noFld False H u₀ s) :
    Keeps noFld False H u₀ (s.writeJournal active len serial) := by
  unfold State.writeJournal
  repeat' first
    | with_reducible assumption
    | (extract_lets +onlyGivenNames x; first | (refine (have hx : Keeps noFld False H u₀ x := ?_; ?_); subst x; rotate_left; clear_value x) | subst x)
    | with_reducible exact noFld_apart _
    | with_reducible exact noFld_ne _
    | with_reducible apply State.flashErase_keeps hC
    | with_reducible apply State.flashProgram_keeps hC
    | with_reducible apply Keeps.wr
    | with_reducible apply Keeps.setReg
    | with_reducible apply Keeps.foldl
    | split
    | intro _
    | (with_reducible apply Keeps.lit <;> with_reducible first | rfl | assumption | exact fun _ h => h | exact fun _ _ => rfl | exact fun _ => rfl | exact fun h => h.elim)

theorem State.waitHost_keeps (hC : Settles noFld) {s : State} (hk : Keeps noFld False H u₀ s) :
    Keeps noFld False H u₀ (s.waitHost) := by
  unfold State.waitHost
  repeat' first
    | with_reducible assumption
    | (extract_lets +onlyGivenNames x; first | (refine (have hx : Keeps noFld False H u₀ x := ?_; ?_); subst x; rotate_left; clear_value x) | subst x)
    | with_reducible exact noFld_apart _
    | with_reducible exact noFld_ne _
    | with_reducible apply State.rodVec_keeps hC
    | with_reducible apply State.setImg_keeps hC
    | with_reducible apply Keeps.wr
    | with_reducible apply Keeps.setReg
    | with_reducible apply Keeps.foldl
    | split
    | intro _
    | (with_reducible apply Keeps.lit <;> with_reducible first | rfl | assumption | exact fun _ h => h | exact fun _ _ => rfl | exact fun _ => rfl | exact fun h => h.elim)

theorem State.trySlot_keeps (hC : Settles noFld) {s : State} {k : Nat} {rest : List Nat} {named : Bool} (hk : Keeps noFld False H u₀ s) :
    Keeps noFld False H u₀ (s.trySlot k rest named) := by
  unfold State.trySlot
  repeat' first
    | with_reducible assumption
    | (extract_lets +onlyGivenNames x; first | (refine (have hx : Keeps noFld False H u₀ x := ?_; ?_); subst x; rotate_left; clear_value x) | subst x)
    | with_reducible exact noFld_apart _
    | with_reducible exact noFld_ne _
    | with_reducible apply State.setImg_keeps hC
    | with_reducible apply Keeps.wr
    | with_reducible apply Keeps.setReg
    | with_reducible apply Keeps.foldl
    | split
    | intro _
    | (with_reducible apply Keeps.lit <;> with_reducible first | rfl | assumption | exact fun _ h => h | exact fun _ _ => rfl | exact fun _ => rfl | exact fun h => h.elim)

theorem State.bootImage_keeps (hC : Settles noFld) {s : State} {flash : Bool} (hk : Keeps noFld False H u₀ s) :
    Keeps noFld False H u₀ (s.bootImage flash) := by
  unfold State.bootImage
  repeat' first
    | with_reducible assumption
    | (extract_lets +onlyGivenNames x; first | (refine (have hx : Keeps noFld False H u₀ x := ?_; ?_); subst x; rotate_left; clear_value x) | subst x)
    | with_reducible exact noFld_apart _
    | with_reducible exact noFld_ne _
    | with_reducible apply State.trySlot_keeps hC
    | with_reducible apply State.waitHost_keeps hC
    | with_reducible apply Keeps.wr
    | with_reducible apply Keeps.setReg
    | with_reducible apply Keeps.foldl
    | split
    | intro _
    | (with_reducible apply Keeps.lit <;> with_reducible first | rfl | assumption | exact fun _ h => h | exact fun _ _ => rfl | exact fun _ => rfl | exact fun h => h.elim)

theorem execFlashNegotiation_keeps (hC : Settles noFld) {c : FlashChip} {s : State} (hk : Keeps noFld False H u₀ s) :
    KeepsOut noFld False H u₀ (execFlashNegotiation c s) := by
  unfold execFlashNegotiation
  repeat' first
    | with_reducible assumption
    | (extract_lets +onlyGivenNames x; first | (refine (have hx : Keeps noFld False H u₀ x := ?_; ?_); subst x; rotate_left; clear_value x) | subst x)
    | with_reducible exact noFld_apart _
    | with_reducible exact noFld_ne _
    | with_reducible apply State.bootImage_keeps hC
    | with_reducible apply State.clearFaults_keeps hC
    | with_reducible apply State.flashBusy_keeps hC
    | with_reducible apply State.flashSelect_keeps hC
    | with_reducible apply State.raise_keeps hC
    | with_reducible apply State.setFl_keeps hC
    | with_reducible apply State.settle_keeps hC
    | with_reducible apply Keeps.wr
    | with_reducible apply State.wrB_keeps hC
    | with_reducible apply Keeps.setReg
    | with_reducible apply KeepsOut.next
    | with_reducible apply Keeps.foldl
    | split
    | intro _
    | (with_reducible apply Keeps.lit <;> with_reducible first | rfl | assumption | exact fun _ h => h | exact fun _ _ => rfl | exact fun _ => rfl | exact fun h => h.elim)

theorem execSlotErase_keeps (hC : Settles noFld) {tag : Fin 64} {s : State} (hk : Keeps noFld False H u₀ s) :
    KeepsOut noFld False H u₀ (execSlotErase tag s) := by
  unfold execSlotErase
  repeat' first
    | with_reducible assumption
    | (extract_lets +onlyGivenNames x; first | (refine (have hx : Keeps noFld False H u₀ x := ?_; ?_); subst x; rotate_left; clear_value x) | subst x)
    | with_reducible exact noFld_apart _
    | with_reducible exact noFld_ne _
    | with_reducible apply State.endOpen_keeps hC
    | with_reducible apply State.flashBusy_keeps hC
    | with_reducible apply State.setFl_keeps hC
    | with_reducible apply State.settle_keeps hC
    | with_reducible apply State.start_keeps hC
    | with_reducible apply Keeps.wr
    | with_reducible apply Keeps.setReg
    | with_reducible apply KeepsOut.next
    | with_reducible apply Keeps.foldl
    | split
    | intro _
    | (with_reducible apply Keeps.lit <;> with_reducible first | rfl | assumption | exact fun _ h => h | exact fun _ _ => rfl | exact fun _ => rfl | exact fun h => h.elim)

theorem State.slotEnd_keeps (hC : Settles noFld) {s : State} {j : SlotJob} {status : Nat} {state : Nat} (hk : Keeps noFld False H u₀ s) :
    Keeps noFld False H u₀ (s.slotEnd j status state) := by
  unfold State.slotEnd
  repeat' first
    | with_reducible assumption
    | (extract_lets +onlyGivenNames x; first | (refine (have hx : Keeps noFld False H u₀ x := ?_; ?_); subst x; rotate_left; clear_value x) | subst x)
    | with_reducible exact noFld_apart _
    | with_reducible exact noFld_ne _
    | with_reducible apply State.complete_keeps hC
    | with_reducible apply State.flashBusy_keeps hC
    | with_reducible apply State.setFl_keeps hC
    | with_reducible apply State.settle_keeps hC
    | with_reducible apply Keeps.wr
    | with_reducible apply Keeps.setReg
    | with_reducible apply Keeps.foldl
    | split
    | intro _
    | (with_reducible apply Keeps.lit <;> with_reducible first | rfl | assumption | exact fun _ h => h | exact fun _ _ => rfl | exact fun _ => rfl | exact fun h => h.elim)

theorem State.slotSectorDone_keeps (hC : Settles noFld) {s : State} (hk : Keeps noFld False H u₀ s) :
    Keeps noFld False H u₀ (s.slotSectorDone) := by
  unfold State.slotSectorDone
  repeat' first
    | with_reducible assumption
    | (extract_lets +onlyGivenNames x; first | (refine (have hx : Keeps noFld False H u₀ x := ?_; ?_); subst x; rotate_left; clear_value x) | subst x)
    | with_reducible exact noFld_apart _
    | with_reducible exact noFld_ne _
    | with_reducible apply State.flashErase_keeps hC
    | with_reducible apply State.setFl_keeps hC
    | with_reducible apply State.slotEnd_keeps hC
    | with_reducible apply Keeps.wr
    | with_reducible apply Keeps.setReg
    | with_reducible apply Keeps.foldl
    | split
    | intro _
    | (with_reducible apply Keeps.lit <;> with_reducible first | rfl | assumption | exact fun _ h => h | exact fun _ _ => rfl | exact fun _ => rfl | exact fun h => h.elim)

theorem execEraseTimeExceeded_keeps (hC : Settles noFld) {s : State} (hk : Keeps noFld False H u₀ s) :
    KeepsOut noFld False H u₀ (execEraseTimeExceeded s) := by
  unfold execEraseTimeExceeded
  repeat' first
    | with_reducible assumption
    | (extract_lets +onlyGivenNames x; first | (refine (have hx : Keeps noFld False H u₀ x := ?_; ?_); subst x; rotate_left; clear_value x) | subst x)
    | with_reducible exact noFld_apart _
    | with_reducible exact noFld_ne _
    | with_reducible apply State.slotEnd_keeps hC
    | with_reducible apply Keeps.wr
    | with_reducible apply Keeps.setReg
    | with_reducible apply KeepsOut.next
    | with_reducible apply Keeps.foldl
    | split
    | intro _
    | (with_reducible apply Keeps.lit <;> with_reducible first | rfl | assumption | exact fun _ h => h | exact fun _ _ => rfl | exact fun _ => rfl | exact fun h => h.elim)

theorem execSlotWrite_keeps (hC : Settles noFld) {tag : Fin 64} {s : State} (hk : Keeps noFld False H u₀ s) :
    KeepsOut noFld False H u₀ (execSlotWrite tag s) := by
  unfold execSlotWrite
  repeat' first
    | with_reducible assumption
    | (extract_lets +onlyGivenNames x; first | (refine (have hx : Keeps noFld False H u₀ x := ?_; ?_); subst x; rotate_left; clear_value x) | subst x)
    | with_reducible exact noFld_apart _
    | with_reducible exact noFld_ne _
    | with_reducible apply State.endOpen_keeps hC
    | with_reducible apply State.flashBusy_keeps hC
    | with_reducible apply State.setFl_keeps hC
    | with_reducible apply State.settle_keeps hC
    | with_reducible apply State.start_keeps hC
    | with_reducible apply Keeps.wr
    | with_reducible apply Keeps.setReg
    | with_reducible apply KeepsOut.next
    | with_reducible apply Keeps.foldl
    | split
    | intro _
    | (with_reducible apply Keeps.lit <;> with_reducible first | rfl | assumption | exact fun _ h => h | exact fun _ _ => rfl | exact fun _ => rfl | exact fun h => h.elim)

theorem State.flashLeft_keeps (hC : Settles noFld) {s : State} {a : Nat} {l : List (Nat)}
    (hk : Keeps noFld False H u₀ s) : Keeps noFld False H u₀ (s.flashLeft a l) := by
  induction l generalizing s a with
  | nil => exact hk
  | cons b l ih => exact ih (Keeps.setFlash hk)

theorem execPageProgramDone_keeps (hC : Settles noFld) {left : Option (List (BitVec 8))} {s : State} (hk : Keeps noFld False H u₀ s) :
    KeepsOut noFld False H u₀ (execPageProgramDone left s) := by
  unfold execPageProgramDone
  repeat' first
    | with_reducible assumption
    | (extract_lets +onlyGivenNames x; first | (refine (have hx : Keeps noFld False H u₀ x := ?_; ?_); subst x; rotate_left; clear_value x) | subst x)
    | with_reducible exact noFld_apart _
    | with_reducible exact noFld_ne _
    | with_reducible apply State.bump_keeps hC
    | with_reducible apply State.flashLeft_keeps hC
    | with_reducible apply State.flashProgram_keeps hC
    | with_reducible refine State.readMem_of hC (by with_reducible assumption) ?_
    | with_reducible apply State.readMem_keeps hC
    | with_reducible apply State.setFl_keeps hC
    | with_reducible apply State.slotEnd_keeps hC
    | with_reducible apply Keeps.wr
    | with_reducible apply Keeps.setReg
    | with_reducible apply KeepsOut.next
    | with_reducible apply Keeps.foldl
    | split
    | intro _
    | (with_reducible apply Keeps.lit <;> with_reducible first | rfl | assumption | exact fun _ h => h | exact fun _ _ => rfl | exact fun _ => rfl | exact fun h => h.elim)

theorem State.failStep_keeps (hC : Settles noFld) {s : State} {n : Nat} (hk : Keeps noFld False H u₀ s) :
    Keeps noFld False H u₀ (s.failStep n) := by
  unfold State.failStep
  repeat' first
    | with_reducible assumption
    | (extract_lets +onlyGivenNames x; first | (refine (have hx : Keeps noFld False H u₀ x := ?_; ?_); subst x; rotate_left; clear_value x) | subst x)
    | with_reducible exact noFld_apart _
    | with_reducible exact noFld_ne _
    | with_reducible apply Keeps.wr
    | with_reducible apply Keeps.setReg
    | with_reducible apply Keeps.foldl
    | split
    | intro _
    | (with_reducible apply Keeps.lit <;> with_reducible first | rfl | assumption | exact fun _ h => h | exact fun _ _ => rfl | exact fun _ => rfl | exact fun h => h.elim)

theorem execSlotVerify_keeps (hC : Settles noFld) {tag : Fin 64} {s : State} (hk : Keeps noFld False H u₀ s) :
    KeepsOut noFld False H u₀ (execSlotVerify tag s) := by
  unfold execSlotVerify
  repeat' first
    | with_reducible assumption
    | (extract_lets +onlyGivenNames x; first | (refine (have hx : Keeps noFld False H u₀ x := ?_; ?_); subst x; rotate_left; clear_value x) | subst x)
    | with_reducible exact noFld_apart _
    | with_reducible exact noFld_ne _
    | with_reducible apply State.complete_keeps hC
    | with_reducible apply State.failStep_keeps hC
    | with_reducible apply State.flashRead_keeps hC
    | with_reducible apply State.settle_keeps hC
    | with_reducible apply Keeps.wr
    | with_reducible apply Keeps.setReg
    | with_reducible apply KeepsOut.next
    | with_reducible apply Keeps.foldl
    | split
    | intro _
    | (with_reducible apply Keeps.lit <;> with_reducible first | rfl | assumption | exact fun _ h => h | exact fun _ _ => rfl | exact fun _ => rfl | exact fun h => h.elim)

theorem execSlotSwitch_keeps (hC : Settles noFld) {tag : Fin 64} {s : State} (hk : Keeps noFld False H u₀ s) :
    KeepsOut noFld False H u₀ (execSlotSwitch tag s) := by
  unfold execSlotSwitch
  repeat' first
    | with_reducible assumption
    | (extract_lets +onlyGivenNames x; first | (refine (have hx : Keeps noFld False H u₀ x := ?_; ?_); subst x; rotate_left; clear_value x) | subst x)
    | with_reducible exact noFld_apart _
    | with_reducible exact noFld_ne _
    | with_reducible apply State.complete_keeps hC
    | with_reducible apply State.endOpen_keeps hC
    | with_reducible apply Keeps.openWord
    | with_reducible apply State.settle_keeps hC
    | with_reducible apply State.writeJournal_keeps hC
    | with_reducible apply Keeps.wr
    | with_reducible apply Keeps.setReg
    | with_reducible apply KeepsOut.next
    | with_reducible apply Keeps.foldl
    | split
    | intro _
    | (with_reducible apply Keeps.lit <;> with_reducible first | rfl | assumption | exact fun _ h => h | exact fun _ _ => rfl | exact fun _ => rfl | exact fun h => h.elim)

theorem execReadToSram_keeps (hC : Settles noFld) {tag : Fin 64} {s : State} (hk : Keeps noFld False H u₀ s) :
    KeepsOut noFld False H u₀ (execReadToSram tag s) := by
  unfold execReadToSram
  repeat' first
    | with_reducible assumption
    | (extract_lets +onlyGivenNames x; first | (refine (have hx : Keeps noFld False H u₀ x := ?_; ?_); subst x; rotate_left; clear_value x) | subst x)
    | with_reducible exact noFld_apart _
    | with_reducible exact noFld_ne _
    | with_reducible apply State.complete_keeps hC
    | with_reducible apply State.endOpen_keeps hC
    | with_reducible apply State.flashRead_keeps hC
    | with_reducible apply State.lost_keeps hC
    | with_reducible apply State.settle_keeps hC
    | with_reducible apply State.writeMem_keeps hC (fun h => h.elim)
    | with_reducible apply Keeps.wr
    | with_reducible apply Keeps.setReg
    | with_reducible apply KeepsOut.next
    | with_reducible apply Keeps.foldl
    | split
    | intro _
    | (with_reducible apply Keeps.lit <;> with_reducible first | rfl | assumption | exact fun _ h => h | exact fun _ _ => rfl | exact fun _ => rfl | exact fun h => h.elim)

theorem State.chanIdle_keeps (hC : Settles noFld) {s : State} {k : Nat} (hk : Keeps noFld False H u₀ s) :
    Keeps noFld False H u₀ (s.chanIdle k) := by
  unfold State.chanIdle
  repeat' first
    | with_reducible assumption
    | (extract_lets +onlyGivenNames x; first | (refine (have hx : Keeps noFld False H u₀ x := ?_; ?_); subst x; rotate_left; clear_value x) | subst x)
    | with_reducible exact noFld_apart _
    | with_reducible exact noFld_ne _
    | with_reducible apply State.modChan_keeps hC
    | with_reducible apply Keeps.wr
    | with_reducible apply Keeps.setReg
    | with_reducible apply Keeps.foldl
    | split
    | intro _
    | (with_reducible apply Keeps.lit <;> with_reducible first | rfl | assumption | exact fun _ h => h | exact fun _ _ => rfl | exact fun _ => rfl | exact fun h => h.elim)

theorem State.chanError_keeps (hC : Settles noFld) {s : State} {k : Nat} {cause : Nat} {desc : Nat} {at_ : Nat} (hk : Keeps noFld False H u₀ s) :
    Keeps noFld False H u₀ (s.chanError k cause desc at_) := by
  unfold State.chanError
  repeat' first
    | with_reducible assumption
    | (extract_lets +onlyGivenNames x; first | (refine (have hx : Keeps noFld False H u₀ x := ?_; ?_); subst x; rotate_left; clear_value x) | subst x)
    | with_reducible exact noFld_apart _
    | with_reducible exact noFld_ne _
    | with_reducible apply State.chanIdle_keeps hC
    | with_reducible apply State.complete_keeps hC
    | with_reducible apply State.evtBit_keeps hC
    | with_reducible apply Keeps.wr
    | with_reducible apply Keeps.setReg
    | with_reducible apply Keeps.foldl
    | split
    | intro _
    | (with_reducible apply Keeps.lit <;> with_reducible first | rfl | assumption | exact fun _ h => h | exact fun _ _ => rfl | exact fun _ => rfl | exact fun h => h.elim)

theorem State.startDesc_keeps (hC : Settles noFld) {s : State} {k : Nat} {a : Nat} (hk : Keeps noFld False H u₀ s) :
    Keeps noFld False H u₀ (s.startDesc k a) := by
  unfold State.startDesc
  repeat' first
    | with_reducible assumption
    | (extract_lets +onlyGivenNames x; first | (refine (have hx : Keeps noFld False H u₀ x := ?_; ?_); subst x; rotate_left; clear_value x) | subst x)
    | with_reducible exact noFld_apart _
    | with_reducible exact noFld_ne _
    | with_reducible apply State.chanError_keeps hC
    | with_reducible apply State.modChan_keeps hC
    | with_reducible refine State.readMem_of hC (by with_reducible assumption) ?_
    | with_reducible apply State.readMem_keeps hC
    | with_reducible apply Keeps.wr
    | with_reducible apply Keeps.setReg
    | with_reducible apply Keeps.foldl
    | split
    | intro _
    | (with_reducible apply Keeps.lit <;> with_reducible first | rfl | assumption | exact fun _ h => h | exact fun _ _ => rfl | exact fun _ => rfl | exact fun h => h.elim)

theorem State.chainEnd_keeps (hC : Settles noFld) {s : State} {k : Nat} (hk : Keeps noFld False H u₀ s) :
    Keeps noFld False H u₀ (s.chainEnd k) := by
  unfold State.chainEnd
  repeat' first
    | with_reducible assumption
    | (extract_lets +onlyGivenNames x; first | (refine (have hx : Keeps noFld False H u₀ x := ?_; ?_); subst x; rotate_left; clear_value x) | subst x)
    | with_reducible exact noFld_apart _
    | with_reducible exact noFld_ne _
    | with_reducible apply State.chanIdle_keeps hC
    | with_reducible apply State.complete_keeps hC
    | with_reducible apply State.evtBit_keeps hC
    | with_reducible apply Keeps.wr
    | with_reducible apply Keeps.setReg
    | with_reducible apply Keeps.foldl
    | split
    | intro _
    | (with_reducible apply Keeps.lit <;> with_reducible first | rfl | assumption | exact fun _ h => h | exact fun _ _ => rfl | exact fun _ => rfl | exact fun h => h.elim)

theorem State.readLink_keeps (hC : Settles noFld) {s : State} {k n : Nat}
    (hk : Keeps noFld False H u₀ s) : Keeps noFld False H u₀ (s.readLink k n) := by
  induction n generalizing s with
  | zero => exact hk
  | succ n ih =>
    unfold State.readLink
    repeat' first
      | with_reducible assumption
      | (extract_lets +onlyGivenNames x; first | (refine (have hx : Keeps noFld False H u₀ x := ?_; ?_); subst x; rotate_left; clear_value x) | subst x)
      | with_reducible exact noFld_apart _
      | with_reducible apply ih
      | with_reducible apply State.readMem_keeps hC
      | with_reducible apply State.chanError_keeps hC
      | with_reducible apply State.startDesc_keeps hC
      | with_reducible apply State.chainEnd_keeps hC
      | with_reducible apply Keeps.wr
      | with_reducible apply State.bump_keeps hC
      | split

theorem State.descEnded_keeps (hC : Settles noFld) {s : State} {k : Nat} (hk : Keeps noFld False H u₀ s) :
    Keeps noFld False H u₀ (s.descEnded k) := by
  unfold State.descEnded
  repeat' first
    | with_reducible assumption
    | (extract_lets +onlyGivenNames x; first | (refine (have hx : Keeps noFld False H u₀ x := ?_; ?_); subst x; rotate_left; clear_value x) | subst x)
    | with_reducible exact noFld_apart _
    | with_reducible exact noFld_ne _
    | with_reducible apply State.bump_keeps hC
    | with_reducible apply State.evtBit_keeps hC
    | with_reducible apply State.modChan_keeps hC
    | with_reducible apply Keeps.wr
    | with_reducible apply Keeps.setReg
    | with_reducible apply Keeps.foldl
    | split
    | intro _
    | (with_reducible apply Keeps.lit <;> with_reducible first | rfl | assumption | exact fun _ h => h | exact fun _ _ => rfl | exact fun _ => rfl | exact fun h => h.elim)

theorem execDescriptorEnd_keeps (hC : Settles noFld) {ch : Fin 16} {s : State} (hk : Keeps noFld False H u₀ s) :
    KeepsOut noFld False H u₀ (execDescriptorEnd ch s) := by
  unfold execDescriptorEnd
  repeat' first
    | with_reducible assumption
    | (extract_lets +onlyGivenNames x; first | (refine (have hx : Keeps noFld False H u₀ x := ?_; ?_); subst x; rotate_left; clear_value x) | subst x)
    | with_reducible exact noFld_apart _
    | with_reducible exact noFld_ne _
    | with_reducible apply State.chanError_keeps hC
    | with_reducible apply State.descEnded_keeps hC
    | with_reducible apply State.readLink_keeps hC
    | with_reducible refine State.runBursts_of hC (by with_reducible assumption) ?_
    | with_reducible apply State.runBursts_keeps hC
    | with_reducible apply State.settle_keeps hC
    | with_reducible apply Keeps.wr
    | with_reducible apply Keeps.setReg
    | with_reducible apply KeepsOut.next
    | with_reducible apply Keeps.foldl
    | split
    | intro _
    | (with_reducible apply Keeps.lit <;> with_reducible first | rfl | assumption | exact fun _ h => h | exact fun _ _ => rfl | exact fun _ => rfl | exact fun h => h.elim)

theorem State.startChain_keeps (hC : Settles noFld) {s : State} {k : Nat} {a : Nat} {owner : Nat} {c : Chan} (hk : Keeps noFld False H u₀ s) :
    Keeps noFld False H u₀ (s.startChain k a owner c) := by
  unfold State.startChain
  repeat' first
    | with_reducible assumption
    | (extract_lets +onlyGivenNames x; first | (refine (have hx : Keeps noFld False H u₀ x := ?_; ?_); subst x; rotate_left; clear_value x) | subst x)
    | with_reducible exact noFld_apart _
    | with_reducible exact noFld_ne _
    | with_reducible apply State.modChan_keeps hC
    | with_reducible apply State.startDesc_keeps hC
    | with_reducible apply Keeps.wr
    | with_reducible apply Keeps.setReg
    | with_reducible apply Keeps.foldl
    | split
    | intro _
    | (with_reducible apply Keeps.lit <;> with_reducible first | rfl | assumption | exact fun _ h => h | exact fun _ _ => rfl | exact fun _ => rfl | exact fun h => h.elim)

theorem State.chanGo_keeps (hC : Settles noFld) {s : State} {k : Nat} (hk : Keeps noFld False H u₀ s) :
    Keeps noFld False H u₀ (s.chanGo k) := by
  unfold State.chanGo
  repeat' first
    | with_reducible assumption
    | (extract_lets +onlyGivenNames x; first | (refine (have hx : Keeps noFld False H u₀ x := ?_; ?_); subst x; rotate_left; clear_value x) | subst x)
    | with_reducible exact noFld_apart _
    | with_reducible exact noFld_ne _
    | with_reducible apply State.startChain_keeps hC
    | with_reducible apply Keeps.wr
    | with_reducible apply Keeps.setReg
    | with_reducible apply Keeps.foldl
    | split
    | intro _
    | (with_reducible apply Keeps.lit <;> with_reducible first | rfl | assumption | exact fun _ h => h | exact fun _ _ => rfl | exact fun _ => rfl | exact fun h => h.elim)

theorem State.chanStop_keeps (hC : Settles noFld) {s : State} {k : Nat} (hk : Keeps noFld False H u₀ s) :
    Keeps noFld False H u₀ (s.chanStop k) := by
  unfold State.chanStop
  repeat' first
    | with_reducible assumption
    | (extract_lets +onlyGivenNames x; first | (refine (have hx : Keeps noFld False H u₀ x := ?_; ?_); subst x; rotate_left; clear_value x) | subst x)
    | with_reducible exact noFld_apart _
    | with_reducible exact noFld_ne _
    | with_reducible apply State.chanIdle_keeps hC
    | with_reducible apply State.interrupt_keeps hC
    | with_reducible apply Keeps.wr
    | with_reducible apply Keeps.setReg
    | with_reducible apply Keeps.foldl
    | split
    | intro _
    | (with_reducible apply Keeps.lit <;> with_reducible first | rfl | assumption | exact fun _ h => h | exact fun _ _ => rfl | exact fun _ => rfl | exact fun h => h.elim)

theorem State.chanClear_keeps (hC : Settles noFld) {s : State} {k : Nat} (hk : Keeps noFld False H u₀ s) :
    Keeps noFld False H u₀ (s.chanClear k) := by
  unfold State.chanClear
  repeat' first
    | with_reducible assumption
    | (extract_lets +onlyGivenNames x; first | (refine (have hx : Keeps noFld False H u₀ x := ?_; ?_); subst x; rotate_left; clear_value x) | subst x)
    | with_reducible exact noFld_apart _
    | with_reducible exact noFld_ne _
    | with_reducible apply State.chanIdle_keeps hC
    | with_reducible apply Keeps.wr
    | with_reducible apply Keeps.setReg
    | with_reducible apply Keeps.foldl
    | split
    | intro _
    | (with_reducible apply Keeps.lit <;> with_reducible first | rfl | assumption | exact fun _ h => h | exact fun _ _ => rfl | exact fun _ => rfl | exact fun h => h.elim)

theorem State.writeChCtrl_keeps (hC : Settles noFld) {s : State} {k : Nat} {w : Word} (hk : Keeps noFld False H u₀ s) :
    Keeps noFld False H u₀ (s.writeChCtrl k w) := by
  unfold State.writeChCtrl
  repeat' first
    | with_reducible assumption
    | (extract_lets +onlyGivenNames x; first | (refine (have hx : Keeps noFld False H u₀ x := ?_; ?_); subst x; rotate_left; clear_value x) | subst x)
    | with_reducible exact noFld_apart _
    | with_reducible exact noFld_ne _
    | with_reducible apply State.chanClear_keeps hC
    | with_reducible apply State.chanGo_keeps hC
    | with_reducible apply State.chanStop_keeps hC
    | with_reducible apply Keeps.wr
    | with_reducible apply Keeps.setReg
    | with_reducible apply Keeps.foldl
    | split
    | intro _
    | (with_reducible apply Keeps.lit <;> with_reducible first | rfl | assumption | exact fun _ h => h | exact fun _ _ => rfl | exact fun _ => rfl | exact fun h => h.elim)

theorem execGo_keeps (hC : Settles noFld) {ch : Fin 16} {w : BitVec 32} {s : State} (hk : Keeps noFld False H u₀ s) :
    KeepsOut noFld False H u₀ (execGo ch w s) := by
  unfold execGo
  repeat' first
    | with_reducible assumption
    | (extract_lets +onlyGivenNames x; first | (refine (have hx : Keeps noFld False H u₀ x := ?_; ?_); subst x; rotate_left; clear_value x) | subst x)
    | with_reducible exact noFld_apart _
    | with_reducible exact noFld_ne _
    | with_reducible refine State.hostReg_keeps hC ?_ ?_
    | with_reducible apply State.settle_keeps hC
    | with_reducible apply State.writeChCtrl_keeps hC
    | with_reducible apply Keeps.wr
    | with_reducible apply Keeps.setReg
    | with_reducible apply KeepsOut.next
    | with_reducible apply Keeps.foldl
    | split
    | intro _
    | (with_reducible apply Keeps.lit <;> with_reducible first | rfl | assumption | exact fun _ h => h | exact fun _ _ => rfl | exact fun _ => rfl | exact fun h => h.elim)

theorem execStop_keeps (hC : Settles noFld) {ch : Fin 16} {w : BitVec 32} {s : State} (hk : Keeps noFld False H u₀ s) :
    KeepsOut noFld False H u₀ (execStop ch w s) := by
  unfold execStop
  repeat' first
    | with_reducible assumption
    | (extract_lets +onlyGivenNames x; first | (refine (have hx : Keeps noFld False H u₀ x := ?_; ?_); subst x; rotate_left; clear_value x) | subst x)
    | with_reducible exact noFld_apart _
    | with_reducible exact noFld_ne _
    | with_reducible refine State.hostReg_keeps hC ?_ ?_
    | with_reducible apply State.settle_keeps hC
    | with_reducible apply State.writeChCtrl_keeps hC
    | with_reducible apply Keeps.wr
    | with_reducible apply Keeps.setReg
    | with_reducible apply KeepsOut.next
    | with_reducible apply Keeps.foldl
    | split
    | intro _
    | (with_reducible apply Keeps.lit <;> with_reducible first | rfl | assumption | exact fun _ h => h | exact fun _ _ => rfl | exact fun _ => rfl | exact fun h => h.elim)

theorem execClear_keeps (hC : Settles noFld) {ch : Fin 16} {w : BitVec 32} {s : State} (hk : Keeps noFld False H u₀ s) :
    KeepsOut noFld False H u₀ (execClear ch w s) := by
  unfold execClear
  repeat' first
    | with_reducible assumption
    | (extract_lets +onlyGivenNames x; first | (refine (have hx : Keeps noFld False H u₀ x := ?_; ?_); subst x; rotate_left; clear_value x) | subst x)
    | with_reducible exact noFld_apart _
    | with_reducible exact noFld_ne _
    | with_reducible refine State.hostReg_keeps hC ?_ ?_
    | with_reducible apply State.settle_keeps hC
    | with_reducible apply State.writeChCtrl_keeps hC
    | with_reducible apply Keeps.wr
    | with_reducible apply Keeps.setReg
    | with_reducible apply KeepsOut.next
    | with_reducible apply Keeps.foldl
    | split
    | intro _
    | (with_reducible apply Keeps.lit <;> with_reducible first | rfl | assumption | exact fun _ h => h | exact fun _ _ => rfl | exact fun _ => rfl | exact fun h => h.elim)

theorem State.append_keeps (hC : Settles noFld) {s : State} {k : Nat} (hk : Keeps noFld False H u₀ s) :
    Keeps noFld False H u₀ (s.append k) := by
  unfold State.append
  repeat' first
    | with_reducible assumption
    | (extract_lets +onlyGivenNames x; first | (refine (have hx : Keeps noFld False H u₀ x := ?_; ?_); subst x; rotate_left; clear_value x) | subst x)
    | with_reducible exact noFld_apart _
    | with_reducible exact noFld_ne _
    | with_reducible apply State.bump_keeps hC
    | with_reducible apply State.readLink_keeps hC
    | with_reducible refine State.readMem_of hC (by with_reducible assumption) ?_
    | with_reducible apply State.readMem_keeps hC
    | with_reducible apply Keeps.wr
    | with_reducible apply Keeps.setReg
    | with_reducible apply Keeps.foldl
    | split
    | intro _
    | (with_reducible apply Keeps.lit <;> with_reducible first | rfl | assumption | exact fun _ h => h | exact fun _ _ => rfl | exact fun _ => rfl | exact fun h => h.elim)

theorem execAppend_keeps (hC : Settles noFld) {ch : Fin 16} {s : State} (hk : Keeps noFld False H u₀ s) :
    KeepsOut noFld False H u₀ (execAppend ch s) := by
  unfold execAppend
  repeat' first
    | with_reducible assumption
    | (extract_lets +onlyGivenNames x; first | (refine (have hx : Keeps noFld False H u₀ x := ?_; ?_); subst x; rotate_left; clear_value x) | subst x)
    | with_reducible exact noFld_apart _
    | with_reducible exact noFld_ne _
    | with_reducible apply State.append_keeps hC
    | with_reducible refine State.hostReg_keeps hC ?_ ?_
    | with_reducible apply State.settle_keeps hC
    | with_reducible apply Keeps.wr
    | with_reducible apply Keeps.setReg
    | with_reducible apply KeepsOut.next
    | with_reducible apply Keeps.foldl
    | split
    | intro _
    | (with_reducible apply Keeps.lit <;> with_reducible first | rfl | assumption | exact fun _ h => h | exact fun _ _ => rfl | exact fun _ => rfl | exact fun h => h.elim)

theorem execMove_keeps (hC : Settles noFld) {tag : Fin 64} {s : State} (hk : Keeps noFld False H u₀ s) :
    KeepsOut noFld False H u₀ (execMove tag s) := by
  unfold execMove
  repeat' first
    | with_reducible assumption
    | (extract_lets +onlyGivenNames x; first | (refine (have hx : Keeps noFld False H u₀ x := ?_; ?_); subst x; rotate_left; clear_value x) | subst x)
    | with_reducible exact noFld_apart _
    | with_reducible exact noFld_ne _
    | with_reducible apply State.settle_keeps hC
    | with_reducible apply State.start_keeps hC
    | with_reducible apply State.startChain_keeps hC
    | with_reducible apply Keeps.wr
    | with_reducible apply Keeps.setReg
    | with_reducible apply KeepsOut.next
    | with_reducible apply Keeps.foldl
    | split
    | intro _
    | (with_reducible apply Keeps.lit <;> with_reducible first | rfl | assumption | exact fun _ h => h | exact fun _ _ => rfl | exact fun _ => rfl | exact fun h => h.elim)

theorem State.abortMove_keeps (hC : Settles noFld) {s : State} {t : Nat} (hk : Keeps noFld False H u₀ s) :
    Keeps noFld False H u₀ (s.abortMove t) := by
  unfold State.abortMove
  repeat' first
    | with_reducible assumption
    | (extract_lets +onlyGivenNames x; first | (refine (have hx : Keeps noFld False H u₀ x := ?_; ?_); subst x; rotate_left; clear_value x) | subst x)
    | with_reducible exact noFld_apart _
    | with_reducible exact noFld_ne _
    | with_reducible apply State.chanIdle_keeps hC
    | with_reducible apply State.complete_keeps hC
    | with_reducible apply State.interrupt_keeps hC
    | with_reducible apply Keeps.wr
    | with_reducible apply Keeps.setReg
    | with_reducible apply Keeps.foldl
    | split
    | intro _
    | (with_reducible apply Keeps.lit <;> with_reducible first | rfl | assumption | exact fun _ h => h | exact fun _ _ => rfl | exact fun _ => rfl | exact fun h => h.elim)

theorem State.stopMover_keeps (hC : Settles noFld) {s : State} (hk : Keeps noFld False H u₀ s) :
    Keeps noFld False H u₀ (s.stopMover) := by
  unfold State.stopMover
  repeat' first
    | with_reducible assumption
    | (extract_lets +onlyGivenNames x; first | (refine (have hx : Keeps noFld False H u₀ x := ?_; ?_); subst x; rotate_left; clear_value x) | subst x)
    | with_reducible exact noFld_apart _
    | with_reducible exact noFld_ne _
    | with_reducible apply State.abortMove_keeps hC
    | with_reducible apply State.chanIdle_keeps hC
    | with_reducible apply State.interrupt_keeps hC
    | with_reducible apply Keeps.wr
    | with_reducible apply Keeps.setReg
    | with_reducible apply Keeps.foldl
    | split
    | intro _
    | (with_reducible apply Keeps.lit <;> with_reducible first | rfl | assumption | exact fun _ h => h | exact fun _ _ => rfl | exact fun _ => rfl | exact fun h => h.elim)

theorem State.vidinRaise_keeps (hC : Settles noFld) {s : State} {code : Nat} {param : Nat} (hk : Keeps noFld False H u₀ s) :
    Keeps noFld False H u₀ (s.vidinRaise code param) := by
  unfold State.vidinRaise
  repeat' first
    | with_reducible assumption
    | (extract_lets +onlyGivenNames x; first | (refine (have hx : Keeps noFld False H u₀ x := ?_; ?_); subst x; rotate_left; clear_value x) | subst x)
    | with_reducible exact noFld_apart _
    | with_reducible exact noFld_ne _
    | with_reducible apply State.clearFaults_keeps hC
    | with_reducible apply State.evt_keeps hC
    | with_reducible apply State.raise_keeps hC
    | with_reducible apply Keeps.wr
    | with_reducible apply Keeps.setReg
    | with_reducible apply Keeps.foldl
    | split
    | intro _
    | (with_reducible apply Keeps.lit <;> with_reducible first | rfl | assumption | exact fun _ h => h | exact fun _ _ => rfl | exact fun _ => rfl | exact fun h => h.elim)

theorem State.negotiate_keeps (hC : Settles noFld) {s : State} {n : Negotiation} (hk : Keeps noFld False H u₀ s) :
    Keeps noFld False H u₀ (s.negotiate n).1 := by
  unfold State.negotiate
  repeat' first
    | with_reducible assumption
    | (extract_lets +onlyGivenNames x; first | (refine (have hx : Keeps noFld False H u₀ x := ?_; ?_); subst x; rotate_left; clear_value x) | subst x)
    | with_reducible exact noFld_apart _
    | with_reducible exact noFld_ne _
    | with_reducible apply State.clearFaults_keeps hC
    | with_reducible apply State.evt_keeps hC
    | with_reducible apply Keeps.openWord
    | with_reducible apply State.vidinRaise_keeps hC
    | with_reducible apply Keeps.wr
    | with_reducible apply State.wrB_keeps hC
    | with_reducible apply Keeps.setReg
    | with_reducible apply Keeps.foldl
    | split
    | intro _
    | (with_reducible apply Keeps.lit <;> with_reducible first | rfl | assumption | exact fun _ h => h | exact fun _ _ => rfl | exact fun _ => rfl | exact fun h => h.elim)

theorem State.negotiate_of (hC : Settles noFld) {s : State} {n : Negotiation} {x₁ : State} {y0 : Bool} (he : (s.negotiate n) = (x₁, y0))
    (hk : Keeps noFld False H u₀ s) : Keeps noFld False H u₀ x₁ := by
  have hr : Keeps noFld False H u₀ (s.negotiate n).1 := State.negotiate_keeps hC hk
  rw [he] at hr
  exact hr

theorem State.vidinTested_keeps (hC : Settles noFld) {s : State} (hk : Keeps noFld False H u₀ s) :
    Keeps noFld False H u₀ (s.vidinTested) := by
  unfold State.vidinTested
  repeat' first
    | with_reducible assumption
    | (extract_lets +onlyGivenNames x; first | (refine (have hx : Keeps noFld False H u₀ x := ?_; ?_); subst x; rotate_left; clear_value x) | subst x)
    | with_reducible exact noFld_apart _
    | with_reducible exact noFld_ne _
    | with_reducible apply Keeps.wr
    | with_reducible apply Keeps.setReg
    | with_reducible apply Keeps.foldl
    | split
    | intro _
    | (with_reducible apply Keeps.lit <;> with_reducible first | rfl | assumption | exact fun _ h => h | exact fun _ _ => rfl | exact fun _ => rfl | exact fun h => h.elim)

theorem State.renegotiated_keeps (hC : Settles noFld) {s : State} {ok : Bool} (hk : Keeps noFld False H u₀ s) :
    Keeps noFld False H u₀ (s.renegotiated ok) := by
  unfold State.renegotiated
  repeat' first
    | with_reducible assumption
    | (extract_lets +onlyGivenNames x; first | (refine (have hx : Keeps noFld False H u₀ x := ?_; ?_); subst x; rotate_left; clear_value x) | subst x)
    | with_reducible exact noFld_apart _
    | with_reducible exact noFld_ne _
    | with_reducible apply State.complete_keeps hC
    | with_reducible apply State.setVid_keeps hC
    | with_reducible apply Keeps.wr
    | with_reducible apply Keeps.setReg
    | with_reducible apply Keeps.foldl
    | split
    | intro _
    | (with_reducible apply Keeps.lit <;> with_reducible first | rfl | assumption | exact fun _ h => h | exact fun _ _ => rfl | exact fun _ => rfl | exact fun h => h.elim)

theorem execNegotiationRetry_keeps (hC : Settles noFld) {n : Negotiation} {s : State} (hk : Keeps noFld False H u₀ s) :
    KeepsOut noFld False H u₀ (execNegotiationRetry n s) := by
  unfold execNegotiationRetry
  repeat' first
    | with_reducible assumption
    | (extract_lets +onlyGivenNames x; first | (refine (have hx : Keeps noFld False H u₀ x := ?_; ?_); subst x; rotate_left; clear_value x) | subst x)
    | with_reducible exact noFld_apart _
    | with_reducible exact noFld_ne _
    | with_reducible refine State.negotiate_of hC (by with_reducible assumption) ?_
    | with_reducible apply State.negotiate_keeps hC
    | with_reducible apply State.settle_keeps hC
    | with_reducible apply State.vidinTested_keeps hC
    | with_reducible apply Keeps.wr
    | with_reducible apply Keeps.setReg
    | with_reducible apply KeepsOut.next
    | with_reducible apply Keeps.foldl
    | split
    | intro _
    | (with_reducible apply Keeps.lit <;> with_reducible first | rfl | assumption | exact fun _ h => h | exact fun _ _ => rfl | exact fun _ => rfl | exact fun h => h.elim)

theorem execCamSleep_keeps (hC : Settles noFld) {s : State} (hk : Keeps noFld False H u₀ s) :
    KeepsOut noFld False H u₀ (execCamSleep s) := by
  unfold execCamSleep
  repeat' first
    | with_reducible assumption
    | (extract_lets +onlyGivenNames x; first | (refine (have hx : Keeps noFld False H u₀ x := ?_; ?_); subst x; rotate_left; clear_value x) | subst x)
    | with_reducible exact noFld_apart _
    | with_reducible exact noFld_ne _
    | with_reducible apply Keeps.wr
    | with_reducible apply Keeps.setReg
    | with_reducible apply KeepsOut.next
    | with_reducible apply Keeps.foldl
    | split
    | intro _
    | (with_reducible apply Keeps.lit <;> with_reducible first | rfl | assumption | exact fun _ h => h | exact fun _ _ => rfl | exact fun _ => rfl | exact fun h => h.elim)

theorem execRenegotiate_keeps (hC : Settles noFld) {tag : Fin 64} {s : State} (hk : Keeps noFld False H u₀ s) :
    KeepsOut noFld False H u₀ (execRenegotiate tag s) := by
  unfold execRenegotiate
  repeat' first
    | with_reducible assumption
    | (extract_lets +onlyGivenNames x; first | (refine (have hx : Keeps noFld False H u₀ x := ?_; ?_); subst x; rotate_left; clear_value x) | subst x)
    | with_reducible exact noFld_apart _
    | with_reducible exact noFld_ne _
    | with_reducible apply State.endOpen_keeps hC
    | with_reducible apply State.setVid_keeps hC
    | with_reducible apply State.settle_keeps hC
    | with_reducible apply State.start_keeps hC
    | with_reducible apply Keeps.wr
    | with_reducible apply Keeps.setReg
    | with_reducible apply KeepsOut.next
    | with_reducible apply Keeps.foldl
    | split
    | intro _
    | (with_reducible apply Keeps.lit <;> with_reducible first | rfl | assumption | exact fun _ h => h | exact fun _ _ => rfl | exact fun _ => rfl | exact fun h => h.elim)

theorem State.blanking_keeps (hC : Settles noFld) {s : State} {mean : Nat} (hk : Keeps noFld False H u₀ s) :
    Keeps noFld False H u₀ (s.blanking mean) := by
  unfold State.blanking
  repeat' first
    | with_reducible assumption
    | (extract_lets +onlyGivenNames x; first | (refine (have hx : Keeps noFld False H u₀ x := ?_; ?_); subst x; rotate_left; clear_value x) | subst x)
    | with_reducible exact noFld_apart _
    | with_reducible exact noFld_ne _
    | with_reducible apply State.setVid_keeps hC
    | with_reducible apply Keeps.wr
    | with_reducible apply Keeps.setReg
    | with_reducible apply Keeps.foldl
    | split
    | intro _
    | (with_reducible apply Keeps.lit <;> with_reducible first | rfl | assumption | exact fun _ h => h | exact fun _ _ => rfl | exact fun _ => rfl | exact fun h => h.elim)

theorem State.writeExposure_keeps (hC : Settles noFld) {s : State} {w : Word} (hk : Keeps noFld False H u₀ s) :
    Keeps noFld False H u₀ (s.writeExposure w) := by
  unfold State.writeExposure
  repeat' first
    | with_reducible assumption
    | (extract_lets +onlyGivenNames x; first | (refine (have hx : Keeps noFld False H u₀ x := ?_; ?_); subst x; rotate_left; clear_value x) | subst x)
    | with_reducible exact noFld_apart _
    | with_reducible exact noFld_ne _
    | with_reducible apply State.setVid_keeps hC
    | with_reducible apply Keeps.wr
    | with_reducible apply Keeps.setReg
    | with_reducible apply Keeps.foldl
    | split
    | intro _
    | (with_reducible apply Keeps.lit <;> with_reducible first | rfl | assumption | exact fun _ h => h | exact fun _ _ => rfl | exact fun _ => rfl | exact fun h => h.elim)

theorem execExposureWrite_keeps (hC : Settles noFld) {w : BitVec 32} {s : State} (hk : Keeps noFld False H u₀ s) :
    KeepsOut noFld False H u₀ (execExposureWrite w s) := by
  unfold execExposureWrite
  repeat' first
    | with_reducible assumption
    | (extract_lets +onlyGivenNames x; first | (refine (have hx : Keeps noFld False H u₀ x := ?_; ?_); subst x; rotate_left; clear_value x) | subst x)
    | with_reducible exact noFld_apart _
    | with_reducible exact noFld_ne _
    | with_reducible refine State.hostReg_keeps hC ?_ ?_
    | with_reducible apply State.writeExposure_keeps hC
    | with_reducible apply Keeps.wr
    | with_reducible apply Keeps.setReg
    | with_reducible apply KeepsOut.next
    | with_reducible apply Keeps.foldl
    | split
    | intro _
    | (with_reducible apply Keeps.lit <;> with_reducible first | rfl | assumption | exact fun _ h => h | exact fun _ _ => rfl | exact fun _ => rfl | exact fun h => h.elim)

theorem State.sessionOpen_keeps (hC : Settles noFld) {s : State} {kind : Nat} {v : Vid} (hk : Keeps noFld False H u₀ s) :
    Keeps noFld False H u₀ (s.sessionOpen kind v) := by
  unfold State.sessionOpen
  repeat' first
    | with_reducible assumption
    | (extract_lets +onlyGivenNames x; first | (refine (have hx : Keeps noFld False H u₀ x := ?_; ?_); subst x; rotate_left; clear_value x) | subst x)
    | with_reducible exact noFld_apart _
    | with_reducible exact noFld_ne _
    | with_reducible apply Keeps.setReg
    | with_reducible apply State.setVid_keeps hC
    | with_reducible apply Keeps.wr
    | with_reducible apply Keeps.foldl
    | split
    | intro _
    | (with_reducible apply Keeps.lit <;> with_reducible first | rfl | assumption | exact fun _ h => h | exact fun _ _ => rfl | exact fun _ => rfl | exact fun h => h.elim)

theorem State.sessionClose_keeps (hC : Settles noFld) {s : State} (hk : Keeps noFld False H u₀ s) :
    Keeps noFld False H u₀ (s.sessionClose) := by
  unfold State.sessionClose
  repeat' first
    | with_reducible assumption
    | (extract_lets +onlyGivenNames x; first | (refine (have hx : Keeps noFld False H u₀ x := ?_; ?_); subst x; rotate_left; clear_value x) | subst x)
    | with_reducible exact noFld_apart _
    | with_reducible exact noFld_ne _
    | with_reducible apply State.setVid_keeps hC
    | with_reducible apply Keeps.wr
    | with_reducible apply Keeps.setReg
    | with_reducible apply Keeps.foldl
    | split
    | intro _
    | (with_reducible apply Keeps.lit <;> with_reducible first | rfl | assumption | exact fun _ h => h | exact fun _ _ => rfl | exact fun _ => rfl | exact fun h => h.elim)

theorem execCaptureStart_keeps (hC : Settles noFld) {tag : Fin 64} {s : State} (hk : Keeps noFld False H u₀ s) :
    KeepsOut noFld False H u₀ (execCaptureStart tag s) := by
  unfold execCaptureStart
  repeat' first
    | with_reducible assumption
    | (extract_lets +onlyGivenNames x; first | (refine (have hx : Keeps noFld False H u₀ x := ?_; ?_); subst x; rotate_left; clear_value x) | subst x)
    | with_reducible exact noFld_apart _
    | with_reducible exact noFld_ne _
    | with_reducible apply State.endOpen_keeps hC
    | with_reducible apply State.sessionOpen_keeps hC
    | with_reducible apply State.settle_keeps hC
    | with_reducible apply State.start_keeps hC
    | with_reducible apply Keeps.wr
    | with_reducible apply Keeps.setReg
    | with_reducible apply KeepsOut.next
    | with_reducible apply Keeps.foldl
    | split
    | intro _
    | (with_reducible apply Keeps.lit <;> with_reducible first | rfl | assumption | exact fun _ h => h | exact fun _ _ => rfl | exact fun _ => rfl | exact fun h => h.elim)

theorem execCaptureStop_keeps (hC : Settles noFld) {tag : Fin 64} {s : State} (hk : Keeps noFld False H u₀ s) :
    KeepsOut noFld False H u₀ (execCaptureStop tag s) := by
  unfold execCaptureStop
  repeat' first
    | with_reducible assumption
    | (extract_lets +onlyGivenNames x; first | (refine (have hx : Keeps noFld False H u₀ x := ?_; ?_); subst x; rotate_left; clear_value x) | subst x)
    | with_reducible exact noFld_apart _
    | with_reducible exact noFld_ne _
    | with_reducible apply State.endOpen_keeps hC
    | with_reducible apply State.setVid_keeps hC
    | with_reducible apply State.settle_keeps hC
    | with_reducible apply State.start_keeps hC
    | with_reducible apply Keeps.wr
    | with_reducible apply Keeps.setReg
    | with_reducible apply KeepsOut.next
    | with_reducible apply Keeps.foldl
    | split
    | intro _
    | (with_reducible apply Keeps.lit <;> with_reducible first | rfl | assumption | exact fun _ h => h | exact fun _ _ => rfl | exact fun _ => rfl | exact fun h => h.elim)

theorem State.captureStopped_keeps (hC : Settles noFld) {s : State} (hk : Keeps noFld False H u₀ s) :
    Keeps noFld False H u₀ (s.captureStopped) := by
  unfold State.captureStopped
  repeat' first
    | with_reducible assumption
    | (extract_lets +onlyGivenNames x; first | (refine (have hx : Keeps noFld False H u₀ x := ?_; ?_); subst x; rotate_left; clear_value x) | subst x)
    | with_reducible exact noFld_apart _
    | with_reducible exact noFld_ne _
    | with_reducible apply State.complete_keeps hC
    | with_reducible apply State.endOpen_keeps hC
    | with_reducible apply State.sessionClose_keeps hC
    | with_reducible apply State.setVid_keeps hC
    | with_reducible apply Keeps.wr
    | with_reducible apply Keeps.setReg
    | with_reducible apply Keeps.foldl
    | split
    | intro _
    | (with_reducible apply Keeps.lit <;> with_reducible first | rfl | assumption | exact fun _ h => h | exact fun _ _ => rfl | exact fun _ => rfl | exact fun h => h.elim)

theorem State.tapDrop_keeps (hC : Settles noFld) {s : State} {f : Fld} (hk : Keeps noFld False H u₀ s) :
    Keeps noFld False H u₀ (s.tapDrop f) := by
  unfold State.tapDrop
  repeat' first
    | with_reducible assumption
    | (extract_lets +onlyGivenNames x; first | (refine (have hx : Keeps noFld False H u₀ x := ?_; ?_); subst x; rotate_left; clear_value x) | subst x)
    | with_reducible exact noFld_apart _
    | with_reducible exact noFld_ne _
    | with_reducible apply State.bump_keeps hC
    | with_reducible apply State.evt_keeps hC
    | with_reducible apply State.setVid_keeps hC
    | with_reducible apply Keeps.wr
    | with_reducible apply Keeps.setReg
    | with_reducible apply Keeps.foldl
    | split
    | intro _
    | (with_reducible apply Keeps.lit <;> with_reducible first | rfl | assumption | exact fun _ h => h | exact fun _ _ => rfl | exact fun _ => rfl | exact fun h => h.elim)

theorem execFrameStart_keeps (hC : Settles noFld) {s : State} (hk : Keeps noFld False H u₀ s) :
    KeepsOut noFld False H u₀ (execFrameStart s) := by
  unfold execFrameStart
  repeat' first
    | with_reducible assumption
    | (extract_lets +onlyGivenNames x; first | (refine (have hx : Keeps noFld False H u₀ x := ?_; ?_); subst x; rotate_left; clear_value x) | subst x)
    | with_reducible exact noFld_apart _
    | with_reducible exact noFld_ne _
    | with_reducible apply State.setScan_keeps hC
    | with_reducible apply State.setVid_keeps hC
    | with_reducible apply State.start_keeps hC
    | with_reducible apply State.tapDrop_keeps hC
    | with_reducible apply Keeps.wr
    | with_reducible apply Keeps.setReg
    | with_reducible apply KeepsOut.next
    | with_reducible apply Keeps.foldl
    | split
    | intro _
    | (with_reducible apply Keeps.lit <;> with_reducible first | rfl | assumption | exact fun _ h => h | exact fun _ _ => rfl | exact fun _ => rfl | exact fun h => h.elim)

theorem State.pushRecord_keeps (hC : Settles noFld) {s : State} {r : FrameRec} (hk : Keeps noFld False H u₀ s) :
    Keeps noFld False H u₀ (s.pushRecord r) := by
  unfold State.pushRecord
  repeat' first
    | with_reducible assumption
    | (extract_lets +onlyGivenNames x; first | (refine (have hx : Keeps noFld False H u₀ x := ?_; ?_); subst x; rotate_left; clear_value x) | subst x)
    | with_reducible exact noFld_apart _
    | with_reducible exact noFld_ne _
    | with_reducible apply State.evt_keeps hC
    | with_reducible apply State.setVid_keeps hC
    | with_reducible apply State.wrBit_keeps hC
    | with_reducible apply Keeps.wr
    | with_reducible apply Keeps.setReg
    | with_reducible apply Keeps.foldl
    | split
    | intro _
    | (with_reducible apply Keeps.lit <;> with_reducible first | rfl | assumption | exact fun _ h => h | exact fun _ _ => rfl | exact fun _ => rfl | exact fun h => h.elim)

theorem State.encOffer_keeps (hC : Settles noFld) {s : State} {f : EncFrame} (hk : Keeps noFld False H u₀ s) :
    Keeps noFld False H u₀ (s.encOffer f) := by
  unfold State.encOffer
  repeat' first
    | with_reducible assumption
    | (extract_lets +onlyGivenNames x; first | (refine (have hx : Keeps noFld False H u₀ x := ?_; ?_); subst x; rotate_left; clear_value x) | subst x)
    | with_reducible exact noFld_apart _
    | with_reducible exact noFld_ne _
    | with_reducible apply State.bump_keeps hC
    | with_reducible apply State.evt_keeps hC
    | with_reducible apply State.setEnc_keeps hC
    | with_reducible apply Keeps.wr
    | with_reducible apply Keeps.setReg
    | with_reducible apply Keeps.foldl
    | split
    | intro _
    | (with_reducible apply Keeps.lit <;> with_reducible first | rfl | assumption | exact fun _ h => h | exact fun _ _ => rfl | exact fun _ => rfl | exact fun h => h.elim)

theorem State.scanTake_keeps (hC : Settles noFld) {s : State} (hk : Keeps noFld False H u₀ s) :
    Keeps noFld False H u₀ (s.scanTake) := by
  unfold State.scanTake
  repeat' first
    | with_reducible assumption
    | (extract_lets +onlyGivenNames x; first | (refine (have hx : Keeps noFld False H u₀ x := ?_; ?_); subst x; rotate_left; clear_value x) | subst x)
    | with_reducible exact noFld_apart _
    | with_reducible exact noFld_ne _
    | with_reducible apply State.bump_keeps hC
    | with_reducible refine State.readMem_of hC (by with_reducible assumption) ?_
    | with_reducible apply State.readMem_keeps hC
    | with_reducible apply State.setScan_keeps hC
    | with_reducible apply Keeps.wr
    | with_reducible apply Keeps.setReg
    | with_reducible apply Keeps.foldl
    | split
    | intro _
    | (with_reducible apply Keeps.lit <;> with_reducible first | rfl | assumption | exact fun _ h => h | exact fun _ _ => rfl | exact fun _ => rfl | exact fun h => h.elim)

theorem State.frameWhole_keeps (hC : Settles noFld) {s : State} {samples : List Nat} (hk : Keeps noFld False H u₀ s) :
    Keeps noFld False H u₀ (s.frameWhole samples) := by
  unfold State.frameWhole
  repeat' first
    | with_reducible assumption
    | (extract_lets +onlyGivenNames x; first | (refine (have hx : Keeps noFld False H u₀ x := ?_; ?_); subst x; rotate_left; clear_value x) | subst x)
    | with_reducible exact noFld_apart _
    | with_reducible exact noFld_ne _
    | with_reducible apply State.blanking_keeps hC
    | with_reducible apply State.complete_keeps hC
    | with_reducible apply State.encOffer_keeps hC
    | with_reducible apply State.pushRecord_keeps hC
    | with_reducible apply State.scanTake_keeps hC
    | with_reducible apply State.setScan_keeps hC
    | with_reducible apply State.setVid_keeps hC
    | with_reducible apply State.start_keeps hC
    | with_reducible apply Keeps.wr
    | with_reducible apply State.writeMem_keeps hC (fun h => h.elim)
    | with_reducible apply Keeps.setReg
    | with_reducible apply Keeps.foldl
    | split
    | intro _
    | (with_reducible apply Keeps.lit <;> with_reducible first | rfl | assumption | exact fun _ h => h | exact fun _ _ => rfl | exact fun _ => rfl | exact fun h => h.elim)

theorem State.frameBad_keeps (hC : Settles noFld) {s : State} {f : Fld} (hk : Keeps noFld False H u₀ s) :
    Keeps noFld False H u₀ (s.frameBad f) := by
  unfold State.frameBad
  repeat' first
    | with_reducible assumption
    | (extract_lets +onlyGivenNames x; first | (refine (have hx : Keeps noFld False H u₀ x := ?_; ?_); subst x; rotate_left; clear_value x) | subst x)
    | with_reducible exact noFld_apart _
    | with_reducible exact noFld_ne _
    | with_reducible apply State.bump_keeps hC
    | with_reducible apply State.setVid_keeps hC
    | with_reducible apply Keeps.wr
    | with_reducible apply Keeps.setReg
    | with_reducible apply Keeps.foldl
    | split
    | intro _
    | (with_reducible apply Keeps.lit <;> with_reducible first | rfl | assumption | exact fun _ h => h | exact fun _ _ => rfl | exact fun _ => rfl | exact fun h => h.elim)

theorem execFrameEnd_keeps (hC : Settles noFld) {corrected : BitVec 8} {r : FrameEnd} {s : State} (hk : Keeps noFld False H u₀ s) :
    KeepsOut noFld False H u₀ (execFrameEnd corrected r s) := by
  unfold execFrameEnd
  repeat' first
    | with_reducible assumption
    | (extract_lets +onlyGivenNames x; first | (refine (have hx : Keeps noFld False H u₀ x := ?_; ?_); subst x; rotate_left; clear_value x) | subst x)
    | with_reducible exact noFld_apart _
    | with_reducible exact noFld_ne _
    | with_reducible apply State.bump_keeps hC
    | with_reducible apply State.captureStopped_keeps hC
    | with_reducible apply State.frameBad_keeps hC
    | with_reducible apply State.frameWhole_keeps hC
    | with_reducible apply State.setVid_keeps hC
    | with_reducible apply State.settle_keeps hC
    | with_reducible apply Keeps.wr
    | with_reducible apply Keeps.setReg
    | with_reducible apply KeepsOut.next
    | with_reducible apply Keeps.foldl
    | split
    | intro _
    | (with_reducible apply Keeps.lit <;> with_reducible first | rfl | assumption | exact fun _ h => h | exact fun _ _ => rfl | exact fun _ => rfl | exact fun h => h.elim)

theorem execCsiLink_keeps (hC : Settles noFld) {s : State} (hk : Keeps noFld False H u₀ s) :
    KeepsOut noFld False H u₀ (execCsiLink s) := by
  unfold execCsiLink
  repeat' first
    | with_reducible assumption
    | (extract_lets +onlyGivenNames x; first | (refine (have hx : Keeps noFld False H u₀ x := ?_; ?_); subst x; rotate_left; clear_value x) | subst x)
    | with_reducible exact noFld_apart _
    | with_reducible exact noFld_ne _
    | with_reducible apply State.endOpen_keeps hC
    | with_reducible apply State.sessionClose_keeps hC
    | with_reducible apply State.setVid_keeps hC
    | with_reducible apply State.settle_keeps hC
    | with_reducible apply State.vidinRaise_keeps hC
    | with_reducible apply Keeps.wr
    | with_reducible apply Keeps.setReg
    | with_reducible apply KeepsOut.next
    | with_reducible apply Keeps.foldl
    | split
    | intro _
    | (with_reducible apply Keeps.lit <;> with_reducible first | rfl | assumption | exact fun _ h => h | exact fun _ _ => rfl | exact fun _ => rfl | exact fun h => h.elim)

theorem State.writeHostHold_keeps (hC : Settles noFld) {s : State} {w : Word} (hk : Keeps noFld False H u₀ s) :
    Keeps noFld False H u₀ (s.writeHostHold w) := by
  unfold State.writeHostHold
  repeat' first
    | with_reducible assumption
    | (extract_lets +onlyGivenNames x; first | (refine (have hx : Keeps noFld False H u₀ x := ?_; ?_); subst x; rotate_left; clear_value x) | subst x)
    | with_reducible exact noFld_apart _
    | with_reducible exact noFld_ne _
    | with_reducible apply Keeps.setReg
    | with_reducible apply Keeps.wr
    | with_reducible apply Keeps.foldl
    | split
    | intro _
    | (with_reducible apply Keeps.lit <;> with_reducible first | rfl | assumption | exact fun _ h => h | exact fun _ _ => rfl | exact fun _ => rfl | exact fun h => h.elim)

theorem execHostHoldRelease_keeps (hC : Settles noFld) {w : BitVec 32} {s : State} (hk : Keeps noFld False H u₀ s) :
    KeepsOut noFld False H u₀ (execHostHoldRelease w s) := by
  unfold execHostHoldRelease
  repeat' first
    | with_reducible assumption
    | (extract_lets +onlyGivenNames x; first | (refine (have hx : Keeps noFld False H u₀ x := ?_; ?_); subst x; rotate_left; clear_value x) | subst x)
    | with_reducible exact noFld_apart _
    | with_reducible exact noFld_ne _
    | with_reducible refine State.hostReg_keeps hC ?_ ?_
    | with_reducible apply State.settle_keeps hC
    | with_reducible apply State.writeHostHold_keeps hC
    | with_reducible apply Keeps.wr
    | with_reducible apply Keeps.setReg
    | with_reducible apply KeepsOut.next
    | with_reducible apply Keeps.foldl
    | split
    | intro _
    | (with_reducible apply Keeps.lit <;> with_reducible first | rfl | assumption | exact fun _ h => h | exact fun _ _ => rfl | exact fun _ => rfl | exact fun h => h.elim)

theorem State.popRecord_keeps (hC : Settles noFld) {s : State} (hk : Keeps noFld False H u₀ s) :
    Keeps noFld False H u₀ (s.popRecord) := by
  unfold State.popRecord
  repeat' first
    | with_reducible assumption
    | (extract_lets +onlyGivenNames x; first | (refine (have hx : Keeps noFld False H u₀ x := ?_; ?_); subst x; rotate_left; clear_value x) | subst x)
    | with_reducible exact noFld_apart _
    | with_reducible exact noFld_ne _
    | with_reducible apply State.setVid_keeps hC
    | with_reducible apply Keeps.wr
    | with_reducible apply Keeps.setReg
    | with_reducible apply Keeps.foldl
    | split
    | intro _
    | (with_reducible apply Keeps.lit <;> with_reducible first | rfl | assumption | exact fun _ h => h | exact fun _ _ => rfl | exact fun _ => rfl | exact fun h => h.elim)

theorem execFrameRecordPop_keeps (hC : Settles noFld) {s : State} (hk : Keeps noFld False H u₀ s) :
    KeepsOut noFld False H u₀ (execFrameRecordPop s) := by
  unfold execFrameRecordPop
  repeat' first
    | with_reducible assumption
    | (extract_lets +onlyGivenNames x; first | (refine (have hx : Keeps noFld False H u₀ x := ?_; ?_); subst x; rotate_left; clear_value x) | subst x)
    | with_reducible exact noFld_apart _
    | with_reducible exact noFld_ne _
    | with_reducible refine State.hostRead_keeps hC ?_ ?_
    | with_reducible apply State.popRecord_keeps hC
    | with_reducible apply Keeps.wr
    | with_reducible apply Keeps.setReg
    | with_reducible apply KeepsOut.next
    | with_reducible apply Keeps.foldl
    | split
    | intro _
    | (with_reducible apply Keeps.lit <;> with_reducible first | rfl | assumption | exact fun _ h => h | exact fun _ _ => rfl | exact fun _ => rfl | exact fun h => h.elim)

theorem execScan_keeps (hC : Settles noFld) {tag : Fin 64} {s : State} (hk : Keeps noFld False H u₀ s) :
    KeepsOut noFld False H u₀ (execScan tag s) := by
  unfold execScan
  repeat' first
    | with_reducible assumption
    | (extract_lets +onlyGivenNames x; first | (refine (have hx : Keeps noFld False H u₀ x := ?_; ?_); subst x; rotate_left; clear_value x) | subst x)
    | with_reducible exact noFld_apart _
    | with_reducible exact noFld_ne _
    | with_reducible apply State.endOpen_keeps hC
    | with_reducible apply State.refuseWrite_keeps hC
    | with_reducible apply State.sessionOpen_keeps hC
    | with_reducible apply State.setScan_keeps hC
    | with_reducible apply State.settle_keeps hC
    | with_reducible apply State.start_keeps hC
    | with_reducible apply Keeps.wr
    | with_reducible apply Keeps.setReg
    | with_reducible apply KeepsOut.next
    | with_reducible apply Keeps.foldl
    | split
    | intro _
    | (with_reducible apply Keeps.lit <;> with_reducible first | rfl | assumption | exact fun _ h => h | exact fun _ _ => rfl | exact fun _ => rfl | exact fun h => h.elim)

theorem State.scanEnd_keeps (hC : Settles noFld) {s : State} {status : Nat} {r0 : Nat} {r1 : Nat} (hk : Keeps noFld False H u₀ s) :
    Keeps noFld False H u₀ (s.scanEnd status r0 r1) := by
  unfold State.scanEnd
  repeat' first
    | with_reducible assumption
    | (extract_lets +onlyGivenNames x; first | (refine (have hx : Keeps noFld False H u₀ x := ?_; ?_); subst x; rotate_left; clear_value x) | subst x)
    | with_reducible exact noFld_apart _
    | with_reducible exact noFld_ne _
    | with_reducible apply State.complete_keeps hC
    | with_reducible apply State.sessionClose_keeps hC
    | with_reducible apply State.setScan_keeps hC
    | with_reducible apply Keeps.wr
    | with_reducible apply Keeps.setReg
    | with_reducible apply Keeps.foldl
    | split
    | intro _
    | (with_reducible apply Keeps.lit <;> with_reducible first | rfl | assumption | exact fun _ h => h | exact fun _ _ => rfl | exact fun _ => rfl | exact fun h => h.elim)

theorem execScanFrameDone_keeps (hC : Settles noFld) {r : ScanResult} {s : State} (hk : Keeps noFld False H u₀ s) :
    KeepsOut noFld False H u₀ (execScanFrameDone r s) := by
  unfold execScanFrameDone
  repeat' first
    | with_reducible assumption
    | (extract_lets +onlyGivenNames x; first | (refine (have hx : Keeps noFld False H u₀ x := ?_; ?_); subst x; rotate_left; clear_value x) | subst x)
    | with_reducible exact noFld_apart _
    | with_reducible exact noFld_ne _
    | with_reducible apply State.bump_keeps hC
    | with_reducible apply State.scanEnd_keeps hC
    | with_reducible apply State.scanTake_keeps hC
    | with_reducible apply State.setScan_keeps hC
    | with_reducible apply State.settle_keeps hC
    | with_reducible apply Keeps.wr
    | with_reducible apply State.writeMem_keeps hC (fun h => h.elim)
    | with_reducible apply Keeps.setReg
    | with_reducible apply KeepsOut.next
    | with_reducible apply Keeps.foldl
    | split
    | intro _
    | (with_reducible apply Keeps.lit <;> with_reducible first | rfl | assumption | exact fun _ h => h | exact fun _ _ => rfl | exact fun _ => rfl | exact fun h => h.elim)

theorem execScanTimeLimit_keeps (hC : Settles noFld) {s : State} (hk : Keeps noFld False H u₀ s) :
    KeepsOut noFld False H u₀ (execScanTimeLimit s) := by
  unfold execScanTimeLimit
  repeat' first
    | with_reducible assumption
    | (extract_lets +onlyGivenNames x; first | (refine (have hx : Keeps noFld False H u₀ x := ?_; ?_); subst x; rotate_left; clear_value x) | subst x)
    | with_reducible exact noFld_apart _
    | with_reducible exact noFld_ne _
    | with_reducible apply State.bump_keeps hC
    | with_reducible apply Keeps.openWord
    | with_reducible apply State.scanEnd_keeps hC
    | with_reducible apply State.settle_keeps hC
    | with_reducible apply Keeps.wr
    | with_reducible apply Keeps.setReg
    | with_reducible apply KeepsOut.next
    | with_reducible apply Keeps.foldl
    | split
    | intro _
    | (with_reducible apply Keeps.lit <;> with_reducible first | rfl | assumption | exact fun _ h => h | exact fun _ _ => rfl | exact fun _ => rfl | exact fun h => h.elim)

theorem execDecStreamOpen_keeps (hC : Settles noFld) {tag : Fin 64} {s : State} (hk : Keeps noFld False H u₀ s) :
    KeepsOut noFld False H u₀ (execDecStreamOpen tag s) := by
  unfold execDecStreamOpen
  repeat' first
    | with_reducible assumption
    | (extract_lets +onlyGivenNames x; first | (refine (have hx : Keeps noFld False H u₀ x := ?_; ?_); subst x; rotate_left; clear_value x) | subst x)
    | with_reducible exact noFld_apart _
    | with_reducible exact noFld_ne _
    | with_reducible apply State.complete_keeps hC
    | with_reducible apply State.endOpen_keeps hC
    | with_reducible apply State.setDec_keeps hC
    | with_reducible apply State.settle_keeps hC
    | with_reducible apply Keeps.wr
    | with_reducible apply Keeps.setReg
    | with_reducible apply KeepsOut.next
    | with_reducible apply Keeps.foldl
    | split
    | intro _
    | (with_reducible apply Keeps.lit <;> with_reducible first | rfl | assumption | exact fun _ h => h | exact fun _ _ => rfl | exact fun _ => rfl | exact fun h => h.elim)

theorem State.stopDec_keeps (hC : Settles noFld) {s : State} (hk : Keeps noFld False H u₀ s) :
    Keeps noFld False H u₀ (s.stopDec) := by
  unfold State.stopDec
  repeat' first
    | with_reducible assumption
    | (extract_lets +onlyGivenNames x; first | (refine (have hx : Keeps noFld False H u₀ x := ?_; ?_); subst x; rotate_left; clear_value x) | subst x)
    | with_reducible exact noFld_apart _
    | with_reducible exact noFld_ne _
    | with_reducible apply State.complete_keeps hC
    | with_reducible apply State.decClosed_keeps hC
    | with_reducible apply State.endOpen_keeps hC
    | with_reducible apply Keeps.wr
    | with_reducible apply Keeps.setReg
    | with_reducible apply Keeps.foldl
    | split
    | intro _
    | (with_reducible apply Keeps.lit <;> with_reducible first | rfl | assumption | exact fun _ h => h | exact fun _ _ => rfl | exact fun _ => rfl | exact fun h => h.elim)

theorem execDecodeAu_keeps (hC : Settles noFld) {tag : Fin 64} {s : State} (hk : Keeps noFld False H u₀ s) :
    KeepsOut noFld False H u₀ (execDecodeAu tag s) := by
  unfold execDecodeAu
  repeat' first
    | with_reducible assumption
    | (extract_lets +onlyGivenNames x; first | (refine (have hx : Keeps noFld False H u₀ x := ?_; ?_); subst x; rotate_left; clear_value x) | subst x)
    | with_reducible exact noFld_apart _
    | with_reducible exact noFld_ne _
    | with_reducible apply State.complete_keeps hC
    | with_reducible apply State.endOpen_keeps hC
    | with_reducible apply State.refuseRead_keeps hC
    | with_reducible apply State.setDec_keeps hC
    | with_reducible apply State.settle_keeps hC
    | with_reducible apply State.shedLoss_keeps hC
    | with_reducible apply State.start_keeps hC
    | with_reducible apply State.stopDec_keeps hC
    | with_reducible apply Keeps.wr
    | with_reducible apply Keeps.setReg
    | with_reducible apply KeepsOut.next
    | with_reducible apply Keeps.foldl
    | split
    | intro _
    | (with_reducible apply Keeps.lit <;> with_reducible first | rfl | assumption | exact fun _ h => h | exact fun _ _ => rfl | exact fun _ => rfl | exact fun h => h.elim)

theorem execDecStreamClose_keeps (hC : Settles noFld) {tag : Fin 64} {s : State} (hk : Keeps noFld False H u₀ s) :
    KeepsOut noFld False H u₀ (execDecStreamClose tag s) := by
  unfold execDecStreamClose
  repeat' first
    | with_reducible assumption
    | (extract_lets +onlyGivenNames x; first | (refine (have hx : Keeps noFld False H u₀ x := ?_; ?_); subst x; rotate_left; clear_value x) | subst x)
    | with_reducible exact noFld_apart _
    | with_reducible exact noFld_ne _
    | with_reducible apply State.decDrop_keeps hC
    | with_reducible apply State.endOpen_keeps hC
    | with_reducible apply State.setDec_keeps hC
    | with_reducible apply State.settle_keeps hC
    | with_reducible apply State.start_keeps hC
    | with_reducible apply Keeps.wr
    | with_reducible apply Keeps.setReg
    | with_reducible apply KeepsOut.next
    | with_reducible apply Keeps.foldl
    | split
    | intro _
    | (with_reducible apply Keeps.lit <;> with_reducible first | rfl | assumption | exact fun _ h => h | exact fun _ _ => rfl | exact fun _ => rfl | exact fun h => h.elim)

theorem State.auDone_keeps (hC : Settles noFld) {s : State} (hk : Keeps noFld False H u₀ s) :
    Keeps noFld False H u₀ (s.auDone) := by
  unfold State.auDone
  repeat' first
    | with_reducible assumption
    | (extract_lets +onlyGivenNames x; first | (refine (have hx : Keeps noFld False H u₀ x := ?_; ?_); subst x; rotate_left; clear_value x) | subst x)
    | with_reducible exact noFld_apart _
    | with_reducible exact noFld_ne _
    | with_reducible apply State.setDec_keeps hC
    | with_reducible apply Keeps.wr
    | with_reducible apply Keeps.setReg
    | with_reducible apply Keeps.foldl
    | split
    | intro _
    | (with_reducible apply Keeps.lit <;> with_reducible first | rfl | assumption | exact fun _ h => h | exact fun _ _ => rfl | exact fun _ => rfl | exact fun h => h.elim)

theorem State.auUnsupported_keeps (hC : Settles noFld) {s : State} {t : Nat} (hk : Keeps noFld False H u₀ s) :
    Keeps noFld False H u₀ (s.auUnsupported t) := by
  unfold State.auUnsupported
  repeat' first
    | with_reducible assumption
    | (extract_lets +onlyGivenNames x; first | (refine (have hx : Keeps noFld False H u₀ x := ?_; ?_); subst x; rotate_left; clear_value x) | subst x)
    | with_reducible exact noFld_apart _
    | with_reducible exact noFld_ne _
    | with_reducible apply State.auDone_keeps hC
    | with_reducible apply State.bump_keeps hC
    | with_reducible apply State.complete_keeps hC
    | with_reducible apply State.decLoss_keeps hC
    | with_reducible apply State.evt_keeps hC
    | with_reducible apply Keeps.wr
    | with_reducible apply Keeps.setReg
    | with_reducible apply Keeps.foldl
    | split
    | intro _
    | (with_reducible apply Keeps.lit <;> with_reducible first | rfl | assumption | exact fun _ h => h | exact fun _ _ => rfl | exact fun _ => rfl | exact fun h => h.elim)

theorem State.decRecover_keeps (hC : Settles noFld) {s : State} {idr : Bool} {recovery : Option Nat} (hk : Keeps noFld False H u₀ s) :
    Keeps noFld False H u₀ (s.decRecover idr recovery) := by
  unfold State.decRecover
  repeat' first
    | with_reducible assumption
    | (extract_lets +onlyGivenNames x; first | (refine (have hx : Keeps noFld False H u₀ x := ?_; ?_); subst x; rotate_left; clear_value x) | subst x)
    | with_reducible exact noFld_apart _
    | with_reducible exact noFld_ne _
    | with_reducible apply State.evt_keeps hC
    | with_reducible apply State.setDec_keeps hC
    | with_reducible apply Keeps.wr
    | with_reducible apply Keeps.setReg
    | with_reducible apply Keeps.foldl
    | split
    | intro _
    | (with_reducible apply Keeps.lit <;> with_reducible first | rfl | assumption | exact fun _ h => h | exact fun _ _ => rfl | exact fun _ => rfl | exact fun h => h.elim)

theorem State.auBytes_keeps (hC : Settles noFld) {s : State} {p : AuPicture} (hk : Keeps noFld False H u₀ s) :
    Keeps noFld False H u₀ (s.auBytes p).1 := by
  unfold State.auBytes
  repeat' first
    | with_reducible assumption
    | (extract_lets +onlyGivenNames x; first | (refine (have hx : Keeps noFld False H u₀ x := ?_; ?_); subst x; rotate_left; clear_value x) | subst x)
    | with_reducible exact noFld_apart _
    | with_reducible exact noFld_ne _
    | with_reducible apply Keeps.fresh
    | with_reducible refine State.openBytes_of hC (by with_reducible assumption) ?_
    | with_reducible apply State.openBytes_keeps hC
    | with_reducible apply Keeps.wr
    | with_reducible apply Keeps.setReg
    | with_reducible apply Keeps.foldl
    | split
    | intro _
    | (with_reducible apply Keeps.lit <;> with_reducible first | rfl | assumption | exact fun _ h => h | exact fun _ _ => rfl | exact fun _ => rfl | exact fun h => h.elim)

theorem State.auBytes_of (hC : Settles noFld) {s : State} {p : AuPicture} {x₁ : State} {y0 : List Nat} (he : (s.auBytes p) = (x₁, y0))
    (hk : Keeps noFld False H u₀ s) : Keeps noFld False H u₀ x₁ := by
  have hr : Keeps noFld False H u₀ (s.auBytes p).1 := State.auBytes_keeps hC hk
  rw [he] at hr
  exact hr

theorem State.auPicture_keeps (hC : Settles noFld) {s : State} {t : Nat} {b : Nat} {hold : Bool} {p : AuPicture} (hk : Keeps noFld False H u₀ s) :
    Keeps noFld False H u₀ (s.auPicture t b hold p) := by
  unfold State.auPicture
  repeat' first
    | with_reducible assumption
    | (extract_lets +onlyGivenNames x; first | (refine (have hx : Keeps noFld False H u₀ x := ?_; ?_); subst x; rotate_left; clear_value x) | subst x)
    | with_reducible exact noFld_apart _
    | with_reducible exact noFld_ne _
    | with_reducible refine State.auBytes_of hC (by with_reducible assumption) ?_
    | with_reducible apply State.auBytes_keeps hC
    | with_reducible apply State.auDone_keeps hC
    | with_reducible apply State.bump_keeps hC
    | with_reducible apply State.complete_keeps hC
    | with_reducible apply State.decLoss_keeps hC
    | with_reducible apply State.decRecover_keeps hC
    | with_reducible apply State.evt_keeps hC
    | with_reducible apply State.lost_keeps hC
    | with_reducible apply State.setDec_keeps hC
    | with_reducible apply Keeps.wr
    | with_reducible apply State.wrBit_keeps hC
    | with_reducible apply State.writeMem_keeps hC (fun h => h.elim)
    | with_reducible apply Keeps.setReg
    | with_reducible apply Keeps.foldl
    | split
    | intro _
    | (with_reducible apply Keeps.lit <;> with_reducible first | rfl | assumption | exact fun _ h => h | exact fun _ _ => rfl | exact fun _ => rfl | exact fun h => h.elim)

theorem execAuDecoded_keeps (hC : Settles noFld) {r : AuResult} {s : State} (hk : Keeps noFld False H u₀ s) :
    KeepsOut noFld False H u₀ (execAuDecoded r s) := by
  unfold execAuDecoded
  repeat' first
    | with_reducible assumption
    | (extract_lets +onlyGivenNames x; first | (refine (have hx : Keeps noFld False H u₀ x := ?_; ?_); subst x; rotate_left; clear_value x) | subst x)
    | with_reducible exact noFld_apart _
    | with_reducible exact noFld_ne _
    | with_reducible apply State.auDone_keeps hC
    | with_reducible apply State.auPicture_keeps hC
    | with_reducible apply State.auUnsupported_keeps hC
    | with_reducible apply State.bump_keeps hC
    | with_reducible apply State.complete_keeps hC
    | with_reducible refine State.readMem_of hC (by with_reducible assumption) ?_
    | with_reducible apply State.readMem_keeps hC
    | with_reducible apply State.settle_keeps hC
    | with_reducible apply Keeps.wr
    | with_reducible apply Keeps.setReg
    | with_reducible apply KeepsOut.next
    | with_reducible apply Keeps.foldl
    | split
    | intro _
    | (with_reducible apply Keeps.lit <;> with_reducible first | rfl | assumption | exact fun _ h => h | exact fun _ _ => rfl | exact fun _ => rfl | exact fun h => h.elim)

theorem State.writePicHold_keeps (hC : Settles noFld) {s : State} {w : Word} (hk : Keeps noFld False H u₀ s) :
    Keeps noFld False H u₀ (s.writePicHold w) := by
  unfold State.writePicHold
  repeat' first
    | with_reducible assumption
    | (extract_lets +onlyGivenNames x; first | (refine (have hx : Keeps noFld False H u₀ x := ?_; ?_); subst x; rotate_left; clear_value x) | subst x)
    | with_reducible exact noFld_apart _
    | with_reducible exact noFld_ne _
    | with_reducible apply Keeps.wr
    | with_reducible apply Keeps.setReg
    | with_reducible apply Keeps.foldl
    | split
    | intro _
    | (with_reducible apply Keeps.lit <;> with_reducible first | rfl | assumption | exact fun _ h => h | exact fun _ _ => rfl | exact fun _ => rfl | exact fun h => h.elim)

theorem execPicHoldRelease_keeps (hC : Settles noFld) {w : BitVec 32} {s : State} (hk : Keeps noFld False H u₀ s) :
    KeepsOut noFld False H u₀ (execPicHoldRelease w s) := by
  unfold execPicHoldRelease
  repeat' first
    | with_reducible assumption
    | (extract_lets +onlyGivenNames x; first | (refine (have hx : Keeps noFld False H u₀ x := ?_; ?_); subst x; rotate_left; clear_value x) | subst x)
    | with_reducible exact noFld_apart _
    | with_reducible exact noFld_ne _
    | with_reducible refine State.hostReg_keeps hC ?_ ?_
    | with_reducible apply State.settle_keeps hC
    | with_reducible apply State.writePicHold_keeps hC
    | with_reducible apply Keeps.wr
    | with_reducible apply Keeps.setReg
    | with_reducible apply KeepsOut.next
    | with_reducible apply Keeps.foldl
    | split
    | intro _
    | (with_reducible apply Keeps.lit <;> with_reducible first | rfl | assumption | exact fun _ h => h | exact fun _ _ => rfl | exact fun _ => rfl | exact fun h => h.elim)

theorem execStoreScan_keeps (hC : Settles noFld) {s : State} (hk : Keeps noFld False H u₀ s) :
    KeepsOut noFld False H u₀ (execStoreScan s) := by
  unfold execStoreScan
  repeat' first
    | with_reducible assumption
    | (extract_lets +onlyGivenNames x; first | (refine (have hx : Keeps noFld False H u₀ x := ?_; ?_); subst x; rotate_left; clear_value x) | subst x)
    | with_reducible exact noFld_apart _
    | with_reducible exact noFld_ne _
    | with_reducible apply State.flashRead_keeps hC
    | with_reducible apply State.settle_keeps hC
    | with_reducible refine State.store_of hC (by with_reducible assumption) ?_
    | with_reducible apply State.store_keeps hC
    | with_reducible apply Keeps.wr
    | with_reducible apply Keeps.setReg
    | with_reducible apply KeepsOut.next
    | with_reducible apply Keeps.foldl
    | split
    | intro _
    | (with_reducible apply Keeps.lit <;> with_reducible first | rfl | assumption | exact fun _ h => h | exact fun _ _ => rfl | exact fun _ => rfl | exact fun h => h.elim)

theorem State.resResult_keeps (hC : Settles noFld) {s : State} {r : Nat} (hk : Keeps noFld False H u₀ s) :
    Keeps noFld False H u₀ (s.resResult r) := by
  unfold State.resResult
  repeat' first
    | with_reducible assumption
    | (extract_lets +onlyGivenNames x; first | (refine (have hx : Keeps noFld False H u₀ x := ?_; ?_); subst x; rotate_left; clear_value x) | subst x)
    | with_reducible exact noFld_apart _
    | with_reducible exact noFld_ne _
    | with_reducible apply State.rodVec_keeps hC
    | with_reducible apply Keeps.wr
    | with_reducible apply Keeps.setReg
    | with_reducible apply Keeps.foldl
    | split
    | intro _
    | (with_reducible apply Keeps.lit <;> with_reducible first | rfl | assumption | exact fun _ h => h | exact fun _ _ => rfl | exact fun _ => rfl | exact fun h => h.elim)

theorem State.resCommit_keeps (hC : Settles noFld) {s : State} {w : Option Window} (hk : Keeps noFld False H u₀ s) :
    Keeps noFld False H u₀ (s.resCommit w) := by
  unfold State.resCommit
  repeat' first
    | with_reducible assumption
    | (extract_lets +onlyGivenNames x; first | (refine (have hx : Keeps noFld False H u₀ x := ?_; ?_); subst x; rotate_left; clear_value x) | subst x)
    | with_reducible exact noFld_apart _
    | with_reducible exact noFld_ne _
    | with_reducible apply State.resResult_keeps hC
    | with_reducible refine State.store_of hC (by with_reducible assumption) ?_
    | with_reducible apply State.store_keeps hC
    | with_reducible apply Keeps.wr
    | with_reducible apply Keeps.setReg
    | with_reducible apply Keeps.foldl
    | split
    | intro _
    | (with_reducible apply Keeps.lit <;> with_reducible first | rfl | assumption | exact fun _ h => h | exact fun _ _ => rfl | exact fun _ => rfl | exact fun h => h.elim)

theorem State.writeResWin_keeps (hC : Settles noFld) {s : State} {lane : Nat} {w : Word} (hk : Keeps noFld False H u₀ s) :
    Keeps noFld False H u₀ (s.writeResWin lane w).1 := by
  unfold State.writeResWin
  repeat' first
    | with_reducible assumption
    | (extract_lets +onlyGivenNames x; first | (refine (have hx : Keeps noFld False H u₀ x := ?_; ?_); subst x; rotate_left; clear_value x) | subst x)
    | with_reducible exact noFld_apart _
    | with_reducible exact noFld_ne _
    | with_reducible apply State.resCommit_keeps hC
    | with_reducible apply Keeps.wr
    | with_reducible apply Keeps.setReg
    | with_reducible apply Keeps.foldl
    | split
    | intro _
    | (with_reducible apply Keeps.lit <;> with_reducible first | rfl | assumption | exact fun _ h => h | exact fun _ _ => rfl | exact fun _ => rfl | exact fun h => h.elim)

theorem State.writeResWin_of (hC : Settles noFld) {s : State} {lane : Nat} {w : Word} {x₁ : State} {y0 : Bool} (he : (s.writeResWin lane w) = (x₁, y0))
    (hk : Keeps noFld False H u₀ s) : Keeps noFld False H u₀ x₁ := by
  have hr : Keeps noFld False H u₀ (s.writeResWin lane w).1 := State.writeResWin_keeps hC hk
  rw [he] at hr
  exact hr

theorem execResRegister_keeps (hC : Settles noFld) {w : BitVec 32} {s : State} (hk : Keeps noFld False H u₀ s) :
    KeepsOut noFld False H u₀ (execResRegister w s) := by
  unfold execResRegister
  repeat' first
    | with_reducible assumption
    | (extract_lets +onlyGivenNames x; first | (refine (have hx : Keeps noFld False H u₀ x := ?_; ?_); subst x; rotate_left; clear_value x) | subst x)
    | with_reducible exact noFld_apart _
    | with_reducible exact noFld_ne _
    | with_reducible refine State.hostReg_keeps hC ?_ ?_
    | with_reducible refine State.writeResWin_of hC (by with_reducible assumption) ?_
    | with_reducible apply State.writeResWin_keeps hC
    | with_reducible apply Keeps.wr
    | with_reducible apply Keeps.setReg
    | with_reducible apply KeepsOut.next
    | with_reducible apply Keeps.foldl
    | split
    | intro _
    | (with_reducible apply Keeps.lit <;> with_reducible first | rfl | assumption | exact fun _ h => h | exact fun _ _ => rfl | exact fun _ => rfl | exact fun h => h.elim)

theorem execResRemove_keeps (hC : Settles noFld) {w : BitVec 32} {s : State} (hk : Keeps noFld False H u₀ s) :
    KeepsOut noFld False H u₀ (execResRemove w s) := by
  unfold execResRemove
  repeat' first
    | with_reducible assumption
    | (extract_lets +onlyGivenNames x; first | (refine (have hx : Keeps noFld False H u₀ x := ?_; ?_); subst x; rotate_left; clear_value x) | subst x)
    | with_reducible exact noFld_apart _
    | with_reducible exact noFld_ne _
    | with_reducible refine State.hostReg_keeps hC ?_ ?_
    | with_reducible refine State.writeResWin_of hC (by with_reducible assumption) ?_
    | with_reducible apply State.writeResWin_keeps hC
    | with_reducible apply Keeps.wr
    | with_reducible apply Keeps.setReg
    | with_reducible apply KeepsOut.next
    | with_reducible apply Keeps.foldl
    | split
    | intro _
    | (with_reducible apply Keeps.lit <;> with_reducible first | rfl | assumption | exact fun _ h => h | exact fun _ _ => rfl | exact fun _ => rfl | exact fun h => h.elim)

theorem execRegistrationDone_keeps (hC : Settles noFld) {s : State} (hk : Keeps noFld False H u₀ s) :
    KeepsOut noFld False H u₀ (execRegistrationDone s) := by
  unfold execRegistrationDone
  repeat' first
    | with_reducible assumption
    | (extract_lets +onlyGivenNames x; first | (refine (have hx : Keeps noFld False H u₀ x := ?_; ?_); subst x; rotate_left; clear_value x) | subst x)
    | with_reducible exact noFld_apart _
    | with_reducible exact noFld_ne _
    | with_reducible refine State.readMem_of hC (by with_reducible assumption) ?_
    | with_reducible apply State.readMem_keeps hC
    | with_reducible apply State.resResult_keeps hC
    | with_reducible refine State.store_of hC (by with_reducible assumption) ?_
    | with_reducible apply State.store_keeps hC
    | with_reducible apply Keeps.wr
    | with_reducible apply Keeps.setReg
    | with_reducible apply KeepsOut.next
    | with_reducible apply Keeps.foldl
    | split
    | intro _
    | (with_reducible apply Keeps.lit <;> with_reducible first | rfl | assumption | exact fun _ h => h | exact fun _ _ => rfl | exact fun _ => rfl | exact fun h => h.elim)

theorem State.makeReads_keeps (hC : Settles noFld) {s : State} {a : Nat} {r : Reads} (hk : Keeps noFld False H u₀ s) :
    Keeps noFld False H u₀ (s.makeReads a r) := by
  unfold State.makeReads
  repeat' first
    | with_reducible assumption
    | (extract_lets +onlyGivenNames x; first | (refine (have hx : Keeps noFld False H u₀ x := ?_; ?_); subst x; rotate_left; clear_value x) | subst x)
    | with_reducible exact noFld_apart _
    | with_reducible exact noFld_ne _
    | with_reducible apply State.flashRead_keeps hC
    | with_reducible refine State.readMem_of hC (by with_reducible assumption) ?_
    | with_reducible apply State.readMem_keeps hC
    | with_reducible refine State.store_of hC (by with_reducible assumption) ?_
    | with_reducible apply State.store_keeps hC
    | with_reducible apply Keeps.wr
    | with_reducible apply Keeps.setReg
    | with_reducible apply Keeps.foldl
    | split
    | intro _
    | (with_reducible apply Keeps.lit <;> with_reducible first | rfl | assumption | exact fun _ h => h | exact fun _ _ => rfl | exact fun _ => rfl | exact fun h => h.elim)

theorem State.beginCheck_keeps (hC : Settles noFld) {s : State} {c : Cmd} (hk : Keeps noFld False H u₀ s) :
    Keeps noFld False H u₀ (s.beginCheck c) := by
  unfold State.beginCheck
  repeat' first
    | with_reducible assumption
    | (extract_lets +onlyGivenNames x; first | (refine (have hx : Keeps noFld False H u₀ x := ?_; ?_); subst x; rotate_left; clear_value x) | subst x)
    | with_reducible exact noFld_apart _
    | with_reducible exact noFld_ne _
    | with_reducible refine State.store_of hC (by with_reducible assumption) ?_
    | with_reducible apply State.store_keeps hC
    | with_reducible apply Keeps.wr
    | with_reducible apply State.wrB_keeps hC
    | with_reducible apply State.wrI_keeps hC
    | with_reducible apply Keeps.setReg
    | with_reducible apply Keeps.foldl
    | split
    | intro _
    | (with_reducible apply Keeps.lit <;> with_reducible first | rfl | assumption | exact fun _ h => h | exact fun _ _ => rfl | exact fun _ => rfl | exact fun h => h.elim)

theorem execReceipt_keeps (hC : Settles noFld) {tag : Fin 64} {s : State} (hk : Keeps noFld False H u₀ s) :
    KeepsOut noFld False H u₀ (execReceipt tag s) := by
  unfold execReceipt
  repeat' first
    | with_reducible assumption
    | (extract_lets +onlyGivenNames x; first | (refine (have hx : Keeps noFld False H u₀ x := ?_; ?_); subst x; rotate_left; clear_value x) | subst x)
    | with_reducible exact noFld_apart _
    | with_reducible exact noFld_ne _
    | with_reducible apply State.beginCheck_keeps hC
    | with_reducible apply State.refuseRead_keeps hC
    | with_reducible apply State.settle_keeps hC
    | with_reducible apply State.start_keeps hC
    | with_reducible apply State.stopRaster_keeps hC
    | with_reducible apply Keeps.wr
    | with_reducible apply Keeps.setReg
    | with_reducible apply KeepsOut.next
    | with_reducible apply Keeps.foldl
    | split
    | intro _
    | (with_reducible apply Keeps.lit <;> with_reducible first | rfl | assumption | exact fun _ h => h | exact fun _ _ => rfl | exact fun _ => rfl | exact fun h => h.elim)

theorem State.waitFlash_keeps (hC : Settles noFld) {s : State} {off : Nat} (hk : Keeps noFld False H u₀ s) :
    Keeps noFld False H u₀ (s.waitFlash off) := by
  unfold State.waitFlash
  repeat' first
    | with_reducible assumption
    | (extract_lets +onlyGivenNames x; first | (refine (have hx : Keeps noFld False H u₀ x := ?_; ?_); subst x; rotate_left; clear_value x) | subst x)
    | with_reducible exact noFld_apart _
    | with_reducible exact noFld_ne _
    | with_reducible apply Keeps.wr
    | with_reducible apply Keeps.setReg
    | with_reducible apply Keeps.foldl
    | split
    | intro _
    | (with_reducible apply Keeps.lit <;> with_reducible first | rfl | assumption | exact fun _ h => h | exact fun _ _ => rfl | exact fun _ => rfl | exact fun h => h.elim)

theorem execCheckPass_keeps (hC : Settles noFld) {s : State} (hk : Keeps noFld False H u₀ s) :
    KeepsOut noFld False H u₀ (execCheckPass s) := by
  unfold execCheckPass
  repeat' first
    | with_reducible assumption
    | (extract_lets +onlyGivenNames x; first | (refine (have hx : Keeps noFld False H u₀ x := ?_; ?_); subst x; rotate_left; clear_value x) | subst x)
    | with_reducible exact noFld_apart _
    | with_reducible exact noFld_ne _
    | with_reducible apply State.complete_keeps hC
    | with_reducible apply Keeps.count
    | with_reducible apply State.endReceipt_keeps hC
    | with_reducible apply State.makeReads_keeps hC
    | with_reducible apply State.rasterErr_keeps hC
    | with_reducible apply State.setPrint_keeps hC
    | with_reducible apply State.settle_keeps hC
    | with_reducible apply State.takeSlot_keeps hC
    | with_reducible apply State.waitFlash_keeps hC
    | with_reducible apply Keeps.wr
    | with_reducible apply Keeps.setReg
    | with_reducible apply KeepsOut.next
    | with_reducible apply Keeps.foldl
    | split
    | intro _
    | (with_reducible apply Keeps.lit <;> with_reducible first | rfl | assumption | exact fun _ h => h | exact fun _ _ => rfl | exact fun _ => rfl | exact fun h => h.elim)

theorem State.drawBand_keeps (hC : Settles noFld) {s : State} {j : Job} {b : BandPlan} {bank : Nat} (hk : Keeps noFld False H u₀ s) :
    Keeps noFld False H u₀ (s.drawBand j b bank) := by
  unfold State.drawBand
  repeat' first
    | with_reducible assumption
    | (extract_lets +onlyGivenNames x; first | (refine (have hx : Keeps noFld False H u₀ x := ?_; ?_); subst x; rotate_left; clear_value x) | subst x)
    | with_reducible exact noFld_apart _
    | with_reducible exact noFld_ne _
    | with_reducible apply State.writeMem_keeps hC (fun h => h.elim)
    | with_reducible apply Keeps.wr
    | with_reducible apply Keeps.setReg
    | with_reducible apply Keeps.foldl
    | split
    | intro _
    | (with_reducible apply Keeps.lit <;> with_reducible first | rfl | assumption | exact fun _ h => h | exact fun _ _ => rfl | exact fun _ => rfl | exact fun h => h.elim)

theorem State.commitBand_keeps (hC : Settles noFld) {s : State} {j : Job} {i : Nat} {b : BandPlan} (hk : Keeps noFld False H u₀ s) :
    Keeps noFld False H u₀ (s.commitBand j i b) := by
  unfold State.commitBand
  repeat' first
    | with_reducible assumption
    | (extract_lets +onlyGivenNames x; first | (refine (have hx : Keeps noFld False H u₀ x := ?_; ?_); subst x; rotate_left; clear_value x) | subst x)
    | with_reducible exact noFld_apart _
    | with_reducible exact noFld_ne _
    | with_reducible apply State.bump_keeps hC
    | with_reducible apply State.drawBand_keeps hC
    | with_reducible apply State.modJob_keeps hC
    | with_reducible apply State.modSlot_keeps hC
    | with_reducible apply State.rasterIdle_keeps hC
    | with_reducible apply Keeps.wr
    | with_reducible apply Keeps.setReg
    | with_reducible apply Keeps.foldl
    | split
    | intro _
    | (with_reducible apply Keeps.lit <;> with_reducible first | rfl | assumption | exact fun _ h => h | exact fun _ _ => rfl | exact fun _ => rfl | exact fun h => h.elim)

theorem execBandCommit_keeps (hC : Settles noFld) {s : State} (hk : Keeps noFld False H u₀ s) :
    KeepsOut noFld False H u₀ (execBandCommit s) := by
  unfold execBandCommit
  repeat' first
    | with_reducible assumption
    | (extract_lets +onlyGivenNames x; first | (refine (have hx : Keeps noFld False H u₀ x := ?_; ?_); subst x; rotate_left; clear_value x) | subst x)
    | with_reducible exact noFld_apart _
    | with_reducible exact noFld_ne _
    | with_reducible apply State.commitBand_keeps hC
    | with_reducible apply State.makeReads_keeps hC
    | with_reducible refine State.readMem_of hC (by with_reducible assumption) ?_
    | with_reducible apply State.readMem_keeps hC
    | with_reducible apply State.renderStop_keeps hC
    | with_reducible apply State.settle_keeps hC
    | with_reducible apply State.waitFlash_keeps hC
    | with_reducible apply Keeps.wr
    | with_reducible apply Keeps.setReg
    | with_reducible apply KeepsOut.next
    | with_reducible apply Keeps.foldl
    | split
    | intro _
    | (with_reducible apply Keeps.lit <;> with_reducible first | rfl | assumption | exact fun _ h => h | exact fun _ _ => rfl | exact fun _ => rfl | exact fun h => h.elim)

theorem State.setBg_keeps (hC : Settles noFld) {s : State} {f : Bg → Bg} (hk : Keeps noFld False H u₀ s) :
    Keeps noFld False H u₀ (s.setBg f) := by
  unfold State.setBg
  repeat' first
    | with_reducible assumption
    | (extract_lets +onlyGivenNames x; first | (refine (have hx : Keeps noFld False H u₀ x := ?_; ?_); subst x; rotate_left; clear_value x) | subst x)
    | with_reducible exact noFld_apart _
    | with_reducible exact noFld_ne _
    | with_reducible apply Keeps.wr
    | with_reducible apply Keeps.setReg
    | with_reducible apply Keeps.foldl
    | split
    | intro _
    | (with_reducible apply Keeps.lit <;> with_reducible first | rfl | assumption | exact fun _ h => h | exact fun _ _ => rfl | exact fun _ => rfl | exact fun h => h.elim)

theorem State.scrub_keeps (hC : Settles noFld) {s : State} {m : Ram} {lo : Nat} {hi : Nat} (hk : Keeps noFld False H u₀ s) :
    Keeps noFld False H u₀ (s.scrub m lo hi) := by
  unfold State.scrub
  repeat' first
    | with_reducible assumption
    | (extract_lets +onlyGivenNames x; first | (refine (have hx : Keeps noFld False H u₀ x := ?_; ?_); subst x; rotate_left; clear_value x) | subst x)
    | with_reducible exact noFld_apart _
    | with_reducible exact noFld_ne _
    | with_reducible apply State.bump_keeps hC
    | with_reducible apply State.checkWord_keeps hC
    | with_reducible apply Keeps.clearEcc
    | with_reducible apply Keeps.wr
    | with_reducible apply Keeps.setReg
    | with_reducible apply Keeps.foldl
    | split
    | intro _
    | (with_reducible apply Keeps.lit <;> with_reducible first | rfl | assumption | exact fun _ h => h | exact fun _ _ => rfl | exact fun _ => rfl | exact fun h => h.elim)

theorem State.scrubMain_keeps (hC : Settles noFld) {s : State} {hi : Nat} (hk : Keeps noFld False H u₀ s) :
    Keeps noFld False H u₀ (s.scrubMain hi) := by
  unfold State.scrubMain
  repeat' first
    | with_reducible assumption
    | (extract_lets +onlyGivenNames x; first | (refine (have hx : Keeps noFld False H u₀ x := ?_; ?_); subst x; rotate_left; clear_value x) | subst x)
    | with_reducible exact noFld_apart _
    | with_reducible exact noFld_ne _
    | with_reducible apply State.bump_keeps hC
    | with_reducible apply State.scrub_keeps hC
    | with_reducible apply Keeps.wr
    | with_reducible apply Keeps.setReg
    | with_reducible apply Keeps.foldl
    | split
    | intro _
    | (with_reducible apply Keeps.lit <;> with_reducible first | rfl | assumption | exact fun _ h => h | exact fun _ _ => rfl | exact fun _ => rfl | exact fun h => h.elim)

theorem State.scrubChunk_keeps (hC : Settles noFld) {s : State} {n : Nat} (hk : Keeps noFld False H u₀ s) :
    Keeps noFld False H u₀ (s.scrubChunk n) := by
  unfold State.scrubChunk
  repeat' first
    | with_reducible assumption
    | (extract_lets +onlyGivenNames x; first | (refine (have hx : Keeps noFld False H u₀ x := ?_; ?_); subst x; rotate_left; clear_value x) | subst x)
    | with_reducible exact noFld_apart _
    | with_reducible exact noFld_ne _
    | with_reducible apply State.scrubMain_keeps hC
    | with_reducible apply Keeps.wr
    | with_reducible apply Keeps.setReg
    | with_reducible apply Keeps.foldl
    | split
    | intro _
    | (with_reducible apply Keeps.lit <;> with_reducible first | rfl | assumption | exact fun _ h => h | exact fun _ _ => rfl | exact fun _ => rfl | exact fun h => h.elim)

theorem State.scrubKeep_keeps (hC : Settles noFld) {s : State} {n : Nat} (hk : Keeps noFld False H u₀ s) :
    Keeps noFld False H u₀ (s.scrubKeep n) := by
  unfold State.scrubKeep
  repeat' first
    | with_reducible assumption
    | (extract_lets +onlyGivenNames x; first | (refine (have hx : Keeps noFld False H u₀ x := ?_; ?_); subst x; rotate_left; clear_value x) | subst x)
    | with_reducible exact noFld_apart _
    | with_reducible exact noFld_ne _
    | with_reducible apply State.scrub_keeps hC
    | with_reducible apply State.setBg_keeps hC
    | with_reducible apply Keeps.wr
    | with_reducible apply Keeps.setReg
    | with_reducible apply Keeps.foldl
    | split
    | intro _
    | (with_reducible apply Keeps.lit <;> with_reducible first | rfl | assumption | exact fun _ h => h | exact fun _ _ => rfl | exact fun _ => rfl | exact fun h => h.elim)

theorem State.beamShare_keeps (hC : Settles noFld) {s : State} (hk : Keeps noFld False H u₀ s) :
    Keeps noFld False H u₀ (s.beamShare) := by
  unfold State.beamShare
  repeat' first
    | with_reducible assumption
    | (extract_lets +onlyGivenNames x; first | (refine (have hx : Keeps noFld False H u₀ x := ?_; ?_); subst x; rotate_left; clear_value x) | subst x)
    | with_reducible exact noFld_apart _
    | with_reducible exact noFld_ne _
    | with_reducible apply Keeps.fresh
    | with_reducible apply Keeps.wr
    | with_reducible apply Keeps.setReg
    | with_reducible apply Keeps.foldl
    | split
    | intro _
    | (with_reducible apply Keeps.lit <;> with_reducible first | rfl | assumption | exact fun _ h => h | exact fun _ _ => rfl | exact fun _ => rfl | exact fun h => h.elim)

theorem State.scrubPass_keeps (hC : Settles noFld) {s : State} (hk : Keeps noFld False H u₀ s) :
    Keeps noFld False H u₀ (s.scrubPass) := by
  unfold State.scrubPass
  repeat' first
    | with_reducible assumption
    | (extract_lets +onlyGivenNames x; first | (refine (have hx : Keeps noFld False H u₀ x := ?_; ?_); subst x; rotate_left; clear_value x) | subst x)
    | with_reducible exact noFld_apart _
    | with_reducible exact noFld_ne _
    | with_reducible apply State.beamShare_keeps hC
    | with_reducible apply State.scrub_keeps hC
    | with_reducible apply State.scrubMain_keeps hC
    | with_reducible apply State.setBg_keeps hC
    | with_reducible apply Keeps.wr
    | with_reducible apply Keeps.setReg
    | with_reducible apply Keeps.foldl
    | split
    | intro _
    | (with_reducible apply Keeps.lit <;> with_reducible first | rfl | assumption | exact fun _ h => h | exact fun _ _ => rfl | exact fun _ => rfl | exact fun h => h.elim)

theorem execScrubPass_keeps (hC : Settles noFld) {s : State} (hk : Keeps noFld False H u₀ s) :
    KeepsOut noFld False H u₀ (execScrubPass s) := by
  unfold execScrubPass
  repeat' first
    | with_reducible assumption
    | (extract_lets +onlyGivenNames x; first | (refine (have hx : Keeps noFld False H u₀ x := ?_; ?_); subst x; rotate_left; clear_value x) | subst x)
    | with_reducible exact noFld_apart _
    | with_reducible exact noFld_ne _
    | with_reducible apply State.scrubPass_keeps hC
    | with_reducible apply Keeps.wr
    | with_reducible apply Keeps.setReg
    | with_reducible apply KeepsOut.next
    | with_reducible apply Keeps.foldl
    | split
    | intro _
    | (with_reducible apply Keeps.lit <;> with_reducible first | rfl | assumption | exact fun _ h => h | exact fun _ _ => rfl | exact fun _ => rfl | exact fun h => h.elim)

theorem State.scrubNow_keeps (hC : Settles noFld) {s : State} (hk : Keeps noFld False H u₀ s) :
    Keeps noFld False H u₀ (s.scrubNow) := by
  unfold State.scrubNow
  repeat' first
    | with_reducible assumption
    | (extract_lets +onlyGivenNames x; first | (refine (have hx : Keeps noFld False H u₀ x := ?_; ?_); subst x; rotate_left; clear_value x) | subst x)
    | with_reducible exact noFld_apart _
    | with_reducible exact noFld_ne _
    | with_reducible apply State.scrubPass_keeps hC
    | with_reducible apply Keeps.wr
    | with_reducible apply Keeps.setReg
    | with_reducible apply Keeps.foldl
    | split
    | intro _
    | (with_reducible apply Keeps.lit <;> with_reducible first | rfl | assumption | exact fun _ h => h | exact fun _ _ => rfl | exact fun _ => rfl | exact fun h => h.elim)

theorem execScrubNow_keeps (hC : Settles noFld) {s : State} (hk : Keeps noFld False H u₀ s) :
    KeepsOut noFld False H u₀ (execScrubNow s) := by
  unfold execScrubNow
  repeat' first
    | with_reducible assumption
    | (extract_lets +onlyGivenNames x; first | (refine (have hx : Keeps noFld False H u₀ x := ?_; ?_); subst x; rotate_left; clear_value x) | subst x)
    | with_reducible exact noFld_apart _
    | with_reducible exact noFld_ne _
    | with_reducible refine State.hostReg_keeps hC ?_ ?_
    | with_reducible apply State.scrubNow_keeps hC
    | with_reducible apply Keeps.wr
    | with_reducible apply Keeps.setReg
    | with_reducible apply KeepsOut.next
    | with_reducible apply Keeps.foldl
    | split
    | intro _
    | (with_reducible apply Keeps.lit <;> with_reducible first | rfl | assumption | exact fun _ h => h | exact fun _ _ => rfl | exact fun _ => rfl | exact fun h => h.elim)

theorem State.calNow_keeps (hC : Settles noFld) {s : State} (hk : Keeps noFld False H u₀ s) :
    Keeps noFld False H u₀ (s.calNow) := by
  unfold State.calNow
  repeat' first
    | with_reducible assumption
    | (extract_lets +onlyGivenNames x; first | (refine (have hx : Keeps noFld False H u₀ x := ?_; ?_); subst x; rotate_left; clear_value x) | subst x)
    | with_reducible exact noFld_apart _
    | with_reducible exact noFld_ne _
    | with_reducible apply State.setBg_keeps hC
    | with_reducible apply Keeps.wr
    | with_reducible apply Keeps.setReg
    | with_reducible apply Keeps.foldl
    | split
    | intro _
    | (with_reducible apply Keeps.lit <;> with_reducible first | rfl | assumption | exact fun _ h => h | exact fun _ _ => rfl | exact fun _ => rfl | exact fun h => h.elim)

theorem execCalNow_keeps (hC : Settles noFld) {s : State} (hk : Keeps noFld False H u₀ s) :
    KeepsOut noFld False H u₀ (execCalNow s) := by
  unfold execCalNow
  repeat' first
    | with_reducible assumption
    | (extract_lets +onlyGivenNames x; first | (refine (have hx : Keeps noFld False H u₀ x := ?_; ?_); subst x; rotate_left; clear_value x) | subst x)
    | with_reducible exact noFld_apart _
    | with_reducible exact noFld_ne _
    | with_reducible apply State.calNow_keeps hC
    | with_reducible refine State.hostReg_keeps hC ?_ ?_
    | with_reducible apply Keeps.wr
    | with_reducible apply Keeps.setReg
    | with_reducible apply KeepsOut.next
    | with_reducible apply Keeps.foldl
    | split
    | intro _
    | (with_reducible apply Keeps.lit <;> with_reducible first | rfl | assumption | exact fun _ h => h | exact fun _ _ => rfl | exact fun _ => rfl | exact fun h => h.elim)

theorem execHeadchkNow_keeps (hC : Settles noFld) {s : State} (hk : Keeps noFld False H u₀ s) :
    KeepsOut noFld False H u₀ (execHeadchkNow s) := by
  unfold execHeadchkNow
  repeat' first
    | with_reducible assumption
    | (extract_lets +onlyGivenNames x; first | (refine (have hx : Keeps noFld False H u₀ x := ?_; ?_); subst x; rotate_left; clear_value x) | subst x)
    | with_reducible exact noFld_apart _
    | with_reducible exact noFld_ne _
    | with_reducible apply State.headchkNow_keeps hC
    | with_reducible refine State.hostReg_keeps hC ?_ ?_
    | with_reducible apply Keeps.wr
    | with_reducible apply Keeps.setReg
    | with_reducible apply KeepsOut.next
    | with_reducible apply Keeps.foldl
    | split
    | intro _
    | (with_reducible apply Keeps.lit <;> with_reducible first | rfl | assumption | exact fun _ h => h | exact fun _ _ => rfl | exact fun _ => rfl | exact fun h => h.elim)

theorem State.writeBgCtl_keeps (hC : Settles noFld) {s : State} {w : Word} (hk : Keeps noFld False H u₀ s) :
    Keeps noFld False H u₀ (s.writeBgCtl w) := by
  unfold State.writeBgCtl
  repeat' first
    | with_reducible assumption
    | (extract_lets +onlyGivenNames x; first | (refine (have hx : Keeps noFld False H u₀ x := ?_; ?_); subst x; rotate_left; clear_value x) | subst x)
    | with_reducible exact noFld_apart _
    | with_reducible exact noFld_ne _
    | with_reducible apply State.calNow_keeps hC
    | with_reducible apply State.headchkNow_keeps hC
    | with_reducible apply State.scrubNow_keeps hC
    | with_reducible apply Keeps.wr
    | with_reducible apply Keeps.setReg
    | with_reducible apply Keeps.foldl
    | split
    | intro _
    | (with_reducible apply Keeps.lit <;> with_reducible first | rfl | assumption | exact fun _ h => h | exact fun _ _ => rfl | exact fun _ => rfl | exact fun h => h.elim)

theorem execKeepRamScrub_keeps (hC : Settles noFld) {s : State} (hk : Keeps noFld False H u₀ s) :
    KeepsOut noFld False H u₀ (execKeepRamScrub s) := by
  unfold execKeepRamScrub
  repeat' first
    | with_reducible assumption
    | (extract_lets +onlyGivenNames x; first | (refine (have hx : Keeps noFld False H u₀ x := ?_; ?_); subst x; rotate_left; clear_value x) | subst x)
    | with_reducible exact noFld_apart _
    | with_reducible exact noFld_ne _
    | with_reducible apply Keeps.clearEcc
    | with_reducible apply State.setBg_keeps hC
    | with_reducible apply Keeps.wr
    | with_reducible apply Keeps.setReg
    | with_reducible apply KeepsOut.next
    | with_reducible apply Keeps.foldl
    | split
    | intro _
    | (with_reducible apply Keeps.lit <;> with_reducible first | rfl | assumption | exact fun _ h => h | exact fun _ _ => rfl | exact fun _ => rfl | exact fun h => h.elim)

theorem execFrcCalibration_keeps (hC : Settles noFld) {cycles : BitVec 32} {s : State} (hk : Keeps noFld False H u₀ s) :
    KeepsOut noFld False H u₀ (execFrcCalibration cycles s) := by
  unfold execFrcCalibration
  repeat' first
    | with_reducible assumption
    | (extract_lets +onlyGivenNames x; first | (refine (have hx : Keeps noFld False H u₀ x := ?_; ?_); subst x; rotate_left; clear_value x) | subst x)
    | with_reducible exact noFld_apart _
    | with_reducible exact noFld_ne _
    | with_reducible apply State.setBg_keeps hC
    | with_reducible apply State.setClk_keeps hC
    | with_reducible apply State.settle_keeps hC
    | with_reducible apply State.trimFrc_keeps hC
    | with_reducible apply Keeps.wr
    | with_reducible apply State.wrI_keeps hC
    | with_reducible apply Keeps.setReg
    | with_reducible apply KeepsOut.next
    | with_reducible apply Keeps.foldl
    | split
    | intro _
    | (with_reducible apply Keeps.lit <;> with_reducible first | rfl | assumption | exact fun _ h => h | exact fun _ _ => rfl | exact fun _ => rfl | exact fun h => h.elim)

theorem State.adcCalibrated_keeps (hC : Settles noFld) {s : State} {r : AdcReading} (hk : Keeps noFld False H u₀ s) :
    Keeps noFld False H u₀ (s.adcCalibrated r) := by
  unfold State.adcCalibrated
  repeat' first
    | with_reducible assumption
    | (extract_lets +onlyGivenNames x; first | (refine (have hx : Keeps noFld False H u₀ x := ?_; ?_); subst x; rotate_left; clear_value x) | subst x)
    | with_reducible exact noFld_apart _
    | with_reducible exact noFld_ne _
    | with_reducible apply State.bump_keeps hC
    | with_reducible apply Keeps.openWord
    | with_reducible apply State.setBg_keeps hC
    | with_reducible apply Keeps.wr
    | with_reducible apply Keeps.setReg
    | with_reducible apply Keeps.foldl
    | split
    | intro _
    | (with_reducible apply Keeps.lit <;> with_reducible first | rfl | assumption | exact fun _ h => h | exact fun _ _ => rfl | exact fun _ => rfl | exact fun h => h.elim)

theorem execAdcCalibration_keeps (hC : Settles noFld) {adc : AdcReading} {s : State} (hk : Keeps noFld False H u₀ s) :
    KeepsOut noFld False H u₀ (execAdcCalibration adc s) := by
  unfold execAdcCalibration
  repeat' first
    | with_reducible assumption
    | (extract_lets +onlyGivenNames x; first | (refine (have hx : Keeps noFld False H u₀ x := ?_; ?_); subst x; rotate_left; clear_value x) | subst x)
    | with_reducible exact noFld_apart _
    | with_reducible exact noFld_ne _
    | with_reducible apply State.adcCalibrated_keeps hC
    | with_reducible apply Keeps.wr
    | with_reducible apply Keeps.setReg
    | with_reducible apply KeepsOut.next
    | with_reducible apply Keeps.foldl
    | split
    | intro _
    | (with_reducible apply Keeps.lit <;> with_reducible first | rfl | assumption | exact fun _ h => h | exact fun _ _ => rfl | exact fun _ => rfl | exact fun h => h.elim)

theorem execTelemetrySample_keeps (hC : Settles noFld) {vin : BitVec 16} {m : TempSample} {s : State} (hk : Keeps noFld False H u₀ s) :
    KeepsOut noFld False H u₀ (execTelemetrySample vin m s) := by
  unfold execTelemetrySample
  repeat' first
    | with_reducible assumption
    | (extract_lets +onlyGivenNames x; first | (refine (have hx : Keeps noFld False H u₀ x := ?_; ?_); subst x; rotate_left; clear_value x) | subst x)
    | with_reducible exact noFld_apart _
    | with_reducible exact noFld_ne _
    | with_reducible apply State.beamShare_keeps hC
    | with_reducible apply State.lfxoComp_keeps hC
    | with_reducible apply State.settle_keeps hC
    | with_reducible apply State.takeTelemetry_keeps hC
    | with_reducible apply State.telemetry_keeps hC
    | with_reducible apply State.thermNow_keeps hC
    | with_reducible apply Keeps.wr
    | with_reducible apply Keeps.setReg
    | with_reducible apply KeepsOut.next
    | with_reducible apply Keeps.foldl
    | split
    | intro _
    | (with_reducible apply Keeps.lit <;> with_reducible first | rfl | assumption | exact fun _ h => h | exact fun _ _ => rfl | exact fun _ => rfl | exact fun h => h.elim)

theorem execFloorGrant_keeps (hC : Settles noFld) {s : State} (hk : Keeps noFld False H u₀ s) :
    KeepsOut noFld False H u₀ (execFloorGrant s) := by
  unfold execFloorGrant
  repeat' first
    | with_reducible assumption
    | (extract_lets +onlyGivenNames x; first | (refine (have hx : Keeps noFld False H u₀ x := ?_; ?_); subst x; rotate_left; clear_value x) | subst x)
    | with_reducible exact noFld_apart _
    | with_reducible exact noFld_ne _
    | with_reducible apply State.bump_keeps hC
    | with_reducible apply Keeps.wr
    | with_reducible apply Keeps.setReg
    | with_reducible apply KeepsOut.next
    | with_reducible apply Keeps.foldl
    | split
    | intro _
    | (with_reducible apply Keeps.lit <;> with_reducible first | rfl | assumption | exact fun _ h => h | exact fun _ _ => rfl | exact fun _ => rfl | exact fun h => h.elim)

theorem State.burstSamples_keeps (hC : Settles noFld) {s : State} {last : Nat} {m : TempSample} {adc : AdcReading} (hk : Keeps noFld False H u₀ s) :
    Keeps noFld False H u₀ (s.burstSamples last m adc) := by
  unfold State.burstSamples
  repeat' first
    | with_reducible assumption
    | (extract_lets +onlyGivenNames x; first | (refine (have hx : Keeps noFld False H u₀ x := ?_; ?_); subst x; rotate_left; clear_value x) | subst x)
    | with_reducible exact noFld_apart _
    | with_reducible exact noFld_ne _
    | with_reducible apply State.adcCalibrated_keeps hC
    | with_reducible apply State.lfxoComp_keeps hC
    | with_reducible apply State.setBg_keeps hC
    | with_reducible apply State.takeTelemetry_keeps hC
    | with_reducible refine State.tallyEval_of hC (by with_reducible assumption) ?_
    | with_reducible apply State.tallyEval_keeps hC
    | with_reducible apply State.wakeBy_keeps hC
    | with_reducible apply Keeps.wr
    | with_reducible apply Keeps.setReg
    | with_reducible apply Keeps.foldl
    | split
    | intro _
    | (with_reducible apply Keeps.lit <;> with_reducible first | rfl | assumption | exact fun _ h => h | exact fun _ _ => rfl | exact fun _ => rfl | exact fun h => h.elim)

theorem State.burstScrub_keeps (hC : Settles noFld) {s : State} {last : Nat} (hk : Keeps noFld False H u₀ s) :
    Keeps noFld False H u₀ (s.burstScrub last) := by
  unfold State.burstScrub
  repeat' first
    | with_reducible assumption
    | (extract_lets +onlyGivenNames x; first | (refine (have hx : Keeps noFld False H u₀ x := ?_; ?_); subst x; rotate_left; clear_value x) | subst x)
    | with_reducible exact noFld_apart _
    | with_reducible exact noFld_ne _
    | with_reducible apply State.scrubChunk_keeps hC
    | with_reducible apply State.scrubKeep_keeps hC
    | with_reducible apply Keeps.wr
    | with_reducible apply Keeps.setReg
    | with_reducible apply Keeps.foldl
    | split
    | intro _
    | (with_reducible apply Keeps.lit <;> with_reducible first | rfl | assumption | exact fun _ h => h | exact fun _ _ => rfl | exact fun _ => rfl | exact fun h => h.elim)

theorem execTallyBurst_keeps (hC : Settles noFld) {vin : BitVec 16} {m : TempSample} {adc : AdcReading} {wake : Option (Fin 9 × WakeSource)} {s : State} (hk : Keeps noFld False H u₀ s) :
    KeepsOut noFld False H u₀ (execTallyBurst vin m adc wake s) := by
  unfold execTallyBurst
  repeat' first
    | with_reducible assumption
    | (extract_lets +onlyGivenNames x; first | (refine (have hx : Keeps noFld False H u₀ x := ?_; ?_); subst x; rotate_left; clear_value x) | subst x)
    | with_reducible exact noFld_apart _
    | with_reducible exact noFld_ne _
    | with_reducible apply State.burstSamples_keeps hC
    | with_reducible apply State.burstScrub_keeps hC
    | with_reducible apply State.pinLevel_keeps hC
    | with_reducible apply State.telemetry_keeps hC
    | with_reducible apply State.wakeBy_keeps hC
    | with_reducible apply Keeps.wr
    | with_reducible apply Keeps.setReg
    | with_reducible apply KeepsOut.next
    | with_reducible apply Keeps.foldl
    | split
    | intro _
    | (with_reducible apply Keeps.lit <;> with_reducible first | rfl | assumption | exact fun _ h => h | exact fun _ _ => rfl | exact fun _ => rfl | exact fun h => h.elim)

theorem State.setLed_keeps {s : State} {f : Ledger → Ledger} (ha : (f s.led).acc = s.led.acc)
    (hb : (f s.led).base = s.led.base) (hk : Keeps noFld False H u₀ s) : Keeps noFld False H u₀ (s.setLed f) :=
  hk.same rfl rfl rfl rfl rfl rfl (fun h => h.elim) rfl rfl rfl ha hb

theorem State.showSectors_keeps (hC : Settles noFld) {s : State} (hk : Keeps noFld False H u₀ s) :
    Keeps noFld False H u₀ (s.showSectors) := by
  unfold State.showSectors
  repeat' first
    | with_reducible assumption
    | (extract_lets +onlyGivenNames x; first | (refine (have hx : Keeps noFld False H u₀ x := ?_; ?_); subst x; rotate_left; clear_value x) | subst x)
    | with_reducible exact noFld_apart _
    | with_reducible exact noFld_ne _
    | with_reducible apply Keeps.wr
    | with_reducible apply Keeps.setReg
    | with_reducible apply Keeps.foldl
    | split
    | intro _
    | (with_reducible apply Keeps.lit <;> with_reducible first | rfl | assumption | exact fun _ h => h | exact fun _ _ => rfl | exact fun _ => rfl | exact fun h => h.elim)

theorem State.openSector_keeps (hC : Settles noFld) {s : State} (hk : Keeps noFld False H u₀ s) :
    ∀ x ∈ s.openSector, Keeps noFld False H u₀ x := by
  intro x hx
  simp only [State.openSector, Option.mem_def, Option.map_eq_some_iff] at hx
  obtain ⟨k, -, rfl⟩ := hx
  exact State.showSectors_keeps hC (State.setLed_keeps rfl rfl (State.flashProgram_keeps hC hk))

theorem State.roomFor_keeps (hC : Settles noFld) {s : State} {len : Nat} (hk : Keeps noFld False H u₀ s) :
    ∀ x ∈ s.roomFor len, Keeps noFld False H u₀ x := by
  unfold State.roomFor
  split
  · intro x hx
    exact Option.some.inj hx ▸ hk
  · exact State.openSector_keeps hC hk

theorem State.commitRecord_keeps (hC : Settles noFld) {s : State} {ty on : Nat} {p : List Nat}
    (hk : Keeps noFld False H u₀ s) : ∀ x ∈ s.commitRecord ty on p, Keeps noFld False H u₀ x := by
  intro x hx
  simp only [State.commitRecord, Option.mem_def, Option.map_eq_some_iff] at hx
  obtain ⟨y, hy, rfl⟩ := hx
  have h := Keeps.wr (g := LEDGER.SEQ_SEQ) (v := y.rd LEDGER.SEQ_SEQ + 1) (noFld_apart _)
    (State.setLed_keeps (f := fun l => { l with off := l.off + p.length + 20 }) rfl rfl
      (State.flashProgram_keeps hC (a := y.sectorBase (y.led.sector.getD 0) + y.led.off)
        (l := mkRecord ty (y.rd LEDGER.SEQ_SEQ + 1) on p) (State.roomFor_keeps hC hk y hy)))
  split
  · exact Keeps.wr (noFld_apart _) h
  · exact h

theorem State.commitFirst_keeps (hC : Settles noFld) {s : State} (hk : Keeps noFld False H u₀ s) :
    Keeps noFld False H u₀ s.commitFirst.1 := by
  unfold State.commitFirst
  split
  · exact hk
  · split
    · next h =>
      exact State.setLed_keeps (f := fun l => { l with buf := _ }) rfl rfl (State.commitRecord_keeps hC hk _ h)
    · exact hk

theorem State.commitFirst_of (hC : Settles noFld) {s : State} {x₁ : State} {y0 : Bool} (he : (s.commitFirst) = (x₁, y0))
    (hk : Keeps noFld False H u₀ s) : Keeps noFld False H u₀ x₁ := by
  have hr : Keeps noFld False H u₀ (s.commitFirst).1 := State.commitFirst_keeps hC hk
  rw [he] at hr
  exact hr

theorem State.commitBuffer_keeps (hC : Settles noFld) {s : State} {n : Nat} (hk : Keeps noFld False H u₀ s) :
    Keeps noFld False H u₀ (s.commitBuffer n).1 := by
  induction n generalizing s with
  | zero => exact hk
  | succ n ih =>
    have h := State.commitFirst_keeps hC hk
    unfold State.commitBuffer
    split
    · next x e => rw [e] at h; exact ih h
    · next x e => rw [e] at h; exact h

theorem State.commitDelta_keeps (hC : Settles noFld) {s : State} (hk : Keeps noFld False H u₀ s) :
    Keeps noFld False H u₀ s.commitDelta.1 := by
  unfold State.commitDelta
  dsimp only
  split
  · exact hk
  · next h =>
    refine Keeps.foldl _ (fun s x hs => ?_) (State.setLed_keeps (f := fun l => { l with changed := false }) rfl rfl
      (State.commitRecord_keeps hC hk _ h))
    exact hs.trans ⟨fun _ h => h.elim, rfl, rfl, rfl, Otp.grown_refl _, fun _ e => e, fun h => h.elim, fun h => h.elim,
      fun ⟨a, b, c, d, e, f⟩ => ⟨a, b, c, d, Store.wf_set _ _ _ _ e, Store.wf_set _ _ _ _ f⟩⟩

theorem State.commitDelta_of (hC : Settles noFld) {s : State} {x₁ : State} {y0 : Bool} (he : (s.commitDelta) = (x₁, y0))
    (hk : Keeps noFld False H u₀ s) : Keeps noFld False H u₀ x₁ := by
  have hr : Keeps noFld False H u₀ (s.commitDelta).1 := State.commitDelta_keeps hC hk
  rw [he] at hr
  exact hr

theorem execLedgerCommit_keeps (hC : Settles noFld) {s : State} (hk : Keeps noFld False H u₀ s) :
    KeepsOut noFld False H u₀ (execLedgerCommit s) := by
  unfold execLedgerCommit
  repeat' first
    | with_reducible assumption
    | (extract_lets +onlyGivenNames x; first | (refine (have hx : Keeps noFld False H u₀ x := ?_; ?_); subst x; rotate_left; clear_value x) | subst x)
    | with_reducible exact noFld_apart _
    | with_reducible exact noFld_ne _
    | with_reducible refine State.commitFirst_of hC (by with_reducible assumption) ?_
    | with_reducible apply State.commitFirst_keeps hC
    | with_reducible apply State.flashRead_keeps hC
    | with_reducible apply Keeps.wr
    | with_reducible apply Keeps.setReg
    | with_reducible apply KeepsOut.next
    | with_reducible apply Keeps.foldl
    | split
    | intro _
    | (with_reducible apply Keeps.lit <;> with_reducible first | rfl | assumption | exact fun _ h => h | exact fun _ _ => rfl | exact fun _ => rfl | exact fun h => h.elim)

theorem execDeltaCommit_keeps (hC : Settles noFld) {s : State} (hk : Keeps noFld False H u₀ s) :
    KeepsOut noFld False H u₀ (execDeltaCommit s) := by
  unfold execDeltaCommit
  repeat' first
    | with_reducible assumption
    | (extract_lets +onlyGivenNames x; first | (refine (have hx : Keeps noFld False H u₀ x := ?_; ?_); subst x; rotate_left; clear_value x) | subst x)
    | with_reducible exact noFld_apart _
    | with_reducible exact noFld_ne _
    | with_reducible refine State.commitDelta_of hC (by with_reducible assumption) ?_
    | with_reducible apply State.commitDelta_keeps hC
    | with_reducible apply Keeps.wr
    | with_reducible apply Keeps.setReg
    | with_reducible apply KeepsOut.next
    | with_reducible apply Keeps.foldl
    | split
    | intro _
    | (with_reducible apply Keeps.lit <;> with_reducible first | rfl | assumption | exact fun _ h => h | exact fun _ _ => rfl | exact fun _ => rfl | exact fun h => h.elim)

theorem State.rebuildErases_keeps (hC : Settles noFld) {s : State} (hk : Keeps noFld False H u₀ s) :
    Keeps noFld False H u₀ (s.rebuildErases) := by
  unfold State.rebuildErases
  repeat' first
    | with_reducible assumption
    | (extract_lets +onlyGivenNames x; first | (refine (have hx : Keeps noFld False H u₀ x := ?_; ?_); subst x; rotate_left; clear_value x) | subst x)
    | with_reducible exact noFld_apart _
    | with_reducible exact noFld_ne _
    | (with_reducible refine State.setLed_keeps ?_ ?_ ?_; (· rfl); (· rfl))
    | with_reducible apply Keeps.wr
    | with_reducible apply Keeps.setReg
    | with_reducible apply Keeps.foldl
    | split
    | intro _
    | (with_reducible apply Keeps.lit <;> with_reducible first | rfl | assumption | exact fun _ h => h | exact fun _ _ => rfl | exact fun _ => rfl | exact fun h => h.elim)

theorem foldTotals_wf (t : Store Nat) (r : List Nat) (h : Store.wf 0 t = true) : Store.wf 0 (foldTotals t r) = true := by
  have key : ∀ (l : List Nat) (f : Store Nat → Nat → Nat) (t : Store Nat), Store.wf 0 t = true →
      Store.wf 0 (l.foldl (fun t k => Store.set 0 t k (f t k)) t) = true := by
    intro l f
    induction l with
    | nil => exact fun _ h => h
    | cons k l ih => exact fun t h => ih _ (Store.wf_set _ _ _ _ h)
  unfold foldTotals
  dsimp only
  split
  · exact key _ (fun _ k => counterIn (r.drop 12) k) [] rfl
  · split
    · exact key _ (fun t k => Store.get 0 t k + counterIn (r.drop 12) k) t h
    · exact h

theorem foldTotals_list_wf (l : List (List Nat)) (t : Store Nat) (h : Store.wf 0 t = true) :
    Store.wf 0 (l.foldl foldTotals t) = true := by
  induction l generalizing t with
  | nil => exact h
  | cons r l ih => exact ih _ (foldTotals_wf t r h)

theorem State.setTotals_keeps {s : State} {f : Ledger → Ledger} (ha : (f s.led).acc = s.led.acc)
    (hb : Store.wf 0 (f s.led).base = true) (hk : Keeps noFld False H u₀ s) : Keeps noFld False H u₀ (s.setLed f) :=
  hk.trans ⟨fun _ h => h.elim, rfl, rfl, rfl, Otp.grown_refl _, fun _ e => e, fun h => h.elim, fun h => h.elim,
    fun ⟨a, b, c, d, e, _⟩ => ⟨a, b, c, d, ha ▸ e, hb⟩⟩

theorem State.mount_keeps (hC : Settles noFld) {s : State} (hk : Keeps noFld False H u₀ s) :
    Keeps noFld False H u₀ (s.mount) := by
  unfold State.mount
  repeat' first
    | with_reducible assumption
    | (extract_lets +onlyGivenNames x; first | (refine (have hx : Keeps noFld False H u₀ x := ?_; ?_); subst x; rotate_left; clear_value x) | subst x)
    | with_reducible exact noFld_apart _
    | with_reducible exact noFld_ne _
    | with_reducible apply State.bump_keeps hC
    | with_reducible refine State.openSector_keeps hC ?_
    | with_reducible apply State.rebuildErases_keeps hC
    | (with_reducible refine State.setLed_keeps ?_ ?_ ?_; (· rfl); (· rfl))
    | with_reducible apply State.showSectors_keeps hC
    | with_reducible apply Keeps.wr
    | with_reducible refine State.setTotals_keeps rfl (foldTotals_list_wf _ _ rfl) ?_
    | with_reducible refine Keeps.getD ?_ ?_
    | with_reducible apply Keeps.setReg
    | with_reducible apply Keeps.foldl
    | split
    | intro _
    | (with_reducible apply Keeps.lit <;> with_reducible first | rfl | assumption | exact fun _ h => h | exact fun _ _ => rfl | exact fun _ => rfl | exact fun h => h.elim)

theorem execReadCounters_keeps (hC : Settles noFld) {tag : Fin 64} {s : State} (hk : Keeps noFld False H u₀ s) :
    KeepsOut noFld False H u₀ (execReadCounters tag s) := by
  unfold execReadCounters
  repeat' first
    | with_reducible assumption
    | (extract_lets +onlyGivenNames x; first | (refine (have hx : Keeps noFld False H u₀ x := ?_; ?_); subst x; rotate_left; clear_value x) | subst x)
    | with_reducible exact noFld_apart _
    | with_reducible exact noFld_ne _
    | with_reducible apply State.complete_keeps hC
    | with_reducible apply State.refuseWrite_keeps hC
    | with_reducible apply State.settle_keeps hC
    | with_reducible apply State.writeMem_keeps hC (fun h => h.elim)
    | with_reducible apply Keeps.wr
    | with_reducible apply Keeps.setReg
    | with_reducible apply KeepsOut.next
    | with_reducible apply Keeps.foldl
    | split
    | intro _
    | (with_reducible apply Keeps.lit <;> with_reducible first | rfl | assumption | exact fun _ h => h | exact fun _ _ => rfl | exact fun _ => rfl | exact fun h => h.elim)

theorem execCommitNow_keeps (hC : Settles noFld) {tag : Fin 64} {s : State} (hk : Keeps noFld False H u₀ s) :
    KeepsOut noFld False H u₀ (execCommitNow tag s) := by
  unfold execCommitNow
  repeat' first
    | with_reducible assumption
    | (extract_lets +onlyGivenNames x; first | (refine (have hx : Keeps noFld False H u₀ x := ?_; ?_); subst x; rotate_left; clear_value x) | subst x)
    | with_reducible exact noFld_apart _
    | with_reducible exact noFld_ne _
    | with_reducible apply State.commitBuffer_keeps hC
    | with_reducible refine State.commitDelta_of hC (by with_reducible assumption) ?_
    | with_reducible apply State.commitDelta_keeps hC
    | with_reducible apply State.complete_keeps hC
    | with_reducible apply State.settle_keeps hC
    | with_reducible apply Keeps.wr
    | with_reducible apply Keeps.setReg
    | with_reducible apply KeepsOut.next
    | with_reducible apply Keeps.foldl
    | split
    | intro _
    | (with_reducible apply Keeps.lit <;> with_reducible first | rfl | assumption | exact fun _ h => h | exact fun _ _ => rfl | exact fun _ => rfl | exact fun h => h.elim)

theorem execExportRecords_keeps (hC : Settles noFld) {tag : Fin 64} {s : State} (hk : Keeps noFld False H u₀ s) :
    KeepsOut noFld False H u₀ (execExportRecords tag s) := by
  unfold execExportRecords
  repeat' first
    | with_reducible assumption
    | (extract_lets +onlyGivenNames x; first | (refine (have hx : Keeps noFld False H u₀ x := ?_; ?_); subst x; rotate_left; clear_value x) | subst x)
    | with_reducible exact noFld_apart _
    | with_reducible exact noFld_ne _
    | with_reducible apply State.complete_keeps hC
    | with_reducible apply State.flashRead_keeps hC
    | with_reducible apply State.refuseWrite_keeps hC
    | with_reducible apply State.settle_keeps hC
    | with_reducible apply State.writeMem_keeps hC (fun h => h.elim)
    | with_reducible apply Keeps.wr
    | with_reducible apply Keeps.setReg
    | with_reducible apply KeepsOut.next
    | with_reducible apply Keeps.foldl
    | split
    | intro _
    | (with_reducible apply Keeps.lit <;> with_reducible first | rfl | assumption | exact fun _ h => h | exact fun _ _ => rfl | exact fun _ => rfl | exact fun h => h.elim)

theorem State.compactNext_keeps (hC : Settles noFld) {s : State} {oldest : Bool} (hk : Keeps noFld False H u₀ s) :
    Keeps noFld False H u₀ (s.compactNext oldest) := by
  unfold State.compactNext
  repeat' first
    | with_reducible assumption
    | (extract_lets +onlyGivenNames x; first | (refine (have hx : Keeps noFld False H u₀ x := ?_; ?_); subst x; rotate_left; clear_value x) | subst x)
    | with_reducible exact noFld_apart _
    | with_reducible exact noFld_ne _
    | with_reducible apply State.bump_keeps hC
    | with_reducible apply State.flashBusy_keeps hC
    | with_reducible apply State.flashProgram_keeps hC
    | (with_reducible refine State.setLed_keeps ?_ ?_ ?_; (· rfl); (· rfl))
    | with_reducible apply Keeps.wr
    | with_reducible apply Keeps.setReg
    | with_reducible apply Keeps.foldl
    | split
    | intro _
    | (with_reducible apply Keeps.lit <;> with_reducible first | rfl | assumption | exact fun _ h => h | exact fun _ _ => rfl | exact fun _ => rfl | exact fun h => h.elim)

theorem State.compactErased_keeps (hC : Settles noFld) {s : State} {v : Compaction} (hk : Keeps noFld False H u₀ s) :
    Keeps noFld False H u₀ (s.compactErased v) := by
  unfold State.compactErased
  repeat' first
    | with_reducible assumption
    | (extract_lets +onlyGivenNames x; first | (refine (have hx : Keeps noFld False H u₀ x := ?_; ?_); subst x; rotate_left; clear_value x) | subst x)
    | with_reducible exact noFld_apart _
    | with_reducible exact noFld_ne _
    | with_reducible apply State.compactNext_keeps hC
    | with_reducible apply State.flashErase_keeps hC
    | (with_reducible refine State.setLed_keeps ?_ ?_ ?_; (· rfl); (· rfl))
    | with_reducible apply State.showSectors_keeps hC
    | with_reducible apply Keeps.wr
    | with_reducible apply Keeps.setReg
    | with_reducible apply Keeps.foldl
    | split
    | intro _
    | (with_reducible apply Keeps.lit <;> with_reducible first | rfl | assumption | exact fun _ h => h | exact fun _ _ => rfl | exact fun _ => rfl | exact fun h => h.elim)

theorem execLedgerCompaction_keeps (hC : Settles noFld) {s : State} (hk : Keeps noFld False H u₀ s) :
    KeepsOut noFld False H u₀ (execLedgerCompaction s) := by
  unfold execLedgerCompaction
  repeat' first
    | with_reducible assumption
    | (extract_lets +onlyGivenNames x; first | (refine (have hx : Keeps noFld False H u₀ x := ?_; ?_); subst x; rotate_left; clear_value x) | subst x)
    | with_reducible exact noFld_apart _
    | with_reducible exact noFld_ne _
    | with_reducible apply State.commitBuffer_keeps hC
    | with_reducible refine State.commitRecord_keeps hC ?_
    | with_reducible apply State.compactNext_keeps hC
    | with_reducible refine Keeps.getD (State.commitRecord_keeps hC ?_) ?_
    | with_reducible apply Keeps.wr
    | with_reducible apply Keeps.setReg
    | with_reducible apply KeepsOut.next
    | with_reducible apply Keeps.foldl
    | split
    | intro _
    | (with_reducible apply Keeps.lit <;> with_reducible first | rfl | assumption | exact fun _ h => h | exact fun _ _ => rfl | exact fun _ => rfl | exact fun h => h.elim)

theorem execSectorEraseDone_keeps (hC : Settles noFld) {s : State} (hk : Keeps noFld False H u₀ s) :
    KeepsOut noFld False H u₀ (execSectorEraseDone s) := by
  unfold execSectorEraseDone
  repeat' first
    | with_reducible assumption
    | (extract_lets +onlyGivenNames x; first | (refine (have hx : Keeps noFld False H u₀ x := ?_; ?_); subst x; rotate_left; clear_value x) | subst x)
    | with_reducible exact noFld_apart _
    | with_reducible exact noFld_ne _
    | with_reducible apply State.compactErased_keeps hC
    | with_reducible apply State.slotSectorDone_keeps hC
    | with_reducible apply Keeps.wr
    | with_reducible apply Keeps.setReg
    | with_reducible apply KeepsOut.next
    | with_reducible apply Keeps.foldl
    | split
    | intro _
    | (with_reducible apply Keeps.lit <;> with_reducible first | rfl | assumption | exact fun _ h => h | exact fun _ _ => rfl | exact fun _ => rfl | exact fun h => h.elim)

end Sys2Proof.Machine
end

