-- ==== Sys2Proof/Laws/KeepsRods.lean ====
section
/-! SUPPORT. What each operation and each command keeps, for images, the encoder, commands as a whole, rod resets, host access, the link and the tick of time: one lemma per operation, each by the
lemmas of the operations it calls. -/

namespace Sys2Proof.Machine

set_option linter.all false
set_option Elab.async false

variable {C : Fld → Prop} {D H : Prop} {u₀ : State}

theorem State.putFields_keeps (hC : Settles noFld) {s : State} {l : List ImgField} (hk : Keeps noFld False H u₀ s) :
    Keeps noFld False H u₀ (s.putFields l) := by
  unfold State.putFields
  repeat' first
    | with_reducible assumption
    | (extract_lets +onlyGivenNames x; first | (refine (have hx : Keeps noFld False H u₀ x := ?_; ?_); subst x; rotate_left; clear_value x) | subst x)
    | with_reducible exact noFld_apart _
    | with_reducible exact noFld_ne _
    | with_reducible apply Keeps.wr
    | with_reducible apply Keeps.setReg
    | with_reducible apply Keeps.foldl
    | split
    | intro _
    | (with_reducible apply Keeps.lit <;> with_reducible first | rfl | assumption | exact fun _ h => h | exact fun _ _ => rfl | exact fun _ => rfl | exact fun h => h.elim)

theorem State.putClients_keeps (hC : Settles noFld) {s : State} (hk : Keeps noFld False H u₀ s) :
    Keeps noFld False H u₀ (s.putClients) := by
  unfold State.putClients
  repeat' first
    | with_reducible assumption
    | (extract_lets +onlyGivenNames x; first | (refine (have hx : Keeps noFld False H u₀ x := ?_; ?_); subst x; rotate_left; clear_value x) | subst x)
    | with_reducible exact noFld_apart _
    | with_reducible exact noFld_ne _
    | with_reducible apply Keeps.wr
    | with_reducible apply Keeps.setReg
    | with_reducible apply Keeps.foldl
    | split
    | intro _
    | (with_reducible apply Keeps.lit <;> with_reducible first | rfl | assumption | exact fun _ h => h | exact fun _ _ => rfl | exact fun _ => rfl | exact fun h => h.elim)

theorem State.putLoops_keeps (hC : Settles noFld) {s : State} (hk : Keeps noFld False H u₀ s) :
    Keeps noFld False H u₀ (s.putLoops) := by
  unfold State.putLoops
  repeat' first
    | with_reducible assumption
    | (extract_lets +onlyGivenNames x; first | (refine (have hx : Keeps noFld False H u₀ x := ?_; ?_); subst x; rotate_left; clear_value x) | subst x)
    | with_reducible exact noFld_apart _
    | with_reducible exact noFld_ne _
    | with_reducible apply State.modLoop_keeps hC
    | with_reducible apply Keeps.wr
    | with_reducible apply Keeps.setReg
    | with_reducible apply Keeps.foldl
    | split
    | intro _
    | (with_reducible apply Keeps.lit <;> with_reducible first | rfl | assumption | exact fun _ h => h | exact fun _ _ => rfl | exact fun _ => rfl | exact fun h => h.elim)

theorem State.feedFields_keeps (hC : Settles noFld) {s : State} (hk : Keeps noFld False H u₀ s) :
    Keeps noFld False H u₀ (s.feedFields) := by
  unfold State.feedFields
  repeat' first
    | with_reducible assumption
    | (extract_lets +onlyGivenNames x; first | (refine (have hx : Keeps noFld False H u₀ x := ?_; ?_); subst x; rotate_left; clear_value x) | subst x)
    | with_reducible exact noFld_apart _
    | with_reducible exact noFld_ne _
    | with_reducible apply Keeps.wr
    | with_reducible apply Keeps.setReg
    | with_reducible apply Keeps.foldl
    | split
    | intro _
    | (with_reducible apply Keeps.lit <;> with_reducible first | rfl | assumption | exact fun _ h => h | exact fun _ _ => rfl | exact fun _ => rfl | exact fun h => h.elim)

theorem State.configRod_keeps (hC : Settles noFld) {s : State} {r : Rod} (hk : Keeps noFld False H u₀ s) :
    Keeps noFld False H u₀ (s.configRod r) := by
  unfold State.configRod
  repeat' first
    | with_reducible assumption
    | (extract_lets +onlyGivenNames x; first | (refine (have hx : Keeps noFld False H u₀ x := ?_; ?_); subst x; rotate_left; clear_value x) | subst x)
    | with_reducible exact noFld_apart _
    | with_reducible exact noFld_ne _
    | with_reducible apply State.feedFields_keeps hC
    | with_reducible apply State.flashSelect_keeps hC
    | with_reducible apply State.putClients_keeps hC
    | with_reducible apply State.putFields_keeps hC
    | with_reducible apply State.putLoops_keeps hC
    | with_reducible apply Keeps.wr
    | with_reducible apply Keeps.setReg
    | with_reducible apply Keeps.foldl
    | split
    | intro _
    | (with_reducible apply Keeps.lit <;> with_reducible first | rfl | assumption | exact fun _ h => h | exact fun _ _ => rfl | exact fun _ => rfl | exact fun h => h.elim)

theorem State.raiseCauses_keeps (hC : Settles noFld) {s : State} {r : Rod} (hk : Keeps noFld False H u₀ s) :
    Keeps noFld False H u₀ (s.raiseCauses r) := by
  unfold State.raiseCauses
  repeat' first
    | with_reducible assumption
    | (extract_lets +onlyGivenNames x; first | (refine (have hx : Keeps noFld False H u₀ x := ?_; ?_); subst x; rotate_left; clear_value x) | subst x)
    | with_reducible exact noFld_apart _
    | with_reducible exact noFld_ne _
    | with_reducible apply State.raise_keeps hC
    | with_reducible apply Keeps.wr
    | with_reducible apply Keeps.setReg
    | with_reducible apply Keeps.foldl
    | split
    | intro _
    | (with_reducible apply Keeps.lit <;> with_reducible first | rfl | assumption | exact fun _ h => h | exact fun _ _ => rfl | exact fun _ => rfl | exact fun h => h.elim)

theorem State.configRods_keeps (hC : Settles noFld) {s : State} {b : List Nat} {rs : List Rod} (hk : Keeps noFld False H u₀ s) :
    Keeps noFld False H u₀ (s.configRods b rs) := by
  unfold State.configRods
  repeat' first
    | with_reducible assumption
    | (extract_lets +onlyGivenNames x; first | (refine (have hx : Keeps noFld False H u₀ x := ?_; ?_); subst x; rotate_left; clear_value x) | subst x)
    | with_reducible exact noFld_apart _
    | with_reducible exact noFld_ne _
    | with_reducible apply State.bump_keeps hC
    | with_reducible apply State.clearFaults_keeps hC
    | with_reducible apply State.configRod_keeps hC
    | with_reducible apply State.raiseCauses_keeps hC
    | with_reducible apply State.setImg_keeps hC
    | with_reducible apply Keeps.wr
    | with_reducible apply Keeps.setReg
    | with_reducible apply Keeps.foldl
    | split
    | intro _
    | (with_reducible apply Keeps.lit <;> with_reducible first | rfl | assumption | exact fun _ h => h | exact fun _ _ => rfl | exact fun _ => rfl | exact fun h => h.elim)

theorem State.rescan_keeps (hC : Settles noFld) {s : State} (hk : Keeps noFld False H u₀ s) :
    Keeps noFld False H u₀ (s.rescan) := by
  unfold State.rescan
  repeat' first
    | with_reducible assumption
    | (extract_lets +onlyGivenNames x; first | (refine (have hx : Keeps noFld False H u₀ x := ?_; ?_); subst x; rotate_left; clear_value x) | subst x)
    | with_reducible exact noFld_apart _
    | with_reducible exact noFld_ne _
    | with_reducible apply Keeps.wr
    | with_reducible apply Keeps.setReg
    | with_reducible apply Keeps.foldl
    | split
    | intro _
    | (with_reducible apply Keeps.lit <;> with_reducible first | rfl | assumption | exact fun _ h => h | exact fun _ _ => rfl | exact fun _ => rfl | exact fun h => h.elim)

theorem State.checkRings_keeps (hC : Settles noFld) {s : State} (hk : Keeps noFld False H u₀ s) :
    Keeps noFld False H u₀ (s.checkRings) := by
  unfold State.checkRings
  repeat' first
    | with_reducible assumption
    | (extract_lets +onlyGivenNames x; first | (refine (have hx : Keeps noFld False H u₀ x := ?_; ?_); subst x; rotate_left; clear_value x) | subst x)
    | with_reducible exact noFld_apart _
    | with_reducible exact noFld_ne _
    | with_reducible apply State.disableQueue_keeps hC
    | with_reducible apply State.queueVec_keeps hC
    | with_reducible apply Keeps.wr
    | with_reducible apply Keeps.setReg
    | with_reducible apply Keeps.foldl
    | split
    | intro _
    | (with_reducible apply Keeps.lit <;> with_reducible first | rfl | assumption | exact fun _ h => h | exact fun _ _ => rfl | exact fun _ => rfl | exact fun h => h.elim)

theorem State.applyFull_keeps (hC : Settles noFld) {s : State} {b : List Nat} {source : Nat} (hk : Keeps noFld False H u₀ s) :
    Keeps noFld False H u₀ (s.applyFull b source) := by
  unfold State.applyFull
  repeat' first
    | with_reducible assumption
    | (extract_lets +onlyGivenNames x; first | (refine (have hx : Keeps noFld False H u₀ x := ?_; ?_); subst x; rotate_left; clear_value x) | subst x)
    | with_reducible exact noFld_apart _
    | with_reducible exact noFld_ne _
    | with_reducible apply State.checkRings_keeps hC
    | with_reducible apply State.configRods_keeps hC
    | with_reducible apply State.dvfsStart_keeps hC
    | with_reducible apply State.hbRestart_keeps hC
    | with_reducible apply State.rescan_keeps hC
    | with_reducible apply State.setClk_keeps hC
    | with_reducible apply State.setImg_keeps hC
    | with_reducible apply Keeps.wr
    | with_reducible apply Keeps.setReg
    | with_reducible apply Keeps.foldl
    | split
    | intro _
    | (with_reducible apply Keeps.lit <;> with_reducible first | rfl | assumption | exact fun _ h => h | exact fun _ _ => rfl | exact fun _ => rfl | exact fun h => h.elim)

theorem State.readImage_keeps (hC : Settles noFld) {s : State} {a : Nat} {region : Nat} {w : Offer} (hk : Keeps noFld False H u₀ s) :
    Keeps noFld False H u₀ (s.readImage a region w).1 := by
  unfold State.readImage
  repeat' first
    | with_reducible assumption
    | (extract_lets +onlyGivenNames x; first | (refine (have hx : Keeps noFld False H u₀ x := ?_; ?_); subst x; rotate_left; clear_value x) | subst x)
    | with_reducible exact noFld_apart _
    | with_reducible exact noFld_ne _
    | with_reducible refine State.readMem_of hC (by with_reducible assumption) ?_
    | with_reducible apply State.readMem_keeps hC
    | with_reducible apply Keeps.wr
    | with_reducible apply Keeps.setReg
    | with_reducible apply Keeps.foldl
    | split
    | intro _
    | (with_reducible apply Keeps.lit <;> with_reducible first | rfl | assumption | exact fun _ h => h | exact fun _ _ => rfl | exact fun _ => rfl | exact fun h => h.elim)

theorem State.readImage_of (hC : Settles noFld) {s : State} {a : Nat} {region : Nat} {w : Offer} {x₁ : State} {y0 : List Nat} (he : (s.readImage a region w) = (x₁, y0))
    (hk : Keeps noFld False H u₀ s) : Keeps noFld False H u₀ x₁ := by
  have hr : Keeps noFld False H u₀ (s.readImage a region w).1 := State.readImage_keeps hC hk
  rw [he] at hr
  exact hr

theorem State.writeImgPush_keeps (hC : Settles noFld) {s : State} {w : Word} (hk : Keeps noFld False H u₀ s) :
    Keeps noFld False H u₀ (s.writeImgPush w) := by
  unfold State.writeImgPush
  repeat' first
    | with_reducible assumption
    | (extract_lets +onlyGivenNames x; first | (refine (have hx : Keeps noFld False H u₀ x := ?_; ?_); subst x; rotate_left; clear_value x) | subst x)
    | with_reducible exact noFld_apart _
    | with_reducible exact noFld_ne _
    | with_reducible apply State.setImg_keeps hC
    | with_reducible apply Keeps.wr
    | with_reducible apply Keeps.setReg
    | with_reducible apply Keeps.foldl
    | split
    | intro _
    | (with_reducible apply Keeps.lit <;> with_reducible first | rfl | assumption | exact fun _ h => h | exact fun _ _ => rfl | exact fun _ => rfl | exact fun h => h.elim)

theorem execImgPush_keeps (hC : Settles noFld) {w : BitVec 32} {s : State} (hk : Keeps noFld False H u₀ s) :
    KeepsOut noFld False H u₀ (execImgPush w s) := by
  unfold execImgPush
  repeat' first
    | with_reducible assumption
    | (extract_lets +onlyGivenNames x; first | (refine (have hx : Keeps noFld False H u₀ x := ?_; ?_); subst x; rotate_left; clear_value x) | subst x)
    | with_reducible exact noFld_apart _
    | with_reducible exact noFld_ne _
    | with_reducible refine State.hostReg_keeps hC ?_ ?_
    | with_reducible apply State.writeImgPush_keeps hC
    | with_reducible apply Keeps.wr
    | with_reducible apply Keeps.setReg
    | with_reducible apply KeepsOut.next
    | with_reducible apply Keeps.foldl
    | split
    | intro _
    | (with_reducible apply Keeps.lit <;> with_reducible first | rfl | assumption | exact fun _ h => h | exact fun _ _ => rfl | exact fun _ => rfl | exact fun h => h.elim)

theorem State.slotVerifiedAt_keeps (hC : Settles noFld) {s : State} {k : Nat} {rest : List Nat} {named : Bool} (hk : Keeps noFld False H u₀ s) :
    Keeps noFld False H u₀ (s.slotVerifiedAt k rest named) := by
  unfold State.slotVerifiedAt
  repeat' first
    | with_reducible assumption
    | (extract_lets +onlyGivenNames x; first | (refine (have hx : Keeps noFld False H u₀ x := ?_; ?_); subst x; rotate_left; clear_value x) | subst x)
    | with_reducible exact noFld_apart _
    | with_reducible exact noFld_ne _
    | with_reducible apply State.applyFull_keeps hC
    | with_reducible apply State.failStep_keeps hC
    | with_reducible apply State.trySlot_keeps hC
    | with_reducible apply State.waitHost_keeps hC
    | with_reducible apply Keeps.wr
    | with_reducible apply Keeps.setReg
    | with_reducible apply Keeps.foldl
    | split
    | intro _
    | (with_reducible apply Keeps.lit <;> with_reducible first | rfl | assumption | exact fun _ h => h | exact fun _ _ => rfl | exact fun _ => rfl | exact fun h => h.elim)

theorem State.pushVerified_keeps (hC : Settles noFld) {s : State} {a : Nat} (hk : Keeps noFld False H u₀ s) :
    Keeps noFld False H u₀ (s.pushVerified a) := by
  unfold State.pushVerified
  repeat' first
    | with_reducible assumption
    | (extract_lets +onlyGivenNames x; first | (refine (have hx : Keeps noFld False H u₀ x := ?_; ?_); subst x; rotate_left; clear_value x) | subst x)
    | with_reducible exact noFld_apart _
    | with_reducible exact noFld_ne _
    | with_reducible apply State.applyFull_keeps hC
    | with_reducible apply State.failStep_keeps hC
    | with_reducible refine State.readImage_of hC (by with_reducible assumption) ?_
    | with_reducible apply State.readImage_keeps hC
    | with_reducible apply State.waitHost_keeps hC
    | with_reducible apply Keeps.wr
    | with_reducible apply Keeps.setReg
    | with_reducible apply Keeps.foldl
    | split
    | intro _
    | (with_reducible apply Keeps.lit <;> with_reducible first | rfl | assumption | exact fun _ h => h | exact fun _ _ => rfl | exact fun _ => rfl | exact fun h => h.elim)

theorem execPartialApply_keeps (hC : Settles noFld) {tag : Fin 64} {s : State} (hk : Keeps noFld False H u₀ s) :
    KeepsOut noFld False H u₀ (execPartialApply tag s) := by
  unfold execPartialApply
  repeat' first
    | with_reducible assumption
    | (extract_lets +onlyGivenNames x; first | (refine (have hx : Keeps noFld False H u₀ x := ?_; ?_); subst x; rotate_left; clear_value x) | subst x)
    | with_reducible exact noFld_apart _
    | with_reducible exact noFld_ne _
    | with_reducible apply State.endOpen_keeps hC
    | with_reducible apply State.setImg_keeps hC
    | with_reducible apply State.settle_keeps hC
    | with_reducible apply State.start_keeps hC
    | with_reducible apply Keeps.wr
    | with_reducible apply Keeps.setReg
    | with_reducible apply KeepsOut.next
    | with_reducible apply Keeps.foldl
    | split
    | intro _
    | (with_reducible apply Keeps.lit <;> with_reducible first | rfl | assumption | exact fun _ h => h | exact fun _ _ => rfl | exact fun _ => rfl | exact fun h => h.elim)

theorem State.untested_keeps (hC : Settles noFld) {s : State} {m : Nat} (hk : Keeps noFld False H u₀ s) :
    Keeps noFld False H u₀ (s.untested m) := by
  unfold State.untested
  repeat' first
    | with_reducible assumption
    | (extract_lets +onlyGivenNames x; first | (refine (have hx : Keeps noFld False H u₀ x := ?_; ?_); subst x; rotate_left; clear_value x) | subst x)
    | with_reducible exact noFld_apart _
    | with_reducible exact noFld_ne _
    | with_reducible apply Keeps.wr
    | with_reducible apply Keeps.setReg
    | with_reducible apply Keeps.foldl
    | split
    | intro _
    | (with_reducible apply Keeps.lit <;> with_reducible first | rfl | assumption | exact fun _ h => h | exact fun _ _ => rfl | exact fun _ => rfl | exact fun h => h.elim)

theorem State.clearReady_keeps (hC : Settles noFld) {s : State} {r : Rod} (hk : Keeps noFld False H u₀ s) :
    Keeps noFld False H u₀ (s.clearReady r) := by
  unfold State.clearReady
  repeat' first
    | with_reducible assumption
    | (extract_lets +onlyGivenNames x; first | (refine (have hx : Keeps noFld False H u₀ x := ?_; ?_); subst x; rotate_left; clear_value x) | subst x)
    | with_reducible exact noFld_apart _
    | with_reducible exact noFld_ne _
    | with_reducible apply State.abandonRecheck_keeps hC
    | with_reducible apply State.rodVec_keeps hC
    | with_reducible apply State.wrBit_keeps hC
    | with_reducible apply Keeps.wr
    | with_reducible apply Keeps.setReg
    | with_reducible apply Keeps.foldl
    | split
    | intro _
    | (with_reducible apply Keeps.lit <;> with_reducible first | rfl | assumption | exact fun _ h => h | exact fun _ _ => rfl | exact fun _ => rfl | exact fun h => h.elim)

theorem State.applyPartial_keeps (hC : Settles noFld) {s : State} {tag : Nat} {b : List Nat} {rs : List Rod} (hk : Keeps noFld False H u₀ s) :
    Keeps noFld False H u₀ (s.applyPartial tag b rs) := by
  unfold State.applyPartial
  repeat' first
    | with_reducible assumption
    | (extract_lets +onlyGivenNames x; first | (refine (have hx : Keeps noFld False H u₀ x := ?_; ?_); subst x; rotate_left; clear_value x) | subst x)
    | with_reducible exact noFld_apart _
    | with_reducible exact noFld_ne _
    | with_reducible apply State.clearReady_keeps hC
    | with_reducible apply State.configRods_keeps hC
    | with_reducible apply State.rescan_keeps hC
    | with_reducible apply State.setImg_keeps hC
    | with_reducible apply State.untested_keeps hC
    | with_reducible apply Keeps.wr
    | with_reducible apply Keeps.setReg
    | with_reducible apply Keeps.foldl
    | split
    | intro _
    | (with_reducible apply Keeps.lit <;> with_reducible first | rfl | assumption | exact fun _ h => h | exact fun _ _ => rfl | exact fun _ => rfl | exact fun h => h.elim)

theorem State.endPartial_keeps (hC : Settles noFld) {s : State} {tag : Nat} {status : Nat} (hk : Keeps noFld False H u₀ s) :
    Keeps noFld False H u₀ (s.endPartial tag status) := by
  unfold State.endPartial
  repeat' first
    | with_reducible assumption
    | (extract_lets +onlyGivenNames x; first | (refine (have hx : Keeps noFld False H u₀ x := ?_; ?_); subst x; rotate_left; clear_value x) | subst x)
    | with_reducible exact noFld_apart _
    | with_reducible exact noFld_ne _
    | with_reducible apply State.endOpen_keeps hC
    | with_reducible apply Keeps.wr
    | with_reducible apply Keeps.setReg
    | with_reducible apply Keeps.foldl
    | split
    | intro _
    | (with_reducible apply Keeps.lit <;> with_reducible first | rfl | assumption | exact fun _ h => h | exact fun _ _ => rfl | exact fun _ => rfl | exact fun h => h.elim)

theorem State.partialVerified_keeps (hC : Settles noFld) {s : State} {tag : Nat} (hk : Keeps noFld False H u₀ s) :
    Keeps noFld False H u₀ (s.partialVerified tag) := by
  unfold State.partialVerified
  repeat' first
    | with_reducible assumption
    | (extract_lets +onlyGivenNames x; first | (refine (have hx : Keeps noFld False H u₀ x := ?_; ?_); subst x; rotate_left; clear_value x) | subst x)
    | with_reducible exact noFld_apart _
    | with_reducible exact noFld_ne _
    | with_reducible apply State.applyPartial_keeps hC
    | with_reducible apply State.complete_keeps hC
    | with_reducible apply State.endPartial_keeps hC
    | with_reducible apply State.failStep_keeps hC
    | with_reducible refine State.readImage_of hC (by with_reducible assumption) ?_
    | with_reducible apply State.readImage_keeps hC
    | with_reducible apply State.setImg_keeps hC
    | with_reducible apply Keeps.wr
    | with_reducible apply Keeps.setReg
    | with_reducible apply Keeps.foldl
    | split
    | intro _
    | (with_reducible apply Keeps.lit <;> with_reducible first | rfl | assumption | exact fun _ h => h | exact fun _ _ => rfl | exact fun _ => rfl | exact fun h => h.elim)

theorem execImageVerified_keeps (hC : Settles noFld) {s : State} (hk : Keeps noFld False H u₀ s) :
    KeepsOut noFld False H u₀ (execImageVerified s) := by
  unfold execImageVerified
  repeat' first
    | with_reducible assumption
    | (extract_lets +onlyGivenNames x; first | (refine (have hx : Keeps noFld False H u₀ x := ?_; ?_); subst x; rotate_left; clear_value x) | subst x)
    | with_reducible exact noFld_apart _
    | with_reducible exact noFld_ne _
    | with_reducible apply State.partialVerified_keeps hC
    | with_reducible apply State.pushVerified_keeps hC
    | with_reducible apply State.settle_keeps hC
    | with_reducible apply State.slotVerifiedAt_keeps hC
    | with_reducible apply Keeps.wr
    | with_reducible apply Keeps.setReg
    | with_reducible apply KeepsOut.next
    | with_reducible apply Keeps.foldl
    | split
    | intro _
    | (with_reducible apply Keeps.lit <;> with_reducible first | rfl | assumption | exact fun _ h => h | exact fun _ _ => rfl | exact fun _ => rfl | exact fun h => h.elim)

theorem State.targetFailed_keeps (hC : Settles noFld) {s : State} {r : Rod} (hk : Keeps noFld False H u₀ s) :
    Keeps noFld False H u₀ (s.targetFailed r) := by
  unfold State.targetFailed
  repeat' first
    | with_reducible assumption
    | (extract_lets +onlyGivenNames x; first | (refine (have hx : Keeps noFld False H u₀ x := ?_; ?_); subst x; rotate_left; clear_value x) | subst x)
    | with_reducible exact noFld_apart _
    | with_reducible exact noFld_ne _
    | with_reducible apply State.raise_keeps hC
    | with_reducible apply State.setImg_keeps hC
    | with_reducible apply Keeps.wr
    | with_reducible apply Keeps.setReg
    | with_reducible apply Keeps.foldl
    | split
    | intro _
    | (with_reducible apply Keeps.lit <;> with_reducible first | rfl | assumption | exact fun _ h => h | exact fun _ _ => rfl | exact fun _ => rfl | exact fun h => h.elim)

theorem execPartialApplyTimeout_keeps (hC : Settles noFld) {s : State} (hk : Keeps noFld False H u₀ s) :
    KeepsOut noFld False H u₀ (execPartialApplyTimeout s) := by
  unfold execPartialApplyTimeout
  repeat' first
    | with_reducible assumption
    | (extract_lets +onlyGivenNames x; first | (refine (have hx : Keeps noFld False H u₀ x := ?_; ?_); subst x; rotate_left; clear_value x) | subst x)
    | with_reducible exact noFld_apart _
    | with_reducible exact noFld_ne _
    | with_reducible apply State.settle_keeps hC
    | with_reducible apply State.targetFailed_keeps hC
    | with_reducible apply Keeps.wr
    | with_reducible apply Keeps.setReg
    | with_reducible apply KeepsOut.next
    | with_reducible apply Keeps.foldl
    | split
    | intro _
    | (with_reducible apply Keeps.lit <;> with_reducible first | rfl | assumption | exact fun _ h => h | exact fun _ _ => rfl | exact fun _ => rfl | exact fun h => h.elim)

theorem Keeps.setOtp {s : State} {o : Otp} (h : s.otp.grown o) (hk : Keeps noFld False H u₀ s) :
    Keeps noFld False H u₀ { s with otp := o } :=
  hk.trans ⟨fun _ h => h.elim, rfl, rfl, rfl, h, fun _ e => e, fun h => h.elim, fun h => h.elim, fun h => h⟩

theorem execImageConfirm_keeps (hC : Settles noFld) {tag : Fin 64} {s : State} (hk : Keeps noFld False H u₀ s) :
    KeepsOut noFld False H u₀ (execImageConfirm tag s) := by
  unfold execImageConfirm
  repeat' first
    | with_reducible assumption
    | (extract_lets +onlyGivenNames x; first | (refine (have hx : Keeps noFld False H u₀ x := ?_; ?_); subst x; rotate_left; clear_value x) | subst x)
    | with_reducible exact noFld_apart _
    | with_reducible exact noFld_ne _
    | with_reducible apply State.complete_keeps hC
    | with_reducible apply State.settle_keeps hC
    | exact Keeps.setOtp ⟨rfl, rfl, rfl, rfl, Nat.le_max_left _ _, fun _ h => h⟩ hk
    | with_reducible apply Keeps.wr
    | with_reducible apply Keeps.setReg
    | with_reducible apply KeepsOut.next
    | with_reducible apply Keeps.foldl
    | split
    | intro _
    | (with_reducible apply Keeps.lit <;> with_reducible first | rfl | assumption | exact fun _ h => h | exact fun _ _ => rfl | exact fun _ => rfl | exact fun h => h.elim)

theorem execFreezeCommit_keeps (hC : Settles noFld) {tag : Fin 64} {s : State} (hk : Keeps noFld False H u₀ s) :
    KeepsOut noFld False H u₀ (execFreezeCommit tag s) := by
  unfold execFreezeCommit
  split
  · exact KeepsOut.next hk
  · dsimp only
    split
    · split
      · next h =>
        have hn : s.otp.frozen = none := by
          simp only [Bool.and_eq_true, Option.isNone_iff_eq_none] at h
          exact h.2
        refine KeepsOut.next (State.settle_keeps hC (State.complete_keeps hC ?_))
        exact Keeps.setOtp ⟨rfl, rfl, rfl, rfl, Nat.le_refl _, fun x e => by rw [hn] at e; cases e⟩ hk
      · exact KeepsOut.next (State.settle_keeps hC (State.endOpen_keeps hC hk))
    · exact KeepsOut.next hk

theorem execEncStreamOpen_keeps (hC : Settles noFld) {tag : Fin 64} {s : State} (hk : Keeps noFld False H u₀ s) :
    KeepsOut noFld False H u₀ (execEncStreamOpen tag s) := by
  unfold execEncStreamOpen
  repeat' first
    | with_reducible assumption
    | (extract_lets +onlyGivenNames x; first | (refine (have hx : Keeps noFld False H u₀ x := ?_; ?_); subst x; rotate_left; clear_value x) | subst x)
    | with_reducible exact noFld_apart _
    | with_reducible exact noFld_ne _
    | with_reducible apply State.complete_keeps hC
    | with_reducible apply State.encRate_keeps hC
    | with_reducible apply State.endOpen_keeps hC
    | with_reducible apply State.setEnc_keeps hC
    | with_reducible apply State.settle_keeps hC
    | with_reducible apply State.showBucket_keeps hC
    | with_reducible apply Keeps.wr
    | with_reducible apply Keeps.setReg
    | with_reducible apply KeepsOut.next
    | with_reducible apply Keeps.foldl
    | split
    | intro _
    | (with_reducible apply Keeps.lit <;> with_reducible first | rfl | assumption | exact fun _ h => h | exact fun _ _ => rfl | exact fun _ => rfl | exact fun h => h.elim)

theorem execEncStreamClose_keeps (hC : Settles noFld) {tag : Fin 64} {s : State} (hk : Keeps noFld False H u₀ s) :
    KeepsOut noFld False H u₀ (execEncStreamClose tag s) := by
  unfold execEncStreamClose
  repeat' first
    | with_reducible assumption
    | (extract_lets +onlyGivenNames x; first | (refine (have hx : Keeps noFld False H u₀ x := ?_; ?_); subst x; rotate_left; clear_value x) | subst x)
    | with_reducible exact noFld_apart _
    | with_reducible exact noFld_ne _
    | with_reducible apply State.endOpen_keeps hC
    | with_reducible apply State.setEnc_keeps hC
    | with_reducible apply State.settle_keeps hC
    | with_reducible apply State.start_keeps hC
    | with_reducible apply Keeps.wr
    | with_reducible apply Keeps.setReg
    | with_reducible apply KeepsOut.next
    | with_reducible apply Keeps.foldl
    | split
    | intro _
    | (with_reducible apply Keeps.lit <;> with_reducible first | rfl | assumption | exact fun _ h => h | exact fun _ _ => rfl | exact fun _ => rfl | exact fun h => h.elim)

theorem State.stopEnc_keeps (hC : Settles noFld) {s : State} (hk : Keeps noFld False H u₀ s) :
    Keeps noFld False H u₀ (s.stopEnc) := by
  unfold State.stopEnc
  repeat' first
    | with_reducible assumption
    | (extract_lets +onlyGivenNames x; first | (refine (have hx : Keeps noFld False H u₀ x := ?_; ?_); subst x; rotate_left; clear_value x) | subst x)
    | with_reducible exact noFld_apart _
    | with_reducible exact noFld_ne _
    | with_reducible apply State.encClosed_keeps hC
    | with_reducible apply State.endOpen_keeps hC
    | with_reducible apply Keeps.wr
    | with_reducible apply Keeps.setReg
    | with_reducible apply Keeps.foldl
    | split
    | intro _
    | (with_reducible apply Keeps.lit <;> with_reducible first | rfl | assumption | exact fun _ h => h | exact fun _ _ => rfl | exact fun _ => rfl | exact fun h => h.elim)

theorem execSliceBuf_keeps (hC : Settles noFld) {tag : Fin 64} {s : State} (hk : Keeps noFld False H u₀ s) :
    KeepsOut noFld False H u₀ (execSliceBuf tag s) := by
  unfold execSliceBuf
  repeat' first
    | with_reducible assumption
    | (extract_lets +onlyGivenNames x; first | (refine (have hx : Keeps noFld False H u₀ x := ?_; ?_); subst x; rotate_left; clear_value x) | subst x)
    | with_reducible exact noFld_apart _
    | with_reducible exact noFld_ne _
    | with_reducible apply State.refuseWrite_keeps hC
    | with_reducible apply State.setLent_keeps hC
    | with_reducible apply State.settle_keeps hC
    | with_reducible apply State.start_keeps hC
    | with_reducible apply State.stopEnc_keeps hC
    | with_reducible apply Keeps.wr
    | with_reducible apply Keeps.setReg
    | with_reducible apply KeepsOut.next
    | with_reducible apply Keeps.foldl
    | split
    | intro _
    | (with_reducible apply Keeps.lit <;> with_reducible first | rfl | assumption | exact fun _ h => h | exact fun _ _ => rfl | exact fun _ => rfl | exact fun h => h.elim)

theorem execRefresh_keeps (hC : Settles noFld) {tag : Fin 64} {s : State} (hk : Keeps noFld False H u₀ s) :
    KeepsOut noFld False H u₀ (execRefresh tag s) := by
  unfold execRefresh
  repeat' first
    | with_reducible assumption
    | (extract_lets +onlyGivenNames x; first | (refine (have hx : Keeps noFld False H u₀ x := ?_; ?_); subst x; rotate_left; clear_value x) | subst x)
    | with_reducible exact noFld_apart _
    | with_reducible exact noFld_ne _
    | with_reducible apply State.endOpen_keeps hC
    | with_reducible apply State.setEnc_keeps hC
    | with_reducible apply State.settle_keeps hC
    | with_reducible apply State.start_keeps hC
    | with_reducible apply Keeps.wr
    | with_reducible apply Keeps.setReg
    | with_reducible apply KeepsOut.next
    | with_reducible apply Keeps.foldl
    | split
    | intro _
    | (with_reducible apply Keeps.lit <;> with_reducible first | rfl | assumption | exact fun _ h => h | exact fun _ _ => rfl | exact fun _ => rfl | exact fun h => h.elim)

theorem State.readMbs_keeps (hC : Settles noFld) {s : State} {f : EncFrame} {first : Nat} {n : Nat} (hk : Keeps noFld False H u₀ s) :
    Keeps noFld False H u₀ (s.readMbs f first n) := by
  unfold State.readMbs
  repeat' first
    | with_reducible assumption
    | (extract_lets +onlyGivenNames x; first | (refine (have hx : Keeps noFld False H u₀ x := ?_; ?_); subst x; rotate_left; clear_value x) | subst x)
    | with_reducible exact noFld_apart _
    | with_reducible exact noFld_ne _
    | with_reducible apply State.checkWord_keeps hC
    | with_reducible apply Keeps.wr
    | with_reducible apply Keeps.setReg
    | with_reducible apply Keeps.foldl
    | split
    | intro _
    | (with_reducible apply Keeps.lit <;> with_reducible first | rfl | assumption | exact fun _ h => h | exact fun _ _ => rfl | exact fun _ => rfl | exact fun h => h.elim)

theorem State.encFrameDone_keeps (hC : Settles noFld) {s : State} (hk : Keeps noFld False H u₀ s) :
    Keeps noFld False H u₀ (s.encFrameDone) := by
  unfold State.encFrameDone
  repeat' first
    | with_reducible assumption
    | (extract_lets +onlyGivenNames x; first | (refine (have hx : Keeps noFld False H u₀ x := ?_; ?_); subst x; rotate_left; clear_value x) | subst x)
    | with_reducible exact noFld_apart _
    | with_reducible exact noFld_ne _
    | with_reducible apply State.bump_keeps hC
    | with_reducible apply State.evt_keeps hC
    | with_reducible apply State.lost_keeps hC
    | with_reducible refine State.openBytes_of hC (by with_reducible assumption) ?_
    | with_reducible apply State.openBytes_keeps hC
    | with_reducible refine State.readMem_of hC (by with_reducible assumption) ?_
    | with_reducible apply State.readMem_keeps hC
    | with_reducible apply State.setEnc_keeps hC
    | with_reducible apply State.showBucket_keeps hC
    | with_reducible refine State.store_of hC (by with_reducible assumption) ?_
    | with_reducible apply State.store_keeps hC
    | with_reducible apply Keeps.wr
    | with_reducible apply State.writeMem_keeps hC (fun h => h.elim)
    | with_reducible apply Keeps.setReg
    | with_reducible apply Keeps.foldl
    | split
    | intro _
    | (with_reducible apply Keeps.lit <;> with_reducible first | rfl | assumption | exact fun _ h => h | exact fun _ _ => rfl | exact fun _ => rfl | exact fun h => h.elim)

theorem execSliceDone_keeps (hC : Settles noFld) {r : Slice} {s : State} (hk : Keeps noFld False H u₀ s) :
    KeepsOut noFld False H u₀ (execSliceDone r s) := by
  unfold execSliceDone
  repeat' first
    | with_reducible assumption
    | (extract_lets +onlyGivenNames x; first | (refine (have hx : Keeps noFld False H u₀ x := ?_; ?_); subst x; rotate_left; clear_value x) | subst x)
    | with_reducible exact noFld_apart _
    | with_reducible exact noFld_ne _
    | with_reducible apply State.bump_keeps hC
    | with_reducible apply State.complete_keeps hC
    | with_reducible apply State.encFrameDone_keeps hC
    | with_reducible apply State.readMbs_keeps hC
    | with_reducible apply State.setEnc_keeps hC
    | with_reducible apply State.setLent_keeps hC
    | with_reducible apply State.settle_keeps hC
    | with_reducible apply State.sliceDue_keeps hC
    | with_reducible apply State.writeMem_keeps hC (fun h => h.elim)
    | with_reducible apply Keeps.wr
    | with_reducible apply Keeps.setReg
    | with_reducible apply KeepsOut.next
    | with_reducible apply Keeps.foldl
    | split
    | intro _
    | (with_reducible apply Keeps.lit <;> with_reducible first | rfl | assumption | exact fun _ h => h | exact fun _ _ => rfl | exact fun _ => rfl | exact fun h => h.elim)

theorem State.writeRate_keeps (hC : Settles noFld) {s : State} {w : Word} (hk : Keeps noFld False H u₀ s) :
    Keeps noFld False H u₀ (s.writeRate w) := by
  unfold State.writeRate
  repeat' first
    | with_reducible assumption
    | (extract_lets +onlyGivenNames x; first | (refine (have hx : Keeps noFld False H u₀ x := ?_; ?_); subst x; rotate_left; clear_value x) | subst x)
    | with_reducible exact noFld_apart _
    | with_reducible exact noFld_ne _
    | with_reducible apply Keeps.wr
    | with_reducible apply Keeps.setReg
    | with_reducible apply Keeps.foldl
    | split
    | intro _
    | (with_reducible apply Keeps.lit <;> with_reducible first | rfl | assumption | exact fun _ h => h | exact fun _ _ => rfl | exact fun _ => rfl | exact fun h => h.elim)

theorem execRateWrite_keeps (hC : Settles noFld) {w : BitVec 32} {s : State} (hk : Keeps noFld False H u₀ s) :
    KeepsOut noFld False H u₀ (execRateWrite w s) := by
  unfold execRateWrite
  repeat' first
    | with_reducible assumption
    | (extract_lets +onlyGivenNames x; first | (refine (have hx : Keeps noFld False H u₀ x := ?_; ?_); subst x; rotate_left; clear_value x) | subst x)
    | with_reducible exact noFld_apart _
    | with_reducible exact noFld_ne _
    | with_reducible refine State.hostReg_keeps hC ?_ ?_
    | with_reducible apply State.writeRate_keeps hC
    | with_reducible apply Keeps.wr
    | with_reducible apply Keeps.setReg
    | with_reducible apply KeepsOut.next
    | with_reducible apply Keeps.foldl
    | split
    | intro _
    | (with_reducible apply Keeps.lit <;> with_reducible first | rfl | assumption | exact fun _ h => h | exact fun _ _ => rfl | exact fun _ => rfl | exact fun h => h.elim)

theorem State.tagStall_keeps (hC : Settles noFld) {s : State} (hk : Keeps noFld False H u₀ s) :
    Keeps noFld False H u₀ (s.tagStall) := by
  unfold State.tagStall
  repeat' first
    | with_reducible assumption
    | (extract_lets +onlyGivenNames x; first | (refine (have hx : Keeps noFld False H u₀ x := ?_; ?_); subst x; rotate_left; clear_value x) | subst x)
    | with_reducible exact noFld_apart _
    | with_reducible exact noFld_ne _
    | with_reducible apply State.bump_keeps hC
    | with_reducible apply State.modQueue_keeps hC
    | with_reducible apply Keeps.wr
    | with_reducible apply Keeps.setReg
    | with_reducible apply Keeps.foldl
    | split
    | intro _
    | (with_reducible apply Keeps.lit <;> with_reducible first | rfl | assumption | exact fun _ h => h | exact fun _ _ => rfl | exact fun _ => rfl | exact fun h => h.elim)

theorem State.accept_keeps (hC : Settles noFld) {s : State} {e : Entry} (hk : Keeps noFld False H u₀ s) :
    Keeps noFld False H u₀ (s.accept e) := by
  unfold State.accept
  repeat' first
    | with_reducible assumption
    | (extract_lets +onlyGivenNames x; first | (refine (have hx : Keeps noFld False H u₀ x := ?_; ?_); subst x; rotate_left; clear_value x) | subst x)
    | with_reducible exact noFld_apart _
    | with_reducible exact noFld_ne _
    | with_reducible apply State.abandonRecheck_keeps hC
    | with_reducible apply State.endOpen_keeps hC
    | with_reducible apply State.rasterErr_keeps hC
    | with_reducible apply Keeps.wr
    | with_reducible apply Keeps.setReg
    | with_reducible apply Keeps.foldl
    | split
    | intro _
    | (with_reducible apply Keeps.lit <;> with_reducible first | rfl | assumption | exact fun _ h => h | exact fun _ _ => rfl | exact fun _ => rfl | exact fun h => h.elim)

theorem execEntryFetch_keeps (hC : Settles noFld) {s : State} (hk : Keeps noFld False H u₀ s) :
    KeepsOut noFld False H u₀ (execEntryFetch s) := by
  unfold execEntryFetch
  repeat' first
    | with_reducible assumption
    | (extract_lets +onlyGivenNames x; first | (refine (have hx : Keeps noFld False H u₀ x := ?_; ?_); subst x; rotate_left; clear_value x) | subst x)
    | with_reducible exact noFld_apart _
    | with_reducible exact noFld_ne _
    | with_reducible apply State.accept_keeps hC
    | with_reducible apply State.modQueue_keeps hC
    | with_reducible apply State.post_keeps hC
    | with_reducible refine State.readMem_of hC (by with_reducible assumption) ?_
    | with_reducible apply State.readMem_keeps hC
    | with_reducible apply State.settle_keeps hC
    | with_reducible apply State.tagStall_keeps hC
    | with_reducible apply Keeps.wr
    | with_reducible apply Keeps.setReg
    | with_reducible apply KeepsOut.next
    | with_reducible apply Keeps.foldl
    | split
    | intro _
    | (with_reducible apply Keeps.lit <;> with_reducible first | rfl | assumption | exact fun _ h => h | exact fun _ _ => rfl | exact fun _ => rfl | exact fun h => h.elim)

theorem execReadyWaitExpiry_keeps (hC : Settles noFld) {tag : Fin 64} {s : State} (hk : Keeps noFld False H u₀ s) :
    KeepsOut noFld False H u₀ (execReadyWaitExpiry tag s) := by
  unfold execReadyWaitExpiry
  repeat' first
    | with_reducible assumption
    | (extract_lets +onlyGivenNames x; first | (refine (have hx : Keeps noFld False H u₀ x := ?_; ?_); subst x; rotate_left; clear_value x) | subst x)
    | with_reducible exact noFld_apart _
    | with_reducible exact noFld_ne _
    | with_reducible apply State.settle_keeps hC
    | with_reducible apply State.waitOver_keeps hC
    | with_reducible apply Keeps.wr
    | with_reducible apply Keeps.setReg
    | with_reducible apply KeepsOut.next
    | with_reducible apply Keeps.foldl
    | split
    | intro _
    | (with_reducible apply Keeps.lit <;> with_reducible first | rfl | assumption | exact fun _ h => h | exact fun _ _ => rfl | exact fun _ => rfl | exact fun h => h.elim)

theorem State.dryAborted_keeps (hC : Settles noFld) {s : State} (hk : Keeps noFld False H u₀ s) :
    Keeps noFld False H u₀ (s.dryAborted) := by
  unfold State.dryAborted
  repeat' first
    | with_reducible assumption
    | (extract_lets +onlyGivenNames x; first | (refine (have hx : Keeps noFld False H u₀ x := ?_; ?_); subst x; rotate_left; clear_value x) | subst x)
    | with_reducible exact noFld_apart _
    | with_reducible exact noFld_ne _
    | with_reducible apply State.dryEnd_keeps hC
    | with_reducible apply Keeps.wr
    | with_reducible apply Keeps.setReg
    | with_reducible apply Keeps.foldl
    | split
    | intro _
    | (with_reducible apply Keeps.lit <;> with_reducible first | rfl | assumption | exact fun _ h => h | exact fun _ _ => rfl | exact fun _ => rfl | exact fun h => h.elim)

theorem State.abortReceipt_keeps (hC : Settles noFld) {s : State} {t : Nat} (hk : Keeps noFld False H u₀ s) :
    Keeps noFld False H u₀ (s.abortReceipt t) := by
  unfold State.abortReceipt
  repeat' first
    | with_reducible assumption
    | (extract_lets +onlyGivenNames x; first | (refine (have hx : Keeps noFld False H u₀ x := ?_; ?_); subst x; rotate_left; clear_value x) | subst x)
    | with_reducible exact noFld_apart _
    | with_reducible exact noFld_ne _
    | with_reducible apply State.cutAbort_keeps hC
    | with_reducible apply State.endCheck_keeps hC
    | with_reducible apply State.endReceipt_keeps hC
    | with_reducible apply State.feedStop_keeps hC
    | with_reducible apply State.modJob_keeps hC
    | with_reducible apply State.tear_keeps hC
    | with_reducible apply Keeps.wr
    | with_reducible apply Keeps.setReg
    | with_reducible apply Keeps.foldl
    | split
    | intro _
    | (with_reducible apply Keeps.lit <;> with_reducible first | rfl | assumption | exact fun _ h => h | exact fun _ _ => rfl | exact fun _ => rfl | exact fun h => h.elim)

theorem State.abortMech_keeps (hC : Settles noFld) {s : State} {c : Cmd} (hk : Keeps noFld False H u₀ s) :
    Keeps noFld False H u₀ (s.abortMech c) := by
  unfold State.abortMech
  repeat' first
    | with_reducible assumption
    | (extract_lets +onlyGivenNames x; first | (refine (have hx : Keeps noFld False H u₀ x := ?_; ?_); subst x; rotate_left; clear_value x) | subst x)
    | with_reducible exact noFld_apart _
    | with_reducible exact noFld_ne _
    | with_reducible apply State.abortReceipt_keeps hC
    | with_reducible apply State.cutAbort_keeps hC
    | with_reducible apply State.dryEnd_keeps hC
    | with_reducible apply State.endOpen_keeps hC
    | with_reducible apply State.feedStop_keeps hC
    | with_reducible apply State.printIdle_keeps hC
    | with_reducible apply State.setFeed_keeps hC
    | with_reducible apply State.setPrint_keeps hC
    | with_reducible apply Keeps.wr
    | with_reducible apply Keeps.setReg
    | with_reducible apply Keeps.foldl
    | split
    | intro _
    | (with_reducible apply Keeps.lit <;> with_reducible first | rfl | assumption | exact fun _ h => h | exact fun _ _ => rfl | exact fun _ => rfl | exact fun h => h.elim)

theorem State.abortSlot_keeps (hC : Settles noFld) {s : State} {t : Nat} (hk : Keeps noFld False H u₀ s) :
    Keeps noFld False H u₀ (s.abortSlot t) := by
  unfold State.abortSlot
  repeat' first
    | with_reducible assumption
    | (extract_lets +onlyGivenNames x; first | (refine (have hx : Keeps noFld False H u₀ x := ?_; ?_); subst x; rotate_left; clear_value x) | subst x)
    | with_reducible exact noFld_apart _
    | with_reducible exact noFld_ne _
    | with_reducible apply State.slotEnd_keeps hC
    | with_reducible apply Keeps.wr
    | with_reducible apply Keeps.setReg
    | with_reducible apply Keeps.foldl
    | split
    | intro _
    | (with_reducible apply Keeps.lit <;> with_reducible first | rfl | assumption | exact fun _ h => h | exact fun _ _ => rfl | exact fun _ => rfl | exact fun h => h.elim)

theorem State.abortVideo_keeps (hC : Settles noFld) {s : State} {c : Cmd} (hk : Keeps noFld False H u₀ s) :
    Keeps noFld False H u₀ (s.abortVideo c) := by
  unfold State.abortVideo
  repeat' first
    | with_reducible assumption
    | (extract_lets +onlyGivenNames x; first | (refine (have hx : Keeps noFld False H u₀ x := ?_; ?_); subst x; rotate_left; clear_value x) | subst x)
    | with_reducible exact noFld_apart _
    | with_reducible exact noFld_ne _
    | with_reducible apply State.complete_keeps hC
    | with_reducible apply State.endOpen_keeps hC
    | with_reducible apply Keeps.openWord
    | with_reducible apply State.scanEnd_keeps hC
    | with_reducible apply State.sessionClose_keeps hC
    | with_reducible apply State.setDec_keeps hC
    | with_reducible apply State.setEnc_keeps hC
    | with_reducible apply State.setLent_keeps hC
    | with_reducible apply State.setVid_keeps hC
    | with_reducible apply State.sliceDue_keeps hC
    | with_reducible apply Keeps.wr
    | with_reducible apply Keeps.setReg
    | with_reducible apply Keeps.foldl
    | split
    | intro _
    | (with_reducible apply Keeps.lit <;> with_reducible first | rfl | assumption | exact fun _ h => h | exact fun _ _ => rfl | exact fun _ => rfl | exact fun h => h.elim)

theorem State.cancel_keeps (hC : Settles noFld) {s : State} {c : Cmd} (hk : Keeps noFld False H u₀ s) :
    Keeps noFld False H u₀ (s.cancel c) := by
  unfold State.cancel
  repeat' first
    | with_reducible assumption
    | (extract_lets +onlyGivenNames x; first | (refine (have hx : Keeps noFld False H u₀ x := ?_; ?_); subst x; rotate_left; clear_value x) | subst x)
    | with_reducible exact noFld_apart _
    | with_reducible exact noFld_ne _
    | with_reducible apply State.abortMech_keeps hC
    | with_reducible apply State.abortMove_keeps hC
    | with_reducible apply State.abortSlot_keeps hC
    | with_reducible apply State.abortVideo_keeps hC
    | with_reducible apply State.dryAborted_keeps hC
    | with_reducible apply State.endOpen_keeps hC
    | with_reducible apply Keeps.wr
    | with_reducible apply Keeps.setReg
    | with_reducible apply Keeps.foldl
    | split
    | intro _
    | (with_reducible apply Keeps.lit <;> with_reducible first | rfl | assumption | exact fun _ h => h | exact fun _ _ => rfl | exact fun _ => rfl | exact fun h => h.elim)

theorem execAbort_keeps (hC : Settles noFld) {tag : Fin 64} {s : State} (hk : Keeps noFld False H u₀ s) :
    KeepsOut noFld False H u₀ (execAbort tag s) := by
  unfold execAbort
  repeat' first
    | with_reducible assumption
    | (extract_lets +onlyGivenNames x; first | (refine (have hx : Keeps noFld False H u₀ x := ?_; ?_); subst x; rotate_left; clear_value x) | subst x)
    | with_reducible exact noFld_apart _
    | with_reducible exact noFld_ne _
    | with_reducible apply State.cancel_keeps hC
    | with_reducible apply State.endOpen_keeps hC
    | with_reducible apply State.modCmd_keeps hC
    | with_reducible apply State.settle_keeps hC
    | with_reducible apply Keeps.wr
    | with_reducible apply Keeps.setReg
    | with_reducible apply KeepsOut.next
    | with_reducible apply Keeps.foldl
    | split
    | intro _
    | (with_reducible apply Keeps.lit <;> with_reducible first | rfl | assumption | exact fun _ h => h | exact fun _ _ => rfl | exact fun _ => rfl | exact fun h => h.elim)

theorem State.leaveHeld_keeps (hC : Settles noFld) {s : State} (hk : Keeps noFld False False u₀ s) :
    Keeps noFld False False u₀ (s.leaveHeld) := by
  unfold State.leaveHeld
  repeat' first
    | with_reducible assumption
    | (extract_lets +onlyGivenNames x; first | (refine (have hx : Keeps noFld False False u₀ x := ?_; ?_); subst x; rotate_left; clear_value x) | subst x)
    | with_reducible exact noFld_apart _
    | with_reducible exact noFld_ne _
    | with_reducible apply State.clearFaults_keeps hC
    | with_reducible apply State.hbRestart_keeps hC
    | with_reducible apply State.idleRestart_keeps hC
    | with_reducible apply State.setCut_keeps hC
    | with_reducible apply State.settle_keeps hC
    | with_reducible apply State.untested_keeps hC
    | with_reducible apply Keeps.wr
    | with_reducible apply Keeps.setReg
    | with_reducible apply Keeps.foldl
    | split
    | intro _
    | (with_reducible apply Keeps.lit <;> with_reducible first | rfl | assumption | exact fun _ h => h | exact fun _ _ => rfl | exact fun _ => rfl | exact fun h => h.elim)

theorem execReleaseHeld_keeps (hC : Settles noFld) {tag : Fin 64} {vm : BitVec 16} {strobes : BitVec 8} {s : State} (hk : Keeps noFld False False u₀ s) :
    KeepsOut noFld False False u₀ (execReleaseHeld tag vm strobes s) := by
  unfold execReleaseHeld
  repeat' first
    | with_reducible assumption
    | (extract_lets +onlyGivenNames x; first | (refine (have hx : Keeps noFld False False u₀ x := ?_; ?_); subst x; rotate_left; clear_value x) | subst x)
    | with_reducible exact noFld_apart _
    | with_reducible exact noFld_ne _
    | with_reducible apply State.complete_keeps hC
    | with_reducible apply State.leaveHeld_keeps hC
    | with_reducible apply State.settle_keeps hC
    | with_reducible apply Keeps.wr
    | with_reducible apply Keeps.setReg
    | with_reducible apply KeepsOut.next
    | with_reducible apply Keeps.foldl
    | split
    | intro _
    | (with_reducible apply Keeps.lit <;> with_reducible first | rfl | assumption | exact fun _ h => h | exact fun _ _ => rfl | exact fun _ => rfl | exact fun h => h.elim)

theorem State.abortAll_keeps (hC : Settles noFld) {s : State} {ts : List Nat} (hk : Keeps noFld False H u₀ s) :
    Keeps noFld False H u₀ (s.abortAll ts) := by
  unfold State.abortAll
  repeat' first
    | with_reducible assumption
    | (extract_lets +onlyGivenNames x; first | (refine (have hx : Keeps noFld False H u₀ x := ?_; ?_); subst x; rotate_left; clear_value x) | subst x)
    | with_reducible exact noFld_apart _
    | with_reducible exact noFld_ne _
    | with_reducible apply State.endAll_keeps hC
    | with_reducible apply Keeps.wr
    | with_reducible apply Keeps.setReg
    | with_reducible apply Keeps.foldl
    | split
    | intro _
    | (with_reducible apply Keeps.lit <;> with_reducible first | rfl | assumption | exact fun _ h => h | exact fun _ _ => rfl | exact fun _ => rfl | exact fun h => h.elim)

theorem State.stopPrint_keeps (hC : Settles noFld) {s : State} (hk : Keeps noFld False H u₀ s) :
    Keeps noFld False H u₀ (s.stopPrint) := by
  unfold State.stopPrint
  repeat' first
    | with_reducible assumption
    | (extract_lets +onlyGivenNames x; first | (refine (have hx : Keeps noFld False H u₀ x := ?_; ?_); subst x; rotate_left; clear_value x) | subst x)
    | with_reducible exact noFld_apart _
    | with_reducible exact noFld_ne _
    | with_reducible apply State.abandonRecheck_keeps hC
    | with_reducible apply State.dryEnd_keeps hC
    | with_reducible apply State.endOpen_keeps hC
    | with_reducible apply State.printIdle_keeps hC
    | with_reducible apply State.setPrint_keeps hC
    | with_reducible apply State.tear_keeps hC
    | with_reducible apply Keeps.wr
    | with_reducible apply Keeps.setReg
    | with_reducible apply Keeps.foldl
    | split
    | intro _
    | (with_reducible apply Keeps.lit <;> with_reducible first | rfl | assumption | exact fun _ h => h | exact fun _ _ => rfl | exact fun _ => rfl | exact fun h => h.elim)

theorem State.stopFeed_keeps (hC : Settles noFld) {s : State} (hk : Keeps noFld False H u₀ s) :
    Keeps noFld False H u₀ (s.stopFeed) := by
  unfold State.stopFeed
  repeat' first
    | with_reducible assumption
    | (extract_lets +onlyGivenNames x; first | (refine (have hx : Keeps noFld False H u₀ x := ?_; ?_); subst x; rotate_left; clear_value x) | subst x)
    | with_reducible exact noFld_apart _
    | with_reducible exact noFld_ne _
    | with_reducible apply State.feedStop_keeps hC
    | with_reducible apply State.setFeed_keeps hC
    | with_reducible apply State.setPrint_keeps hC
    | with_reducible apply State.tear_keeps hC
    | with_reducible apply Keeps.wr
    | with_reducible apply Keeps.setReg
    | with_reducible apply Keeps.foldl
    | split
    | intro _
    | (with_reducible apply Keeps.lit <;> with_reducible first | rfl | assumption | exact fun _ h => h | exact fun _ _ => rfl | exact fun _ => rfl | exact fun h => h.elim)

theorem State.stopVidin_keeps (hC : Settles noFld) {s : State} (hk : Keeps noFld False H u₀ s) :
    Keeps noFld False H u₀ (s.stopVidin) := by
  unfold State.stopVidin
  repeat' first
    | with_reducible assumption
    | (extract_lets +onlyGivenNames x; first | (refine (have hx : Keeps noFld False H u₀ x := ?_; ?_); subst x; rotate_left; clear_value x) | subst x)
    | with_reducible exact noFld_apart _
    | with_reducible exact noFld_ne _
    | with_reducible apply State.abortAll_keeps hC
    | with_reducible apply State.sessionClose_keeps hC
    | with_reducible apply Keeps.setReg
    | with_reducible apply State.setVid_keeps hC
    | with_reducible apply Keeps.wr
    | with_reducible apply Keeps.foldl
    | split
    | intro _
    | (with_reducible apply Keeps.lit <;> with_reducible first | rfl | assumption | exact fun _ h => h | exact fun _ _ => rfl | exact fun _ => rfl | exact fun h => h.elim)

theorem State.rodStops_keeps (hC : Settles noFld) {s : State} {r : Rod} (hk : Keeps noFld False H u₀ s) :
    Keeps noFld False H u₀ (s.rodStops r) := by
  unfold State.rodStops
  repeat' first
    | with_reducible assumption
    | (extract_lets +onlyGivenNames x; first | (refine (have hx : Keeps noFld False H u₀ x := ?_; ?_); subst x; rotate_left; clear_value x) | subst x)
    | with_reducible exact noFld_apart _
    | with_reducible exact noFld_ne _
    | with_reducible apply State.cutAbort_keeps hC
    | with_reducible apply State.flashBusy_keeps hC
    | with_reducible apply State.lost_keeps hC
    | with_reducible apply State.scanEnd_keeps hC
    | with_reducible apply State.setCut_keeps hC
    | with_reducible apply State.setFl_keeps hC
    | (with_reducible refine State.setLed_keeps ?_ ?_ ?_; (· rfl); (· rfl))
    | with_reducible apply State.slotEnd_keeps hC
    | with_reducible apply State.stopDec_keeps hC
    | with_reducible apply State.stopEnc_keeps hC
    | with_reducible apply State.stopFeed_keeps hC
    | with_reducible apply State.stopMover_keeps hC
    | with_reducible apply State.stopPrint_keeps hC
    | with_reducible apply State.stopRaster_keeps hC
    | with_reducible apply State.stopVidin_keeps hC
    | with_reducible apply Keeps.wr
    | with_reducible apply Keeps.setReg
    | with_reducible apply Keeps.foldl
    | split
    | intro _
    | (with_reducible apply Keeps.lit <;> with_reducible first | rfl | assumption | exact fun _ h => h | exact fun _ _ => rfl | exact fun _ => rfl | exact fun h => h.elim)

theorem State.blockReset_wf (r : Store Word) (lo : Nat) (h : Store.wf 0 r = true) (v : Store Word)
    (hv : Store.wf 0 v = true) :
    Store.wf 0 ((r.filter fun c => c.1 < lo) ++ (v.filter fun c => lo ≤ c.1 && c.1 < lo + 0x10000) ++
      r.filter fun c => lo + 0x10000 ≤ c.1) = true := by
  have app : ∀ (m n : Store Word) (a b : Nat), Store.wfFrom 0 a m = true → Store.wfFrom 0 b n = true → a ≤ b →
      (∀ c ∈ m, c.1 < b) → Store.wfFrom 0 a (m ++ n) = true := by
    intro m
    induction m with
    | nil => exact fun n a b _ hn hab _ => Store.wfFrom_mono 0 n hab hn
    | cons c m ih =>
      intro n a b hm hn hab hc
      simp only [Store.wfFrom, Bool.and_eq_true, decide_eq_true_eq, List.cons_append] at hm ⊢
      have := hc c (List.mem_cons_self ..)
      exact ⟨hm.1, ih n _ b hm.2 hn (by omega) fun x hx => hc x (List.mem_cons_of_mem _ hx)⟩
  have up : ∀ (m : Store Word) (a b : Nat), Store.wfFrom 0 a m = true → (∀ c ∈ m, b ≤ c.1) → Store.wfFrom 0 b m = true := by
    intro m
    cases m with
    | nil => exact fun _ _ _ _ => rfl
    | cons c m =>
      intro a b hm hc
      simp only [Store.wfFrom, Bool.and_eq_true, decide_eq_true_eq] at hm ⊢
      exact ⟨⟨hc c (List.mem_cons_self ..), hm.1.2⟩, hm.2⟩
  have h1 : Store.wfFrom 0 0 (r.filter fun c => c.1 < lo) = true := Store.wfFrom_filter _ _ _ _ h
  have h2 : Store.wfFrom 0 lo (v.filter fun c => lo ≤ c.1 && c.1 < lo + 0x10000) = true :=
    up _ _ _ (Store.wfFrom_filter _ _ _ _ hv) fun c hc => by
      have := (List.mem_filter.mp hc).2
      simp only [Bool.and_eq_true, decide_eq_true_eq] at this
      exact this.1
  have h3 : Store.wfFrom 0 (lo + 0x10000) (r.filter fun c => lo + 0x10000 ≤ c.1) = true :=
    up _ _ _ (Store.wfFrom_filter _ _ _ _ h) fun c hc => by
      have := (List.mem_filter.mp hc).2
      simp only [decide_eq_true_eq] at this
      exact this
  have m1 : ∀ c ∈ r.filter (fun c => c.1 < lo), c.1 < lo := fun c hc => by
    have := (List.mem_filter.mp hc).2
    simp only [decide_eq_true_eq] at this
    exact this
  have m2 : ∀ c ∈ v.filter (fun c => lo ≤ c.1 && c.1 < lo + 0x10000), c.1 < lo + 0x10000 := fun c hc => by
    have := (List.mem_filter.mp hc).2
    simp only [Bool.and_eq_true, decide_eq_true_eq] at this
    exact this.2
  refine app _ _ 0 (lo + 0x10000) (app _ _ 0 lo h1 h2 (Nat.zero_le _) m1) h3 (Nat.zero_le _) fun c hc => ?_
  rcases List.mem_append.mp hc with hc | hc
  · exact Nat.lt_of_lt_of_le (m1 c hc) (Nat.le_add_right _ _)
  · exact m2 c hc

theorem State.blockReset_keeps (hC : Settles noFld) {s : State} {r : Rod} (hk : Keeps noFld False H u₀ s) :
    Keeps noFld False H u₀ (s.blockReset r) :=
  hk.trans ⟨fun _ h => h.elim, rfl, rfl, rfl, Otp.grown_refl _, fun _ e => e, fun h => h.elim, fun h => h.elim,
    fun ⟨a, b⟩ => ⟨State.blockReset_wf _ _ a _ resetWords_wf, b⟩⟩

theorem State.feedRestart_keeps (hC : Settles noFld) {s : State} (hk : Keeps noFld False H u₀ s) :
    Keeps noFld False H u₀ (s.feedRestart) := by
  unfold State.feedRestart
  repeat' first
    | with_reducible assumption
    | (extract_lets +onlyGivenNames x; first | (refine (have hx : Keeps noFld False H u₀ x := ?_; ?_); subst x; rotate_left; clear_value x) | subst x)
    | with_reducible exact noFld_apart _
    | with_reducible exact noFld_ne _
    | with_reducible apply State.setFeed_keeps hC
    | with_reducible apply Keeps.wr
    | with_reducible apply Keeps.setReg
    | with_reducible apply Keeps.foldl
    | split
    | intro _
    | (with_reducible apply Keeps.lit <;> with_reducible first | rfl | assumption | exact fun _ h => h | exact fun _ _ => rfl | exact fun _ => rfl | exact fun h => h.elim)

theorem State.rodRestart_keeps (hC : Settles noFld) {s : State} {r : Rod} (hk : Keeps noFld False H u₀ s) :
    Keeps noFld False H u₀ (s.rodRestart r) := by
  unfold State.rodRestart
  repeat' first
    | with_reducible assumption
    | (extract_lets +onlyGivenNames x; first | (refine (have hx : Keeps noFld False H u₀ x := ?_; ?_); subst x; rotate_left; clear_value x) | subst x)
    | with_reducible exact noFld_apart _
    | with_reducible exact noFld_ne _
    | with_reducible apply State.feedRestart_keeps hC
    | with_reducible apply State.setDec_keeps hC
    | with_reducible apply State.setEnc_keeps hC
    | with_reducible apply State.setFl_keeps hC
    | with_reducible apply State.setPrint_keeps hC
    | with_reducible apply State.setScan_keeps hC
    | with_reducible apply State.setVid_keeps hC
    | with_reducible apply Keeps.wr
    | with_reducible apply Keeps.setReg
    | with_reducible apply Keeps.foldl
    | split
    | intro _
    | (with_reducible apply Keeps.lit <;> with_reducible first | rfl | assumption | exact fun _ h => h | exact fun _ _ => rfl | exact fun _ => rfl | exact fun h => h.elim)

theorem State.restore_keeps (hC : Settles noFld) {s : State} {r : Rod} (hk : Keeps noFld False H u₀ s) :
    Keeps noFld False H u₀ (s.restore r) := by
  unfold State.restore
  repeat' first
    | with_reducible assumption
    | (extract_lets +onlyGivenNames x; first | (refine (have hx : Keeps noFld False H u₀ x := ?_; ?_); subst x; rotate_left; clear_value x) | subst x)
    | with_reducible exact noFld_apart _
    | with_reducible exact noFld_ne _
    | with_reducible apply State.blockReset_keeps hC
    | with_reducible apply State.configRod_keeps hC
    | with_reducible apply State.rodRestart_keeps hC
    | with_reducible apply Keeps.wr
    | with_reducible apply Keeps.setReg
    | with_reducible apply Keeps.foldl
    | split
    | intro _
    | (with_reducible apply Keeps.lit <;> with_reducible first | rfl | assumption | exact fun _ h => h | exact fun _ _ => rfl | exact fun _ => rfl | exact fun h => h.elim)

theorem State.pllvAgain_keeps (hC : Settles noFld) {s : State} {r : Rod} (hk : Keeps noFld False H u₀ s) :
    Keeps noFld False H u₀ (s.pllvAgain r) := by
  unfold State.pllvAgain
  repeat' first
    | with_reducible assumption
    | (extract_lets +onlyGivenNames x; first | (refine (have hx : Keeps noFld False H u₀ x := ?_; ?_); subst x; rotate_left; clear_value x) | subst x)
    | with_reducible exact noFld_apart _
    | with_reducible exact noFld_ne _
    | with_reducible apply State.setClk_keeps hC
    | with_reducible apply Keeps.wr
    | with_reducible apply Keeps.setReg
    | with_reducible apply Keeps.foldl
    | split
    | intro _
    | (with_reducible apply Keeps.lit <;> with_reducible first | rfl | assumption | exact fun _ h => h | exact fun _ _ => rfl | exact fun _ => rfl | exact fun h => h.elim)

theorem State.resetRod_keeps (hC : Settles noFld) {s : State} {r : Rod} (hk : Keeps noFld False H u₀ s) :
    Keeps noFld False H u₀ (s.resetRod r) := by
  unfold State.resetRod
  repeat' first
    | with_reducible assumption
    | (extract_lets +onlyGivenNames x; first | (refine (have hx : Keeps noFld False H u₀ x := ?_; ?_); subst x; rotate_left; clear_value x) | subst x)
    | with_reducible exact noFld_apart _
    | with_reducible exact noFld_ne _
    | with_reducible apply State.clearFault_keeps hC
    | with_reducible apply State.clearReady_keeps hC
    | with_reducible apply State.markReset_keeps hC
    | with_reducible apply State.pllvAgain_keeps hC
    | with_reducible apply State.restore_keeps hC
    | with_reducible apply State.rodStops_keeps hC
    | with_reducible apply State.untested_keeps hC
    | with_reducible apply Keeps.wr
    | with_reducible apply Keeps.setReg
    | with_reducible apply Keeps.foldl
    | split
    | intro _
    | (with_reducible apply Keeps.lit <;> with_reducible first | rfl | assumption | exact fun _ h => h | exact fun _ _ => rfl | exact fun _ => rfl | exact fun h => h.elim)

theorem State.writeRodReset_keeps (hC : Settles noFld) {s : State} {w : Word} (hk : Keeps noFld False H u₀ s) :
    Keeps noFld False H u₀ (s.writeRodReset w) := by
  unfold State.writeRodReset
  repeat' first
    | with_reducible assumption
    | (extract_lets +onlyGivenNames x; first | (refine (have hx : Keeps noFld False H u₀ x := ?_; ?_); subst x; rotate_left; clear_value x) | subst x)
    | with_reducible exact noFld_apart _
    | with_reducible exact noFld_ne _
    | with_reducible apply State.resetRod_keeps hC
    | with_reducible apply State.settle_keeps hC
    | with_reducible apply Keeps.wr
    | with_reducible apply Keeps.setReg
    | with_reducible apply Keeps.foldl
    | split
    | intro _
    | (with_reducible apply Keeps.lit <;> with_reducible first | rfl | assumption | exact fun _ h => h | exact fun _ _ => rfl | exact fun _ => rfl | exact fun h => h.elim)

theorem execRodReset_keeps (hC : Settles noFld) {w : BitVec 32} {s : State} (hk : Keeps noFld False H u₀ s) :
    KeepsOut noFld False H u₀ (execRodReset w s) := by
  unfold execRodReset
  repeat' first
    | with_reducible assumption
    | (extract_lets +onlyGivenNames x; first | (refine (have hx : Keeps noFld False H u₀ x := ?_; ?_); subst x; rotate_left; clear_value x) | subst x)
    | with_reducible exact noFld_apart _
    | with_reducible exact noFld_ne _
    | with_reducible refine State.hostReg_keeps hC ?_ ?_
    | with_reducible apply State.writeRodReset_keeps hC
    | with_reducible apply Keeps.wr
    | with_reducible apply Keeps.setReg
    | with_reducible apply KeepsOut.next
    | with_reducible apply Keeps.foldl
    | split
    | intro _
    | (with_reducible apply Keeps.lit <;> with_reducible first | rfl | assumption | exact fun _ h => h | exact fun _ _ => rfl | exact fun _ => rfl | exact fun h => h.elim)

theorem State.testPassed_keeps (hC : Settles noFld) {s : State} {r : Rod} (hk : Keeps noFld False H u₀ s) :
    Keeps noFld False H u₀ (s.testPassed r) := by
  unfold State.testPassed
  repeat' first
    | with_reducible assumption
    | (extract_lets +onlyGivenNames x; first | (refine (have hx : Keeps noFld False H u₀ x := ?_; ?_); subst x; rotate_left; clear_value x) | subst x)
    | with_reducible exact noFld_apart _
    | with_reducible exact noFld_ne _
    | with_reducible apply State.clearFault_keeps hC
    | with_reducible apply Keeps.wr
    | with_reducible apply Keeps.setReg
    | with_reducible apply Keeps.foldl
    | split
    | intro _
    | (with_reducible apply Keeps.lit <;> with_reducible first | rfl | assumption | exact fun _ h => h | exact fun _ _ => rfl | exact fun _ => rfl | exact fun h => h.elim)

theorem State.testFailed_keeps (hC : Settles noFld) {s : State} {r : Rod} (hk : Keeps noFld False H u₀ s) :
    Keeps noFld False H u₀ (s.testFailed r) := by
  unfold State.testFailed
  repeat' first
    | with_reducible assumption
    | (extract_lets +onlyGivenNames x; first | (refine (have hx : Keeps noFld False H u₀ x := ?_; ?_); subst x; rotate_left; clear_value x) | subst x)
    | with_reducible exact noFld_apart _
    | with_reducible exact noFld_ne _
    | with_reducible apply State.markReset_keeps hC
    | with_reducible apply State.targetFailed_keeps hC
    | with_reducible apply Keeps.wr
    | with_reducible apply Keeps.setReg
    | with_reducible apply Keeps.foldl
    | split
    | intro _
    | (with_reducible apply Keeps.lit <;> with_reducible first | rfl | assumption | exact fun _ h => h | exact fun _ _ => rfl | exact fun _ => rfl | exact fun h => h.elim)

theorem State.ownTestFailed_keeps (hC : Settles noFld) {s : State} {r : Rod} (hk : Keeps noFld False H u₀ s) :
    Keeps noFld False H u₀ (s.ownTestFailed r) := by
  unfold State.ownTestFailed
  repeat' first
    | with_reducible assumption
    | (extract_lets +onlyGivenNames x; first | (refine (have hx : Keeps noFld False H u₀ x := ?_; ?_); subst x; rotate_left; clear_value x) | subst x)
    | with_reducible exact noFld_apart _
    | with_reducible exact noFld_ne _
    | with_reducible apply State.markReset_keeps hC
    | with_reducible apply State.testFailed_keeps hC
    | with_reducible apply Keeps.wr
    | with_reducible apply Keeps.setReg
    | with_reducible apply Keeps.foldl
    | split
    | intro _
    | (with_reducible apply Keeps.lit <;> with_reducible first | rfl | assumption | exact fun _ h => h | exact fun _ _ => rfl | exact fun _ => rfl | exact fun h => h.elim)

theorem State.headTest_keeps (hC : Settles noFld) {s : State} {m : HeadMeas} {leak : Nat} (hk : Keeps noFld False H u₀ s) :
    Keeps noFld False H u₀ (s.headTest m leak) := by
  unfold State.headTest
  repeat' first
    | with_reducible assumption
    | (extract_lets +onlyGivenNames x; first | (refine (have hx : Keeps noFld False H u₀ x := ?_; ?_); subst x; rotate_left; clear_value x) | subst x)
    | with_reducible exact noFld_apart _
    | with_reducible exact noFld_ne _
    | with_reducible apply State.autoDry_keeps hC
    | with_reducible apply State.headFault_keeps hC
    | with_reducible apply State.leakSeen_keeps hC
    | with_reducible refine State.probeHead_of hC (by with_reducible assumption) ?_
    | with_reducible apply State.probeHead_keeps hC
    | with_reducible apply State.setPrint_keeps hC
    | with_reducible apply Keeps.wr
    | with_reducible apply Keeps.setReg
    | with_reducible apply Keeps.foldl
    | split
    | intro _
    | (with_reducible apply Keeps.lit <;> with_reducible first | rfl | assumption | exact fun _ h => h | exact fun _ _ => rfl | exact fun _ => rfl | exact fun h => h.elim)

theorem State.motorTest_keeps (hC : Settles noFld) {s : State} {m : List WindingMeas} {hall : Nat} (hk : Keeps noFld False H u₀ s) :
    Keeps noFld False H u₀ (s.motorTest m hall) := by
  unfold State.motorTest
  repeat' first
    | with_reducible assumption
    | (extract_lets +onlyGivenNames x; first | (refine (have hx : Keeps noFld False H u₀ x := ?_; ?_); subst x; rotate_left; clear_value x) | subst x)
    | with_reducible exact noFld_apart _
    | with_reducible exact noFld_ne _
    | with_reducible apply State.clearFaults_keeps hC
    | with_reducible apply State.motorSeen_keeps hC
    | with_reducible apply State.ownTestFailed_keeps hC
    | with_reducible apply State.raise_keeps hC
    | with_reducible apply State.setFeed_keeps hC
    | with_reducible apply State.testFailed_keeps hC
    | with_reducible apply State.testPassed_keeps hC
    | with_reducible apply Keeps.wr
    | with_reducible apply Keeps.setReg
    | with_reducible apply Keeps.foldl
    | split
    | intro _
    | (with_reducible apply Keeps.lit <;> with_reducible first | rfl | assumption | exact fun _ h => h | exact fun _ _ => rfl | exact fun _ => rfl | exact fun h => h.elim)

theorem State.cameraTest_keeps (hC : Settles noFld) {s : State} {n : Negotiation} (hk : Keeps noFld False H u₀ s) :
    Keeps noFld False H u₀ (s.cameraTest n) := by
  unfold State.cameraTest
  repeat' first
    | with_reducible assumption
    | (extract_lets +onlyGivenNames x; first | (refine (have hx : Keeps noFld False H u₀ x := ?_; ?_); subst x; rotate_left; clear_value x) | subst x)
    | with_reducible exact noFld_apart _
    | with_reducible exact noFld_ne _
    | with_reducible refine State.negotiate_of hC (by with_reducible assumption) ?_
    | with_reducible apply State.negotiate_keeps hC
    | with_reducible apply State.ownTestFailed_keeps hC
    | with_reducible apply State.renegotiated_keeps hC
    | with_reducible apply State.testPassed_keeps hC
    | with_reducible apply State.vidinTested_keeps hC
    | with_reducible apply Keeps.wr
    | with_reducible apply Keeps.setReg
    | with_reducible apply Keeps.foldl
    | split
    | intro _
    | (with_reducible apply Keeps.lit <;> with_reducible first | rfl | assumption | exact fun _ h => h | exact fun _ _ => rfl | exact fun _ => rfl | exact fun h => h.elim)

theorem State.bankTest_keeps (hC : Settles noFld) {s : State} {i : Nat} (hk : Keeps noFld False H u₀ s) :
    Keeps noFld False H u₀ (s.bankTest i) := by
  unfold State.bankTest
  repeat' first
    | with_reducible assumption
    | (extract_lets +onlyGivenNames x; first | (refine (have hx : Keeps noFld False H u₀ x := ?_; ?_); subst x; rotate_left; clear_value x) | subst x)
    | with_reducible exact noFld_apart _
    | with_reducible exact noFld_ne _
    | with_reducible apply Keeps.fresh
    | with_reducible apply Keeps.openWord
    | with_reducible refine State.readMem_of hC (by with_reducible assumption) ?_
    | with_reducible apply State.readMem_keeps hC
    | with_reducible apply State.writeMem_keeps hC (fun h => h.elim)
    | with_reducible apply Keeps.wr
    | with_reducible apply Keeps.setReg
    | with_reducible apply Keeps.foldl
    | split
    | intro _
    | (with_reducible apply Keeps.lit <;> with_reducible first | rfl | assumption | exact fun _ h => h | exact fun _ _ => rfl | exact fun _ => rfl | exact fun h => h.elim)

theorem State.plainTest_keeps (hC : Settles noFld) {s : State} {r : Rod} (hk : Keeps noFld False H u₀ s) :
    Keeps noFld False H u₀ (s.plainTest r) := by
  unfold State.plainTest
  repeat' first
    | with_reducible assumption
    | (extract_lets +onlyGivenNames x; first | (refine (have hx : Keeps noFld False H u₀ x := ?_; ?_); subst x; rotate_left; clear_value x) | subst x)
    | with_reducible exact noFld_apart _
    | with_reducible exact noFld_ne _
    | with_reducible apply State.bankTest_keeps hC
    | with_reducible apply State.flashRead_keeps hC
    | with_reducible apply State.mount_keeps hC
    | with_reducible apply State.rescan_keeps hC
    | with_reducible apply State.setCut_keeps hC
    | with_reducible apply State.testFailed_keeps hC
    | with_reducible apply State.testPassed_keeps hC
    | with_reducible apply Keeps.wr
    | with_reducible apply Keeps.setReg
    | with_reducible apply Keeps.foldl
    | split
    | intro _
    | (with_reducible apply Keeps.lit <;> with_reducible first | rfl | assumption | exact fun _ h => h | exact fun _ _ => rfl | exact fun _ => rfl | exact fun h => h.elim)

theorem execSelfTestDone_keeps (hC : Settles noFld) {r : Rod} {res : TestResult} {s : State} (hk : Keeps noFld False H u₀ s) :
    KeepsOut noFld False H u₀ (execSelfTestDone r res s) := by
  unfold execSelfTestDone
  repeat' first
    | with_reducible assumption
    | (extract_lets +onlyGivenNames x; first | (refine (have hx : Keeps noFld False H u₀ x := ?_; ?_); subst x; rotate_left; clear_value x) | subst x)
    | with_reducible exact noFld_apart _
    | with_reducible exact noFld_ne _
    | with_reducible apply State.cameraTest_keeps hC
    | with_reducible apply State.headTest_keeps hC
    | with_reducible apply State.motorTest_keeps hC
    | with_reducible apply State.plainTest_keeps hC
    | with_reducible apply State.renegotiated_keeps hC
    | with_reducible apply State.restore_keeps hC
    | with_reducible apply State.settle_keeps hC
    | with_reducible apply State.testFailed_keeps hC
    | with_reducible apply State.testPassed_keeps hC
    | with_reducible apply Keeps.wr
    | with_reducible apply Keeps.setReg
    | with_reducible apply KeepsOut.next
    | with_reducible apply Keeps.foldl
    | split
    | intro _
    | (with_reducible apply Keeps.lit <;> with_reducible first | rfl | assumption | exact fun _ h => h | exact fun _ _ => rfl | exact fun _ => rfl | exact fun h => h.elim)

theorem State.readEffect_keeps (hC : Settles noFld) {s : State} {a : Nat} (hk : Keeps noFld False H u₀ s) :
    Keeps noFld False H u₀ (s.readEffect a) := by
  unfold State.readEffect
  repeat' first
    | with_reducible assumption
    | (extract_lets +onlyGivenNames x; first | (refine (have hx : Keeps noFld False H u₀ x := ?_; ?_); subst x; rotate_left; clear_value x) | subst x)
    | with_reducible exact noFld_apart _
    | with_reducible exact noFld_ne _
    | with_reducible apply State.popRecord_keeps hC
    | with_reducible apply Keeps.setReg
    | with_reducible apply Keeps.wr
    | with_reducible apply Keeps.foldl
    | split
    | intro _
    | (with_reducible apply Keeps.lit <;> with_reducible first | rfl | assumption | exact fun _ h => h | exact fun _ _ => rfl | exact fun _ => rfl | exact fun h => h.elim)

theorem State.limit_keeps (hC : Settles noFld) {s : State} {a : Nat} (hk : Keeps noFld False H u₀ s) :
    Keeps noFld False H u₀ (s.limit a) := by
  unfold State.limit
  repeat' first
    | with_reducible assumption
    | (extract_lets +onlyGivenNames x; first | (refine (have hx : Keeps noFld False H u₀ x := ?_; ?_); subst x; rotate_left; clear_value x) | subst x)
    | with_reducible exact noFld_apart _
    | with_reducible exact noFld_ne _
    | with_reducible apply Keeps.wr
    | with_reducible apply Keeps.setReg
    | with_reducible apply Keeps.foldl
    | split
    | intro _
    | (with_reducible apply Keeps.lit <;> with_reducible first | rfl | assumption | exact fun _ h => h | exact fun _ _ => rfl | exact fun _ => rfl | exact fun h => h.elim)

theorem State.plainWrite_keeps (hC : Settles noFld) {s : State} {i : RegInfo} {w : Word} (hk : Keeps noFld False H u₀ s) :
    Keeps noFld False H u₀ (s.plainWrite i w) := by
  unfold State.plainWrite
  repeat' first
    | with_reducible assumption
    | (extract_lets +onlyGivenNames x; first | (refine (have hx : Keeps noFld False H u₀ x := ?_; ?_); subst x; rotate_left; clear_value x) | subst x)
    | with_reducible exact noFld_apart _
    | with_reducible exact noFld_ne _
    | with_reducible apply State.limit_keeps hC
    | with_reducible apply Keeps.setReg
    | with_reducible apply Keeps.wr
    | with_reducible apply Keeps.foldl
    | split
    | intro _
    | (with_reducible apply Keeps.lit <;> with_reducible first | rfl | assumption | exact fun _ h => h | exact fun _ _ => rfl | exact fun _ => rfl | exact fun h => h.elim)

theorem State.writeOffer_keeps (hC : Settles noFld) {s : State} {w : Word} (hk : Keeps noFld False H u₀ s) :
    Keeps noFld False H u₀ (s.writeOffer w) := by
  unfold State.writeOffer
  repeat' first
    | with_reducible assumption
    | (extract_lets +onlyGivenNames x; first | (refine (have hx : Keeps noFld False H u₀ x := ?_; ?_); subst x; rotate_left; clear_value x) | subst x)
    | with_reducible exact noFld_apart _
    | with_reducible exact noFld_ne _
    | with_reducible apply Keeps.wr
    | with_reducible apply Keeps.setReg
    | with_reducible apply Keeps.foldl
    | split
    | intro _
    | (with_reducible apply Keeps.lit <;> with_reducible first | rfl | assumption | exact fun _ h => h | exact fun _ _ => rfl | exact fun _ => rfl | exact fun h => h.elim)

theorem State.writeSwitch_keeps (hC : Settles noFld) {s : State} {w : Word} (hk : Keeps noFld False H u₀ s) :
    Keeps noFld False H u₀ (s.writeSwitch w) := by
  unfold State.writeSwitch
  repeat' first
    | with_reducible assumption
    | (extract_lets +onlyGivenNames x; first | (refine (have hx : Keeps noFld False H u₀ x := ?_; ?_); subst x; rotate_left; clear_value x) | subst x)
    | with_reducible exact noFld_apart _
    | with_reducible exact noFld_ne _
    | with_reducible apply Keeps.wr
    | with_reducible apply Keeps.setReg
    | with_reducible apply Keeps.foldl
    | split
    | intro _
    | (with_reducible apply Keeps.lit <;> with_reducible first | rfl | assumption | exact fun _ h => h | exact fun _ _ => rfl | exact fun _ => rfl | exact fun h => h.elim)

theorem State.writeCutCurrent_keeps (hC : Settles noFld) {s : State} {w : Word} (hk : Keeps noFld False H u₀ s) :
    Keeps noFld False H u₀ (s.writeCutCurrent w) := by
  unfold State.writeCutCurrent
  repeat' first
    | with_reducible assumption
    | (extract_lets +onlyGivenNames x; first | (refine (have hx : Keeps noFld False H u₀ x := ?_; ?_); subst x; rotate_left; clear_value x) | subst x)
    | with_reducible exact noFld_apart _
    | with_reducible exact noFld_ne _
    | with_reducible apply Keeps.wr
    | with_reducible apply Keeps.setReg
    | with_reducible apply Keeps.foldl
    | split
    | intro _
    | (with_reducible apply Keeps.lit <;> with_reducible first | rfl | assumption | exact fun _ h => h | exact fun _ _ => rfl | exact fun _ => rfl | exact fun h => h.elim)

theorem State.writeScanCfg_keeps (hC : Settles noFld) {s : State} {w : Word} (hk : Keeps noFld False H u₀ s) :
    Keeps noFld False H u₀ (s.writeScanCfg w) := by
  unfold State.writeScanCfg
  repeat' first
    | with_reducible assumption
    | (extract_lets +onlyGivenNames x; first | (refine (have hx : Keeps noFld False H u₀ x := ?_; ?_); subst x; rotate_left; clear_value x) | subst x)
    | with_reducible exact noFld_apart _
    | with_reducible exact noFld_ne _
    | with_reducible apply Keeps.wr
    | with_reducible apply Keeps.setReg
    | with_reducible apply Keeps.foldl
    | split
    | intro _
    | (with_reducible apply Keeps.lit <;> with_reducible first | rfl | assumption | exact fun _ h => h | exact fun _ _ => rfl | exact fun _ => rfl | exact fun h => h.elim)

theorem State.writeOsc_keeps (hC : Settles noFld) {s : State} {k : Nat} {w : Word} (hk : Keeps noFld False H u₀ s) :
    Keeps noFld False H u₀ (s.writeOsc k w) := by
  unfold State.writeOsc
  repeat' first
    | with_reducible assumption
    | (extract_lets +onlyGivenNames x; first | (refine (have hx : Keeps noFld False H u₀ x := ?_; ?_); subst x; rotate_left; clear_value x) | subst x)
    | with_reducible exact noFld_apart _
    | with_reducible exact noFld_ne _
    | with_reducible apply Keeps.wr
    | with_reducible apply Keeps.setReg
    | with_reducible apply Keeps.foldl
    | split
    | intro _
    | (with_reducible apply Keeps.lit <;> with_reducible first | rfl | assumption | exact fun _ h => h | exact fun _ _ => rfl | exact fun _ => rfl | exact fun h => h.elim)

theorem Keeps.act {P : Effect → Prop} (l m : List Effect) (hl : ∀ e ∈ l, P e) (hm : ∀ e ∈ m, P e) : ∀ e ∈ l ++ m, P e :=
  fun e he => (List.mem_append.mp he).elim (hl e) (hm e)

theorem coreEffects_keeps (hC : Settles noFld) : ∀ e ∈ coreEffects, ∀ s w, Keeps noFld False H u₀ s →
    Keeps noFld False H u₀ (e.act s w) := by
  intro e he s w hk
  simp only [coreEffects, List.mem_append, List.mem_cons, List.not_mem_nil, or_false, List.mem_map, List.mem_flatMap] at he
  obtain ((h | h | h | h | h | h | h | h | h | h | h | h | h) | ⟨k, -, h⟩) | ⟨q, -, h | h | h⟩ := he <;> subst h
  · exact State.writeImgPush_keeps hC hk
  · exact State.writeResetCtl_keeps hC hk
  · exact State.writeRodReset_keeps hC hk
  · exact State.writeHeartbeat_keeps hC hk
  · exact State.writeHbPeriod_keeps hC hk
  · exact State.writeModeAllow_keeps hC hk
  · exact State.writeIdleHold_keeps hC hk
  · exact State.writeClkReq_keeps hC hk
  · exact State.writeDvfs_keeps hC hk
  · exact State.writeBgCtl_keeps hC hk
  · exact State.writeOffer_keeps hC hk
  · exact State.writeSwitch_keeps hC hk
  · exact State.writePending_keeps hC hk
  · exact State.writePinmask_keeps hC hk
  · exact State.writeQBase_keeps hC hk
  · exact State.writeQBase_keeps hC hk
  · exact State.writeQCfg_keeps hC hk

theorem rodEffects_keeps (hC : Settles noFld) : ∀ e ∈ rodEffects, ∀ s w, Keeps noFld False H u₀ s →
    Keeps noFld False H u₀ (e.act s w) := by
  intro e he s w hk
  simp only [rodEffects, List.mem_append, List.mem_cons, List.not_mem_nil, or_false, List.mem_map, List.mem_flatMap] at he
  obtain ((h | h | h | h | h | h | h | h | h | h | h | h | h | h | h | h) | ⟨k, -, h⟩) | ⟨q, -, h | h⟩ := he <;> subst h
  · exact State.writeVcoreTgt_keeps hC hk
  · exact State.writeVhCtl_keeps hC hk
  · exact State.writeVhTgt_keeps hC hk
  · exact State.writeVinFloor_keeps hC hk
  · exact State.writeVinCrit_keeps hC hk
  · exact State.writeVmCeil_keeps hC hk
  · exact State.writeVmDump_keeps hC hk
  · exact State.writeAux_keeps hC hk
  · exact State.writeCutCurrent_keeps hC hk
  · exact State.writeCutTiming_keeps hC hk
  · exact State.writeApply_keeps hC hk
  · exact State.writeHostHold_keeps hC hk
  · exact State.writeExposure_keeps hC hk
  · exact State.writeScanCfg_keeps hC hk
  · exact State.writeRate_keeps hC hk
  · exact State.writePicHold_keeps hC hk
  · exact State.writeOsc_keeps hC hk
  · exact State.writeChCtrl_keeps hC hk
  · exact State.append_keeps hC hk

theorem effects_keeps (hC : Settles noFld) {e : Effect} (he : e ∈ effects) {s : State} {w : Word}
    (hk : Keeps noFld False H u₀ s) : Keeps noFld False H u₀ (e.act s w) :=
  (List.mem_append.mp he).elim (fun h => coreEffects_keeps hC e h s w hk) fun h => rodEffects_keeps hC e h s w hk

theorem State.writeWordAt_keeps (hC : Settles noFld) {s : State} {a : Nat} {w : Word} (hk : Keeps noFld False H u₀ s) :
    Keeps noFld False H u₀ (s.writeWordAt a w).1 := by
  unfold State.writeWordAt
  repeat' first
    | with_reducible assumption
    | (extract_lets +onlyGivenNames x; first | (refine (have hx : Keeps noFld False H u₀ x := ?_; ?_); subst x; rotate_left; clear_value x) | subst x)
    | with_reducible exact noFld_apart _
    | with_reducible exact noFld_ne _
    | with_reducible apply State.plainWrite_keeps hC
    | with_reducible refine State.ringHead_of hC (by with_reducible assumption) ?_
    | with_reducible apply State.ringHead_keeps hC
    | with_reducible refine State.ringTail_of hC (by with_reducible assumption) ?_
    | with_reducible apply State.ringTail_keeps hC
    | with_reducible refine State.writeCoefWin_of hC (by with_reducible assumption) ?_
    | with_reducible apply State.writeCoefWin_keeps hC
    | with_reducible refine State.writeResWin_of hC (by with_reducible assumption) ?_
    | with_reducible apply State.writeResWin_keeps hC
    | next h => exact effects_keeps hC (List.mem_of_find?_eq_some h) (by with_reducible assumption)
    | with_reducible apply Keeps.wr
    | with_reducible apply Keeps.setReg
    | with_reducible apply Keeps.foldl
    | split
    | intro _
    | (with_reducible apply Keeps.lit <;> with_reducible first | rfl | assumption | exact fun _ h => h | exact fun _ _ => rfl | exact fun _ => rfl | exact fun h => h.elim)

theorem State.writeWordAt_of (hC : Settles noFld) {s : State} {a : Nat} {w : Word} {x₁ : State} {y0 : Nat} (he : (s.writeWordAt a w) = (x₁, y0))
    (hk : Keeps noFld False H u₀ s) : Keeps noFld False H u₀ x₁ := by
  have hr : Keeps noFld False H u₀ (s.writeWordAt a w).1 := State.writeWordAt_keeps hC hk
  rw [he] at hr
  exact hr

theorem State.hostWrite_keeps (hC : Settles noFld) {s : State} {a : Nat} {w : Word} (hk : Keeps noFld False H u₀ s) :
    Keeps noFld False H u₀ (s.hostWrite a w).1 := by
  unfold State.hostWrite
  repeat' first
    | with_reducible assumption
    | (extract_lets +onlyGivenNames x; first | (refine (have hx : Keeps noFld False H u₀ x := ?_; ?_); subst x; rotate_left; clear_value x) | subst x)
    | with_reducible exact noFld_apart _
    | with_reducible exact noFld_ne _
    | with_reducible apply State.settle_keeps hC
    | with_reducible refine State.writeWordAt_of hC (by with_reducible assumption) ?_
    | with_reducible apply State.writeWordAt_keeps hC
    | with_reducible apply Keeps.wr
    | with_reducible apply Keeps.setReg
    | with_reducible apply Keeps.foldl
    | split
    | intro _
    | (with_reducible apply Keeps.lit <;> with_reducible first | rfl | assumption | exact fun _ h => h | exact fun _ _ => rfl | exact fun _ => rfl | exact fun h => h.elim)

theorem State.hostWrite_of (hC : Settles noFld) {s : State} {a : Nat} {w : Word} {x₁ : State} {y0 : Nat} (he : (s.hostWrite a w) = (x₁, y0))
    (hk : Keeps noFld False H u₀ s) : Keeps noFld False H u₀ x₁ := by
  have hr : Keeps noFld False H u₀ (s.hostWrite a w).1 := State.hostWrite_keeps hC hk
  rw [he] at hr
  exact hr

theorem execRegisterWrite_keeps (hC : Settles noFld) {a : BitVec 32} {w : BitVec 32} {s : State} (hk : Keeps noFld False H u₀ s) :
    KeepsOut noFld False H u₀ (execRegisterWrite a w s) := by
  unfold execRegisterWrite
  repeat' first
    | with_reducible assumption
    | (extract_lets +onlyGivenNames x; first | (refine (have hx : Keeps noFld False H u₀ x := ?_; ?_); subst x; rotate_left; clear_value x) | subst x)
    | with_reducible exact noFld_apart _
    | with_reducible exact noFld_ne _
    | with_reducible refine State.hostReg_keeps hC ?_ ?_
    | with_reducible refine State.hostWrite_of hC (by with_reducible assumption) ?_
    | with_reducible apply State.hostWrite_keeps hC
    | with_reducible apply Keeps.wr
    | with_reducible apply Keeps.setReg
    | with_reducible apply KeepsOut.next
    | with_reducible apply Keeps.foldl
    | split
    | intro _
    | (with_reducible apply Keeps.lit <;> with_reducible first | rfl | assumption | exact fun _ h => h | exact fun _ _ => rfl | exact fun _ => rfl | exact fun h => h.elim)

theorem execLinkOffer_keeps (hC : Settles noFld) {w : BitVec 32} {s : State} (hk : Keeps noFld False H u₀ s) :
    KeepsOut noFld False H u₀ (execLinkOffer w s) := by
  unfold execLinkOffer
  repeat' first
    | with_reducible assumption
    | (extract_lets +onlyGivenNames x; first | (refine (have hx : Keeps noFld False H u₀ x := ?_; ?_); subst x; rotate_left; clear_value x) | subst x)
    | with_reducible exact noFld_apart _
    | with_reducible exact noFld_ne _
    | with_reducible refine State.hostReg_keeps hC ?_ ?_
    | with_reducible apply State.writeOffer_keeps hC
    | with_reducible apply Keeps.wr
    | with_reducible apply Keeps.setReg
    | with_reducible apply KeepsOut.next
    | with_reducible apply Keeps.foldl
    | split
    | intro _
    | (with_reducible apply Keeps.lit <;> with_reducible first | rfl | assumption | exact fun _ h => h | exact fun _ _ => rfl | exact fun _ => rfl | exact fun h => h.elim)

theorem execLinkSwitch_keeps (hC : Settles noFld) {w : BitVec 32} {s : State} (hk : Keeps noFld False H u₀ s) :
    KeepsOut noFld False H u₀ (execLinkSwitch w s) := by
  unfold execLinkSwitch
  repeat' first
    | with_reducible assumption
    | (extract_lets +onlyGivenNames x; first | (refine (have hx : Keeps noFld False H u₀ x := ?_; ?_); subst x; rotate_left; clear_value x) | subst x)
    | with_reducible exact noFld_apart _
    | with_reducible exact noFld_ne _
    | with_reducible refine State.hostReg_keeps hC ?_ ?_
    | with_reducible apply State.writeSwitch_keeps hC
    | with_reducible apply Keeps.wr
    | with_reducible apply Keeps.setReg
    | with_reducible apply KeepsOut.next
    | with_reducible apply Keeps.foldl
    | split
    | intro _
    | (with_reducible apply Keeps.lit <;> with_reducible first | rfl | assumption | exact fun _ h => h | exact fun _ _ => rfl | exact fun _ => rfl | exact fun h => h.elim)

theorem State.setAccel_keeps (hC : Settles noFld) {s : State} {f : Accel → Accel} (hk : Keeps noFld False H u₀ s) :
    Keeps noFld False H u₀ (s.setAccel f) := by
  unfold State.setAccel
  repeat' first
    | with_reducible assumption
    | (extract_lets +onlyGivenNames x; first | (refine (have hx : Keeps noFld False H u₀ x := ?_; ?_); subst x; rotate_left; clear_value x) | subst x)
    | with_reducible exact noFld_apart _
    | with_reducible exact noFld_ne _
    | with_reducible apply Keeps.wr
    | with_reducible apply Keeps.setReg
    | with_reducible apply Keeps.foldl
    | split
    | intro _
    | (with_reducible apply Keeps.lit <;> with_reducible first | rfl | assumption | exact fun _ h => h | exact fun _ _ => rfl | exact fun _ => rfl | exact fun h => h.elim)

theorem State.accelAbsent_keeps (hC : Settles noFld) {s : State} (hk : Keeps noFld False H u₀ s) :
    Keeps noFld False H u₀ (s.accelAbsent) := by
  unfold State.accelAbsent
  repeat' first
    | with_reducible assumption
    | (extract_lets +onlyGivenNames x; first | (refine (have hx : Keeps noFld False H u₀ x := ?_; ?_); subst x; rotate_left; clear_value x) | subst x)
    | with_reducible exact noFld_apart _
    | with_reducible exact noFld_ne _
    | with_reducible apply State.raise_keeps hC
    | with_reducible apply State.setAccel_keeps hC
    | with_reducible apply State.settle_keeps hC
    | with_reducible apply Keeps.wr
    | with_reducible apply Keeps.setReg
    | with_reducible apply Keeps.foldl
    | split
    | intro _
    | (with_reducible apply Keeps.lit <;> with_reducible first | rfl | assumption | exact fun _ h => h | exact fun _ _ => rfl | exact fun _ => rfl | exact fun h => h.elim)

theorem State.accelNack_keeps (hC : Settles noFld) {s : State} (hk : Keeps noFld False H u₀ s) :
    Keeps noFld False H u₀ (s.accelNack) := by
  unfold State.accelNack
  repeat' first
    | with_reducible assumption
    | (extract_lets +onlyGivenNames x; first | (refine (have hx : Keeps noFld False H u₀ x := ?_; ?_); subst x; rotate_left; clear_value x) | subst x)
    | with_reducible exact noFld_apart _
    | with_reducible exact noFld_ne _
    | with_reducible apply State.accelAbsent_keeps hC
    | with_reducible apply State.setAccel_keeps hC
    | with_reducible apply Keeps.wr
    | with_reducible apply Keeps.setReg
    | with_reducible apply Keeps.foldl
    | split
    | intro _
    | (with_reducible apply Keeps.lit <;> with_reducible first | rfl | assumption | exact fun _ h => h | exact fun _ _ => rfl | exact fun _ => rfl | exact fun h => h.elim)

theorem State.accelInit_keeps (hC : Settles noFld) {s : State} {ident : Option (BitVec 8)} (hk : Keeps noFld False H u₀ s) :
    Keeps noFld False H u₀ (s.accelInit ident) := by
  unfold State.accelInit
  repeat' first
    | with_reducible assumption
    | (extract_lets +onlyGivenNames x; first | (refine (have hx : Keeps noFld False H u₀ x := ?_; ?_); subst x; rotate_left; clear_value x) | subst x)
    | with_reducible exact noFld_apart _
    | with_reducible exact noFld_ne _
    | with_reducible apply State.accelAbsent_keeps hC
    | with_reducible apply State.accelNack_keeps hC
    | with_reducible apply State.setAccel_keeps hC
    | with_reducible apply Keeps.wr
    | with_reducible apply Keeps.setReg
    | with_reducible apply Keeps.foldl
    | split
    | intro _
    | (with_reducible apply Keeps.lit <;> with_reducible first | rfl | assumption | exact fun _ h => h | exact fun _ _ => rfl | exact fun _ => rfl | exact fun h => h.elim)

theorem State.shockEnd_keeps (hC : Settles noFld) {s : State} {x : Shock} (hk : Keeps noFld False H u₀ s) :
    Keeps noFld False H u₀ (s.shockEnd x) := by
  unfold State.shockEnd
  repeat' first
    | with_reducible assumption
    | (extract_lets +onlyGivenNames x; first | (refine (have hx : Keeps noFld False H u₀ x := ?_; ?_); subst x; rotate_left; clear_value x) | subst x)
    | with_reducible exact noFld_apart _
    | with_reducible exact noFld_ne _
    | with_reducible apply State.bufferRecord_keeps hC
    | with_reducible apply State.bump_keeps hC
    | with_reducible apply Keeps.count
    | with_reducible apply State.setAccel_keeps hC
    | with_reducible apply Keeps.wr
    | with_reducible apply Keeps.setReg
    | with_reducible apply Keeps.foldl
    | split
    | intro _
    | (with_reducible apply Keeps.lit <;> with_reducible first | rfl | assumption | exact fun _ h => h | exact fun _ _ => rfl | exact fun _ => rfl | exact fun h => h.elim)

theorem State.shockSample_keeps (hC : Settles noFld) {s : State} {data : List Nat} (hk : Keeps noFld False H u₀ s) :
    Keeps noFld False H u₀ (s.shockSample data) := by
  unfold State.shockSample
  repeat' first
    | with_reducible assumption
    | (extract_lets +onlyGivenNames x; first | (refine (have hx : Keeps noFld False H u₀ x := ?_; ?_); subst x; rotate_left; clear_value x) | subst x)
    | with_reducible exact noFld_apart _
    | with_reducible exact noFld_ne _
    | with_reducible apply State.quiet_keeps hC
    | with_reducible apply State.setAccel_keeps hC
    | with_reducible apply State.shockEnd_keeps hC
    | with_reducible apply Keeps.wr
    | with_reducible apply Keeps.setReg
    | with_reducible apply Keeps.foldl
    | split
    | intro _
    | (with_reducible apply Keeps.lit <;> with_reducible first | rfl | assumption | exact fun _ h => h | exact fun _ _ => rfl | exact fun _ => rfl | exact fun h => h.elim)

theorem execAccelSample_keeps (hC : Settles noFld) {ident : Option (BitVec 8)} {data : Option (List (BitVec 8))} {s : State} (hk : Keeps noFld False H u₀ s) :
    KeepsOut noFld False H u₀ (execAccelSample ident data s) := by
  unfold execAccelSample
  repeat' first
    | with_reducible assumption
    | (extract_lets +onlyGivenNames x; first | (refine (have hx : Keeps noFld False H u₀ x := ?_; ?_); subst x; rotate_left; clear_value x) | subst x)
    | with_reducible exact noFld_apart _
    | with_reducible exact noFld_ne _
    | with_reducible apply State.accelInit_keeps hC
    | with_reducible apply State.accelNack_keeps hC
    | with_reducible apply State.setAccel_keeps hC
    | with_reducible apply State.shockSample_keeps hC
    | with_reducible apply Keeps.wr
    | with_reducible apply Keeps.setReg
    | with_reducible apply KeepsOut.next
    | with_reducible apply Keeps.foldl
    | split
    | intro _
    | (with_reducible apply Keeps.lit <;> with_reducible first | rfl | assumption | exact fun _ h => h | exact fun _ _ => rfl | exact fun _ => rfl | exact fun h => h.elim)

theorem execAccelRetry_keeps (hC : Settles noFld) {ident : Option (BitVec 8)} {s : State} (hk : Keeps noFld False H u₀ s) :
    KeepsOut noFld False H u₀ (execAccelRetry ident s) := by
  unfold execAccelRetry
  repeat' first
    | with_reducible assumption
    | (extract_lets +onlyGivenNames x; first | (refine (have hx : Keeps noFld False H u₀ x := ?_; ?_); subst x; rotate_left; clear_value x) | subst x)
    | with_reducible exact noFld_apart _
    | with_reducible exact noFld_ne _
    | with_reducible apply State.clearFault_keeps hC
    | with_reducible apply State.setAccel_keeps hC
    | with_reducible apply State.settle_keeps hC
    | with_reducible apply Keeps.wr
    | with_reducible apply Keeps.setReg
    | with_reducible apply KeepsOut.next
    | with_reducible apply Keeps.foldl
    | split
    | intro _
    | (with_reducible apply Keeps.lit <;> with_reducible first | rfl | assumption | exact fun _ h => h | exact fun _ _ => rfl | exact fun _ => rfl | exact fun h => h.elim)

theorem execVioRise_keeps (hC : Settles noFld) {b : IoBank} {s : State} (hk : Keeps noFld False H u₀ s) :
    KeepsOut noFld False H u₀ (execVioRise b s) := by
  unfold execVioRise
  repeat' first
    | with_reducible assumption
    | (extract_lets +onlyGivenNames x; first | (refine (have hx : Keeps noFld False H u₀ x := ?_; ?_); subst x; rotate_left; clear_value x) | subst x)
    | with_reducible exact noFld_apart _
    | with_reducible exact noFld_ne _
    | with_reducible apply State.wrBit_keeps hC
    | with_reducible apply Keeps.wr
    | with_reducible apply Keeps.setReg
    | with_reducible apply KeepsOut.next
    | with_reducible apply Keeps.foldl
    | split
    | intro _
    | (with_reducible apply Keeps.lit <;> with_reducible first | rfl | assumption | exact fun _ h => h | exact fun _ _ => rfl | exact fun _ => rfl | exact fun h => h.elim)

theorem execVioClassSelect_keeps (hC : Settles noFld) {b : IoBank} {high : Bool} {s : State} (hk : Keeps noFld False H u₀ s) :
    KeepsOut noFld False H u₀ (execVioClassSelect b high s) := by
  unfold execVioClassSelect
  repeat' first
    | with_reducible assumption
    | (extract_lets +onlyGivenNames x; first | (refine (have hx : Keeps noFld False H u₀ x := ?_; ?_); subst x; rotate_left; clear_value x) | subst x)
    | with_reducible exact noFld_apart _
    | with_reducible exact noFld_ne _
    | with_reducible apply State.wrBit_keeps hC
    | with_reducible apply Keeps.wr
    | with_reducible apply Keeps.setReg
    | with_reducible apply KeepsOut.next
    | with_reducible apply Keeps.foldl
    | split
    | intro _
    | (with_reducible apply Keeps.lit <;> with_reducible first | rfl | assumption | exact fun _ h => h | exact fun _ _ => rfl | exact fun _ => rfl | exact fun h => h.elim)

theorem State.mxGone_keeps (hC : Settles noFld) {s : State} (hk : Keeps noFld False H u₀ s) :
    Keeps noFld False H u₀ (s.mxGone) := by
  unfold State.mxGone
  repeat' first
    | with_reducible assumption
    | (extract_lets +onlyGivenNames x; first | (refine (have hx : Keeps noFld False H u₀ x := ?_; ?_); subst x; rotate_left; clear_value x) | subst x)
    | with_reducible exact noFld_apart _
    | with_reducible exact noFld_ne _
    | with_reducible apply State.cutSwitches_keeps hC
    | with_reducible apply State.sensorSet_keeps hC
    | with_reducible apply Keeps.wr
    | with_reducible apply Keeps.setReg
    | with_reducible apply Keeps.foldl
    | split
    | intro _
    | (with_reducible apply Keeps.lit <;> with_reducible first | rfl | assumption | exact fun _ h => h | exact fun _ _ => rfl | exact fun _ => rfl | exact fun h => h.elim)

theorem execVioFall_keeps (hC : Settles noFld) {b : IoBank} {s : State} (hk : Keeps noFld False H u₀ s) :
    KeepsOut noFld False H u₀ (execVioFall b s) := by
  unfold execVioFall
  repeat' first
    | with_reducible assumption
    | (extract_lets +onlyGivenNames x; first | (refine (have hx : Keeps noFld False H u₀ x := ?_; ?_); subst x; rotate_left; clear_value x) | subst x)
    | with_reducible exact noFld_apart _
    | with_reducible exact noFld_ne _
    | with_reducible apply State.mxGone_keeps hC
    | with_reducible apply State.quiet_keeps hC
    | with_reducible apply State.raise_keeps hC
    | with_reducible apply State.settle_keeps hC
    | with_reducible apply State.wrBit_keeps hC
    | with_reducible apply Keeps.wr
    | with_reducible apply Keeps.setReg
    | with_reducible apply KeepsOut.next
    | with_reducible apply Keeps.foldl
    | split
    | intro _
    | (with_reducible apply Keeps.lit <;> with_reducible first | rfl | assumption | exact fun _ h => h | exact fun _ _ => rfl | exact fun _ => rfl | exact fun h => h.elim)

theorem State.linkErrs_keeps (hC : Settles noFld) {s : State} {l : List Fld} (hk : Keeps noFld False H u₀ s) :
    Keeps noFld False H u₀ (s.linkErrs l) := by
  unfold State.linkErrs
  repeat' first
    | with_reducible assumption
    | (extract_lets +onlyGivenNames x; first | (refine (have hx : Keeps noFld False H u₀ x := ?_; ?_); subst x; rotate_left; clear_value x) | subst x)
    | with_reducible exact noFld_apart _
    | with_reducible exact noFld_ne _
    | with_reducible apply State.linkErr_keeps hC
    | with_reducible apply Keeps.wr
    | with_reducible apply Keeps.setReg
    | with_reducible apply Keeps.foldl
    | split
    | intro _
    | (with_reducible apply Keeps.lit <;> with_reducible first | rfl | assumption | exact fun _ h => h | exact fun _ _ => rfl | exact fun _ => rfl | exact fun h => h.elim)

theorem State.send_keeps (hC : Settles noFld) {s : State} {code : Nat} {data : List Nat} (hk : Keeps noFld False H u₀ s) :
    Keeps noFld False H u₀ (s.send code data) := by
  unfold State.send
  repeat' first
    | with_reducible assumption
    | (extract_lets +onlyGivenNames x; first | (refine (have hx : Keeps noFld False H u₀ x := ?_; ?_); subst x; rotate_left; clear_value x) | subst x)
    | with_reducible exact noFld_apart _
    | with_reducible exact noFld_ne _
    | with_reducible apply Keeps.wr
    | with_reducible apply Keeps.setReg
    | with_reducible apply Keeps.foldl
    | split
    | intro _
    | (with_reducible apply Keeps.lit <;> with_reducible first | rfl | assumption | exact fun _ h => h | exact fun _ _ => rfl | exact fun _ => rfl | exact fun h => h.elim)

theorem State.silent_keeps (hC : Settles noFld) {s : State} (hk : Keeps noFld False H u₀ s) :
    Keeps noFld False H u₀ (s.silent) := by
  unfold State.silent
  repeat' first
    | with_reducible assumption
    | (extract_lets +onlyGivenNames x; first | (refine (have hx : Keeps noFld False H u₀ x := ?_; ?_); subst x; rotate_left; clear_value x) | subst x)
    | with_reducible exact noFld_apart _
    | with_reducible exact noFld_ne _
    | with_reducible apply Keeps.wr
    | with_reducible apply Keeps.setReg
    | with_reducible apply Keeps.foldl
    | split
    | intro _
    | (with_reducible apply Keeps.lit <;> with_reducible first | rfl | assumption | exact fun _ h => h | exact fun _ _ => rfl | exact fun _ => rfl | exact fun h => h.elim)

theorem State.memRead_keeps (hC : Settles noFld) {s : State} {a : Nat} {n : Nat} (hk : Keeps noFld False H u₀ s) :
    Keeps noFld False H u₀ (s.memRead a n).1 := by
  unfold State.memRead
  repeat' first
    | with_reducible assumption
    | (extract_lets +onlyGivenNames x; first | (refine (have hx : Keeps noFld False H u₀ x := ?_; ?_); subst x; rotate_left; clear_value x) | subst x)
    | with_reducible exact noFld_apart _
    | with_reducible exact noFld_ne _
    | with_reducible apply State.flashRead_keeps hC
    | with_reducible refine State.readMem_of hC (by with_reducible assumption) ?_
    | with_reducible apply State.readMem_keeps hC
    | with_reducible apply Keeps.wr
    | with_reducible apply Keeps.setReg
    | with_reducible apply Keeps.foldl
    | split
    | intro _
    | (with_reducible apply Keeps.lit <;> with_reducible first | rfl | assumption | exact fun _ h => h | exact fun _ _ => rfl | exact fun _ => rfl | exact fun h => h.elim)

theorem State.memRead_of (hC : Settles noFld) {s : State} {a : Nat} {n : Nat} {x₁ : State} {y0 : List Nat} {y1 : Nat} (he : (s.memRead a n) = (x₁, y0, y1))
    (hk : Keeps noFld False H u₀ s) : Keeps noFld False H u₀ x₁ := by
  have hr : Keeps noFld False H u₀ (s.memRead a n).1 := State.memRead_keeps hC hk
  rw [he] at hr
  exact hr

theorem State.memWrite_keeps (hC : Settles noFld) {s : State} {a : Nat} {data : List Nat} (hk : Keeps noFld False H u₀ s) :
    Keeps noFld False H u₀ (s.memWrite a data).1 := by
  unfold State.memWrite
  repeat' first
    | with_reducible assumption
    | (extract_lets +onlyGivenNames x; first | (refine (have hx : Keeps noFld False H u₀ x := ?_; ?_); subst x; rotate_left; clear_value x) | subst x)
    | with_reducible exact noFld_apart _
    | with_reducible exact noFld_ne _
    | with_reducible apply State.writeMem_keeps hC (fun h => h.elim)
    | with_reducible apply Keeps.wr
    | with_reducible apply Keeps.setReg
    | with_reducible apply Keeps.foldl
    | split
    | intro _
    | (with_reducible apply Keeps.lit <;> with_reducible first | rfl | assumption | exact fun _ h => h | exact fun _ _ => rfl | exact fun _ => rfl | exact fun h => h.elim)

theorem State.memWrite_of (hC : Settles noFld) {s : State} {a : Nat} {data : List Nat} {x₁ : State} {y0 : Nat} (he : (s.memWrite a data) = (x₁, y0))
    (hk : Keeps noFld False H u₀ s) : Keeps noFld False H u₀ x₁ := by
  have hr : Keeps noFld False H u₀ (s.memWrite a data).1 := State.memWrite_keeps hC hk
  rw [he] at hr
  exact hr

theorem State.regReads_keeps (hC : Settles noFld) {s : State} {a n : Nat}
    (hk : Keeps noFld False H u₀ s) : Keeps noFld False H u₀ (s.regReads a n).1 := by
  induction n generalizing s a with
  | zero => exact hk
  | succ n ih => exact ih (State.readEffect_keeps hC hk)

theorem State.regWrites_keeps (hC : Settles noFld) {s : State} {a : Nat} {l : List Nat}
    (hk : Keeps noFld False H u₀ s) : Keeps noFld False H u₀ (s.regWrites a l).1 := by
  induction l generalizing s a with
  | nil => exact hk
  | cons b l ih => exact ih (State.hostWrite_keeps hC hk)

theorem State.access_keeps (hC : Settles noFld) {s : State} {a : Nat} {n : Nat} (hk : Keeps noFld False H u₀ s) :
    Keeps noFld False H u₀ (s.access a n).1 := by
  unfold State.access
  repeat' first
    | with_reducible assumption
    | (extract_lets +onlyGivenNames x; first | (refine (have hx : Keeps noFld False H u₀ x := ?_; ?_); subst x; rotate_left; clear_value x) | subst x)
    | with_reducible exact noFld_apart _
    | with_reducible exact noFld_ne _
    | with_reducible refine State.memRead_of hC (by with_reducible assumption) ?_
    | with_reducible apply State.memRead_keeps hC
    | with_reducible apply State.regReads_keeps hC
    | with_reducible apply Keeps.wr
    | with_reducible apply Keeps.setReg
    | with_reducible apply Keeps.foldl
    | split
    | intro _
    | (with_reducible apply Keeps.lit <;> with_reducible first | rfl | assumption | exact fun _ h => h | exact fun _ _ => rfl | exact fun _ => rfl | exact fun h => h.elim)

theorem State.access_of (hC : Settles noFld) {s : State} {a : Nat} {n : Nat} {x₁ : State} {y0 : List Nat} {y1 : Nat} (he : (s.access a n) = (x₁, y0, y1))
    (hk : Keeps noFld False H u₀ s) : Keeps noFld False H u₀ x₁ := by
  have hr : Keeps noFld False H u₀ (s.access a n).1 := State.access_keeps hC hk
  rw [he] at hr
  exact hr

theorem State.store_keeps (hC : Settles noFld) {s : State} {a : Nat} {data : List Nat} (hk : Keeps noFld False H u₀ s) :
    Keeps noFld False H u₀ (s.store a data).1 := by
  unfold State.store
  repeat' first
    | with_reducible assumption
    | (extract_lets +onlyGivenNames x; first | (refine (have hx : Keeps noFld False H u₀ x := ?_; ?_); subst x; rotate_left; clear_value x) | subst x)
    | with_reducible exact noFld_apart _
    | with_reducible exact noFld_ne _
    | with_reducible refine State.memWrite_of hC (by with_reducible assumption) ?_
    | with_reducible apply State.memWrite_keeps hC
    | with_reducible apply State.regWrites_keeps hC
    | with_reducible apply Keeps.wr
    | with_reducible apply Keeps.setReg
    | with_reducible apply Keeps.foldl
    | split
    | intro _
    | (with_reducible apply Keeps.lit <;> with_reducible first | rfl | assumption | exact fun _ h => h | exact fun _ _ => rfl | exact fun _ => rfl | exact fun h => h.elim)

theorem State.store_of (hC : Settles noFld) {s : State} {a : Nat} {data : List Nat} {x₁ : State} {y0 : Nat} (he : (s.store a data) = (x₁, y0))
    (hk : Keeps noFld False H u₀ s) : Keeps noFld False H u₀ x₁ := by
  have hr : Keeps noFld False H u₀ (s.store a data).1 := State.store_keeps hC hk
  rw [he] at hr
  exact hr

theorem State.refuse_keeps (hC : Settles noFld) {s : State} {h : Header} {errs : List (Nat × Fld)} (hk : Keeps noFld False H u₀ s) :
    Keeps noFld False H u₀ (s.refuse h errs) := by
  unfold State.refuse
  repeat' first
    | with_reducible assumption
    | (extract_lets +onlyGivenNames x; first | (refine (have hx : Keeps noFld False H u₀ x := ?_; ?_); subst x; rotate_left; clear_value x) | subst x)
    | with_reducible exact noFld_apart _
    | with_reducible exact noFld_ne _
    | with_reducible apply State.linkErrs_keeps hC
    | with_reducible apply State.send_keeps hC
    | with_reducible apply Keeps.wr
    | with_reducible apply Keeps.setReg
    | with_reducible apply Keeps.foldl
    | split
    | intro _
    | (with_reducible apply Keeps.lit <;> with_reducible first | rfl | assumption | exact fun _ h => h | exact fun _ _ => rfl | exact fun _ => rfl | exact fun h => h.elim)

theorem State.doRead_keeps (hC : Settles noFld) {s : State} {h : Header} (hk : Keeps noFld False H u₀ s) :
    Keeps noFld False H u₀ (s.doRead h) := by
  unfold State.doRead
  repeat' first
    | with_reducible assumption
    | (extract_lets +onlyGivenNames x; first | (refine (have hx : Keeps noFld False H u₀ x := ?_; ?_); subst x; rotate_left; clear_value x) | subst x)
    | with_reducible exact noFld_apart _
    | with_reducible exact noFld_ne _
    | with_reducible refine State.access_of hC (by with_reducible assumption) ?_
    | with_reducible apply State.access_keeps hC
    | with_reducible apply State.linkErr_keeps hC
    | with_reducible apply State.send_keeps hC
    | with_reducible apply Keeps.wr
    | with_reducible apply Keeps.setReg
    | with_reducible apply Keeps.foldl
    | split
    | intro _
    | (with_reducible apply Keeps.lit <;> with_reducible first | rfl | assumption | exact fun _ h => h | exact fun _ _ => rfl | exact fun _ => rfl | exact fun h => h.elim)

theorem execRead_keeps (hC : Settles noFld) {h : Header} {s : State} (hk : Keeps noFld False H u₀ s) :
    KeepsOut noFld False H u₀ (execRead h s) := by
  unfold execRead
  repeat' first
    | with_reducible assumption
    | (extract_lets +onlyGivenNames x; first | (refine (have hx : Keeps noFld False H u₀ x := ?_; ?_); subst x; rotate_left; clear_value x) | subst x)
    | with_reducible exact noFld_apart _
    | with_reducible exact noFld_ne _
    | with_reducible apply State.doRead_keeps hC
    | with_reducible apply State.linkBegin_keeps hC
    | with_reducible apply State.refuse_keeps hC
    | with_reducible apply State.silent_keeps hC
    | with_reducible apply Keeps.wr
    | with_reducible apply Keeps.setReg
    | with_reducible apply KeepsOut.next
    | with_reducible apply Keeps.foldl
    | split
    | intro _
    | (with_reducible apply Keeps.lit <;> with_reducible first | rfl | assumption | exact fun _ h => h | exact fun _ _ => rfl | exact fun _ => rfl | exact fun h => h.elim)

theorem State.doWrite_keeps (hC : Settles noFld) {s : State} {h : Header} {data : List Nat} {crc : Nat} (hk : Keeps noFld False H u₀ s) :
    Keeps noFld False H u₀ (s.doWrite h data crc).1 := by
  unfold State.doWrite
  repeat' first
    | with_reducible assumption
    | (extract_lets +onlyGivenNames x; first | (refine (have hx : Keeps noFld False H u₀ x := ?_; ?_); subst x; rotate_left; clear_value x) | subst x)
    | with_reducible exact noFld_apart _
    | with_reducible exact noFld_ne _
    | with_reducible apply State.linkErr_keeps hC
    | with_reducible refine State.store_of hC (by with_reducible assumption) ?_
    | with_reducible apply State.store_keeps hC
    | with_reducible apply Keeps.wr
    | with_reducible apply Keeps.setReg
    | with_reducible apply Keeps.foldl
    | split
    | intro _
    | (with_reducible apply Keeps.lit <;> with_reducible first | rfl | assumption | exact fun _ h => h | exact fun _ _ => rfl | exact fun _ => rfl | exact fun h => h.elim)

theorem State.doWrite_of (hC : Settles noFld) {s : State} {h : Header} {data : List Nat} {crc : Nat} {x₁ : State} {y0 : Nat} (he : (s.doWrite h data crc) = (x₁, y0))
    (hk : Keeps noFld False H u₀ s) : Keeps noFld False H u₀ x₁ := by
  have hr : Keeps noFld False H u₀ (s.doWrite h data crc).1 := State.doWrite_keeps hC hk
  rw [he] at hr
  exact hr

theorem execWrite_keeps (hC : Settles noFld) {h : Header} {data : List (BitVec 8)} {crc : BitVec 16} {s : State} (hk : Keeps noFld False H u₀ s) :
    KeepsOut noFld False H u₀ (execWrite h data crc s) := by
  unfold execWrite
  repeat' first
    | with_reducible assumption
    | (extract_lets +onlyGivenNames x; first | (refine (have hx : Keeps noFld False H u₀ x := ?_; ?_); subst x; rotate_left; clear_value x) | subst x)
    | with_reducible exact noFld_apart _
    | with_reducible exact noFld_ne _
    | with_reducible refine State.doWrite_of hC (by with_reducible assumption) ?_
    | with_reducible apply State.doWrite_keeps hC
    | with_reducible apply State.linkBegin_keeps hC
    | with_reducible apply State.refuse_keeps hC
    | with_reducible apply State.send_keeps hC
    | with_reducible apply State.silent_keeps hC
    | with_reducible apply Keeps.wr
    | with_reducible apply Keeps.setReg
    | with_reducible apply KeepsOut.next
    | with_reducible apply Keeps.foldl
    | split
    | intro _
    | (with_reducible apply Keeps.lit <;> with_reducible first | rfl | assumption | exact fun _ h => h | exact fun _ _ => rfl | exact fun _ => rfl | exact fun h => h.elim)

theorem execPoll_keeps (hC : Settles noFld) {h : Header} {s : State} (hk : Keeps noFld False H u₀ s) :
    KeepsOut noFld False H u₀ (execPoll h s) := by
  unfold execPoll
  repeat' first
    | with_reducible assumption
    | (extract_lets +onlyGivenNames x; first | (refine (have hx : Keeps noFld False H u₀ x := ?_; ?_); subst x; rotate_left; clear_value x) | subst x)
    | with_reducible exact noFld_apart _
    | with_reducible exact noFld_ne _
    | with_reducible apply State.linkBegin_keeps hC
    | with_reducible apply State.refuse_keeps hC
    | with_reducible apply State.send_keeps hC
    | with_reducible apply State.silent_keeps hC
    | with_reducible apply Keeps.wr
    | with_reducible apply Keeps.setReg
    | with_reducible apply KeepsOut.next
    | with_reducible apply Keeps.foldl
    | split
    | intro _
    | (with_reducible apply Keeps.lit <;> with_reducible first | rfl | assumption | exact fun _ h => h | exact fun _ _ => rfl | exact fun _ => rfl | exact fun h => h.elim)

theorem State.linkBase_keeps (hC : Settles noFld) {s : State} (hk : Keeps noFld False H u₀ s) :
    Keeps noFld False H u₀ (s.linkBase) := by
  unfold State.linkBase
  repeat' first
    | with_reducible assumption
    | (extract_lets +onlyGivenNames x; first | (refine (have hx : Keeps noFld False H u₀ x := ?_; ?_); subst x; rotate_left; clear_value x) | subst x)
    | with_reducible exact noFld_apart _
    | with_reducible exact noFld_ne _
    | with_reducible apply State.linkErr_keeps hC
    | with_reducible apply Keeps.wr
    | with_reducible apply Keeps.setReg
    | with_reducible apply Keeps.foldl
    | split
    | intro _
    | (with_reducible apply Keeps.lit <;> with_reducible first | rfl | assumption | exact fun _ h => h | exact fun _ _ => rfl | exact fun _ => rfl | exact fun h => h.elim)

theorem State.trained_keeps (hC : Settles noFld) {s : State} {taps : Nat} (hk : Keeps noFld False H u₀ s) :
    Keeps noFld False H u₀ (s.trained taps).1 := by
  unfold State.trained
  repeat' first
    | with_reducible assumption
    | (extract_lets +onlyGivenNames x; first | (refine (have hx : Keeps noFld False H u₀ x := ?_; ?_); subst x; rotate_left; clear_value x) | subst x)
    | with_reducible exact noFld_apart _
    | with_reducible exact noFld_ne _
    | with_reducible apply State.linkBase_keeps hC
    | with_reducible apply State.linkErr_keeps hC
    | with_reducible apply Keeps.wr
    | with_reducible apply Keeps.setReg
    | with_reducible apply Keeps.foldl
    | split
    | intro _
    | (with_reducible apply Keeps.lit <;> with_reducible first | rfl | assumption | exact fun _ h => h | exact fun _ _ => rfl | exact fun _ => rfl | exact fun h => h.elim)

theorem State.trained_of (hC : Settles noFld) {s : State} {taps : Nat} {x₁ : State} {y0 : Nat} (he : (s.trained taps) = (x₁, y0))
    (hk : Keeps noFld False H u₀ s) : Keeps noFld False H u₀ x₁ := by
  have hr : Keeps noFld False H u₀ (s.trained taps).1 := State.trained_keeps hC hk
  rw [he] at hr
  exact hr

theorem execTrain_keeps (hC : Settles noFld) {h : Header} {seen : Bool} {taps : BitVec 16} {s : State} (hk : Keeps noFld False H u₀ s) :
    KeepsOut noFld False H u₀ (execTrain h seen taps s) := by
  unfold execTrain
  repeat' first
    | with_reducible assumption
    | (extract_lets +onlyGivenNames x; first | (refine (have hx : Keeps noFld False H u₀ x := ?_; ?_); subst x; rotate_left; clear_value x) | subst x)
    | with_reducible exact noFld_apart _
    | with_reducible exact noFld_ne _
    | with_reducible apply State.linkBegin_keeps hC
    | with_reducible apply State.refuse_keeps hC
    | with_reducible apply State.send_keeps hC
    | with_reducible apply State.silent_keeps hC
    | with_reducible refine State.trained_of hC (by with_reducible assumption) ?_
    | with_reducible apply State.trained_keeps hC
    | with_reducible apply Keeps.wr
    | with_reducible apply Keeps.setReg
    | with_reducible apply KeepsOut.next
    | with_reducible apply Keeps.foldl
    | split
    | intro _
    | (with_reducible apply Keeps.lit <;> with_reducible first | rfl | assumption | exact fun _ h => h | exact fun _ _ => rfl | exact fun _ => rfl | exact fun h => h.elim)

theorem execLinkReset_keeps (hC : Settles noFld) {s : State} (hk : Keeps noFld False H u₀ s) :
    KeepsOut noFld False H u₀ (execLinkReset s) := by
  unfold execLinkReset
  repeat' first
    | with_reducible assumption
    | (extract_lets +onlyGivenNames x; first | (refine (have hx : Keeps noFld False H u₀ x := ?_; ?_); subst x; rotate_left; clear_value x) | subst x)
    | with_reducible exact noFld_apart _
    | with_reducible exact noFld_ne _
    | with_reducible apply State.linkBase_keeps hC
    | with_reducible apply State.linkBegin_keeps hC
    | with_reducible apply State.silent_keeps hC
    | with_reducible apply Keeps.wr
    | with_reducible apply Keeps.setReg
    | with_reducible apply KeepsOut.next
    | with_reducible apply Keeps.foldl
    | split
    | intro _
    | (with_reducible apply Keeps.lit <;> with_reducible first | rfl | assumption | exact fun _ h => h | exact fun _ _ => rfl | exact fun _ => rfl | exact fun h => h.elim)

theorem State.shortAccess_keeps (hC : Settles noFld) {s : State} {h : Header} {data : List Nat} {crc : Option Nat} (hk : Keeps noFld False H u₀ s) :
    Keeps noFld False H u₀ (s.shortAccess h data crc) := by
  unfold State.shortAccess
  repeat' first
    | with_reducible assumption
    | (extract_lets +onlyGivenNames x; first | (refine (have hx : Keeps noFld False H u₀ x := ?_; ?_); subst x; rotate_left; clear_value x) | subst x)
    | with_reducible exact noFld_apart _
    | with_reducible exact noFld_ne _
    | with_reducible refine State.access_of hC (by with_reducible assumption) ?_
    | with_reducible apply State.access_keeps hC
    | with_reducible refine State.doWrite_of hC (by with_reducible assumption) ?_
    | with_reducible apply State.doWrite_keeps hC
    | (with_reducible refine Keeps.elim ?_ fun _ _ => ?_)
    | with_reducible apply Keeps.wr
    | with_reducible apply Keeps.setReg
    | with_reducible apply Keeps.foldl
    | split
    | intro _
    | (with_reducible apply Keeps.lit <;> with_reducible first | rfl | assumption | exact fun _ h => h | exact fun _ _ => rfl | exact fun _ => rfl | exact fun h => h.elim)

theorem execShortTransaction_keeps (hC : Settles noFld) {h : Option Header} {data : List (BitVec 8)} {crc : Option (BitVec 16)} {s : State} (hk : Keeps noFld False H u₀ s) :
    KeepsOut noFld False H u₀ (execShortTransaction h data crc s) := by
  unfold execShortTransaction
  repeat' first
    | with_reducible assumption
    | (extract_lets +onlyGivenNames x; first | (refine (have hx : Keeps noFld False H u₀ x := ?_; ?_); subst x; rotate_left; clear_value x) | subst x)
    | with_reducible exact noFld_apart _
    | with_reducible exact noFld_ne _
    | with_reducible apply State.linkBegin_keeps hC
    | with_reducible apply State.linkErr_keeps hC
    | with_reducible apply State.linkErrs_keeps hC
    | with_reducible apply State.shortAccess_keeps hC
    | with_reducible apply State.silent_keeps hC
    | with_reducible apply Keeps.wr
    | with_reducible apply Keeps.setReg
    | with_reducible apply KeepsOut.next
    | with_reducible apply Keeps.foldl
    | split
    | intro _
    | (with_reducible apply Keeps.lit <;> with_reducible first | rfl | assumption | exact fun _ h => h | exact fun _ _ => rfl | exact fun _ => rfl | exact fun h => h.elim)

theorem execTransactionTimeout_keeps (hC : Settles noFld) {h : Header} {data : List (BitVec 8)} {crc : BitVec 16} {done : BitVec 16} {s : State} (hk : Keeps noFld False H u₀ s) :
    KeepsOut noFld False H u₀ (execTransactionTimeout h data crc done s) := by
  unfold execTransactionTimeout
  repeat' first
    | with_reducible assumption
    | (extract_lets +onlyGivenNames x; first | (refine (have hx : Keeps noFld False H u₀ x := ?_; ?_); subst x; rotate_left; clear_value x) | subst x)
    | with_reducible exact noFld_apart _
    | with_reducible exact noFld_ne _
    | with_reducible refine State.access_of hC (by with_reducible assumption) ?_
    | with_reducible apply State.access_keeps hC
    | with_reducible apply State.linkBegin_keeps hC
    | with_reducible apply State.linkErr_keeps hC
    | with_reducible apply State.send_keeps hC
    | with_reducible apply State.silent_keeps hC
    | with_reducible refine State.store_of hC (by with_reducible assumption) ?_
    | with_reducible apply State.store_keeps hC
    | with_reducible apply Keeps.wr
    | with_reducible apply Keeps.setReg
    | with_reducible apply KeepsOut.next
    | with_reducible apply Keeps.foldl
    | split
    | intro _
    | (with_reducible apply Keeps.lit <;> with_reducible first | rfl | assumption | exact fun _ h => h | exact fun _ _ => rfl | exact fun _ => rfl | exact fun h => h.elim)

theorem State.vidTick_keeps (hC : Settles noFld) {s : State} (hk : Keeps noFld False H u₀ s) :
    Keeps noFld False H u₀ (s.vidTick) := by
  unfold State.vidTick
  repeat' first
    | with_reducible assumption
    | (extract_lets +onlyGivenNames x; first | (refine (have hx : Keeps noFld False H u₀ x := ?_; ?_); subst x; rotate_left; clear_value x) | subst x)
    | with_reducible exact noFld_apart _
    | with_reducible exact noFld_ne _
    | with_reducible apply Keeps.wr
    | with_reducible apply Keeps.setReg
    | with_reducible apply Keeps.foldl
    | split
    | intro _
    | (with_reducible apply Keeps.lit <;> with_reducible first | rfl | assumption | exact fun _ h => h | exact fun _ _ => rfl | exact fun _ => rfl | exact fun h => h.elim)

theorem State.speedTick_keeps (hC : Settles noFld) {s : State} (hk : Keeps noFld False H u₀ s) :
    Keeps noFld False H u₀ (s.speedTick) := by
  unfold State.speedTick
  repeat' first
    | with_reducible assumption
    | (extract_lets +onlyGivenNames x; first | (refine (have hx : Keeps noFld False H u₀ x := ?_; ?_); subst x; rotate_left; clear_value x) | subst x)
    | with_reducible exact noFld_apart _
    | with_reducible exact noFld_ne _
    | with_reducible apply Keeps.wr
    | with_reducible apply Keeps.setReg
    | with_reducible apply Keeps.foldl
    | split
    | intro _
    | (with_reducible apply Keeps.lit <;> with_reducible first | rfl | assumption | exact fun _ h => h | exact fun _ _ => rfl | exact fun _ => rfl | exact fun h => h.elim)

theorem State.lfTick_keeps (hC : Settles noFld) {s : State} (hk : Keeps noFld False H u₀ s) :
    Keeps noFld False H u₀ (s.lfTick) := by
  unfold State.lfTick
  repeat' first
    | with_reducible assumption
    | (extract_lets +onlyGivenNames x; first | (refine (have hx : Keeps noFld False H u₀ x := ?_; ?_); subst x; rotate_left; clear_value x) | subst x)
    | with_reducible exact noFld_apart _
    | with_reducible exact noFld_ne _
    | with_reducible apply Keeps.wr
    | with_reducible apply Keeps.setReg
    | with_reducible apply Keeps.foldl
    | split
    | intro _
    | (with_reducible apply Keeps.lit <;> with_reducible first | rfl | assumption | exact fun _ h => h | exact fun _ _ => rfl | exact fun _ => rfl | exact fun h => h.elim)

/-- Time passes: the stores stay canonical, and nothing that only a command changes is touched. -/
theorem State.tick_keeps (hC : Settles noFld) {s : State} : Keeps noFld False H { s with clock := s.clock + 1 } s.tick := by
  unfold State.tick
  extract_lets w s₁ s₂
  have h₁ : Keeps noFld False H { s with clock := s.clock + 1 } s₁ :=
    (Keeps.refl _).same rfl rfl rfl rfl rfl rfl (fun h => h.elim) rfl rfl rfl rfl rfl
  have h₂ : Keeps noFld False H { s with clock := s.clock + 1 } s₂ := by
    unfold s₂
    split
    · exact h₁
    · exact State.lfTick_keeps hC h₁
  clear_value s₂
  split
  · exact State.speedTick_keeps hC (State.rampTick_keeps hC (State.vidTick_keeps hC h₂))
  · exact h₂

end Sys2Proof.Machine
end

