-- ==== Sys2Proof/Laws/Only.lean ====
section
/-! SUPPORT. The frames of register writes: `Safety.only w s t` through each operation that only writes registers, and what
an event leaves. -/

namespace Sys2Proof.Machine

variable {w : List Fld} {s t u : State}

theorem only_refl (w : List Fld) (s : State) : Safety.only w s s := ⟨rfl, fun _ _ => rfl, fun _ _ => rfl, fun _ => rfl⟩

theorem only_mono {w' : List Fld} (h : Safety.only w s t) (hw : ∀ g ∈ w, g ∈ w') : Safety.only w' s t :=
  ⟨h.1, fun f hf => h.2.1 f fun g hg => hf g (hw g hg), h.2.2⟩

theorem only_trans (h : Safety.only w s t) (k : Safety.only w t u) : Safety.only w s u := by
  refine ⟨?_, fun f hf => (k.2.1 f hf).trans (h.2.1 f hf), fun m a => (k.2.2.1 m a).trans (h.2.2.1 m a),
    fun a => (k.2.2.2 a).trans (h.2.2.2 a)⟩
  have h1 := h.1
  have k1 := k.1
  rw [h1] at k1
  exact k1

theorem only_setReg {a : Nat} {v : Word} (h : Safety.only w s t) (ha : ∀ f : Fld, (∀ g ∈ w, g.apart f = true) → f.addr ≠ a) :
    Safety.only w s (t.setReg a v) :=
  only_trans h ⟨rfl, fun f hf => by simp only [State.rd, State.reg_setReg, if_neg (Ne.symm (ha f hf))],
    fun m _ => by cases m <;> rfl, fun _ => rfl⟩

theorem only_wr {f : Fld} {v : Nat} (h : Safety.only w s t) (hf : f ∈ w := by simp) : Safety.only w s (t.wr f v) :=
  only_trans h ⟨rfl, fun g hg => State.rd_wr_apart _ _ _ _ (hg f hf), fun m _ => by cases m <;> rfl, fun _ => rfl⟩

theorem only_wrB {f : Fld} {b : Bool} (h : Safety.only w s t) (hf : f ∈ w := by simp) : Safety.only w s (t.wrB f b) := only_wr h hf

theorem only_wrI {f : Fld} {v : Int} (h : Safety.only w s t) (hf : f ∈ w := by simp) : Safety.only w s (t.wrI f v) := only_wr h hf

theorem only_bump {f : Fld} {n : Nat} (h : Safety.only w s t) (hf : f ∈ w := by simp) : Safety.only w s (t.bump f n) := only_wr h hf

theorem only_wrBit {f : Fld} {i : Nat} {b : Bool} (h : Safety.only w s t) (hf : f ∈ w := by simp) :
    Safety.only w s (t.wrBit f i b) := only_wr h hf

theorem only_ite {c : Prop} [Decidable c] (h : Safety.only w s t) (k : Safety.only w s u) :
    Safety.only w s (if c then t else u) := by
  split <;> assumption

theorem only_vec {v : Nat} (h : Safety.only w s t) (hf : VEC.PENDING_PENDING ∈ w := by simp) : Safety.only w s (t.vec v) := by
  unfold State.vec
  exact only_ite (only_wrBit h hf) h

theorem only_rodVec {r : Rod} (h : Safety.only w s t) (hf : VEC.PENDING_PENDING ∈ w := by simp) :
    Safety.only w s (t.rodVec r) := only_vec h hf

theorem only_evt {f : Fld} {r : Rod} (h : Safety.only w s t) (hf : f ∈ w := by simp)
    (hp : VEC.PENDING_PENDING ∈ w := by simp) : Safety.only w s (t.evt f r) := by
  unfold State.evt
  exact only_ite h (only_rodVec (only_wr h hf) hp)

theorem only_evtBit {f : Fld} {i : Nat} {r : Rod} (h : Safety.only w s t) (hf : f ∈ w := by simp)
    (hp : VEC.PENDING_PENDING ∈ w := by simp) : Safety.only w s (t.evtBit f i r) := by
  unfold State.evtBit
  exact only_ite h (only_rodVec (only_wrBit h hf) hp)

/-- Vectors change VEC.PENDING only. -/
theorem rd_vec (s : State) (v : Nat) (f : Fld) (h : VEC.PENDING_PENDING.apart f = true) : (s.vec v).rd f = s.rd f :=
  (only_vec (w := [VEC.PENDING_PENDING]) (only_refl _ s)).2.1 f (by simpa using h)

/-- What a vector leaves in VEC.PENDING depends on the registers VEC.ENABLE and VEC.PENDING and on the part alone. -/
theorem pending_vec_congr (s t : State) (v : Nat) (he : t.rd VEC.ENABLE_ENABLE = s.rd VEC.ENABLE_ENABLE)
    (hp : t.rd VEC.PENDING_PENDING = s.rd VEC.PENDING_PENDING) (hq : t.part = s.part) :
    (t.vec v).rd VEC.PENDING_PENDING = (s.vec v).rd VEC.PENDING_PENDING := by
  unfold State.vec State.rdBit
  rw [he, hq]
  split
  · simp only [State.wrBit, State.rd_wr _ VEC.PENDING_PENDING _ (by decide), hp]
  · exact hp

/-- An event of which `t` is the state before, seen from an earlier state `s`. -/
theorem event_evt {f : Fld} {r : Rod} (he : t.rd VEC.ENABLE_ENABLE = s.rd VEC.ENABLE_ENABLE)
    (hp : t.rd VEC.PENDING_PENDING = s.rd VEC.PENDING_PENDING) (hq : t.part = s.part) (hs : t.rd f = s.rd f)
    (hl : f.lo + f.wid ≤ 32 := by decide) (hw : 1 % 2 ^ f.wid = 1 := by decide)
    (ha : VEC.PENDING_PENDING.apart f = true := by decide) (hb : f.apart VEC.PENDING_PENDING = true := by decide)
    (hc : f.apart VEC.ENABLE_ENABLE = true := by decide) : Safety.event f r s (t.evt f r) := by
  have hF : t.flag f = s.flag f := by unfold State.flag; rw [hs]
  unfold Safety.event State.evt
  rw [hF]
  cases h : s.flag f
  · simp only [Bool.false_eq_true, if_false, State.rodVec]
    refine ⟨?_, pending_vec_congr _ _ _ ?_ ?_ ?_⟩
    · simp only [State.flag, rd_vec _ _ _ ha, State.rd_wr _ _ _ hl, hw]; rfl
    · rw [State.rd_wr_apart _ _ _ _ hc, he]
    · rw [State.rd_wr_apart _ _ _ _ hb, hp]
    · exact hq
  · simp only [if_true]
    exact ⟨hF.trans h, hp⟩

/-! ### A host access as a command of its own -/

theorem linkBegin_of_on (h : s.linkOn = true) : s.linkBegin = s.idleRestart := by
  simp only [State.linkOn, State.awake, Bool.and_eq_true, Bool.or_eq_true, Bool.not_eq_true', beq_iff_eq] at h
  obtain ⟨⟨⟨hr, hb⟩, -⟩, h0⟩ := h
  have hc : s.csFall = s := by rcases hb with hb | hb <;> simp [State.csFall, hb]
  have ha : s.awake = true := by rcases hb with hb | hb <;> simp [State.awake, hr, hb]
  simp only [State.linkBegin, hc]
  exact if_pos (by simp only [Bool.and_eq_true]; exact ⟨ha, h0⟩)

/-- Where the link executes a register write and the rod takes it, the write is all that happens beside the idle count. -/
theorem hostReg_takes {r : Rod} (h : Safety.takes s r) (f : State → State) : s.hostReg r f = f s.idleRestart := by
  obtain ⟨hl, hu, hh, hw⟩ := h
  unfold State.hostReg
  rw [linkBegin_of_on hl]
  have e1 : s.idleRestart.linkOn = true := hl
  have e2 : s.idleRestart.untrained = false := hu
  have e3 : s.idleRestart.has r = true := hh
  have e4 : s.idleRestart.writesBlocked r = false := hw
  simp [e1, e2, e3, e4]

end Sys2Proof.Machine
end

