-- ==== Sys2Proof/Laws/State.lean ====
section
/-! SUPPORT. Each update of the state seen through each field of it, so that no proof unfolds a record update. -/

namespace Sys2Proof.Machine

section SetReg
variable {s : State} {a : Nat} {w : Word}
@[simp] theorem State.setReg_part : (s.setReg a w).part = s.part := rfl
@[simp] theorem State.setReg_base : (s.setReg a w).base = s.base := rfl
@[simp] theorem State.setReg_boot : (s.setReg a w).boot = s.boot := rfl
@[simp] theorem State.setReg_clock : (s.setReg a w).clock = s.clock := rfl
@[simp] theorem State.setReg_sram : (s.setReg a w).sram = s.sram := rfl
@[simp] theorem State.setReg_keep : (s.setReg a w).keep = s.keep := rfl
@[simp] theorem State.setReg_flash : (s.setReg a w).flash = s.flash := rfl
@[simp] theorem State.setReg_sramUe : (s.setReg a w).sramUe = s.sramUe := rfl
@[simp] theorem State.setReg_sramCe : (s.setReg a w).sramCe = s.sramCe := rfl
@[simp] theorem State.setReg_keepUe : (s.setReg a w).keepUe = s.keepUe := rfl
@[simp] theorem State.setReg_keepCe : (s.setReg a w).keepCe = s.keepCe := rfl
@[simp] theorem State.setReg_otp : (s.setReg a w).otp = s.otp := rfl
@[simp] theorem State.setReg_img : (s.setReg a w).img = s.img := rfl
@[simp] theorem State.setReg_cmds : (s.setReg a w).cmds = s.cmds := rfl
@[simp] theorem State.setReg_queues : (s.setReg a w).queues = s.queues := rfl
@[simp] theorem State.setReg_fetchNext : (s.setReg a w).fetchNext = s.fetchNext := rfl
@[simp] theorem State.setReg_faults : (s.setReg a w).faults = s.faults := rfl
@[simp] theorem State.setReg_faultLog : (s.setReg a w).faultLog = s.faultLog := rfl
@[simp] theorem State.setReg_led : (s.setReg a w).led = s.led := rfl
@[simp] theorem State.setReg_fl : (s.setReg a w).fl = s.fl := rfl
@[simp] theorem State.setReg_clk : (s.setReg a w).clk = s.clk := rfl
@[simp] theorem State.setReg_wake : (s.setReg a w).wake = s.wake := rfl
@[simp] theorem State.setReg_sup : (s.setReg a w).sup = s.sup := rfl
@[simp] theorem State.setReg_bg : (s.setReg a w).bg = s.bg := rfl
@[simp] theorem State.setReg_therm : (s.setReg a w).therm = s.therm := rfl
@[simp] theorem State.setReg_raster : (s.setReg a w).raster = s.raster := rfl
@[simp] theorem State.setReg_print : (s.setReg a w).print = s.print := rfl
@[simp] theorem State.setReg_feed : (s.setReg a w).feed = s.feed := rfl
@[simp] theorem State.setReg_cut : (s.setReg a w).cut = s.cut := rfl
@[simp] theorem State.setReg_loops : (s.setReg a w).loops = s.loops := rfl
@[simp] theorem State.setReg_chans : (s.setReg a w).chans = s.chans := rfl
@[simp] theorem State.setReg_vid : (s.setReg a w).vid = s.vid := rfl
@[simp] theorem State.setReg_scan : (s.setReg a w).scan = s.scan := rfl
@[simp] theorem State.setReg_enc : (s.setReg a w).enc = s.enc := rfl
@[simp] theorem State.setReg_dec : (s.setReg a w).dec = s.dec := rfl
@[simp] theorem State.setReg_accel : (s.setReg a w).accel = s.accel := rfl
@[simp] theorem State.setReg_reply : (s.setReg a w).reply = s.reply := rfl
@[simp] theorem State.setReg_free : (s.setReg a w).free = s.free := rfl
@[simp] theorem State.setReg_pending : (s.setReg a w).pending = s.pending := rfl
end SetReg

section Wr
variable {s : State} {g : Fld} {v : Nat}
@[simp] theorem State.wr_part : (s.wr g v).part = s.part := rfl
@[simp] theorem State.wr_base : (s.wr g v).base = s.base := rfl
@[simp] theorem State.wr_boot : (s.wr g v).boot = s.boot := rfl
@[simp] theorem State.wr_clock : (s.wr g v).clock = s.clock := rfl
@[simp] theorem State.wr_sram : (s.wr g v).sram = s.sram := rfl
@[simp] theorem State.wr_keep : (s.wr g v).keep = s.keep := rfl
@[simp] theorem State.wr_flash : (s.wr g v).flash = s.flash := rfl
@[simp] theorem State.wr_sramUe : (s.wr g v).sramUe = s.sramUe := rfl
@[simp] theorem State.wr_sramCe : (s.wr g v).sramCe = s.sramCe := rfl
@[simp] theorem State.wr_keepUe : (s.wr g v).keepUe = s.keepUe := rfl
@[simp] theorem State.wr_keepCe : (s.wr g v).keepCe = s.keepCe := rfl
@[simp] theorem State.wr_otp : (s.wr g v).otp = s.otp := rfl
@[simp] theorem State.wr_img : (s.wr g v).img = s.img := rfl
@[simp] theorem State.wr_cmds : (s.wr g v).cmds = s.cmds := rfl
@[simp] theorem State.wr_queues : (s.wr g v).queues = s.queues := rfl
@[simp] theorem State.wr_fetchNext : (s.wr g v).fetchNext = s.fetchNext := rfl
@[simp] theorem State.wr_faults : (s.wr g v).faults = s.faults := rfl
@[simp] theorem State.wr_faultLog : (s.wr g v).faultLog = s.faultLog := rfl
@[simp] theorem State.wr_led : (s.wr g v).led = s.led := rfl
@[simp] theorem State.wr_fl : (s.wr g v).fl = s.fl := rfl
@[simp] theorem State.wr_clk : (s.wr g v).clk = s.clk := rfl
@[simp] theorem State.wr_wake : (s.wr g v).wake = s.wake := rfl
@[simp] theorem State.wr_sup : (s.wr g v).sup = s.sup := rfl
@[simp] theorem State.wr_bg : (s.wr g v).bg = s.bg := rfl
@[simp] theorem State.wr_therm : (s.wr g v).therm = s.therm := rfl
@[simp] theorem State.wr_raster : (s.wr g v).raster = s.raster := rfl
@[simp] theorem State.wr_print : (s.wr g v).print = s.print := rfl
@[simp] theorem State.wr_feed : (s.wr g v).feed = s.feed := rfl
@[simp] theorem State.wr_cut : (s.wr g v).cut = s.cut := rfl
@[simp] theorem State.wr_loops : (s.wr g v).loops = s.loops := rfl
@[simp] theorem State.wr_chans : (s.wr g v).chans = s.chans := rfl
@[simp] theorem State.wr_vid : (s.wr g v).vid = s.vid := rfl
@[simp] theorem State.wr_scan : (s.wr g v).scan = s.scan := rfl
@[simp] theorem State.wr_enc : (s.wr g v).enc = s.enc := rfl
@[simp] theorem State.wr_dec : (s.wr g v).dec = s.dec := rfl
@[simp] theorem State.wr_accel : (s.wr g v).accel = s.accel := rfl
@[simp] theorem State.wr_reply : (s.wr g v).reply = s.reply := rfl
@[simp] theorem State.wr_free : (s.wr g v).free = s.free := rfl
@[simp] theorem State.wr_pending : (s.wr g v).pending = s.pending := rfl
end Wr

section WrI
variable {s : State} {g : Fld} {v : Int}
@[simp] theorem State.wrI_part : (s.wrI g v).part = s.part := rfl
@[simp] theorem State.wrI_base : (s.wrI g v).base = s.base := rfl
@[simp] theorem State.wrI_boot : (s.wrI g v).boot = s.boot := rfl
@[simp] theorem State.wrI_clock : (s.wrI g v).clock = s.clock := rfl
@[simp] theorem State.wrI_sram : (s.wrI g v).sram = s.sram := rfl
@[simp] theorem State.wrI_keep : (s.wrI g v).keep = s.keep := rfl
@[simp] theorem State.wrI_flash : (s.wrI g v).flash = s.flash := rfl
@[simp] theorem State.wrI_sramUe : (s.wrI g v).sramUe = s.sramUe := rfl
@[simp] theorem State.wrI_sramCe : (s.wrI g v).sramCe = s.sramCe := rfl
@[simp] theorem State.wrI_keepUe : (s.wrI g v).keepUe = s.keepUe := rfl
@[simp] theorem State.wrI_keepCe : (s.wrI g v).keepCe = s.keepCe := rfl
@[simp] theorem State.wrI_otp : (s.wrI g v).otp = s.otp := rfl
@[simp] theorem State.wrI_img : (s.wrI g v).img = s.img := rfl
@[simp] theorem State.wrI_cmds : (s.wrI g v).cmds = s.cmds := rfl
@[simp] theorem State.wrI_queues : (s.wrI g v).queues = s.queues := rfl
@[simp] theorem State.wrI_fetchNext : (s.wrI g v).fetchNext = s.fetchNext := rfl
@[simp] theorem State.wrI_faults : (s.wrI g v).faults = s.faults := rfl
@[simp] theorem State.wrI_faultLog : (s.wrI g v).faultLog = s.faultLog := rfl
@[simp] theorem State.wrI_led : (s.wrI g v).led = s.led := rfl
@[simp] theorem State.wrI_fl : (s.wrI g v).fl = s.fl := rfl
@[simp] theorem State.wrI_clk : (s.wrI g v).clk = s.clk := rfl
@[simp] theorem State.wrI_wake : (s.wrI g v).wake = s.wake := rfl
@[simp] theorem State.wrI_sup : (s.wrI g v).sup = s.sup := rfl
@[simp] theorem State.wrI_bg : (s.wrI g v).bg = s.bg := rfl
@[simp] theorem State.wrI_therm : (s.wrI g v).therm = s.therm := rfl
@[simp] theorem State.wrI_raster : (s.wrI g v).raster = s.raster := rfl
@[simp] theorem State.wrI_print : (s.wrI g v).print = s.print := rfl
@[simp] theorem State.wrI_feed : (s.wrI g v).feed = s.feed := rfl
@[simp] theorem State.wrI_cut : (s.wrI g v).cut = s.cut := rfl
@[simp] theorem State.wrI_loops : (s.wrI g v).loops = s.loops := rfl
@[simp] theorem State.wrI_chans : (s.wrI g v).chans = s.chans := rfl
@[simp] theorem State.wrI_vid : (s.wrI g v).vid = s.vid := rfl
@[simp] theorem State.wrI_scan : (s.wrI g v).scan = s.scan := rfl
@[simp] theorem State.wrI_enc : (s.wrI g v).enc = s.enc := rfl
@[simp] theorem State.wrI_dec : (s.wrI g v).dec = s.dec := rfl
@[simp] theorem State.wrI_accel : (s.wrI g v).accel = s.accel := rfl
@[simp] theorem State.wrI_reply : (s.wrI g v).reply = s.reply := rfl
@[simp] theorem State.wrI_free : (s.wrI g v).free = s.free := rfl
@[simp] theorem State.wrI_pending : (s.wrI g v).pending = s.pending := rfl
end WrI

section WrB
variable {s : State} {g : Fld} {b : Bool}
@[simp] theorem State.wrB_part : (s.wrB g b).part = s.part := rfl
@[simp] theorem State.wrB_base : (s.wrB g b).base = s.base := rfl
@[simp] theorem State.wrB_boot : (s.wrB g b).boot = s.boot := rfl
@[simp] theorem State.wrB_clock : (s.wrB g b).clock = s.clock := rfl
@[simp] theorem State.wrB_sram : (s.wrB g b).sram = s.sram := rfl
@[simp] theorem State.wrB_keep : (s.wrB g b).keep = s.keep := rfl
@[simp] theorem State.wrB_flash : (s.wrB g b).flash = s.flash := rfl
@[simp] theorem State.wrB_sramUe : (s.wrB g b).sramUe = s.sramUe := rfl
@[simp] theorem State.wrB_sramCe : (s.wrB g b).sramCe = s.sramCe := rfl
@[simp] theorem State.wrB_keepUe : (s.wrB g b).keepUe = s.keepUe := rfl
@[simp] theorem State.wrB_keepCe : (s.wrB g b).keepCe = s.keepCe := rfl
@[simp] theorem State.wrB_otp : (s.wrB g b).otp = s.otp := rfl
@[simp] theorem State.wrB_img : (s.wrB g b).img = s.img := rfl
@[simp] theorem State.wrB_cmds : (s.wrB g b).cmds = s.cmds := rfl
@[simp] theorem State.wrB_queues : (s.wrB g b).queues = s.queues := rfl
@[simp] theorem State.wrB_fetchNext : (s.wrB g b).fetchNext = s.fetchNext := rfl
@[simp] theorem State.wrB_faults : (s.wrB g b).faults = s.faults := rfl
@[simp] theorem State.wrB_faultLog : (s.wrB g b).faultLog = s.faultLog := rfl
@[simp] theorem State.wrB_led : (s.wrB g b).led = s.led := rfl
@[simp] theorem State.wrB_fl : (s.wrB g b).fl = s.fl := rfl
@[simp] theorem State.wrB_clk : (s.wrB g b).clk = s.clk := rfl
@[simp] theorem State.wrB_wake : (s.wrB g b).wake = s.wake := rfl
@[simp] theorem State.wrB_sup : (s.wrB g b).sup = s.sup := rfl
@[simp] theorem State.wrB_bg : (s.wrB g b).bg = s.bg := rfl
@[simp] theorem State.wrB_therm : (s.wrB g b).therm = s.therm := rfl
@[simp] theorem State.wrB_raster : (s.wrB g b).raster = s.raster := rfl
@[simp] theorem State.wrB_print : (s.wrB g b).print = s.print := rfl
@[simp] theorem State.wrB_feed : (s.wrB g b).feed = s.feed := rfl
@[simp] theorem State.wrB_cut : (s.wrB g b).cut = s.cut := rfl
@[simp] theorem State.wrB_loops : (s.wrB g b).loops = s.loops := rfl
@[simp] theorem State.wrB_chans : (s.wrB g b).chans = s.chans := rfl
@[simp] theorem State.wrB_vid : (s.wrB g b).vid = s.vid := rfl
@[simp] theorem State.wrB_scan : (s.wrB g b).scan = s.scan := rfl
@[simp] theorem State.wrB_enc : (s.wrB g b).enc = s.enc := rfl
@[simp] theorem State.wrB_dec : (s.wrB g b).dec = s.dec := rfl
@[simp] theorem State.wrB_accel : (s.wrB g b).accel = s.accel := rfl
@[simp] theorem State.wrB_reply : (s.wrB g b).reply = s.reply := rfl
@[simp] theorem State.wrB_free : (s.wrB g b).free = s.free := rfl
@[simp] theorem State.wrB_pending : (s.wrB g b).pending = s.pending := rfl
end WrB

section Bump
variable {s : State} {g : Fld} {n : Nat}
@[simp] theorem State.bump_part : (s.bump g n).part = s.part := rfl
@[simp] theorem State.bump_base : (s.bump g n).base = s.base := rfl
@[simp] theorem State.bump_boot : (s.bump g n).boot = s.boot := rfl
@[simp] theorem State.bump_clock : (s.bump g n).clock = s.clock := rfl
@[simp] theorem State.bump_sram : (s.bump g n).sram = s.sram := rfl
@[simp] theorem State.bump_keep : (s.bump g n).keep = s.keep := rfl
@[simp] theorem State.bump_flash : (s.bump g n).flash = s.flash := rfl
@[simp] theorem State.bump_sramUe : (s.bump g n).sramUe = s.sramUe := rfl
@[simp] theorem State.bump_sramCe : (s.bump g n).sramCe = s.sramCe := rfl
@[simp] theorem State.bump_keepUe : (s.bump g n).keepUe = s.keepUe := rfl
@[simp] theorem State.bump_keepCe : (s.bump g n).keepCe = s.keepCe := rfl
@[simp] theorem State.bump_otp : (s.bump g n).otp = s.otp := rfl
@[simp] theorem State.bump_img : (s.bump g n).img = s.img := rfl
@[simp] theorem State.bump_cmds : (s.bump g n).cmds = s.cmds := rfl
@[simp] theorem State.bump_queues : (s.bump g n).queues = s.queues := rfl
@[simp] theorem State.bump_fetchNext : (s.bump g n).fetchNext = s.fetchNext := rfl
@[simp] theorem State.bump_faults : (s.bump g n).faults = s.faults := rfl
@[simp] theorem State.bump_faultLog : (s.bump g n).faultLog = s.faultLog := rfl
@[simp] theorem State.bump_led : (s.bump g n).led = s.led := rfl
@[simp] theorem State.bump_fl : (s.bump g n).fl = s.fl := rfl
@[simp] theorem State.bump_clk : (s.bump g n).clk = s.clk := rfl
@[simp] theorem State.bump_wake : (s.bump g n).wake = s.wake := rfl
@[simp] theorem State.bump_sup : (s.bump g n).sup = s.sup := rfl
@[simp] theorem State.bump_bg : (s.bump g n).bg = s.bg := rfl
@[simp] theorem State.bump_therm : (s.bump g n).therm = s.therm := rfl
@[simp] theorem State.bump_raster : (s.bump g n).raster = s.raster := rfl
@[simp] theorem State.bump_print : (s.bump g n).print = s.print := rfl
@[simp] theorem State.bump_feed : (s.bump g n).feed = s.feed := rfl
@[simp] theorem State.bump_cut : (s.bump g n).cut = s.cut := rfl
@[simp] theorem State.bump_loops : (s.bump g n).loops = s.loops := rfl
@[simp] theorem State.bump_chans : (s.bump g n).chans = s.chans := rfl
@[simp] theorem State.bump_vid : (s.bump g n).vid = s.vid := rfl
@[simp] theorem State.bump_scan : (s.bump g n).scan = s.scan := rfl
@[simp] theorem State.bump_enc : (s.bump g n).enc = s.enc := rfl
@[simp] theorem State.bump_dec : (s.bump g n).dec = s.dec := rfl
@[simp] theorem State.bump_accel : (s.bump g n).accel = s.accel := rfl
@[simp] theorem State.bump_reply : (s.bump g n).reply = s.reply := rfl
@[simp] theorem State.bump_free : (s.bump g n).free = s.free := rfl
@[simp] theorem State.bump_pending : (s.bump g n).pending = s.pending := rfl
end Bump

section WrBit
variable {s : State} {g : Fld} {i : Nat} {b : Bool}
@[simp] theorem State.wrBit_part : (s.wrBit g i b).part = s.part := rfl
@[simp] theorem State.wrBit_base : (s.wrBit g i b).base = s.base := rfl
@[simp] theorem State.wrBit_boot : (s.wrBit g i b).boot = s.boot := rfl
@[simp] theorem State.wrBit_clock : (s.wrBit g i b).clock = s.clock := rfl
@[simp] theorem State.wrBit_sram : (s.wrBit g i b).sram = s.sram := rfl
@[simp] theorem State.wrBit_keep : (s.wrBit g i b).keep = s.keep := rfl
@[simp] theorem State.wrBit_flash : (s.wrBit g i b).flash = s.flash := rfl
@[simp] theorem State.wrBit_sramUe : (s.wrBit g i b).sramUe = s.sramUe := rfl
@[simp] theorem State.wrBit_sramCe : (s.wrBit g i b).sramCe = s.sramCe := rfl
@[simp] theorem State.wrBit_keepUe : (s.wrBit g i b).keepUe = s.keepUe := rfl
@[simp] theorem State.wrBit_keepCe : (s.wrBit g i b).keepCe = s.keepCe := rfl
@[simp] theorem State.wrBit_otp : (s.wrBit g i b).otp = s.otp := rfl
@[simp] theorem State.wrBit_img : (s.wrBit g i b).img = s.img := rfl
@[simp] theorem State.wrBit_cmds : (s.wrBit g i b).cmds = s.cmds := rfl
@[simp] theorem State.wrBit_queues : (s.wrBit g i b).queues = s.queues := rfl
@[simp] theorem State.wrBit_fetchNext : (s.wrBit g i b).fetchNext = s.fetchNext := rfl
@[simp] theorem State.wrBit_faults : (s.wrBit g i b).faults = s.faults := rfl
@[simp] theorem State.wrBit_faultLog : (s.wrBit g i b).faultLog = s.faultLog := rfl
@[simp] theorem State.wrBit_led : (s.wrBit g i b).led = s.led := rfl
@[simp] theorem State.wrBit_fl : (s.wrBit g i b).fl = s.fl := rfl
@[simp] theorem State.wrBit_clk : (s.wrBit g i b).clk = s.clk := rfl
@[simp] theorem State.wrBit_wake : (s.wrBit g i b).wake = s.wake := rfl
@[simp] theorem State.wrBit_sup : (s.wrBit g i b).sup = s.sup := rfl
@[simp] theorem State.wrBit_bg : (s.wrBit g i b).bg = s.bg := rfl
@[simp] theorem State.wrBit_therm : (s.wrBit g i b).therm = s.therm := rfl
@[simp] theorem State.wrBit_raster : (s.wrBit g i b).raster = s.raster := rfl
@[simp] theorem State.wrBit_print : (s.wrBit g i b).print = s.print := rfl
@[simp] theorem State.wrBit_feed : (s.wrBit g i b).feed = s.feed := rfl
@[simp] theorem State.wrBit_cut : (s.wrBit g i b).cut = s.cut := rfl
@[simp] theorem State.wrBit_loops : (s.wrBit g i b).loops = s.loops := rfl
@[simp] theorem State.wrBit_chans : (s.wrBit g i b).chans = s.chans := rfl
@[simp] theorem State.wrBit_vid : (s.wrBit g i b).vid = s.vid := rfl
@[simp] theorem State.wrBit_scan : (s.wrBit g i b).scan = s.scan := rfl
@[simp] theorem State.wrBit_enc : (s.wrBit g i b).enc = s.enc := rfl
@[simp] theorem State.wrBit_dec : (s.wrBit g i b).dec = s.dec := rfl
@[simp] theorem State.wrBit_accel : (s.wrBit g i b).accel = s.accel := rfl
@[simp] theorem State.wrBit_reply : (s.wrBit g i b).reply = s.reply := rfl
@[simp] theorem State.wrBit_free : (s.wrBit g i b).free = s.free := rfl
@[simp] theorem State.wrBit_pending : (s.wrBit g i b).pending = s.pending := rfl
end WrBit

section SetBg
variable {s : State} {k : Bg → Bg}
@[simp] theorem State.setBg_part : (s.setBg k).part = s.part := rfl
@[simp] theorem State.setBg_base : (s.setBg k).base = s.base := rfl
@[simp] theorem State.setBg_boot : (s.setBg k).boot = s.boot := rfl
@[simp] theorem State.setBg_clock : (s.setBg k).clock = s.clock := rfl
@[simp] theorem State.setBg_regs : (s.setBg k).regs = s.regs := rfl
@[simp] theorem State.setBg_sram : (s.setBg k).sram = s.sram := rfl
@[simp] theorem State.setBg_keep : (s.setBg k).keep = s.keep := rfl
@[simp] theorem State.setBg_flash : (s.setBg k).flash = s.flash := rfl
@[simp] theorem State.setBg_sramUe : (s.setBg k).sramUe = s.sramUe := rfl
@[simp] theorem State.setBg_sramCe : (s.setBg k).sramCe = s.sramCe := rfl
@[simp] theorem State.setBg_keepUe : (s.setBg k).keepUe = s.keepUe := rfl
@[simp] theorem State.setBg_keepCe : (s.setBg k).keepCe = s.keepCe := rfl
@[simp] theorem State.setBg_otp : (s.setBg k).otp = s.otp := rfl
@[simp] theorem State.setBg_img : (s.setBg k).img = s.img := rfl
@[simp] theorem State.setBg_cmds : (s.setBg k).cmds = s.cmds := rfl
@[simp] theorem State.setBg_queues : (s.setBg k).queues = s.queues := rfl
@[simp] theorem State.setBg_fetchNext : (s.setBg k).fetchNext = s.fetchNext := rfl
@[simp] theorem State.setBg_faults : (s.setBg k).faults = s.faults := rfl
@[simp] theorem State.setBg_faultLog : (s.setBg k).faultLog = s.faultLog := rfl
@[simp] theorem State.setBg_led : (s.setBg k).led = s.led := rfl
@[simp] theorem State.setBg_fl : (s.setBg k).fl = s.fl := rfl
@[simp] theorem State.setBg_clk : (s.setBg k).clk = s.clk := rfl
@[simp] theorem State.setBg_wake : (s.setBg k).wake = s.wake := rfl
@[simp] theorem State.setBg_sup : (s.setBg k).sup = s.sup := rfl
@[simp] theorem State.setBg_bg : (s.setBg k).bg = k s.bg := rfl
@[simp] theorem State.setBg_therm : (s.setBg k).therm = s.therm := rfl
@[simp] theorem State.setBg_raster : (s.setBg k).raster = s.raster := rfl
@[simp] theorem State.setBg_print : (s.setBg k).print = s.print := rfl
@[simp] theorem State.setBg_feed : (s.setBg k).feed = s.feed := rfl
@[simp] theorem State.setBg_cut : (s.setBg k).cut = s.cut := rfl
@[simp] theorem State.setBg_loops : (s.setBg k).loops = s.loops := rfl
@[simp] theorem State.setBg_chans : (s.setBg k).chans = s.chans := rfl
@[simp] theorem State.setBg_vid : (s.setBg k).vid = s.vid := rfl
@[simp] theorem State.setBg_scan : (s.setBg k).scan = s.scan := rfl
@[simp] theorem State.setBg_enc : (s.setBg k).enc = s.enc := rfl
@[simp] theorem State.setBg_dec : (s.setBg k).dec = s.dec := rfl
@[simp] theorem State.setBg_accel : (s.setBg k).accel = s.accel := rfl
@[simp] theorem State.setBg_reply : (s.setBg k).reply = s.reply := rfl
@[simp] theorem State.setBg_free : (s.setBg k).free = s.free := rfl
@[simp] theorem State.setBg_pending : (s.setBg k).pending = s.pending := rfl
@[simp] theorem State.setBg_rd(x : Fld) : (s.setBg k).rd x = s.rd x := rfl
end SetBg

section SetClk
variable {s : State} {k : Clk → Clk}
@[simp] theorem State.setClk_part : (s.setClk k).part = s.part := rfl
@[simp] theorem State.setClk_base : (s.setClk k).base = s.base := rfl
@[simp] theorem State.setClk_boot : (s.setClk k).boot = s.boot := rfl
@[simp] theorem State.setClk_clock : (s.setClk k).clock = s.clock := rfl
@[simp] theorem State.setClk_regs : (s.setClk k).regs = s.regs := rfl
@[simp] theorem State.setClk_sram : (s.setClk k).sram = s.sram := rfl
@[simp] theorem State.setClk_keep : (s.setClk k).keep = s.keep := rfl
@[simp] theorem State.setClk_flash : (s.setClk k).flash = s.flash := rfl
@[simp] theorem State.setClk_sramUe : (s.setClk k).sramUe = s.sramUe := rfl
@[simp] theorem State.setClk_sramCe : (s.setClk k).sramCe = s.sramCe := rfl
@[simp] theorem State.setClk_keepUe : (s.setClk k).keepUe = s.keepUe := rfl
@[simp] theorem State.setClk_keepCe : (s.setClk k).keepCe = s.keepCe := rfl
@[simp] theorem State.setClk_otp : (s.setClk k).otp = s.otp := rfl
@[simp] theorem State.setClk_img : (s.setClk k).img = s.img := rfl
@[simp] theorem State.setClk_cmds : (s.setClk k).cmds = s.cmds := rfl
@[simp] theorem State.setClk_queues : (s.setClk k).queues = s.queues := rfl
@[simp] theorem State.setClk_fetchNext : (s.setClk k).fetchNext = s.fetchNext := rfl
@[simp] theorem State.setClk_faults : (s.setClk k).faults = s.faults := rfl
@[simp] theorem State.setClk_faultLog : (s.setClk k).faultLog = s.faultLog := rfl
@[simp] theorem State.setClk_led : (s.setClk k).led = s.led := rfl
@[simp] theorem State.setClk_fl : (s.setClk k).fl = s.fl := rfl
@[simp] theorem State.setClk_clk : (s.setClk k).clk = k s.clk := rfl
@[simp] theorem State.setClk_wake : (s.setClk k).wake = s.wake := rfl
@[simp] theorem State.setClk_sup : (s.setClk k).sup = s.sup := rfl
@[simp] theorem State.setClk_bg : (s.setClk k).bg = s.bg := rfl
@[simp] theorem State.setClk_therm : (s.setClk k).therm = s.therm := rfl
@[simp] theorem State.setClk_raster : (s.setClk k).raster = s.raster := rfl
@[simp] theorem State.setClk_print : (s.setClk k).print = s.print := rfl
@[simp] theorem State.setClk_feed : (s.setClk k).feed = s.feed := rfl
@[simp] theorem State.setClk_cut : (s.setClk k).cut = s.cut := rfl
@[simp] theorem State.setClk_loops : (s.setClk k).loops = s.loops := rfl
@[simp] theorem State.setClk_chans : (s.setClk k).chans = s.chans := rfl
@[simp] theorem State.setClk_vid : (s.setClk k).vid = s.vid := rfl
@[simp] theorem State.setClk_scan : (s.setClk k).scan = s.scan := rfl
@[simp] theorem State.setClk_enc : (s.setClk k).enc = s.enc := rfl
@[simp] theorem State.setClk_dec : (s.setClk k).dec = s.dec := rfl
@[simp] theorem State.setClk_accel : (s.setClk k).accel = s.accel := rfl
@[simp] theorem State.setClk_reply : (s.setClk k).reply = s.reply := rfl
@[simp] theorem State.setClk_free : (s.setClk k).free = s.free := rfl
@[simp] theorem State.setClk_pending : (s.setClk k).pending = s.pending := rfl
@[simp] theorem State.setClk_rd(x : Fld) : (s.setClk k).rd x = s.rd x := rfl
end SetClk

section SetVid
variable {s : State} {k : Vid → Vid}
@[simp] theorem State.setVid_part : (s.setVid k).part = s.part := rfl
@[simp] theorem State.setVid_base : (s.setVid k).base = s.base := rfl
@[simp] theorem State.setVid_boot : (s.setVid k).boot = s.boot := rfl
@[simp] theorem State.setVid_clock : (s.setVid k).clock = s.clock := rfl
@[simp] theorem State.setVid_regs : (s.setVid k).regs = s.regs := rfl
@[simp] theorem State.setVid_sram : (s.setVid k).sram = s.sram := rfl
@[simp] theorem State.setVid_keep : (s.setVid k).keep = s.keep := rfl
@[simp] theorem State.setVid_flash : (s.setVid k).flash = s.flash := rfl
@[simp] theorem State.setVid_sramUe : (s.setVid k).sramUe = s.sramUe := rfl
@[simp] theorem State.setVid_sramCe : (s.setVid k).sramCe = s.sramCe := rfl
@[simp] theorem State.setVid_keepUe : (s.setVid k).keepUe = s.keepUe := rfl
@[simp] theorem State.setVid_keepCe : (s.setVid k).keepCe = s.keepCe := rfl
@[simp] theorem State.setVid_otp : (s.setVid k).otp = s.otp := rfl
@[simp] theorem State.setVid_img : (s.setVid k).img = s.img := rfl
@[simp] theorem State.setVid_cmds : (s.setVid k).cmds = s.cmds := rfl
@[simp] theorem State.setVid_queues : (s.setVid k).queues = s.queues := rfl
@[simp] theorem State.setVid_fetchNext : (s.setVid k).fetchNext = s.fetchNext := rfl
@[simp] theorem State.setVid_faults : (s.setVid k).faults = s.faults := rfl
@[simp] theorem State.setVid_faultLog : (s.setVid k).faultLog = s.faultLog := rfl
@[simp] theorem State.setVid_led : (s.setVid k).led = s.led := rfl
@[simp] theorem State.setVid_fl : (s.setVid k).fl = s.fl := rfl
@[simp] theorem State.setVid_clk : (s.setVid k).clk = s.clk := rfl
@[simp] theorem State.setVid_wake : (s.setVid k).wake = s.wake := rfl
@[simp] theorem State.setVid_sup : (s.setVid k).sup = s.sup := rfl
@[simp] theorem State.setVid_bg : (s.setVid k).bg = s.bg := rfl
@[simp] theorem State.setVid_therm : (s.setVid k).therm = s.therm := rfl
@[simp] theorem State.setVid_raster : (s.setVid k).raster = s.raster := rfl
@[simp] theorem State.setVid_print : (s.setVid k).print = s.print := rfl
@[simp] theorem State.setVid_feed : (s.setVid k).feed = s.feed := rfl
@[simp] theorem State.setVid_cut : (s.setVid k).cut = s.cut := rfl
@[simp] theorem State.setVid_loops : (s.setVid k).loops = s.loops := rfl
@[simp] theorem State.setVid_chans : (s.setVid k).chans = s.chans := rfl
@[simp] theorem State.setVid_vid : (s.setVid k).vid = k s.vid := rfl
@[simp] theorem State.setVid_scan : (s.setVid k).scan = s.scan := rfl
@[simp] theorem State.setVid_enc : (s.setVid k).enc = s.enc := rfl
@[simp] theorem State.setVid_dec : (s.setVid k).dec = s.dec := rfl
@[simp] theorem State.setVid_accel : (s.setVid k).accel = s.accel := rfl
@[simp] theorem State.setVid_reply : (s.setVid k).reply = s.reply := rfl
@[simp] theorem State.setVid_free : (s.setVid k).free = s.free := rfl
@[simp] theorem State.setVid_pending : (s.setVid k).pending = s.pending := rfl
@[simp] theorem State.setVid_rd(x : Fld) : (s.setVid k).rd x = s.rd x := rfl
end SetVid

section SetScan
variable {s : State} {k : ScanSt → ScanSt}
@[simp] theorem State.setScan_part : (s.setScan k).part = s.part := rfl
@[simp] theorem State.setScan_base : (s.setScan k).base = s.base := rfl
@[simp] theorem State.setScan_boot : (s.setScan k).boot = s.boot := rfl
@[simp] theorem State.setScan_clock : (s.setScan k).clock = s.clock := rfl
@[simp] theorem State.setScan_regs : (s.setScan k).regs = s.regs := rfl
@[simp] theorem State.setScan_sram : (s.setScan k).sram = s.sram := rfl
@[simp] theorem State.setScan_keep : (s.setScan k).keep = s.keep := rfl
@[simp] theorem State.setScan_flash : (s.setScan k).flash = s.flash := rfl
@[simp] theorem State.setScan_sramUe : (s.setScan k).sramUe = s.sramUe := rfl
@[simp] theorem State.setScan_sramCe : (s.setScan k).sramCe = s.sramCe := rfl
@[simp] theorem State.setScan_keepUe : (s.setScan k).keepUe = s.keepUe := rfl
@[simp] theorem State.setScan_keepCe : (s.setScan k).keepCe = s.keepCe := rfl
@[simp] theorem State.setScan_otp : (s.setScan k).otp = s.otp := rfl
@[simp] theorem State.setScan_img : (s.setScan k).img = s.img := rfl
@[simp] theorem State.setScan_cmds : (s.setScan k).cmds = s.cmds := rfl
@[simp] theorem State.setScan_queues : (s.setScan k).queues = s.queues := rfl
@[simp] theorem State.setScan_fetchNext : (s.setScan k).fetchNext = s.fetchNext := rfl
@[simp] theorem State.setScan_faults : (s.setScan k).faults = s.faults := rfl
@[simp] theorem State.setScan_faultLog : (s.setScan k).faultLog = s.faultLog := rfl
@[simp] theorem State.setScan_led : (s.setScan k).led = s.led := rfl
@[simp] theorem State.setScan_fl : (s.setScan k).fl = s.fl := rfl
@[simp] theorem State.setScan_clk : (s.setScan k).clk = s.clk := rfl
@[simp] theorem State.setScan_wake : (s.setScan k).wake = s.wake := rfl
@[simp] theorem State.setScan_sup : (s.setScan k).sup = s.sup := rfl
@[simp] theorem State.setScan_bg : (s.setScan k).bg = s.bg := rfl
@[simp] theorem State.setScan_therm : (s.setScan k).therm = s.therm := rfl
@[simp] theorem State.setScan_raster : (s.setScan k).raster = s.raster := rfl
@[simp] theorem State.setScan_print : (s.setScan k).print = s.print := rfl
@[simp] theorem State.setScan_feed : (s.setScan k).feed = s.feed := rfl
@[simp] theorem State.setScan_cut : (s.setScan k).cut = s.cut := rfl
@[simp] theorem State.setScan_loops : (s.setScan k).loops = s.loops := rfl
@[simp] theorem State.setScan_chans : (s.setScan k).chans = s.chans := rfl
@[simp] theorem State.setScan_vid : (s.setScan k).vid = s.vid := rfl
@[simp] theorem State.setScan_scan : (s.setScan k).scan = k s.scan := rfl
@[simp] theorem State.setScan_enc : (s.setScan k).enc = s.enc := rfl
@[simp] theorem State.setScan_dec : (s.setScan k).dec = s.dec := rfl
@[simp] theorem State.setScan_accel : (s.setScan k).accel = s.accel := rfl
@[simp] theorem State.setScan_reply : (s.setScan k).reply = s.reply := rfl
@[simp] theorem State.setScan_free : (s.setScan k).free = s.free := rfl
@[simp] theorem State.setScan_pending : (s.setScan k).pending = s.pending := rfl
@[simp] theorem State.setScan_rd(x : Fld) : (s.setScan k).rd x = s.rd x := rfl
end SetScan

section SetEnc
variable {s : State} {k : Enc → Enc}
@[simp] theorem State.setEnc_part : (s.setEnc k).part = s.part := rfl
@[simp] theorem State.setEnc_base : (s.setEnc k).base = s.base := rfl
@[simp] theorem State.setEnc_boot : (s.setEnc k).boot = s.boot := rfl
@[simp] theorem State.setEnc_clock : (s.setEnc k).clock = s.clock := rfl
@[simp] theorem State.setEnc_regs : (s.setEnc k).regs = s.regs := rfl
@[simp] theorem State.setEnc_sram : (s.setEnc k).sram = s.sram := rfl
@[simp] theorem State.setEnc_keep : (s.setEnc k).keep = s.keep := rfl
@[simp] theorem State.setEnc_flash : (s.setEnc k).flash = s.flash := rfl
@[simp] theorem State.setEnc_sramUe : (s.setEnc k).sramUe = s.sramUe := rfl
@[simp] theorem State.setEnc_sramCe : (s.setEnc k).sramCe = s.sramCe := rfl
@[simp] theorem State.setEnc_keepUe : (s.setEnc k).keepUe = s.keepUe := rfl
@[simp] theorem State.setEnc_keepCe : (s.setEnc k).keepCe = s.keepCe := rfl
@[simp] theorem State.setEnc_otp : (s.setEnc k).otp = s.otp := rfl
@[simp] theorem State.setEnc_img : (s.setEnc k).img = s.img := rfl
@[simp] theorem State.setEnc_cmds : (s.setEnc k).cmds = s.cmds := rfl
@[simp] theorem State.setEnc_queues : (s.setEnc k).queues = s.queues := rfl
@[simp] theorem State.setEnc_fetchNext : (s.setEnc k).fetchNext = s.fetchNext := rfl
@[simp] theorem State.setEnc_faults : (s.setEnc k).faults = s.faults := rfl
@[simp] theorem State.setEnc_faultLog : (s.setEnc k).faultLog = s.faultLog := rfl
@[simp] theorem State.setEnc_led : (s.setEnc k).led = s.led := rfl
@[simp] theorem State.setEnc_fl : (s.setEnc k).fl = s.fl := rfl
@[simp] theorem State.setEnc_clk : (s.setEnc k).clk = s.clk := rfl
@[simp] theorem State.setEnc_wake : (s.setEnc k).wake = s.wake := rfl
@[simp] theorem State.setEnc_sup : (s.setEnc k).sup = s.sup := rfl
@[simp] theorem State.setEnc_bg : (s.setEnc k).bg = s.bg := rfl
@[simp] theorem State.setEnc_therm : (s.setEnc k).therm = s.therm := rfl
@[simp] theorem State.setEnc_raster : (s.setEnc k).raster = s.raster := rfl
@[simp] theorem State.setEnc_print : (s.setEnc k).print = s.print := rfl
@[simp] theorem State.setEnc_feed : (s.setEnc k).feed = s.feed := rfl
@[simp] theorem State.setEnc_cut : (s.setEnc k).cut = s.cut := rfl
@[simp] theorem State.setEnc_loops : (s.setEnc k).loops = s.loops := rfl
@[simp] theorem State.setEnc_chans : (s.setEnc k).chans = s.chans := rfl
@[simp] theorem State.setEnc_vid : (s.setEnc k).vid = s.vid := rfl
@[simp] theorem State.setEnc_scan : (s.setEnc k).scan = s.scan := rfl
@[simp] theorem State.setEnc_enc : (s.setEnc k).enc = k s.enc := rfl
@[simp] theorem State.setEnc_dec : (s.setEnc k).dec = s.dec := rfl
@[simp] theorem State.setEnc_accel : (s.setEnc k).accel = s.accel := rfl
@[simp] theorem State.setEnc_reply : (s.setEnc k).reply = s.reply := rfl
@[simp] theorem State.setEnc_free : (s.setEnc k).free = s.free := rfl
@[simp] theorem State.setEnc_pending : (s.setEnc k).pending = s.pending := rfl
@[simp] theorem State.setEnc_rd(x : Fld) : (s.setEnc k).rd x = s.rd x := rfl
end SetEnc

section SetDec
variable {s : State} {k : Dec → Dec}
@[simp] theorem State.setDec_part : (s.setDec k).part = s.part := rfl
@[simp] theorem State.setDec_base : (s.setDec k).base = s.base := rfl
@[simp] theorem State.setDec_boot : (s.setDec k).boot = s.boot := rfl
@[simp] theorem State.setDec_clock : (s.setDec k).clock = s.clock := rfl
@[simp] theorem State.setDec_regs : (s.setDec k).regs = s.regs := rfl
@[simp] theorem State.setDec_sram : (s.setDec k).sram = s.sram := rfl
@[simp] theorem State.setDec_keep : (s.setDec k).keep = s.keep := rfl
@[simp] theorem State.setDec_flash : (s.setDec k).flash = s.flash := rfl
@[simp] theorem State.setDec_sramUe : (s.setDec k).sramUe = s.sramUe := rfl
@[simp] theorem State.setDec_sramCe : (s.setDec k).sramCe = s.sramCe := rfl
@[simp] theorem State.setDec_keepUe : (s.setDec k).keepUe = s.keepUe := rfl
@[simp] theorem State.setDec_keepCe : (s.setDec k).keepCe = s.keepCe := rfl
@[simp] theorem State.setDec_otp : (s.setDec k).otp = s.otp := rfl
@[simp] theorem State.setDec_img : (s.setDec k).img = s.img := rfl
@[simp] theorem State.setDec_cmds : (s.setDec k).cmds = s.cmds := rfl
@[simp] theorem State.setDec_queues : (s.setDec k).queues = s.queues := rfl
@[simp] theorem State.setDec_fetchNext : (s.setDec k).fetchNext = s.fetchNext := rfl
@[simp] theorem State.setDec_faults : (s.setDec k).faults = s.faults := rfl
@[simp] theorem State.setDec_faultLog : (s.setDec k).faultLog = s.faultLog := rfl
@[simp] theorem State.setDec_led : (s.setDec k).led = s.led := rfl
@[simp] theorem State.setDec_fl : (s.setDec k).fl = s.fl := rfl
@[simp] theorem State.setDec_clk : (s.setDec k).clk = s.clk := rfl
@[simp] theorem State.setDec_wake : (s.setDec k).wake = s.wake := rfl
@[simp] theorem State.setDec_sup : (s.setDec k).sup = s.sup := rfl
@[simp] theorem State.setDec_bg : (s.setDec k).bg = s.bg := rfl
@[simp] theorem State.setDec_therm : (s.setDec k).therm = s.therm := rfl
@[simp] theorem State.setDec_raster : (s.setDec k).raster = s.raster := rfl
@[simp] theorem State.setDec_print : (s.setDec k).print = s.print := rfl
@[simp] theorem State.setDec_feed : (s.setDec k).feed = s.feed := rfl
@[simp] theorem State.setDec_cut : (s.setDec k).cut = s.cut := rfl
@[simp] theorem State.setDec_loops : (s.setDec k).loops = s.loops := rfl
@[simp] theorem State.setDec_chans : (s.setDec k).chans = s.chans := rfl
@[simp] theorem State.setDec_vid : (s.setDec k).vid = s.vid := rfl
@[simp] theorem State.setDec_scan : (s.setDec k).scan = s.scan := rfl
@[simp] theorem State.setDec_enc : (s.setDec k).enc = s.enc := rfl
@[simp] theorem State.setDec_dec : (s.setDec k).dec = k s.dec := rfl
@[simp] theorem State.setDec_accel : (s.setDec k).accel = s.accel := rfl
@[simp] theorem State.setDec_reply : (s.setDec k).reply = s.reply := rfl
@[simp] theorem State.setDec_free : (s.setDec k).free = s.free := rfl
@[simp] theorem State.setDec_pending : (s.setDec k).pending = s.pending := rfl
@[simp] theorem State.setDec_rd(x : Fld) : (s.setDec k).rd x = s.rd x := rfl
end SetDec

section ModChan
variable {s : State} {c : Nat} {k : Chan → Chan}
@[simp] theorem State.modChan_part : (s.modChan c k).part = s.part := rfl
@[simp] theorem State.modChan_base : (s.modChan c k).base = s.base := rfl
@[simp] theorem State.modChan_boot : (s.modChan c k).boot = s.boot := rfl
@[simp] theorem State.modChan_clock : (s.modChan c k).clock = s.clock := rfl
@[simp] theorem State.modChan_regs : (s.modChan c k).regs = s.regs := rfl
@[simp] theorem State.modChan_sram : (s.modChan c k).sram = s.sram := rfl
@[simp] theorem State.modChan_keep : (s.modChan c k).keep = s.keep := rfl
@[simp] theorem State.modChan_flash : (s.modChan c k).flash = s.flash := rfl
@[simp] theorem State.modChan_sramUe : (s.modChan c k).sramUe = s.sramUe := rfl
@[simp] theorem State.modChan_sramCe : (s.modChan c k).sramCe = s.sramCe := rfl
@[simp] theorem State.modChan_keepUe : (s.modChan c k).keepUe = s.keepUe := rfl
@[simp] theorem State.modChan_keepCe : (s.modChan c k).keepCe = s.keepCe := rfl
@[simp] theorem State.modChan_otp : (s.modChan c k).otp = s.otp := rfl
@[simp] theorem State.modChan_img : (s.modChan c k).img = s.img := rfl
@[simp] theorem State.modChan_cmds : (s.modChan c k).cmds = s.cmds := rfl
@[simp] theorem State.modChan_queues : (s.modChan c k).queues = s.queues := rfl
@[simp] theorem State.modChan_fetchNext : (s.modChan c k).fetchNext = s.fetchNext := rfl
@[simp] theorem State.modChan_faults : (s.modChan c k).faults = s.faults := rfl
@[simp] theorem State.modChan_faultLog : (s.modChan c k).faultLog = s.faultLog := rfl
@[simp] theorem State.modChan_led : (s.modChan c k).led = s.led := rfl
@[simp] theorem State.modChan_fl : (s.modChan c k).fl = s.fl := rfl
@[simp] theorem State.modChan_clk : (s.modChan c k).clk = s.clk := rfl
@[simp] theorem State.modChan_wake : (s.modChan c k).wake = s.wake := rfl
@[simp] theorem State.modChan_sup : (s.modChan c k).sup = s.sup := rfl
@[simp] theorem State.modChan_bg : (s.modChan c k).bg = s.bg := rfl
@[simp] theorem State.modChan_therm : (s.modChan c k).therm = s.therm := rfl
@[simp] theorem State.modChan_raster : (s.modChan c k).raster = s.raster := rfl
@[simp] theorem State.modChan_print : (s.modChan c k).print = s.print := rfl
@[simp] theorem State.modChan_feed : (s.modChan c k).feed = s.feed := rfl
@[simp] theorem State.modChan_cut : (s.modChan c k).cut = s.cut := rfl
@[simp] theorem State.modChan_loops : (s.modChan c k).loops = s.loops := rfl
@[simp] theorem State.modChan_chans : (s.modChan c k).chans = s.chans.modify c k := rfl
@[simp] theorem State.modChan_vid : (s.modChan c k).vid = s.vid := rfl
@[simp] theorem State.modChan_scan : (s.modChan c k).scan = s.scan := rfl
@[simp] theorem State.modChan_enc : (s.modChan c k).enc = s.enc := rfl
@[simp] theorem State.modChan_dec : (s.modChan c k).dec = s.dec := rfl
@[simp] theorem State.modChan_accel : (s.modChan c k).accel = s.accel := rfl
@[simp] theorem State.modChan_reply : (s.modChan c k).reply = s.reply := rfl
@[simp] theorem State.modChan_free : (s.modChan c k).free = s.free := rfl
@[simp] theorem State.modChan_pending : (s.modChan c k).pending = s.pending := rfl
@[simp] theorem State.modChan_rd(x : Fld) : (s.modChan c k).rd x = s.rd x := rfl
end ModChan

section SetFl
variable {s : State} {k : Flash → Flash}
@[simp] theorem State.setFl_part : (s.setFl k).part = s.part := rfl
@[simp] theorem State.setFl_base : (s.setFl k).base = s.base := rfl
@[simp] theorem State.setFl_boot : (s.setFl k).boot = s.boot := rfl
@[simp] theorem State.setFl_clock : (s.setFl k).clock = s.clock := rfl
@[simp] theorem State.setFl_regs : (s.setFl k).regs = s.regs := rfl
@[simp] theorem State.setFl_sram : (s.setFl k).sram = s.sram := rfl
@[simp] theorem State.setFl_keep : (s.setFl k).keep = s.keep := rfl
@[simp] theorem State.setFl_flash : (s.setFl k).flash = s.flash := rfl
@[simp] theorem State.setFl_sramUe : (s.setFl k).sramUe = s.sramUe := rfl
@[simp] theorem State.setFl_sramCe : (s.setFl k).sramCe = s.sramCe := rfl
@[simp] theorem State.setFl_keepUe : (s.setFl k).keepUe = s.keepUe := rfl
@[simp] theorem State.setFl_keepCe : (s.setFl k).keepCe = s.keepCe := rfl
@[simp] theorem State.setFl_otp : (s.setFl k).otp = s.otp := rfl
@[simp] theorem State.setFl_img : (s.setFl k).img = s.img := rfl
@[simp] theorem State.setFl_cmds : (s.setFl k).cmds = s.cmds := rfl
@[simp] theorem State.setFl_queues : (s.setFl k).queues = s.queues := rfl
@[simp] theorem State.setFl_fetchNext : (s.setFl k).fetchNext = s.fetchNext := rfl
@[simp] theorem State.setFl_faults : (s.setFl k).faults = s.faults := rfl
@[simp] theorem State.setFl_faultLog : (s.setFl k).faultLog = s.faultLog := rfl
@[simp] theorem State.setFl_led : (s.setFl k).led = s.led := rfl
@[simp] theorem State.setFl_fl : (s.setFl k).fl = k s.fl := rfl
@[simp] theorem State.setFl_clk : (s.setFl k).clk = s.clk := rfl
@[simp] theorem State.setFl_wake : (s.setFl k).wake = s.wake := rfl
@[simp] theorem State.setFl_sup : (s.setFl k).sup = s.sup := rfl
@[simp] theorem State.setFl_bg : (s.setFl k).bg = s.bg := rfl
@[simp] theorem State.setFl_therm : (s.setFl k).therm = s.therm := rfl
@[simp] theorem State.setFl_raster : (s.setFl k).raster = s.raster := rfl
@[simp] theorem State.setFl_print : (s.setFl k).print = s.print := rfl
@[simp] theorem State.setFl_feed : (s.setFl k).feed = s.feed := rfl
@[simp] theorem State.setFl_cut : (s.setFl k).cut = s.cut := rfl
@[simp] theorem State.setFl_loops : (s.setFl k).loops = s.loops := rfl
@[simp] theorem State.setFl_chans : (s.setFl k).chans = s.chans := rfl
@[simp] theorem State.setFl_vid : (s.setFl k).vid = s.vid := rfl
@[simp] theorem State.setFl_scan : (s.setFl k).scan = s.scan := rfl
@[simp] theorem State.setFl_enc : (s.setFl k).enc = s.enc := rfl
@[simp] theorem State.setFl_dec : (s.setFl k).dec = s.dec := rfl
@[simp] theorem State.setFl_accel : (s.setFl k).accel = s.accel := rfl
@[simp] theorem State.setFl_reply : (s.setFl k).reply = s.reply := rfl
@[simp] theorem State.setFl_free : (s.setFl k).free = s.free := rfl
@[simp] theorem State.setFl_pending : (s.setFl k).pending = s.pending := rfl
@[simp] theorem State.setFl_rd(x : Fld) : (s.setFl k).rd x = s.rd x := rfl
end SetFl

section SetImg
variable {s : State} {k : Img → Img}
@[simp] theorem State.setImg_part : (s.setImg k).part = s.part := rfl
@[simp] theorem State.setImg_base : (s.setImg k).base = s.base := rfl
@[simp] theorem State.setImg_boot : (s.setImg k).boot = s.boot := rfl
@[simp] theorem State.setImg_clock : (s.setImg k).clock = s.clock := rfl
@[simp] theorem State.setImg_regs : (s.setImg k).regs = s.regs := rfl
@[simp] theorem State.setImg_sram : (s.setImg k).sram = s.sram := rfl
@[simp] theorem State.setImg_keep : (s.setImg k).keep = s.keep := rfl
@[simp] theorem State.setImg_flash : (s.setImg k).flash = s.flash := rfl
@[simp] theorem State.setImg_sramUe : (s.setImg k).sramUe = s.sramUe := rfl
@[simp] theorem State.setImg_sramCe : (s.setImg k).sramCe = s.sramCe := rfl
@[simp] theorem State.setImg_keepUe : (s.setImg k).keepUe = s.keepUe := rfl
@[simp] theorem State.setImg_keepCe : (s.setImg k).keepCe = s.keepCe := rfl
@[simp] theorem State.setImg_otp : (s.setImg k).otp = s.otp := rfl
@[simp] theorem State.setImg_img : (s.setImg k).img = k s.img := rfl
@[simp] theorem State.setImg_cmds : (s.setImg k).cmds = s.cmds := rfl
@[simp] theorem State.setImg_queues : (s.setImg k).queues = s.queues := rfl
@[simp] theorem State.setImg_fetchNext : (s.setImg k).fetchNext = s.fetchNext := rfl
@[simp] theorem State.setImg_faults : (s.setImg k).faults = s.faults := rfl
@[simp] theorem State.setImg_faultLog : (s.setImg k).faultLog = s.faultLog := rfl
@[simp] theorem State.setImg_led : (s.setImg k).led = s.led := rfl
@[simp] theorem State.setImg_fl : (s.setImg k).fl = s.fl := rfl
@[simp] theorem State.setImg_clk : (s.setImg k).clk = s.clk := rfl
@[simp] theorem State.setImg_wake : (s.setImg k).wake = s.wake := rfl
@[simp] theorem State.setImg_sup : (s.setImg k).sup = s.sup := rfl
@[simp] theorem State.setImg_bg : (s.setImg k).bg = s.bg := rfl
@[simp] theorem State.setImg_therm : (s.setImg k).therm = s.therm := rfl
@[simp] theorem State.setImg_raster : (s.setImg k).raster = s.raster := rfl
@[simp] theorem State.setImg_print : (s.setImg k).print = s.print := rfl
@[simp] theorem State.setImg_feed : (s.setImg k).feed = s.feed := rfl
@[simp] theorem State.setImg_cut : (s.setImg k).cut = s.cut := rfl
@[simp] theorem State.setImg_loops : (s.setImg k).loops = s.loops := rfl
@[simp] theorem State.setImg_chans : (s.setImg k).chans = s.chans := rfl
@[simp] theorem State.setImg_vid : (s.setImg k).vid = s.vid := rfl
@[simp] theorem State.setImg_scan : (s.setImg k).scan = s.scan := rfl
@[simp] theorem State.setImg_enc : (s.setImg k).enc = s.enc := rfl
@[simp] theorem State.setImg_dec : (s.setImg k).dec = s.dec := rfl
@[simp] theorem State.setImg_accel : (s.setImg k).accel = s.accel := rfl
@[simp] theorem State.setImg_reply : (s.setImg k).reply = s.reply := rfl
@[simp] theorem State.setImg_free : (s.setImg k).free = s.free := rfl
@[simp] theorem State.setImg_pending : (s.setImg k).pending = s.pending := rfl
@[simp] theorem State.setImg_rd(x : Fld) : (s.setImg k).rd x = s.rd x := rfl
end SetImg

section SetAccel
variable {s : State} {k : Accel → Accel}
@[simp] theorem State.setAccel_part : (s.setAccel k).part = s.part := rfl
@[simp] theorem State.setAccel_base : (s.setAccel k).base = s.base := rfl
@[simp] theorem State.setAccel_boot : (s.setAccel k).boot = s.boot := rfl
@[simp] theorem State.setAccel_clock : (s.setAccel k).clock = s.clock := rfl
@[simp] theorem State.setAccel_regs : (s.setAccel k).regs = s.regs := rfl
@[simp] theorem State.setAccel_sram : (s.setAccel k).sram = s.sram := rfl
@[simp] theorem State.setAccel_keep : (s.setAccel k).keep = s.keep := rfl
@[simp] theorem State.setAccel_flash : (s.setAccel k).flash = s.flash := rfl
@[simp] theorem State.setAccel_sramUe : (s.setAccel k).sramUe = s.sramUe := rfl
@[simp] theorem State.setAccel_sramCe : (s.setAccel k).sramCe = s.sramCe := rfl
@[simp] theorem State.setAccel_keepUe : (s.setAccel k).keepUe = s.keepUe := rfl
@[simp] theorem State.setAccel_keepCe : (s.setAccel k).keepCe = s.keepCe := rfl
@[simp] theorem State.setAccel_otp : (s.setAccel k).otp = s.otp := rfl
@[simp] theorem State.setAccel_img : (s.setAccel k).img = s.img := rfl
@[simp] theorem State.setAccel_cmds : (s.setAccel k).cmds = s.cmds := rfl
@[simp] theorem State.setAccel_queues : (s.setAccel k).queues = s.queues := rfl
@[simp] theorem State.setAccel_fetchNext : (s.setAccel k).fetchNext = s.fetchNext := rfl
@[simp] theorem State.setAccel_faults : (s.setAccel k).faults = s.faults := rfl
@[simp] theorem State.setAccel_faultLog : (s.setAccel k).faultLog = s.faultLog := rfl
@[simp] theorem State.setAccel_led : (s.setAccel k).led = s.led := rfl
@[simp] theorem State.setAccel_fl : (s.setAccel k).fl = s.fl := rfl
@[simp] theorem State.setAccel_clk : (s.setAccel k).clk = s.clk := rfl
@[simp] theorem State.setAccel_wake : (s.setAccel k).wake = s.wake := rfl
@[simp] theorem State.setAccel_sup : (s.setAccel k).sup = s.sup := rfl
@[simp] theorem State.setAccel_bg : (s.setAccel k).bg = s.bg := rfl
@[simp] theorem State.setAccel_therm : (s.setAccel k).therm = s.therm := rfl
@[simp] theorem State.setAccel_raster : (s.setAccel k).raster = s.raster := rfl
@[simp] theorem State.setAccel_print : (s.setAccel k).print = s.print := rfl
@[simp] theorem State.setAccel_feed : (s.setAccel k).feed = s.feed := rfl
@[simp] theorem State.setAccel_cut : (s.setAccel k).cut = s.cut := rfl
@[simp] theorem State.setAccel_loops : (s.setAccel k).loops = s.loops := rfl
@[simp] theorem State.setAccel_chans : (s.setAccel k).chans = s.chans := rfl
@[simp] theorem State.setAccel_vid : (s.setAccel k).vid = s.vid := rfl
@[simp] theorem State.setAccel_scan : (s.setAccel k).scan = s.scan := rfl
@[simp] theorem State.setAccel_enc : (s.setAccel k).enc = s.enc := rfl
@[simp] theorem State.setAccel_dec : (s.setAccel k).dec = s.dec := rfl
@[simp] theorem State.setAccel_accel : (s.setAccel k).accel = k s.accel := rfl
@[simp] theorem State.setAccel_reply : (s.setAccel k).reply = s.reply := rfl
@[simp] theorem State.setAccel_free : (s.setAccel k).free = s.free := rfl
@[simp] theorem State.setAccel_pending : (s.setAccel k).pending = s.pending := rfl
@[simp] theorem State.setAccel_rd(x : Fld) : (s.setAccel k).rd x = s.rd x := rfl
end SetAccel

section SetLed
variable {s : State} {k : Ledger → Ledger}
@[simp] theorem State.setLed_part : (s.setLed k).part = s.part := rfl
@[simp] theorem State.setLed_base : (s.setLed k).base = s.base := rfl
@[simp] theorem State.setLed_boot : (s.setLed k).boot = s.boot := rfl
@[simp] theorem State.setLed_clock : (s.setLed k).clock = s.clock := rfl
@[simp] theorem State.setLed_regs : (s.setLed k).regs = s.regs := rfl
@[simp] theorem State.setLed_sram : (s.setLed k).sram = s.sram := rfl
@[simp] theorem State.setLed_keep : (s.setLed k).keep = s.keep := rfl
@[simp] theorem State.setLed_flash : (s.setLed k).flash = s.flash := rfl
@[simp] theorem State.setLed_sramUe : (s.setLed k).sramUe = s.sramUe := rfl
@[simp] theorem State.setLed_sramCe : (s.setLed k).sramCe = s.sramCe := rfl
@[simp] theorem State.setLed_keepUe : (s.setLed k).keepUe = s.keepUe := rfl
@[simp] theorem State.setLed_keepCe : (s.setLed k).keepCe = s.keepCe := rfl
@[simp] theorem State.setLed_otp : (s.setLed k).otp = s.otp := rfl
@[simp] theorem State.setLed_img : (s.setLed k).img = s.img := rfl
@[simp] theorem State.setLed_cmds : (s.setLed k).cmds = s.cmds := rfl
@[simp] theorem State.setLed_queues : (s.setLed k).queues = s.queues := rfl
@[simp] theorem State.setLed_fetchNext : (s.setLed k).fetchNext = s.fetchNext := rfl
@[simp] theorem State.setLed_faults : (s.setLed k).faults = s.faults := rfl
@[simp] theorem State.setLed_faultLog : (s.setLed k).faultLog = s.faultLog := rfl
@[simp] theorem State.setLed_led : (s.setLed k).led = k s.led := rfl
@[simp] theorem State.setLed_fl : (s.setLed k).fl = s.fl := rfl
@[simp] theorem State.setLed_clk : (s.setLed k).clk = s.clk := rfl
@[simp] theorem State.setLed_wake : (s.setLed k).wake = s.wake := rfl
@[simp] theorem State.setLed_sup : (s.setLed k).sup = s.sup := rfl
@[simp] theorem State.setLed_bg : (s.setLed k).bg = s.bg := rfl
@[simp] theorem State.setLed_therm : (s.setLed k).therm = s.therm := rfl
@[simp] theorem State.setLed_raster : (s.setLed k).raster = s.raster := rfl
@[simp] theorem State.setLed_print : (s.setLed k).print = s.print := rfl
@[simp] theorem State.setLed_feed : (s.setLed k).feed = s.feed := rfl
@[simp] theorem State.setLed_cut : (s.setLed k).cut = s.cut := rfl
@[simp] theorem State.setLed_loops : (s.setLed k).loops = s.loops := rfl
@[simp] theorem State.setLed_chans : (s.setLed k).chans = s.chans := rfl
@[simp] theorem State.setLed_vid : (s.setLed k).vid = s.vid := rfl
@[simp] theorem State.setLed_scan : (s.setLed k).scan = s.scan := rfl
@[simp] theorem State.setLed_enc : (s.setLed k).enc = s.enc := rfl
@[simp] theorem State.setLed_dec : (s.setLed k).dec = s.dec := rfl
@[simp] theorem State.setLed_accel : (s.setLed k).accel = s.accel := rfl
@[simp] theorem State.setLed_reply : (s.setLed k).reply = s.reply := rfl
@[simp] theorem State.setLed_free : (s.setLed k).free = s.free := rfl
@[simp] theorem State.setLed_pending : (s.setLed k).pending = s.pending := rfl
@[simp] theorem State.setLed_rd(x : Fld) : (s.setLed k).rd x = s.rd x := rfl
end SetLed

section Count
variable {s : State} {c : Nat} {q : Rat}
@[simp] theorem State.count_part : (s.count c q).part = s.part := rfl
@[simp] theorem State.count_base : (s.count c q).base = s.base := rfl
@[simp] theorem State.count_boot : (s.count c q).boot = s.boot := rfl
@[simp] theorem State.count_clock : (s.count c q).clock = s.clock := rfl
@[simp] theorem State.count_regs : (s.count c q).regs = s.regs := rfl
@[simp] theorem State.count_sram : (s.count c q).sram = s.sram := rfl
@[simp] theorem State.count_keep : (s.count c q).keep = s.keep := rfl
@[simp] theorem State.count_flash : (s.count c q).flash = s.flash := rfl
@[simp] theorem State.count_sramUe : (s.count c q).sramUe = s.sramUe := rfl
@[simp] theorem State.count_sramCe : (s.count c q).sramCe = s.sramCe := rfl
@[simp] theorem State.count_keepUe : (s.count c q).keepUe = s.keepUe := rfl
@[simp] theorem State.count_keepCe : (s.count c q).keepCe = s.keepCe := rfl
@[simp] theorem State.count_otp : (s.count c q).otp = s.otp := rfl
@[simp] theorem State.count_img : (s.count c q).img = s.img := rfl
@[simp] theorem State.count_cmds : (s.count c q).cmds = s.cmds := rfl
@[simp] theorem State.count_queues : (s.count c q).queues = s.queues := rfl
@[simp] theorem State.count_fetchNext : (s.count c q).fetchNext = s.fetchNext := rfl
@[simp] theorem State.count_faults : (s.count c q).faults = s.faults := rfl
@[simp] theorem State.count_faultLog : (s.count c q).faultLog = s.faultLog := rfl
@[simp] theorem State.count_fl : (s.count c q).fl = s.fl := rfl
@[simp] theorem State.count_clk : (s.count c q).clk = s.clk := rfl
@[simp] theorem State.count_wake : (s.count c q).wake = s.wake := rfl
@[simp] theorem State.count_sup : (s.count c q).sup = s.sup := rfl
@[simp] theorem State.count_bg : (s.count c q).bg = s.bg := rfl
@[simp] theorem State.count_therm : (s.count c q).therm = s.therm := rfl
@[simp] theorem State.count_raster : (s.count c q).raster = s.raster := rfl
@[simp] theorem State.count_print : (s.count c q).print = s.print := rfl
@[simp] theorem State.count_feed : (s.count c q).feed = s.feed := rfl
@[simp] theorem State.count_cut : (s.count c q).cut = s.cut := rfl
@[simp] theorem State.count_loops : (s.count c q).loops = s.loops := rfl
@[simp] theorem State.count_chans : (s.count c q).chans = s.chans := rfl
@[simp] theorem State.count_vid : (s.count c q).vid = s.vid := rfl
@[simp] theorem State.count_scan : (s.count c q).scan = s.scan := rfl
@[simp] theorem State.count_enc : (s.count c q).enc = s.enc := rfl
@[simp] theorem State.count_dec : (s.count c q).dec = s.dec := rfl
@[simp] theorem State.count_accel : (s.count c q).accel = s.accel := rfl
@[simp] theorem State.count_reply : (s.count c q).reply = s.reply := rfl
@[simp] theorem State.count_free : (s.count c q).free = s.free := rfl
@[simp] theorem State.count_pending : (s.count c q).pending = s.pending := rfl
@[simp] theorem State.count_rd(x : Fld) : (s.count c q).rd x = s.rd x := rfl
end Count

section SetFeed
variable {s : State} {k : Feed → Feed}
@[simp] theorem State.setFeed_part : (s.setFeed k).part = s.part := rfl
@[simp] theorem State.setFeed_base : (s.setFeed k).base = s.base := rfl
@[simp] theorem State.setFeed_boot : (s.setFeed k).boot = s.boot := rfl
@[simp] theorem State.setFeed_clock : (s.setFeed k).clock = s.clock := rfl
@[simp] theorem State.setFeed_regs : (s.setFeed k).regs = s.regs := rfl
@[simp] theorem State.setFeed_sram : (s.setFeed k).sram = s.sram := rfl
@[simp] theorem State.setFeed_keep : (s.setFeed k).keep = s.keep := rfl
@[simp] theorem State.setFeed_flash : (s.setFeed k).flash = s.flash := rfl
@[simp] theorem State.setFeed_sramUe : (s.setFeed k).sramUe = s.sramUe := rfl
@[simp] theorem State.setFeed_sramCe : (s.setFeed k).sramCe = s.sramCe := rfl
@[simp] theorem State.setFeed_keepUe : (s.setFeed k).keepUe = s.keepUe := rfl
@[simp] theorem State.setFeed_keepCe : (s.setFeed k).keepCe = s.keepCe := rfl
@[simp] theorem State.setFeed_otp : (s.setFeed k).otp = s.otp := rfl
@[simp] theorem State.setFeed_img : (s.setFeed k).img = s.img := rfl
@[simp] theorem State.setFeed_cmds : (s.setFeed k).cmds = s.cmds := rfl
@[simp] theorem State.setFeed_queues : (s.setFeed k).queues = s.queues := rfl
@[simp] theorem State.setFeed_fetchNext : (s.setFeed k).fetchNext = s.fetchNext := rfl
@[simp] theorem State.setFeed_faults : (s.setFeed k).faults = s.faults := rfl
@[simp] theorem State.setFeed_faultLog : (s.setFeed k).faultLog = s.faultLog := rfl
@[simp] theorem State.setFeed_led : (s.setFeed k).led = s.led := rfl
@[simp] theorem State.setFeed_fl : (s.setFeed k).fl = s.fl := rfl
@[simp] theorem State.setFeed_clk : (s.setFeed k).clk = s.clk := rfl
@[simp] theorem State.setFeed_wake : (s.setFeed k).wake = s.wake := rfl
@[simp] theorem State.setFeed_sup : (s.setFeed k).sup = s.sup := rfl
@[simp] theorem State.setFeed_bg : (s.setFeed k).bg = s.bg := rfl
@[simp] theorem State.setFeed_therm : (s.setFeed k).therm = s.therm := rfl
@[simp] theorem State.setFeed_raster : (s.setFeed k).raster = s.raster := rfl
@[simp] theorem State.setFeed_print : (s.setFeed k).print = s.print := rfl
@[simp] theorem State.setFeed_feed : (s.setFeed k).feed = k s.feed := rfl
@[simp] theorem State.setFeed_cut : (s.setFeed k).cut = s.cut := rfl
@[simp] theorem State.setFeed_loops : (s.setFeed k).loops = s.loops := rfl
@[simp] theorem State.setFeed_chans : (s.setFeed k).chans = s.chans := rfl
@[simp] theorem State.setFeed_vid : (s.setFeed k).vid = s.vid := rfl
@[simp] theorem State.setFeed_scan : (s.setFeed k).scan = s.scan := rfl
@[simp] theorem State.setFeed_enc : (s.setFeed k).enc = s.enc := rfl
@[simp] theorem State.setFeed_dec : (s.setFeed k).dec = s.dec := rfl
@[simp] theorem State.setFeed_accel : (s.setFeed k).accel = s.accel := rfl
@[simp] theorem State.setFeed_reply : (s.setFeed k).reply = s.reply := rfl
@[simp] theorem State.setFeed_free : (s.setFeed k).free = s.free := rfl
@[simp] theorem State.setFeed_pending : (s.setFeed k).pending = s.pending := rfl
@[simp] theorem State.setFeed_rd(x : Fld) : (s.setFeed k).rd x = s.rd x := rfl
end SetFeed

section SetPrint
variable {s : State} {k : Print → Print}
@[simp] theorem State.setPrint_part : (s.setPrint k).part = s.part := rfl
@[simp] theorem State.setPrint_base : (s.setPrint k).base = s.base := rfl
@[simp] theorem State.setPrint_boot : (s.setPrint k).boot = s.boot := rfl
@[simp] theorem State.setPrint_clock : (s.setPrint k).clock = s.clock := rfl
@[simp] theorem State.setPrint_regs : (s.setPrint k).regs = s.regs := rfl
@[simp] theorem State.setPrint_sram : (s.setPrint k).sram = s.sram := rfl
@[simp] theorem State.setPrint_keep : (s.setPrint k).keep = s.keep := rfl
@[simp] theorem State.setPrint_flash : (s.setPrint k).flash = s.flash := rfl
@[simp] theorem State.setPrint_sramUe : (s.setPrint k).sramUe = s.sramUe := rfl
@[simp] theorem State.setPrint_sramCe : (s.setPrint k).sramCe = s.sramCe := rfl
@[simp] theorem State.setPrint_keepUe : (s.setPrint k).keepUe = s.keepUe := rfl
@[simp] theorem State.setPrint_keepCe : (s.setPrint k).keepCe = s.keepCe := rfl
@[simp] theorem State.setPrint_otp : (s.setPrint k).otp = s.otp := rfl
@[simp] theorem State.setPrint_img : (s.setPrint k).img = s.img := rfl
@[simp] theorem State.setPrint_cmds : (s.setPrint k).cmds = s.cmds := rfl
@[simp] theorem State.setPrint_queues : (s.setPrint k).queues = s.queues := rfl
@[simp] theorem State.setPrint_fetchNext : (s.setPrint k).fetchNext = s.fetchNext := rfl
@[simp] theorem State.setPrint_faults : (s.setPrint k).faults = s.faults := rfl
@[simp] theorem State.setPrint_faultLog : (s.setPrint k).faultLog = s.faultLog := rfl
@[simp] theorem State.setPrint_led : (s.setPrint k).led = s.led := rfl
@[simp] theorem State.setPrint_fl : (s.setPrint k).fl = s.fl := rfl
@[simp] theorem State.setPrint_clk : (s.setPrint k).clk = s.clk := rfl
@[simp] theorem State.setPrint_wake : (s.setPrint k).wake = s.wake := rfl
@[simp] theorem State.setPrint_sup : (s.setPrint k).sup = s.sup := rfl
@[simp] theorem State.setPrint_bg : (s.setPrint k).bg = s.bg := rfl
@[simp] theorem State.setPrint_therm : (s.setPrint k).therm = s.therm := rfl
@[simp] theorem State.setPrint_raster : (s.setPrint k).raster = s.raster := rfl
@[simp] theorem State.setPrint_print : (s.setPrint k).print = k s.print := rfl
@[simp] theorem State.setPrint_feed : (s.setPrint k).feed = s.feed := rfl
@[simp] theorem State.setPrint_cut : (s.setPrint k).cut = s.cut := rfl
@[simp] theorem State.setPrint_loops : (s.setPrint k).loops = s.loops := rfl
@[simp] theorem State.setPrint_chans : (s.setPrint k).chans = s.chans := rfl
@[simp] theorem State.setPrint_vid : (s.setPrint k).vid = s.vid := rfl
@[simp] theorem State.setPrint_scan : (s.setPrint k).scan = s.scan := rfl
@[simp] theorem State.setPrint_enc : (s.setPrint k).enc = s.enc := rfl
@[simp] theorem State.setPrint_dec : (s.setPrint k).dec = s.dec := rfl
@[simp] theorem State.setPrint_accel : (s.setPrint k).accel = s.accel := rfl
@[simp] theorem State.setPrint_reply : (s.setPrint k).reply = s.reply := rfl
@[simp] theorem State.setPrint_free : (s.setPrint k).free = s.free := rfl
@[simp] theorem State.setPrint_pending : (s.setPrint k).pending = s.pending := rfl
@[simp] theorem State.setPrint_rd(x : Fld) : (s.setPrint k).rd x = s.rd x := rfl
end SetPrint

section SetCut
variable {s : State} {k : Cutter → Cutter}
@[simp] theorem State.setCut_part : (s.setCut k).part = s.part := rfl
@[simp] theorem State.setCut_base : (s.setCut k).base = s.base := rfl
@[simp] theorem State.setCut_boot : (s.setCut k).boot = s.boot := rfl
@[simp] theorem State.setCut_clock : (s.setCut k).clock = s.clock := rfl
@[simp] theorem State.setCut_regs : (s.setCut k).regs = s.regs := rfl
@[simp] theorem State.setCut_sram : (s.setCut k).sram = s.sram := rfl
@[simp] theorem State.setCut_keep : (s.setCut k).keep = s.keep := rfl
@[simp] theorem State.setCut_flash : (s.setCut k).flash = s.flash := rfl
@[simp] theorem State.setCut_sramUe : (s.setCut k).sramUe = s.sramUe := rfl
@[simp] theorem State.setCut_sramCe : (s.setCut k).sramCe = s.sramCe := rfl
@[simp] theorem State.setCut_keepUe : (s.setCut k).keepUe = s.keepUe := rfl
@[simp] theorem State.setCut_keepCe : (s.setCut k).keepCe = s.keepCe := rfl
@[simp] theorem State.setCut_otp : (s.setCut k).otp = s.otp := rfl
@[simp] theorem State.setCut_img : (s.setCut k).img = s.img := rfl
@[simp] theorem State.setCut_cmds : (s.setCut k).cmds = s.cmds := rfl
@[simp] theorem State.setCut_queues : (s.setCut k).queues = s.queues := rfl
@[simp] theorem State.setCut_fetchNext : (s.setCut k).fetchNext = s.fetchNext := rfl
@[simp] theorem State.setCut_faults : (s.setCut k).faults = s.faults := rfl
@[simp] theorem State.setCut_faultLog : (s.setCut k).faultLog = s.faultLog := rfl
@[simp] theorem State.setCut_led : (s.setCut k).led = s.led := rfl
@[simp] theorem State.setCut_fl : (s.setCut k).fl = s.fl := rfl
@[simp] theorem State.setCut_clk : (s.setCut k).clk = s.clk := rfl
@[simp] theorem State.setCut_wake : (s.setCut k).wake = s.wake := rfl
@[simp] theorem State.setCut_sup : (s.setCut k).sup = s.sup := rfl
@[simp] theorem State.setCut_bg : (s.setCut k).bg = s.bg := rfl
@[simp] theorem State.setCut_therm : (s.setCut k).therm = s.therm := rfl
@[simp] theorem State.setCut_raster : (s.setCut k).raster = s.raster := rfl
@[simp] theorem State.setCut_print : (s.setCut k).print = s.print := rfl
@[simp] theorem State.setCut_feed : (s.setCut k).feed = s.feed := rfl
@[simp] theorem State.setCut_cut : (s.setCut k).cut = k s.cut := rfl
@[simp] theorem State.setCut_loops : (s.setCut k).loops = s.loops := rfl
@[simp] theorem State.setCut_chans : (s.setCut k).chans = s.chans := rfl
@[simp] theorem State.setCut_vid : (s.setCut k).vid = s.vid := rfl
@[simp] theorem State.setCut_scan : (s.setCut k).scan = s.scan := rfl
@[simp] theorem State.setCut_enc : (s.setCut k).enc = s.enc := rfl
@[simp] theorem State.setCut_dec : (s.setCut k).dec = s.dec := rfl
@[simp] theorem State.setCut_accel : (s.setCut k).accel = s.accel := rfl
@[simp] theorem State.setCut_reply : (s.setCut k).reply = s.reply := rfl
@[simp] theorem State.setCut_free : (s.setCut k).free = s.free := rfl
@[simp] theorem State.setCut_pending : (s.setCut k).pending = s.pending := rfl
@[simp] theorem State.setCut_rd(x : Fld) : (s.setCut k).rd x = s.rd x := rfl
end SetCut

section SetWake
variable {s : State} {k : Wake → Wake}
@[simp] theorem State.setWake_part : (s.setWake k).part = s.part := rfl
@[simp] theorem State.setWake_base : (s.setWake k).base = s.base := rfl
@[simp] theorem State.setWake_boot : (s.setWake k).boot = s.boot := rfl
@[simp] theorem State.setWake_clock : (s.setWake k).clock = s.clock := rfl
@[simp] theorem State.setWake_regs : (s.setWake k).regs = s.regs := rfl
@[simp] theorem State.setWake_sram : (s.setWake k).sram = s.sram := rfl
@[simp] theorem State.setWake_keep : (s.setWake k).keep = s.keep := rfl
@[simp] theorem State.setWake_flash : (s.setWake k).flash = s.flash := rfl
@[simp] theorem State.setWake_sramUe : (s.setWake k).sramUe = s.sramUe := rfl
@[simp] theorem State.setWake_sramCe : (s.setWake k).sramCe = s.sramCe := rfl
@[simp] theorem State.setWake_keepUe : (s.setWake k).keepUe = s.keepUe := rfl
@[simp] theorem State.setWake_keepCe : (s.setWake k).keepCe = s.keepCe := rfl
@[simp] theorem State.setWake_otp : (s.setWake k).otp = s.otp := rfl
@[simp] theorem State.setWake_img : (s.setWake k).img = s.img := rfl
@[simp] theorem State.setWake_cmds : (s.setWake k).cmds = s.cmds := rfl
@[simp] theorem State.setWake_queues : (s.setWake k).queues = s.queues := rfl
@[simp] theorem State.setWake_fetchNext : (s.setWake k).fetchNext = s.fetchNext := rfl
@[simp] theorem State.setWake_faults : (s.setWake k).faults = s.faults := rfl
@[simp] theorem State.setWake_faultLog : (s.setWake k).faultLog = s.faultLog := rfl
@[simp] theorem State.setWake_led : (s.setWake k).led = s.led := rfl
@[simp] theorem State.setWake_fl : (s.setWake k).fl = s.fl := rfl
@[simp] theorem State.setWake_clk : (s.setWake k).clk = s.clk := rfl
@[simp] theorem State.setWake_wake : (s.setWake k).wake = k s.wake := rfl
@[simp] theorem State.setWake_sup : (s.setWake k).sup = s.sup := rfl
@[simp] theorem State.setWake_bg : (s.setWake k).bg = s.bg := rfl
@[simp] theorem State.setWake_therm : (s.setWake k).therm = s.therm := rfl
@[simp] theorem State.setWake_raster : (s.setWake k).raster = s.raster := rfl
@[simp] theorem State.setWake_print : (s.setWake k).print = s.print := rfl
@[simp] theorem State.setWake_feed : (s.setWake k).feed = s.feed := rfl
@[simp] theorem State.setWake_cut : (s.setWake k).cut = s.cut := rfl
@[simp] theorem State.setWake_loops : (s.setWake k).loops = s.loops := rfl
@[simp] theorem State.setWake_chans : (s.setWake k).chans = s.chans := rfl
@[simp] theorem State.setWake_vid : (s.setWake k).vid = s.vid := rfl
@[simp] theorem State.setWake_scan : (s.setWake k).scan = s.scan := rfl
@[simp] theorem State.setWake_enc : (s.setWake k).enc = s.enc := rfl
@[simp] theorem State.setWake_dec : (s.setWake k).dec = s.dec := rfl
@[simp] theorem State.setWake_accel : (s.setWake k).accel = s.accel := rfl
@[simp] theorem State.setWake_reply : (s.setWake k).reply = s.reply := rfl
@[simp] theorem State.setWake_free : (s.setWake k).free = s.free := rfl
@[simp] theorem State.setWake_pending : (s.setWake k).pending = s.pending := rfl
@[simp] theorem State.setWake_rd(x : Fld) : (s.setWake k).rd x = s.rd x := rfl
end SetWake

section ClearFault
variable {s : State} {c : Nat}
@[simp] theorem State.clearFault_part : (s.clearFault c).part = s.part := rfl
@[simp] theorem State.clearFault_base : (s.clearFault c).base = s.base := rfl
@[simp] theorem State.clearFault_boot : (s.clearFault c).boot = s.boot := rfl
@[simp] theorem State.clearFault_clock : (s.clearFault c).clock = s.clock := rfl
@[simp] theorem State.clearFault_regs : (s.clearFault c).regs = s.regs := rfl
@[simp] theorem State.clearFault_sram : (s.clearFault c).sram = s.sram := rfl
@[simp] theorem State.clearFault_keep : (s.clearFault c).keep = s.keep := rfl
@[simp] theorem State.clearFault_flash : (s.clearFault c).flash = s.flash := rfl
@[simp] theorem State.clearFault_sramUe : (s.clearFault c).sramUe = s.sramUe := rfl
@[simp] theorem State.clearFault_sramCe : (s.clearFault c).sramCe = s.sramCe := rfl
@[simp] theorem State.clearFault_keepUe : (s.clearFault c).keepUe = s.keepUe := rfl
@[simp] theorem State.clearFault_keepCe : (s.clearFault c).keepCe = s.keepCe := rfl
@[simp] theorem State.clearFault_otp : (s.clearFault c).otp = s.otp := rfl
@[simp] theorem State.clearFault_img : (s.clearFault c).img = s.img := rfl
@[simp] theorem State.clearFault_cmds : (s.clearFault c).cmds = s.cmds := rfl
@[simp] theorem State.clearFault_queues : (s.clearFault c).queues = s.queues := rfl
@[simp] theorem State.clearFault_fetchNext : (s.clearFault c).fetchNext = s.fetchNext := rfl
@[simp] theorem State.clearFault_faults : (s.clearFault c).faults = s.faults.filter fun f => f.code != c := rfl
@[simp] theorem State.clearFault_faultLog : (s.clearFault c).faultLog = s.faultLog := rfl
@[simp] theorem State.clearFault_led : (s.clearFault c).led = s.led := rfl
@[simp] theorem State.clearFault_fl : (s.clearFault c).fl = s.fl := rfl
@[simp] theorem State.clearFault_clk : (s.clearFault c).clk = s.clk := rfl
@[simp] theorem State.clearFault_wake : (s.clearFault c).wake = s.wake := rfl
@[simp] theorem State.clearFault_sup : (s.clearFault c).sup = s.sup := rfl
@[simp] theorem State.clearFault_bg : (s.clearFault c).bg = s.bg := rfl
@[simp] theorem State.clearFault_therm : (s.clearFault c).therm = s.therm := rfl
@[simp] theorem State.clearFault_raster : (s.clearFault c).raster = s.raster := rfl
@[simp] theorem State.clearFault_print : (s.clearFault c).print = s.print := rfl
@[simp] theorem State.clearFault_feed : (s.clearFault c).feed = s.feed := rfl
@[simp] theorem State.clearFault_cut : (s.clearFault c).cut = s.cut := rfl
@[simp] theorem State.clearFault_loops : (s.clearFault c).loops = s.loops := rfl
@[simp] theorem State.clearFault_chans : (s.clearFault c).chans = s.chans := rfl
@[simp] theorem State.clearFault_vid : (s.clearFault c).vid = s.vid := rfl
@[simp] theorem State.clearFault_scan : (s.clearFault c).scan = s.scan := rfl
@[simp] theorem State.clearFault_enc : (s.clearFault c).enc = s.enc := rfl
@[simp] theorem State.clearFault_dec : (s.clearFault c).dec = s.dec := rfl
@[simp] theorem State.clearFault_accel : (s.clearFault c).accel = s.accel := rfl
@[simp] theorem State.clearFault_reply : (s.clearFault c).reply = s.reply := rfl
@[simp] theorem State.clearFault_free : (s.clearFault c).free = s.free := rfl
@[simp] theorem State.clearFault_pending : (s.clearFault c).pending = s.pending := rfl
@[simp] theorem State.clearFault_rd(x : Fld) : (s.clearFault c).rd x = s.rd x := rfl
end ClearFault

section ClearFaults
variable {s : State} {c : List Nat}
@[simp] theorem State.clearFaults_part : (s.clearFaults c).part = s.part := rfl
@[simp] theorem State.clearFaults_base : (s.clearFaults c).base = s.base := rfl
@[simp] theorem State.clearFaults_boot : (s.clearFaults c).boot = s.boot := rfl
@[simp] theorem State.clearFaults_clock : (s.clearFaults c).clock = s.clock := rfl
@[simp] theorem State.clearFaults_regs : (s.clearFaults c).regs = s.regs := rfl
@[simp] theorem State.clearFaults_sram : (s.clearFaults c).sram = s.sram := rfl
@[simp] theorem State.clearFaults_keep : (s.clearFaults c).keep = s.keep := rfl
@[simp] theorem State.clearFaults_flash : (s.clearFaults c).flash = s.flash := rfl
@[simp] theorem State.clearFaults_sramUe : (s.clearFaults c).sramUe = s.sramUe := rfl
@[simp] theorem State.clearFaults_sramCe : (s.clearFaults c).sramCe = s.sramCe := rfl
@[simp] theorem State.clearFaults_keepUe : (s.clearFaults c).keepUe = s.keepUe := rfl
@[simp] theorem State.clearFaults_keepCe : (s.clearFaults c).keepCe = s.keepCe := rfl
@[simp] theorem State.clearFaults_otp : (s.clearFaults c).otp = s.otp := rfl
@[simp] theorem State.clearFaults_img : (s.clearFaults c).img = s.img := rfl
@[simp] theorem State.clearFaults_cmds : (s.clearFaults c).cmds = s.cmds := rfl
@[simp] theorem State.clearFaults_queues : (s.clearFaults c).queues = s.queues := rfl
@[simp] theorem State.clearFaults_fetchNext : (s.clearFaults c).fetchNext = s.fetchNext := rfl
@[simp] theorem State.clearFaults_faultLog : (s.clearFaults c).faultLog = s.faultLog := rfl
@[simp] theorem State.clearFaults_led : (s.clearFaults c).led = s.led := rfl
@[simp] theorem State.clearFaults_fl : (s.clearFaults c).fl = s.fl := rfl
@[simp] theorem State.clearFaults_clk : (s.clearFaults c).clk = s.clk := rfl
@[simp] theorem State.clearFaults_wake : (s.clearFaults c).wake = s.wake := rfl
@[simp] theorem State.clearFaults_sup : (s.clearFaults c).sup = s.sup := rfl
@[simp] theorem State.clearFaults_bg : (s.clearFaults c).bg = s.bg := rfl
@[simp] theorem State.clearFaults_therm : (s.clearFaults c).therm = s.therm := rfl
@[simp] theorem State.clearFaults_raster : (s.clearFaults c).raster = s.raster := rfl
@[simp] theorem State.clearFaults_print : (s.clearFaults c).print = s.print := rfl
@[simp] theorem State.clearFaults_feed : (s.clearFaults c).feed = s.feed := rfl
@[simp] theorem State.clearFaults_cut : (s.clearFaults c).cut = s.cut := rfl
@[simp] theorem State.clearFaults_loops : (s.clearFaults c).loops = s.loops := rfl
@[simp] theorem State.clearFaults_chans : (s.clearFaults c).chans = s.chans := rfl
@[simp] theorem State.clearFaults_vid : (s.clearFaults c).vid = s.vid := rfl
@[simp] theorem State.clearFaults_scan : (s.clearFaults c).scan = s.scan := rfl
@[simp] theorem State.clearFaults_enc : (s.clearFaults c).enc = s.enc := rfl
@[simp] theorem State.clearFaults_dec : (s.clearFaults c).dec = s.dec := rfl
@[simp] theorem State.clearFaults_accel : (s.clearFaults c).accel = s.accel := rfl
@[simp] theorem State.clearFaults_reply : (s.clearFaults c).reply = s.reply := rfl
@[simp] theorem State.clearFaults_free : (s.clearFaults c).free = s.free := rfl
@[simp] theorem State.clearFaults_pending : (s.clearFaults c).pending = s.pending := rfl
@[simp] theorem State.clearFaults_rd(x : Fld) : (s.clearFaults c).rd x = s.rd x := rfl
end ClearFaults

section ModQueue
variable {s : State} {q : Nat} {k : Queue → Queue}
@[simp] theorem State.modQueue_part : (s.modQueue q k).part = s.part := rfl
@[simp] theorem State.modQueue_base : (s.modQueue q k).base = s.base := rfl
@[simp] theorem State.modQueue_boot : (s.modQueue q k).boot = s.boot := rfl
@[simp] theorem State.modQueue_clock : (s.modQueue q k).clock = s.clock := rfl
@[simp] theorem State.modQueue_regs : (s.modQueue q k).regs = s.regs := rfl
@[simp] theorem State.modQueue_sram : (s.modQueue q k).sram = s.sram := rfl
@[simp] theorem State.modQueue_keep : (s.modQueue q k).keep = s.keep := rfl
@[simp] theorem State.modQueue_flash : (s.modQueue q k).flash = s.flash := rfl
@[simp] theorem State.modQueue_sramUe : (s.modQueue q k).sramUe = s.sramUe := rfl
@[simp] theorem State.modQueue_sramCe : (s.modQueue q k).sramCe = s.sramCe := rfl
@[simp] theorem State.modQueue_keepUe : (s.modQueue q k).keepUe = s.keepUe := rfl
@[simp] theorem State.modQueue_keepCe : (s.modQueue q k).keepCe = s.keepCe := rfl
@[simp] theorem State.modQueue_otp : (s.modQueue q k).otp = s.otp := rfl
@[simp] theorem State.modQueue_img : (s.modQueue q k).img = s.img := rfl
@[simp] theorem State.modQueue_cmds : (s.modQueue q k).cmds = s.cmds := rfl
@[simp] theorem State.modQueue_queues : (s.modQueue q k).queues = s.queues.modify q k := rfl
@[simp] theorem State.modQueue_fetchNext : (s.modQueue q k).fetchNext = s.fetchNext := rfl
@[simp] theorem State.modQueue_faults : (s.modQueue q k).faults = s.faults := rfl
@[simp] theorem State.modQueue_faultLog : (s.modQueue q k).faultLog = s.faultLog := rfl
@[simp] theorem State.modQueue_led : (s.modQueue q k).led = s.led := rfl
@[simp] theorem State.modQueue_fl : (s.modQueue q k).fl = s.fl := rfl
@[simp] theorem State.modQueue_clk : (s.modQueue q k).clk = s.clk := rfl
@[simp] theorem State.modQueue_wake : (s.modQueue q k).wake = s.wake := rfl
@[simp] theorem State.modQueue_sup : (s.modQueue q k).sup = s.sup := rfl
@[simp] theorem State.modQueue_bg : (s.modQueue q k).bg = s.bg := rfl
@[simp] theorem State.modQueue_therm : (s.modQueue q k).therm = s.therm := rfl
@[simp] theorem State.modQueue_raster : (s.modQueue q k).raster = s.raster := rfl
@[simp] theorem State.modQueue_print : (s.modQueue q k).print = s.print := rfl
@[simp] theorem State.modQueue_feed : (s.modQueue q k).feed = s.feed := rfl
@[simp] theorem State.modQueue_cut : (s.modQueue q k).cut = s.cut := rfl
@[simp] theorem State.modQueue_loops : (s.modQueue q k).loops = s.loops := rfl
@[simp] theorem State.modQueue_chans : (s.modQueue q k).chans = s.chans := rfl
@[simp] theorem State.modQueue_vid : (s.modQueue q k).vid = s.vid := rfl
@[simp] theorem State.modQueue_scan : (s.modQueue q k).scan = s.scan := rfl
@[simp] theorem State.modQueue_enc : (s.modQueue q k).enc = s.enc := rfl
@[simp] theorem State.modQueue_dec : (s.modQueue q k).dec = s.dec := rfl
@[simp] theorem State.modQueue_accel : (s.modQueue q k).accel = s.accel := rfl
@[simp] theorem State.modQueue_reply : (s.modQueue q k).reply = s.reply := rfl
@[simp] theorem State.modQueue_free : (s.modQueue q k).free = s.free := rfl
@[simp] theorem State.modQueue_pending : (s.modQueue q k).pending = s.pending := rfl
@[simp] theorem State.modQueue_rd(x : Fld) : (s.modQueue q k).rd x = s.rd x := rfl
end ModQueue

section SetSup
variable {s : State} {k : Supply → Supply}
@[simp] theorem State.setSup_part : (s.setSup k).part = s.part := rfl
@[simp] theorem State.setSup_base : (s.setSup k).base = s.base := rfl
@[simp] theorem State.setSup_boot : (s.setSup k).boot = s.boot := rfl
@[simp] theorem State.setSup_clock : (s.setSup k).clock = s.clock := rfl
@[simp] theorem State.setSup_regs : (s.setSup k).regs = s.regs := rfl
@[simp] theorem State.setSup_sram : (s.setSup k).sram = s.sram := rfl
@[simp] theorem State.setSup_keep : (s.setSup k).keep = s.keep := rfl
@[simp] theorem State.setSup_flash : (s.setSup k).flash = s.flash := rfl
@[simp] theorem State.setSup_sramUe : (s.setSup k).sramUe = s.sramUe := rfl
@[simp] theorem State.setSup_sramCe : (s.setSup k).sramCe = s.sramCe := rfl
@[simp] theorem State.setSup_keepUe : (s.setSup k).keepUe = s.keepUe := rfl
@[simp] theorem State.setSup_keepCe : (s.setSup k).keepCe = s.keepCe := rfl
@[simp] theorem State.setSup_otp : (s.setSup k).otp = s.otp := rfl
@[simp] theorem State.setSup_img : (s.setSup k).img = s.img := rfl
@[simp] theorem State.setSup_cmds : (s.setSup k).cmds = s.cmds := rfl
@[simp] theorem State.setSup_queues : (s.setSup k).queues = s.queues := rfl
@[simp] theorem State.setSup_fetchNext : (s.setSup k).fetchNext = s.fetchNext := rfl
@[simp] theorem State.setSup_faults : (s.setSup k).faults = s.faults := rfl
@[simp] theorem State.setSup_faultLog : (s.setSup k).faultLog = s.faultLog := rfl
@[simp] theorem State.setSup_led : (s.setSup k).led = s.led := rfl
@[simp] theorem State.setSup_fl : (s.setSup k).fl = s.fl := rfl
@[simp] theorem State.setSup_clk : (s.setSup k).clk = s.clk := rfl
@[simp] theorem State.setSup_wake : (s.setSup k).wake = s.wake := rfl
@[simp] theorem State.setSup_sup : (s.setSup k).sup = k s.sup := rfl
@[simp] theorem State.setSup_bg : (s.setSup k).bg = s.bg := rfl
@[simp] theorem State.setSup_therm : (s.setSup k).therm = s.therm := rfl
@[simp] theorem State.setSup_raster : (s.setSup k).raster = s.raster := rfl
@[simp] theorem State.setSup_print : (s.setSup k).print = s.print := rfl
@[simp] theorem State.setSup_feed : (s.setSup k).feed = s.feed := rfl
@[simp] theorem State.setSup_cut : (s.setSup k).cut = s.cut := rfl
@[simp] theorem State.setSup_loops : (s.setSup k).loops = s.loops := rfl
@[simp] theorem State.setSup_chans : (s.setSup k).chans = s.chans := rfl
@[simp] theorem State.setSup_vid : (s.setSup k).vid = s.vid := rfl
@[simp] theorem State.setSup_scan : (s.setSup k).scan = s.scan := rfl
@[simp] theorem State.setSup_enc : (s.setSup k).enc = s.enc := rfl
@[simp] theorem State.setSup_dec : (s.setSup k).dec = s.dec := rfl
@[simp] theorem State.setSup_accel : (s.setSup k).accel = s.accel := rfl
@[simp] theorem State.setSup_reply : (s.setSup k).reply = s.reply := rfl
@[simp] theorem State.setSup_free : (s.setSup k).free = s.free := rfl
@[simp] theorem State.setSup_pending : (s.setSup k).pending = s.pending := rfl
@[simp] theorem State.setSup_rd(x : Fld) : (s.setSup k).rd x = s.rd x := rfl
end SetSup

section ModLoop
variable {s : State} {i : Nat} {k : LoopSt → LoopSt}
@[simp] theorem State.modLoop_part : (s.modLoop i k).part = s.part := rfl
@[simp] theorem State.modLoop_base : (s.modLoop i k).base = s.base := rfl
@[simp] theorem State.modLoop_boot : (s.modLoop i k).boot = s.boot := rfl
@[simp] theorem State.modLoop_clock : (s.modLoop i k).clock = s.clock := rfl
@[simp] theorem State.modLoop_regs : (s.modLoop i k).regs = s.regs := rfl
@[simp] theorem State.modLoop_sram : (s.modLoop i k).sram = s.sram := rfl
@[simp] theorem State.modLoop_keep : (s.modLoop i k).keep = s.keep := rfl
@[simp] theorem State.modLoop_flash : (s.modLoop i k).flash = s.flash := rfl
@[simp] theorem State.modLoop_sramUe : (s.modLoop i k).sramUe = s.sramUe := rfl
@[simp] theorem State.modLoop_sramCe : (s.modLoop i k).sramCe = s.sramCe := rfl
@[simp] theorem State.modLoop_keepUe : (s.modLoop i k).keepUe = s.keepUe := rfl
@[simp] theorem State.modLoop_keepCe : (s.modLoop i k).keepCe = s.keepCe := rfl
@[simp] theorem State.modLoop_otp : (s.modLoop i k).otp = s.otp := rfl
@[simp] theorem State.modLoop_img : (s.modLoop i k).img = s.img := rfl
@[simp] theorem State.modLoop_cmds : (s.modLoop i k).cmds = s.cmds := rfl
@[simp] theorem State.modLoop_queues : (s.modLoop i k).queues = s.queues := rfl
@[simp] theorem State.modLoop_fetchNext : (s.modLoop i k).fetchNext = s.fetchNext := rfl
@[simp] theorem State.modLoop_faults : (s.modLoop i k).faults = s.faults := rfl
@[simp] theorem State.modLoop_faultLog : (s.modLoop i k).faultLog = s.faultLog := rfl
@[simp] theorem State.modLoop_led : (s.modLoop i k).led = s.led := rfl
@[simp] theorem State.modLoop_fl : (s.modLoop i k).fl = s.fl := rfl
@[simp] theorem State.modLoop_clk : (s.modLoop i k).clk = s.clk := rfl
@[simp] theorem State.modLoop_wake : (s.modLoop i k).wake = s.wake := rfl
@[simp] theorem State.modLoop_sup : (s.modLoop i k).sup = s.sup := rfl
@[simp] theorem State.modLoop_bg : (s.modLoop i k).bg = s.bg := rfl
@[simp] theorem State.modLoop_therm : (s.modLoop i k).therm = s.therm := rfl
@[simp] theorem State.modLoop_raster : (s.modLoop i k).raster = s.raster := rfl
@[simp] theorem State.modLoop_print : (s.modLoop i k).print = s.print := rfl
@[simp] theorem State.modLoop_feed : (s.modLoop i k).feed = s.feed := rfl
@[simp] theorem State.modLoop_cut : (s.modLoop i k).cut = s.cut := rfl
@[simp] theorem State.modLoop_chans : (s.modLoop i k).chans = s.chans := rfl
@[simp] theorem State.modLoop_vid : (s.modLoop i k).vid = s.vid := rfl
@[simp] theorem State.modLoop_scan : (s.modLoop i k).scan = s.scan := rfl
@[simp] theorem State.modLoop_enc : (s.modLoop i k).enc = s.enc := rfl
@[simp] theorem State.modLoop_dec : (s.modLoop i k).dec = s.dec := rfl
@[simp] theorem State.modLoop_accel : (s.modLoop i k).accel = s.accel := rfl
@[simp] theorem State.modLoop_reply : (s.modLoop i k).reply = s.reply := rfl
@[simp] theorem State.modLoop_free : (s.modLoop i k).free = s.free := rfl
@[simp] theorem State.modLoop_pending : (s.modLoop i k).pending = s.pending := rfl
@[simp] theorem State.modLoop_rd(x : Fld) : (s.modLoop i k).rd x = s.rd x := rfl
end ModLoop

section ModSlot
variable {s : State} {i : Nat} {k : Slot → Slot}
@[simp] theorem State.modSlot_part : (s.modSlot i k).part = s.part := rfl
@[simp] theorem State.modSlot_base : (s.modSlot i k).base = s.base := rfl
@[simp] theorem State.modSlot_boot : (s.modSlot i k).boot = s.boot := rfl
@[simp] theorem State.modSlot_clock : (s.modSlot i k).clock = s.clock := rfl
@[simp] theorem State.modSlot_regs : (s.modSlot i k).regs = s.regs := rfl
@[simp] theorem State.modSlot_sram : (s.modSlot i k).sram = s.sram := rfl
@[simp] theorem State.modSlot_keep : (s.modSlot i k).keep = s.keep := rfl
@[simp] theorem State.modSlot_flash : (s.modSlot i k).flash = s.flash := rfl
@[simp] theorem State.modSlot_sramUe : (s.modSlot i k).sramUe = s.sramUe := rfl
@[simp] theorem State.modSlot_sramCe : (s.modSlot i k).sramCe = s.sramCe := rfl
@[simp] theorem State.modSlot_keepUe : (s.modSlot i k).keepUe = s.keepUe := rfl
@[simp] theorem State.modSlot_keepCe : (s.modSlot i k).keepCe = s.keepCe := rfl
@[simp] theorem State.modSlot_otp : (s.modSlot i k).otp = s.otp := rfl
@[simp] theorem State.modSlot_img : (s.modSlot i k).img = s.img := rfl
@[simp] theorem State.modSlot_cmds : (s.modSlot i k).cmds = s.cmds := rfl
@[simp] theorem State.modSlot_queues : (s.modSlot i k).queues = s.queues := rfl
@[simp] theorem State.modSlot_fetchNext : (s.modSlot i k).fetchNext = s.fetchNext := rfl
@[simp] theorem State.modSlot_faults : (s.modSlot i k).faults = s.faults := rfl
@[simp] theorem State.modSlot_faultLog : (s.modSlot i k).faultLog = s.faultLog := rfl
@[simp] theorem State.modSlot_led : (s.modSlot i k).led = s.led := rfl
@[simp] theorem State.modSlot_fl : (s.modSlot i k).fl = s.fl := rfl
@[simp] theorem State.modSlot_clk : (s.modSlot i k).clk = s.clk := rfl
@[simp] theorem State.modSlot_wake : (s.modSlot i k).wake = s.wake := rfl
@[simp] theorem State.modSlot_sup : (s.modSlot i k).sup = s.sup := rfl
@[simp] theorem State.modSlot_bg : (s.modSlot i k).bg = s.bg := rfl
@[simp] theorem State.modSlot_therm : (s.modSlot i k).therm = s.therm := rfl
@[simp] theorem State.modSlot_print : (s.modSlot i k).print = s.print := rfl
@[simp] theorem State.modSlot_feed : (s.modSlot i k).feed = s.feed := rfl
@[simp] theorem State.modSlot_cut : (s.modSlot i k).cut = s.cut := rfl
@[simp] theorem State.modSlot_loops : (s.modSlot i k).loops = s.loops := rfl
@[simp] theorem State.modSlot_chans : (s.modSlot i k).chans = s.chans := rfl
@[simp] theorem State.modSlot_vid : (s.modSlot i k).vid = s.vid := rfl
@[simp] theorem State.modSlot_scan : (s.modSlot i k).scan = s.scan := rfl
@[simp] theorem State.modSlot_enc : (s.modSlot i k).enc = s.enc := rfl
@[simp] theorem State.modSlot_dec : (s.modSlot i k).dec = s.dec := rfl
@[simp] theorem State.modSlot_accel : (s.modSlot i k).accel = s.accel := rfl
@[simp] theorem State.modSlot_reply : (s.modSlot i k).reply = s.reply := rfl
@[simp] theorem State.modSlot_free : (s.modSlot i k).free = s.free := rfl
@[simp] theorem State.modSlot_pending : (s.modSlot i k).pending = s.pending := rfl
@[simp] theorem State.modSlot_rd(x : Fld) : (s.modSlot i k).rd x = s.rd x := rfl
end ModSlot

section ModCmd
variable {s : State} {t : Nat} {k : Cmd → Cmd}
@[simp] theorem State.modCmd_part : (s.modCmd t k).part = s.part := rfl
@[simp] theorem State.modCmd_base : (s.modCmd t k).base = s.base := rfl
@[simp] theorem State.modCmd_boot : (s.modCmd t k).boot = s.boot := rfl
@[simp] theorem State.modCmd_clock : (s.modCmd t k).clock = s.clock := rfl
@[simp] theorem State.modCmd_regs : (s.modCmd t k).regs = s.regs := rfl
@[simp] theorem State.modCmd_sram : (s.modCmd t k).sram = s.sram := rfl
@[simp] theorem State.modCmd_keep : (s.modCmd t k).keep = s.keep := rfl
@[simp] theorem State.modCmd_flash : (s.modCmd t k).flash = s.flash := rfl
@[simp] theorem State.modCmd_sramUe : (s.modCmd t k).sramUe = s.sramUe := rfl
@[simp] theorem State.modCmd_sramCe : (s.modCmd t k).sramCe = s.sramCe := rfl
@[simp] theorem State.modCmd_keepUe : (s.modCmd t k).keepUe = s.keepUe := rfl
@[simp] theorem State.modCmd_keepCe : (s.modCmd t k).keepCe = s.keepCe := rfl
@[simp] theorem State.modCmd_otp : (s.modCmd t k).otp = s.otp := rfl
@[simp] theorem State.modCmd_img : (s.modCmd t k).img = s.img := rfl
@[simp] theorem State.modCmd_cmds : (s.modCmd t k).cmds = s.cmds.map fun c => if c.tag == t then k c else c := rfl
@[simp] theorem State.modCmd_queues : (s.modCmd t k).queues = s.queues := rfl
@[simp] theorem State.modCmd_fetchNext : (s.modCmd t k).fetchNext = s.fetchNext := rfl
@[simp] theorem State.modCmd_faults : (s.modCmd t k).faults = s.faults := rfl
@[simp] theorem State.modCmd_faultLog : (s.modCmd t k).faultLog = s.faultLog := rfl
@[simp] theorem State.modCmd_led : (s.modCmd t k).led = s.led := rfl
@[simp] theorem State.modCmd_fl : (s.modCmd t k).fl = s.fl := rfl
@[simp] theorem State.modCmd_clk : (s.modCmd t k).clk = s.clk := rfl
@[simp] theorem State.modCmd_wake : (s.modCmd t k).wake = s.wake := rfl
@[simp] theorem State.modCmd_sup : (s.modCmd t k).sup = s.sup := rfl
@[simp] theorem State.modCmd_bg : (s.modCmd t k).bg = s.bg := rfl
@[simp] theorem State.modCmd_therm : (s.modCmd t k).therm = s.therm := rfl
@[simp] theorem State.modCmd_raster : (s.modCmd t k).raster = s.raster := rfl
@[simp] theorem State.modCmd_print : (s.modCmd t k).print = s.print := rfl
@[simp] theorem State.modCmd_feed : (s.modCmd t k).feed = s.feed := rfl
@[simp] theorem State.modCmd_cut : (s.modCmd t k).cut = s.cut := rfl
@[simp] theorem State.modCmd_loops : (s.modCmd t k).loops = s.loops := rfl
@[simp] theorem State.modCmd_chans : (s.modCmd t k).chans = s.chans := rfl
@[simp] theorem State.modCmd_vid : (s.modCmd t k).vid = s.vid := rfl
@[simp] theorem State.modCmd_scan : (s.modCmd t k).scan = s.scan := rfl
@[simp] theorem State.modCmd_enc : (s.modCmd t k).enc = s.enc := rfl
@[simp] theorem State.modCmd_dec : (s.modCmd t k).dec = s.dec := rfl
@[simp] theorem State.modCmd_accel : (s.modCmd t k).accel = s.accel := rfl
@[simp] theorem State.modCmd_reply : (s.modCmd t k).reply = s.reply := rfl
@[simp] theorem State.modCmd_free : (s.modCmd t k).free = s.free := rfl
@[simp] theorem State.modCmd_pending : (s.modCmd t k).pending = s.pending := rfl
@[simp] theorem State.modCmd_rd(x : Fld) : (s.modCmd t k).rd x = s.rd x := rfl
end ModCmd

section ModSrc
variable {s : State} {i : Nat} {k : ThermSrc → ThermSrc}
@[simp] theorem State.modSrc_part : (s.modSrc i k).part = s.part := rfl
@[simp] theorem State.modSrc_base : (s.modSrc i k).base = s.base := rfl
@[simp] theorem State.modSrc_boot : (s.modSrc i k).boot = s.boot := rfl
@[simp] theorem State.modSrc_clock : (s.modSrc i k).clock = s.clock := rfl
@[simp] theorem State.modSrc_regs : (s.modSrc i k).regs = s.regs := rfl
@[simp] theorem State.modSrc_sram : (s.modSrc i k).sram = s.sram := rfl
@[simp] theorem State.modSrc_keep : (s.modSrc i k).keep = s.keep := rfl
@[simp] theorem State.modSrc_flash : (s.modSrc i k).flash = s.flash := rfl
@[simp] theorem State.modSrc_sramUe : (s.modSrc i k).sramUe = s.sramUe := rfl
@[simp] theorem State.modSrc_sramCe : (s.modSrc i k).sramCe = s.sramCe := rfl
@[simp] theorem State.modSrc_keepUe : (s.modSrc i k).keepUe = s.keepUe := rfl
@[simp] theorem State.modSrc_keepCe : (s.modSrc i k).keepCe = s.keepCe := rfl
@[simp] theorem State.modSrc_otp : (s.modSrc i k).otp = s.otp := rfl
@[simp] theorem State.modSrc_img : (s.modSrc i k).img = s.img := rfl
@[simp] theorem State.modSrc_cmds : (s.modSrc i k).cmds = s.cmds := rfl
@[simp] theorem State.modSrc_queues : (s.modSrc i k).queues = s.queues := rfl
@[simp] theorem State.modSrc_fetchNext : (s.modSrc i k).fetchNext = s.fetchNext := rfl
@[simp] theorem State.modSrc_faults : (s.modSrc i k).faults = s.faults := rfl
@[simp] theorem State.modSrc_faultLog : (s.modSrc i k).faultLog = s.faultLog := rfl
@[simp] theorem State.modSrc_led : (s.modSrc i k).led = s.led := rfl
@[simp] theorem State.modSrc_fl : (s.modSrc i k).fl = s.fl := rfl
@[simp] theorem State.modSrc_clk : (s.modSrc i k).clk = s.clk := rfl
@[simp] theorem State.modSrc_wake : (s.modSrc i k).wake = s.wake := rfl
@[simp] theorem State.modSrc_sup : (s.modSrc i k).sup = s.sup := rfl
@[simp] theorem State.modSrc_bg : (s.modSrc i k).bg = s.bg := rfl
@[simp] theorem State.modSrc_raster : (s.modSrc i k).raster = s.raster := rfl
@[simp] theorem State.modSrc_print : (s.modSrc i k).print = s.print := rfl
@[simp] theorem State.modSrc_feed : (s.modSrc i k).feed = s.feed := rfl
@[simp] theorem State.modSrc_cut : (s.modSrc i k).cut = s.cut := rfl
@[simp] theorem State.modSrc_loops : (s.modSrc i k).loops = s.loops := rfl
@[simp] theorem State.modSrc_chans : (s.modSrc i k).chans = s.chans := rfl
@[simp] theorem State.modSrc_vid : (s.modSrc i k).vid = s.vid := rfl
@[simp] theorem State.modSrc_scan : (s.modSrc i k).scan = s.scan := rfl
@[simp] theorem State.modSrc_enc : (s.modSrc i k).enc = s.enc := rfl
@[simp] theorem State.modSrc_dec : (s.modSrc i k).dec = s.dec := rfl
@[simp] theorem State.modSrc_accel : (s.modSrc i k).accel = s.accel := rfl
@[simp] theorem State.modSrc_reply : (s.modSrc i k).reply = s.reply := rfl
@[simp] theorem State.modSrc_free : (s.modSrc i k).free = s.free := rfl
@[simp] theorem State.modSrc_pending : (s.modSrc i k).pending = s.pending := rfl
@[simp] theorem State.modSrc_rd(x : Fld) : (s.modSrc i k).rd x = s.rd x := rfl
end ModSrc

section FlashErase
variable {s : State} {a len : Nat}
@[simp] theorem State.flashErase_part : (s.flashErase a len).part = s.part := rfl
@[simp] theorem State.flashErase_base : (s.flashErase a len).base = s.base := rfl
@[simp] theorem State.flashErase_boot : (s.flashErase a len).boot = s.boot := rfl
@[simp] theorem State.flashErase_clock : (s.flashErase a len).clock = s.clock := rfl
@[simp] theorem State.flashErase_regs : (s.flashErase a len).regs = s.regs := rfl
@[simp] theorem State.flashErase_sram : (s.flashErase a len).sram = s.sram := rfl
@[simp] theorem State.flashErase_keep : (s.flashErase a len).keep = s.keep := rfl
@[simp] theorem State.flashErase_sramUe : (s.flashErase a len).sramUe = s.sramUe := rfl
@[simp] theorem State.flashErase_sramCe : (s.flashErase a len).sramCe = s.sramCe := rfl
@[simp] theorem State.flashErase_keepUe : (s.flashErase a len).keepUe = s.keepUe := rfl
@[simp] theorem State.flashErase_keepCe : (s.flashErase a len).keepCe = s.keepCe := rfl
@[simp] theorem State.flashErase_otp : (s.flashErase a len).otp = s.otp := rfl
@[simp] theorem State.flashErase_img : (s.flashErase a len).img = s.img := rfl
@[simp] theorem State.flashErase_cmds : (s.flashErase a len).cmds = s.cmds := rfl
@[simp] theorem State.flashErase_queues : (s.flashErase a len).queues = s.queues := rfl
@[simp] theorem State.flashErase_fetchNext : (s.flashErase a len).fetchNext = s.fetchNext := rfl
@[simp] theorem State.flashErase_faults : (s.flashErase a len).faults = s.faults := rfl
@[simp] theorem State.flashErase_faultLog : (s.flashErase a len).faultLog = s.faultLog := rfl
@[simp] theorem State.flashErase_led : (s.flashErase a len).led = s.led := rfl
@[simp] theorem State.flashErase_fl : (s.flashErase a len).fl = s.fl := rfl
@[simp] theorem State.flashErase_clk : (s.flashErase a len).clk = s.clk := rfl
@[simp] theorem State.flashErase_wake : (s.flashErase a len).wake = s.wake := rfl
@[simp] theorem State.flashErase_sup : (s.flashErase a len).sup = s.sup := rfl
@[simp] theorem State.flashErase_bg : (s.flashErase a len).bg = s.bg := rfl
@[simp] theorem State.flashErase_therm : (s.flashErase a len).therm = s.therm := rfl
@[simp] theorem State.flashErase_raster : (s.flashErase a len).raster = s.raster := rfl
@[simp] theorem State.flashErase_print : (s.flashErase a len).print = s.print := rfl
@[simp] theorem State.flashErase_feed : (s.flashErase a len).feed = s.feed := rfl
@[simp] theorem State.flashErase_cut : (s.flashErase a len).cut = s.cut := rfl
@[simp] theorem State.flashErase_loops : (s.flashErase a len).loops = s.loops := rfl
@[simp] theorem State.flashErase_chans : (s.flashErase a len).chans = s.chans := rfl
@[simp] theorem State.flashErase_vid : (s.flashErase a len).vid = s.vid := rfl
@[simp] theorem State.flashErase_scan : (s.flashErase a len).scan = s.scan := rfl
@[simp] theorem State.flashErase_enc : (s.flashErase a len).enc = s.enc := rfl
@[simp] theorem State.flashErase_dec : (s.flashErase a len).dec = s.dec := rfl
@[simp] theorem State.flashErase_accel : (s.flashErase a len).accel = s.accel := rfl
@[simp] theorem State.flashErase_reply : (s.flashErase a len).reply = s.reply := rfl
@[simp] theorem State.flashErase_free : (s.flashErase a len).free = s.free := rfl
@[simp] theorem State.flashErase_pending : (s.flashErase a len).pending = s.pending := rfl
@[simp] theorem State.flashErase_rd(x : Fld) : (s.flashErase a len).rd x = s.rd x := rfl
end FlashErase

end Sys2Proof.Machine
end

