-- ==== Sys2Proof/WellFormed.lean ====
section
/-! DEFINITION. Well-formed commands: operands that the row's rule can bring about. `exec` is total on every command; a
well-formed one is what the surroundings of the device can send. -/

namespace Sys2Proof

/-- A probe of the head gives at most one current per strobe group (R364, R389). -/
def HeadMeas.wf (m : HeadMeas) : Bool := m.groups.length ≤ 8

/-- A motor check measures two windings of a stepper or three phase pairs (R426). -/
def windingsWf (m : List WindingMeas) : Bool := m.length == 2 || m.length == 3

/-- A negotiation reads the ID of each of the four descriptors (R470). -/
def Negotiation.wf (n : Negotiation) : Bool := n.ids.length == 4

/-- A self-test's outcome is one that its rod can have (R68, R390, R427, R470). -/
def TestResult.wf (r : Rod) : TestResult → Bool
  | .pass | .fail => true
  | .head m _ => r == .print && m.wf
  | .motor m _ => r == .feed && windingsWf m
  | .camera n => r == .vidin && n.wf

/-- A slice's QP lies in 0 to 51, it has macroblocks, and its NAL unit is not empty (R505). -/
def Slice.wf (r : Slice) : Bool := r.qp.toNat ≤ 51 && !r.mbs.isEmpty && !r.nal.isEmpty

/-- The operands fit the row. -/
def Instr.wf : Instr → Bool
  | .write h data _ => data.length == h.len.toNat
  | .shortTransaction h data crc => data.length ≤ 4096 && (crc.isNone || h.any fun x => data.length == x.len.toNat)
  | .transactionTimeout h data _ done =>
    done.toNat < h.len.toNat && data.length == if h.op.toNat % 16 == 2 then h.len.toNat else 0
  | .queueEnable _ w => w.getLsbD 16
  | .queueDisable _ w => !w.getLsbD 16
  | .go _ w => w.getLsbD 0
  | .stop _ w => w.getLsbD 1
  | .clear _ w => w.getLsbD 2
  | .auxOn w => w.getLsbD 0
  | .auxOff w => !w.getLsbD 0
  | .selfTestDone r res => res.wf r
  | .headProbe _ m => m.wf
  | .headRecheckDone m _ => m.wf
  | .motorCheck _ m => windingsWf m
  | .negotiationRetry n => n.wf
  | .sample _ codes => codes.length ≤ 30
  | .pageProgramDone left => left.all fun l => l.length ≤ 256
  | .accelSample _ data => data.all fun l => l.length == 6
  | .sliceDone r => r.wf
  | .registerWrite a _ => a.toNat % 4 == 0 && 0x40000000 ≤ a.toNat && a.toNat < 0x60000000
  | _ => true

end Sys2Proof
end

