-- ==== Sys2Proof/Tests/Slice0.lean ====
section
/-! SUPPORT. Tests: operands that no row brings about, the worked examples of the spec, and for each statement of
Obligations.lean states and operands that meet the hypotheses of its clauses. Each entry of a `witness` list is the conjunction
of the hypotheses of one clause, or of several that share a state. -/

namespace Sys2Proof.Tests

set_option Elab.async false

open Sys2Proof Sys2Proof.Machine

/-- `s` with register fields set. -/
def st (l : List (Fld × Nat)) (s : State := {}) : State := l.foldl (fun s f => s.wr f.1 f.2) s

/-- `s` with rods READY. -/
def rods (l : List Rod) (s : State := {}) : State := l.foldl (fun s r => s.wrBit CORE.ROD_READY_READY r.idx true) s

/-- `s` with LINK READY, so that the host link executes (the bank HL has its supply at reset), and what a write needs of the state. -/
def host (s : State := {}) : State := s.wrBit CORE.ROD_READY_READY 1 true
def takes (s : State) (r : Rod) : Bool := s.linkOn && !s.untrained && s.has r && !s.writesBlocked r

/-- A command under tag 1 of queue 1, and `s` with it in flight. -/
def cmd (op : Nat) (l : List Rod) (p0 : Nat := 0) (p1 : Nat := 0) (p2 : Nat := 0) (p3 : Nat := 0) (p4 : Nat := 0) : Cmd :=
  { tag := 1, queue := 1, cmdId := 7, op := op, rods := l, now := false, wait := 0, p0 := p0, p1 := p1, p2 := p2, p3 := p3,
    p4 := p4, p5 := 0, started := false }
def flight (c : Cmd) (s : State := {}) : State := { s with cmds := [c] }

/-- `s` with beads in force. -/
def beads (l : List (Nat × List Nat)) (s : State := {}) : State :=
  { s with img := { s.img with beads := l.map fun b => { num := b.1, data := b.2 } } }

/-- `s` with a FULL image applied. -/
def imaged (s : State := {}) : State := s.wr CORE.IMG_STAT_STATE 3

/-- `s` with bytes in main SRAM. -/
def sramOf (a : Nat) (l : List Nat) (s : State := {}) : State := { s with sram := putBytes s.sram a l }

/-- A script of one rule, 8 lines high, with `rest` behind its items. -/
def script (items : List Nat) : List Nat := leBytes 4 0x5352424D ++ [1, 0, 0, 0] ++ leBytes 4 (16 + items.length) ++ [0, 0, 0, 0] ++ items

/-- A job of two bands under tag 1. -/
def job (st : Stage) : Job := { tag := 1, canvas := 64, x0 := 0, shift := 0, bands := 2, res := [], stage := st, band := 1 }

/-- A RECEIPT under tag 1 that RASTER checks, with its script at address 0. -/
def checking (items : List Nat) (s : State := {}) : State :=
  let s := flight { cmd 0x60 [.print, .raster, .feed] 0 (16 + items.length) with started := true }
    (sramOf 0 (script items) (st [(RASTER.CFG_HEAD_DOTS, 64), (RASTER.BAND_CFG_BAND_MAX, 100), (RASTER.CFG_LINE_WORDS, 1),
      (RASTER.STAT_STATE, 1)] (rods [.raster] s)))
  { s with raster := { s.raster with begun := some ⟨1, [], none, 0⟩ } }

/-- What RASTER reads for a script and what it comes to. -/
def reads (s : State) (len : Nat) (res : List Res) (w : Nat × Nat) : Reads := s.readsOf 0 len res w.1 w.2
def planned (s : State) (len : Nat) (res : List Res) (w : Nat × Nat) : ScriptPlan := s.plan 0 len res (reads s len res w)

/-- The same RECEIPT with its first band to be drawn in slot 0. -/
def drawing (items : List Nat) (s : State := {}) (j : Job := job .render) : State :=
  let s := checking items (rods [.flash] (st [(bandState 0, 1)] s))
  { s with print := { s.print with jobs := [j] }, raster := { s.raster with slots := [{ tag := some 1 }, {}, {}] } }

/-- A head of one group, identified by 100 to 200 mV, whose resistance lies anywhere. -/
def headBeads : List (Nat × List Nat) := [(0x0602, leBytes 2 100 ++ leBytes 2 200 ++ leBytes 2 0 ++ leBytes 2 65535 ++ leBytes 2 1000 ++
  leBytes 2 3950 ++ leBytes 2 1000 ++ [0, 0])]
def headGood : HeadMeas := ⟨150, 20000, [1000]⟩

/-- A command of PRINT that may probe the head. -/
def probing (c : Cmd) (s : State := {}) : State :=
  flight c (rods [.supply, .therm] (st [(SUPPLY.VH_STAT_ON, 1)] { s with boot := { s.boot with tested := 2 ^ 6 } }))

/-- A logo of 8 × 1 dots under ID 1 (R343), its CRC as zlib computes it. -/
def logo : List Nat := leBytes 4 0x474C424D ++ [1, 0, 0, 0, 8, 0, 1, 0, 1, 0, 0, 0] ++ leBytes 4 25 ++ leBytes 4 0x5fc29f2b ++ [255]

/-- A sensor of two lanes, 16 × 16 at 30 frames a second, with ID 0x1234 and one mode of `lanes` lanes. -/
def camera (lanes : Nat) : List Nat :=
  [0x10, 0, 0, 2, 0, 0] ++ leBytes 2 0x1234 ++ leBytes 2 0xFFFF ++ [1, 0, 0, 30] ++ leBytes 2 16 ++ leBytes 2 16 ++ [0, 0, 1] ++
    List.replicate 27 0 ++ [lanes, 0] ++ leBytes 2 400 ++ [0, 0, 0, 0]
def ids : List (Option (BitVec 16)) := [some 0x1234, none, none, none]

/-- A control law of one stage. -/
def lawOf (kind : Nat) : List Nat := [1, 0, 0, 0, 0, 0, 0, 0] ++ leBytes 4 1 ++ leBytes 4 1 ++ [kind, 0, 0, 0] ++ List.replicate 20 0

/-- An accelerometer with threshold 1 (100 mg) and 1 mg a count. -/
def accel : List Nat := [0x18, 0, 0, 0x33, 0, 0] ++ leBytes 2 1 ++ [0, 0] ++ leBytes 2 1

/-- A header with its CRC. -/
def hdr (op : BitVec 8) (len : BitVec 16) (addr : BitVec 32) : Header :=
  let h : Header := ⟨op, len, addr, 0⟩
  { h with hcrc := BitVec.ofNat 8 (crc8 (headerBytes h)) }

/-! ### Operands that no row can bring about -/

theorem test_wf_refuses :
    [Instr.write (hdr 0xA2 2 0) [1] 0, .shortTransaction (some (hdr 0xA2 2 0)) [1] (some 0), .shortTransaction none (List.replicate 4097 0) none,
      .transactionTimeout (hdr 0xA1 4 0) [] 0 4, .transactionTimeout (hdr 0xA2 4 0) [1] 0 1, .queueEnable 0 8, .queueDisable 0 0x10008,
      .go 0 2, .stop 0 1, .clear 0 1, .auxOn 0, .auxOff 1, .selfTestDone .cut (.head headGood 0), .selfTestDone .print (.motor [] 0),
      .selfTestDone .feed (.motor [] 0), .selfTestDone .vidin (.camera ⟨[], true, true⟩), .headProbe 0 ⟨0, 0, List.replicate 9 0⟩,
      .headRecheckDone ⟨0, 0, List.replicate 9 0⟩ 0, .motorCheck 0 [], .negotiationRetry ⟨[], true, true⟩, .sample 0 (List.replicate 31 0),
      .pageProgramDone (some (List.replicate 257 0)), .accelSample none (some [0]), .sliceDone ⟨52, [.skip 0 0], 0, [], [0]⟩, .sliceDone ⟨0, [], 0, [], [0]⟩,
      .sliceDone ⟨0, [.skip 0 0], 0, [], []⟩, .registerWrite 0x40000002 0, .registerWrite 0x3FFFFFFC 0, .registerWrite 0x60000000 0].all
      (fun i => !i.wf) = true := by decide +kernel

theorem test_wf_accepts :
    [Instr.write (hdr 0xA2 1 0) [1] 0, .transactionTimeout (hdr 0xA1 4 0) [] 0 3, .queueEnable 0 0x10008, .queueDisable 0 0, .go 0 1, .stop 0 2,
      .clear 0 4, .auxOn 1, .auxOff 0, .selfTestDone .print (.head headGood 0), .motorCheck 0 [⟨0, 0, false⟩, ⟨0, 0, false⟩],
      .registerWrite 0x5FFFFFFC 0, .sliceDone ⟨51, [.skip 0 0], 0, [], [0]⟩].all Instr.wf = true := by decide +kernel

/-! ### Worked examples of the spec -/

/-- What a command leaves, by a property of the next state. -/
def leaves (c : Instr) (s : State) (p : State → Bool) : Bool :=
  match exec c s with
  | .next t => p t
  | _ => false

/-- R17: the addresses of the worked example. -/
theorem test_addresses :
    PRINT.LINE_CTL_MIN_PERIOD.addr = 0x40060040 ∧ SUPPLY.COUNT_FLOOR_LINES.addr = 0x40050038 ∧ (MOVER.CH_APPEND_APPEND 6).addr = 0x400301C8 := by
  decide +kernel

/-- R171: the CRC-8 of the header that reads LINK.CAP. -/
theorem test_crc8 : crc8 [0xA1, 0x04, 0, 0, 0, 0x01, 0x40] = 0x82 := by decide +kernel

/-- R179, steps 1 to 4: LINK.CAP reads 07 64 01 01 behind status 0x90. -/
theorem test_read :
    leaves (.read (hdr 0xA1 4 0x40010000)) (rods [.link] (st [(VEC.PENDING_PENDING, 2)])) (fun t => t.reply == [0x90, 0x07, 0x64, 0x01, 0x01]) =
      true := by decide +kernel

/-- R179, step 5: the offer 0x00016405 is agreed as 0x01816404, tap 8 and STATE AGREED. -/
theorem test_linkOffer :
    leaves (.linkOffer 0x00016405) (rods [.link] (st [(LINK.AGREED_TAP, 8)])) (fun t => t.reg LINK.AGREED_LANES.addr == 0x01816404) = true := by
  decide +kernel

/-- R179, steps 8 to 10: taps 5 to 11 pass, tap 8 is put in force, and LINK.AGREED reads 0x03816404. -/
theorem test_train :
    leaves (.train (hdr 0xA4 32 0) true 0x0FE0)
      (rods [.link] (st [(LINK.AGREED_LANES, 4), (LINK.AGREED_MHZ, 100), (LINK.AGREED_DCRC, 1), (LINK.AGREED_STATE, 2)]))
      (fun t => t.reg LINK.AGREED_LANES.addr == 0x03816404 && t.rd LINK.TRAIN_PASS == 0x0FE0) = true := by decide +kernel

/-- R188: a read of SUPPLY.COUNT, SUPPLY.FAULT and two holes is HOLE, 0x8D, and clears SUPPLY.COUNT; one of two bytes does not. -/
theorem test_read_hole :
    leaves (.read (hdr 0xA1 16 0x40050038)) (rods [.link] (st [(SUPPLY.COUNT_FLOOR_LINES, 5)]))
      (fun t => t.reply.head? == some 0x8D && t.rd SUPPLY.COUNT_FLOOR_LINES == 0) = true ∧
    leaves (.read (hdr 0xA1 2 0x40050038)) (rods [.link] (st [(SUPPLY.COUNT_FLOOR_LINES, 5)]))
      (fun t => t.reply == [0x80, 5, 0] && t.rd SUPPLY.COUNT_FLOOR_LINES == 5) = true := by decide +kernel

/-- R210: DEPTH 16, head 5, tail 14: a tail of 4 is accepted, 5 and 16 are not. -/
theorem test_submissionTailDoorbell :
    let s := host (st [(VEC.Q_CFG_EN 1, 1), (VEC.Q_CFG_DEPTH 1, 16), (VEC.Q_SQ_IDX_HEAD 1, 5), (VEC.Q_SQ_IDX_TAIL 1, 14)])
    (leaves (.submissionTailDoorbell 1 4) s (fun t => t.rd (VEC.Q_SQ_IDX_TAIL 1) == 4) &&
      leaves (.submissionTailDoorbell 1 5) s (fun t => t.rd (VEC.Q_SQ_IDX_TAIL 1) == 14 && t.rd (VEC.Q_STAT_QOVF 1) == 1) &&
      leaves (.submissionTailDoorbell 1 16) s (fun t => t.rd (VEC.Q_SQ_IDX_TAIL 1) == 14)) = true := by decide +kernel

/-- R222: with COUNT 4, three OK completions leave the vector clear, the fourth sets it; TORN sets it at once. -/
theorem test_nop_coalescing :
    let s := st [(VEC.Q_CFG_EN 1, 1), (VEC.Q_CFG_DEPTH 1, 16), (VEC.Q_COAL_COUNT 1, 4), (VEC.ENABLE_ENABLE, 2)]
    let ok : Compl := ⟨none, 7, stOK, 1, false, 0, 0⟩
    let t := ((s.writeCompl 1 ok).writeCompl 1 ok).writeCompl 1 ok
    (!t.rdBit VEC.PENDING_PENDING 1 && (t.writeCompl 1 ok).rdBit VEC.PENDING_PENDING 1 &&
      (s.writeCompl 1 { ok with status := stTorn }).rdBit VEC.PENDING_PENDING 1) = true := by decide +kernel

/-- R100, step 6: the torn completion of line 700 in band 2 has 0x02BC and 0x0102012C. -/
theorem test_queueEnable_torn :
    let r := leBytes 4 recTorn ++ leBytes 2 0x0131 ++ [1, 2] ++ leBytes 4 700 ++ leBytes 2 300 ++ leBytes 2 560 ++ [0, 0, 0, 0, 1, 0]
    let s := rods [.core, .link] { keep := putBytes [] 0x100 r }
    leaves (.queueEnable 0 0x10008) s (fun t =>
      t.bytes .sram 0 16 == [0x31, 0x01, stTorn, 0x11, 0, 0, 0, 0, 0xBC, 0x02, 0, 0, 0x2C, 0x01, 0x02, 0x01]) = true := by decide +kernel

/-- R540: the surge at line 310 of band 1 tears the RECEIPT with 310 and 0x05010136, and the device is HELD for 0x0520. -/
theorem test_vmTrip :
    let j : Job := { job .print with lines := 310, linesBand := 310 }
    let s := flight { cmd 0x60 [.print, .raster, .feed] with started := true }
      (st [(VEC.Q_CFG_EN 1, 1), (VEC.Q_CFG_DEPTH 1, 8)] { print := { jobs := [j] } })
    leaves (.vmTrip 18512) s (fun t => t.base == .held && t.rd CORE.HELD_CAUSE == 0x0520 &&
      (t.bytes .sram 0 16).drop 8 == leBytes 4 310 ++ leBytes 4 0x05010136 && t.bytes .sram 2 1 == [stTorn]) = true := by decide +kernel

/-- R407: with point k at 16k mm/s and 2k degrees, θ_adv at 200 mm/s is 25°. -/
theorem test_advance :
    let a := FEED.PHASE_ADV0_SPEED_A.addr
    let s := (List.range 16).foldl (fun s k => st [(⟨a + 4 * (k / 2), 16 * (k % 2), 8⟩, 8 * k), (⟨a + 4 * (k / 2), 16 * (k % 2) + 8, 8⟩, 2 * k)] s) {}
    s.advTable 2000 = 25 := by decide +kernel

/-- R415: with N = 125 and M = 9, I reaches 1, 2 and 3 at counts 14, 28 and 42; after a step back at 30 it is 1 three counts lower. -/
theorem test_divider :
    let s := st [(FEED.DIV_N, 125), (FEED.DIV_M, 9)]
    let at_ (k : Int) : Int := ({ s with feed := { s.feed with acc := 9 * k } } : State).lineIndex
    [13, 14, 27, 28, 41, 42, 27, 125].map at_ = [0, 1, 1, 2, 2, 3, 1, 9] := by decide +kernel

/-- R324: at −30 °C the LFXO's correction is +102.85 ppm. -/
theorem test_lfxo : (({} : State).lfxoComp (-300)).rd THERM.LFXO_PPM_CORR = 10285 := by decide +kernel

/-- R372: a dot of 30 µJ × 0.88 at 500 Ω and 7.76 V is 14029 ticks; H 0.5 and 70/128 make 7015 and 7672. -/
theorem test_width :
    let us (h : Rat) : Rat := 30 * h * (88 / 100) * 500 / (776 / 100 * (776 / 100))
    [us 1, us (1 / 2), us (70 / 128)].map (fun x => (widthTicks x).1) = [14029, 7015, 7672] := by decide +kernel

/-- R376: eight groups of 1.117 A form three passes at 4.0 A and four at 3.0 A. -/
theorem test_passes :
    let gs : List (Nat × Rat) := (List.range 8).map fun g => (g, 72 * (776 / 100) / 500)
    ((formPasses (some 4) gs []).map (·.1) = [[0, 1, 2], [3, 4, 5], [6, 7]]) ∧
      ((formPasses (some 3) gs []).map (·.1) = [[0, 1], [2, 3], [4, 5], [6, 7]]) := by decide +kernel

/-- R137: a write of VH_TGT = 100 clears SETTLED. -/
theorem test_vhTgtWrite :
    leaves (.vhTgtWrite 100) (host (st [(SUPPLY.VH_STAT_ON, 1), (SUPPLY.VH_STAT_SETTLED, 1), (SUPPLY.VH_TGT_CODE, 60)]))
      (fun t => t.rd SUPPLY.VH_TGT_CODE == 100 && t.rd SUPPLY.VH_STAT_SETTLED == 0) = true := by decide +kernel

/-- R270: the end of the last of 32 sectors completes SLOT_ERASE with 32, and the slot is ERASED. -/
theorem test_sectorEraseDone :
    let s := flight (cmd 0x20 [.flash] 2) (st [(VEC.Q_CFG_EN 1, 1), (VEC.Q_CFG_DEPTH 1, 8)] { fl := { job := some ⟨1, 2, true, 31⟩ } })
    leaves .sectorEraseDone s (fun t => t.rd FLASH.SLOTS_B_STATE == slotErased && t.bytes .sram 8 4 == [32, 0, 0, 0]) = true := by decide +kernel

/-- R101: a period of 1 to 9 ms acts as 10 (R101). -/
theorem test_hbPeriodWrite : leaves (.hbPeriodWrite 5) host (fun t => t.rd CORE.HB_PERIOD_PERIOD_MS == 10) = true := by decide +kernel

/-- FIPS 180: SHA-256 of the three bytes "abc" begins BA 78 16 BF. -/
theorem test_sha256 : (sha256 [0x61, 0x62, 0x63]).take 4 = [0xBA, 0x78, 0x16, 0xBF] := by decide +kernel

/-- R264: CRC-32 of "123456789" is 0xCBF43926. -/
theorem test_crc32 : crc32 [0x31, 0x32, 0x33, 0x34, 0x35, 0x36, 0x37, 0x38, 0x39] = 0xCBF43926 := by decide +kernel

/-! ### Witnesses -/

theorem witness_QueuePairs :
    ([(let s := host (rods [.core]); takes s .core && !s.qEn 0 && field 0x10008 16 1 = 1 && 8 ≤ field 0x10008 0 9 && field 0x10008 0 9 ≤ 256
     && s.inShared (s.sqBase 0) (32 * 8) && s.inShared (s.cqBase 0) (16 * 8) && s.ready .core),
    (let s := host imaged; takes s .core && !s.qEn 15 && field 0x10100 16 1 = 1 && field 0x10100 0 9 = 256
     && s.inShared (s.sqBase 15) (32 * 256) && s.inShared (s.cqBase 15) (16 * 256) && s.imageApplied && !s.coreCause),
    (let s := host imaged; takes s .core && !s.qEn 1 && field 0x10007 16 1 = 1 && !(decide (8 ≤ field 0x10007 0 9))),
    (let s := host imaged; takes s .core && !s.qEn 1 && field 0x10101 16 1 = 1 && !(decide (field 0x10101 0 9 ≤ 256))),
    (let s := host; takes s .core && !s.qEn 1 && !(s.imageApplied && !s.coreCause)),
    (let s := host (st [(VEC.Q_CFG_EN 15, 1)]); s.qEn 15 && takes s .core && field 0x10008 16 1 = 1),
    (let s := host (st [(VEC.Q_CFG_EN 15, 1)]); s.qEn 15 && takes s .core && field 0 16 1 = 0 && !s.queueBusy 15),
    (let s := host (flight (cmd 0 []) (st [(VEC.Q_CFG_EN 1, 1)])); s.qEn 1 && takes s .core && s.queueBusy 1),
    (let s := flight (cmd 0 []); s.cmds.any fun c => c.queue == 1),
    (let s : State := { queues := [{ held := [⟨some 3, 0, 0, 0, false, 0, 0⟩] }] }; s.queueBusy 0 && s.cmds == [])] : List Bool).all id = true := by decide +kernel

theorem witness_Doorbells :
    ([(let s := host (st [(VEC.Q_CFG_EN 2, 1), (VEC.Q_CFG_DEPTH 2, 8), (VEC.Q_SQ_IDX_TAIL 2, 6)]); takes s .core && s.tailOk 2 (field 7 0 9)),
    (let s := host (st [(VEC.Q_CFG_EN 2, 1), (VEC.Q_CFG_DEPTH 2, 8), (VEC.Q_SQ_IDX_TAIL 2, 6)]); takes s .core && !s.tailOk 2 (field 0 0 9) && !s.tailOk 2 (field 8 0 9)),
    (let s := host (st [(VEC.Q_CFG_EN 2, 1), (VEC.Q_CFG_DEPTH 2, 8), (VEC.Q_CQ_IDX_TAIL 2, 7)]); takes s .core && s.headOk 2 (field 7 0 9) && s.headOk 2 0
     && (s.queues.getD 2 {}).held == []),
    (let s := host (st [(VEC.Q_CFG_EN 2, 1), (VEC.Q_CFG_DEPTH 2, 8), (VEC.Q_CQ_IDX_TAIL 2, 6)]); takes s .core && !s.headOk 2 (field 7 0 9) && !s.headOk 2 8),
    (let s := st [(VEC.Q_COAL_TIME 15, 1)] { queues := List.replicate 16 { count := 1 } }; s.awake && s.rd (VEC.Q_COAL_TIME 15) ≠ 0 && (s.queues.getD 15 {}).count ≠ 0)] : List Bool).all id = true := by decide +kernel

theorem witness_Vectors :
    ([(let s : State := {}; s.awake && s.bank 0 && (31 : Nat) < 32),
    (takes host .core)] : List Bool).all id = true := by decide +kernel

theorem witness_ClockSources :
    ([(let s : State := {}; !s.boot.off && s.clk.lfTry),
    (let s := st [(CORE.CLK_STAT_LF_SRC, 1)]; !s.boot.off && s.rd CORE.CLK_STAT_LF_SRC = 1),
    (let s := st [(CORE.CLK_STAT_LF_SRC, 0)]; !s.boot.off && s.rd CORE.CLK_STAT_LF_SRC = 0),
    (let s : State := {}; s.awake && s.clk.hfxoStart && !s.pllvWanted && s.rd CORE.CLK_STAT_HFXO_OK = 0),
    (let s := st [(CORE.CLK_STAT_HFXO_OK, 1)]; s.awake && s.rd CORE.CLK_STAT_HFXO_OK = 1 && !s.hasFault 0x0004),
    (takes host .core)] : List Bool).all id = true := by decide +kernel

theorem witness_PllsAndOperatingPoint :
    ([(let s := st [(CORE.CLK_STAT_HFXO_OK, 1)]; s.awake && s.rd CORE.CLK_STAT_HFXO_OK = 1 && s.clk.plls.active && s.clk.plls.goal < 512
     && s.clk.plls.fails < 2),
    (let s := st [(CORE.CLK_STAT_HFXO_OK, 1), (CORE.CLK_REQ_PLLV_WARM, 1)]; s.awake && s.rd CORE.CLK_STAT_HFXO_OK = 1 && s.pllvWanted
     && s.rd CORE.CLK_STAT_PLLV_LOCK = 0 && !s.clk.pllvFailed && s.clk.pllvFails < 2),
    (let s : State := { clk := { plls := { active := false } } }; s.awake && !s.clk.plls.active),
    (let s := st [(CORE.CLK_STAT_PLLV_LOCK, 1)]; s.awake && s.rd CORE.CLK_STAT_PLLV_LOCK = 1),
    (let s := st [(CORE.CLK_STAT_HFXO_OK, 1)] { clk := { plls := { fails := 1 } } }; s.awake && s.clk.plls.active && s.clk.plls.fails < 2),
    (let s := st [(CORE.CLK_STAT_HFXO_OK, 1)] { clk := { plls := { fails := 2 } } }; s.awake && s.rd CORE.CLK_STAT_HFXO_OK = 1
     && s.clk.plls.active && 2 ≤ s.clk.plls.fails && !s.clk.plls.back),
    (let s := st [(CORE.CLK_STAT_HFXO_OK, 1)] { clk := { plls := { fails := 2, back := true } } }; s.awake && s.rd CORE.CLK_STAT_HFXO_OK = 1
     && s.clk.plls.active && 2 ≤ s.clk.plls.fails && s.clk.plls.back && s.clk.dvfs ≠ .relockUp && s.clk.dvfs ≠ .relockDown),
    (let s := st [(CORE.CLK_STAT_HFXO_OK, 1), (CORE.CLK_REQ_PLLV_WARM, 1)] { clk := { pllvFails := 2 } }; s.awake
     && s.rd CORE.CLK_STAT_HFXO_OK = 1 && s.rd CORE.CLK_STAT_PLLV_LOCK = 0 && s.pllvWanted && !s.clk.pllvFailed && 2 ≤ s.clk.pllvFails
     && s.rd ENC.STAT_STATE = 0 && s.dec.queue == [] && s.dec.cur == none && s.vid.renegTag = none),
    (let s := host (imaged (st [(CORE.DVFS_STAT_BUSY, 1)])); takes s .core && s.imageApplied && s.rd CORE.DVFS_STAT_BUSY = 1),
    (let s := host (imaged (st [(CORE.OPP0_PLLS_MHZ, 300), (CORE.OPP0_VCORE_10MV, 85), (CORE.CLK_STAT_PLLS_MHZ, 264)])); takes s .core && s.imageApplied
     && s.rd CORE.DVFS_STAT_BUSY = 0 && s.rd CORE.DVFS_STAT_PENDING = 0 && !(s.clk.inForce && s.rd CORE.DVFS_STAT_CUR_POINT == field 0 0 2)
     && s.rd CORE.CLK_STAT_PLLS_MHZ < s.rd (oppMhz (field 0 0 2)) && s.rd SUPPLY.VCORE_TGT_LEVEL ≠ s.rd (oppMv (field 0 0 2)) && s.rd (oppMv (field 0 0 2)) < 128),
    (let s := host (imaged (st [(CORE.OPP3_PLLS_MHZ, 200), (CORE.CLK_STAT_PLLS_MHZ, 264)])); takes s .core && s.imageApplied
     && s.rd CORE.DVFS_STAT_BUSY = 0 && s.rd CORE.DVFS_STAT_PENDING = 0 && !(s.clk.inForce && s.rd CORE.DVFS_STAT_CUR_POINT == field 3 0 2)
     && s.rd (oppMhz (field 3 0 2)) < s.rd CORE.CLK_STAT_PLLS_MHZ)] : List Bool).all id = true := by decide +kernel

theorem witness_SupplyRegisterWrites :
    ([(let s := host (st [(SUPPLY.VCORE_TGT_LEVEL, 80)]); takes s .supply && field 70 0 7 ≠ s.rd SUPPLY.VCORE_TGT_LEVEL && s.rd CORE.DVFS_STAT_BUSY = 0
     && 70 ≤ field 70 0 7 && field 95 0 7 ≤ 95 && !s.clk.inForce),
    (let s := host (st [(SUPPLY.VCORE_TGT_LEVEL, 80)]); takes s .supply && field 80 0 7 = s.rd SUPPLY.VCORE_TGT_LEVEL),
    (let s := host (st [(SUPPLY.VCORE_TGT_LEVEL, 80)]); takes s .supply && field 69 0 7 < 70 && 95 < field 96 0 7 && field 69 0 7 ≠ s.rd SUPPLY.VCORE_TGT_LEVEL),
    (let s := host (st [(SUPPLY.VCORE_TGT_LEVEL, 80), (CORE.DVFS_STAT_BUSY, 1)]); takes s .supply && field 90 0 7 ≠ s.rd SUPPLY.VCORE_TGT_LEVEL
     && s.flag CORE.DVFS_STAT_BUSY && s.rd CORE.DVFS_STAT_BUSY = 1),
    (let s := host (st [(SUPPLY.VCORE_TGT_LEVEL, 90), (CORE.OPP0_VCORE_10MV, 85)] { clk := { inForce := true } }); takes s .supply
     && field 84 0 7 ≠ s.rd SUPPLY.VCORE_TGT_LEVEL && s.clk.inForce && field 84 0 7 < s.rd (oppMv (s.rd CORE.DVFS_STAT_CUR_POINT))),
    (let s := host (st [(SUPPLY.VH_TGT_CODE, 100)]); takes s .supply && field 140 0 8 ≤ s.vhMax && field 140 0 8 ≠ s.rd SUPPLY.VH_TGT_CODE),
    (let s := host (st [(SUPPLY.VH_TGT_CODE, 140)]); takes s .supply && field 140 0 8 ≤ s.vhMax && field 140 0 8 = s.rd SUPPLY.VH_TGT_CODE),
    (let s := host; takes s .supply && s.vhMax < field 141 0 8),
    (let s := host; takes s .supply && s.base = .run && field 1 0 1 = 1),
    (let s := host { base := .held }; takes s .supply && s.base = .held && field 1 0 1 = 1 && field 0 0 1 = 0),
    (let s := host (st [(SUPPLY.VIN_CRIT_LEVEL, 49), (SUPPLY.VIN_FLOOR_LEVEL, 121)]); takes s .supply && 50 ≤ field 50 0 8 && field 120 0 8 ≤ 120
     && s.rd SUPPLY.VIN_CRIT_LEVEL < field 50 0 8 && field 120 0 8 < s.rd SUPPLY.VIN_FLOOR_LEVEL),
    (let s := host (st [(SUPPLY.VM_CEIL_LEVEL, 59), (SUPPLY.VM_DUMP_LEVEL, 181)]); takes s .supply && 60 ≤ field 60 0 8 && field 180 0 8 ≤ 180
     && field 180 0 8 < s.rd SUPPLY.VM_DUMP_LEVEL && s.rd SUPPLY.VM_CEIL_LEVEL < field 60 0 8),
    (let s := host (st [(SUPPLY.VIN_CRIT_LEVEL, 60), (SUPPLY.VIN_FLOOR_LEVEL, 60)]); takes s .supply && field 49 0 8 < 50 && 120 < field 121 0 8
     && field 60 0 8 ≤ s.rd SUPPLY.VIN_CRIT_LEVEL && s.rd SUPPLY.VIN_FLOOR_LEVEL ≤ field 60 0 8),
    (let s := host (st [(SUPPLY.VM_CEIL_LEVEL, 70), (SUPPLY.VM_DUMP_LEVEL, 70)]); takes s .supply && field 59 0 8 < 60 && 180 < field 181 0 8
     && s.rd SUPPLY.VM_DUMP_LEVEL ≤ field 70 0 8 && field 70 0 8 ≤ s.rd SUPPLY.VM_CEIL_LEVEL)] : List Bool).all id = true := by decide +kernel

theorem witness_RailsSettle :
    ([(let s := st [(SUPPLY.VCORE_STAT_SETTLED, 0)]; s.awake && s.rd SUPPLY.VCORE_STAT_SETTLED = 0),
    (let s := st [(SUPPLY.VH_STAT_ON, 1)]; s.awake && s.rd SUPPLY.VH_STAT_ON = 1 && s.rd SUPPLY.VH_STAT_SETTLED = 0),
    (let s := st [(SUPPLY.VH_STAT_DISCHARGING, 1)]; s.rd SUPPLY.VH_STAT_DISCHARGING = 1)] : List Bool).all id = true := by decide +kernel

theorem witness_SupplyWatchAndFaults :
    ([(let s : State := { print := { firing := some ⟨[], [], 0, 0, false, 0⟩ } }; s.awake && s.print.firing.isSome && !s.print.floorLine),
    (let s : State := { print := { firing := some ⟨[], [], 0, 0, false, 0⟩, floorLine := true } }; s.awake && s.print.firing.isSome && s.print.floorLine),
    (let s : State := {}; s.awake && !s.sup.vmHigh && !s.inReset),
    (let s := beads [(0x0502, [1, 0, 0, 0])]; s.awake && u8 s.dumpCfg 0 = 1 && s.rd SUPPLY.VM_DUMP_DUMP_ON = 0 && !s.sup.dumpSpent),
    (let s := st [(SUPPLY.VM_DUMP_DUMP_ON, 1)]; s.awake && s.rd SUPPLY.VM_DUMP_DUMP_ON = 1),
    (let s := st [(SUPPLY.VH_STAT_ON, 1)]; s.awake && s.rd SUPPLY.VH_STAT_ON = 1 && s.rd SUPPLY.VH_STAT_SETTLED = 0)] : List Bool).all id = true := by decide +kernel

theorem witness_DeviceReset :
    ([((7 : Nat) < 8 && [CORE.RESET_CAUSE_KIND, CORE.MODE_WAKE_SRC, FEED.STAT_PAPER].all fun g => g.apart CORE.HB_PERIOD_PERIOD_MS),
    (let s : State := { boot := { fill := false } }; s.fillsSram kindPor && !s.fillsSram kindSoft && kindSoft ≠ kindPor && decide ((0x120 : Nat) ≤ 0x120))] : List Bool).all id = true := by decide +kernel

theorem witness_ResetCauses :
    ([(let s : State := {}; !s.inReset && s.bank 0),
    (let s : State := { boot := { pinLow := true } }; s.boot.pinLow),
    (let s := host; takes s .core && (0xC1EA0001#32).toNat % 2 = 1 && field 0xC1EA0001 16 16 = 0xC1EA),
    (let s := host; takes s .core && (0xC1EA0000#32).toNat % 2 = 0 && field 0xC1EB0001 16 16 ≠ 0xC1EA),
    (let s : State := { boot := { softDue := true } }; !s.inReset && s.boot.softDue),
    (let s := st [(SUPPLY.VCORE_TGT_LEVEL, 80)] { sup := { vcoreUv := 800000 } }; s.awake
     && 10 * (719#16).toNat * 1000 < 9 * (if s.sup.vcoreUv = s.vcoreGoal then s.vcoreGoal else s.sup.vcoreUv))] : List Bool).all id = true := by decide +kernel

theorem witness_HoldsAndHeartbeat :
    ([(let s : State := { boot := { brake := 1 } }; s.boot.brake ≠ 0),
    (let s : State := {}; s.awake && s.boot.fill),
    (let s := imaged (st [(CORE.HB_PERIOD_PERIOD_MS, 10)]); s.awake && s.imageApplied && s.rd CORE.HB_PERIOD_PERIOD_MS ≠ 0),
    (takes host .core)] : List Bool).all id = true := by decide +kernel

theorem witness_HeartbeatRestarts :
    ([(let s := host; takes s .core && field 0x4842 0 16 = 0x4842 && field 0x4843 0 16 ≠ 0x4842)] : List Bool).all id = true := by decide +kernel

theorem witness_ModesAndWakes :
    ([(let s : State := { base := .cleared }; s.base = .cleared && (15 : Nat) < 16),
    (let s : State := { base := .tally }; s.base = .tally && !s.inReset && s.bank 0),
    (let s := st [(CORE.WAKE_CFG_PIN_EN, 8), (CORE.WAKE_CFG_PIN_POL, 8)]; !s.inReset && s.bank 0 && s.rdBit CORE.WAKE_CFG_PIN_EN 3
     && s.rdBit CORE.WAKE_CFG_PIN_POL 3 && !s.wake.levels.testBit 3),
    (let s := st [(CORE.WAKE_CFG_PIN_EN, 1)] { wake := { levels := 1 } }; !s.inReset && s.bank 0 && s.rdBit CORE.WAKE_CFG_PIN_EN 0
     && !s.rdBit CORE.WAKE_CFG_PIN_POL 0 && s.wake.levels.testBit 0),
    (let s := st [(CORE.WAKE_CFG_TIMER_EN, 1), (CORE.WAKE_TIMER_COUNT, 1)] { base := .tally }; !s.inReset && !s.awake
     && s.rd CORE.WAKE_CFG_TIMER_EN = 1 && s.rd CORE.WAKE_TIMER_COUNT ≠ 0),
    (let s := st [(CORE.WAKE_CFG_VIN_EN, 1), (CORE.WAKE_CFG_HOST_EN, 1)]; !s.inReset && s.bank 0 && s.rd CORE.WAKE_CFG_VIN_EN = 1
     && s.rd CORE.WAKE_CFG_HOST_EN = 1),
    (takes host .core),
    (let s : State := { base := .tally, wake := { entering := true } }; s.base = .tally && s.wake.entering && !({ base := .tally } : State).wake.entering),
    (let s := st [(CORE.WAKE_CFG_HOST_EN, 0)] { base := .held }; s.base = .held && s.bank 0 && s.rd CORE.WAKE_CFG_HOST_EN = 0 && !s.inReset)] : List Bool).all id = true := by decide +kernel

theorem witness_DeeperModes :
    ([(let s := imaged (st [(CORE.MODE_ALLOW_TALLY, 1)]); s.rd CORE.MODE_ALLOW_TALLY = 1 && s.idle),
    (let s := st [(CORE.MODE_ALLOW_TALLY, 1), (CORE.MODE_ALLOW_CLEARED, 1)] { base := .tally }; !s.inReset && s.base = .tally && !s.wake.waking
     && s.rd CORE.MODE_ALLOW_TALLY = 1 && s.rd CORE.MODE_ALLOW_CLEARED = 1),
    (let s : State := { base := .tally, wake := { waking := true, faults := [(0x0520, 0, 0)] } }; !s.inReset && s.base = .tally && s.wake.waking)] : List Bool).all id = true := by decide +kernel

theorem witness_ScrubPasses :
    ([(let s : State := { sramUe := [3, 5] }; let ues := (s.ue .sram).filter fun w => decide (0 ≤ w) && decide (w < 393216)
     393216 ≤ Ram.sram.size && ues.contains 5 && ues.all (· ≤ 5) && ues ≠ []),
    (let s : State := { keepUe := [16384] }; (s.ue .keep).filter (fun w => decide (0 ≤ w) && decide (w < 16384)) = []),
    (let s := st [(CORE.BG_CTL_SCRUB_EN, 1), (CORE.BG_SCRUB_POS_ACTIVE, 0)]; s.awake && s.rd CORE.BG_CTL_SCRUB_EN = 1 && s.rd CORE.BG_SCRUB_POS_ACTIVE = 0),
    (let s := st [(CORE.BG_CTL_SCRUB_EN, 0)]; s.rd CORE.BG_CTL_SCRUB_EN = 0),
    (let s := st [(CORE.BG_SCRUB_POS_ACTIVE, 1)]; s.rd CORE.BG_SCRUB_POS_ACTIVE = 1),
    (let s : State := { base := .cleared }; !s.inReset && s.base = .cleared),
    (let s := host (st [(CORE.BG_CTL_SCRUB_EN, 1)]); takes s .core && s.rd CORE.BG_CTL_SCRUB_EN = 1 && s.rd CORE.BG_SCRUB_POS_ACTIVE = 0),
    (let s := host (st [(CORE.BG_CTL_SCRUB_EN, 0)]); takes s .core && s.rd CORE.BG_CTL_SCRUB_EN = 0)] : List Bool).all id = true := by decide +kernel

theorem witness_CalibrationAndFloor :
    ([(let s := st [(CORE.CLK_STAT_HFXO_OK, 1), (CORE.CLK_STAT_FRC_ON, 1)] { bg := { frcDue := true } }; s.awake && s.rd CORE.CLK_STAT_HFXO_OK = 1 && s.rd CORE.CLK_STAT_FRC_ON = 1
     && s.frcIsDue && 63872 ≤ (63872#32).toNat && (64128#32).toNat ≤ 64128 && (63871#32).toNat < 63872 && 64128 < (64129#32).toNat),
    (let s := host (st [(CORE.BG_CTL_HEADCHK_EN, 1)]); takes s .core && s.rd CORE.BG_CTL_HEADCHK_EN = 1 && !s.print.recheck),
    (let s : State := { bg := { adcDue := true } }; s.awake && s.adcIsDue && (16#16).toNat < (17#16).toNat)] : List Bool).all id = true := by decide +kernel

theorem witness_ThermalMonitor :
    ([(let s : State := {}; (4 : Nat) < 5 && (4061 : Nat) < 4096 && (4060 : Nat) < 4061 && (34 : Nat) < 35 && !s.marked 4),
    (let s := st [(THERM.SENSOR_OPEN, 32)] { therm := { srcs := List.replicate 6 { good := 6 } } }; s.marked 5 && 5 < s.therm.srcs.length && (s.thermSrc 5).good < 7),
    (let s := st [(THERM.SENSOR_SHORT, 1)] { therm := { srcs := List.replicate 6 { good := 7 } } }; s.marked 0 && 0 < s.therm.srcs.length && (s.thermSrc 0).good = 7),
    (let s := beads [(0x0400, List.replicate 128 0)] { therm := { entries := List.replicate 16 {}, srcs := [{ samples := [(0, 5)] }] } }
     s.therm.entries.length = 16 && !(s.therm.entries.getD 15 {}).crossed && s.entryHot (s.thermEntry 15)),
    (let s := beads [(0x0400, List.replicate 128 0)] { therm := { entries := List.replicate 16 {}, srcs := [{ samples := [(0, -5)] }] } }
     s.therm.entries.length = 16 && !(s.therm.entries.getD 0 {}).crossed && !s.entryHot (s.thermEntry 0)),
    (let s := beads [(0x0400, List.replicate 128 0)] { clock := 10000000, therm := { entries := List.replicate 16 { crossed := true }, srcs := [{ samples := [(0, -5)] }] } }
     s.therm.entries.length = 16 && (s.therm.entries.getD 0 {}).crossed && s.entryCool (s.thermEntry 0)
     && (s.therm.entries.getD 0 {}).since + u8 (s.beadD 0x0482 [10]) 0 * 1000000 ≤ s.clock),
    (let s := beads [(0x0400, List.replicate 128 0)] { clock := 9999999, therm := { entries := List.replicate 16 { crossed := true }, srcs := [{ samples := [(0, 5)] }] } }
     s.therm.entries.length = 16 && (s.therm.entries.getD 0 {}).crossed && !s.entryCool (s.thermEntry 0)
     && s.clock < (s.therm.entries.getD 0 {}).since + u8 (s.beadD 0x0482 [10]) 0 * 1000000),
    (let s := rods [.therm]; s.awake && s.ready .therm && 5 < s.therm.srcs.length),
    (let s := st [(CORE.BG_CTL_TELEM_EN, 1), (CORE.BG_TELEM_NEXT, 63)]; s.awake && s.rd CORE.BG_CTL_TELEM_EN = 1 && s.keepUe = []),
    (let s := st [(CORE.BG_CTL_TELEM_EN, 0)] { base := .tally }; !s.inReset && s.base = .tally && !s.wake.waking && !s.wake.entering && s.bg.bursts % 60 = 0 && s.rd CORE.BG_CTL_TELEM_EN = 0),
    (let s := beads [(0x0400, [0, 0, 0, 0, 0, 5, 0, 0])] { base := .tally }
     !s.inReset && s.base = .tally && !s.wake.waking && (match execTallyBurst 0 ⟨600, 0, 0, 0, 0, 0⟩ ⟨0, 1, 0⟩ none s with | .next x => x.wake.waking | _ => false)),
    (let s := st [(CORE.BG_CTL_TELEM_EN, 1)] { base := .tally }
     !s.inReset && s.base = .tally && !s.wake.waking && s.rd CORE.BG_CTL_TELEM_EN = 1
     && (match execTallyBurst 0 ⟨0, 0, 0, 0, 0, 0⟩ ⟨0, 1, 0⟩ none s with | .next x => !x.wake.waking | _ => false)),
    (let s := st [(THERM.STAT_ACTIVE, 4)] { print := { jobs := [{ tag := 1, canvas := 0, x0 := 0, shift := 0, bands := 1, res := [] }] } }
     s.awake && s.rdBit THERM.STAT_ACTIVE 2 && (s.print.jobs.head?.map (·.stage)) = some .render),
    (let c := cmd 0x40 [.therm] 0x30000001 0 256; let s := flight c (rods [.therm])
     s.cmd? 1 = some c && c.op = 0x40 && !c.started && s.awake && s.ready .therm && s.firstIn 1 .therm && s.sampleOk c && s.mayWrite .therm c.p1 c.sampleLen && s.sramUe = []),
    (let c := cmd 0x40 [.therm] 1 0 257; let s := flight c (rods [.therm])
     s.cmd? 1 = some c && c.op = 0x40 && !c.started && s.awake && s.ready .therm && s.firstIn 1 .therm && !s.sampleOk c),
    (let s := st [(CORE.WAKE_CFG_TIMER_EN, 1), (CORE.WAKE_TIMER_COUNT, 1)] { base := .tally }; s.base = .tally && s.wakeEnabled .timer),
    (let s : State := { bg := { frcDie := some 200, adcDie := some 200 } }; s.bg.frcDie = some 200 && s.bg.adcDie = some 200),
    (let s : State := {}; !s.inReset && s.base ≠ .cleared)] : List Bool).all id = true := by decide +kernel

theorem witness_EntryFetch :
    ([(let s : State := {}; s.awake && s.nextQueue = none),
    (let s := st [(VEC.Q_CFG_EN 0, 1), (VEC.Q_SQ_IDX_TAIL 0, 1)] { cmds := (List.range 64).map fun t => { cmd 0 [] with tag := t } }
     s.awake && s.nextQueue = some 0 && s.freeTag? = none && 0 < s.queues.length),
    (let s := st [(VEC.Q_CFG_EN 15, 1), (VEC.Q_CFG_DEPTH 15, 8), (VEC.Q_SQ_IDX_HEAD 15, 7)]
     s.awake && s.nextQueue = some 15 && s.freeTag? = some 0 && 0 < s.depth 15 && s.badWord .sram (s.sqBase 15 + 32 * 7) 32 = none),
    (let s := st [(VEC.Q_CFG_EN 0, 1), (VEC.Q_CFG_DEPTH 0, 8), (VEC.Q_SQ_IDX_TAIL 0, 1)] { sramUe := [1] }
     s.awake && s.nextQueue = some 0 && s.freeTag? = some 0 && 0 < s.depth 0 && (s.badWord .sram (s.sqBase 0) 32).isSome && s.tagsHeld.length < 64),
    (let c : Cmd := { cmd 0 [.core] with queue := 0 }; let e : Entry := ⟨c, 0, 0, 0⟩; let s := rods [.core]
     s.tagsHeld.length < 64 && firstCode (s.fetchCodes e) = none),
    (let c : Cmd := { cmd 0 [.core] with queue := 0 }; let e : Entry := ⟨c, 4, 0, 0⟩; let s : State := {}
     s.tagsHeld.length < 64 && firstCode (s.fetchCodes e) = some stBadParam && e.cmd.op ≠ 0x60)] : List Bool).all id = true := by decide +kernel

theorem witness_EndingAndReleasing :
    ([(let c := cmd 0x30 [.mover]; let s := flight c; s.awake && s.cmd? 1 = some c && s.waits c),
    (let c : Cmd := { cmd 0x60 [.print, .raster, .feed] with started := true }; let s := flight c (st [(RASTER.STAT_STATE, 4)])
     s.awake && s.cmd? 1 = some c && c.op = 0x60 && c.started && s.job? c.tag = none && s.rd RASTER.STAT_STATE = 4 && s.raster.waitAt < 2 ^ 18),
    (let c : Cmd := { cmd 0x60 [.print, .raster, .feed] with started := true }
     let j : Job := { tag := 1, canvas := 0, x0 := 0, shift := 0, bands := 1, res := [] }; let s := flight c { print := { jobs := [j] } }
     s.awake && s.cmd? 1 = some c && c.op = 0x60 && c.started && s.job? c.tag = some j && s.rd RASTER.STAT_STATE ≠ 4 && s.receiptWaits c),
    (let c := cmd 0x04 [.core] 0x10007; let s := flight c; s.awake && s.cmd? 1 = some c && c.op = 0x04 && !c.started
     && (s.cmds.find? fun x => x.cmdId == c.p0 % 65536 && x.queue == c.p0 / 65536 % 16 && x.tag != c.tag) = none),
    (let c := cmd 0x04 [.core] 0x10009; let v : Cmd := { cmd 0x30 [.mover] with tag := 63, cmdId := 9 }; let s : State := { cmds := [c, v] }
     s.awake && s.cmd? 1 = some c && c.op = 0x04 && !c.started && !v.started
     && (s.cmds.find? fun x => x.cmdId == c.p0 % 65536 && x.queue == c.p0 / 65536 % 16 && x.tag != c.tag) = some v),
    (let c := cmd 0x04 [.core] 0x10009; let v : Cmd := { cmd 0x01 [.core] with tag := 63, cmdId := 9, started := true }; let s : State := { cmds := [c, v] }
     s.awake && s.cmd? 1 = some c && v.started && v.op = 0x01
     && (s.cmds.find? fun x => x.cmdId == c.p0 % 65536 && x.queue == c.p0 / 65536 % 16 && x.tag != c.tag) = some v),
    (let c := cmd 0x05 [.core]; let s := flight c; s.cmd? 1 = some c && c.op = 0x05 && !c.started && s.awake && s.base = .run),
    (let c := cmd 0x05 [.core]; let s := flight c { base := .held, faults := [⟨0x0820, 0⟩] }
     s.cmd? 1 = some c && !c.started && s.awake && s.base = .held && s.releaseBlock 0 0 = none),
    (let c := cmd 0x05 [.core]; let s := flight c (st [(CORE.HELD_STAT_BRAKE, 1)] { base := .held })
     s.cmd? 1 = some c && !c.started && s.awake && s.base = .held && s.releaseBlock 0 0 = some 0xFFFF && (0xFFFF : Nat) < 65536),
    (let c : Cmd := { cmd 0x60 [.print, .raster, .feed] with started := true }
     let j : Job := { tag := 1, canvas := 0, x0 := 0, shift := 0, bands := 1, res := [] }; let s := flight c (st [(RASTER.STAT_STATE, 4)] { print := { jobs := [j] } })
     s.awake && s.cmd? 1 = some c && c.started && s.job? c.tag = some j && s.rd RASTER.STAT_STATE = 4 && j.committed < j.bands && j.failed = none)] : List Bool).all id = true := by decide +kernel

theorem witness_OtpAndImages :
    ([(let c := cmd 0x02 [.core]; let s := flight c (imaged (st [(CORE.IMG_STAT_SOURCE, 1)])); s.cmd? 1 = some c && c.op = 0x02 && s.awake && s.slotRuns),
    (let c := cmd 0x02 [.core]; let s := flight c; s.cmd? 1 = some c && c.op = 0x02 && s.awake && !s.slotRuns),
    (let c := cmd 0x03 [.core] 0x465A; let s := flight c (imaged (st [(CORE.IMG_STAT_SOURCE, 2)] { img := { subject := true } }))
     s.cmd? 1 = some c && c.op = 0x03 && s.awake && c.p0 = 0x465A && s.slotRuns && s.img.subject && s.otp.frozen = none),
    (let c := cmd 0x03 [.core] 0; let s := flight c; s.cmd? 1 = some c && c.op = 0x03 && s.awake && c.p0 ≠ 0x465A),
    (let s := host (st [(CORE.IMG_STAT_STATE, 2)]); takes s .core && field 1 0 1 = 1 && field 2 0 1 = 0 && s.rd CORE.IMG_STAT_STATE = 2),
    (let s := host; takes s .core && s.rd CORE.IMG_STAT_STATE ≠ 2),
    (let c := cmd 0x01 [.core]; let s := flight c; s.cmd? 1 = some c && c.op = 0x01 && !c.started && s.awake && s.firstPartial 1 && !s.imageApplied),
    (let c := cmd 0x01 [.core]; let s := flight c imaged; s.cmd? 1 = some c && c.op = 0x01 && !c.started && s.awake && s.firstPartial 1 && s.imageApplied),
    (let s : State := { img := { verify := .slot 1 [] true } }; s.awake && s.img.verify = .slot 1 [] true
     && verifyImage s.otp s.slotSize .boot (s.slotBytes 1) = 1),
    (let s : State := { img := { verify := .slot 1 [2] false } }; s.awake && s.img.verify = .slot 1 [2] false
     && verifyImage s.otp s.slotSize .boot (s.slotBytes 1) = 1),
    (let s : State := { img := { verify := .push 0x40 } }; s.awake && s.img.verify = .push 0x40
     && verifyImage s.otp (pushRegion 0x40) .boot (s.readImage 0x40 (pushRegion 0x40) .boot).2 = 1),
    (let c := cmd 0x01 [.core] 0 0x180; let s := flight c { img := { verify := .partialImg 1 } }
     s.awake && s.img.verify = .partialImg 1 && s.cmd? 1 = some c && verifyImage s.otp c.p1 .partialApply (s.readImage c.p0 c.p1 .partialApply).2 = 1),
    (let a : Apply := ⟨1, 256, 0, 0, 0⟩; let s : State := { img := { apply := some a } }
     s.base = .run && s.img.apply = some a && (Rod.all.filter fun r => a.targets.testBit r.idx && !a.done.testBit r.idx) = [.feed])] : List Bool).all id = true := by decide +kernel

theorem witness_RodResetsAndTests :
    ([(let s := host; takes s .core && !s.imageApplied && s.img.apply = none && 2 ≤ Rod.flash.idx && Rod.flash ≠ .feed && Rod.ledger ≠ .feed),
    (let s : State := {}; 2 ≤ Rod.feed.idx && s.img.apply = none && !s.stopFeed.feedMoving && rodBlock .feed ≤ FEED.POS_POS.addr
     && FEED.POS_POS.addr < rodBlock .feed + 0x10000 && (liveFields .feed ++ [FEED.STAT_STATE]).all fun g => g.apart FEED.POS_POS),
    (let s := imaged; [Rod.core, .link, .mover, .therm, .raster, .cut, .loop, .enc, .dec, .scan, .ledger].all s.testDue),
    (let s := imaged; s.testDue .print && s.testDue .feed && s.testDue .vidin && s.boot.brake = 0 && !s.feedMoving && s.base = .run
     && !s.boot.resetting.testBit 8),
    (let s := imaged (st [(CORE.CLK_STAT_PLLV_FALLBACK, 1)]); s.testDue .vidin && s.pllvOn),
    (let s := imaged (st [(SUPPLY.VCORE_STAT_SETTLED, 1)]); s.testDue .supply && s.rd SUPPLY.VCORE_STAT_SETTLED = 1 && Rod.supply ≠ .vidin)] : List Bool).all id = true := by decide +kernel

theorem witness_FlashNegotiation :
    ([(let c : FlashChip := ⟨false, true, 8, 2, false, 0⟩; let s : State := {}; s.awake && !s.boot.tested.testBit 2 && s.bank 1 && !c.blank && c.sfdp && 8 ≤ c.sizeMib.toNat),
    (let c : FlashChip := ⟨false, false, 0, 0, false, 0⟩; !c.blank && !c.sfdp),
    (let c : FlashChip := ⟨true, false, 0, 0, false, 0⟩; c.blank),
    (let c : FlashChip := ⟨false, true, 7, 2, false, 0⟩; !c.blank && c.sfdp && c.sizeMib.toNat < 8),
    (let s := st [(CORE.IO_STAT_PRESENT, 0)]; s.awake && !s.boot.tested.testBit 2 && !s.bank 1)] : List Bool).all id = true := by decide +kernel

theorem witness_SlotCommands :
    ([(let c := cmd 0x20 [.flash] 2; let s := flight c (rods [.flash] (st [(FLASH.SLOTS_ACTIVE, 2)])); s.cmd? 1 = some c && s.flashFree c 0x20 && s.slotActive c.p0),
    (let c := cmd 0x20 [.flash] 1; let s := flight c (rods [.flash] (st [(FLASH.SLOTS_ACTIVE, 2)])); s.cmd? 1 = some c && s.flashFree c 0x20 && !s.slotActive c.p0),
    (let s : State := { fl := { job := some ⟨1, 1, true, 31⟩ } }; s.fl.job.any (·.erase) && s.led.compact = none),
    (let c := cmd 0x21 [.flash] 1 0 0 4; let s := flight c (rods [.flash] (st [(FLASH.SLOTS_A_STATE, 2)]))
     s.cmd? 1 = some c && s.flashFree c 0x21 && !s.slotActive c.p0 && s.slotWriteOk c),
    (let c := cmd 0x21 [.flash] 1 128 0 4; let s := flight c (rods [.flash] (st [(FLASH.SLOTS_A_STATE, 2)])); s.cmd? 1 = some c && s.flashFree c 0x21 && !s.slotWriteOk c),
    (let j : SlotJob := ⟨1, 1, false, 0⟩; let c := cmd 0x21 [.flash] 1 0 0 256; let s := flight c { fl := { job := some j } }
     s.fl.job = some j && !j.erase && s.cmd? j.tag = some c && s.badWord .sram (c.p2 + j.did) (min 256 (c.p3 - j.did)) = none
     && (([1#8] : List (BitVec 8)).map (·.toNat)).take 256 ≠ s.bytes .sram (c.p2 + j.did) 256),
    (let j : SlotJob := ⟨1, 1, false, 0⟩; let c := cmd 0x21 [.flash] 1 0 0 4; let s := flight c { sramUe := [0], fl := { job := some j } }
     s.fl.job = some j && !j.erase && s.cmd? j.tag = some c && (s.badWord .sram (c.p2 + j.did) (min 256 (c.p3 - j.did))).isSome),
    (let c := cmd 0x22 [.flash] 1; let s := flight c (rods [.flash]); s.cmd? 1 = some c && s.flashFree c 0x22 && !s.flashHeld && s.slotStep c.p0 = 1),
    (let c := cmd 0x23 [.flash] 1 0x5357; let s := flight c (rods [.flash] (st [(FLASH.SLOTS_A_STATE, 4), (FLASH.SLOTS_ACTIVE, 2)]))
     s.cmd? 1 = some c && s.flashFree c 0x23 && s.led.compact = none && c.p1 = 0x5357 && s.rd (slotFld c.p0) = slotVerified && !s.slotActive c.p0 && c.p0 < 4),
    (let c := cmd 0x23 [.flash] 2 0x5357; let s := flight c (rods [.flash] (st [(FLASH.SLOTS_B_STATE, 4), (FLASH.SLOTS_ACTIVE, 2)]))
     s.cmd? 1 = some c && s.flashFree c 0x23 && s.led.compact = none && c.p1 = 0x5357 && s.rd (slotFld c.p0) = slotVerified && s.slotActive c.p0),
    (let c := cmd 0x23 [.flash] 2 0x5358; let s := flight c (rods [.flash]); s.cmd? 1 = some c && s.flashFree c 0x23 && s.led.compact = none && c.p1 ≠ 0x5357 && s.rd (slotFld c.p0) ≠ slotVerified),
    (let c := cmd 0x24 [.flash] 0x7FFFFF 0 2; let s := flight c (rods [.flash] (st [(FLASH.STAT_SIZE_MIB, 8)]))
     s.cmd? 1 = some c && s.flashFree c 0x24 && !s.flashHeld && s.rd FLASH.STAT_SIZE_MIB * 0x100000 < c.p0 + c.p2),
    (let c := cmd 0x24 [.flash] 0x7FFFFF 0 1; let s := flight c (rods [.flash] (st [(FLASH.STAT_SIZE_MIB, 8)]))
     s.cmd? 1 = some c && s.flashFree c 0x24 && !s.flashHeld && c.p0 + c.p2 ≤ s.rd FLASH.STAT_SIZE_MIB * 0x100000 && s.sramUe = []),
    (let s := st [(FLASH.STAT_BUSY, 1), (FLASH.STAT_SUSPEND, 1)]; s.flag FLASH.STAT_BUSY && s.flag FLASH.STAT_SUSPEND)] : List Bool).all id = true := by decide +kernel

theorem witness_Ledger :
    ([(let s : State := { led := { sector := some 15, off := 0x10000 - 20 } }; s.led.sector = some 15 && s.led.off + ([] : List Nat).length + 20 ≤ 0x10000),
    (let s := st [(FLASH.STAT_SIZE_MIB, 8)] { led := { sector := some 0, off := 16 } }; s.commitDelta.2),
    (let c := cmd 0xF0 [.ledger] 0; let s := flight c (rods [.ledger]); s.cmd? 1 = some c && s.mayStart c 0xF0 .ledger && s.mayWrite .ledger c.p0 128 && s.sramUe = []),
    (let c := cmd 0xF1 [.ledger] 0; let s := flight c (rods [.ledger]); s.cmd? 1 = some c && s.mayStart c 0xF1 .ledger && s.led.compact = none),
    (let c := cmd 0xF2 [.ledger] 0 0 148; let s := flight c (rods [.ledger]); s.cmd? 1 = some c && s.mayStart c 0xF2 .ledger && !s.flashHeld && s.sramUe = []
     && s.mayWrite .ledger c.p1 (takeWhole c.p2 (s.ledgerRecords.filter fun r => c.p0 ≤ u32 r 4)).flatten.length),
    (let r : LedBuf := ⟨3, 0, [1, 2]⟩; let s := st [(FLASH.STAT_SIZE_MIB, 8)] { led := { buf := [r], sector := some 0, off := 16 } }
     s.led.buf = [r] && (s.commitRecord r.ty r.on r.payload).isSome),
    (let s := rods [.ledger] (({} : State).count cntShocks); s.ledgerOn && s.led.changed && s.led.compact = none && !(rods [.ledger]).led.changed),
    (let s := rods [.ledger] (st [(LEDGER.STAT_MOUNTED, 1), (FLASH.STAT_SIZE_MIB, 8)] { flash := (List.range 14).map fun k => (0x700000 + 0x10000 * k, 0) })
     s.ledgerOn && s.rd LEDGER.STAT_MOUNTED = 1 && s.freeSectors.length ≤ 2 && s.led.compact = none),
    (let r : LedBuf := ⟨3, 0, [1, 2]⟩; let s := rods [.ledger] { led := { buf := [r], compact := some ⟨3, true⟩ } }; s.ledgerOn && s.led.buf ≠ [] && s.led.compact = some ⟨3, true⟩),
    (let s := st [(FLASH.STAT_SIZE_MIB, 8)]; (s.compactNext true).led.compact = none && 4 ≤ s.freeSectors.length),
    (let s := st [(FLASH.STAT_SIZE_MIB, 8)] { flash := [(0x700000, 0)] }; (s.compactNext true).led.compact = some ⟨0, true⟩)] : List Bool).all id = true := by decide +kernel

theorem witness_Channels :
    ([((15 : Nat) < 16 && (2 ^ 32 - 1 : Nat) < 2 ^ 32),
    (let s : State := { chans := List.replicate 16 { tag := some 1 } }; (s.chan 15).tag = some 1 && (s.chan 15).poisonAt = none),
    (let s : State := { chans := List.replicate 16 { tag := some 1, poisonAt := some 32 } }; (s.chan 0).tag = some 1 && (s.chan 0).poisonAt = some 32),
    (let s := st [(MOVER.CH_CTRL_PARK_EV 15, 1)]; (s.chan 15).tag = none && s.rd (MOVER.CH_CTRL_PARK_EV 15) = 1),
    (let s := host (rods [.mover]); takes s .mover && s.ready .mover && s.chState 15 = chIdle && field 1 0 3 = 1 && s.chState 15 ≠ chError && field 4 0 3 = 4),
    (let s := host (st [(MOVER.CH_STATE_STATE 15, 1), (MOVER.CH_STATE_OWNER 15, 1)]); takes s .mover && field 1 0 3 = 1 && s.chState 15 ≠ chIdle
     && field 2 0 3 = 2 && s.rd (MOVER.CH_STATE_OWNER 15) ≠ 2 && s.chState 15 = chRun),
    (let s := host (st [(MOVER.CH_STATE_STATE 0, 2), (MOVER.CH_STATE_OWNER 0, 1)]); takes s .mover && s.rd (MOVER.CH_STATE_OWNER 0) ≠ 2 && s.chState 0 = chParked),
    (let s := host (st [(MOVER.CH_STATE_STATE 0, 1), (MOVER.CH_STATE_OWNER 0, 2)]); takes s .mover && s.rd (MOVER.CH_STATE_OWNER 0) = 2),
    (let s := host (st [(MOVER.CH_STATE_STATE 0, 3), (MOVER.CH_STATE_OWNER 0, 1)]); takes s .mover && field 4 0 3 = 4 && s.chState 0 = chError),
    (let s := host (sramOf 0x1C (leBytes 4 0x5FFFE0) (st [(MOVER.CH_STATE_STATE 0, 2), (MOVER.CH_STATE_OWNER 0, 1)])); takes s .mover
     && s.rd (MOVER.CH_STATE_OWNER 0) ≠ 2 && s.chState 0 = chParked && s.sramUe = [] && s.sramCe = []
     && s.word32 .sram (s.rd (MOVER.CH_CUR_ADDR 0) + 0x1C) % 32 = 0 && s.word32 .sram (s.rd (MOVER.CH_CUR_ADDR 0) + 0x1C) < 2 ^ 23),
    (let c := cmd 0x30 [.mover] 0 0x1100; let s := flight c (rods [.mover]); s.cmd? 1 = some c && c.op = 0x30 && s.awake && s.ready .mover
     && s.nextMove = some 1 && s.moveChan c = some 0),
    (let c := cmd 0x30 [.mover] 0 0x100F; let s := flight c (rods [.mover]); s.nextMove = some 1 && s.moveChan c = some 15),
    (let s := sramOf 0x5FFFE0 (leBytes 4 0 ++ leBytes 4 0x1000 ++ leBytes 4 64 ++ leBytes 4 0 ++ leBytes 4 0); 0x5FFFE0 % 32 = 0
     && inSram 0x5FFFE0 32 && s.sramUe = [] && s.descCause 0x5FFFE0 = some cDescField),
    (let s := sramOf 0x5FFFE0 (leBytes 4 0 ++ leBytes 4 0x1000 ++ [64, 0, 1, 0]); s.descCause 0x5FFFE0 = none && 15 < s.chans.length),
    ((16 % 32 ≠ 0) && !inSram 0x600000 32),
    (let d : Desc := { src := 0, dst := 0x1000, len := 64, count := 1 }; let s := st [(MOVER.CH_STATE_STATE 0, 1)] { chans := List.replicate 16 { desc := d } }
     s.awake && s.chState 0 = chRun && !s.flashWaits (s.chan 0).desc && (s.runBursts 0 d.bursts).2 = none),
    (let d : Desc := { src := 0, dst := 0x1000, len := 64, count := 1 }
     let s := st [(MOVER.CH_STATE_STATE 0, 1)] { sramUe := [0], chans := List.replicate 16 { desc := d } }
     s.awake && s.chState 0 = chRun && !s.flashWaits (s.chan 0).desc && (s.runBursts 0 d.bursts).2.isSome)] : List Bool).all id = true := by decide +kernel

theorem witness_TransferCopies :
    ([(let d : Desc := { src := 0x5FFFC0, dst := 0x5FFF80, len := 64, count := 1 }; let s : State := {}; d.count = 1 && !d.fill && d.src + d.len ≤ 0x600000
     && d.dst + d.len ≤ 0x600000 && d.dst + d.len ≤ d.src && s.sramUe = [] && !s.isProtected d.dst d.len && d.bursts ≤ d.bursts),
    (let d : Desc := { src := 0, dst := 64, len := 64, count := 2, dstStride := -64 }; (List.range d.count).all fun i => decide ((0 : Int) ≤ d.dst + i * d.dstStride))] : List Bool).all id = true := by decide +kernel

theorem witness_RasterResources :
    ([(let s := imaged (rods [.flash]); s.awake && s.ready .flash && s.imageApplied && !s.flashHeld),
    (let s := host { raster := { win := { mask := 7, w0 := 2 ^ 31 - 1 } } }; (15 : Nat) < 16 && takes s .raster && s.rd RASTER.RES_STAT_PENDING = 0
     && s.raster.win.w0 < 2 ^ 31 && s.raster.win.mask ||| 8 = 15),
    (let s := host { raster := { win := { mask := 3, w0 := 0x10001 } } }; takes s .raster && s.rd RASTER.RES_STAT_PENDING = 0 && s.raster.win.w0 < 2 ^ 31
     && s.raster.win.mask ||| 8 ≠ 15),
    (let s := host { raster := { win := { mask := 7, w0 := 0x80010001 } } }; takes s .raster && s.rd RASTER.RES_STAT_PENDING = 0
     && s.raster.win.w0 / 2 ^ 31 = 1 && s.raster.win.mask ||| 8 = 15
     && (s.raster.table.filter fun r => !(r.ty == s.raster.win.w0 / 65536 % 256 && r.id == s.raster.win.w0 % 65536)).length = s.raster.table.length),
    (let s := host { raster := { win := { mask := 7, w0 := 0x80010001 }, table := [⟨1, 1, false, 0, 32⟩] } }
     let keep := s.raster.table.filter fun r => !(r.ty == s.raster.win.w0 / 65536 % 256 && r.id == s.raster.win.w0 % 65536)
     s.raster.win.w0 / 2 ^ 31 = 1 && s.raster.win.mask ||| 8 = 15 && keep.length ≠ s.raster.table.length && keep.length < 64
     && s.raster.win.w0 / 2 ^ 24 % 128 = 0 && s.raster.win.w1 < 2 ^ 23 && takes s .raster),
    (let s := host { raster := { win := { mask := 7, w0 := 0x81010001 } } }; takes s .raster && s.rd RASTER.RES_STAT_PENDING = 0
     && s.raster.win.w0 / 2 ^ 31 = 1 && s.raster.win.mask ||| 8 = 15 && s.raster.win.w0 / 2 ^ 24 % 128 ≠ 0),
    (let s := host (st [(RASTER.RES_STAT_PENDING, 1)]); s.rd RASTER.RES_STAT_PENDING = 1 && takes s .raster),
    (let r : Res := ⟨2, 1, false, 0, 32⟩; let s : State := { raster := { checking := some r } }; s.raster.checking = some r && s.rasterRange r.addr r.len
     && r.addr % 4 = 0 && s.checkRes r ≠ 0),
    (let r : Res := ⟨2, 1, false, 2, 32⟩; let s : State := { raster := { checking := some r } }; s.raster.checking = some r && r.addr % 4 ≠ 0),
    (let r : Res := ⟨2, 1, false, 0, 25⟩; let s := sramOf 0 logo { raster := { checking := some r } }
     s.raster.checking = some r && s.rasterRange r.addr r.len && s.checkRes r = 0 && (s.raster.table.filter fun x => !(x.ty == r.ty && x.id == r.id)).length < 32),
    (let r : Res := ⟨2, 1, false, 0, 25⟩; let s := sramOf 0 logo { raster := { checking := some r, table := List.replicate 32 ⟨1, 9, false, 0, 0⟩ } }
     s.checkRes r = 0 && 32 ≤ (s.raster.table.filter fun x => !(x.ty == r.ty && x.id == r.id)).length)] : List Bool).all id = true := by decide +kernel

theorem witness_CheckPassAndBands :
    ([(let c := cmd 0x60 [.print, .raster, .feed]; let s := flight c (rods [.raster]); s.cmd? 1 = some c && c.op = 0x60 && !c.started && s.running
     && s.ready .raster && s.firstIn 1 .raster && s.rd RASTER.STAT_STATE = 0 && s.mayRead .raster c.p0 c.p1),
    (let s := checking [0x10, 7, 0]; let c := s.cmds.headD (cmd 0 []); let b : CheckStart := ⟨1, [], none, 0⟩; let p := planned s c.p1 (s.resNow b) (0, c.p1)
     (s.cmds.find? fun c => c.rods.contains .raster) = some c && s.raster.begun = some b && s.awake && c.started && c.op = 0x60 && s.job? c.tag = none
     && b.tag = c.tag && s.flashWait (reads s c.p1 (s.resNow b) (0, c.p1)) p = some 16),
    (let s := checking [0x10, 7, 0] (rods [.flash] (st [(RASTER.STAT_STORE, 3)])); let c := s.cmds.headD (cmd 0 []); let b : CheckStart := ⟨1, [], none, 0⟩; let p := planned s c.p1 (s.resNow b) (0, c.p1)
     (s.cmds.find? fun c => c.rods.contains .raster) = some c && s.raster.begun = some b && s.awake && c.started && c.op = 0x60 && s.job? c.tag = none
     && b.tag = c.tag && s.flashWait (reads s c.p1 (s.resNow b) (0, c.p1)) p = none
     && p.err = some (16, causeNoResource) && (16 : Nat) < 2 ^ 18 && causeNoResource < 16),
    (let s := checking [0x22, 8, 0]; let c := s.cmds.headD (cmd 0 []); let b : CheckStart := ⟨1, [], none, 0⟩; let p := planned s c.p1 (s.resNow b) (0, c.p1)
     (s.cmds.find? fun c => c.rods.contains .raster) = some c && s.raster.begun = some b && s.awake && c.started && c.op = 0x60 && s.job? c.tag = none
     && b.tag = c.tag && s.flashWait (reads s c.p1 (s.resNow b) (0, c.p1)) p = none && p.err = none && p.bands ≠ []),
    (let s := checking [0]; let c := s.cmds.headD (cmd 0 []); let b : CheckStart := ⟨1, [], none, 0⟩; let p := planned s c.p1 (s.resNow b) (0, c.p1)
     (s.cmds.find? fun c => c.rods.contains .raster) = some c && s.raster.begun = some b && s.awake && c.started && c.op = 0x60 && s.job? c.tag = none
     && b.tag = c.tag && s.flashWait (reads s c.p1 (s.resNow b) (0, c.p1)) p = none && p.err = none && p.bands = []),
    (let s := drawing [0x22, 8, 0]; let j := job .render; let l := (planned s 19 [] (0, 19)).bands
     (2 : Nat) < 3 && l.length = 1 && s.raster.slots.length = 3 && l.all fun b =>
     b.lines < 8192 && 16 * s.rd RASTER.CFG_LINE_WORDS * b.lines ≤ bankSize
     && (List.range b.lines).all fun k => (b.lineBytes j.canvas (16 * s.rd RASTER.CFG_LINE_WORDS) j.x0 k).length = 16 * s.rd RASTER.CFG_LINE_WORDS),
    (let j : Job := { tag := 1, canvas := 8, x0 := 0, shift := 0, bands := 2, res := [], committed := 1 }; let s : State := { print := { jobs := [j] } }
     (2 ^ 18 - 1 : Nat) < 2 ^ 18 && (15 : Nat) < 16 && (0 : Nat) < j.committed && s.job? j.tag = some j),
    (let j := job .render; let s := drawing [0x22, 8, 0]; let w := j.bandItems 0 19; let p := planned s 19 [] w
     s.awake && (s.print.jobs.find? fun j => j.committed < j.bands && j.failed == none && (s.slotsOf j.tag).any fun i => s.rd (bandState i) == 1) = some j
     && (s.slotsOf j.tag).find? (fun i => s.rd (bandState i) == 1) = some 0 && (s.cmd? j.tag).isSome && (reads s 19 [] w).storeItem = none && p.err = none
     && (p.bands[0]?).any fun b => (s.bandBad (s.rd (bandBank 0)) b.lines) = none),
    (let j : Job := { job .render with plan := [(8, 16)] }; let s := drawing [0x22, 8, 0x40, 0xFF] {} j; let w := j.bandItems 0 20; let p := planned s 20 [] w
     s.awake && (s.print.jobs.find? fun j => j.committed < j.bands && j.failed == none && (s.slotsOf j.tag).any fun i => s.rd (bandState i) == 1) = some j
     && (s.slotsOf j.tag).find? (fun i => s.rd (bandState i) == 1) = some 0 && (s.cmd? j.tag).isSome && p.err = some (19, causeOpcode) && w.2 < 19 && (p.bands[0]?).isSome),
    (let j := job .render; let s := drawing [0x22, 8, 0] { sramUe := [1] }; let w := j.bandItems 0 19; let p := planned s 19 [] w
     s.awake && (s.print.jobs.find? fun j => j.committed < j.bands && j.failed == none && (s.slotsOf j.tag).any fun i => s.rd (bandState i) == 1) = some j
     && (s.slotsOf j.tag).find? (fun i => s.rd (bandState i) == 1) = some 0 && (s.cmd? j.tag).isSome && p.err = some (16, causeEcc) && 16 ≤ w.2),
    (let j := job .render; let s := drawing [0x22, 8, 0] { sramUe := [5] }; let w := j.bandItems 0 19; let p := planned s 19 [] w
     s.awake && (s.print.jobs.find? fun j => j.committed < j.bands && j.failed == none && (s.slotsOf j.tag).any fun i => s.rd (bandState i) == 1) = some j
     && (s.slotsOf j.tag).find? (fun i => s.rd (bandState i) == 1) = some 0 && (s.cmd? j.tag).isSome && p.err = none && (p.bands[0]?).any fun b => (s.bandBad (s.rd (bandBank 0)) b.lines).isSome),
    (let j : Job := { job .render with res := [⟨1, 7, true, 0, 25⟩] }; let s := (drawing [0x10, 7, 0] {} j).wrBit CORE.ROD_READY_READY 2 false
     s.awake && (s.print.jobs.find? fun j => j.committed < j.bands && j.failed == none && (s.slotsOf j.tag).any fun i => s.rd (bandState i) == 1) = some j
     && (s.slotsOf j.tag).find? (fun i => s.rd (bandState i) == 1) = some 0 && (s.cmd? j.tag).isSome && (reads s 19 j.res (j.bandItems 0 19)).storeItem = some 16 && !s.ready .flash)] : List Bool).all id = true := by decide +kernel

theorem witness_TearsAndEnds :
    ([(let s : State := {}; s.printing? = none && s.raster.slots.length = 3),
    (let s : State := { print := { jobs := [job .print] } }; s.printing? = some (job .print) && (15 : Nat) < 16 && s.raster.slots.length = 3),
    (let s : State := { print := { jobs := [job .out] } }; s.job? 1 = some (job .out) && (job .out).stage ≠ .render && s.raster.slots.length = 3),
    (let j : Job := { job .torn with justTorn := true, cause := 4 }; let s : State := { print := { jobs := [j] } }; s.printing? = none
     && s.print.jobs.find? (·.justTorn) = some j && j.cause ≤ 4 && 2 < j.cause && (2 : Nat) < 16)] : List Bool).all id = true := by decide +kernel

theorem witness_LinesAndPasses :
    ([(let s := st [(PRINT.LINE_CTL_LATE_MAX, 3)] { print := { jobs := [job .print], toTrigger := 2, period := 64000, firing := some ⟨[], [], 0, 0, false, 9⟩ }, feed := { job := .lines } }
     s.awake && !s.encLocked && s.printing?.any (·.stage == .print) && 0 < s.print.toTrigger && s.feed.job = .lines && !s.feed.dwell && s.print.period ≠ 0
     && (match execLineTimer ⟨20000, 2000⟩ s with | .next y => y.feed.job = .lines | _ => false)),
    (let p : Pass := ⟨1, [(0, 0)], [100], [100, 200], []⟩; let f : Firing := ⟨[true], [p], 0, 0, false, 9⟩; let s : State := { print := { firing := some f } }
     s.print.firing = some f && f.passes[f.pass]? = some p && !f.strobed),
    (let p : Pass := ⟨1, [(0, 0)], [100], [100, 200], []⟩; let f : Firing := ⟨[true], [p], 0, 0, true, 9⟩; let s : State := { print := { firing := some f } }
     s.print.firing = some f && f.passes[f.pass]? = some p && f.strobed && f.slice + 1 < p.ends.length),
    (let p : Pass := ⟨1, [(0, 0)], [100], [100, 200], []⟩; let f : Firing := ⟨[true], [p], 0, 1, true, 9⟩
     let s := st [(bandLines 0, 2)] { print := { firing := some f, jobs := [job .print] } }
     s.print.firing = some f && s.printing? = some (job .print) && f.passes[f.pass]? = some p && f.strobed && f.slice + 1 = p.ends.length
     && f.passes.length ≤ f.pass + 1 && f.passes.length < 16 && s.print.line + 1 < s.rd (bandLines s.print.slot)),
    (let p : Pass := ⟨1, [(0, 0)], [100], [100], []⟩; let f : Firing := ⟨[true], [p, p], 0, 0, true, 9⟩
     let s : State := { print := { firing := some f, jobs := [job .print] } }
     s.print.firing = some f && s.printing?.isSome && f.passes[f.pass]? = some p && f.strobed && f.slice + 1 = p.ends.length && f.pass + 1 < f.passes.length),
    (let s : State := {}; s.print.firing = none && s.rd PRINT.STAT_BACKLOG = 0 && s.printing? = none)] : List Bool).all id = true := by decide +kernel

theorem witness_PassesWellFormed :
    ([(let l := [100, 200, 300]; 0 + 2 < l.length && 2 ≤ l.length && l ≠ []),
    (let s : State := {}; (0, 0) ∈ (s.mkPass [0] 1 [(0, 100)]).dots && [(0, 100)] ≠ [])] : List Bool).all id = true := by decide +kernel

theorem witness_HeadWork :
    ([(let c := cmd 0x61 [.print]; let s := probing c; s.cmd? 1 = some c && c.op = 0x61 && !c.started && s.mayProbe c && (s.probeHead ⟨0, 0, []⟩).2.isSome),
    (let c := cmd 0x61 [.print]; let s := probing c (beads headBeads); s.cmd? 1 = some c && c.op = 0x61 && !c.started && s.mayProbe c
     && (s.probeHead headGood).2 = none && (s.identify headGood.idMv.toNat).2 = none
     && (match (s.identify headGood.idMv.toNat).1.probeResult headGood with | (some _, low) => low = [] | _ => false)),
    (let s : State := { print := { probe := some 1 } }; s.print.probe = some 1 && u16 s.wetBead 0 < s.leakOf 201 && s.leakOf 200 ≤ u16 s.wetBead 0),
    (let s : State := { print := { jobs := [job .render] } }; s.print.probe = none
     && (s.print.jobs.find? fun j => j.stage == .render && !j.leakOk) = some (job .render)),
    (let c := cmd 0x62 [.print] 601; let s := probing c; s.cmd? 1 = some c && c.op = 0x62 && !c.started && s.mayProbe c && 600 < c.p0),
    (let c := cmd 0x62 [.print] 600; let s := probing c; s.cmd? 1 = some c && c.op = 0x62 && !c.started && s.mayProbe c && c.p0 ≤ 600),
    (let s := beads headBeads { print := { dry := some ⟨some 1, 120, 0⟩ } }; s.print.dry.isSome &&  u16 s.wetBead 0 < s.leakOf 201 && s.leakOf 200 ≤ u16 s.wetBead 0),
    (let s := rods [.print] (st [(SUPPLY.VH_STAT_SETTLED, 1), (CORE.BG_CTL_HEADCHK_EN, 1)] { clock := 100000, print := { recheckDue := true } }); s.recheckIsDue && s.running
     && s.ready .print && !s.queuedFor [.print] && s.print.jobs = [] && s.rd SUPPLY.VH_STAT_SETTLED = 1 && s.print.lastReceipt + 100000 ≤ s.clock
     && !s.print.recheck),
    (let s : State := { print := { recheck := true } }; s.print.recheck && (s.probeHead ⟨0, 0, []⟩).2.isSome),
    (let s := st [(CORE.BG_HEAD_MEAN_DOHM, 100)] (beads headBeads { print := { recheck := true } }); s.print.recheck && (s.probeHead headGood).2 = none
     && (let old := s.rd CORE.BG_HEAD_MEAN_DOHM; let new := (s.probeHead headGood).1.rd CORE.BG_HEAD_MEAN_DOHM
     3 * old < 100 * (max old new - min old new))),
    (let s : State := { boot := { strobesKnown := true } }; s.awake && s.boot.strobesKnown && (1#8).toNat ≠ s.strobeLevels),
    (let s := beads headBeads; let m : HeadMeas := ⟨150, 20000, [1]⟩; (s.identify m.idMv.toNat).2 = none
     && (match (s.identify m.idMv.toNat).1.probeResult m with | (some _, low) => low.head? = some 0 | _ => false)),
    (let s := beads [(0x0603, leBytes 2 200 ++ [1, 0])] { print := { dryHead := false } }; !s.print.dryHead && u8 s.wetBead 2 = 1 && s.print.dry = none && s.base = .run),
    (let s := beads headBeads { print := { dry := some ⟨some 1, 120, 0⟩, dryHead := true } }; (s.takeHead 500).headConv 500#12 > u8 (s.takeHead 500).wetBead 6 * 10 && s.print.dryHead)] : List Bool).all id = true := by decide +kernel

theorem witness_PositionFeedback :
    ([(let s := st [(FEED.CFG_FB_TYPE, 1)]; s.awake && s.bank 3 && s.rd FEED.CFG_FB_TYPE = 1
     && (quadPlace false false + 4 - quadPlace (s.feed.encAB.testBit 0) (s.feed.encAB.testBit 1)) % 4 = 0
     && (quadPlace true true + 4 - quadPlace (s.feed.encAB.testBit 0) (s.feed.encAB.testBit 1)) % 4 = 2
     && (quadPlace true false + 4 - quadPlace (s.feed.encAB.testBit 0) (s.feed.encAB.testBit 1)) % 4 = 1
     && (quadPlace false true + 4 - quadPlace (s.feed.encAB.testBit 0) (s.feed.encAB.testBit 1)) % 4 = 3),
    (let s := st [(FEED.CFG_FB_TYPE, 1), (FEED.CFG_Z_USED, 1)]; s.awake && s.bank 3 && s.rd FEED.CFG_Z_USED = 1 && s.rd FEED.CFG_FB_TYPE = 1),
    (let s := st [(FEED.CFG_FB_TYPE, 2)]; s.awake && s.bank 3 && s.rd FEED.CFG_FB_TYPE = 2),
    (let s := st [(FEED.CFG_FB_TYPE, 3)] { feed := { current := -1 } }; s.awake && s.rd FEED.CFG_FB_TYPE ≠ 0 && u16 (s.beadD 0x0801 []) 4 < 2 * s.feed.current.natAbs),
    (let s := st [(FEED.STAT_STATE, 1)] { feed := { job := .target, target := 1 } }; s.awake && !s.brushless && s.feed.job = .target
     && s.feed.pos ≠ s.feed.target && !s.feed.dwell && s.feedDriving)] : List Bool).all id = true := by decide +kernel

theorem witness_Commutation :
    ([(let s := beads [(0x0806, [5, 4, 6, 2, 3, 1])] (st [(FEED.CFG_ARRANGEMENT, 1)] { feed := { hallPlace := some 3 } }); s.awake && s.bank 3 && s.brushless
     && (List.range 6).find? (fun i => u8 (s.beadD 0x0806 []) i == (7#3).toNat) = none
     && (List.range 6).find? (fun i => u8 (s.beadD 0x0806 []) i == (5#3).toNat) = some 0 && (0 + 6 - 3) % 6 ≠ 1 && (0 + 6 - 3) % 6 ≠ 5
     && (List.range 6).find? (fun i => u8 (s.beadD 0x0806 []) i == (3#3).toNat) = some 4 && (4 + 6 - 3) % 6 = 1
     && (List.range 6).find? (fun i => u8 (s.beadD 0x0806 []) i == (6#3).toNat) = some 2 && (2 + 6 - 3) % 6 = 5),
    (let s := st [(FEED.CFG_ARRANGEMENT, 1), (FEED.HALL_CODE, 7)] { feed := { hallBad := 2 } }; s.awake && s.brushless && 2 ≤ s.feed.hallBad && s.rd FEED.HALL_CODE = 7),
    (let s := st [(FEED.CFG_ARRANGEMENT, 1), (FEED.STAT_STATE, 1), (FEED.SPEED_MEAS, 50), (⟨FEED.PHASE_ADV0_SPEED_A.addr + 28, 24, 8⟩, 25)] { feed := { hallPlace := some 5, steps := 6, sector := 0 } }
     s.awake && s.brushless && s.feedDriving && s.thetaAdv ≠ 0 && s.feed.hallPlace = some 5 && s.feed.sector = (5 + 1) % 6 && !(decide (s.feed.hallDir < 0))),
    (let s := st [(FEED.CFG_ARRANGEMENT, 1), (FEED.STAT_STATE, 1), (FEED.SPEED_MEAS, 50), (⟨FEED.PHASE_ADV0_SPEED_A.addr + 28, 24, 8⟩, 25)] { feed := { hallPlace := some 0, steps := 6, sector := 0, hallDir := -1 } }
     s.awake && s.brushless && s.feedDriving && s.thetaAdv ≠ 0 && s.feed.hallPlace = some 0 && s.feed.sector ≠ (0 + 5) % 6 && s.feed.hallDir < 0)] : List Bool).all id = true := by decide +kernel

theorem witness_FeedMotion :
    ([(let c := cmd 0x80 [.feed] 0 9; let s := flight c (rods [.feed]); s.cmd? 1 = some c && c.op = 0x80 && !c.started && s.running && s.ready .feed
     && s.firstIn 1 .feed && !s.feedMoving && ofBits 32 c.p0 = 0 && c.p1 % 65536 < 10),
    (let c := cmd 0x80 [.feed] 65535 250; let s := flight c (rods [.feed] (st [(FEED.STAT_COVER, 0)])); s.cmd? 1 = some c && s.running && s.ready .feed && s.firstIn 1 .feed && !s.feedMoving
     && ofBits 32 c.p0 = 65535 && c.p1 % 65536 = 250 && !s.flag FEED.STAT_COVER),
    (let c := cmd 0x80 [.feed] (2 ^ 32 - 4096) 10; let s := flight c (rods [.feed] (st [(FEED.STAT_COVER, 1)])); s.cmd? 1 = some c && s.running && s.ready .feed
     && s.firstIn 1 .feed && !s.feedMoving && ofBits 32 c.p0 = -4096 && c.p1 % 65536 = 10 && s.flag FEED.STAT_COVER),
    (let c := cmd 0x81 [.feed]; let s := flight c (rods [.supply, .loop]); s.cmd? 1 = some c && c.op = 0x81 && !c.started && s.running && !s.feedMoving
     && s.ready .supply && s.ready .loop && !s.hasCause .feed && s.firstIn 1 .feed && s.boot.brake = 0),
    (let s : State := { feed := { job := .target, pos := 2 } }; s.awake && s.feedMoving && !s.feed.dwell && s.feed.job = .target && !s.flag FEED.STAT_DIR
     && s.feed.pos - s.feed.target ≤ 2),
    (let s : State := { feed := { job := .target, pos := 3 } }; s.awake && s.feedMoving && !s.feed.dwell && s.feed.job = .target && 2 < s.feed.pos - s.feed.target),
    (let s : State := { feed := { job := .back } }; s.awake && s.feedMoving && !s.feed.dwell && s.feed.job = .back),
    (let s : State := { feed := { job := .lines } }; s.awake && s.feedMoving && !s.feed.dwell && s.feed.job = .lines),
    (let s : State := { feed := { job := .stop } }; s.awake && s.feedMoving && !s.feed.dwell && s.feed.job = .stop),
    (let s := st [(FEED.STAT_STATE, 3)] { feed := { dwell := true } }; s.awake && s.rd FEED.STAT_STATE = 3 && s.feed.dwell)] : List Bool).all id = true := by decide +kernel

theorem witness_SensorsAndBridges :
    ([(let s := beads [(0x0884, [7, 7, 2, 0])]; [Sensor.paper, .nearEnd, .cover].all fun k => s.awake && s.bank 3
     && (u8 (s.beadD 0x0884 [0, 0, 2, 0]) 1).testBit (sensorBit k)
     && [true, false].any fun l => s.flag (sensorFld k) ≠ (l == (u8 (s.beadD 0x0884 [0, 0, 2, 0]) 0).testBit (sensorBit k))),
    (let s : State := {}; s.feed.tag = none && s.printing? = none && s.print.jobs = [] && !s.cutDriving && s.cut.tag = none),
    (let s := host (beads [(0x0807, [1, 0, 100, 0])]); takes s .feed && s.auxUsed && !s.auxDriving && s.boot.brake = 0),
    (let s := host (beads [(0x0807, [1, 0, 100, 0])] { feed := { aux := .pull } }); takes s .feed && s.awake && s.auxUsed && s.auxDriving && s.feed.aux = .pull),
    (let s : State := { feed := { aux := .release } }; s.awake && s.feed.aux = .release),
    (let s := st [(CORE.HELD_STAT_BRAKE, 1)]; s.awake && s.rd CORE.HELD_STAT_BRAKE = 1),
    (let s := host; takes s .feed && !s.auxUsed),
    (let s : State := { cut := { tag := some 1 } }; s.feed.tag = none && s.print.jobs = [] && s.cut.tag ≠ none)] : List Bool).all id = true := by decide +kernel

theorem witness_CutSequence :
    ([(let c := cmd 0x90 [.cut]; let s := flight c (rods [.cut]); s.cmd? 1 = some c && c.op = 0x90 && !c.started && s.running && s.ready .cut && s.firstIn 1 .cut
     && s.cut.tag = none),
    (let c := cmd 0x91 [.cut]; let s := flight c (rods [.loop] (st [(FEED.STAT_COVER, 1)])); s.cmd? 1 = some c && c.op = 0x91 && !c.started && s.running
     && s.ready .loop && s.rd FEED.STAT_COVER = 1 && !s.hasCause .cut && s.firstIn 1 .cut && s.cut.tag = none && !s.cutDriving && s.boot.brake = 0
     && s.rd CUT.STAT_HOME = 0),
    (let c := cmd 0x91 [.cut]; let s := flight c (rods [.loop] (st [(FEED.STAT_COVER, 1), (CUT.STAT_HOME, 1)])); s.cmd? 1 = some c && s.rd FEED.STAT_COVER = 1
     && s.rd CUT.STAT_HOME = 1 && s.rd CUT.STAT_END = 0 && s.firstIn 1 .cut && !s.cutDriving),
    (let s : State := {}; s.awake && s.bank 3),
    (let s := st [(CUT.STAT_STATE, 1)]; s.awake && s.rd CUT.STAT_STATE = 1 && !s.cut.partialCut),
    (let s := st [(CUT.STAT_STATE, 1)] { cut := { partialCut := true, left := true } }; s.awake && s.rd CUT.STAT_STATE = 1 && s.cut.partialCut && s.cut.left),
    (let s := st [(CUT.STAT_STATE, 3)]; s.awake && s.rd CUT.STAT_STATE = 3 && !s.cut.jammed),
    (let s := st [(CUT.STAT_STATE, 3), (CUT.JAM_JAM_RETRIES, 2)] { cut := { jammed := true, reversals := 2 } }; s.rd CUT.STAT_STATE = 3 && s.cut.jammed
     && s.cut.reversals ≤ s.rd CUT.JAM_JAM_RETRIES),
    (let s := st [(CUT.STAT_STATE, 3), (CUT.JAM_JAM_RETRIES, 2)] { cut := { jammed := true, reversals := 3 } }; s.rd CUT.STAT_STATE = 3 && s.cut.jammed
     && s.rd CUT.JAM_JAM_RETRIES < s.cut.reversals),
    (let s := st [(CUT.STAT_STATE, 4)]; s.awake && s.rd CUT.STAT_STATE = 4),
    (let s := st [(CUT.STAT_HOME, 1), (CUT.STAT_END, 1)]; s.awake && s.rd CUT.STAT_HOME = 1 && s.rd CUT.STAT_END = 1),
    (let s := st [(CUT.STAT_STATE, 2)] { cut := { next := .jamBack } }; s.awake && s.rd CUT.STAT_STATE = 2 && s.cut.next = .jamBack),
    (let s := st [(CUT.STAT_STATE, 2)] { cut := { next := .stay } }; s.awake && s.rd CUT.STAT_STATE = 2 && s.cut.next = .stay),
    (let s := st [(CUT.STAT_STATE, 2), (CUT.STAT_HOME, 1)] { cut := { thenCut := true } }; s.awake && s.rd CUT.STAT_STATE = 2 && s.cut.next = .finish && s.cut.thenCut
     && s.rd CUT.STAT_HOME = 1),
    (let s := st [(CUT.STAT_STATE, 2), (CUT.STAT_HOME, 1)]; s.awake && s.rd CUT.STAT_STATE = 2 && s.cut.next = .finish && !s.cut.thenCut && s.rd CUT.STAT_HOME = 1
     && !s.cut.isCut),
    (let s := st [(CUT.STAT_STATE, 2)] { cut := { isCut := true } }; s.awake && s.rd CUT.STAT_STATE = 2 && s.cut.next = .finish && !s.cut.thenCut
     && !s.cut.needHome && s.cut.isCut),
    (clampNat 50 300 (field 0x012C0064 0 9) + clampNat 50 300 (field 0x012C0064 16 9) = 400 && 400 < clampNat 50 300 (field 0x012C0065 0 9) + clampNat 50 300 (field 0x012C0065 16 9)),
    (takes host .cut)] : List Bool).all id = true := by decide +kernel

theorem witness_ControlLoops :
    ([(let s := beads [(0x0A03, lawOf 1)] (st [(LOOP.L_STAT_STATE 3, 2), (LOOP.L_STAT_CLIENT 3, 2)]); s.awake && s.rd (LOOP.L_STAT_STATE 3) = 2
     && s.rd (LOOP.L_STAT_CLIENT 3) = 2 && !s.rdBit LOOP.COEF_STAT_PENDING 3 && 3 < s.loops.loops.length && s.rd (LOOP.L_FE_LIMIT_LIMIT 3) = 0
     && s.rd (LOOP.L_OSC_COUNT 3) = 0),
    (let s := st [(LOOP.L_STAT_STATE 0, 2)] { loops := { loops := List.replicate 4 { waiting := some (-5) } } }; s.awake && s.rd (LOOP.L_STAT_STATE 0) = 2
     && (s.loopSt 0).waiting = some (-5)),
    (let s := host { loops := { win := { mask := 3 } } }; takes s .loop && s.loops.win.mask ||| 8 ≠ 15),
    (let s := host (beads [(0x0A03, lawOf 3)] (st [(LOOP.CFG_PRESENT, 8)] { loops := { win := { mask := 7, w0 := 3 + 65536 * 4 } } })); takes s .loop
     && s.loops.win.mask ||| 8 = 15 && !s.rdBit LOOP.COEF_STAT_PENDING 3 && s.rdBit LOOP.CFG_PRESENT 3 && 0 < u8 (s.law 3) 0
     && 4 < coefCount (stageDef (s.law 3) 0).kind && s.loops.win.w0 = 3 + 256 * 0 + 65536 * 4 && s.loops.win.w2 = 0),
    (let s := host { loops := { win := { mask := 7 } } }; takes s .loop && s.loops.win.mask ||| 8 = 15 && !s.rdBit LOOP.COEF_STAT_PENDING 0 && !s.rdBit LOOP.CFG_PRESENT 0),
    (let s := host (st [(LOOP.COEF_STAT_PENDING, 1)] { loops := { win := { mask := 7 } } }); takes s .loop && s.loops.win.mask ||| 8 = 15 && s.rdBit LOOP.COEF_STAT_PENDING 0),
    (let s := beads [(0x0A00, lawOf 3)] { loops := { loops := List.replicate 4 { shadow := [[0, 0, 0, 0, 0]] } } }; 0 < s.loops.loops.length
     && !(List.range (s.loopSt 0).shadow.length).all fun j => coefOk (stageDef (s.law 0) j).kind ((s.loopSt 0).shadow.getD j []) s.lutCount),
    (let s := st [(LOOP.L_STAT_STATE 3, 2)] (beads [(0x0A03, lawOf 3)] { loops := { loops := List.replicate 4 { shadow := [[0, 0, 0, 1, 0]] } } })
     3 < s.loops.loops.length && s.rd (LOOP.L_STAT_STATE 3) = 2 && s.rd (LOOP.L_STAT_STATE 2) ≠ 2
     && (List.range (s.loopSt 3).shadow.length).all fun j => coefOk (stageDef (s.law 3) j).kind ((s.loopSt 3).shadow.getD j []) s.lutCount),
    (let s := st [(LOOP.L_CTL_ACTION 3, 1)]; s.rd (LOOP.L_CTL_ACTION 3) = 1 && s.rd (LOOP.L_CTL_ACTION 0) = 0 && 3 < s.loops.loops.length && (3 : Nat) < 4)] : List Bool).all id = true := by decide +kernel

theorem witness_StageArithmetic :
    ([((toQ 2147483647).2 = false && (toQ 2147483648).2 = true && (toQ (-2147483648)).2 = false),
    (let g : StageDef := ⟨5, 0, 0, false⟩; let c : List Int := [-2147483648, 2147483647]; g.kind = 5 && c.getD 0 0 ≤ c.getD 1 0 && -2147483648 ≤ c.getD 0 0
     && c.getD 1 0 ≤ 2147483647),
    (let g : StageDef := ⟨3, 0, 0, false⟩; let c : List Int := [1, 1, 1, 2147483647, 0]; g.kind = 3 && 0 < c.getD 3 0 && c.getD 3 0 ≤ 2147483647)] : List Bool).all id = true := by decide +kernel

theorem witness_SensorNegotiation :
    ([(let s := imaged (st [(CORE.CLK_STAT_PLLV_LOCK, 1)] { faults := [⟨0x0B01, 0⟩] }); s.awake && s.pllvOn && s.vidinFault && s.imageApplied && s.vid.renegTag = none),
    (let s := beads [(0x0B00, camera 2)]; (List.range 4).find? (fun j => (s.sensor? j).isSome && s.idMatches ⟨[], true, true⟩ j) = none && (s.sensor? 0).isSome && s.bank 4),
    (let s := beads [(0x0B00, camera 2)]; (List.range 4).find? (fun j => (s.sensor? j).isSome && s.idMatches ⟨[some 0x1235, none, none, none], true, true⟩ j) = none
     && (s.sensor? 0).isSome),
    (let s := beads [(0x0B00, camera 4)]; (List.range 4).find? (fun j => (s.sensor? j).isSome && s.idMatches ⟨ids, true, true⟩ j) = some 0
     && s.chooseMode ((s.sensor? 0).getD []) = none),
    (let s := beads [(0x0B00, camera 2)]; (List.range 4).find? (fun j => (s.sensor? j).isSome && s.idMatches ⟨ids, true, true⟩ j) = some 0
     && s.chooseMode ((s.sensor? 0).getD []) = some (2, 0) && ids.getD 0 none = some 0x1234),
    (let s := beads [(0x0B00, camera 1)]; s.chooseMode ((s.sensor? 0).getD []) = some (1, 0)),
    (let c := cmd 0xB2 [.vidin]; let s := flight c (rods [.vidin]); s.cmd? 1 = some c && s.mayBegin c 0xB2 .vidin && s.vid.renegTag = none && s.rd VIDIN.STAT_SESSION = 0),
    (let c := cmd 0xB2 [.vidin]; let s := flight c (rods [.vidin] (st [(VIDIN.STAT_SESSION, 2)])); s.cmd? 1 = some c && s.mayBegin c 0xB2 .vidin
     && s.vid.renegTag = none && s.rd VIDIN.STAT_SESSION ≠ 0),
    (let s := st [(VIDIN.STAT_STATE, 2)]; s.awake && s.rd VIDIN.STAT_STATE = 2 && s.rd VIDIN.STAT_SESSION = 0),
    (let s := beads [(0x0B00, camera 2), (0x0B01, camera 2)]; (List.range 4).find? (fun j => (s.sensor? j).isSome && s.idMatches ⟨[none, some 1], true, true⟩ j) = none
     && (s.sensor? 0).isSome && (s.sensor? 1).isSome && s.bank 4),
    (let s : State := { regs := [] }; !(s.wr CORE.IO_STAT_PRESENT 15).bank 4)] : List Bool).all id = true := by decide +kernel

theorem witness_CaptureSessions :
    ([(let c := cmd 0xB0 [.vidin]; let s := flight c (rods [.vidin] (st [(CORE.CLK_STAT_PLLV_LOCK, 1)])); s.cmd? 1 = some c && s.mayBegin c 0xB0 .vidin && s.pllvOn
     && s.rd VIDIN.STAT_SESSION = 0 && s.enc.cur = none && s.enc.wait = none),
    (let c := cmd 0xB0 [.vidin]; let s := flight c (rods [.vidin] (st [(CORE.CLK_STAT_PLLV_LOCK, 1), (VIDIN.STAT_SESSION, 1)])); s.cmd? 1 = some c
     && s.mayBegin c 0xB0 .vidin && s.pllvOn && s.rd VIDIN.STAT_SESSION ≠ 0),
    (let c := cmd 0xB1 [.vidin]; let s := flight c (rods [.vidin]); s.cmd? 1 = some c && s.mayBegin c 0xB1 .vidin && s.vid.stopTag = none && s.rd VIDIN.STAT_SESSION ≠ 1),
    (let c := cmd 0xB1 [.vidin]; let s := flight c (rods [.vidin] (st [(VIDIN.STAT_SESSION, 1)])); s.cmd? 1 = some c && s.mayBegin c 0xB1 .vidin
     && s.vid.stopTag = none && s.rd VIDIN.STAT_SESSION = 1),
    (let s : State := { vid := { stopTag := some 1 } }; s.vid.stopTag = some 1 && s.vid.openTag = none && s.scan.tag = none)] : List Bool).all id = true := by decide +kernel

theorem witness_CaptureFrames :
    ([(let s := rods [.vidin] (st [(VIDIN.STAT_STATE, 3), (VIDIN.STAT_SESSION, 1), (CORE.CLK_STAT_PLLV_LOCK, 1)] { vid := { skip := 1, starts := 1 } }); s.awake
     && s.ready .vidin && s.rd VIDIN.STAT_STATE = 3 && s.rd VIDIN.STAT_SESSION ≠ 0 && !s.vid.inFrame && s.pllvOn && s.vid.starts % (s.vid.skip + 1) ≠ 0),
    (let s := rods [.vidin] (st [(VIDIN.STAT_STATE, 3), (VIDIN.STAT_SESSION, 1), (CORE.CLK_STAT_PLLV_LOCK, 1), (VIDIN.RING_S_SLOTS, 2)] { vid := { sW := 16, sH := 2 } })
     s.awake && s.ready .vidin && s.rd VIDIN.STAT_STATE = 3 && s.rd VIDIN.STAT_SESSION ≠ 0 && !s.vid.inFrame && s.pllvOn
     && s.vid.starts % (s.vid.skip + 1) = 0 && (pickSlot (s.rd VIDIN.RING_S_SLOTS) s.vid.lastS s.heldS).isSome),
    (let s := rods [.vidin] (st [(VIDIN.STAT_STATE, 3), (VIDIN.STAT_SESSION, 1), (CORE.CLK_STAT_PLLV_LOCK, 1)] { vid := { eW := 16, eH := 16 } })
     s.vid.starts % (s.vid.skip + 1) = 0 && s.vid.eW ≠ 0 && (pickSlot (s.rd VIDIN.RING_E_SLOTS) s.vid.lastE s.heldE).isNone),
    (pickSlot 2 (some 1) (fun _ => false) = some 0 && pickSlot 2 none (fun _ => true) = none),
    (let s : State := { vid := { inFrame := true } }; s.awake && s.vid.inFrame && !s.vid.piped),
    (let s := beads [(0x0B00, camera 2)] { vid := { inFrame := true, piped := true } }; s.awake && s.vid.inFrame && s.vid.piped
     && sensorW s.sensor * sensorH s.sensor * (if u8 s.sensor 10 = 2 then 2 else 1) = 256 && (List.replicate 256 (0#16)).length = 256),
    (let s := rods [.vidin] (st [(VIDIN.STAT_STATE, 3)]); s.awake && s.rd VIDIN.STAT_STATE = 3 && s.ready .vidin && s.vid.openTag = none),
    (let s := rods [.vidin] (st [(VIDIN.STAT_STATE, 3)] { vid := { openTag := some 1 } }); s.awake && s.rd VIDIN.STAT_STATE = 3 && s.ready .vidin && s.vid.openTag = some 1),
    (let s := host (st [(VIDIN.AE_EN, 0)]); takes s .vidin && s.rd VIDIN.AE_EN = 0)] : List Bool).all id = true := by decide +kernel

theorem witness_Scanning :
    ([(let c := cmd 0xE0 [.scan]; let s := flight c (rods [.scan] (st [(VIDIN.STAT_SESSION, 1)])); s.cmd? 1 = some c && s.mayBegin c 0xE0 .scan && s.mayWrite .scan c.p2 4096 && s.scan.tag = none
     && s.rd VIDIN.STAT_SESSION = 1 && s.vid.sW = 0),
    (let c := cmd 0xE0 [.scan]; let s := flight c (rods [.scan] (st [(CORE.CLK_STAT_PLLV_LOCK, 1)])); s.cmd? 1 = some c && s.mayBegin c 0xE0 .scan && s.mayWrite .scan c.p2 4096 && s.scan.tag = none
     && s.rd VIDIN.STAT_SESSION = 0 && s.pllvOn),
    (let c := cmd 0xE0 [.scan]; let s := flight c (rods [.scan] (st [(VIDIN.STAT_SESSION, 1)] { vid := { sW := 16 } })); s.cmd? 1 = some c && s.mayBegin c 0xE0 .scan && s.mayWrite .scan c.p2 4096
     && s.scan.tag = none && s.rd VIDIN.STAT_SESSION = 1 && s.vid.sW ≠ 0),
    (let c := cmd 0xE0 [.scan] 0 0 0x80000; let s := flight c (rods [.scan] (st [(VIDIN.STAT_SESSION, 1), (CORE.BANK_MAP0_OWNER_B, 11)] { vid := { sW := 16 } }))
     s.cmd? 1 = some c && s.mayBegin c 0xE0 .scan && s.scan.tag = none && s.rd VIDIN.STAT_SESSION ≠ 0 && !s.mayWrite .scan c.p2 4096),
    (let s : State := { scan := { tag := some 1, cur := some (0, 5) } }; s.awake && s.scan.tag = some 1 && s.scan.cur = some (0, 5)),
    (let y : Symbol := ⟨1, 0, 0, 0, 0, 8, 8, [0x31]⟩; let c := cmd 0xE0 [.scan]; let s := flight c { scan := { tag := some 1, mask := 2, cur := some (0, 5) } }
     s.awake && s.nearest ((([y].filter fun y => !s.tooBig y).filterMap fun y => (reported s.scan.mask y).map fun p => (y, p))) = some (y, 1, [0x31]) && s.cmd? 1 = some c),
    (let y : Symbol := ⟨1, 0, 0, 0, 0, 8, 8, [0x30]⟩; y.sym = 1#2 && (y.payload.map (·.toNat)).head? = some 0x30 && (4 : Nat).testBit 2 && !(2 : Nat).testBit 2),
    (let y : Symbol := ⟨3, 0, 0, 0, 0, 8, 8, []⟩; let z : Symbol := ⟨2, 0, 0, 0, 0, 8, 8, []⟩; let q : Symbol := ⟨0, 0, 0, 0, 0, 8, 8, []⟩; y.sym = 3#2 && z.sym = 2#2 && q.sym = 0#2),
    (let s : State := { scan := { tag := some 1 } }; s.awake && s.scan.tag = some 1)] : List Bool).all id = true := by decide +kernel

theorem witness_Encoding :
    ([(let c := cmd 0xC0 [.enc]; let s := flight c (rods [.enc] (st [(CORE.CLK_STAT_PLLV_LOCK, 1)])); s.cmd? 1 = some c && s.mayBegin c 0xC0 .enc && s.pllvOn
     && s.rd VIDIN.STAT_SESSION ≠ 1),
    (let c := cmd 0xC0 [.enc] 0x100010 64 0x101 1000; let s := flight c (rods [.enc] (st [(CORE.CLK_STAT_PLLV_LOCK, 1), (VIDIN.STAT_SESSION, 1),
     (CORE.BANK_MAP0_OWNER_A, 12)] { vid := { eW := 16, eH := 16 } })); s.cmd? 1 = some c && s.mayBegin c 0xC0 .enc && s.pllvOn
     && s.rd VIDIN.STAT_SESSION = 1 && s.vid.eW = c.p0 % 65536 && s.vid.eH = c.p0 / 65536 && s.storesNeeded ≤ ringSlots (s.ownRun .enc).2 (s.storeSize 16 16)
     && 16 * 16 / 256 * sensorFps s.sensor ≤ 108000 * (c.p2 / 256 % 256) && s.rd ENC.STAT_STATE = 0 && (s.wr ENC.STAT_STATE 1).rd ENC.STAT_STATE ≠ 0),
    (let c := cmd 0xC1 [.enc]; let s := flight c (rods [.enc]); s.cmd? 1 = some c && s.mayBegin c 0xC1 .enc && s.enc.closeTag = none && s.rd ENC.STAT_STATE = 0
     && (s.wr ENC.STAT_STATE 1).rd ENC.STAT_STATE ≠ 0 && (s.wr ENC.STAT_STATE 1).mayBegin c 0xC1 .enc),
    (let c := cmd 0xC2 [.enc]; let s := flight c (rods [.enc] { enc := { lent := List.replicate 15 9 } }); s.cmd? 1 = some c && s.mayBegin c 0xC2 .enc && s.mayWrite .enc c.p0 c.p1 && s.enc.lent.length < 16),
    (let c := cmd 0xC3 [.enc]; let s := flight c (rods [.enc]); s.cmd? 1 = some c && s.mayBegin c 0xC3 .enc && s.rd ENC.STAT_STATE = 0
     && (s.wr ENC.STAT_STATE 1).rd ENC.STAT_STATE ≠ 0 && (s.wr ENC.STAT_STATE 1).mayBegin c 0xC3 .enc),
    (let c := cmd 0xC2 [.enc] 0x1000 352; let f : EncFrame := ⟨0, 1, 2, 3⟩; let r : Slice := ⟨30, [.intra 30 false], 0, [], [0, 0, 0, 1, 0x41, 0x88]⟩
     let s := flight c (st [(CORE.CLK_STAT_PLLV_LOCK, 1)] { enc := { w := 16, h := 16, size := 1000, sliceMax := 1000, cur := some f, lent := [1] } })
     s.awake && s.pllvOn && s.enc.cur = some f && s.enc.lent = [1] && s.cmd? 1 = some c && s.sliceOk f r (min s.enc.sliceMax (c.p1 - 96))),
    (let s : State := { enc := { closeTag := some 1, idr := true, pos := 0, sweep := 1 } }; s.enc.closeTag = some 1 && s.enc.sweep ≤ s.enc.pos + 1 && s.enc.idr),
    (let f : EncFrame := ⟨0, 1, 2, 3⟩; let r : Slice := ⟨30, [.intra 30 false], 0, [0, 0, 0, 1, 0x67, 66, 0x40, 10, 0xDA, 0x79, 0, 0, 0, 1, 0x68, 0xCE, 0x3E, 0x80, 0, 0, 0, 1, 6, 6, 1, 0xC4, 0x80], [0, 0, 0, 1, 0x65, 0x88]⟩
     let s : State := { enc := { w := 16, h := 16, level := 10, size := 1000, cur := some f, params := true, idr := true } }
     s.sliceOk f r 256 && s.enc.idr),
    (let f : EncFrame := ⟨0, 1, 2, 3⟩; let b : MvBlock := ⟨0, 0, 8, 16, -64, 128⟩; let s : State := { enc := { w := 64, h := 16, sweep := 2, pos := 1, size := 1 } }
     s.mbOk f 1 (.inter [b]) && 1 < s.enc.refreshedTo (s.enc.pos + 1) && s.enc.refreshedTo s.enc.pos ≤ 3 && 3 < s.enc.refreshedTo (s.enc.pos + 1)
     && !s.badMb f 3 && s.mbOk f 3 (.intra 0 false) && s.enc.full = false && ({ s with enc := { s.enc with size := 0 } } : State).enc.full),
    (let c := cmd 0xC2 [.enc] 0x80000 352; let s := flight c (rods [.enc] (st [(CORE.BANK_MAP0_OWNER_B, 11)])); s.cmd? 1 = some c && s.mayBegin c 0xC2 .enc
     && !s.mayWrite .enc c.p0 c.p1),
    (takes host .enc)] : List Bool).all id = true := by decide +kernel

theorem witness_Decoding :
    ([(let c := cmd 0xD0 [.dec] 0x100010; let s := flight c (rods [.dec] (st [(CORE.CLK_STAT_PLLV_LOCK, 1)])); s.cmd? 1 = some c && s.mayBegin c 0xD0 .dec && s.pllvOn
     && min 8 (ringSlots (s.ownRun .dec).2 (nv12 16 16)) < 2),
    (let c := cmd 0xD0 [.dec] 0x100010; let s := flight c (rods [.dec] (st [(CORE.CLK_STAT_PLLV_LOCK, 1), (CORE.BANK_MAP0_OWNER_A, 13)])); s.cmd? 1 = some c
     && s.mayBegin c 0xD0 .dec && s.pllvOn && 2 ≤ min 8 (ringSlots (s.ownRun .dec).2 (nv12 16 16))
     && s.rd DEC.STAT_STATE = 0 && (s.wr DEC.STAT_STATE 1).rd DEC.STAT_STATE ≠ 0 && (s.wr DEC.STAT_STATE 1).mayBegin c 0xD0 .dec),
    (let c := cmd 0xD1 [.dec]; let s := flight c (rods [.dec] (st [(CORE.CLK_STAT_PLLV_LOCK, 1)])); s.cmd? 1 = some c && s.mayBegin c 0xD1 .dec && s.pllvOn
     && s.dec.closeTag = none && s.rd DEC.STAT_STATE = 0),
    (let c := cmd 0xD1 [.dec]; let s := flight c (rods [.dec] (st [(CORE.CLK_STAT_PLLV_LOCK, 1), (DEC.STAT_STATE, 1)] { dec := { queue := [(2, true), (3, true), (4, true)] } }))
     s.cmd? 1 = some c && s.mayBegin c 0xD1 .dec && s.pllvOn && s.dec.closeTag = none && s.rd DEC.STAT_STATE ≠ 0 && s.mayRead .dec c.p0 c.p1 && !s.shed && s.dec.queue.length < 4
     && (s.wr THERM.STAT_ACTIVE 8).shed),
    (let c := cmd 0xD2 [.dec] 1; let s := flight c (rods [.dec]); s.cmd? 1 = some c && s.mayBegin c 0xD2 .dec && s.dec.closeTag = none && s.rd DEC.STAT_STATE = 0
     && (s.wr DEC.STAT_STATE 1).rd DEC.STAT_STATE ≠ 0 && (s.wr DEC.STAT_STATE 1).mayBegin c 0xD2 .dec),
    (let c := cmd 0xD1 [.dec] 0x1000 64; let s := flight c (st [(CORE.CLK_STAT_PLLV_LOCK, 1)] { dec := { w := 16, h := 16, cur := some 7, queue := [(1, true)] } })
     s.awake && s.pllvOn && s.dec.cur = some 7 && s.dec.queue = [(1, true)] && s.cmd? 1 = some c && (7 : Nat) < 8 && s.dec.w < 16 * (2#8).toNat
     && 16 * (1#8).toNat ≤ s.dec.w && 16 * (1#8).toNat ≤ s.dec.h && s.dec.ref = none),
    (let c := cmd 0xD1 [.dec] 0x7FFF0 0x20; let s := flight c (rods [.dec] (st [(CORE.CLK_STAT_PLLV_LOCK, 1), (DEC.STAT_STATE, 1), (CORE.BANK_MAP0_OWNER_B, 11)])); s.cmd? 1 = some c
     && s.mayBegin c 0xD1 .dec && s.pllvOn && s.dec.closeTag = none && s.rd DEC.STAT_STATE ≠ 0 && !s.mayRead .dec c.p0 c.p1),
    (let p : AuPicture := ⟨false, false, some 3, 1, 1, 0, [.intra], 0, 0, 0⟩; let s : State := { dec := { w := 16, h := 16, lossDue := true } }; p.lostCount = 0 && p.gaps.toNat = 0
     && !p.idr && s.dec.period = none && s.dec.lossDue && ({ p with mbs := [] } : AuPicture).lostCount ≠ 0),
    (takes host .dec)] : List Bool).all id = true := by decide +kernel

theorem witness_AccelerometerAndBanks :
    ([(let s := imaged (beads [(0x0F00, accel)] { accel := { ready := true } }); s.accelOn && s.bank 3 && !s.hasFault 0x0F01 && s.accel.ready),
    (let s := imaged (beads [(0x0F00, accel)]); s.accelOn && s.bank 3 && !s.hasFault 0x0F01 && !s.accel.ready && (0x32#8).toNat ≠ u8 s.accelBead 3 && (0x33#8).toNat = u8 s.accelBead 3
     && s.accel.nacks < 2),
    (let s : State := { accel := { nacks := 2 } }; 2 ≤ s.accel.nacks),
    (let s := imaged (beads [(0x0F00, accel)]); s.accel.shock = none && max (s.axisMag [99, 0, 0, 0, 0, 0] 0) (max (s.axisMag [99, 0, 0, 0, 0, 0] 1) (s.axisMag [99, 0, 0, 0, 0, 0] 2))
     < u16 s.accelBead 10 * 100),
    (let s := imaged (beads [(0x0F00, accel)]); s.accel.shock = none && u16 s.accelBead 10 * 100 ≤ max (s.axisMag [0, 0, 100, 0, 100, 0] 0)
     (max (s.axisMag [0, 0, 100, 0, 100, 0] 1) (s.axisMag [0, 0, 100, 0, 100, 0] 2))),
    (let s := imaged (beads [(0x0F00, accel)] { accel := { shock := some ⟨5, 0, 3, 1, 2⟩ } }); s.accel.shock = some ⟨5, 0, 3, 1, 2⟩
     && 4 * max (s.axisMag [74, 0, 0, 0, 0, 0] 0) (max (s.axisMag [74, 0, 0, 0, 0, 0] 1) (s.axisMag [74, 0, 0, 0, 0, 0] 2)) < 3 * (u16 s.accelBead 10 * 100)
     && s.led.buf.length < appendRoom),
    (let s := imaged (beads [(0x0F00, accel)] { faults := [⟨0x0F01, 0⟩] }); s.accelOn && s.bank 3 && s.hasFault 0x0F01 && (0x33#8).toNat = u8 s.accelBead 3),
    (let s := st [(CORE.IO_STAT_PRESENT, 0)]; [IoBank.hl, .fl, .hd, .mx, .cam].all fun b => !s.bank (bankIdx b)),
    (let s : State := {}; [IoBank.hl, .fl, .hd, .mx, .cam].all fun b => s.bank (bankIdx b)),
    (let s := imaged (beads [(0x0F00, accel)] (({ accel := { ready := true } } : State).wr CORE.IO_STAT_PRESENT 1)); s.accelOn && !s.hasFault 0x0F01 && s.accel.ready && !s.bank 3),
    (let x : Shock := ⟨5, 0, 3, 1, 1⟩; let s : State := { accel := { shock := some x } }; s.accel.shock = some x && x.quiet < 2),
    (let s : State := { boot := { pinLow := true } }; s.boot.pinLow && s.bank 0),
    (let s : State := { boot := { strobesKnown := true }, print := { strobes := 1 } }; s.awake && s.boot.strobesKnown && s.print.strobes ≠ 0 && s.bank 2)] : List Bool).all id = true := by decide +kernel

theorem witness_RegisterSpace :
    ([(let s := host; takes s .core && (0x5FFFFFFC#32).toNat % 4 = 0 && 0x40000000 ≤ (0x5FFFFFFC#32).toNat && (0x5FFFFFFC#32).toNat < 0x60000000 && s.isHole 0x5FFFFFFC),
    (let s : State := { part := .ap }; s.isHole VIDIN.TIME_US.addr && s.isHole SCAN.CFG_SYMBOLOGIES.addr),
    (let s : State := { boot := { resetting := 2 ^ 4 } }; !s.isHole THERM.STAT_ACTIVE.addr && !isDoorbell THERM.STAT_ACTIVE.addr && blockRod? THERM.STAT_ACTIVE.addr = some .therm
     && s.writesBlocked .therm),
    (let s : State := {}; let a := CORE.HB_PERIOD_PERIOD_MS.addr; !s.isHole a && !isDoorbell a && blockRod? a = some .core && !s.writesBlocked .core
     && laneOf RASTER.RES_WIN0_ID.addr a = none && laneOf LOOP.COEF_WIN0_LOOP.addr a = none && (effects.find? fun e => e.addr == a).isSome),
    (let s : State := {}; let a := CORE.READY_WAIT_DEFAULT_MS.addr; !s.isHole a && !isDoorbell a && laneOf RASTER.RES_WIN0_ID.addr a = none
     && laneOf LOOP.COEF_WIN0_LOOP.addr a = none && (effects.find? fun e => e.addr == a).isNone && (regInfo? a).isSome && limits.all fun l => l.fld.addr ≠ a),
    ((limits.filterMap fun l => (regInfo? l.fld.addr).map fun i => (l, i)).any fun p => (List.range p.1.fld.wid).all fun b => p.2.rw.testBit (p.1.fld.lo + b)),
    (let s : State := {}; let a := CORE.FAULT_LOG_SUPPRESSED.addr; !s.isHole a && a ≠ VIDIN.FRAME_WIN3_WORD.addr && (regInfo? a).isSome),
    (!({} : State).linkBegin.linkOn),
    (let s := host (st [(LINK.AGREED_STATE, 2)]); s.linkOn && s.untrained),
    (let s := host { boot := { resetting := 2 ^ 4 } }; s.linkOn && !s.untrained && s.writesBlocked .therm && s.has .therm)] : List Bool).all id = true := by decide +kernel

theorem witness_LinkTransactions :
    ([(let s : State := {}; !s.linkOn && !s.linkBegin.linkOn),
    (statusOrder ≠ [] && [LINK.ERR_ALIGN, LINK.ERR_TIMEOUT] ≠ []),
    (let s := rods [.link]; s.linkOn && !headerSync (hdr 0x21 4 0) && headerSync (hdr 0xA1 4 0) && headerCrc (hdr 0xA1 4 0)
     && !headerCrc { hdr 0xA1 4 0 with hcrc := (hdr 0xA1 4 0).hcrc + 1 } && s.rd LINK.AGREED_STATE ≠ 2 && s.rd LINK.AGREED_STATE ≠ 4
     && headerOp (hdr 0xA5 0 0) = 0 && headerOp (hdr 0xA3 0 0) = 3 && headerOp (hdr 0xA4 32 0) = 4 && (hdr 0xA1 4097 0).len.toNat = 4097
     && (hdr 0xA1 1 0x3FFFFFFF).addr.toNat + 1 ≤ 0x40000000 && (hdr 0xA2 4096 0x5FFFF000).addr.toNat + 4096 ≤ 0x60000000 && (hdr 0xA2 4 0x40000000).addr.toNat % 4 = 0
     && (hdr 0xA2 4 0x40000002).addr.toNat % 4 ≠ 0),
    (let s := st [(LINK.AGREED_STATE, 2)]; s.rd LINK.AGREED_STATE = 2),
    (let s := rods [.link]; s.linkOn && !otherOp (hdr 0xA3 0 0) 3 && s.headerErrs (hdr 0xA3 0 0) = [] && !otherOp (hdr 0x23 0 0) 3 && s.headerErrs (hdr 0x23 0 0) ≠ []),
    (let s := rods [.link]; s.linkOn && !otherOp (hdr 0xA1 4 0) 1 && s.headerErrs (hdr 0xA1 4 0) = [] && !otherOp (hdr 0xA1 0 0) 1 && s.headerErrs (hdr 0xA1 0 0) ≠ []),
    (let s := rods [.link]; s.linkOn && !otherOp (hdr 0xA2 1 0) 2 && s.headerErrs (hdr 0xA2 1 0) = [] && s.rd LINK.ACTIVE_DCRC = 0
     && !otherOp (hdr 0xA2 0 0) 2 && s.headerErrs (hdr 0xA2 0 0) ≠ []),
    (let s := rods [.link] (st [(LINK.ACTIVE_DCRC, 1)]); s.linkOn && s.headerErrs (hdr 0xA2 1 0) = [] && s.rd LINK.ACTIVE_DCRC = 1
     && crc16 (([5#8] : List (BitVec 8)).map (·.toNat)) ≠ (0#16).toNat),
    (let s : State := { sramUe := [0] }; 0x10 + 0x5FFFF0 ≤ 0x600000 && s.sramUe.all fun w => decide (0x5FFFF0 + 16 ≤ 16 * w) || decide (16 * w + 16 ≤ 16)),
    (let s : State := {}; [1, 2] ≠ ([] : List Nat) && 0x5FFFFE + 2 ≤ 0x600000 && !s.isProtected 0x5FFFFE 2 && s.sramUe = []),
    (let s := rods [.link]; s.linkOn && headerOp (hdr 0xA2 4 0) = 2 && headerOp (hdr 0xA1 4 0) = 1 && s.headerErrs (hdr 0xA1 4 0) = [] && s.headerErrs (hdr 0xA2 4 0) = []),
    (let s := rods [.link]; s.linkOn && s.headerErrs (hdr 0xA1 4096 0) = [] && (4096#16).toNat ≤ (hdr 0xA1 4096 0).len.toNat && 1 ≤ (1#16).toNat && s.rd LINK.ACTIVE_DCRC = 0),
    (let s : State := { base := .tally, wake := { entering := true } }; s.base = .tally && s.wake.entering && !s.inReset && s.bank 0),
    (let s := host (st [(LINK.AGREED_STATE, 2)]); s.linkOn && s.untrained && trainHeader (hdr 0xA4 32 0) && s.headerErrs (hdr 0xA1 4 0) ≠ [] && !trainHeader (hdr 0xA1 4 0)),
    (let s := host; let h := hdr 0xA2 2 0x5FFFFE; s.linkOn && s.headerErrs h = [] && (1#16).toNat ≤ h.len.toNat && headerOp h = 2 && s.rd LINK.ACTIVE_DCRC = 0
     && h.addr.toNat < 0x40000000 && !s.isProtected h.addr.toNat h.len.toNat),
    (let s := host (beads [] { img := { verify := .push 0 } }); let h := hdr 0xA2 2 0; s.linkOn && s.headerErrs h = [] && headerOp h = 2 && s.rd LINK.ACTIVE_DCRC = 0
     && h.addr.toNat < 0x40000000 && s.isProtected h.addr.toNat h.len.toNat)] : List Bool).all id = true := by decide +kernel

theorem witness_LinkSettings :
    ([(let s := host; takes s .link && field 0x5357 0 16 = 0x5357 && (s.wr LINK.AGREED_STATE 1).rd LINK.AGREED_STATE = 1 && s.rd LINK.AGREED_STATE ≠ 1),
    (let s := rods [.link] (st [(LINK.AGREED_STATE, 2)]); s.linkOn && !otherOp (hdr 0xA4 32 0) 4 && s.rd LINK.AGREED_STATE = 2),
    (let s := rods [.link]; s.linkOn && !otherOp (hdr 0xA4 32 0) 4 && s.rd LINK.AGREED_STATE ≠ 2 && s.rd LINK.AGREED_STATE ≠ 4 && s.headerErrs (hdr 0xA4 32 0) = []),
    (3 ≤ (widestRun 7 16).2.1 && (widestRun 3 16).2.1 < 3 && (List.range 16).all fun i => (0xFFFF : Nat).testBit (0 + i)),
    (let s := st [(LINK.TRAIN_FAILS, 3)]; 3 ≤ s.rd LINK.TRAIN_FAILS && s.rd LINK.AGREED_STATE = 0)] : List Bool).all id = true := by decide +kernel

theorem witness_MemoryAccess :
    ([(let s : State := { sramUe := [1], sramCe := [1, 2] }; 1 ∈ s.ue .sram && 2 ∉ s.ue .sram && 2 ∈ s.ce .sram && 3 ∉ s.ue .sram && 3 ∉ s.ce .sram),
    (let s : State := { flash := [(3, 0)] }; Store.wf 0xFF s.flash)] : List Bool).all id = true := by decide +kernel

theorem witness_CompletionEntry :
    ([(let s := st [(VEC.Q_CFG_DEPTH 15, 8), (VEC.Q_CQ_IDX_TAIL 15, 7), (VEC.Q_COAL_COUNT 15, 2)]; s.rd (VEC.Q_CQ_IDX_TAIL 15) < s.depth 15
     && (s.queues.getD 15 {}).count + 1 < max 1 (s.rd (VEC.Q_COAL_COUNT 15)) && max 1 (s.rd (VEC.Q_COAL_COUNT 0)) ≤ (s.queues.getD 0 {}).count + 1)] : List Bool).all id = true := by decide +kernel

theorem witness_CompletionEndsTheCommand :
    ([(let c := cmd 0 [.core]; let s := flight c; s.awake && s.cmd? 1 = some c && c.op = 0 && s.cmds.all fun d => d.abortOf ≠ some 1),
    (let c := cmd 0 [.core]; let a : Cmd := { cmd 4 [.core] with tag := 2, abortOf := some 1 }; let s : State := { cmds := [c, a] }
     (s.cmds.filter fun d => d.abortOf == some 1) = [a]),
    (let s : State := {}; s.cmd? 1 = none && s.cmds.all fun d => d.abortOf ≠ some 1),
    (let s := st [(VEC.Q_CFG_EN 15, 1), (VEC.Q_CFG_DEPTH 15, 8), (VEC.Q_CQ_IDX_TAIL 15, 7)]; 15 < s.queues.length && s.rd (VEC.Q_CFG_EN 15) = 1 && s.cqFull 15
     && s.rd (VEC.Q_CFG_EN 14) = 0),
    (let s := st [(VEC.Q_CFG_EN 15, 1), (VEC.Q_CFG_DEPTH 15, 8), (VEC.Q_CQ_IDX_TAIL 15, 6)]; 15 < s.queues.length && s.rd (VEC.Q_CFG_EN 15) = 1 && !s.cqFull 15
     && (s.queues.getD 15 {}).held = []),
    (let c := cmd 0 [.core]; let a : Cmd := { cmd 4 [.core] with tag := 2, abortOf := some 1 }
     let s := st [(VEC.Q_CFG_EN 1, 1), (VEC.Q_CFG_DEPTH 1, 8), (VEC.Q_CQ_IDX_TAIL 1, 7)] { cmds := [c, a] }; (s.cmds.filter fun d => d.abortOf == some 1) = [a]
     && (s.finish 1 0 0 0).tagsHeld.contains 1)] : List Bool).all id = true := by decide +kernel

theorem witness_FaultsAndHeld :
    ([(let s : State := { base := .cleared }; s.base = .cleared),
    (let s : State := { base := .tally }; s.base = .tally && !s.wake.waking),
    (0x0802 ∈ heldCodes && 0x0401 ∉ heldCodes && 0x0520 ∈ freeCodes && 0x0802 ∉ freeCodes),
    (let s : State := { faultLog := [(0x0401, 0)], clock := 59999999 }; (0x0401, 0) ∈ s.faultLog && s.clock < 0 + 60000000 && s.led.buf.length < appendRoom),
    (let s : State := { faultLog := [(0x0401, 0)], clock := 60000000 }; s.faultLog.all fun e => e.2 + 60000000 ≤ s.clock),
    (let s : State := {}; s.base = .run && ({ s with base := .held } : State).base = .held && notReadyCode .print 0x0601 && !notReadyCode .therm 0x0401)] : List Bool).all id = true := by decide +kernel

theorem witness_Readiness :
    ([(let s : State := {}; s.ready .core = (s.ownReady .core && s.supplied .core)),
    (let s : State := { boot := { tested := 1 } }; s.ready .core ≠ (s.ownReady .core && s.supplied .core))] : List Bool).all id = true := by decide +kernel

theorem witness_SettleFrame :
    ([(let s : State := { boot := { off := true } }; !s.awake),
    (let s : State := {}; (List.range 16).all (fun q => decide (8192 < s.cqBase q) || decide (s.cqBase q + 8192 ≤ 8192)) && settleFlds.all fun g => g.apart CORE.HB_PERIOD_PERIOD_MS)] : List Bool).all id = true := by decide +kernel

theorem witness_EveryCommand :
    ([(let s : State := { base := .held, otp := { frozen := some [1] } }; s.base = .held && s.otp.frozen = some [1] && match exec (.nop 0) s with | .next _ => true | _ => false)] : List Bool).all id = true := by decide +kernel

theorem witness_StepRunsTheFront :
    ([(let s : State := { pending := [.nop 0, .linkReset] }; s.pending = .nop 0 :: [.linkReset]),
    (let s : State := {}; s.pending = [] && !s.boot.off && s.awake && s.has .vidin),
    (let s := st [(FEED.CFG_FB_TYPE, 1)] { clock := 16000 }; s.pending = [] && s.awake && s.rd FEED.CFG_FB_TYPE ≠ 0 && s.feed.lastCount + 16000 ≤ s.clock + 1
     && -100000000 < s.led.onFrac + s.bg.corr && s.led.onFrac + s.bg.corr < 100000000)] : List Bool).all id = true := by decide +kernel

theorem witness_StepKeepsCanonical :
    ([(let s : State := { pending := [.linkReset] }; Store.wf 0 s.regs && Store.wf 0 s.sram && Store.wf 0 s.keep && Store.wf 0xFF s.flash && Store.wf 0 s.led.acc
     && Store.wf 0 s.led.base && match step s with | .next _ => true | _ => false)] : List Bool).all id = true := by decide +kernel

/-! ### Images that verify -/

/-- A PARTIAL image with one bead for FEED, signed by a key that was chosen after the signature. -/
def partialImg : List Nat :=
  [77, 66, 70, 73, 1, 0, 1, 0, 136, 1, 0, 0, 0, 0, 0, 1, 0, 0, 0, 0, 0, 0, 0, 0, 0, 0, 0, 0, 0, 0, 0, 0] ++
  [0, 0, 0, 0, 0, 0, 0, 0, 0, 0, 0, 0, 0, 0, 0, 0, 0, 0, 0, 0, 0, 0, 0, 0, 0, 0, 0, 0, 0, 0, 0, 0] ++
  [0, 0, 0, 0, 0, 0, 0, 0, 0, 0, 0, 0, 0, 0, 0, 0, 0, 0, 0, 0, 0, 0, 0, 0, 0, 0, 0, 0, 0, 0, 0, 0] ++
  [0, 0, 0, 0, 0, 0, 0, 0, 0, 0, 0, 0, 0, 0, 0, 0, 128, 1, 0, 0, 8, 0, 0, 0, 191, 215, 175, 79, 0, 0, 0, 0] ++
  [0, 0, 0, 0, 0, 0, 0, 0, 0, 0, 0, 0, 0, 0, 0, 0, 0, 0, 0, 0, 0, 0, 0, 0, 0, 0, 0, 0, 0, 0, 0, 0] ++
  [0, 0, 0, 0, 0, 0, 0, 0, 0, 0, 0, 0, 0, 0, 0, 0, 0, 0, 0, 0, 0, 0, 0, 0, 0, 0, 0, 0, 0, 0, 0, 0] ++
  [0, 0, 0, 0, 0, 0, 0, 0, 0, 0, 0, 0, 0, 0, 0, 0, 191, 215, 175, 79, 156, 97, 64, 32, 5, 120, 190, 56, 128, 176, 63, 247] ++
  [223, 181, 216, 85, 121, 188, 123, 86, 221, 181, 109, 198, 137, 170, 17, 33, 0, 0, 0, 0, 0, 0, 0, 0, 2, 0, 0, 0, 0, 0, 0, 0] ++
  [233, 26, 129, 124, 46, 27, 55, 0, 64, 218, 29, 154, 152, 119, 158, 101, 32, 55, 131, 16, 59, 150, 101, 132, 46, 99, 195, 245, 129, 38, 150, 164] ++
  [233, 26, 129, 124, 46, 27, 55, 0, 64, 218, 29, 154, 152, 119, 158, 101, 32, 55, 131, 16, 59, 150, 101, 132, 46, 99, 195, 245, 129, 38, 150, 164] ++
  [14, 204, 128, 179, 7, 111, 25, 4, 10, 211, 169, 216, 228, 210, 58, 128, 22, 255, 156, 174, 58, 247, 42, 89, 50, 25, 217, 222, 207, 161, 74, 215] ++
  [157, 240, 196, 250, 120, 176, 177, 96, 82, 51, 221, 118, 31, 121, 135, 205, 100, 232, 10, 5, 166, 244, 110, 202, 63, 13, 242, 167, 152, 186, 114, 108] ++
  [132, 8, 4, 0, 7, 7, 2, 0]

/-- OTP with the hash of its key. -/
def partialImgOtp : Otp := { vendorKey := some [15, 128, 110, 125, 174, 113, 84, 75, 61, 172, 1, 45, 147, 104, 77, 240, 251, 150, 146, 118, 225, 31, 247, 232, 244, 190, 150, 56, 122, 75, 151, 33] }

/-- A FULL image with one bead for FEED and four bytes of service firmware, signed alike. -/
def fullImg : List Nat :=
  [77, 66, 70, 73, 1, 0, 0, 0, 140, 1, 0, 0, 0, 0, 0, 1, 0, 0, 0, 0, 0, 0, 0, 0, 0, 0, 0, 0, 0, 0, 0, 0] ++
  [0, 0, 0, 0, 0, 0, 0, 0, 0, 0, 0, 0, 0, 0, 0, 0, 0, 0, 0, 0, 0, 0, 0, 0, 0, 0, 0, 0, 0, 0, 0, 0] ++
  [0, 0, 0, 0, 0, 0, 0, 0, 0, 0, 0, 0, 0, 0, 0, 0, 0, 0, 0, 0, 0, 0, 0, 0, 0, 0, 0, 0, 0, 0, 0, 0] ++
  [0, 0, 0, 0, 0, 0, 0, 0, 0, 0, 0, 0, 0, 0, 0, 0, 128, 1, 0, 0, 8, 0, 0, 0, 191, 215, 175, 79, 0, 0, 0, 0] ++
  [0, 0, 0, 0, 0, 0, 0, 0, 0, 0, 0, 0, 0, 0, 0, 0, 0, 0, 0, 0, 0, 0, 0, 0, 0, 0, 0, 0, 0, 0, 0, 0] ++
  [0, 0, 0, 0, 0, 0, 0, 0, 0, 0, 0, 0, 0, 0, 0, 0, 0, 0, 0, 0, 0, 0, 0, 0, 0, 0, 0, 0, 0, 0, 0, 0] ++
  [0, 0, 0, 0, 0, 0, 0, 0, 0, 0, 0, 0, 0, 0, 0, 0, 196, 11, 189, 71, 133, 91, 144, 156, 120, 25, 126, 123, 223, 164, 185, 133] ++
  [39, 83, 1, 112, 158, 61, 191, 232, 35, 121, 185, 36, 165, 55, 4, 82, 136, 1, 0, 0, 4, 0, 0, 0, 1, 0, 0, 0, 0, 0, 0, 0] ++
  [199, 216, 17, 79, 48, 119, 34, 33, 215, 199, 180, 222, 129, 99, 176, 59, 69, 22, 169, 200, 52, 50, 108, 124, 239, 109, 108, 58, 183, 94, 181, 146] ++
  [199, 216, 17, 79, 48, 119, 34, 33, 215, 199, 180, 222, 129, 99, 176, 59, 69, 22, 169, 200, 52, 50, 108, 124, 239, 109, 108, 58, 183, 94, 181, 146] ++
  [225, 120, 189, 26, 33, 102, 177, 178, 121, 153, 126, 250, 191, 247, 129, 148, 202, 53, 197, 154, 103, 44, 178, 236, 195, 85, 31, 251, 104, 22, 210, 47] ++
  [33, 129, 114, 68, 137, 50, 57, 83, 68, 64, 172, 172, 156, 76, 57, 168, 181, 186, 146, 219, 147, 54, 45, 243, 242, 33, 121, 233, 65, 20, 243, 173] ++
  [132, 8, 4, 0, 7, 7, 2, 0, 1, 2, 3, 4]

/-- OTP with the hash of its key. -/
def fullImgOtp : Otp := { vendorKey := some [61, 153, 43, 169, 236, 159, 59, 106, 98, 33, 194, 180, 16, 15, 225, 60, 149, 30, 141, 98, 26, 206, 163, 98, 76, 226, 118, 140, 252, 2, 122, 213] }

/-- Every step of R55 but the seal, which is a free value. -/
def stepsButSeal (n : Nat) (o : Otp) (w : Offer) (b : List Nat) : Bool :=
  stepHeader b n && stepKey o b && stepSignature b && stepRollback o b && stepTable b w && stepBody b && stepPrefix b && stepParse b &&
    stepFreeze o b

/-- An image that passes every other step passes where its seal is good. -/
theorem passes_of_seal (o : Otp) (n : Nat) (w : Offer) (b : List Nat) (h : stepsButSeal n o w b = true) (hs : stepSeal o b = true) :
    verifyImage o n w b = 0 := by
  simp only [stepsButSeal, Bool.and_eq_true] at h
  obtain ⟨⟨⟨⟨⟨⟨⟨⟨h1, h2⟩, h3⟩, h4⟩, h5⟩, h6⟩, h7⟩, h8⟩, h9⟩ := h
  simp [verifyImage, verifyHead, h1, h2, h3, h4, h5, h6, h7, h8, h9, hs]

theorem flashBytes_add (s : State) (m n a : Nat) : s.flashBytes a (m + n) = s.flashBytes a m ++ s.flashBytes (a + m) n := by
  induction m generalizing a with
  | zero => simp [State.flashBytes]
  | succ m ih =>
    rw [show m + 1 + n = (m + n) + 1 by omega, State.flashBytes, State.flashBytes, ih]
    simp [Nat.add_comm, Nat.add_left_comm]

/-- A store of bytes from address `a`, but for the value an unlisted one has. -/
def bytesFrom (d a : Nat) (l : List Nat) : Store Byte :=
  l.zipIdx.filterMap fun p => if p.1 = d then none else some (a + p.2, BitVec.ofNat 8 p.1)

/-- The FULL image in slot A, and pushed to address 0: with a good seal it passes (OtpAndImages, SlotCommands). -/
def inSlot : State :=
  { flash := bytesFrom 0xFF 0x20000 fullImg, otp := fullImgOtp, img := { verify := .slot 1 [] true } }
def pushed : State := { sram := bytesFrom 0 0 fullImg, otp := fullImgOtp, img := { verify := .push 0 } }
def behind : List Nat := inSlot.flashBytes (0x20000 + 396) (0x200000 - 396)

theorem inSlot_bytes : inSlot.slotBytes 1 = fullImg ++ behind := by
  have h : inSlot.flashBytes 0x20000 396 = fullImg := by decide +kernel
  have hs : inSlot.slotBase 1 = 0x20000 ∧ inSlot.slotSize = 396 + (0x200000 - 396) := by decide +kernel
  unfold State.slotBytes
  rw [hs.1, hs.2, flashBytes_add, h, behind]

theorem slotImg_steps : stepsButSeal 0x200000 fullImgOtp .boot (fullImg ++ behind) = true := by decide +kernel

theorem witness_OtpAndImages_slot (h : stepSeal inSlot.otp (inSlot.slotBytes 1) = true) :
    inSlot.awake = true ∧ inSlot.img.verify = .slot 1 [] true ∧ verifyImage inSlot.otp inSlot.slotSize .boot (inSlot.slotBytes 1) = 0 := by
  refine ⟨by decide +kernel, by decide +kernel, passes_of_seal _ _ _ _ ?_ h⟩
  rw [inSlot_bytes, show inSlot.slotSize = 0x200000 by decide +kernel, show inSlot.otp = fullImgOtp from rfl]
  exact slotImg_steps

theorem witness_SlotCommands_verify (h : stepSeal inSlot.otp (inSlot.slotBytes 1) = true) :
    let c := cmd 0x22 [.flash] 1
    let s := flight c (rods [.flash] inSlot)
    s.cmd? 1 = some c ∧ s.flashFree c 0x22 = true ∧ inSlot.slotStep 1 = 0 := by
  refine ⟨by decide +kernel, by decide +kernel, (witness_OtpAndImages_slot h).2.2⟩

theorem pushed_bytes : (pushed.readImage 0 (pushRegion 0) .boot).2 = fullImg := by decide +kernel

theorem pushImg_steps : stepsButSeal 0x600000 fullImgOtp .boot fullImg = true := by decide +kernel

theorem witness_OtpAndImages_push (h : stepSeal fullImgOtp fullImg = true) :
    pushed.awake = true ∧ pushed.img.verify = .push 0 ∧
      verifyImage pushed.otp (pushRegion 0) .boot (pushed.readImage 0 (pushRegion 0) .boot).2 = 0 := by
  refine ⟨by decide +kernel, by decide +kernel, ?_⟩
  rw [pushed_bytes]
  exact passes_of_seal _ _ _ _ pushImg_steps h

/-- The FULL image offered to PARTIAL_APPLY fails the PARTIAL test alone (R64); the PARTIAL one passes, and its one target is FEED. -/
theorem partialImg_passes : verifyImage partialImgOtp 0x188 .partialApply partialImg = 0 := by decide +kernel

def partialState : State := flight (cmd 0x01 [.core] 0 0x188) { sram := bytesFrom 0 0 partialImg, otp := partialImgOtp, img := { verify := .partialImg 1 } }
def partialRead : State × List Nat := ({ partialState with img := { partialState.img with verify := .none } } : State).readImage 0 0x188 .partialApply

theorem partial_bytes : partialRead.2 = partialImg := by decide +kernel

theorem witness_OtpAndImages_partial :
    partialState.awake = true ∧ partialState.img.verify = .partialImg 1 ∧
      verifyImage partialState.otp 0x188 .partialApply partialRead.2 = 0 ∧ hdrPartial partialRead.2 = true ∧
      partialState.targetsOf partialRead.2 = [.feed] ∧ partialRead.1.targetsIdle [.feed] = true ∧
      ({ partialRead.1 with cmds := [cmd 0x80 [.feed]] } : State).targetsIdle [.feed] = false := by
  rw [partial_bytes]
  refine ⟨by decide +kernel, by decide +kernel, partialImg_passes, ?_⟩
  decide +kernel

theorem witness_OtpAndImages_notPartial (h : stepSeal fullImgOtp fullImg = true) :
    verifyImage fullImgOtp 0x600000 .partialApply fullImg = 0 ∧ hdrPartial fullImg = false := by
  have hp : hdrPartial fullImg = false := by decide +kernel
  refine ⟨passes_of_seal _ _ _ _ ?_ h, hp⟩
  have hb := pushImg_steps
  simpa only [stepsButSeal, stepTable, hp, Bool.false_eq_true, if_false] using hb

end Sys2Proof.Tests
end

section
/-! PROOFS. Every command, and the passing of time, keeps each store in its canonical form. -/

namespace Sys2Proof.Machine

/-- The commands that may leave HELD: RELEASE_HELD (R532) and the causes of a device reset (R528). -/
def leavesHeld : Instr → Prop
  | .releaseHeld .. | .por .. | .vinPowerOff | .pin .. | .soft .. | .coreUv .. | .svcWdt .. => True
  | _ => False

/-- Of a command that may leave HELD nothing about staying in HELD is said. -/
theorem KeepsOut.leaving {C : Fld → Prop} {D P : Prop} {s : State} {o : Host.Outcome State Fault Refusal}
    (h : KeepsOut C D False s o) (hp : P) : KeepsOut C D (¬P) s o :=
  fun t e => (h t e).weaken (fun _ hf => hf) id fun hn => hn hp

/-- What every command keeps, from what each meaning keeps. -/
theorem exec_keeps (c : Instr) (s : State) : KeepsOut noFld False (¬leavesHeld c) s (exec c s) :=
  match c with
  | .read _ => execRead_keeps .noFld (.refl s)
  | .write _ _ _ => execWrite_keeps .noFld (.refl s)
  | .poll _ => execPoll_keeps .noFld (.refl s)
  | .train _ _ _ => execTrain_keeps .noFld (.refl s)
  | .linkReset => execLinkReset_keeps .noFld (.refl s)
  | .shortTransaction _ _ _ => execShortTransaction_keeps .noFld (.refl s)
  | .transactionTimeout _ _ _ _ => execTransactionTimeout_keeps .noFld (.refl s)
  | .hostWakePulse _ => execHostWakePulse_keeps .noFld (.refl s)
  | .linkOffer _ => execLinkOffer_keeps .noFld (.refl s)
  | .linkSwitch _ => execLinkSwitch_keeps .noFld (.refl s)
  | .queueEnable _ _ => execQueueEnable_keeps .noFld (.refl s)
  | .queueDisable _ _ => execQueueDisable_keeps .noFld (.refl s)
  | .submissionTailDoorbell _ _ => execSubmissionTailDoorbell_keeps .noFld (.refl s)
  | .completionHeadDoorbell _ _ => execCompletionHeadDoorbell_keeps .noFld (.refl s)
  | .entryFetch => execEntryFetch_keeps .noFld (.refl s)
  | .qcoalTimer _ => execQcoalTimer_keeps .noFld (.refl s)
  | .readyWaitExpiry _ => execReadyWaitExpiry_keeps .noFld (.refl s)
  | .pendingClear _ => execPendingClear_keeps .noFld (.refl s)
  | .pinmaskWrite _ _ => execPinmaskWrite_keeps .noFld (.refl s)
  | .nop _ => execNop_keeps .noFld (.refl s)
  | .partialApply _ => execPartialApply_keeps .noFld (.refl s)
  | .imageConfirm _ => execImageConfirm_keeps .noFld (.refl s)
  | .freezeCommit _ => execFreezeCommit_keeps .noFld (.refl s)
  | .abort _ => execAbort_keeps .noFld (.refl s)
  | .releaseHeld _ _ _ => (execReleaseHeld_keeps .noFld (.refl s)).leaving trivial
  | .partialApplyTimeout => execPartialApplyTimeout_keeps .noFld (.refl s)
  | .imgPush _ => execImgPush_keeps .noFld (.refl s)
  | .imageVerified => execImageVerified_keeps .noFld (.refl s)
  | .por _ => (execPor_keeps .noFld (.refl s)).leaving trivial
  | .pin => (execPin_keeps .noFld (.refl s)).leaving trivial
  | .resetCtlGo _ => execResetCtlGo_keeps .noFld (.refl s)
  | .soft _ => (execSoft_keeps .noFld (.refl s)).leaving trivial
  | .coreUv _ _ => (execCoreUv_keeps .noFld (.refl s)).leaving trivial
  | .svcWdt _ => (execSvcWdt_keeps .noFld (.refl s)).leaving trivial
  | .brakeHoldEnd => execBrakeHoldEnd_keeps .noFld (.refl s)
  | .zeroFillDone => execZeroFillDone_keeps .noFld (.refl s)
  | .rodReset _ => execRodReset_keeps .noFld (.refl s)
  | .selfTestDone _ _ => execSelfTestDone_keeps .noFld (.refl s)
  | .heartbeatKick _ => execHeartbeatKick_keeps .noFld (.refl s)
  | .hbPeriodWrite _ => execHbPeriodWrite_keeps .noFld (.refl s)
  | .hbExpired => execHbExpired_keeps .noFld (.refl s)
  | .lfxoStable => execLfxoStable_keeps .noFld (.refl s)
  | .lfxoLoss => execLfxoLoss_keeps .noFld (.refl s)
  | .lfxoRetry => execLfxoRetry_keeps .noFld (.refl s)
  | .hfxoFail => execHfxoFail_keeps .noFld (.refl s)
  | .hfxoRetry => execHfxoRetry_keeps .noFld (.refl s)
  | .clockGrant _ => execClockGrant_keeps .noFld (.refl s)
  | .clockStop _ => execClockStop_keeps .noFld (.refl s)
  | .pllvWarmWrite _ => execPllvWarmWrite_keeps .noFld (.refl s)
  | .guardTrip _ => execGuardTrip_keeps .noFld (.refl s)
  | .pllLock _ => execPllLock_keeps .noFld (.refl s)
  | .relockFail _ => execRelockFail_keeps .noFld (.refl s)
  | .dvfsPointWrite _ => execDvfsPointWrite_keeps .noFld (.refl s)
  | .modeAllowWrite _ => execModeAllowWrite_keeps .noFld (.refl s)
  | .idleHoldWrite _ => execIdleHoldWrite_keeps .noFld (.refl s)
  | .enterTally => execEnterTally_keeps .noFld (.refl s)
  | .enterCleared _ => execEnterCleared_keeps .noFld (.refl s)
  | .tallyBurst _ _ _ _ => execTallyBurst_keeps .noFld (.refl s)
  | .wakePin _ _ _ => execWakePin_keeps .noFld (.refl s)
  | .wakeTimer _ => execWakeTimer_keeps .noFld (.refl s)
  | .vinComparator _ => execVinComparator_keeps .noFld (.refl s)
  | .tallyExitDone => execTallyExitDone_keeps .noFld (.refl s)
  | .vcoreTgtWrite _ => execVcoreTgtWrite_keeps .noFld (.refl s)
  | .vhTgtWrite _ => execVhTgtWrite_keeps .noFld (.refl s)
  | .vhCtlWrite _ => execVhCtlWrite_keeps .noFld (.refl s)
  | .vinFloorWrite _ => execVinFloorWrite_keeps .noFld (.refl s)
  | .vinCritWrite _ => execVinCritWrite_keeps .noFld (.refl s)
  | .vmCeilWrite _ => execVmCeilWrite_keeps .noFld (.refl s)
  | .vmDumpWrite _ => execVmDumpWrite_keeps .noFld (.refl s)
  | .vcoreSettled _ => execVcoreSettled_keeps .noFld (.refl s)
  | .vhSettled => execVhSettled_keeps .noFld (.refl s)
  | .vhDischarged => execVhDischarged_keeps .noFld (.refl s)
  | .vinFloor => execVinFloor_keeps .noFld (.refl s)
  | .vinCrit => execVinCrit_keeps .noFld (.refl s)
  | .vmCeil => execVmCeil_keeps .noFld (.refl s)
  | .vmCeilClear => execVmCeilClear_keeps .noFld (.refl s)
  | .vmDump => execVmDump_keeps .noFld (.refl s)
  | .dumpRelease => execDumpRelease_keeps .noFld (.refl s)
  | .vmTrip _ => execVmTrip_keeps .noFld (.refl s)
  | .dumpOverrun _ => execDumpOverrun_keeps .noFld (.refl s)
  | .vhOvp _ => execVhOvp_keeps .noFld (.refl s)
  | .vhOcp _ => execVhOcp_keeps .noFld (.refl s)
  | .vhSettle _ => execVhSettle_keeps .noFld (.refl s)
  | .supplyMeas _ _ => execSupplyMeas_keeps .noFld (.refl s)
  | .scrubPass => execScrubPass_keeps .noFld (.refl s)
  | .scrubNow => execScrubNow_keeps .noFld (.refl s)
  | .calNow => execCalNow_keeps .noFld (.refl s)
  | .headchkNow => execHeadchkNow_keeps .noFld (.refl s)
  | .keepRamScrub => execKeepRamScrub_keeps .noFld (.refl s)
  | .frcCalibration _ => execFrcCalibration_keeps .noFld (.refl s)
  | .adcCalibration _ => execAdcCalibration_keeps .noFld (.refl s)
  | .headRecheck => execHeadRecheck_keeps .noFld (.refl s)
  | .headRecheckDone _ _ => execHeadRecheckDone_keeps .noFld (.refl s)
  | .ledgerCompaction => execLedgerCompaction_keeps .noFld (.refl s)
  | .telemetrySample _ _ => execTelemetrySample_keeps .noFld (.refl s)
  | .floorGrant => execFloorGrant_keeps .noFld (.refl s)
  | .monitorSample _ => execMonitorSample_keeps .noFld (.refl s)
  | .dieOvertemp _ => execDieOvertemp_keeps .noFld (.refl s)
  | .pauseTimeout => execPauseTimeout_keeps .noFld (.refl s)
  | .sample _ _ => execSample_keeps .noFld (.refl s)
  | .flashNegotiation _ => execFlashNegotiation_keeps .noFld (.refl s)
  | .slotErase _ => execSlotErase_keeps .noFld (.refl s)
  | .slotWrite _ => execSlotWrite_keeps .noFld (.refl s)
  | .slotVerify _ => execSlotVerify_keeps .noFld (.refl s)
  | .slotSwitch _ => execSlotSwitch_keeps .noFld (.refl s)
  | .readToSram _ => execReadToSram_keeps .noFld (.refl s)
  | .sectorEraseDone => execSectorEraseDone_keeps .noFld (.refl s)
  | .pageProgramDone _ => execPageProgramDone_keeps .noFld (.refl s)
  | .storeScan => execStoreScan_keeps .noFld (.refl s)
  | .readCounters _ => execReadCounters_keeps .noFld (.refl s)
  | .commitNow _ => execCommitNow_keeps .noFld (.refl s)
  | .exportRecords _ => execExportRecords_keeps .noFld (.refl s)
  | .deltaCommit => execDeltaCommit_keeps .noFld (.refl s)
  | .ledgerCommit => execLedgerCommit_keeps .noFld (.refl s)
  | .move _ => execMove_keeps .noFld (.refl s)
  | .go _ _ => execGo_keeps .noFld (.refl s)
  | .stop _ _ => execStop_keeps .noFld (.refl s)
  | .clear _ _ => execClear_keeps .noFld (.refl s)
  | .append _ => execAppend_keeps .noFld (.refl s)
  | .descriptorEnd _ => execDescriptorEnd_keeps .noFld (.refl s)
  | .receipt _ => execReceipt_keeps .noFld (.refl s)
  | .headProbe _ _ => execHeadProbe_keeps .noFld (.refl s)
  | .dryHead _ => execDryHead_keeps .noFld (.refl s)
  | .checkPass => execCheckPass_keeps .noFld (.refl s)
  | .bandCommit => execBandCommit_keeps .noFld (.refl s)
  | .lineTimer _ => execLineTimer_keeps .noFld (.refl s)
  | .shiftEnd => execShiftEnd_keeps .noFld (.refl s)
  | .sliceEnd => execSliceEnd_keeps .noFld (.refl s)
  | .passEnd _ => execPassEnd_keeps .noFld (.refl s)
  | .strobeFault _ => execStrobeFault_keeps .noFld (.refl s)
  | .leakageMeasured _ => execLeakageMeasured_keeps .noFld (.refl s)
  | .dryPulse _ => execDryPulse_keeps .noFld (.refl s)
  | .dryMeasure _ => execDryMeasure_keeps .noFld (.refl s)
  | .wetHead _ => execWetHead_keeps .noFld (.refl s)
  | .resRegister _ => execResRegister_keeps .noFld (.refl s)
  | .resRemove _ => execResRemove_keeps .noFld (.refl s)
  | .registrationDone => execRegistrationDone_keeps .noFld (.refl s)
  | .movePaper _ => execMovePaper_keeps .noFld (.refl s)
  | .motorCheck _ _ => execMotorCheck_keeps .noFld (.refl s)
  | .encoderCount _ _ _ _ => execEncoderCount_keeps .noFld (.refl s)
  | .index => execIndex_keeps .noFld (.refl s)
  | .serialRead _ _ => execSerialRead_keeps .noFld (.refl s)
  | .hallEdge _ _ => execHallEdge_keeps .noFld (.refl s)
  | .hallInvalid => execHallInvalid_keeps .noFld (.refl s)
  | .feedbackLoss => execFeedbackLoss_keeps .noFld (.refl s)
  | .atRest => execAtRest_keeps .noFld (.refl s)
  | .holdEnd => execHoldEnd_keeps .noFld (.refl s)
  | .revDwellEnd => execRevDwellEnd_keeps .noFld (.refl s)
  | .sensorChange _ _ => execSensorChange_keeps .noFld (.refl s)
  | .auxOn _ => execAuxOn_keeps .noFld (.refl s)
  | .auxOff _ => execAuxOff_keeps .noFld (.refl s)
  | .auxPullEnd => execAuxPullEnd_keeps .noFld (.refl s)
  | .auxRelease => execAuxRelease_keeps .noFld (.refl s)
  | .bridgeOcp _ => execBridgeOcp_keeps .noFld (.refl s)
  | .heldBrakeEnd => execHeldBrakeEnd_keeps .noFld (.refl s)
  | .loopSample _ _ => execLoopSample_keeps .noFld (.refl s)
  | .loopOutput _ => execLoopOutput_keeps .noFld (.refl s)
  | .coefCommit _ => execCoefCommit_keeps .noFld (.refl s)
  | .apply _ => execApply_keeps .noFld (.refl s)
  | .cut _ => execCut_keeps .noFld (.refl s)
  | .home _ => execHome_keeps .noFld (.refl s)
  | .cutSwitch _ _ => execCutSwitch_keeps .noFld (.refl s)
  | .switchConflict => execSwitchConflict_keeps .noFld (.refl s)
  | .jam => execJam_keeps .noFld (.refl s)
  | .cutBrakeEnd => execCutBrakeEnd_keeps .noFld (.refl s)
  | .partialMsEnd => execPartialMsEnd_keeps .noFld (.refl s)
  | .homeTimeout => execHomeTimeout_keeps .noFld (.refl s)
  | .cutTimingWrite _ => execCutTimingWrite_keeps .noFld (.refl s)
  | .captureStart _ => execCaptureStart_keeps .noFld (.refl s)
  | .captureStop _ => execCaptureStop_keeps .noFld (.refl s)
  | .renegotiate _ => execRenegotiate_keeps .noFld (.refl s)
  | .frameStart => execFrameStart_keeps .noFld (.refl s)
  | .frameEnd _ _ => execFrameEnd_keeps .noFld (.refl s)
  | .csiLink => execCsiLink_keeps .noFld (.refl s)
  | .negotiationRetry _ => execNegotiationRetry_keeps .noFld (.refl s)
  | .camSleep => execCamSleep_keeps .noFld (.refl s)
  | .hostHoldRelease _ => execHostHoldRelease_keeps .noFld (.refl s)
  | .frameRecordPop => execFrameRecordPop_keeps .noFld (.refl s)
  | .exposureWrite _ => execExposureWrite_keeps .noFld (.refl s)
  | .scan _ => execScan_keeps .noFld (.refl s)
  | .scanFrameDone _ => execScanFrameDone_keeps .noFld (.refl s)
  | .scanTimeLimit => execScanTimeLimit_keeps .noFld (.refl s)
  | .encStreamOpen _ => execEncStreamOpen_keeps .noFld (.refl s)
  | .encStreamClose _ => execEncStreamClose_keeps .noFld (.refl s)
  | .sliceBuf _ => execSliceBuf_keeps .noFld (.refl s)
  | .refresh _ => execRefresh_keeps .noFld (.refl s)
  | .sliceDone _ => execSliceDone_keeps .noFld (.refl s)
  | .rateWrite _ => execRateWrite_keeps .noFld (.refl s)
  | .decStreamOpen _ => execDecStreamOpen_keeps .noFld (.refl s)
  | .decodeAu _ => execDecodeAu_keeps .noFld (.refl s)
  | .decStreamClose _ => execDecStreamClose_keeps .noFld (.refl s)
  | .auDecoded _ => execAuDecoded_keeps .noFld (.refl s)
  | .picHoldRelease _ => execPicHoldRelease_keeps .noFld (.refl s)
  | .accelSample _ _ => execAccelSample_keeps .noFld (.refl s)
  | .accelRetry _ => execAccelRetry_keeps .noFld (.refl s)
  | .vioRise _ => execVioRise_keeps .noFld (.refl s)
  | .vioClassSelect _ _ => execVioClassSelect_keeps .noFld (.refl s)
  | .vioFall _ => execVioFall_keeps .noFld (.refl s)
  | .registerWrite _ _ => execRegisterWrite_keeps .noFld (.refl s)
  | .vinPowerOff => (execVinPowerOff_keeps .noFld (.refl s)).leaving trivial
  | .resetNRelease _ => execResetNRelease_keeps .noFld (.refl s)
  | .eraseTimeExceeded => execEraseTimeExceeded_keeps .noFld (.refl s)
  | .microstep _ => execMicrostep_keeps .noFld (.refl s)
  | .commutationAdvance => execCommutationAdvance_keeps .noFld (.refl s)

/-- A canonical state stays canonical over a step. -/
theorem step_keeps_canonical {s t : State} (hs : Safety.canonical s) (h : step s = .next t) : Safety.canonical t := by
  unfold step at h
  split at h
  case h_1 =>
    obtain rfl := Host.Outcome.next.inj h
    exact (State.tick_keeps (H := False) .noFld).canon hs
  case h_2 c rest _ => exact (exec_keeps c { s with pending := rest } t h).canon hs

/-- Settles O58: what the front command keeps, and with none waiting what the tick keeps, includes the canonical form. -/
theorem stepKeepsCanonical : Obligations.StepKeepsCanonical := fun _ _ => step_keeps_canonical

end Sys2Proof.Machine
end

section
/-! PROOFS. Single bits of registers, and the vectors, their masks and their pins. -/

namespace Sys2Proof.Machine

/-! ### Single bits of registers and fields -/

/-- Taking the common bits of `p` and `w` away from `p` clears the bits of `w`. -/
theorem testBit_sub_and (p w i : Nat) : (p - (p &&& w)).testBit i = (p.testBit i && !w.testBit i) := by
  have hle (p w : Nat) : p &&& w ≤ p := Nat.and_le_left
  have hodd (p w : Nat) : (p &&& w) % 2 = 1 ↔ p % 2 = 1 ∧ w % 2 = 1 := Nat.and_mod_two_eq_one
  induction i generalizing p w with
  | zero => grind
  | succ i ih =>
    have hdiv : (p - (p &&& w)) / 2 = p / 2 - (p / 2 &&& w / 2) := by grind [Nat.and_div_two]
    simp only [Nat.testBit_succ, hdiv, ih]

/-- A bit of a field after a write of the field. -/
theorem rdBit_wr (s : State) (f : Fld) (v i : Nat) (h : f.lo + f.wid ≤ 32 := by decide) :
    (s.wr f v).rdBit f i = (decide (i < f.wid) && v.testBit i) := by
  rw [State.rdBit, State.rd_wr _ _ _ h, Nat.testBit_mod_two_pow]

/-- A field has no bit beyond its width. -/
theorem rdBit_lt (s : State) (f : Fld) (i : Nat) : s.rdBit f i = (decide (i < f.wid) && s.rdBit f i) := by
  rw [State.rdBit, ← Nat.testBit_mod_two_pow, Nat.mod_eq_of_lt (State.rd_lt s f)]

/-- A bit of a field after one of its bits was set. -/
theorem rdBit_wrBit_true (s : State) (f : Fld) {v : Nat} (u : Nat) (hv : v < f.wid) (h : f.lo + f.wid ≤ 32 := by decide) :
    (s.wrBit f v true).rdBit f u = (s.rdBit f u || decide (u = v)) := by
  rw [State.wrBit, if_pos rfl, rdBit_wr _ _ _ _ h, Nat.testBit_or, Nat.testBit_two_pow, ← State.rdBit, Bool.and_or_distrib_left, ← rdBit_lt]
  grind

/-! ### Vectors -/

/-- R218: the bits written as 1 are cleared, and the others stay. -/
theorem rdBit_writePending (s : State) (w : Word) (v : Nat) :
    (s.writePending w).rdBit VEC.PENDING_PENDING v = (s.rdBit VEC.PENDING_PENDING v && !w.toNat.testBit v) := by
  rw [State.writePending, rdBit_wr _ VEC.PENDING_PENDING, testBit_sub_and, ← Bool.and_assoc, ← State.rdBit, ← rdBit_lt]

/-- R220: the mask register holds the word written. -/
theorem rd_writePinmask (s : State) (k : Nat) (w : Word) : (s.writePinmask k w).rd (pinmask k) = w.toNat :=
  (State.rd_wr s (pinmask k) w.toNat (Nat.le_refl 32)).trans (Nat.mod_eq_of_lt w.isLt)

/-- R220: with the bank HL supplied, the four pins show the pending vectors that their masks let through. -/
theorem irqPins_testBit {s : State} (ha : s.awake = true) (hb : s.bank 0 = true) (k : Fin 4) :
    s.irqPins.testBit k = (s.rd VEC.PENDING_PENDING &&& s.rd (pinmask k) != 0) := by
  have hbits : ∀ (a b c d : Bool) (k : Fin 4),
      (bit a + 2 * bit b + 4 * bit c + 8 * bit d).testBit k = [a, b, c, d].get k := by decide
  simp only [State.irqPins, ha, hb, Bool.and_self, if_true, hbits]
  fin_cases k <;> rfl

/-- R4, R218: the bits of VEC.PENDING after an event on vector `v`. -/
theorem rdBit_vec (s : State) {v : Nat} (hv : v < 32) (u : Nat) : (s.vec v).rdBit VEC.PENDING_PENDING u =
    (s.rdBit VEC.PENDING_PENDING u ||
      (decide (u = v) && s.rdBit VEC.ENABLE_ENABLE v && !(s.part == .ap && 27 ≤ v && v ≤ 30))) := by
  rw [State.vec, Bool.and_assoc (decide (u = v))]
  generalize (s.rdBit VEC.ENABLE_ENABLE v && !(s.part == .ap && 27 ≤ v && v ≤ 30)) = taken
  cases taken
  case false => simp
  case true => simpa using rdBit_wrBit_true s VEC.PENDING_PENDING u hv

/-- Settles O3: a host write of VEC reaches its register after the idle count, and each clause is one rule of the vectors. -/
theorem vectors : Obligations.Vectors := by
  refine ⟨⟨fun w s hs => ?_, fun k w s hs => ?_, fun k s ha hb => irqPins_testBit ha hb k⟩, fun s v hv => ?_⟩
  · exact ⟨_, congrArg Host.Outcome.next (hostReg_takes hs fun s => s.writePending w), rdBit_writePending s.idleRestart w, only_wr (only_refl _ _)⟩
  · exact ⟨_, congrArg Host.Outcome.next (hostReg_takes hs fun s => s.writePinmask k w), rd_writePinmask _ _ _, only_wr (only_refl _ _)⟩
  · exact ⟨only_vec (only_refl _ s), rdBit_vec s hv⟩

end Sys2Proof.Machine
end

section
/-! PROOFS. Register space word by word: what a host write and a full read of each kind of register does. -/

namespace Sys2Proof.Machine

/-! ### Who takes a write that is a command of its own (R160, R174, R188) -/

theorem hostReg_silent {s : State} (h : s.linkBegin.linkOn = false) (r : Rod) (f : State → State) :
    s.hostReg r f = s.linkBegin := by
  simp [State.hostReg, h]

theorem hostReg_untrained {s : State} (hl : s.linkOn = true) (hu : s.untrained = true) (r : Rod) (f : State → State) :
    s.hostReg r f = s.idleRestart.linkErr LINK.ERR_UNTRAINED := by
  have hl' : s.idleRestart.linkOn = true := hl
  have hu' : s.idleRestart.untrained = true := hu
  simp [State.hostReg, linkBegin_of_on hl, hl', hu']

theorem hostReg_refused {s : State} {r : Rod} (hl : s.linkOn = true) (hu : s.untrained = false)
    (hr : s.has r = false ∨ s.writesBlocked r = true) (f : State → State) : s.hostReg r f = s.idleRestart := by
  have hl' : s.idleRestart.linkOn = true := hl
  have hu' : s.idleRestart.untrained = false := hu
  have hr' : s.idleRestart.has r = false ∨ s.idleRestart.writesBlocked r = true := hr
  simp [State.hostReg, linkBegin_of_on hl, hl', hu', hr']

/-! ### Which word takes a write (R181 to R188) -/

theorem execRegisterWrite_takes {s : State} {a : BitVec 32} (hs : Safety.takes s .core) (ha : a.toNat % 4 = 0)
    (hlo : 0x40000000 ≤ a.toNat) (hhi : a.toNat < 0x60000000) (w : BitVec 32) :
    execRegisterWrite a w s = .next (s.idleRestart.writeWordAt a.toNat w).1.settle := by
  simp only [execRegisterWrite, ha, hlo, hhi, hostReg_takes hs, State.hostWrite]
  rfl

theorem execRegisterWrite_outside {a : BitVec 32} (h : a.toNat % 4 ≠ 0 ∨ a.toNat < 0x40000000 ∨ 0x60000000 ≤ a.toNat)
    (w : BitVec 32) (s : State) : execRegisterWrite a w s = .next s :=
  if_neg (by simp only [Bool.and_eq_true, decide_eq_true_eq, beq_iff_eq]; omega)

theorem writeWordAt_blocked {s : State} {a : Nat} {r : Rod} (hh : s.isHole a = false) (hd : isDoorbell a = false)
    (hr : blockRod? a = some r) (hb : s.writesBlocked r = true) (w : Word) : s.writeWordAt a w = (s, stBusy) := by
  simp [State.writeWordAt, hh, hd, hr, hb]

/-- A word that is no hole, no doorbell and no lane of a window, in the block of no rod that refuses writes, is written by its
register. -/
theorem writeWordAt_register {s : State} {a : Nat} (hh : s.isHole a = false) (hd : isDoorbell a = false)
    (hb : ∀ r : Rod, blockRod? a = some r → s.writesBlocked r = false) (hres : laneOf RASTER.RES_WIN0_ID.addr a = none)
    (hcoef : laneOf LOOP.COEF_WIN0_LOOP.addr a = none) (w : Word) :
    (∀ e : Effect, effects.find? (fun e => e.addr == a) = some e → s.writeWordAt a w = (e.act s w, stOK)) ∧
    ∀ i : RegInfo, effects.find? (fun e => e.addr == a) = none → regInfo? a = some i →
      s.writeWordAt a w = (s.plainWrite i w, stOK) := by
  have hfree : ((blockRod? a).map s.writesBlocked).getD false = false := by
    cases hr : blockRod? a with
    | none => rfl
    | some r => exact hb r hr
  constructor
  · intro e he
    simp [State.writeWordAt, hh, hd, hfree, hres, hcoef, he]
  · intro i he hi
    simp [State.writeWordAt, hh, hd, hfree, hres, hcoef, he, hi]

/-! ### A change of one register -/

/-- Nothing differs between `s` and `t` but the register at `a`. -/
def OnlyReg (a : Nat) (s t : State) : Prop := t = { s with regs := t.regs } ∧ ∀ b : Nat, b ≠ a → t.reg b = s.reg b

theorem OnlyReg.refl (a : Nat) (s : State) : OnlyReg a s s := ⟨rfl, fun _ _ => rfl⟩

theorem OnlyReg.setReg {a : Nat} {s t : State} (h : OnlyReg a s t) (w : Word) : OnlyReg a s (t.setReg a w) :=
  ⟨by rw [State.setReg, h.1], fun b hb => by rw [State.reg_setReg, if_neg hb.symm, h.2 b hb]⟩

/-! ### Ranges (R567) -/

/-- A range that its field can hold: its limits are in order, and the upper one fits. -/
def Limit.fits (l : Limit) : Bool := l.fld.lo + l.fld.wid ≤ 32 && l.lo ≤ l.hi && l.hi < 2 ^ l.fld.wid

theorem Limit.fits_iff {l : Limit} : l.fits = true ↔ l.fld.lo + l.fld.wid ≤ 32 ∧ l.lo ≤ l.hi ∧ l.hi < 2 ^ l.fld.wid := by
  simp only [Limit.fits, Bool.and_eq_true, decide_eq_true_eq, and_assoc]

theorem limits_fit : ∀ l ∈ limits, l.fits = true := by decide +kernel

/-- No two fields with a range share a bit. -/
theorem limits_apart : limits.Pairwise fun l m => l.fld.apart m.fld = true ∧ m.fld.apart l.fld = true := by decide +kernel

/-- A field held to its range. -/
def State.hold (s : State) (l : Limit) : State := s.wr l.fld (clampNat l.lo l.hi (s.rd l.fld))

theorem limit_eq_foldl_hold (s : State) (a : Nat) :
    s.limit a = (limits.filter fun l => l.fld.addr == a).foldl State.hold s := rfl

theorem rd_hold (s : State) {l : Limit} (hl : l.fits = true) : (s.hold l).rd l.fld = clampNat l.lo l.hi (s.rd l.fld) := by
  obtain ⟨hw, hle, hlt⟩ := Limit.fits_iff.mp hl
  rw [State.hold, State.rd_wr _ _ _ hw, Nat.mod_eq_of_lt]
  unfold clampNat
  omega

theorem rd_hold_apart (s : State) {l : Limit} {f : Fld} (h : l.fld.apart f = true) : (s.hold l).rd f = s.rd f :=
  State.rd_wr_apart _ _ _ _ h

theorem rd_foldl_hold_apart {f : Fld} {ls : List Limit} (h : ∀ m ∈ ls, m.fld.apart f = true) (s : State) :
    (ls.foldl State.hold s).rd f = s.rd f := by
  induction ls generalizing s with
  | nil => rfl
  | cons m ls ih =>
    obtain ⟨hm, hls⟩ := List.forall_mem_cons.mp h
    exact (ih hls _).trans (rd_hold_apart s hm)

theorem rd_foldl_hold {l : Limit} {ls : List Limit} (hl : l ∈ ls) (hfit : ∀ m ∈ ls, m.fits = true)
    (hap : ls.Pairwise fun l m => l.fld.apart m.fld = true ∧ m.fld.apart l.fld = true) (s : State) :
    (ls.foldl State.hold s).rd l.fld = clampNat l.lo l.hi (s.rd l.fld) := by
  induction ls generalizing s with
  | nil => exact absurd hl List.not_mem_nil
  | cons m ls ih =>
    obtain ⟨hm, hls⟩ := List.pairwise_cons.mp hap
    obtain ⟨hfm, hfls⟩ := List.forall_mem_cons.mp hfit
    rw [List.foldl_cons]
    rcases List.mem_cons.mp hl with rfl | hmem
    · rw [rd_foldl_hold_apart fun k hk => (hm k hk).2, rd_hold s hfm]
    · rw [ih hmem hfls hls, rd_hold_apart s (hm l hmem).1]

/-- A field with a range holds the nearest limit. -/
theorem rd_limit {l : Limit} (hl : l ∈ limits) {a : Nat} (ha : l.fld.addr = a) (s : State) :
    (s.limit a).rd l.fld = clampNat l.lo l.hi (s.rd l.fld) :=
  rd_foldl_hold (ls := limits.filter fun l => l.fld.addr == a) (List.mem_filter.mpr ⟨hl, beq_iff_eq.mpr ha⟩)
    (fun m hm => limits_fit m (List.mem_filter.mp hm).1) (limits_apart.filter _) s

theorem limit_of_no_range {a : Nat} (h : ∀ l ∈ limits, l.fld.addr ≠ a) (s : State) : s.limit a = s := by
  rw [limit_eq_foldl_hold, List.filter_eq_nil_iff.mpr fun l hl => by simpa using h l hl]
  rfl

theorem OnlyReg.limit {a : Nat} {s t : State} (h : OnlyReg a s t) : OnlyReg a s (t.limit a) := by
  rw [limit_eq_foldl_hold]
  refine List.foldlRecOn _ _ h fun u hu l hl => ?_
  obtain rfl : l.fld.addr = a := beq_iff_eq.mp (List.mem_filter.mp hl).2
  exact hu.setReg _

/-! ### Type codes (R10, R11) -/

/-- The word that a register holds after a write of `w`, by the type codes of its bits alone. -/
def RegInfo.merge (i : RegInfo) (old w : Word) : Word :=
  (old &&& ~~~BitVec.ofNat 32 i.rw &&& ~~~(w &&& BitVec.ofNat 32 i.w1c)) ||| (w &&& BitVec.ofNat 32 i.rw)

theorem plainWrite_eq (s : State) (i : RegInfo) (w : Word) :
    s.plainWrite i w = (s.setReg i.addr (i.merge (s.reg i.addr) w)).limit i.addr := rfl

theorem getLsbD_merge (i : RegInfo) (old w : Word) {b : Nat} (hb : b < 32) : (i.merge old w).getLsbD b =
    if i.rw.testBit b then w.getLsbD b else old.getLsbD b && !(i.w1c.testBit b && w.getLsbD b) := by
  simp only [RegInfo.merge, BitVec.getLsbD_or, BitVec.getLsbD_and, BitVec.getLsbD_not, BitVec.getLsbD_ofNat, hb, decide_true,
    Bool.true_and]
  cases i.rw.testBit b <;> simp [Bool.and_comm]

/-- A field whose every bit is RW takes the written value. -/
theorem field_merge (i : RegInfo) (old w : Word) {lo wid : Nat} (hw : lo + wid ≤ 32)
    (hrw : ∀ b : Nat, b < wid → i.rw.testBit (lo + b) = true) : field (i.merge old w) lo wid = field w lo wid := by
  refine Nat.eq_of_testBit_eq fun b => ?_
  rw [field_testBit, field_testBit]
  by_cases hb : b < wid
  · have h := getLsbD_merge i old w (b := lo + b) (by omega)
    rw [if_pos (hrw b hb)] at h
    exact congrArg _ h
  · simp [hb]

theorem clampNat_mem {lo hi : Nat} (h : lo ≤ hi) (v : Nat) : lo ≤ clampNat lo hi v ∧ clampNat lo hi v ≤ hi := by
  unfold clampNat
  omega

/-- A field with a range lies in it after a write, and where all its bits are RW it holds the limit nearest to the written value. -/
theorem rd_plainWrite {l : Limit} (hl : l ∈ limits) {i : RegInfo} (hi : l.fld.addr = i.addr) (s : State) (w : Word) :
    (l.lo ≤ (s.plainWrite i w).rd l.fld ∧ (s.plainWrite i w).rd l.fld ≤ l.hi) ∧
    ((∀ b : Nat, b < l.fld.wid → i.rw.testBit (l.fld.lo + b) = true) →
      (s.plainWrite i w).rd l.fld = clampNat l.lo l.hi (field w l.fld.lo l.fld.wid)) := by
  obtain ⟨hw, hle, -⟩ := Limit.fits_iff.mp (limits_fit l hl)
  have hrd : (s.plainWrite i w).rd l.fld = clampNat l.lo l.hi (field (i.merge (s.reg i.addr) w) l.fld.lo l.fld.wid) := by
    rw [plainWrite_eq, rd_limit hl hi, State.rd, hi, State.reg_setReg, if_pos rfl]
  rw [hrd]
  exact ⟨clampNat_mem hle _, fun hrw => by rw [field_merge i _ w hw hrw]⟩

theorem reg_plainWrite {i : RegInfo} (h : ∀ l ∈ limits, l.fld.addr ≠ i.addr) (s : State) (w : Word) :
    (s.plainWrite i w).reg i.addr = i.merge (s.reg i.addr) w := by
  rw [plainWrite_eq, limit_of_no_range h, State.reg_setReg, if_pos rfl]

theorem OnlyReg.plainWrite (s : State) (i : RegInfo) (w : Word) : OnlyReg i.addr s (s.plainWrite i w) :=
  ((OnlyReg.refl i.addr s).setReg _).limit

/-! ### Full reads (R10, R186) -/

/-- A full read of a register clears its RC bits. -/
theorem readEffect_eq {s : State} {a : Nat} {i : RegInfo} (hh : s.isHole a = false) (hw : a ≠ VIDIN.FRAME_WIN3_WORD.addr)
    (hi : regInfo? a = some i) :
    s.readEffect a = if i.rc == 0 then s else s.setReg a (s.reg a &&& ~~~BitVec.ofNat 32 i.rc) := by
  simp only [State.readEffect, hh, beq_false_of_ne hw, hi, Bool.false_eq_true, if_false]

theorem getLsbD_readEffect {s : State} {a : Nat} {i : RegInfo} (hh : s.isHole a = false)
    (hw : a ≠ VIDIN.FRAME_WIN3_WORD.addr) (hi : regInfo? a = some i) {b : Nat} (hb : b < 32) :
    ((s.readEffect a).reg a).getLsbD b = ((s.reg a).getLsbD b && !i.rc.testBit b) := by
  rw [readEffect_eq hh hw hi]
  split
  next h => simp [beq_iff_eq.mp h]
  next => simp only [State.reg_setReg, if_true, BitVec.getLsbD_and, BitVec.getLsbD_not, BitVec.getLsbD_ofNat, hb, decide_true,
    Bool.true_and]

theorem OnlyReg.readEffect {s : State} {a : Nat} {i : RegInfo} (hh : s.isHole a = false)
    (hw : a ≠ VIDIN.FRAME_WIN3_WORD.addr) (hi : regInfo? a = some i) : OnlyReg a s (s.readEffect a) := by
  rw [readEffect_eq hh hw hi]
  split
  · exact .refl a s
  · exact (OnlyReg.refl a s).setReg _

/-- Settles O48: who takes a write, what a word does with it by its kind, and what a full read leaves. The arrow of the range
clause takes the two bounds before it in as premises; they are not needed, and `rd_plainWrite` proves them. -/
theorem registerSpace : Obligations.RegisterSpace := by
  refine ⟨fun s r f => ⟨fun h => hostReg_takes h f, fun h => hostReg_silent h r f, fun hl hu => hostReg_untrained hl hu r f,
      fun hl hu hr => hostReg_refused hl hu hr f⟩,
    fun a w s => ⟨fun hs ha hlo hhi => execRegisterWrite_takes hs ha hlo hhi w, fun h => execRegisterWrite_outside h w s⟩,
    fun s a w hh => ?hole, fun s a w r hh hd hr hb => writeWordAt_blocked hh hd hr hb w,
    fun s a w hh hd hb hres hcoef => writeWordAt_register hh hd hb hres hcoef w, fun s i w => ?plain,
    fun s a i hh hw hi => ⟨fun b hb => getLsbD_readEffect hh hw hi hb, OnlyReg.readEffect hh hw hi⟩⟩
  case hole => simp [State.writeWordAt, State.readWord, State.readEffect, hh]
  case plain =>
    refine ⟨fun l hl hi ⟨_, _, hrw⟩ => (rd_plainWrite hl hi s w).2 hrw, fun h b hb => ?_, OnlyReg.plainWrite s i w⟩
    rw [reg_plainWrite h, getLsbD_merge _ _ _ hb]

end Sys2Proof.Machine
end

section
/-! PROOFS. Readiness: what bringing it into step leaves alone, and how the bit of one rod follows its conditions. -/

namespace Sys2Proof.Machine

/-! ### The frame of `settle` -/

/-- What `settle` keeps of every field that it is not said to write. -/
theorem settle_keeps_clear (s : State) : Keeps (fun f => settleClear f = true) True False s s.settle :=
  State.settle_keeps (fun _ h => h) (.refl s)

theorem settleClear_cqBase (q : Nat) : settleClear (VEC.Q_CQ_BASE_ADDR q) = true := by
  have h : ∀ i : Nat, i < 16 → settleClear (VEC.Q_CQ_BASE_ADDR i) = true := by decide +kernel
  simpa [VEC.Q_CQ_BASE_ADDR] using h (q % 16) (Nat.mod_lt _ (by decide))

theorem settleClear_bandBank (i : Nat) : settleClear (bandBank i) = true := by
  have h : ∀ i : Nat, i < 3 → settleClear (bandBank i) = true := by decide +kernel
  simpa [bandBank] using h (i % 3) (Nat.mod_lt _ (by decide))

theorem settle_of_not_awake {s : State} (h : s.awake = false) : s.settle = s := by simp [State.settle, h]

theorem byte_sram_settle (s : State) {a : Nat} (hr : ∀ q : Nat, q < 16 → a < s.cqBase q ∨ s.cqBase q + 8192 ≤ a)
    (hb : ∀ i : Nat, i < 3 → a < s.rd (bandBank i) * bankSize ∨ s.rd (bandBank i) * bankSize + bankSize ≤ a) :
    s.settle.byte .sram a = s.byte .sram a := by
  refine (settle_keeps_clear s).mem trivial .sram a fun touch => ?_
  rcases touch settleClear_cqBase settleClear_bandBank with ⟨q, hq, hlo, hhi⟩ | ⟨i, hi, hlo, hhi⟩
  · exact (hr q hq).elim (by omega) (by omega)
  · exact (hb i hi).elim (by omega) (by omega)

theorem byte_keep_settle (s : State) {a : Nat} (h : a < 0x100 ∨ 0x120 ≤ a) : s.settle.byte .keep a = s.byte .keep a :=
  (settle_keeps_clear s).mem trivial .keep a fun ⟨hlo, hhi⟩ => by omega

/-- Settles O56: `settle` keeps each field apart from its own, each byte outside the rings, the bands and the RECEIPT record, and the
part of the state that no operation under it writes. -/
theorem settleFrame : Obligations.SettleFrame := by
  intro s
  have keeps := settle_keeps_clear s
  have deep := keeps.deep trivial
  simp only [State.deep, Prod.mk.injEq] at deep
  obtain ⟨base, otp, flash, fl, clk, wake, bg, therm, vid, scan, accel, reply, faultLog⟩ := deep
  refine ⟨settle_of_not_awake, fun f hf => keeps.regs f (List.all_eq_true.mpr hf), fun a => byte_sram_settle s,
    fun a => byte_keep_settle s, flash, keeps.part, base, keeps.clock, otp, fl, clk, wake, ?_, ?_, vid, scan, accel, reply, faultLog,
    keeps.pending⟩
  · rw [Bg.mk.injEq] at bg ⊢
    tauto
  · rw [Therm.mk.injEq] at therm ⊢
    tauto

/-! ### One bit of a field -/

/-- A bit of a field after one of its bits was written. -/
theorem rdBit_wrBit (s : State) (f : Fld) {v : Nat} (b : Bool) (u : Nat) (hv : v < f.wid) (h : f.lo + f.wid ≤ 32 := by decide) :
    (s.wrBit f v b).rdBit f u = if u = v then b else s.rdBit f u := by
  cases b
  case true => rw [rdBit_wrBit_true s f u hv h]; grind
  case false =>
    rw [State.wrBit, if_neg Bool.false_ne_true, rdBit_wr _ _ _ _ h, testBit_sub_and, Nat.testBit_two_pow, ← State.rdBit,
      ← Bool.and_assoc, ← rdBit_lt]
    grind

/-! ### One rod's bit of ROD_READY -/

theorem rod_idx_lt (r : Rod) : r.idx < CORE.ROD_READY_READY.wid := by cases r <;> decide

theorem rod_idx_inj {q r : Rod} : q.idx = r.idx ↔ q = r := by
  have h : ∀ q ∈ Rod.all, ∀ r ∈ Rod.all, q.idx = r.idx → q = r := by decide +kernel
  have hall (r : Rod) : r ∈ Rod.all := by cases r <;> decide
  exact ⟨h q (hall q) r (hall r), congrArg _⟩

/-- A rod's bit of ROD_READY takes `now`, and its vector is asserted. -/
def State.readyNow (s : State) (r : Rod) (now : Bool) : State := (s.wrBit CORE.ROD_READY_READY r.idx now).rodVec r

theorem only_readyNow (s : State) (r : Rod) (now : Bool) :
    Safety.only [CORE.ROD_READY_READY, VEC.PENDING_PENDING] s (s.readyNow r now) :=
  only_rodVec (only_wrBit (only_refl _ s))

theorem ready_readyNow (s : State) (r q : Rod) (now : Bool) : (s.readyNow r now).ready q = if q = r then now else s.ready q := by
  rw [State.ready, State.rdBit, State.readyNow, State.rodVec, rd_vec _ _ _ (by decide), ← State.rdBit,
    rdBit_wrBit _ _ _ _ (rod_idx_lt r)]
  simp only [rod_idx_inj, State.ready]

theorem pending_readyNow (s : State) (r : Rod) (now : Bool) :
    (s.readyNow r now).rd VEC.PENDING_PENDING = (s.rodVec r).rd VEC.PENDING_PENDING :=
  pending_vec_congr _ _ _ (State.rd_wr_apart _ _ _ _ (by decide)) (State.rd_wr_apart _ _ _ _ (by decide)) rfl

theorem imageApplied_readyNow (s : State) (r : Rod) (now : Bool) : (s.readyNow r now).imageApplied = s.imageApplied := by
  have h : (s.readyNow r now).rd CORE.IMG_STAT_STATE = s.rd CORE.IMG_STAT_STATE := (only_readyNow s r now).2.1 _ (by decide)
  rw [State.imageApplied, State.imageApplied, h]

theorem updateReady_of_eq {s : State} {r : Rod} (h : s.ready r = (s.ownReady r && s.supplied r)) : s.updateReady r = s := by
  simp [State.updateReady, h]

theorem updateReady_loss {s : State} {r : Rod} (h : s.ready r ≠ (s.ownReady r && s.supplied r))
    (hn : (s.ownReady r && s.supplied r) = false) : s.updateReady r = (s.readyNow r false).lost r := by
  rw [hn] at h
  simp [State.updateReady, State.readyNow, hn, h]

/-- What a rod that becomes READY does beside its bit: its reset ends, and THERM's monitor starts afresh. -/
def State.resetEnded (s : State) (r : Rod) : State :=
  let s := s.markReset r false
  if r = .therm then { s with therm := { s.therm with mon := false } } else s

theorem imageApplied_resetEnded (s : State) (r : Rod) : (s.resetEnded r).imageApplied = s.imageApplied := by
  unfold State.resetEnded
  split <;> rfl

theorem updateReady_gain {s : State} {r : Rod} (h : s.ready r ≠ (s.ownReady r && s.supplied r))
    (hn : (s.ownReady r && s.supplied r) = true) :
    s.updateReady r = if r = .flash ∧ s.imageApplied = true then ((s.readyNow r true).resetEnded r).wr RASTER.STAT_STORE 1
      else (s.readyNow r true).resetEnded r := by
  have himg : ((s.readyNow r true).resetEnded r).imageApplied = s.imageApplied := by
    rw [imageApplied_resetEnded, imageApplied_readyNow]
  rw [hn] at h
  rw [← himg]
  by_cases hr : r = .therm
  · subst hr
    simp [State.updateReady, State.readyNow, State.resetEnded, hn, h]
  · simp [State.updateReady, State.readyNow, State.resetEnded, hn, h, hr]

/-- Settles O55: the bit that changes takes its new value and its vector, and then a gain ends the reset or a loss stops the work. -/
theorem readiness : Obligations.Readiness := by
  intro s r now
  refine ⟨updateReady_of_eq, fun h => ⟨s.readyNow r now, fun hn => ?gain, fun hn => ?loss, ?_, fun q hq => ?_,
    pending_readyNow s r now, only_readyNow s r now⟩⟩
  case gain => rw [hn]; exact updateReady_gain h hn
  case loss => rw [hn]; exact updateReady_loss h hn
  · rw [ready_readyNow, if_pos rfl]
  · rw [ready_readyNow, if_neg hq]

end Sys2Proof.Machine
end

section
/-! PROOFS. SCAN: the refusal of its buffer, the store of its result, the nearest symbol, and each of its events. -/

namespace Sys2Proof.Machine

/-! ### The banks of a range (R26, R27) -/

theorem mem_banksOf {a len b : Nat} (h : 0 < len) : b ∈ banksOf a len ↔ a / bankSize ≤ b ∧ b ≤ (a + len - 1) / bankSize := by
  have hle : a / bankSize ≤ (a + len - 1) / bankSize := Nat.div_le_div_right (by omega)
  simp only [banksOf, if_neg (Nat.ne_of_gt h), List.mem_map, List.mem_range]
  constructor
  · rintro ⟨i, hi, rfl⟩; omega
  · rintro ⟨hlo, hhi⟩; exact ⟨b - a / bankSize, by omega, by omega⟩

theorem inSram_iff {a len : Nat} : inSram a len = true ↔ a + len ≤ 0x600000 := decide_eq_true_iff

/-- Whether a rod may write one byte depends on the byte's bank alone. -/
theorem mayWrite_byte (s : State) (r : Rod) (a : Nat) : s.mayWrite r a 1 = s.mayWrite r (a / bankSize * bankSize) 1 := by
  have hbanks (x : Nat) : banksOf x 1 = [x / bankSize] := by simp [banksOf]
  have hin : inSram a 1 = inSram (a / bankSize * bankSize) 1 := by
    rw [Bool.eq_iff_iff, inSram_iff, inSram_iff, bankSize]
    omega
  rw [State.mayWrite, State.mayWrite, hbanks, hbanks, hin, Nat.mul_div_cancel _ (by decide)]

/-- A rod may write a range where it may write each of its banks. -/
theorem mayWrite_of_banks {s : State} {r : Rod} {a len : Nat} (h : 0 < len)
    (hb : ∀ b ∈ banksOf a len, s.mayWrite r (b * bankSize) 1 = true) : s.mayWrite r a len = true := by
  have hone (b : Nat) : banksOf (b * bankSize) 1 = [b] := by
    simp [banksOf, Nat.mul_div_cancel _ (show 0 < bankSize by decide)]
  simp only [State.mayWrite, hone, List.all_cons, List.all_nil, Bool.and_true, Bool.and_eq_true] at hb
  rw [State.mayWrite, Bool.and_eq_true, List.all_eq_true]
  refine ⟨?_, fun b m => (hb b m).2⟩
  have hlast := (hb _ ((mem_banksOf h).mpr ⟨Nat.div_le_div_right (by omega), Nat.le_refl ((a + len - 1) / bankSize)⟩)).1
  rw [inSram_iff, bankSize] at hlast
  rw [inSram_iff]
  omega

/-- The refused address lies in the range, and the rod may not write it. -/
theorem refusedAt_mayWrite {s : State} {r : Rod} {a len : Nat} (h : 0 < len) (hw : s.mayWrite r a len = false) :
    let x := refusedAt (s.mayWrite r · 1) a len
    a ≤ x ∧ x < a + len ∧ s.mayWrite r x 1 = false := by
  intro x
  simp only [x, refusedAt]
  split
  next b hb =>
    have hno := List.find?_some hb
    simp only [Bool.not_eq_true'] at hno
    obtain ⟨hlo, hhi⟩ := (mem_banksOf h).mp (List.mem_of_find?_eq_some hb)
    have hbank : max a (b * bankSize) / bankSize = b := by simp only [bankSize] at hlo ⊢; omega
    refine ⟨Nat.le_max_left _ _, ?_, by rw [mayWrite_byte, hbank, hno]⟩
    simp only [bankSize] at hhi ⊢
    omega
  next hnone =>
    rw [mayWrite_of_banks h (by simpa using hnone)] at hw
    contradiction

/-! ### Checked writes (R252) -/

/-- The check of a read changes the registers that count errors, and VEC.PENDING. -/
theorem only_checkWord (s : State) (m : Ram) (w : Nat) :
    Safety.only [m.ueFld, m.ceFld, CORE.ECC_LAST_ADDR, VEC.PENDING_PENDING] s (s.checkWord m w) := by
  unfold State.checkWord
  exact only_ite (only_rodVec (only_wr (only_bump (only_refl _ s)))) (only_ite (only_bump (only_refl _ s)) (only_refl _ s))

/-- Nothing differs between `s` and `t` but the registers, and the two memories with their marks of errors. -/
def MemOnly (s t : State) : Prop :=
  t = { s with
    regs := t.regs, sram := t.sram, keep := t.keep, sramUe := t.sramUe, sramCe := t.sramCe, keepUe := t.keepUe, keepCe := t.keepCe }

theorem MemOnly.trans {s t u : State} (h : MemOnly s t) (k : MemOnly t u) : MemOnly s u := by
  unfold MemOnly at h k ⊢
  rw [h] at k
  exact k

theorem MemOnly.poke {s t : State} (h : MemOnly s t) (m : Ram) (a : Nat) (bs : List Nat) : MemOnly s (t.poke m a bs) :=
  h.trans (by cases m <;> rfl)

theorem MemOnly.clearEcc {s t : State} (h : MemOnly s t) (m : Ram) (w : Nat) : MemOnly s (t.clearEcc m w) :=
  h.trans (by cases m <;> rfl)

theorem MemOnly.checkWord {s t : State} (h : MemOnly s t) (m : Ram) (w : Nat) : MemOnly s (t.checkWord m w) :=
  h.trans (by rw [(only_checkWord t m w).1]; rfl)

theorem MemOnly.writeWord {s t : State} (h : MemOnly s t) (m : Ram) (a : Nat) (bs : List Nat) (w : Nat) :
    MemOnly s (t.writeWord m a bs w) := by
  unfold State.writeWord
  extract_lets lo hi part
  split
  · exact (h.poke m lo part).clearEcc m w
  · split
    · exact h.checkWord m w
    · exact ((h.checkWord m w).poke m lo part).clearEcc m w

theorem memOnly_writeMem (s : State) (m : Ram) (a : Nat) (bs : List Nat) : MemOnly s (s.writeMem m a bs) :=
  List.foldlRecOn _ _ rfl fun _ h w _ => h.writeWord m a bs w

theorem writeMem_cmds (s : State) (m : Ram) (a : Nat) (bs : List Nat) : (s.writeMem m a bs).cmds = s.cmds :=
  (congrArg State.cmds (memOnly_writeMem s m a bs) :)

theorem writeMem_scan (s : State) (m : Ram) (a : Nat) (bs : List Nat) : (s.writeMem m a bs).scan = s.scan :=
  (congrArg State.scan (memOnly_writeMem s m a bs) :)

/-- A write of memory changes no field but the counters of errors, their address and VEC.PENDING, which `settle` may write too. -/
theorem rd_writeMem {f : Fld} (hf : settleClear f = true) (s : State) (m : Ram) (a : Nat) (bs : List Nat) :
    (s.writeMem m a bs).rd f = s.rd f :=
  (State.writeMem_keeps (C := fun g => settleClear g = true) (D := False) (H := False) (fun _ hg => hg) False.elim
    (.refl s)).regs f hf

/-- Main SRAM and its uncorrectable words after the write of one word's part of `bs` at `a` (R252). -/
def sramWord (a : Nat) (bs : List Nat) (p : Store Byte × List Nat) (w : Nat) : Store Byte × List Nat :=
  let lo := max a (Ram.sram.word * w)
  let hi := min (a + bs.length) (Ram.sram.word * w + Ram.sram.word)
  if hi - lo ≠ Ram.sram.word ∧ p.2.contains w = true then p
  else (putBytes p.1 lo ((bs.drop (lo - a)).take (hi - lo)), p.2.filter (· != w))

/-- Main SRAM and its uncorrectable words. -/
def State.sramPair (s : State) : Store Byte × List Nat := (s.sram, s.sramUe)

theorem sramPair_checkWord (s : State) (m : Ram) (w : Nat) : (s.checkWord m w).sramPair = s.sramPair :=
  (congrArg State.sramPair (only_checkWord s m w).1 :)

theorem sramPair_store (s : State) (a w : Nat) (bs : List Nat) :
    ((s.poke .sram a bs).clearEcc .sram w).sramPair = (putBytes s.sramPair.1 a bs, s.sramPair.2.filter (· != w)) := rfl

theorem sramPair_writeWord (s : State) (a : Nat) (bs : List Nat) (w : Nat) :
    (s.writeWord .sram a bs w).sramPair = sramWord a bs s.sramPair w := by
  unfold State.writeWord sramWord
  extract_lets lo hi part
  by_cases hwhole : hi - lo = Ram.sram.word
  · rw [if_pos hwhole, if_neg fun h => h.1 hwhole, sramPair_store]
  · rw [if_neg hwhole]
    by_cases hbad : (s.ue .sram).contains w = true
    · rw [if_pos hbad, if_pos ⟨hwhole, hbad⟩, sramPair_checkWord]
    · rw [if_neg hbad, if_neg fun h => hbad h.2, sramPair_store, sramPair_checkWord]

/-- What a write leaves in main SRAM follows from the bytes and the uncorrectable words that were there. -/
theorem sramPair_writeMem (s : State) (a : Nat) (bs : List Nat) :
    (s.writeMem .sram a bs).sramPair = (Ram.sram.words a bs.length).foldl (sramWord a bs) s.sramPair :=
  (List.foldl_hom State.sramPair fun x w => (sramPair_writeWord x a bs w).symm).symm

/-! ### Counters -/

/-- A saturating counter after it was advanced. -/
theorem rd_bump (s : State) (f : Fld) (n : Nat) (h : f.lo + f.wid ≤ 32 := by decide) :
    (s.bump f n).rd f = satAdd (2 ^ f.wid - 1) (s.rd f) n := by
  rw [State.bump, State.rd_wr _ _ _ h, Nat.mod_eq_of_lt]
  have := Nat.two_pow_pos f.wid
  unfold satAdd
  omega

theorem rd_bump_apart (s : State) (f g : Fld) (n : Nat) (h : f.apart g = true) : (s.bump f n).rd g = s.rd g :=
  State.rd_wr_apart s f g _ h

/-! ### The nearest symbol (R489) -/

/-- Four times the squared distance of a symbol's centre from the centre of tap S. -/
def State.farSq (s : State) (y : Symbol) : Int := (2 * (y.x.toNat : Int) - s.vid.sW) ^ 2 + (2 * (y.y.toNat : Int) - s.vid.sH) ^ 2

/-- What R489 minimises: the distance, and on a tie the symbology code. -/
def State.scanKey (s : State) (p : Symbol × Nat × List Nat) : Int ×ₗ Nat := toLex (s.farSq p.1, p.2.1)

theorem nearest_eq_argmin (s : State) (l : List (Symbol × Nat × List Nat)) : s.nearest l = l.argmin s.scanKey := by
  refine congrArg (fun f => l.foldl f none) ?_
  funext best p
  cases best with
  | none => rfl
  | some b =>
    simp only [List.argAux, State.scanKey, Prod.Lex.toLex_lt_toLex, State.farSq, pow_two, Bool.or_eq_true, Bool.and_eq_true,
      decide_eq_true_eq, beq_iff_eq]

theorem nearest_spec {s : State} {l : List (Symbol × Nat × List Nat)} {p : Symbol × Nat × List Nat} (h : s.nearest l = some p) :
    p ∈ l ∧ ∀ b ∈ l, s.farSq p.1 < s.farSq b.1 ∨ s.farSq p.1 = s.farSq b.1 ∧ p.2.1 ≤ b.2.1 := by
  rw [nearest_eq_argmin] at h
  exact ⟨List.argmin_mem h, fun b hb => Prod.Lex.toLex_le_toLex.mp (List.le_of_mem_argmin hb h)⟩

theorem nearest_eq_none {s : State} {l : List (Symbol × Nat × List Nat)} : s.nearest l = none ↔ l = [] := by
  rw [nearest_eq_argmin, List.argmin_eq_none]

/-! ### What SCAN reports of a symbol (R487) -/

theorem reported_qr {mask : Nat} {y : Symbol} (h : y.sym = 0#2) :
    reported mask y = if mask.testBit 0 then some (0, y.payload.map (·.toNat)) else none := by
  simp [reported, h]

theorem reported_code128 {mask : Nat} {y : Symbol} (h : y.sym = 3#2) :
    reported mask y = if mask.testBit 3 then some (3, y.payload.map (·.toNat)) else none := by
  simp [reported, h]

/-- An EAN-13 is reported as a UPC-A where it has a leading 0 and UPC-A is enabled, and else as itself. -/
theorem reported_ean13 {mask : Nat} {y : Symbol} (h : y.sym = 1#2) :
    let l := y.payload.map (·.toNat)
    reported mask y = if l.head? = some 0x30 ∧ mask.testBit 2 = true then some (2, l.drop 1)
      else if mask.testBit 1 then some (1, l) else none := by
  simp [reported, h]

theorem reported_upcA {mask : Nat} {y : Symbol} (h : y.sym = 2#2) (hm : mask.testBit 2 = true) :
    reported mask y = some (2, y.payload.map (·.toNat)) := by
  simp [reported, h, hm]

theorem reported_upcA_as_ean13 {mask : Nat} {y : Symbol} (h : y.sym = 2#2) (hm : mask.testBit 2 = false)
    (he : mask.testBit 1 = true) : reported mask y = some (1, 0x30 :: y.payload.map (·.toNat)) := by
  simp [reported, h, hm, he]

/-! ### The start of SCAN (R27, R488, R490) -/

/-- SCAN has started under `tag`, with the symbologies of `mask`. -/
def State.scanBegin (s : State) (tag mask : Nat) : State :=
  (((s.start tag).setScan fun _ => { tag := some tag, mask := mask }).wr SCAN.STAT_STATE 1).wr SCAN.STAT_FRAMES 0

theorem scanBegin_spec (s : State) (tag mask : Nat) :
    let x := s.scanBegin tag mask
    x.rd SCAN.STAT_STATE = 1 ∧ x.rd SCAN.STAT_FRAMES = 0 ∧
      Safety.only [SCAN.STAT_STATE, SCAN.STAT_FRAMES] { s.start tag with scan := { tag := some tag, mask := mask } } x := by
  refine ⟨?_, State.rd_wr _ SCAN.STAT_FRAMES _, only_wr (only_wr (only_refl _ _))⟩
  rw [State.scanBegin, State.rd_wr_apart _ _ _ _ (by decide), State.rd_wr _ SCAN.STAT_STATE]
  rfl

theorem rd_scanBegin {f : Fld} (h : SCAN.STAT_STATE.apart f = true) (h' : SCAN.STAT_FRAMES.apart f = true) (s : State)
    (tag mask : Nat) : (s.scanBegin tag mask).rd f = s.rd f := by
  rw [State.scanBegin, State.rd_wr_apart _ _ _ _ h', State.rd_wr_apart _ _ _ _ h, State.setScan_rd]
  rfl

theorem scanSession_scanBegin (s : State) (tag mask : Nat) : (s.scanBegin tag mask).scanSession = s.scanSession := by
  have hd : (s.scanBegin tag mask).rd VIDIN.STAT_DESC = s.rd VIDIN.STAT_DESC := rd_scanBegin (by decide) (by decide) s tag mask
  have hs : (s.scanBegin tag mask).sensor = s.sensor := by rw [State.sensor, hd]; rfl
  rw [State.scanSession, hs]
  rfl

/-- The mask of a SCAN: its parameter, or the symbologies configured where that is 0 (R488). -/
def State.scanMask (s : State) (c : Cmd) : Nat := if c.p0 = 0 then s.rd SCAN.CFG_SYMBOLOGIES else c.p0 % 16

/-- A SCAN that starts uses the host's session, or opens one of its own where none is open (R490). -/
def State.scanOpened (s : State) (tag mask : Nat) : State :=
  let x := s.scanBegin tag mask
  if s.rd VIDIN.STAT_SESSION = 0 then x.sessionOpen 2 s.scanSession else x

theorem scanOpened_eq (s : State) (tag mask : Nat) : s.scanOpened tag mask =
    let x := s.scanBegin tag mask
    if x.flag VIDIN.STAT_SESSION then x else x.sessionOpen 2 x.scanSession := by
  have hs : (s.scanBegin tag mask).rd VIDIN.STAT_SESSION = s.rd VIDIN.STAT_SESSION :=
    rd_scanBegin (by decide) (by decide) s tag mask
  simp only [State.scanOpened, scanSession_scanBegin, State.flag, hs, bne_iff_ne, ite_not]

/-- What a SCAN that may begin does. -/
theorem exec_scan {tag : Fin 64} {s : State} {c : Cmd} (hc : s.cmd? tag = some c) (hb : s.mayBegin c 0xE0 .scan = true)
    (ht : s.scan.tag = none) (hv : s.pllvOn = true ∨ s.rd VIDIN.STAT_SESSION ≠ 0) :
    exec (.scan tag) s =
      if s.mayWrite .scan c.p2 4096 = false then .next (s.refuseWrite .scan c.p2 4096 tag).settle
      else if s.rd VIDIN.STAT_SESSION = 1 ∧ s.vid.sW = 0 then .next (s.endOpen tag stBusy).settle
      else .next (s.scanOpened tag (s.scanMask c)).settle := by
  have hgo : (s.pllvOn || s.flag VIDIN.STAT_SESSION) = true := by simpa [State.flag] using hv
  change execScan tag s = _
  simp only [execScan, hc, hb, ht, hgo, Option.isNone_none, Bool.and_self, if_true, Bool.not_eq_true', Bool.and_eq_true, beq_iff_eq,
    scanOpened_eq, State.scanBegin, State.scanMask]
  rfl

/-! ### The end of an examination (R487, R489, R491) -/

/-- The symbols of a frame that SCAN reports, each with its symbology code and payload. -/
def State.goodSymbols (s : State) (r : ScanResult) : List (Symbol × Nat × List Nat) :=
  (r.read.filter fun y => !s.tooBig y).filterMap fun y => (reported s.scan.mask y).map fun p => (y, p)

/-- The frame under examination is counted, with what could not be read in it. -/
def State.frameCounted (s : State) (r : ScanResult) : State :=
  let x := s.setScan fun x => { x with cur := none, frames := x.frames + 1 }
  (((x.bump SCAN.FAIL_UNREAD r.unread.toNat).bump SCAN.FAIL_REJECTED (r.read.filter s.tooBig).length).bump
    SCAN.STAT_FRAMES).wr SCAN.STAT_LAST_MS r.ms.toNat

theorem only_frameCounted (s : State) (r : ScanResult) :
    Safety.only [SCAN.FAIL_UNREAD, SCAN.FAIL_REJECTED, SCAN.STAT_FRAMES, SCAN.STAT_LAST_MS]
      { s with scan := { s.scan with cur := none, frames := s.scan.frames + 1 } } (s.frameCounted r) :=
  only_wr (only_bump (only_bump (only_bump (only_refl _ _))))

theorem frameCounted_fields (s : State) (r : ScanResult) :
    let x := s.frameCounted r
    x.rd SCAN.FAIL_UNREAD = satAdd 65535 (s.rd SCAN.FAIL_UNREAD) r.unread.toNat ∧
      x.rd SCAN.FAIL_REJECTED = satAdd 255 (s.rd SCAN.FAIL_REJECTED) (r.read.filter s.tooBig).length ∧
      x.rd SCAN.STAT_FRAMES = satAdd 255 (s.rd SCAN.STAT_FRAMES) 1 ∧ x.rd SCAN.STAT_LAST_MS = r.ms.toNat := by
  have hms : r.ms.toNat % 2 ^ SCAN.STAT_LAST_MS.wid = r.ms.toNat := Nat.mod_eq_of_lt r.ms.isLt
  simp (disch := decide) only [State.frameCounted, State.rd_wr_apart, rd_bump_apart, rd_bump, State.rd_wr, State.setScan_rd, hms]
  exact ⟨rfl, rfl, rfl, trivial⟩

theorem setScan_wr (s : State) (k : ScanSt → ScanSt) (f : Fld) (v : Nat) : (s.setScan k).wr f v = (s.wr f v).setScan k := (rfl)

theorem setScan_bump (s : State) (k : ScanSt → ScanSt) (f : Fld) (n : Nat) : (s.setScan k).bump f n = (s.bump f n).setScan k := (rfl)

/-- The count of a frame in the order in which the end of its examination makes it. -/
theorem frameCounted_eq (s : State) (r : ScanResult) : s.frameCounted r =
    ((((s.bump SCAN.FAIL_UNREAD r.unread.toNat).bump SCAN.FAIL_REJECTED (r.read.filter s.tooBig).length).bump
      SCAN.STAT_FRAMES).wr SCAN.STAT_LAST_MS r.ms.toNat).setScan fun x => { x with cur := none, frames := x.frames + 1 } := by
  simp only [State.frameCounted, setScan_bump, setScan_wr]

theorem nearest_frameCounted (s : State) (r : ScanResult) (l : List (Symbol × Nat × List Nat)) :
    (s.frameCounted r).nearest l = s.nearest l := by
  have hv : (s.frameCounted r).vid = s.vid := by rw [(only_frameCounted s r).1]
  simp only [State.nearest, hv]

theorem frameCounted_scan (s : State) (r : ScanResult) :
    (s.frameCounted r).scan = { s.scan with cur := none, frames := s.scan.frames + 1 } := by
  rw [(only_frameCounted s r).1]

theorem frameCounted_cmds (s : State) (r : ScanResult) : (s.frameCounted r).cmds = s.cmds := by
  rw [(only_frameCounted s r).1]

/-- The result of a frame is stored in the command's buffer, and counted. -/
def State.resultStored (s : State) (a seq : Nat) (y : Symbol) (sym : Nat) (payload : List Nat) : State :=
  (s.writeMem .sram a (scanHeader y sym payload.length (seq % 2 ^ 32) ++ payload)).bump SCAN.COUNT_READS

section
variable {s : State} {t slot seq : Nat} (r : ScanResult) (ha : s.awake = true) (ht : s.scan.tag = some t)
  (hcur : s.scan.cur = some (slot, seq))
include ha ht hcur

/-- A frame without a symbol to report: the next is taken. -/
theorem exec_scanFrameDone_none (h : s.goodSymbols r = []) :
    exec (.scanFrameDone r) s = .next (((s.frameCounted r).wr SCAN.STAT_STATE 1).scanTake).settle := by
  have hn : (s.frameCounted r).nearest (s.goodSymbols r) = none := by rw [nearest_frameCounted, nearest_eq_none, h]
  rw [frameCounted_eq, State.goodSymbols] at hn
  change execScanFrameDone r s = _
  simp only [execScanFrameDone, ht, hcur, ha, if_true, hn, frameCounted_eq]

/-- A frame with a symbol to report ends the command. -/
theorem exec_scanFrameDone_some {y : Symbol} {sym : Nat} {payload : List Nat} {c : Cmd}
    (h : s.nearest (s.goodSymbols r) = some (y, sym, payload)) (hc : s.cmd? t = some c) :
    exec (.scanFrameDone r) s = .next (((s.frameCounted r).resultStored c.p2 seq y sym payload).scanEnd stOK
      (payload.length % 65536 + 65536 * sym) (s.scan.frames + 1)).settle := by
  have hn := (nearest_frameCounted s r (s.goodSymbols r)).trans h
  have hcmd : (s.frameCounted r).cmd? t = some c := by rw [State.cmd?, frameCounted_cmds, ← State.cmd?, hc]
  have hfr (a : Nat) (bs : List Nat) : ((s.frameCounted r).writeMem .sram a bs).scan.frames = s.scan.frames + 1 := by
    rw [writeMem_scan, frameCounted_scan]
  rw [frameCounted_eq] at hn hcmd hfr ⊢
  rw [State.goodSymbols] at hn
  change execScanFrameDone r s = _
  simp only [execScanFrameDone, ht, hcur, ha, if_true, hn, hcmd, hfr, State.resultStored, Option.map_some, Option.getD_some]

end

theorem resultStored_spec (s : State) (r : ScanResult) (a seq : Nat) (y : Symbol) (sym : Nat) (payload : List Nat) :
    let z := (s.frameCounted r).resultStored a seq y sym payload
    z.sram = (s.writeMem .sram a (scanHeader y sym payload.length (seq % 2 ^ 32) ++ payload)).sram ∧
      z.rd SCAN.COUNT_READS = satAdd 65535 (s.rd SCAN.COUNT_READS) 1 ∧ z.scan = (s.frameCounted r).scan ∧ z.cmds = s.cmds := by
  have hpair : (s.frameCounted r).sramPair = s.sramPair := by
    simp only [State.sramPair]
    rw [(only_frameCounted s r).1]
  have hreads : (s.frameCounted r).rd SCAN.COUNT_READS = s.rd SCAN.COUNT_READS :=
    (only_frameCounted s r).2.1 SCAN.COUNT_READS (by decide)
  refine ⟨?sram, ?reads, ?scan, ?cmds⟩
  case sram =>
    have h := congrArg Prod.fst (sramPair_writeMem (s.frameCounted r) a (scanHeader y sym payload.length (seq % 2 ^ 32) ++ payload))
    rw [hpair, ← sramPair_writeMem] at h
    exact h
  case reads =>
    rw [State.resultStored, rd_bump _ SCAN.COUNT_READS, rd_writeMem (by decide +kernel), hreads]
    rfl
  case scan => rw [State.resultStored, State.bump_scan, writeMem_scan]
  case cmds => rw [State.resultStored, State.bump_cmds, writeMem_cmds, frameCounted_cmds]

/-! ### The time limit, and the end of a SCAN (R490, R491) -/

/-- The time limit ends a SCAN that runs; the number of frames that it reports is a free value. -/
theorem exec_scanTimeLimit {s : State} (ha : s.awake = true) (ht : s.scan.tag.isSome = true) :
    exec .scanTimeLimit s =
      .next ((s.openWord.2.bump SCAN.COUNT_TIMEOUTS).scanEnd stTimeout 0 s.openWord.1).settle := by
  change execScanTimeLimit s = _
  simp only [execScanTimeLimit, ha, ht, Bool.and_self, if_true]

theorem scanEnd_of_tag {s : State} {t : Nat} (ht : s.scan.tag = some t) (status r0 r1 : Nat) :
    let x := (s.setScan fun _ => {}).wr SCAN.STAT_STATE 0
    s.scanEnd status r0 r1 = (if s.rd VIDIN.STAT_SESSION = 2 then x.sessionClose else x).complete t status r0 r1 := by
  have hs : ((s.setScan fun _ => {}).wr SCAN.STAT_STATE 0).rd VIDIN.STAT_SESSION = s.rd VIDIN.STAT_SESSION :=
    State.rd_wr_apart _ _ _ _ (by decide)
  simp only [State.scanEnd, ht, hs, beq_iff_eq]

/-! ### The statement -/

/-- Settles O44: each clause is the rule of one event of SCAN, of the refusal of its buffer, or of what it reports. -/
theorem scanning : Obligations.Scanning := by
  refine ⟨fun tag s c hc hb ht hw => ⟨fun h1 h0 => ?busy, fun hses hv => ?start⟩, fun tag s c hc hb ht hv hw => ?refused,
    fun r s t slot seq ha ht hcur => ?frame, fun s l p h => nearest_spec h,
    fun mask y => ⟨reported_qr, fun h hd => ?ean13, fun h hd hm => ?upcA, fun h _ hm => ?masked, reported_upcA,
      reported_upcA_as_ean13, reported_code128⟩,
    fun s ha ht => ?limit, fun s t status r0 r1 ht => ?ends⟩
  case busy => rw [exec_scan hc hb ht (.inr (by omega)), if_neg (by simp [hw]), if_pos ⟨h1, h0⟩]
  case start =>
    refine ⟨s.scanBegin tag (s.scanMask c), ?_, scanBegin_spec s tag (s.scanMask c)⟩
    rw [exec_scan hc hb ht hv, if_neg (by simp [hw]), if_neg fun h => hses.elim (· h.1) (· h.2), State.scanOpened]
  case refused =>
    refine ⟨_, ?_, refusedAt_mayWrite (by decide) hw⟩
    rw [exec_scan hc hb ht hv, if_pos hw]
    rfl
  case ean13 => exact (reported_ean13 h).trans (if_neg fun hn => hd hn.1)
  case upcA => exact (reported_ean13 h).trans (if_pos ⟨hd, hm⟩)
  case masked => exact (reported_ean13 h).trans (if_neg fun hn => by simp [hm] at hn)
  case frame =>
    intro big good
    obtain ⟨hunread, hrej, hframes, hms⟩ := frameCounted_fields s r
    refine ⟨s.frameCounted r, hunread, hrej, hframes, hms, only_frameCounted s r, fun hnone => ?_, fun y sym payload c hnear hc => ?_⟩
    · exact ⟨_, exec_scanFrameDone_none r ha ht hcur hnone, State.rd_wr _ SCAN.STAT_STATE _, only_wr (only_refl _ _)⟩
    · exact ⟨_, exec_scanFrameDone_some r ha ht hcur hnear hc, resultStored_spec s r c.p2 seq y sym payload⟩
  case limit =>
    exact ⟨_, _, exec_scanTimeLimit ha ht, rd_bump _ SCAN.COUNT_TIMEOUTS 1, only_bump (only_refl _ _)⟩
  case ends => exact ⟨_, scanEnd_of_tag ht status r0 r1, State.rd_wr _ SCAN.STAT_STATE _, only_wr (only_refl _ _)⟩

end Sys2Proof.Machine
end

section
/-! PROOFS. Every command answers a next state. -/

namespace Sys2Proof.Machine

/-- The outcome is a next state. -/
def Answers (o : Host.Outcome State Fault Refusal) : Prop := ∃ t, o = .next t

theorem Answers.next (t : State) : Answers (.next t) := ⟨t, rfl⟩

theorem Answers.ite {p : Prop} {inst : Decidable p} {a b : Host.Outcome State Fault Refusal} (ha : Answers a) (hb : Answers b) :
    Answers (if p then a else b) := by
  split <;> assumption

/-- Every branch of every meaning ends in a next state. The meanings that begin with a choice among the cases of a value, as those of
the queues' commands do with the command in flight, are unfolded first; the others are one state or begin with a condition. -/
theorem exec_answers (c : Instr) (s : State) : Answers (exec c s) := by
  cases c
  case readyWaitExpiry | nop | partialApply | imageConfirm | freezeCommit | abort | releaseHeld | partialApplyTimeout |
    sample | slotErase | slotWrite | slotVerify | slotSwitch | readToSram | sectorEraseDone | pageProgramDone |
    readCounters | commitNow | exportRecords | move | receipt | headProbe | dryHead | checkPass | shiftEnd | sliceEnd |
    passEnd | leakageMeasured | dryPulse | dryMeasure | wetHead | registrationDone | movePaper | motorCheck | cut | home |
    captureStart | captureStop | renegotiate | scan | scanFrameDone | encStreamOpen | encStreamClose | sliceBuf | refresh |
    sliceDone | decStreamOpen | decodeAu | decStreamClose | auDecoded | eraseTimeExceeded =>
    dsimp -zeta only [exec, execReadyWaitExpiry, execNop, execPartialApply, execImageConfirm, execFreezeCommit, execAbort,
      execReleaseHeld, execPartialApplyTimeout, execSample, execSlotErase, execSlotWrite, execSlotVerify, execSlotSwitch, execReadToSram,
      execSectorEraseDone, execPageProgramDone, execReadCounters, execCommitNow, execExportRecords, execMove, execReceipt,
      execHeadProbe, execDryHead, execCheckPass, execShiftEnd, execSliceEnd, execPassEnd, execLeakageMeasured, execDryPulse,
      execDryMeasure, execWetHead, execRegistrationDone, execMovePaper, execMotorCheck, execCut, execHome, execCaptureStart,
      execCaptureStop, execRenegotiate, execScan, execScanFrameDone, execEncStreamOpen, execEncStreamClose, execSliceBuf,
      execRefresh, execSliceDone, execDecStreamOpen, execDecodeAu, execDecStreamClose, execAuDecoded, execEraseTimeExceeded]
    repeat' first
      | with_reducible exact .next _
      | extract_lets
      | split
  all_goals repeat' first
    | exact .next _
    | apply Answers.ite
    | extract_lets
    | split

/-- Settles O57: each branch of a meaning ends in a next state, and what every command keeps includes the rest. -/
theorem everyCommand : Obligations.EveryCommand := by
  refine ⟨exec_answers, fun c s t h => ?_⟩
  have keeps := exec_keeps c s t h
  obtain ⟨vendorKey, intKey1, intKey2, svcClosed, rollback, frozen⟩ := keeps.otp
  refine ⟨keeps.pending, keeps.part, keeps.clock, vendorKey, intKey1, intKey2, svcClosed, rollback, frozen, fun hh => ?_⟩
  by_cases hl : leavesHeld c
  · exact .inr hl
  · exact .inl (keeps.held hl hh)

end Sys2Proof.Machine
end

section
/-! PROOFS. What the verification of images and their application rest on, and that the operations that end work, that report beads
and that move between operating points leave it alone. -/

namespace Sys2Proof.Machine

/-! ### The view -/

/-- What verifying and applying images rests on: the state that CORE shows of the image, what is held of it, the start of the heartbeat's
count, OTP, the mode, the clock and the part. -/
def State.imgView (s : State) := (s.rd CORE.IMG_STAT_STATE, s.img, s.clk.hbSince, s.otp, s.base, s.clock, s.part)

theorem imgView_eq_iff {s t : State} : t.imgView = s.imgView ↔
    t.rd CORE.IMG_STAT_STATE = s.rd CORE.IMG_STAT_STATE ∧ t.img = s.img ∧ t.clk.hbSince = s.clk.hbSince ∧ t.otp = s.otp ∧
      t.base = s.base ∧ t.clock = s.clock ∧ t.part = s.part := by
  simp only [State.imgView, Prod.mk.injEq]

section Kept
variable (s t : State)

@[simp] theorem imgView_ite {c : Prop} [Decidable c] : (if c then s else t).imgView = if c then s.imgView else t.imgView :=
  apply_ite State.imgView c s t

theorem imgView_foldl {α : Type} {f : State → α → State} (hf : ∀ s x, (f s x).imgView = s.imgView) (l : List α) :
    (l.foldl f s).imgView = s.imgView :=
  List.foldlRecOn (motive := fun t => t.imgView = s.imgView) l f rfl fun _ h x _ => (hf _ x).trans h

/-! ### Registers and vectors -/

@[simp] theorem imgView_wr {g : Fld} {v : Nat} (h : g.apart CORE.IMG_STAT_STATE = true) : (s.wr g v).imgView = s.imgView :=
  imgView_eq_iff.mpr ⟨State.rd_wr_apart _ _ _ _ h, rfl, rfl, rfl, rfl, rfl, rfl⟩

theorem imgView_setReg {a : Nat} {w : Word} (h : a ≠ CORE.IMG_STAT_STATE.addr) : (s.setReg a w).imgView = s.imgView :=
  imgView_eq_iff.mpr ⟨by simp only [State.rd, State.reg_setReg, if_neg h], rfl, rfl, rfl, rfl, rfl, rfl⟩

@[simp] theorem imgView_wrI {g : Fld} {v : Int} (h : g.apart CORE.IMG_STAT_STATE = true) : (s.wrI g v).imgView = s.imgView :=
  imgView_wr s h

@[simp] theorem imgView_wrB {g : Fld} {b : Bool} (h : g.apart CORE.IMG_STAT_STATE = true) : (s.wrB g b).imgView = s.imgView :=
  imgView_wr s h

@[simp] theorem imgView_bump {g : Fld} {n : Nat} (h : g.apart CORE.IMG_STAT_STATE = true) : (s.bump g n).imgView = s.imgView :=
  imgView_wr s h

@[simp] theorem imgView_wrBit {g : Fld} {i : Nat} {b : Bool} (h : g.apart CORE.IMG_STAT_STATE = true) :
    (s.wrBit g i b).imgView = s.imgView :=
  imgView_wr s h

@[simp] theorem imgView_vec (v : Nat) : (s.vec v).imgView = s.imgView := by
  simp (disch := decide) [State.vec]

@[simp] theorem imgView_rodVec (r : Rod) : (s.rodVec r).imgView = s.imgView := imgView_vec s _

@[simp] theorem imgView_evt {f : Fld} (r : Rod) (h : f.apart CORE.IMG_STAT_STATE = true) : (s.evt f r).imgView = s.imgView := by
  simp [State.evt, h]

@[simp] theorem imgView_queueVec (q : Nat) : (s.queueVec q).imgView = s.imgView := imgView_vec s q

/-- A field of a register behind CORE.IMG_STAT is apart from it. -/
theorem apart_imgStat {g : Fld} (h : 0x40000100 < g.addr) : g.apart CORE.IMG_STAT_STATE = true := by
  simp [Fld.apart, CORE.IMG_STAT_STATE, Nat.ne_of_gt h]

@[simp] theorem imgView_wr_behind {base m i k lo wid v : Nat} (h : 0x40000100 < base) :
    (s.wr ⟨base + m * (i % k), lo, wid⟩ v).imgView = s.imgView :=
  imgView_wr s (apart_imgStat (Nat.lt_add_right _ h))

/-! ### Memory -/

@[simp] theorem imgView_checkWord (m : Ram) (w : Nat) : (s.checkWord m w).imgView = s.imgView := by
  cases m <;> simp (disch := decide) [State.checkWord, Ram.ueFld, Ram.ceFld]

@[simp] theorem imgView_poke (m : Ram) (a : Nat) (bs : List Nat) : (s.poke m a bs).imgView = s.imgView := by cases m <;> rfl

@[simp] theorem imgView_clearEcc (m : Ram) (w : Nat) : (s.clearEcc m w).imgView = s.imgView := by cases m <;> rfl

@[simp] theorem imgView_writeWord (m : Ram) (a : Nat) (bs : List Nat) (w : Nat) : (s.writeWord m a bs w).imgView = s.imgView := by
  simp [State.writeWord]

@[simp] theorem imgView_writeMem (m : Ram) (a : Nat) (bs : List Nat) : (s.writeMem m a bs).imgView = s.imgView :=
  imgView_foldl s (fun s => imgView_writeWord s m a bs) _

@[simp] theorem imgView_readMem (m : Ram) (a len : Nat) : (s.readMem m a len).1.imgView = s.imgView :=
  imgView_foldl s (fun s => imgView_checkWord s m) _

@[simp] theorem imgView_openWord : s.openWord.2.imgView = s.imgView := rfl

/-! ### Completions -/

theorem imgView_writeCompl (q : Nat) (c : Compl) : (s.writeCompl q c).imgView = s.imgView := by
  have hphase (t : State) (b : Bool) (v : Nat) : (if b then t.wr (VEC.Q_CQ_IDX_PHASE q) v else t).imgView = t.imgView := by
    simp [VEC.Q_CQ_IDX_PHASE]
  unfold State.writeCompl
  extract_lets tail phase entry t1 wrap t2 t3 n
  have h : t3.imgView = s.imgView := by simp [t3, t2, t1, hphase, VEC.Q_CQ_IDX_TAIL]
  split
  · exact (imgView_queueVec t3 q).trans h
  · exact h

theorem imgView_post (q : Nat) (c : Compl) : (s.post q c).imgView = s.imgView := by
  unfold State.post
  split
  · rfl
  · split
    · rfl
    · exact imgView_writeCompl s q c

@[simp] theorem imgView_finish (t status r0 r1 : Nat) : (s.finish t status r0 r1).imgView = s.imgView := by
  unfold State.finish
  split
  · rfl
  · exact imgView_post _ _ _

@[simp] theorem imgView_endAborts (t status : Nat) : (s.endAborts t status).imgView = s.imgView :=
  imgView_foldl s (fun s a => imgView_finish s a stOK status 0) _

@[simp] theorem imgView_complete (t status r0 r1 : Nat) : (s.complete t status r0 r1).imgView = s.imgView := by
  simp [State.complete]

@[simp] theorem imgView_endOpen (t status : Nat) : (s.endOpen t status).imgView = s.imgView := by
  simp [State.endOpen]

@[simp] theorem imgView_endAll (ts : List Nat) (status : Nat) : (s.endAll ts status).imgView = s.imgView :=
  imgView_foldl s (fun s t => imgView_endOpen s t status) _

end Kept
end Sys2Proof.Machine
end

section
/-! PROOFS. The operations with which a rod ends its work leave alone what images rest on. -/

namespace Sys2Proof.Machine

section Kept
variable (s : State)

/-! ### Changes beside the registers -/

@[simp] theorem imgView_setFeed (f : Feed → Feed) : (s.setFeed f).imgView = s.imgView := rfl
@[simp] theorem imgView_setPrint (f : Print → Print) : (s.setPrint f).imgView = s.imgView := rfl
@[simp] theorem imgView_setCut (f : Cutter → Cutter) : (s.setCut f).imgView = s.imgView := rfl
@[simp] theorem imgView_setVid (f : Vid → Vid) : (s.setVid f).imgView = s.imgView := rfl
@[simp] theorem imgView_setScan (f : ScanSt → ScanSt) : (s.setScan f).imgView = s.imgView := rfl
@[simp] theorem imgView_setEnc (f : Enc → Enc) : (s.setEnc f).imgView = s.imgView := rfl
@[simp] theorem imgView_setDec (f : Dec → Dec) : (s.setDec f).imgView = s.imgView := rfl
@[simp] theorem imgView_setLed (f : Ledger → Ledger) : (s.setLed f).imgView = s.imgView := rfl
@[simp] theorem imgView_modChan (k : Nat) (f : Chan → Chan) : (s.modChan k f).imgView = s.imgView := rfl
@[simp] theorem imgView_modLoop (k : Nat) (f : LoopSt → LoopSt) : (s.modLoop k f).imgView = s.imgView := rfl
@[simp] theorem imgView_modSlot (i : Nat) (f : Slot → Slot) : (s.modSlot i f).imgView = s.imgView := rfl
@[simp] theorem imgView_modJob (t : Nat) (f : Job → Job) : (s.modJob t f).imgView = s.imgView := rfl
@[simp] theorem imgView_release (t : Nat) (r : Rod) : (s.release t r).imgView = s.imgView := rfl
@[simp] theorem imgView_count (k : Nat) (q : Rat) : (s.count k q).imgView = s.imgView := rfl

/-! ### Loops and the paper -/

theorem imgView_applyDealt (k : Nat) : (s.applyDealt k).imgView = s.imgView := by
  unfold State.applyDealt
  extract_lets left loops t
  split
  · exact imgView_evt t .loop (by decide)
  · rfl

@[simp] theorem imgView_applyNow (k : Nat) : (s.applyNow k).imgView = s.imgView := by
  simp (disch := decide) [State.applyNow, imgView_applyDealt]

@[simp] theorem imgView_clientZero (k : Nat) : (s.clientZero k).imgView = s.imgView := by
  unfold State.clientZero
  split <;> rfl

@[simp] theorem imgView_loopOff (k : Nat) : (s.loopOff k).imgView = s.imgView := by
  simp [State.loopOff, LOOP.L_STAT_STATE]

@[simp] theorem imgView_feedLoopsOff : s.feedLoopsOff.imgView = s.imgView := by
  simp [State.feedLoopsOff]

@[simp] theorem imgView_setSpeed (um : Int) : (s.setSpeed um).imgView = s.imgView := by
  simp (disch := decide) [State.setSpeed]

@[simp] theorem imgView_feedStop : s.feedStop.imgView = s.imgView := by
  simp (disch := decide) [State.feedStop]

@[simp] theorem imgView_feedCut (h : Hb) : (s.feedCut h).imgView = s.imgView := by
  simp (disch := decide) [State.feedCut, State.motorHb]

theorem imgView_feedBrakePath : s.feedBrakePath.imgView = s.imgView := by
  unfold State.feedBrakePath
  split
  · exact imgView_feedCut s .low
  · rfl

@[simp] theorem imgView_feedLost : s.feedLost.imgView = s.imgView := by
  simp [State.feedLost, imgView_feedBrakePath]

/-! ### RECEIPTs and the head -/

@[simp] theorem imgView_freeSlot (i : Nat) : (s.freeSlot i).imgView = s.imgView :=
  imgView_wr_behind _ (by decide)

@[simp] theorem imgView_releaseBands (t : Nat) : (s.releaseBands t).imgView = s.imgView :=
  imgView_foldl s (fun s i => imgView_freeSlot s i) _

@[simp] theorem imgView_rasterIdle (t : Nat) : (s.rasterIdle t).imgView = s.imgView := by
  simp (disch := decide) [State.rasterIdle]

@[simp] theorem imgView_recPut (off : Nat) (bs : List Nat) : (s.recPut off bs).imgView = s.imgView := imgView_writeMem s .keep _ bs

@[simp] theorem imgView_endReceipt (t status r0 r1 : Nat) : (s.endReceipt t status r0 r1).imgView = s.imgView := by
  simp (disch := decide) [State.endReceipt]

@[simp] theorem imgView_countLine (t : Nat) : (s.countLine t).imgView = s.imgView := by
  unfold State.countLine
  extract_lets t1
  have h : t1.imgView = s.imgView := rfl
  split <;> simp [h]

@[simp] theorem imgView_printIdle : s.printIdle.imgView = s.imgView := by
  simp (disch := decide) [State.printIdle]

@[simp] theorem imgView_abandonRecheck : s.abandonRecheck.imgView = s.imgView := by
  simp (disch := decide) [State.abandonRecheck]

theorem imgView_addEnergy (p : Pass) (ticks : Nat → Nat) : (s.addEnergy p ticks).imgView = s.imgView :=
  imgView_foldl s (fun s (e : Nat × Nat × Rat) => imgView_count s e.1 (e.2.2 * (ticks e.2.1 : Rat))) _

theorem imgView_cutPass : s.cutPass.imgView = s.imgView := by
  unfold State.cutPass
  split
  · rfl
  · split
    · exact imgView_addEnergy _ _ _
    · rfl

@[simp] theorem imgView_trimFrc : s.trimFrc.imgView = s.imgView := imgView_wrI _ (by decide)

@[simp] theorem imgView_quiet : s.quiet.imgView = s.imgView := by
  simp (disch := decide) [State.quiet, imgView_cutPass]

@[simp] theorem imgView_tearAlso (cause : Nat) : (s.tearAlso cause).imgView = s.imgView := by
  unfold State.tearAlso
  split <;> simp (disch := decide)

@[simp] theorem imgView_tear (cause : Nat) (stop : Bool) : (s.tear cause stop).imgView = s.imgView := by
  unfold State.tear
  split <;> simp (disch := decide)

@[simp] theorem imgView_endCheck (t status : Nat) : (s.endCheck t status).imgView = s.imgView :=
  (imgView_complete _ t status 0 0).trans (imgView_wr _ (by decide))

theorem imgView_dryEnd (d : Dry) (status leak : Nat) : (s.dryEnd d status leak).imgView = s.imgView := by
  unfold State.dryEnd
  split <;> simp (disch := decide)

/-! ### The blade -/

@[simp] theorem imgView_cutBrake (n : CutNext) : (s.cutBrake n).imgView = s.imgView := by
  simp (disch := decide) [State.cutBrake]

@[simp] theorem imgView_cutEnd (cause : Nat) : (s.cutEnd cause).imgView = s.imgView := by
  unfold State.cutEnd
  split
  · rfl
  · extract_lets ms rev t1 t2 t3 receipt t4
    have h1 : t1.imgView = s.imgView := by simp (disch := decide) [t1]
    have h2 : t2.imgView = s.imgView := (imgView_evt t1 .cut (by decide)).trans h1
    have h : t4.imgView = s.imgView := by
      simp only [t4, t3, imgView_setCut]
      split
      · exact (imgView_count t2 _ 1).trans h2
      · exact h2
    split
    · split
      · exact h
      · exact (imgView_endReceipt _ _ _ _ _).trans ((imgView_ite _ _).trans (by simp [h]))
    · exact (imgView_complete t4 _ _ ms _).trans h

@[simp] theorem imgView_cutAbort (cause : Nat) : (s.cutAbort cause).imgView = s.imgView := by
  simp [State.cutAbort]

/-! ### Transfers of MOVER -/

theorem imgView_poisonWord (w : Nat) : (s.poisonWord w).imgView = s.imgView := by
  unfold State.poisonWord
  extract_lets t
  have h : t.imgView = s.imgView := by simp only [t]; split <;> rfl
  simp (disch := decide) [h]

theorem imgView_flashRead : s.flashRead.imgView = s.imgView := by
  simp (disch := decide) [State.flashRead]

theorem imgView_piece (x : Xfer) (d : Desc) (poison : Bool) (src dst : Nat) (p : Nat × Nat) :
    (x.piece d poison src dst p).s.imgView = x.s.imgView := by
  obtain ⟨o, n⟩ := p
  unfold Xfer.piece
  split
  · rfl
  · have hread (m : Ram) (l : List Nat) (y : State) : (l.foldl (fun s w => s.checkWord m w) y).imgView = y.imgView :=
      imgView_foldl y (fun s => imgView_checkWord s m) l
    extract_lets y
    dsimp -zeta only
    extract_lets a found w dstBad checked stored
    have h : found.1.imgView = x.s.imgView := by
      simp only [found]
      split
      · rfl
      · rfl
      · exact hread _ _ _
    have hchecked : checked.imgView = x.s.imgView := (imgView_checkWord _ .sram w).trans h
    have hstored : stored.imgView = x.s.imgView := (imgView_writeWord _ .sram a _ w).trans h
    split
    · exact h
    · split <;> split
      · exact (imgView_poisonWord checked w).trans hchecked
      · exact hchecked
      · exact (imgView_poisonWord stored w).trans hstored
      · exact hstored

theorem imgView_burst (x : Xfer) (d : Desc) (poison : Bool) (line src dst : Nat) (ps : List (Nat × Nat)) :
    (x.burst d poison line src dst ps).s.imgView = x.s.imgView := by
  unfold Xfer.burst
  split
  · rfl
  · extract_lets y o n z
    have hz : z.s.imgView = x.s.imgView := by
      simp only [z]
      split
      · exact imgView_flashRead _
      · rfl
    split
    · rfl
    · split
      · rfl
      · exact List.foldlRecOn (motive := fun y => y.s.imgView = x.s.imgView) _ _ hz fun y h p _ =>
          (imgView_piece y d poison src dst p).trans h

theorem imgView_copyLine (x : Xfer) (d : Desc) (poison : Bool) (i : Nat) : (x.copyLine d poison i).s.imgView = x.s.imgView :=
  List.foldlRecOn (motive := fun y => y.s.imgView = x.s.imgView) _ _ rfl fun y h ps _ => (imgView_burst y d poison i _ _ ps).trans h

theorem imgView_transfer (d : Desc) (poison : Bool) (bursts : Nat) : (s.transfer d poison bursts).s.imgView = s.imgView :=
  List.foldlRecOn (motive := fun y => y.s.imgView = s.imgView) _ _ rfl fun y h i _ => (imgView_copyLine y d poison i).trans h

theorem imgView_runBursts (k n : Nat) : (s.runBursts k n).1.imgView = s.imgView := by
  unfold State.runBursts
  extract_lets c x cur t1 t2
  have h : t1.imgView = s.imgView := by simp [t1, x, imgView_transfer, MOVER.CH_PROGRESS_LINE]
  simp only [t2]
  split <;> simp [h, MOVER.CH_STATE_CAUSE, MOVER.CH_ERR_ADDR_ADDR]

@[simp] theorem imgView_interrupt (k : Nat) : (s.interrupt k).imgView = s.imgView := by
  simp [State.interrupt, imgView_runBursts]

@[simp] theorem imgView_chanIdle (k : Nat) : (s.chanIdle k).imgView = s.imgView := by
  simp [State.chanIdle, MOVER.CH_STATE_STATE, MOVER.CH_STATE_OWNER]

theorem imgView_abortMove (t : Nat) : (s.abortMove t).imgView = s.imgView := by
  unfold State.abortMove
  split <;> simp

@[simp] theorem imgView_stopMover : s.stopMover.imgView = s.imgView := by
  refine imgView_foldl s (fun s k => ?_) _
  split
  · exact imgView_abortMove s _
  · simp

/-! ### The stops of the rods -/

@[simp] theorem imgView_setLent (l : List Nat) : (s.setLent l).imgView = s.imgView := imgView_wr _ (by decide)

@[simp] theorem imgView_encClosed (status : Nat) : (s.encClosed status).imgView = s.imgView := by
  simp (disch := decide) [State.encClosed]

@[simp] theorem imgView_sessionClose : s.sessionClose.imgView = s.imgView := by
  simp (disch := decide) [State.sessionClose]

theorem imgView_scanEnd (status r0 r1 : Nat) : (s.scanEnd status r0 r1).imgView = s.imgView := by
  unfold State.scanEnd
  split <;> simp (disch := decide)

theorem imgView_stopPrint : s.stopPrint.imgView = s.imgView := by
  unfold State.stopPrint
  extract_lets t1 t2 t3
  have h2 : t2.imgView = s.imgView := by simp only [t2]; split <;> simp [t1]
  have h3 : t3.imgView = s.imgView := by simp only [t3]; split <;> simp [imgView_dryEnd, h2]
  simp [h3]

theorem imgView_stopFeed : s.stopFeed.imgView = s.imgView := by
  simp [State.stopFeed]

theorem imgView_stopRaster : s.stopRaster.imgView = s.imgView := by
  have hrender (s : State) (l : List Job) : (l.foldl (fun s j => s.endReceipt j.tag stAborted) s).imgView = s.imgView :=
    imgView_foldl s (fun s (j : Job) => imgView_endReceipt s j.tag stAborted 0 0) l
  have hbusy (s : State) (l : List Nat) : (l.foldl (fun s t => s.endCheck t stAborted) s).imgView = s.imgView :=
    imgView_foldl s (fun s t => imgView_endCheck s t stAborted) l
  have hslots (s : State) (l : List Nat) :
      (l.foldl (fun s i => if s.rd (bandState i) == 1 then s.freeSlot i else s) s).imgView = s.imgView :=
    imgView_foldl s (fun s i => by simp) l
  unfold State.stopRaster
  extract_lets busy t1 t2 t3 t4
  have h : t4.imgView = s.imgView := by simp only [t4, t3, t2, t1, imgView_setPrint, hslots, hbusy, hrender]
  exact h

theorem imgView_stopVidin : s.stopVidin.imgView = s.imgView := by
  unfold State.stopVidin
  extract_lets tags t
  have h : t.imgView = s.imgView := (imgView_setReg _ (by decide)).trans (imgView_sessionClose s)
  exact (imgView_endAll t tags stAborted).trans h

theorem imgView_stopEnc : s.stopEnc.imgView = s.imgView := by
  unfold State.stopEnc
  extract_lets close t
  have h : t.imgView = s.imgView := imgView_encClosed s stAborted
  clear_value close
  cases close
  · exact h
  · exact (imgView_endOpen t _ stAborted).trans h

end Kept
end Sys2Proof.Machine
end

section
/-! PROOFS. Reports of faults and the configuration of a rod: what they change of the state. -/

namespace Sys2Proof.Machine

/-! ### Faults that do not enter HELD (R525, R527) -/

theorem imgView_recordFault (s : State) (code p1 p2 : Nat) : (s.recordFault code p1 p2).imgView = s.imgView := by
  have hbuf (payload : List Nat) : (s.bufferRecord 3 payload).imgView = s.imgView := by
    unfold State.bufferRecord
    split
    · rfl
    · exact imgView_bump s (by decide)
  unfold State.recordFault
  split
  · exact imgView_bump s (by decide)
  · exact hbuf _

theorem imgView_addFault (s : State) (code p1 p2 : Nat) : (s.addFault code p1 p2).imgView = s.imgView := by
  unfold State.addFault
  extract_lets t1 t2
  have h : t2.imgView = s.imgView := by
    simp only [t2]
    split <;> exact imgView_recordFault s code p1 p2
  exact (imgView_vec t2 _).trans h

theorem imgView_faultMark (s : State) (code : Nat) : (s.faultMark code).imgView = s.imgView := by
  unfold State.faultMark
  split
  · split <;> rfl
  · rfl

theorem contains_freeCodes {code : Nat} (h : heldCodes.contains code = false) : freeCodes.contains code = false := by
  have hsub : ∀ c ∈ freeCodes, c ∈ heldCodes := by decide
  simp only [List.contains_eq_mem, decide_eq_false_iff_not] at h ⊢
  exact fun hm => h (hsub code hm)

/-- A fault whose response is not HELD leaves alone what images rest on. -/
theorem imgView_raise {code : Nat} (h : heldCodes.contains code = false) (s : State) (p1 p2 : Nat) :
    (s.raise code p1 p2).imgView = s.imgView := by
  have hadd : ((s.addFault code p1 p2).faultMark code).imgView = s.imgView :=
    (imgView_faultMark _ code).trans (imgView_addFault s code p1 p2)
  unfold State.raise
  split
  case h_1 => rfl
  case h_2 =>
    extract_lets t
    split
    · rfl
    · exact imgView_wr _ (by decide)
  case h_3 => simpa only [h, Bool.false_eq_true, if_false] using hadd
  case h_4 => simpa only [contains_freeCodes h, Bool.false_eq_true, if_false] using hadd

/-- No bead cause and no SELF_TEST enters HELD (R73, R74, R528). -/
theorem not_heldCode_cause (r : Rod) {c : Nat} (hc : c ∈ [causeMissing, causeRange, causeLength, causeSelfTest]) :
    heldCodes.contains (r.idx * 256 + c) = false := by
  have h : ∀ r ∈ Rod.all, ∀ c ∈ [causeMissing, causeRange, causeLength, causeSelfTest],
      heldCodes.contains (r.idx * 256 + c) = false := by decide +kernel
  exact h r (by cases r <;> decide) c hc

/-! ### The configuration of a rod (R68, R94) -/

/-- The field shares no bit with the state of the image and the bits of ROD_READY that CORE shows. -/
def Fld.aside (g : Fld) : Bool := g.apart CORE.IMG_STAT_STATE && g.apart CORE.ROD_READY_READY

/-- From `s` to `t` registers, the loops, RASTER's state and what is known of the strobes have changed, but neither the state of the
image nor a rod's readiness. -/
structure Configured (s t : State) : Prop where
  rest : t = { s with regs := t.regs, loops := t.loops, raster := t.raster, boot := { s.boot with
    strobesKnown := t.boot.strobesKnown, strobeIdle := t.boot.strobeIdle } }
  imgState : t.rd CORE.IMG_STAT_STATE = s.rd CORE.IMG_STAT_STATE
  ready : t.rd CORE.ROD_READY_READY = s.rd CORE.ROD_READY_READY

namespace Configured

variable {s t : State}

theorem refl (s : State) : Configured s s := ⟨rfl, rfl, rfl⟩

theorem trans {u : State} (h : Configured s t) (k : Configured t u) : Configured s u := by
  refine ⟨?_, k.imgState.trans h.imgState, k.ready.trans h.ready⟩
  have hrest := k.rest
  rw [h.rest] at hrest
  exact hrest

/-- A change beside the registers. -/
theorem beside (rest : t = { s with loops := t.loops, raster := t.raster, boot := { s.boot with
    strobesKnown := t.boot.strobesKnown, strobeIdle := t.boot.strobeIdle } }) : Configured s t := by
  have hregs : t.regs = s.regs := by rw [rest]
  refine ⟨?_, ?_, ?_⟩
  · rw [hregs]
    exact rest
  · simp only [State.rd, State.reg, hregs]
  · simp only [State.rd, State.reg, hregs]

theorem wr {g : Fld} {v : Nat} (hg : g.aside = true) (h : Configured s t) : Configured s (t.wr g v) := by
  simp only [Fld.aside, Bool.and_eq_true] at hg
  exact h.trans ⟨rfl, State.rd_wr_apart _ _ _ _ hg.1, State.rd_wr_apart _ _ _ _ hg.2⟩

theorem foldl {α : Type} {f : State → α → State} (l : List α) (hf : ∀ s, ∀ x ∈ l, Configured s (f s x)) (h : Configured s t) :
    Configured s (l.foldl f t) :=
  List.foldlRecOn l f h fun u hu x hx => hu.trans (hf u x hx)

theorem ite {c : Prop} [Decidable c] {u : State} (h : Configured s t) (k : Configured s u) : Configured s (if c then t else u) := by
  split <;> assumption

theorem imgView (h : Configured s t) : t.imgView = s.imgView :=
  imgView_eq_iff.mpr ⟨h.imgState, by rw [h.rest], by rw [h.rest], by rw [h.rest], by rw [h.rest], by rw [h.rest], by rw [h.rest]⟩

theorem boot (h : Configured s t) : t.boot.tested = s.boot.tested ∧ t.boot.resetting = s.boot.resetting := by
  rw [h.rest]
  exact ⟨rfl, rfl⟩

end Configured

theorem aside_behind {base m i k lo wid : Nat} (h : 0x40000200 < base) : Fld.aside ⟨base + m * (i % k), lo, wid⟩ = true := by
  have himg : base + m * (i % k) ≠ 0x40000100 := by omega
  have hready : base + m * (i % k) ≠ 0x40000200 := by omega
  simp [Fld.aside, Fld.apart, CORE.IMG_STAT_STATE, CORE.ROD_READY_READY, himg, hready]

/-- No field that an image supplies is one of those. -/
theorem imgFields_aside (r : Rod) : ∀ f ∈ imgFields r, f.fld.aside = true := by
  cases r <;> decide +kernel

theorem imgMaps_aside : ∀ f ∈ imgMaps, f.fld.aside = true := by decide +kernel

theorem configured_putFields (s : State) {l : List ImgField} (h : ∀ f ∈ l, f.fld.aside = true) : Configured s (s.putFields l) :=
  .foldl l (fun s f hf => .wr (h f hf) (.refl s)) (.refl s)

theorem configured_putClients (s : State) : Configured s s.putClients :=
  .foldl _ (fun s _ _ => .wr (aside_behind (by decide)) (.refl s)) (.refl s)

theorem configured_putLoops (s : State) : Configured s s.putLoops := by
  have hstart : Configured s { s with loops := {} } := .beside rfl
  refine .foldl _ (fun t k _ => ?_) hstart
  refine .wr (aside_behind (by decide)) (.wr (aside_behind (by decide)) ?_)
  exact .beside rfl

theorem configured_feedFields (s : State) : Configured s s.feedFields := by
  unfold State.feedFields
  extract_lets t1 used t2 t3
  have h1 : Configured s t1 := .ite (.wr (by decide) (.wr (by decide) (.refl s))) (.refl s)
  have h2 : Configured s t2 := .ite h1 (.wr (by decide) h1)
  have h3 : Configured s t3 := .ite h2 (.wr (by decide) h2)
  exact .ite h3 (.wr (by decide) h3)

theorem configured_strobes (s : State) (known : Bool) (idle : Nat) :
    Configured s { s with boot := { s.boot with strobesKnown := known, strobeIdle := idle } } :=
  .beside rfl

theorem configured_configRod (s : State) (r : Rod) : Configured s (s.configRod r) := by
  unfold State.configRod
  extract_lets t
  have h : Configured s t := configured_putFields s (imgFields_aside r)
  clear_value t
  cases r
  case core => exact .ite (.wr (by decide) h) (h.trans (configured_putFields t imgMaps_aside))
  case print => exact h.trans (configured_strobes t true _)
  case loop => exact h.trans ((configured_putLoops t).trans (configured_putClients _))
  case feed => exact h.trans ((configured_feedFields t).trans (configured_putClients _))
  case cut => exact h.trans (configured_putClients t)
  case flash => exact .ite h (.wr (by decide) (.wr (by decide) h))
  case supply => exact .ite h (.wr (by decide) h)
  case raster => exact h.trans (.beside rfl)
  case vidin => exact .wr (by decide) h
  all_goals exact h

/-- FLASH takes no field from an image, and with no modes known it selects none. -/
theorem configRod_flash {s : State} (h : s.fl.modes = 0) : s.configRod .flash = s :=
  if_pos (beq_iff_eq.mpr h)

end Sys2Proof.Machine
end

section
/-! PROOFS. Rod resets and self-tests. -/

namespace Sys2Proof.Machine

/-! ### The registers of one block (R16, R94) -/

theorem Store.get_append_of_left {α : Type} (d : α) {m n : Store α} {a : Nat} (h : ∀ p ∈ n, p.1 ≠ a) :
    Store.get d (m ++ n) a = Store.get d m a := by
  induction m with
  | nil =>
    rw [List.nil_append]
    induction n with
    | nil => rfl
    | cons p n ih =>
      obtain ⟨hp, hn⟩ := List.forall_mem_cons.mp h
      exact (if_neg hp).trans (ih hn)
  | cons p m ih => rw [List.cons_append, Store.get, Store.get, ih]

theorem Store.get_append_of_right {α : Type} (d : α) {m n : Store α} {a : Nat} (h : ∀ p ∈ m, p.1 ≠ a) :
    Store.get d (m ++ n) a = Store.get d n a := by
  induction m with
  | nil => rfl
  | cons p m ih =>
    obtain ⟨hp, hm⟩ := List.forall_mem_cons.mp h
    rw [List.cons_append, Store.get, if_neg hp, ih hm]

theorem reg_blockReset_inside (s : State) {r : Rod} {a : Nat} (hlo : rodBlock r ≤ a) (hhi : a < rodBlock r + 0x10000) :
    (s.blockReset r).reg a = State.reset.reg a := by
  unfold State.reg State.blockReset
  rw [Store.get_append_of_left, Store.get_append_of_right, Store.get_filter]
  · rfl
  · intro v
    simp only [hlo, hhi, decide_true, Bool.and_self]
  · intro p hp
    have := of_decide_eq_true (List.mem_filter.mp hp).2
    omega
  · intro p hp
    have := of_decide_eq_true (List.mem_filter.mp hp).2
    omega

theorem reg_blockReset_below (s : State) {r : Rod} {a : Nat} (h : a < rodBlock r) : (s.blockReset r).reg a = s.reg a := by
  unfold State.reg State.blockReset
  rw [Store.get_append_of_left, Store.get_append_of_left, Store.get_filter]
  · intro v
    exact decide_eq_true h
  · intro p hp
    have hp := (List.mem_filter.mp hp).2
    simp only [Bool.and_eq_true, decide_eq_true_eq] at hp
    omega
  · intro p hp
    have := of_decide_eq_true (List.mem_filter.mp hp).2
    omega

/-- CORE's registers lie below the block of every rod that can be reset. -/
theorem rodBlock_ge {r : Rod} (h : 2 ≤ r.idx) : 0x40020000 ≤ rodBlock r := by
  unfold rodBlock
  omega

/-! ### What ends -/

theorem imgView_lost (s : State) (r : Rod) : (s.lost r).imgView = s.imgView := by
  cases r <;> simp [State.lost]

theorem imgView_flashBusy (s : State) : s.flashBusy.imgView = s.imgView := by
  unfold State.flashBusy
  extract_lets t
  have h : t.imgView = s.imgView := imgView_wrB s (by decide)
  split <;> exact h

theorem imgView_decClosed (s : State) : s.decClosed.imgView = s.imgView := by
  have hpics (s : State) (l : List Nat) :
      (l.foldl (fun s i => s.wr ⟨DEC.PIC_BASE0_ADDR.addr + 4 * (i % 8), 0, 32⟩ 0) s).imgView = s.imgView :=
    imgView_foldl s (fun s i => imgView_wr_behind s (by decide)) l
  unfold State.decClosed
  simp (disch := decide) [hpics]

theorem imgView_stopDec (s : State) : s.stopDec.imgView = s.imgView := by
  have haus (s : State) (l : List Nat) : (l.foldl (fun s t => s.complete t stAborted 0 0) s).imgView = s.imgView :=
    imgView_foldl s (fun s t => imgView_complete s t stAborted 0 0) l
  unfold State.stopDec
  extract_lets aus close t
  have h : t.imgView = s.imgView := (haus _ aus).trans (imgView_decClosed s)
  clear_value close
  cases close
  · exact h
  · exact (imgView_endOpen t _ stAborted).trans h

/-- What ends with a rod's reset leaves alone what images rest on. FLASH's stop may complete a partial apply. -/
theorem imgView_rodStops (s : State) {r : Rod} (h : r ≠ .flash) : (s.rodStops r).imgView = s.imgView := by
  cases r
  case flash => exact absurd rfl h
  case print => exact imgView_stopPrint s
  case raster => exact imgView_stopRaster s
  case feed => exact imgView_stopFeed s
  case cut => exact imgView_cutAbort s 6
  case mover => exact imgView_stopMover s
  case ledger => exact imgView_flashBusy (s.setLed fun l => { l with compact := none })
  case vidin => exact imgView_stopVidin s
  case scan => exact imgView_scanEnd s stAborted 0 0
  case enc => exact imgView_stopEnc s
  case dec => exact imgView_stopDec s
  case supply | loop | therm => exact imgView_lost s _
  case core | link => rfl

/-! ### A reset up to its configuration (steps 1 to 3 of R94) -/

theorem vec_feed (s : State) (v : Nat) : (s.vec v).feed = s.feed := by
  unfold State.vec
  split <;> rfl

theorem ready_clearReady (s : State) (r : Rod) : (s.clearReady r).ready r = false := by
  rw [State.ready, State.rdBit, State.clearReady, State.rodVec, rd_vec _ _ _ (by decide), ← State.rdBit,
    rdBit_wrBit _ _ _ _ (rod_idx_lt r), if_pos rfl]

theorem imgView_clearReady (s : State) (r : Rod) : (s.clearReady r).imgView = s.imgView := by
  simp (disch := decide) [State.clearReady]

theorem pllvAgain_frame (s : State) (r : Rod) :
    (s.pllvAgain r).regs = s.regs ∧ (s.pllvAgain r).boot = s.boot ∧ (s.pllvAgain r).feed = s.feed ∧
      (s.pllvAgain r).imgView = s.imgView := by
  unfold State.pllvAgain
  split <;> exact ⟨rfl, rfl, rfl, rfl⟩

theorem testBit_sub_self (n i : Nat) : (n - (n &&& 2 ^ i)).testBit i = false := by
  rw [testBit_sub_and, Nat.testBit_two_pow_self, Bool.not_true, Bool.and_false]

/-- The rod's mark is set. -/
theorem resetting_markReset (s : State) (r : Rod) : (s.markReset r true).boot.resetting.testBit r.idx = true := by
  have h := testBit_sub_self s.boot.resetting r.idx
  simp only [State.markReset, if_true]
  rw [Nat.add_comm, Nat.testBit_two_pow_add_eq, h, Bool.not_false]

/-- What a rod reset has done before the rod takes its configuration again. -/
def State.resetBegun (s : State) (r : Rod) : State :=
  let s := ((s.rodStops r).clearReady r).clearFault (256 * r.idx + 0xD0)
  ((s.untested (2 ^ r.idx)).markReset r true).pllvAgain r

theorem resetRod_eq (s : State) (r : Rod) : s.resetRod r =
    if r == .feed && (s.resetBegun r).feedMoving then s.resetBegun r else (s.resetBegun r).restore r := rfl

theorem resetBegun_boot (s : State) (r : Rod) :
    (s.resetBegun r).boot.tested.testBit r.idx = false ∧ (s.resetBegun r).boot.resetting.testBit r.idx = true := by
  rw [State.resetBegun, (pllvAgain_frame _ r).2.1]
  exact ⟨testBit_sub_self _ r.idx, resetting_markReset _ r⟩

theorem ready_resetBegun (s : State) (r : Rod) : (s.resetBegun r).ready r = false := by
  have hregs : (s.resetBegun r).regs = ((s.rodStops r).clearReady r).regs := (pllvAgain_frame _ r).1
  rw [← ready_clearReady (s.rodStops r) r]
  simp only [State.ready, State.rdBit, State.rd, State.reg, hregs]

theorem imgView_resetBegun (s : State) {r : Rod} (h : r ≠ .flash) : (s.resetBegun r).imgView = s.imgView :=
  (pllvAgain_frame _ r).2.2.2.trans ((imgView_clearReady _ r).trans (imgView_rodStops s h))

theorem feedMoving_resetBegun (s : State) : (s.resetBegun .feed).feedMoving = s.stopFeed.feedMoving := by
  have hfeed : (s.resetBegun .feed).feed = s.stopFeed.feed :=
    (pllvAgain_frame _ .feed).2.2.1.trans (vec_feed _ _)
  simp only [State.feedMoving, hfeed]

/-- A rod other than FEED with its paper in motion takes its configuration at once. -/
theorem resetRod_restore {s : State} {r : Rod} (h : r ≠ .feed ∨ s.stopFeed.feedMoving = false) :
    s.resetRod r = (s.resetBegun r).restore r := by
  rw [resetRod_eq, if_neg]
  rw [Bool.and_eq_true, beq_iff_eq]
  rintro ⟨rfl, hm⟩
  rw [feedMoving_resetBegun] at hm
  exact h.elim (· rfl) (by simp [hm])

theorem imageApplied_of_imgView {s t : State} (h : t.imgView = s.imgView) : t.imageApplied = s.imageApplied := by
  rw [State.imageApplied, State.imageApplied, (imgView_eq_iff.mp h).1]

/-! ### The configuration taken again (step 4 of R94) -/

theorem rodRestart_frame (s : State) (r : Rod) : (s.rodRestart r).regs = s.regs ∧ (s.rodRestart r).boot = s.boot := by
  cases r <;> exact ⟨rfl, rfl⟩

/-- A rod's state and registers as after a reset. -/
def State.blank (s : State) (r : Rod) : State := (s.rodRestart r).blockReset r

theorem rd_blank_below (s : State) {r : Rod} {f : Fld} (h : f.addr < rodBlock r) : (s.blank r).rd f = s.rd f := by
  simp only [State.rd, State.blank, reg_blockReset_below _ h]
  simp only [State.reg, (rodRestart_frame s r).1]

theorem rd_blank_inside (s : State) {r : Rod} {f : Fld} (hlo : rodBlock r ≤ f.addr) (hhi : f.addr < rodBlock r + 0x10000) :
    (s.blank r).rd f = State.reset.rd f := by
  simp only [State.rd, State.blank, reg_blockReset_inside _ hlo hhi]

/-- The state before the fields that report what goes on are put back. -/
def State.reconfigured (s : State) (r : Rod) : State :=
  if (s.blank r).imageApplied then (s.blank r).configRod r else s.blank r

theorem configured_reconfigured (s : State) (r : Rod) : Configured (s.blank r) (s.reconfigured r) :=
  .ite (configured_configRod _ r) (.refl _)

theorem boot_blank (s : State) (r : Rod) : (s.blank r).boot = s.boot := (rodRestart_frame s r).2

/-- What is put back writes the fields that report what goes on, FEED's state and the mark of a settled VCORE. -/
structure PutBack (r : Rod) (s t : State) : Prop where
  boot : t.boot = s.boot
  rd : ∀ f : Fld, (∀ g ∈ liveFields r ++ [FEED.STAT_STATE, SUPPLY.VCORE_STAT_SETTLED], g.apart f = true) → t.rd f = s.rd f

theorem PutBack.wr {r : Rod} {s t : State} {g : Fld} {v : Nat} (h : PutBack r s t)
    (hg : g ∈ liveFields r ++ [FEED.STAT_STATE, SUPPLY.VCORE_STAT_SETTLED]) : PutBack r s (t.wr g v) :=
  ⟨h.boot, fun f hf => (State.rd_wr_apart _ _ _ _ (hf g hg)).trans (h.rd f hf)⟩

theorem PutBack.ite {r : Rod} {c : Prop} [Decidable c] {s t u : State} (h : PutBack r s t) (k : PutBack r s u) :
    PutBack r s (if c then t else u) := by
  split <;> assumption

theorem putBack_restore (s : State) (r : Rod) : PutBack r (s.reconfigured r) (s.restore r) := by
  unfold State.restore
  extract_lets live brake level t1 t2 t3 t4
  have h3 : PutBack r (s.reconfigured r) t3 := by
    refine List.foldlRecOn (motive := PutBack r (s.reconfigured r)) live _ ⟨rfl, fun _ _ => rfl⟩ fun t ht p hp => ?_
    obtain ⟨g, hg, rfl⟩ := List.mem_map.mp hp
    exact ht.wr (List.mem_append_left _ hg)
  have h4 : PutBack r (s.reconfigured r) t4 := .ite h3 (h3.wr (by simp))
  exact .ite (h4.wr (by simp)) h4

theorem boot_restore (s : State) (r : Rod) :
    (s.restore r).boot.tested = s.boot.tested ∧ (s.restore r).boot.resetting = s.boot.resetting := by
  rw [(putBack_restore s r).boot, ← boot_blank s r]
  exact (configured_reconfigured s r).boot

theorem ready_restore (s : State) {r : Rod} (h : 2 ≤ r.idx) : (s.restore r).ready r = s.ready r := by
  have hlive : ∀ r ∈ Rod.all, ∀ g ∈ liveFields r ++ [FEED.STAT_STATE, SUPPLY.VCORE_STAT_SETTLED],
      g.apart CORE.ROD_READY_READY = true := by decide +kernel
  have hbelow : CORE.ROD_READY_READY.addr < rodBlock r := Nat.lt_of_lt_of_le (by decide) (rodBlock_ge h)
  simp only [State.ready, State.rdBit]
  rw [(putBack_restore s r).rd _ (hlive r (by cases r <;> decide)), (configured_reconfigured s r).ready, rd_blank_below s hbelow]

/-- FLASH takes nothing from an image in its reset, and no other rod does without one. -/
theorem reconfigured_blank {s : State} {r : Rod} (hr : 2 ≤ r.idx) (h : r = .flash ∨ s.imageApplied = false) :
    s.reconfigured r = s.blank r := by
  unfold State.reconfigured
  rcases h with rfl | h
  · split
    · exact configRod_flash rfl
    · rfl
  · have hbelow : CORE.IMG_STAT_STATE.addr < rodBlock r := Nat.lt_of_lt_of_le (by decide) (rodBlock_ge hr)
    have hblank : (s.blank r).imageApplied = false := by
      rw [← h, State.imageApplied, State.imageApplied, rd_blank_below s hbelow]
    rw [hblank, if_neg Bool.false_ne_true]

/-- The mark of a settled VCORE is among SUPPLY's own fields, and lies outside every other rod's block. -/
theorem settled_apart {r : Rod} {f : Fld} (hlo : rodBlock r ≤ f.addr) (hhi : f.addr < rodBlock r + 0x10000)
    (hf : ∀ g ∈ liveFields r ++ [FEED.STAT_STATE], g.apart f = true) : SUPPLY.VCORE_STAT_SETTLED.apart f = true := by
  by_cases hr : r = .supply
  · subst hr
    exact hf _ (by decide)
  · have hidx : r.idx ≠ 5 := fun h => hr (rod_idx_inj.mp h)
    have haddr : SUPPLY.VCORE_STAT_SETTLED.addr ≠ f.addr := by
      have h5 : SUPPLY.VCORE_STAT_SETTLED.addr / 0x10000 = 0x4005 := by decide
      unfold rodBlock at hlo hhi
      omega
    simp [Fld.apart, haddr]

theorem rd_restore_reset {s : State} {r : Rod} {f : Fld} (hr : 2 ≤ r.idx) (h : r = .flash ∨ s.imageApplied = false)
    (hlo : rodBlock r ≤ f.addr) (hhi : f.addr < rodBlock r + 0x10000)
    (hf : ∀ g ∈ liveFields r ++ [FEED.STAT_STATE], g.apart f = true) : (s.restore r).rd f = State.reset.rd f := by
  have hclear : ∀ g ∈ liveFields r ++ [FEED.STAT_STATE, SUPPLY.VCORE_STAT_SETTLED], g.apart f = true := by
    have hsettled := settled_apart hlo hhi hf
    simp only [List.mem_append, List.mem_cons, List.not_mem_nil, or_false] at hf ⊢
    rintro g (hg | rfl | rfl)
    · exact hf g (.inl hg)
    · exact hf _ (.inr rfl)
    · exact hsettled
  rw [(putBack_restore s r).rd f hclear, reconfigured_blank hr h, rd_blank_inside s hlo hhi]

/-! ### Self-tests (R68, R91, R94) -/

theorem testPassed_tested (s : State) (r : Rod) : (s.testPassed r).boot.tested.testBit r.idx = true := by
  change (s.boot.tested ||| 2 ^ r.idx).testBit r.idx = true
  rw [Nat.testBit_or, Nat.testBit_two_pow_self, Bool.or_true]

theorem testPassed_hasFault (s : State) (r : Rod) : (s.testPassed r).hasFault (256 * r.idx + 0xE3) = false := by
  simp [State.hasFault, State.testPassed, State.clearFault, causeSelfTest]

theorem rescan_frame (s : State) : s.rescan.boot = s.boot ∧ s.rescan.faults = s.faults := by
  unfold State.rescan
  split <;> exact ⟨rfl, rfl⟩

/-- What passes by a rod's own checks, but for CUT, LEDGER and SUPPLY, makes it tested and clears its SELF_TEST cause. -/
theorem plainTest_passed (s : State) {r : Rod} (h : r ∉ [Sys2Proof.Rod.cut, Rod.ledger, Rod.supply]) :
    (s.plainTest r).boot.tested.testBit r.idx = true ∧ (s.plainTest r).hasFault (256 * r.idx + 0xE3) = false := by
  cases r
  case cut | ledger | supply => simp at h
  case raster =>
    have hrescan := rescan_frame (((((s.bankTest 0).bankTest 1).bankTest 2)).testPassed .raster)
    simp only [State.plainTest, State.hasFault, hrescan]
    exact ⟨testPassed_tested _ .raster, testPassed_hasFault _ .raster⟩
  all_goals exact ⟨testPassed_tested s _, testPassed_hasFault s _⟩

theorem exec_selfTestDone_pass {s : State} {r : Rod} (hd : s.testDue r = true) (hr : r ∉ [Rod.print, Rod.feed, Rod.vidin]) :
    exec (.selfTestDone r .pass) s = .next (s.plainTest r).settle := by
  change execSelfTestDone r .pass s = _
  cases r
  case print | feed | vidin => simp at hr
  all_goals simp [execSelfTestDone, hd]

theorem exec_selfTestDone_fail {s : State} {r : Rod} (hd : s.testDue r = true) (hr : r ≠ .vidin) :
    exec (.selfTestDone r .fail) s = .next (s.testFailed r).settle := by
  change execSelfTestDone r .fail s = _
  cases r
  case vidin => exact absurd rfl hr
  all_goals simp [execSelfTestDone, hd]

theorem exec_selfTestDone_head {s : State} (hd : s.testDue .print = true) (m : HeadMeas) (leak : BitVec 16) :
    exec (.selfTestDone .print (.head m leak)) s = .next ((s.testPassed .print).headTest m leak.toNat).settle := by
  simp [exec, execSelfTestDone, hd]

theorem exec_selfTestDone_motor {s : State} (hd : s.testDue .feed = true) (hb : s.boot.brake = 0) (hm : s.feedMoving = false)
    (hrun : s.base = .run) (m : List WindingMeas) (hall : BitVec 3) :
    exec (.selfTestDone .feed (.motor m hall)) s =
      .next ((if s.boot.resetting.testBit 8 then s.restore .feed else s).motorTest m hall.toNat).settle := by
  simp [exec, execSelfTestDone, hd, hb, hm, hrun]

theorem exec_selfTestDone_camera {s : State} (hd : s.testDue .vidin = true) (hp : s.pllvOn = true) (n : Negotiation) :
    exec (.selfTestDone .vidin (.camera n)) s = .next (s.cameraTest n).settle := by
  simp [exec, execSelfTestDone, hd, hp]

theorem exec_selfTestDone_vidin_fail {s : State} (hd : s.testDue .vidin = true) :
    exec (.selfTestDone .vidin .fail) s = .next ((s.testFailed .vidin).renegotiated false).settle := by
  simp [exec, execSelfTestDone, hd]

/-- A SELF_TEST fault leaves what is held of images as it was. -/
theorem raise_selfTest_img (s : State) (r : Rod) (p1 p2 : Nat) : (s.raise (r.idx * 256 + causeSelfTest) p1 p2).img = s.img :=
  (imgView_eq_iff.mp (imgView_raise (not_heldCode_cause r (by simp)) s p1 p2)).2.1

/-! ### The statement -/

theorem exec_rodReset {s : State} (h : Safety.takes s .core) (w : Word) :
    exec (.rodReset w) s = .next ((s.resetRods w).foldl (fun s r => s.resetRod r) s.idleRestart).settle :=
  congrArg Host.Outcome.next (hostReg_takes h fun s => s.writeRodReset w)

theorem mem_resetRods {s : State} {w : Word} {r : Rod} : r ∈ s.resetRods w ↔
    2 ≤ r.idx ∧ w.toNat.testBit r.idx = true ∧ s.has r = true ∧ s.partialTargets.testBit r.idx = false := by
  have hall : r ∈ Rod.all := by cases r <;> decide
  simp [State.resetRods, List.mem_filter, hall, and_assoc]

/-- Settles O22: a reset ends what the rod does and clears READY, its block is reset but for the live fields, and each clause on
self-tests is one branch of the event. -/
theorem rodResetsAndTests : Obligations.RodResetsAndTests := by
  refine ⟨fun w s h => exec_rodReset h w, fun w s r => mem_resetRods, fun s r hr hm => ?reset,
    fun s r hd hr => ⟨exec_selfTestDone_pass hd hr, plainTest_passed s⟩, fun s => ⟨fun h => ?waits, fun h => ?settled⟩,
    fun s r hd hr => ?fails, fun s m l hd => exec_selfTestDone_head hd m l,
    fun s m h hd hb hm hrun => exec_selfTestDone_motor hd hb hm hrun m h, fun s n hd hp => exec_selfTestDone_camera hd hp n,
    fun s hd => exec_selfTestDone_vidin_fail hd⟩
  case reset =>
    intro x
    have hx : x = (s.resetBegun r).restore r := resetRod_restore hm
    obtain ⟨htested, hresetting⟩ := boot_restore (s.resetBegun r) r
    rw [hx, htested, hresetting, ready_restore _ hr]
    refine ⟨(resetBegun_boot s r).1, (resetBegun_boot s r).2, ready_resetBegun s r, fun himg f hlo hhi hf => ?_⟩
    refine rd_restore_reset hr ?_ hlo hhi hf
    by_cases hflash : r = .flash
    · exact .inl hflash
    · exact .inr ((imageApplied_of_imgView (imgView_resetBegun s hflash)).trans himg)
  case waits => simp [State.plainTest, State.flag, h]
  case settled =>
    simp only [State.plainTest, State.flag, h]
    exact testPassed_tested s .supply
  case fails =>
    have himg : (s.testFailed r).img.beads = s.img.beads ∧ (s.testFailed r).img.causes = s.img.causes := by
      have h := raise_selfTest_img (s.markReset r false) r 0 0
      simp only [State.testFailed, State.targetFailed, State.setImg_img, h]
      exact ⟨rfl, rfl⟩
    exact ⟨s.testFailed r, exec_selfTestDone_fail hd hr, rfl, himg⟩

end Sys2Proof.Machine
end

section
/-! PROOFS. Images: the commands that program OTP, the start and the end of a verification, and a FULL image's application. -/

namespace Sys2Proof.Machine

/-! ### OTP (R51, R53) -/

section
variable {tag : Fin 64} {s : State} {c : Cmd} (hc : s.cmd? tag = some c) (ha : s.awake = true)
include hc ha

theorem exec_imageConfirm (hop : c.op = 0x02) (hr : s.slotRuns = true) :
    exec (.imageConfirm tag) s = .next ((({ s with otp := { s.otp with
      rollback := max s.otp.rollback (s.rd CORE.IMG_VER_ROLLBACK) } } : State).complete tag stOK
        (max s.otp.rollback (s.rd CORE.IMG_VER_ROLLBACK)) 0).settle) := by
  change execImageConfirm tag s = _
  simp only [execImageConfirm, hc, hop, ha, hr, beq_self_eq_true, Bool.and_self, if_true]

theorem exec_imageConfirm_refused (hop : c.op = 0x02) (hr : s.slotRuns = false) :
    exec (.imageConfirm tag) s = .next (s.complete tag stBadParam s.otp.rollback 0).settle := by
  change execImageConfirm tag s = _
  simp only [execImageConfirm, hc, hop, ha, hr, beq_self_eq_true, Bool.and_self, Bool.false_eq_true, if_true, if_false]

/-- The freeze hash is programmed where the key, the source and the image allow it and none has been. -/
theorem exec_freezeCommit (hop : c.op = 0x03) : exec (.freezeCommit tag) s =
    if c.p0 = 0x465A ∧ s.slotRuns = true ∧ s.img.subject = true ∧ s.otp.frozen = none then
      .next (({ s with otp := { s.otp with frozen := some s.img.structHash } } : State).complete tag stOK
        (leNat (s.img.structHash.take 4)) 0).settle
    else .next (s.endOpen tag stBadParam).settle := by
  change execFreezeCommit tag s = _
  simp only [execFreezeCommit, hc, hop, ha, beq_self_eq_true, Bool.and_self, if_true, Bool.and_eq_true, beq_iff_eq,
    Option.isNone_iff_eq_none, and_assoc]

end

/-! ### The start of a verification (R59, R63) -/

theorem exec_imgPush {s : State} (h : Safety.takes s .core) (w : Word) :
    exec (.imgPush w) s = .next (s.idleRestart.writeImgPush w) :=
  congrArg Host.Outcome.next (hostReg_takes h fun s => s.writeImgPush w)

theorem writeImgPush_starts {s : State} {w : Word} (hw : field w 0 1 = 1) (hs : s.rd CORE.IMG_STAT_STATE = 2) :
    s.writeImgPush w =
      (s.setImg fun i => { i with verify := .push (16 * s.rd CORE.IMG_ADDR_ADDR) }).wr CORE.IMG_STAT_STATE 1 := by
  simp only [State.writeImgPush, hw, hs, beq_self_eq_true, Bool.and_self, if_true]

theorem writeImgPush_ignored {s : State} {w : Word} (h : field w 0 1 = 0 ∨ s.rd CORE.IMG_STAT_STATE ≠ 2) :
    s.writeImgPush w = s := by
  refine if_neg ?_
  rw [Bool.and_eq_true, beq_iff_eq, beq_iff_eq]
  rintro ⟨hw, hs⟩
  rcases h with h | h
  · omega
  · exact h hs

theorem exec_partialApply {tag : Fin 64} {s : State} {c : Cmd} (hc : s.cmd? tag = some c) (hop : c.op = 0x01)
    (hstart : c.started = false) (ha : s.awake = true) (hf : s.firstPartial tag = true) :
    exec (.partialApply tag) s =
      if s.imageApplied = false then .next (s.endOpen tag stBadParam).settle
      else .next (((s.start tag).setImg fun i => { i with verify := .partialImg tag }).wr CORE.IMG_STAT_STATE 4) := by
  change execPartialApply tag s = _
  simp only [execPartialApply, hc, hop, hstart, ha, hf, beq_self_eq_true, Bool.not_false, Bool.and_self, if_true,
    Bool.not_eq_true']

/-! ### The end of a verification (R55, R57, R59) -/

theorem imgView_readImage (s : State) (a region : Nat) (w : Offer) : (s.readImage a region w).1.imgView = s.imgView := by
  unfold State.readImage
  have hhead := imgView_readMem s .sram a (min region 0x180)
  generalize s.readMem .sram a (min region 0x180) = p at hhead
  obtain ⟨t, head⟩ := p
  dsimp only
  split
  · have hbody := imgView_readMem t .sram (a + 0x180) (hdrLen head - 0x180)
    generalize t.readMem .sram (a + 0x180) (hdrLen head - 0x180) = q at hbody
    exact hbody.trans hhead
  · exact hhead

theorem exec_imageVerified_slot {s : State} {k : Nat} {rest : List Nat} {named : Bool} (ha : s.awake = true)
    (hv : s.img.verify = .slot k rest named) :
    exec .imageVerified s = .next (s.slotVerifiedAt k rest named).settle := by
  change execImageVerified s = _
  simp only [execImageVerified, ha, hv, if_true]

theorem slotVerifiedAt_passes {s : State} {k : Nat} (h : verifyImage s.otp s.slotSize .boot (s.slotBytes k) = 0)
    (rest : List Nat) (named : Bool) : s.slotVerifiedAt k rest named = s.applyFull (s.slotBytes k) k := by
  simp only [State.slotVerifiedAt, h, beq_self_eq_true, if_true]

theorem slotVerifiedAt_last {s : State} {k n : Nat} (h : verifyImage s.otp s.slotSize .boot (s.slotBytes k) = n) (hn : n ≠ 0)
    (named : Bool) : s.slotVerifiedAt k [] named = (s.failStep n).waitHost := by
  simp only [State.slotVerifiedAt, h, beq_false_of_ne hn, Bool.false_eq_true, if_false]

theorem slotVerifiedAt_next {s : State} {k n j : Nat} {js : List Nat}
    (h : verifyImage s.otp s.slotSize .boot (s.slotBytes k) = n) (hn : n ≠ 0) :
    s.slotVerifiedAt k (j :: js) false = (s.failStep n).trySlot j js false := by
  simp only [State.slotVerifiedAt, h, beq_false_of_ne hn, Bool.false_eq_true, if_false]

theorem exec_imageVerified_push {s : State} {a : Nat} (ha : s.awake = true) (hv : s.img.verify = .push a) :
    let r := s.readImage a (pushRegion a) .boot
    exec .imageVerified s = .next (if verifyImage s.otp (pushRegion a) .boot r.2 = 0 then r.1.applyFull r.2 3
      else (r.1.failStep (verifyImage s.otp (pushRegion a) .boot r.2)).waitHost).settle := by
  intro r
  have hotp : r.1.otp = s.otp := (imgView_eq_iff.mp (imgView_readImage s a (pushRegion a) .boot)).2.2.2.1
  change execImageVerified s = _
  simp only [execImageVerified, ha, hv, if_true, State.pushVerified, ← hotp, beq_iff_eq]
  rfl

theorem targetsOf_congr {s t : State} (h : t.part = s.part) (b : List Nat) : t.targetsOf b = s.targetsOf b := by
  simp only [State.targetsOf, State.has, h]

/-- What becomes of a partial image whose bytes have been read (R55, R62, R65, R66, R71). -/
def State.partialRead (x : State) (tag n : Nat) (b : List Nat) (rs : List Rod) : State :=
  if n ≠ 0 then (x.failStep n).endPartial tag stAuth
  else if hdrPartial b = false then x.endPartial tag stBadParam
  else if x.base = .held ∧ (rs.any fun r => [Rod.supply, .print, .feed, Sys2Proof.Rod.cut].contains r) = true then x.endPartial tag stHeld
  else if x.targetsIdle rs = false then x.endPartial tag stBusy
  else if rs = [] then (x.wr CORE.IMG_STAT_STATE 3).complete tag stOK 0 0
  else x.applyPartial tag b rs

theorem exec_imageVerified_partial {s : State} {t : Nat} {c : Cmd} (ha : s.awake = true) (hv : s.img.verify = .partialImg t)
    (hc : s.cmd? t = some c) :
    let r := ({ s with img := { s.img with verify := .none } } : State).readImage c.p0 c.p1 .partialApply
    exec .imageVerified s =
      .next (r.1.partialRead t (verifyImage s.otp c.p1 .partialApply r.2) r.2 (s.targetsOf r.2)).settle := by
  intro r
  obtain ⟨-, -, -, hotp, -, -, hpart⟩ := imgView_eq_iff.mp
    (imgView_readImage { s with img := { s.img with verify := .none } } c.p0 c.p1 .partialApply)
  have hrs : s.targetsOf r.2 = r.1.targetsOf r.2 := (targetsOf_congr hpart r.2).symm
  change execImageVerified s = _
  rw [hrs, show s.otp = r.1.otp from hotp.symm]
  simp only [execImageVerified, ha, hv, if_true, State.partialVerified, hc, State.partialRead, bne_iff_ne, Bool.not_eq_true',
    Bool.and_eq_true, beq_iff_eq, List.isEmpty_iff]
  rfl

/-! ### A FULL image in force (R61, R62, R101) -/

section Kept
variable (s : State)

theorem imgView_disableQueue (q err : Nat) : (s.disableQueue q err).imgView = s.imgView := by
  have hone (t : State) (c : Compl) : (c.tag.elim t fun a => t.endAborts a c.status).imgView = t.imgView := by
    cases c.tag <;> simp
  have hheld (t : State) (l : List Compl) :
      (l.foldl (fun s c => c.tag.elim s fun t => s.endAborts t c.status) t).imgView = t.imgView :=
    imgView_foldl t (fun s (c : Compl) => hone s c) l
  unfold State.disableQueue
  extract_lets held t1 t2 t3
  have h : t2.imgView = s.imgView := hheld t1 held
  simp [t3, h, VEC.Q_SQ_IDX_HEAD, VEC.Q_CFG_EN, VEC.Q_STAT_ERR]

theorem imgView_checkRings : s.checkRings.imgView = s.imgView := by
  refine imgView_foldl s (fun s q => ?_) _
  split
  · exact (imgView_queueVec _ q).trans (imgView_disableQueue s q 2)
  · rfl

theorem imgView_rescan : s.rescan.imgView = s.imgView := by
  simp (disch := decide) [State.rescan]

theorem imgView_relock (mhz : Nat) : (s.relock mhz).imgView = s.imgView :=
  (imgView_wr _ (by decide)).trans (imgView_wr _ (by decide))

theorem imgView_dvfsRelock (p : DvfsPhase) : (s.dvfsRelock p).imgView = s.imgView := by
  have h : ((s.phase p).relock (s.rd (oppMhz s.clk.point))).imgView = s.imgView := imgView_relock (s.phase p) _
  simp (disch := decide) [State.dvfsRelock, State.attempt, h]

theorem imgView_dvfsDone : s.dvfsDone.imgView = s.imgView :=
  (imgView_rodVec _ .core).trans ((imgView_wr _ (by decide)).trans (imgView_wr s (by decide)))

theorem imgView_dvfsSettled : s.dvfsSettled.imgView = s.imgView := by
  unfold State.dvfsSettled
  split
  · split
    · exact imgView_dvfsRelock s .relockUp
    · exact imgView_dvfsDone s
    · exact imgView_dvfsDone s
    · rfl
  · rfl

theorem imgView_dvfsVcore (p : DvfsPhase) : (s.dvfsVcore p).imgView = s.imgView := by
  have h (t : State) (lvl : Nat) : (t.vcoreTarget lvl).imgView = t.imgView := by
    simp (disch := decide) [State.vcoreTarget]
  exact (imgView_dvfsSettled _).trans (h (s.phase p) _)

theorem imgView_dvfsStart (p : Nat) : (s.dvfsStart p).imgView = s.imgView := by
  unfold State.dvfsStart
  extract_lets f1 f2 t
  have h : t.imgView = s.imgView := (imgView_wr _ (by decide)).trans (imgView_wr _ (by decide))
  split
  · exact (imgView_dvfsVcore t .rise).trans h
  · split
    · exact (imgView_dvfsRelock t .relockDown).trans h
    · exact (imgView_dvfsVcore t .level).trans h

theorem imgView_raiseCauses (r : Rod) : (s.raiseCauses r).imgView = s.imgView := by
  refine List.foldlRecOn (motive := fun t : State => t.imgView = s.imgView) _ _ rfl fun t ht c hc => ?_
  have hraise (p : Nat) : (t.raise (r.idx * 256 + c) 0 p).imgView = s.imgView :=
    (imgView_raise (not_heldCode_cause r (List.mem_append_left [causeSelfTest] hc)) t 0 p).trans ht
  extract_lets l
  clear_value l
  cases l
  · exact ht
  · exact hraise _

/-- The rods' configuration changes, of what images rest on, the beads and their causes alone. -/
theorem imgView_configRods (b : List Nat) (rs : List Rod) :
    (s.configRods b rs).imgView = ({ s with img := s.newConfig b rs } : State).imgView := by
  unfold State.configRods
  extract_lets i t1 t2 t3
  have h3 : t3.imgView = t1.imgView := imgView_bump t1 (by decide)
  exact (imgView_foldl t3 (fun s r => (imgView_raiseCauses _ r).trans (configured_configRod s r).imgView) rs).trans h3

end Kept

theorem configRods_frame (s : State) (b : List Nat) (rs : List Rod) :
    let x := s.configRods b rs
    x.img = s.newConfig b rs ∧ x.otp = s.otp ∧ x.base = s.base ∧ x.clock = s.clock := by
  intro x
  have hview : x.imgView = ({ s with img := s.newConfig b rs } : State).imgView := imgView_configRods s b rs
  clear_value x
  obtain ⟨-, himg, -, hotp, hbase, hclock, -⟩ := imgView_eq_iff.mp hview
  exact ⟨himg, hotp, hbase, hclock⟩

theorem newConfig_congr {s t : State} (h : t.img = s.img) (b : List Nat) (rs : List Rod) :
    t.newConfig b rs = s.newConfig b rs := by
  simp only [State.newConfig, h]

/-- A FULL image with its rods configured, before the heartbeat and the rest of CORE follow it. -/
def State.fullConfigured (s : State) (b : List Nat) (source : Nat) : State :=
  let s := ((s.wr CORE.IMG_STAT_STATE 3).wr CORE.IMG_STAT_SOURCE source).wr CORE.IMG_VER_ROLLBACK (hdrRollback b)
  let s := s.wr CORE.IMG_SERIAL_SERIAL (hdrSerial b)
  (s.configRods b (s.targetsOf b)).setImg fun i =>
    { i with structHash := structuralHash b, subject := hdrSubject b, verify := .none }

theorem fullConfigured_frame (s : State) (b : List Nat) (source : Nat) :
    let x := s.fullConfigured b source
    x.img = { s.newConfig b (s.targetsOf b) with structHash := structuralHash b, subject := hdrSubject b, verify := .none } ∧
      x.otp = s.otp ∧ x.base = s.base ∧ x.clock = s.clock := by
  intro x
  let t2 : State := (((s.wr CORE.IMG_STAT_STATE 3).wr CORE.IMG_STAT_SOURCE source).wr CORE.IMG_VER_ROLLBACK (hdrRollback b)).wr
    CORE.IMG_SERIAL_SERIAL (hdrSerial b)
  have ht : t2.img = s.img ∧ t2.otp = s.otp ∧ t2.base = s.base ∧ t2.clock = s.clock ∧ t2.part = s.part := by
    simp only [t2, State.wr_img, State.wr_otp, State.wr_base, State.wr_clock, State.wr_part, and_self]
  have hx : x = (t2.configRods b (t2.targetsOf b)).setImg fun i =>
    { i with structHash := structuralHash b, subject := hdrSubject b, verify := .none } := rfl
  clear_value x t2
  obtain ⟨himg, hotp, hbase, hclock, hpart⟩ := ht
  rw [targetsOf_congr hpart] at hx
  obtain ⟨himg', hotp', hbase', hclock'⟩ := configRods_frame t2 b (s.targetsOf b)
  rw [hx, State.setImg_img, State.setImg_otp, State.setImg_base, State.setImg_clock, himg', newConfig_congr himg]
  exact ⟨rfl, hotp'.trans hotp, hbase'.trans hbase, hclock'.trans hclock⟩

/-- What follows the configuration restarts the heartbeat's count, and leaves the image as it is. -/
theorem applyFull_frame (s : State) (b : List Nat) (source : Nat) :
    let x := s.applyFull b source
    let t := s.fullConfigured b source
    x.img = t.img ∧ x.clk.hbSince = t.clock ∧ x.otp = t.otp ∧ x.base = t.base := by
  intro x t
  let u : State := if source = 3 then t else (t.wr FLASH.SLOTS_RUNNING source).wr (slotFld source) slotVerified
  let v : State := u.hbRestart.checkRings.rescan
  have hu : u.imgView = t.imgView := by
    have hslot : (slotFld source).apart CORE.IMG_STAT_STATE = true := by
      unfold slotFld
      split <;> decide
    simp only [u]
    split
    · rfl
    · exact (imgView_wr _ hslot).trans (imgView_wr t (by decide))
  have hx : x = if v.coreCause then (v.wr CORE.DVFS_STAT_CUR_POINT 1).setClk fun c => { c with inForce := true }
      else v.dvfsStart (v.rd CORE.DVFS_POINT) := rfl
  have hv : x.imgView = u.hbRestart.imgView := by
    have h : v.imgView = u.hbRestart.imgView := (imgView_rescan _).trans (imgView_checkRings _)
    rw [hx]
    split
    · exact (imgView_wr v (by decide)).trans h
    · exact (imgView_dvfsStart v _).trans h
  obtain ⟨-, himg, -, hotp, hbase, hclock, -⟩ := imgView_eq_iff.mp hu
  obtain ⟨-, himg', hhb, hotp', hbase', -, -⟩ := imgView_eq_iff.mp hv
  exact ⟨himg'.trans himg, hhb.trans hclock, hotp'.trans hotp, hbase'.trans hbase⟩

/-! ### A target that has not finished in time (R69) -/

theorem exec_partialApplyTimeout {s : State} {a : Apply} {r : Rod} (h : s.img.apply = some a)
    (hlate : (Rod.all.filter fun r => a.targets.testBit r.idx && !a.done.testBit r.idx) = [r]) :
    exec .partialApplyTimeout s = .next (s.targetFailed r).settle := by
  change execPartialApplyTimeout s = _
  simp only [execPartialApplyTimeout, h, hlate, List.foldl_cons, List.foldl_nil]

theorem targetFailed_eq {s : State} {a : Apply} (h : s.img.apply = some a) (r : Rod) :
    s.targetFailed r = { s.raise (r.idx * 256 + 0xE3) 0 0 with
      img := { s.img with apply := some { a with done := a.done ||| (a.targets &&& 2 ^ r.idx) } } } := by
  have himg : (s.raise (r.idx * 256 + 0xE3) 0 0).img = s.img := raise_selfTest_img s r 0 0
  simp only [State.targetFailed, State.setImg, causeSelfTest, himg, h, Option.map_some]

/-! ### O21 -/

section
variable {x : State} {n : Nat} {b : List Nat} (t : Nat) (rs : List Rod)

theorem partialRead_fails (hn : n ≠ 0) : x.partialRead t n b rs = (x.failStep n).endPartial t stAuth := if_pos hn

theorem partialRead_full (hp : hdrPartial b = false) : x.partialRead t 0 b rs = x.endPartial t stBadParam := by
  simp [State.partialRead, hp]

theorem partialRead_held (hp : hdrPartial b = true) (hb : x.base = .held) (hf : Rod.feed ∈ rs) :
    x.partialRead t 0 b rs = x.endPartial t stHeld := by
  have hany : (rs.any fun r => [Rod.supply, .print, .feed, Sys2Proof.Rod.cut].contains r) = true :=
    List.any_eq_true.mpr ⟨.feed, hf, by decide⟩
  simp only [State.partialRead, hp, hb, hany, ne_eq, not_true_eq_false, Bool.true_eq_false, if_false, and_self, if_true]

theorem partialRead_busy (hp : hdrPartial b = true) (hb : x.base = .run) (hi : x.targetsIdle rs = false) :
    x.partialRead t 0 b rs = x.endPartial t stBusy := by
  simp [State.partialRead, hp, hb, hi]

theorem partialRead_applies (hp : hdrPartial b = true) (hb : x.base = .run) (hi : x.targetsIdle rs = true) (hrs : rs ≠ []) :
    x.partialRead t 0 b rs = x.applyPartial t b rs := by
  simp [State.partialRead, hp, hb, hi, hrs]

end

/-- Settles O21: each command and each end of a verification by the equation of its case; a FULL image's facts by what
follows the configuration of its rods leaving the image, OTP and the base as they are. -/
theorem otpAndImages : Obligations.OtpAndImages := by
  unfold Obligations.OtpAndImages
  refine ⟨⟨?confirm, ?confirmRefused, ?freeze, ?freezeRefused⟩, ?push, ?pushIgnored, ?partialStart, ?slot, ?pushed, ?partialEnd,
    ?full, ?timeout⟩
  case confirm => exact fun tag s c hc hop ha hr => exec_imageConfirm hc ha hop hr
  case confirmRefused => exact fun tag s c hc hop ha hr => exec_imageConfirm_refused hc ha hop hr
  case freeze =>
    intro tag s c hc hop ha hk hr hsub hfz
    rw [exec_freezeCommit hc ha hop, if_pos ⟨hk, hr, hsub, hfz⟩]
  case freezeRefused =>
    intro tag s c hc hop ha hno
    rw [exec_freezeCommit hc ha hop, if_neg hno]
  case push =>
    intro w s ht hw hs
    refine ⟨_, (exec_imgPush ht w).trans (congrArg _ (writeImgPush_starts (s := s.idleRestart) hw hs)), ?_, rfl, ?_⟩
    · exact State.rd_wr _ _ _
    · exact only_wr (only_refl _ _)
  case pushIgnored =>
    intro w s ht h
    rw [exec_imgPush ht, writeImgPush_ignored (s := s.idleRestart) h]
  case partialStart =>
    intro tag s c hc hop hst ha hf
    have hexec := exec_partialApply hc hop hst ha hf
    refine ⟨fun hn => ?_, fun hy => ?_⟩
    · rw [hexec, if_pos hn]
    · rw [if_neg (by simp [hy])] at hexec
      exact ⟨_, hexec, State.rd_wr _ _ _, rfl, only_wr (only_refl _ _)⟩
  case slot =>
    intro s k rest named ha hv
    have hexec := exec_imageVerified_slot ha hv
    refine ⟨fun h => ?_, fun n h hn => ⟨?_, ?_⟩⟩
    · rw [hexec, slotVerifiedAt_passes h]
    · rintro rfl
      rw [hexec, slotVerifiedAt_last h hn]
    · rintro j js rfl rfl
      rw [hexec, slotVerifiedAt_next h hn]
  case pushed =>
    intro s a ha hv r
    have hexec := exec_imageVerified_push ha hv
    refine ⟨fun h => ?_, fun n h hn => ?_⟩
    · exact hexec.trans (by rw [if_pos h])
    · subst h
      exact hexec.trans (by rw [if_neg hn])
  case partialEnd =>
    intro s t c ha hv hc r rs n
    have hexec : exec .imageVerified s = .next (r.1.partialRead t n r.2 rs).settle := exec_imageVerified_partial ha hv hc
    have hbase : r.1.base = s.base := (imgView_eq_iff.mp
      (imgView_readImage { s with img := { s.img with verify := .none } } c.p0 c.p1 .partialApply)).2.2.2.2.1
    clear_value n
    refine ⟨fun hn => ?_, ?_, ?_, ?_, ?_⟩
    · rw [hexec, partialRead_fails t rs hn]
    · rintro rfl hp
      rw [hexec, partialRead_full t rs hp]
    · rintro rfl hp hb hf
      rw [hexec, partialRead_held t rs hp (hbase.trans hb) hf]
    · rintro rfl hp hb hi
      rw [hexec, partialRead_busy t rs hp (hbase.trans hb) hi]
    · rintro rfl hp hb hi hrs
      rw [hexec, partialRead_applies t rs hp (hbase.trans hb) hi hrs]
  case full =>
    intro s b k _ _ x
    obtain ⟨himg, hhb, hotp, hbase⟩ := applyFull_frame s b k
    obtain ⟨himg', hotp', hbase', hclock⟩ := fullConfigured_frame s b k
    have hx : x.img = { s.newConfig b (s.targetsOf b) with
        structHash := structuralHash b, subject := hdrSubject b, verify := .none } := himg.trans himg'
    refine ⟨?_, ?_, ?_, ?_, ?_, hhb.trans hclock, hotp.trans hotp', hbase.trans hbase'⟩ <;> rw [hx]
  case timeout =>
    exact fun s a r _ h hlate => ⟨_, exec_partialApplyTimeout h hlate, targetFailed_eq h r⟩

end Sys2Proof.Machine
end

section
/-! PROOFS. What a write of keep RAM leaves, and the torn-band record. -/

namespace Sys2Proof.Machine

/-! ### Bytes -/

theorem leNat_leBytes (n v : Nat) : leNat (leBytes n v) = v % 256 ^ n := by
  induction n generalizing v with
  | zero => simp [leBytes, leNat, Nat.mod_one]
  | succ n ih => rw [leBytes, leNat, ih, Nat.pow_succ', Nat.mod_mul]

theorem leBytes_lt {n v b : Nat} (h : b ∈ leBytes n v) : b < 256 := by
  induction n generalizing v with
  | zero => simp [leBytes] at h
  | succ n ih =>
    rcases List.mem_cons.mp h with rfl | h
    · exact Nat.mod_lt _ (by decide)
    · exact ih h

/-- The bytes that were just stored are read back. -/
theorem bytes_poke (s : State) (m : Ram) (a : Nat) {bs : List Nat} (h : ∀ b ∈ bs, b < 256) :
    (s.poke m a bs).bytes m a bs.length = bs := by
  induction bs generalizing s a with
  | nil => rfl
  | cons b bs ih =>
    obtain ⟨hb, hbs⟩ := List.forall_mem_cons.mp h
    have hput : s.poke m a (b :: bs) = (s.poke m a [b]).poke m (a + 1) bs := by cases m <;> rfl
    have hbyte : ((s.poke m a [b]).poke m (a + 1) bs).byte m a = b := by
      have hget (c : Store Byte) : (Store.get 0 (putBytes (putBytes c a [b]) (a + 1) bs) a).toNat = b := by
        rw [putBytes_get _ _ _ _ (.inl (Nat.lt_succ_self a)), putBytes, putBytes, Store.get_set_same, BitVec.toNat_ofNat,
          Nat.mod_eq_of_lt hb]
      cases m <;> exact hget _
    rw [List.length_cons, State.bytes, hput, hbyte, ih _ _ hbs]

/-! ### Checked writes -/

/-- The fields that the check of a memory's words may change. -/
abbrev Ram.checkFlds (m : Ram) : List Fld := [m.ueFld, m.ceFld, CORE.ECC_LAST_ADDR, VEC.PENDING_PENDING]

theorem regsBut_of_regs {w : List Fld} {s t : State} (h : t.regs = s.regs) : Safety.regsBut w s t := fun f _ => by
  simp only [State.rd, State.reg, h]

theorem regsBut_trans {w : List Fld} {s t u : State} (h : Safety.regsBut w s t) (k : Safety.regsBut w t u) :
    Safety.regsBut w s u := fun f hf => (k f hf).trans (h f hf)

theorem regs_poke (s : State) (m : Ram) (a : Nat) (bs : List Nat) : (s.poke m a bs).regs = s.regs := by cases m <;> rfl

theorem regs_clearEcc (s : State) (m : Ram) (w : Nat) : (s.clearEcc m w).regs = s.regs := by cases m <;> rfl

theorem regsBut_writeWord (s : State) (m : Ram) (a : Nat) (bs : List Nat) (w : Nat) :
    Safety.regsBut m.checkFlds s (s.writeWord m a bs w) := by
  have hstore (t : State) (a : Nat) (bs : List Nat) : ((t.poke m a bs).clearEcc m w).regs = t.regs := by
    rw [regs_clearEcc, regs_poke]
  have hcheck : Safety.regsBut m.checkFlds s (s.checkWord m w) := (only_checkWord s m w).2.1
  unfold State.writeWord
  extract_lets lo hi part
  split
  · exact regsBut_of_regs (hstore _ _ _)
  · split
    · exact hcheck
    · exact regsBut_trans hcheck (regsBut_of_regs (hstore _ _ _))

/-- A write of memory changes no field but those that its checks may change. -/
theorem regsBut_writeMem (s : State) (m : Ram) (a : Nat) (bs : List Nat) : Safety.regsBut m.checkFlds s (s.writeMem m a bs) :=
  List.foldlRecOn (motive := fun t => Safety.regsBut m.checkFlds s t) _ _ (fun _ _ => rfl) fun t h w _ =>
    regsBut_trans h (regsBut_writeWord t m a bs w)

theorem sramPair_writeWord_keep (s : State) (a : Nat) (bs : List Nat) (w : Nat) :
    (s.writeWord .keep a bs w).sramPair = s.sramPair := by
  unfold State.writeWord
  extract_lets lo hi part
  split
  · rfl
  · split
    · exact sramPair_checkWord s .keep w
    · exact sramPair_checkWord s .keep w

theorem sramPair_writeMem_keep (s : State) (a : Nat) (bs : List Nat) : (s.writeMem .keep a bs).sramPair = s.sramPair :=
  List.foldlRecOn (motive := fun t : State => t.sramPair = s.sramPair) _ _ rfl fun t h w _ =>
    (sramPair_writeWord_keep t a bs w).trans h

theorem byte_sram_of_sramPair {s t : State} (h : t.sramPair = s.sramPair) (a : Nat) : t.byte .sram a = s.byte .sram a := by
  have hsram : t.sram = s.sram := congrArg Prod.fst h
  simp only [State.byte, State.cells, hsram]

/-! ### The torn-band record -/

theorem memOnly_recPut (s : State) (off : Nat) (bs : List Nat) : MemOnly s (s.recPut off bs) := memOnly_writeMem s .keep _ bs

theorem byte_sram_recPut (s : State) (off : Nat) (bs : List Nat) (a : Nat) : (s.recPut off bs).byte .sram a = s.byte .sram a :=
  byte_sram_of_sramPair (sramPair_writeMem_keep s _ bs) a

/-- The record lies in 32 bytes of keep RAM. -/
theorem byte_keep_recPut (s : State) {off : Nat} {bs : List Nat} (hl : off + bs.length ≤ 32) {a : Nat} (ha : a < 0x100 ∨ 0x120 ≤ a) :
    (s.recPut off bs).byte .keep a = s.byte .keep a :=
  (State.recPut_keeps (C := fun f => settleClear f = true) (D := True) (H := False) (fun _ h => h) (fun _ => hl) (.refl s)).mem
    trivial .keep a fun ⟨hlo, hhi⟩ => by omega

theorem length_leBytes (n v : Nat) : (leBytes n v).length = n := by
  induction n generalizing v with
  | zero => rfl
  | succ n ih => rw [leBytes, List.length_cons, ih]

/-- The record's state is one whole protected word, so it is stored without a check. -/
theorem recPut_state (s : State) (v : Nat) :
    s.recPut 0 (leBytes 4 v) = (s.poke .keep recAt (leBytes 4 v)).clearEcc .keep 64 := by
  have hwords : Ram.keep.words recAt (leBytes 4 v).length = [64] := by rw [length_leBytes]; rfl
  have hpart : ((leBytes 4 v).drop (256 - 256)).take (260 - 256) = leBytes 4 v := by
    rw [Nat.sub_self, List.drop_zero, List.take_of_length_le (Nat.le_of_eq (length_leBytes 4 v))]
  rw [State.recPut, State.writeMem, Nat.add_zero, hwords, List.foldl_cons, List.foldl_nil, State.writeWord, length_leBytes]
  exact congrArg (fun bs => (s.poke .keep 256 bs).clearEcc .keep 64) hpart

theorem recState_recPut (s : State) {v : Nat} (h : v < 2 ^ 32) : (s.recPut 0 (leBytes 4 v)).recState = v := by
  have hbytes : (s.poke .keep recAt (leBytes 4 v)).bytes .keep recAt 4 = leBytes 4 v := by
    simpa only [length_leBytes] using bytes_poke s .keep recAt fun _ => leBytes_lt (n := 4) (v := v)
  rw [recPut_state]
  exact (congrArg leNat hbytes).trans ((leNat_leBytes 4 v).trans (Nat.mod_eq_of_lt h))

theorem rd_recPut_state (s : State) (v : Nat) (f : Fld) : (s.recPut 0 (leBytes 4 v)).rd f = s.rd f := by
  rw [recPut_state]
  rfl

end Sys2Proof.Machine
end

section
/-! PROOFS. Torn RECEIPTs and the ends of RECEIPTs. -/

namespace Sys2Proof.Machine

/-! ### The bands of a RECEIPT (R356, R385) -/

theorem mem_slotsOf {s : State} {t i : Nat} :
    i ∈ s.slotsOf t ↔ i < 3 ∧ (s.raster.slots.getD i {}).tag = some t ∧ s.rd (bandState i) ≠ 0 := by
  simp [State.slotsOf]

theorem slotsOf_congr {s x : State} (t : Nat) (hr : x.raster = s.raster) (hb : ∀ i, x.rd (bandState i) = s.rd (bandState i)) :
    x.slotsOf t = s.slotsOf t := by
  simp only [State.slotsOf, hr, hb]

/-- A slot that becomes FREE holds no band; the other slots are as they were. -/
theorem mem_slotsOf_freeSlot {s : State} {t i j : Nat} (hi : i < 3) (h : j ∈ (s.freeSlot i).slotsOf t) : j ∈ s.slotsOf t ∧ j ≠ i := by
  obtain ⟨hj, htag, hstate⟩ := mem_slotsOf.mp h
  have hne : j ≠ i := by
    rintro rfl
    exact hstate (State.rd_wr _ (bandState j) 0 (by simp [bandState]))
  have hap : (bandState i).apart (bandState j) = true := by
    have : i % 3 ≠ j % 3 := by omega
    simp [Fld.apart, bandState, this]
  refine ⟨mem_slotsOf.mpr ⟨hj, ?_, ?_⟩, hne⟩
  · simpa [State.freeSlot, State.modSlot, List.getD_eq_getElem?_getD, List.getElem?_modify, hne.symm] using htag
  · rwa [State.freeSlot, State.rd_wr_apart _ _ _ _ hap] at hstate

theorem mem_slotsOf_foldl_freeSlot {t j : Nat} {l : List Nat} (hl : ∀ i ∈ l, i < 3) (s : State)
    (h : j ∈ (l.foldl (fun s i => s.freeSlot i) s).slotsOf t) : j ∈ s.slotsOf t ∧ j ∉ l := by
  induction l generalizing s with
  | nil => exact ⟨h, List.not_mem_nil⟩
  | cons i l ih =>
    obtain ⟨hi, hl⟩ := List.forall_mem_cons.mp hl
    obtain ⟨hmem, hnot⟩ := ih hl _ h
    obtain ⟨hs, hne⟩ := mem_slotsOf_freeSlot hi hmem
    exact ⟨hs, by simp [hne, hnot]⟩

theorem slotsOf_releaseBands (s : State) (t : Nat) : (s.releaseBands t).slotsOf t = [] :=
  List.eq_nil_iff_forall_not_mem.mpr fun _ h =>
    have ⟨hs, hnot⟩ := mem_slotsOf_foldl_freeSlot (fun _ hi => (mem_slotsOf.mp hi).1) s h
    hnot hs

/-- The states of the three slots. -/
abbrev slotFlds : List Fld := [bandState 0, bandState 1, bandState 2]

theorem bandState_mem (i : Nat) : bandState i ∈ slotFlds := by
  have h : ∀ k < 3, bandState k ∈ slotFlds := by decide
  simpa [bandState] using h (i % 3) (Nat.mod_lt _ (by decide))

/-- The release of bands changes RASTER's slots and their states alone. -/
theorem only_releaseBands (s : State) (t : Nat) :
    Safety.only slotFlds { s with raster := (s.releaseBands t).raster } (s.releaseBands t) := by
  refine List.foldlRecOn (motive := fun x : State => Safety.only slotFlds { s with raster := x.raster } x) _ _ (only_refl _ s)
    fun x h i _ => ?_
  have hslot : Safety.only slotFlds { s with raster := (x.freeSlot i).raster } (x.modSlot i fun _ => {}) := by
    have hx := h.1
    refine ⟨?_, h.2⟩
    rw [hx]
    rfl
  exact only_wr hslot (bandState_mem i)

/-! ### The RECEIPT of a tag -/

theorem job?_modJob {s : State} {t : Nat} {f : Job → Job} (h : ∀ j, (f j).tag = j.tag) :
    (s.modJob t f).job? t = (s.job? t).map f := by
  simp only [State.job?, State.modJob, State.setPrint, List.find?_map]
  have hcomp : ((fun j : Job => j.tag == t) ∘ fun j => if j.tag == t then f j else j) = fun j => j.tag == t := by
    funext j
    by_cases hj : j.tag = t <;> simp [hj, h]
  rw [hcomp]
  cases hfind : s.print.jobs.find? (fun j => j.tag == t) with
  | none => rfl
  | some j =>
    have htag : (j.tag == t) = true := List.find?_some (p := fun j : Job => j.tag == t) hfind
    simp [beq_iff_eq.mp htag]

theorem job?_congr {s x : State} (t : Nat) (h : x.print.jobs = s.print.jobs) : x.job? t = s.job? t := by
  simp only [State.job?, h]

/-! ### Register fields that an operation leaves alone -/

theorem rd_evt_apart (s : State) {f g : Fld} (r : Rod) (hf : f.apart g = true) (hp : VEC.PENDING_PENDING.apart g = true) :
    (s.evt f r).rd g = s.rd g :=
  (only_evt (w := [f, VEC.PENDING_PENDING]) (only_refl _ s)).2.1 g (by simp [hf, hp])

/-- What is no register is as it was where only register fields have changed. -/
theorem only_same {α : Type} {w : List Fld} {s t : State} (h : Safety.only w s t) (f : State → α)
    (hf : ∀ (x : State) (r : Store Word), f { x with regs := r } = f x := by intros; rfl) : f t = f s := by
  rw [h.1]
  exact hf s t.regs

/-- An event's bit is set after the event. -/
theorem rd_evt (s : State) {f : Fld} (r : Rod) (hw : f.wid = 1) (hl : f.lo + f.wid ≤ 32 := by decide)
    (hp : VEC.PENDING_PENDING.apart f = true := by decide) : (s.evt f r).rd f = 1 := by
  unfold State.evt
  split
  next h =>
    have hlt := State.rd_lt s f
    have hne : s.rd f ≠ 0 := by simpa [State.flag] using h
    rw [hw] at hlt
    omega
  next =>
    rw [State.rodVec, rd_vec _ _ _ hp, State.rd_wr _ _ _ hl, hw]
    rfl

/-! ### The end of the firing (R372, R378, R385) -/

/-- The energy of segments is counted, and no other counter changes. -/
theorem addEnergy_led (s : State) {p : Pass} (hp : ∀ e ∈ p.power, e.1 < 16) (ticks : Nat → Nat) :
    let x := s.addEnergy p ticks
    x = { s with led := x.led } ∧ x.led.base = s.led.base ∧ Store.get 0 x.led.acc cntTorn = Store.get 0 s.led.acc cntTorn := by
  refine List.foldlRecOn (motive := fun x : State => x = { s with led := x.led } ∧ x.led.base = s.led.base ∧
    Store.get 0 x.led.acc cntTorn = Store.get 0 s.led.acc cntTorn) _ _ ⟨rfl, rfl, rfl⟩ fun x ⟨hx, hbase, hacc⟩ e he => ?_
  refine ⟨?_, hbase, (Store.get_set_ne _ _ _ (Nat.ne_of_gt (Nat.lt_of_lt_of_le (hp e he) (by decide)))).trans hacc⟩
  rw [hx]
  rfl

/-- Of every line that may be in firing, the energy goes to the segments' counters. -/
def State.segmentPower (s : State) : Prop := ∀ f, s.print.firing = some f → ∀ p ∈ f.passes, ∀ e ∈ p.power, e.1 < 16

theorem cutPass_led {s : State} (h : s.segmentPower) :
    let x := s.cutPass
    x = { s with led := x.led, free := x.free } ∧ x.led.base = s.led.base ∧
      Store.get 0 x.led.acc cntTorn = Store.get 0 s.led.acc cntTorn := by
  intro x
  simp only [x, State.cutPass]
  split
  next => exact ⟨rfl, rfl, rfl⟩
  next f hf =>
    split
    next _ _ p hpass _ =>
      obtain ⟨hx, hbase, hacc⟩ := addEnergy_led s.openWord.2 (h f hf p (List.mem_of_getElem? hpass)) _
      refine ⟨?_, hbase, hacc⟩
      rw [hx]
      rfl
    next => exact ⟨rfl, rfl, rfl⟩

/-- No line fires or waits any more. -/
def Print.quiet (p : Print) : Print := { p with firing := none, floorLine := false, strobes := 0, toTrigger := 0, chained := 0 }

theorem only_quiet (s : State) :
    Safety.only [CORE.BG_CAL_FRC_TRIM, PRINT.STAT_BACKLOG, PRINT.STAT_CEILING]
      { s.cutPass with print := s.cutPass.print.quiet, bg := { s.cutPass.bg with trimStep := 0 } } s.quiet :=
  only_wr (only_wr (only_wrI (only_refl _ _)))

theorem backlog_quiet (s : State) : s.quiet.rd PRINT.STAT_BACKLOG = 0 := by
  rw [State.quiet, State.rd_wr_apart _ _ _ _ (by decide), State.rd_wr _ PRINT.STAT_BACKLOG]
  rfl

/-- One more line, counted by the RECEIPT and the ledger (R97). -/
def Job.oneLine (j : Job) : Job := { j with lines := j.lines + 1, linesBand := j.linesBand + 1 }

/-- Beside the count, one more line changes the record alone. -/
theorem countLine_record (s : State) (t : Nat) :
    let y := (s.modJob t Job.oneLine).count cntLines
    MemOnly y (s.countLine t) ∧ (s.countLine t).sramPair = y.sramPair := by
  intro y
  unfold State.countLine
  extract_lets z
  split
  · exact ⟨rfl, rfl⟩
  · exact ⟨(memOnly_recPut y _ _).trans (memOnly_recPut _ _ _),
      (sramPair_writeMem_keep _ _ _).trans (sramPair_writeMem_keep _ _ _)⟩

/-- The RECEIPT with the line that has begun. -/
def Job.withLine (begun : Bool) (j : Job) : Job := { j with lines := j.lines + bit begun, linesBand := j.linesBand + bit begun }

/-- What the end of the firing leaves of the state, the ledger's count of torn RECEIPTs among it. -/
structure FiringFrame (s x : State) : Prop where
  rest : (x.feed, x.raster, x.otp, x.base) = (s.feed, s.raster, s.otp, s.base)
  sram : x.sramPair = s.sramPair
  totals : x.led.base = s.led.base
  torn : Store.get 0 x.led.acc cntTorn = Store.get 0 s.led.acc cntTorn

theorem FiringFrame.trans {s t u : State} (h : FiringFrame s t) (k : FiringFrame t u) : FiringFrame s u :=
  ⟨k.rest.trans h.rest, k.sram.trans h.sram, k.totals.trans h.totals, k.torn.trans h.torn⟩

/-- The line in firing counts where it has begun. -/
def State.lineCounted (s : State) (t : Nat) : State := if s.lineBegun then s.countLine t else s

theorem lineCounted_spec (s : State) (t : Nat) :
    let x := s.lineCounted t
    FiringFrame s x ∧ x.print.firing = s.print.firing ∧ x.job? t = (s.job? t).map (Job.withLine s.lineBegun) := by
  intro x
  simp only [x, State.lineCounted]
  cases hb : s.lineBegun with
  | false =>
    have hid : Job.withLine false = id := rfl
    exact ⟨⟨rfl, rfl, rfl, rfl⟩, rfl, by rw [hid, Option.map_id]; rfl⟩
  | true =>
    obtain ⟨hmem, hsram⟩ := countLine_record s t
    rw [if_pos rfl]
    generalize s.countLine t = x at hmem hsram
    refine ⟨⟨?_, hsram, ?_, ?_⟩, ?_, ?_⟩
    · rw [hmem]
      rfl
    · rw [hmem]
      rfl
    · rw [hmem]
      exact Store.get_set_ne _ _ _ (by decide)
    · rw [hmem]
      rfl
    · rw [hmem]
      exact job?_modJob fun _ => rfl

theorem quiet_spec {s : State} (h : s.segmentPower) :
    let x := s.quiet
    FiringFrame s x ∧ x.print = s.print.quiet := by
  intro x
  obtain ⟨hcut, hbase, htorn⟩ := cutPass_led h
  have hquiet := only_quiet s
  have hrest : (s.cutPass.feed, s.cutPass.raster, s.cutPass.otp, s.cutPass.base) = (s.feed, s.raster, s.otp, s.base) := by rw [hcut]
  have hsram : s.cutPass.sramPair = s.sramPair := by rw [hcut]; rfl
  have hprint : s.cutPass.print = s.print := by rw [hcut]
  have hled : x.led = s.cutPass.led := only_same hquiet State.led
  refine ⟨⟨(only_same hquiet fun x => (x.feed, x.raster, x.otp, x.base)).trans hrest, (only_same hquiet State.sramPair).trans hsram,
    by rw [hled, hbase], by rw [hled, htorn]⟩, ?_⟩
  exact (only_same hquiet State.print).trans (congrArg Print.quiet hprint)

/-- The state in which a tear finds no line in firing any more (R378, R385). -/
def State.firingEnded (s : State) (t : Nat) : State := (s.lineCounted t).quiet

theorem firingEnded_spec {s : State} (t : Nat) (h : s.segmentPower) :
    let x := s.firingEnded t
    FiringFrame s x ∧ x.print.firing = none ∧ x.print.strobes = 0 ∧ x.job? t = (s.job? t).map (Job.withLine s.lineBegun) ∧
      x.rd PRINT.STAT_BACKLOG = 0 := by
  intro x
  obtain ⟨hframe, hfiring, hjob⟩ := lineCounted_spec s t
  obtain ⟨hquiet, hprint⟩ := quiet_spec (s := s.lineCounted t) (by rwa [State.segmentPower, hfiring])
  have hx : x.print = (s.lineCounted t).print.quiet := hprint
  exact ⟨hframe.trans hquiet, by rw [hx]; rfl, by rw [hx]; rfl, (job?_congr t (by rw [hx]; rfl)).trans hjob, backlog_quiet _⟩

/-! ### A tear (R384, R385) -/

/-- A tear shows its cause and the band, whose slots it has released. -/
def State.tearShown (s : State) (j : Job) (cause lines : Nat) : State :=
  ((((s.releaseBands j.tag).wr PRINT.TEAR_CAUSE cause).wr PRINT.TEAR_BAND_SEQ (min 255 j.band)).wr
    PRINT.TEAR_LINES_BAND (min 65535 lines)).evt PRINT.EVT_TORN .print

/-- A RECEIPT as a tear leaves it. -/
def Job.torn (cause : Nat) (j : Job) : Job := { j with stage := .torn, cause := cause, justTorn := true }

/-- A tear counts, and its RECEIPT is torn. -/
def State.tearCounted (s : State) (t cause : Nat) : State :=
  (((s.count cntTorn).modJob t (Job.torn cause)).rasterIdle t).wr PRINT.STAT_STATE 3

/-- What a tear of the RECEIPT that prints does before the paper stops. -/
def State.torn (s : State) (j : Job) (cause : Nat) : State :=
  let x := s.firingEnded j.tag
  (x.tearShown j cause (((x.job? j.tag).map (·.linesBand)).getD 0)).tearCounted j.tag cause

theorem job?_releaseBands (s : State) (t u : Nat) : (s.releaseBands t).job? u = s.job? u :=
  job?_congr u (by rw [(only_releaseBands s t).1])

theorem tear_eq {s : State} {j : Job} (h : s.printing? = some j) (cause : Nat) (stop : Bool) :
    s.tear cause stop = if stop = true then (s.torn j cause).feedStop else s.torn j cause := by
  have hlines (x : State) : ((((x.releaseBands j.tag).wr PRINT.TEAR_CAUSE cause).wr PRINT.TEAR_BAND_SEQ (min 255 j.band)).job? j.tag) =
    x.job? j.tag := job?_releaseBands x j.tag j.tag
  simp only [State.tear, h, hlines]
  rfl

/-- The fields in which a tear shows itself. -/
abbrev tearFlds : List Fld :=
  slotFlds ++ [PRINT.TEAR_CAUSE, PRINT.TEAR_BAND_SEQ, PRINT.TEAR_LINES_BAND, PRINT.EVT_TORN, VEC.PENDING_PENDING]

theorem only_tearShown (s : State) (j : Job) (cause lines : Nat) :
    Safety.only tearFlds { s with raster := (s.releaseBands j.tag).raster } (s.tearShown j cause lines) :=
  only_evt (only_wr (only_wr (only_wr (only_mono (only_releaseBands s j.tag) fun _ => List.mem_append_left _))))

theorem only_rasterIdle (s : State) (t : Nat) :
    Safety.only [RASTER.STAT_STATE] { s with cmds := (s.rasterIdle t).cmds } (s.rasterIdle t) := by
  unfold State.rasterIdle
  split
  · exact only_wr (only_refl _ _)
  · exact only_refl _ s

theorem only_tearCounted (s : State) (t cause : Nat) :
    Safety.only [RASTER.STAT_STATE, PRINT.STAT_STATE]
      { (s.count cntTorn).modJob t (Job.torn cause) with cmds := (s.tearCounted t cause).cmds } (s.tearCounted t cause) :=
  only_wr (only_mono (only_rasterIdle _ t) (by simp))

theorem bandState_apart {g : Fld} (h : ∀ k < 3, g.apart (bandState k) = true) (i : Nat) : g.apart (bandState i) = true := by
  simpa [bandState] using h (i % 3) (Nat.mod_lt _ (by decide))

theorem tearShown_fields (s : State) (j : Job) {cause : Nat} (hc : cause < 16) (lines : Nat) :
    let x := s.tearShown j cause lines
    x.rd PRINT.TEAR_CAUSE = cause ∧ x.rd PRINT.TEAR_BAND_SEQ = min 255 j.band ∧ x.rd PRINT.TEAR_LINES_BAND = min 65535 lines ∧
      x.rd PRINT.EVT_TORN = 1 := by
  refine ⟨?_, ?_, ?_, rd_evt _ .print rfl⟩
  all_goals
    simp (disch := decide) only [State.tearShown, rd_evt_apart, State.rd_wr_apart, State.rd_wr]
    refine Nat.mod_eq_of_lt ?_
    simp only [PRINT.TEAR_CAUSE, PRINT.TEAR_BAND_SEQ, PRINT.TEAR_LINES_BAND]
    omega

theorem slotsOf_tearShown (s : State) (j : Job) (cause lines : Nat) : (s.tearShown j cause lines).slotsOf j.tag = [] := by
  rw [← slotsOf_releaseBands s j.tag]
  refine slotsOf_congr _ (by rw [(only_tearShown s j cause lines).1]) fun i => ?_
  rw [State.tearShown, rd_evt_apart _ .print (bandState_apart (by decide) i) (bandState_apart (by decide) i),
    State.rd_wr_apart _ _ _ _ (bandState_apart (by decide) i), State.rd_wr_apart _ _ _ _ (bandState_apart (by decide) i),
    State.rd_wr_apart _ _ _ _ (bandState_apart (by decide) i)]

/-- The count of a tear changes two fields, the ledger, the RECEIPT, and what RASTER serves. -/
theorem rd_tearCounted (s : State) (t cause : Nat) {f : Fld} (hr : RASTER.STAT_STATE.apart f = true)
    (hp : PRINT.STAT_STATE.apart f = true) : (s.tearCounted t cause).rd f = s.rd f :=
  (only_tearCounted s t cause).2.1 f (by simp [hr, hp])

theorem tearCounted_spec (s : State) (t cause : Nat) :
    let x := s.tearCounted t cause
    x.rd PRINT.STAT_STATE = 3 ∧ x.print.firing = s.print.firing ∧ x.print.strobes = s.print.strobes ∧ x.slotsOf t = s.slotsOf t ∧
      x.job? t = (s.job? t).map (Job.torn cause) ∧ x.led.base = s.led.base ∧
      Store.get 0 x.led.acc cntTorn = Store.get 0 s.led.acc cntTorn + 1 ∧
      (x.feed, x.sramPair, x.otp, x.base) = (s.feed, s.sramPair, s.otp, s.base) := by
  intro x
  have hx := only_tearCounted s t cause
  have hprint : x.print = ((s.count cntTorn).modJob t (Job.torn cause)).print := only_same hx State.print
  have hled : x.led = (s.count cntTorn).led := only_same hx State.led
  have hslots : x.slotsOf t = s.slotsOf t := slotsOf_congr t (only_same hx State.raster) fun i =>
    rd_tearCounted s t cause (bandState_apart (by decide) i) (bandState_apart (by decide) i)
  have hjob : x.job? t = (s.job? t).map (Job.torn cause) :=
    (job?_congr t (congrArg Print.jobs hprint)).trans (job?_modJob (s := s.count cntTorn) fun _ => rfl)
  refine ⟨State.rd_wr _ PRINT.STAT_STATE 3, by rw [hprint]; rfl, by rw [hprint]; rfl, hslots, hjob, by rw [hled]; rfl, ?_,
    only_same hx fun x => (x.feed, x.sramPair, x.otp, x.base)⟩
  rw [hled]
  exact Store.get_set_same _ _ _ _

theorem tearShown_frame (s : State) (j : Job) (cause lines : Nat) :
    let x := s.tearShown j cause lines
    x.rd PRINT.STAT_BACKLOG = s.rd PRINT.STAT_BACKLOG ∧ x.led = s.led ∧ x.print = s.print ∧
      (x.feed, x.sramPair, x.otp, x.base) = (s.feed, s.sramPair, s.otp, s.base) := by
  have h := only_tearShown s j cause lines
  exact ⟨h.2.1 _ (by decide), only_same h State.led, only_same h State.print,
    only_same h fun x => (x.feed, x.sramPair, x.otp, x.base)⟩

theorem torn_spec {s : State} {j : Job} {cause : Nat} (hj : s.job? j.tag = some j) (hc : cause < 16) (hp : s.segmentPower) :
    let x := s.torn j cause
    (x.rd PRINT.TEAR_CAUSE = cause ∧ x.rd PRINT.TEAR_BAND_SEQ = min 255 j.band ∧
      x.rd PRINT.TEAR_LINES_BAND = min 65535 (j.linesBand + bit s.lineBegun) ∧ x.rd PRINT.STAT_STATE = 3 ∧
      x.rd PRINT.EVT_TORN = 1 ∧ x.rd PRINT.STAT_BACKLOG = 0) ∧
    (x.print.firing = none ∧ x.print.strobes = 0 ∧ x.slotsOf j.tag = [] ∧
      x.job? j.tag = some (Job.torn cause (Job.withLine s.lineBegun j))) ∧
    x.led.base = s.led.base ∧ Store.get 0 x.led.acc cntTorn = Store.get 0 s.led.acc cntTorn + 1 ∧
    (x.feed, x.sramPair, x.otp, x.base) = (s.feed, s.sramPair, s.otp, s.base) := by
  intro x
  obtain ⟨⟨hrest, hsram, htotals, htorn⟩, hfiring, hstrobes, hjob, hbacklog⟩ := firingEnded_spec j.tag hp
  rw [hj, Option.map_some] at hjob
  have hx : x = ((s.firingEnded j.tag).tearShown j cause (j.linesBand + bit s.lineBegun)).tearCounted j.tag cause := by
    simp only [x, State.torn, hjob]
    rfl
  generalize s.firingEnded j.tag = y at hx hrest hsram htotals htorn hfiring hstrobes hjob hbacklog
  obtain ⟨hcause, hband, hlines, hevt⟩ := tearShown_fields y j hc (j.linesBand + bit s.lineBegun)
  have hslots := slotsOf_tearShown y j cause (j.linesBand + bit s.lineBegun)
  obtain ⟨hbacklog', hled', hprint', hrest'⟩ := tearShown_frame y j cause (j.linesBand + bit s.lineBegun)
  generalize y.tearShown j cause (j.linesBand + bit s.lineBegun) = z at hx hcause hband hlines hevt hslots hbacklog' hled' hprint' hrest'
  obtain ⟨hstate, hfiring'', hstrobes'', hslots'', hjob'', htotals'', htorn'', hrest''⟩ := tearCounted_spec z j.tag cause
  have hkept {f : Fld} {v : Nat} (hr : RASTER.STAT_STATE.apart f = true) (hp : PRINT.STAT_STATE.apart f = true) (h : z.rd f = v) :
      (z.tearCounted j.tag cause).rd f = v := (rd_tearCounted z j.tag cause hr hp).trans h
  rw [hx]
  simp only [Prod.mk.injEq] at hrest hrest' hrest'' ⊢
  obtain ⟨hfeed, -, hotp, hbase⟩ := hrest
  obtain ⟨hfeed', hsram', hotp', hbase'⟩ := hrest'
  obtain ⟨hfeed'', hsram'', hotp'', hbase''⟩ := hrest''
  refine ⟨⟨hkept (by decide) (by decide) hcause, hkept (by decide) (by decide) hband, hkept (by decide) (by decide) hlines, hstate,
    hkept (by decide) (by decide) hevt, hkept (by decide) (by decide) (hbacklog'.trans hbacklog)⟩,
    ⟨by rw [hfiring'', hprint', hfiring], by rw [hstrobes'', hprint', hstrobes], hslots''.trans hslots, ?_⟩,
    by rw [htotals'', hled', htotals], by rw [htorn'', hled', htorn], hfeed''.trans (hfeed'.trans hfeed),
    hsram''.trans (hsram'.trans hsram), hotp''.trans (hotp'.trans hotp), hbase''.trans (hbase'.trans hbase)⟩
  rw [hjob'', job?_congr j.tag (congrArg Print.jobs hprint'), hjob, Option.map_some]

/-! ### A controlled stop of the paper (R421, R461) -/

/-- From `s` to `t` the loops and their clients' outputs have changed, and of the registers none below LOOP's block. -/
structure LoopWork (s t : State) : Prop where
  rest : t = { s with regs := t.regs, loops := t.loops, feed := t.feed, cut := t.cut }
  job : t.feed.job = s.feed.job
  rd : ∀ f : Fld, f.addr < rodBlock .loop → t.rd f = s.rd f

theorem LoopWork.refl (s : State) : LoopWork s s := ⟨rfl, rfl, fun _ _ => rfl⟩

theorem LoopWork.trans {s t u : State} (h : LoopWork s t) (k : LoopWork t u) : LoopWork s u := by
  refine ⟨?_, k.job.trans h.job, fun f hf => (k.rd f hf).trans (h.rd f hf)⟩
  have hrest := k.rest
  rw [h.rest] at hrest
  exact hrest

theorem LoopWork.wr {s t : State} {g : Fld} {v : Nat} (h : LoopWork s t) (hg : rodBlock .loop ≤ g.addr) : LoopWork s (t.wr g v) :=
  h.trans ⟨rfl, rfl, fun f hf => State.rd_wr_apart _ _ _ _ (by simp [Fld.apart, Nat.ne_of_gt (Nat.lt_of_lt_of_le hf hg)])⟩

theorem LoopWork.evt {s t : State} {g : Fld} {r : Rod} (h : LoopWork s t) (hg : rodBlock .loop ≤ g.addr) :
    LoopWork s (t.evt g r) := by
  have hap {g f : Fld} (hg : rodBlock .loop ≤ g.addr) (hf : f.addr < rodBlock .loop) : g.apart f = true := by
    simp [Fld.apart, Nat.ne_of_gt (Nat.lt_of_lt_of_le hf hg)]
  have hevt := only_evt (f := g) (r := r) (w := [g, VEC.PENDING_PENDING]) (only_refl _ t)
  refine h.trans ⟨?_, only_same hevt fun x => x.feed.job, fun f hf => rd_evt_apart t r (hap hg hf) (hap (by decide) hf)⟩
  rw [hevt.1]

theorem loopWork_clientZero (s : State) (k : Nat) : LoopWork s (s.clientZero k) := by
  unfold State.clientZero
  split <;> exact ⟨rfl, rfl, fun _ _ => rfl⟩

theorem loopWork_applyDealt (s : State) (k : Nat) : LoopWork s (s.applyDealt k) := by
  unfold State.applyDealt
  extract_lets left loops t
  have h : LoopWork s t := ⟨rfl, rfl, fun _ _ => rfl⟩
  split
  · exact h.evt (by decide)
  · exact h

theorem loopWork_modLoop (s : State) (k : Nat) (f : LoopSt → LoopSt) : LoopWork s (s.modLoop k f) := ⟨rfl, rfl, fun _ _ => rfl⟩

theorem loopWork_applyNow (s : State) (k : Nat) : LoopWork s (s.applyNow k) := by
  unfold State.applyNow
  split
  · exact ((loopWork_modLoop s k _).wr (by decide)).trans (loopWork_applyDealt _ k)
  · exact .refl s

theorem loopWork_loopOff (s : State) (k : Nat) : LoopWork s (s.loopOff k) := by
  have hstate : rodBlock .loop ≤ (LOOP.L_STAT_STATE k).addr := Nat.le_add_right_of_le (by decide)
  unfold State.loopOff
  split
  · exact (((loopWork_applyNow s k).trans (loopWork_modLoop _ k _)).wr hstate).trans (loopWork_clientZero _ k)
  · exact .refl s

/-- Paper in motion stops with no target. -/
def Feed.stopping (f : Feed) : Feed := { f with job := .stop, dwell := false, due := 0 }

theorem feedStop_moving {s : State} (h : s.feed.job ≠ .none) :
    LoopWork (({ s with feed := s.feed.stopping } : State).wr FEED.STAT_STATE 2) s.feedStop := by
  have hs : s.feedStop = let t := ({ s with feed := s.feed.stopping } : State).wr FEED.STAT_STATE 2
    if t.posLoop < 4 then t.loopOff t.posLoop else t := if_neg (by simpa using h)
  rw [hs]
  extract_lets t
  split
  · exact loopWork_loopOff t _
  · exact .refl t

theorem feedStop_still {s : State} (h : s.feed.job = .none) : s.feedStop = s := if_pos (by simp [h])

theorem bandState_below_loop (i : Nat) : (bandState i).addr < rodBlock .loop := by
  have h : ∀ k < 3, (bandState k).addr < rodBlock .loop := by decide
  have hk := h (i % 3) (Nat.mod_lt _ (by decide))
  rwa [bandState, Nat.mod_mod] at hk

theorem feedStop_frame (s : State) :
    (∀ f : Fld, f.addr < rodBlock .loop → FEED.STAT_STATE.apart f = true → s.feedStop.rd f = s.rd f) ∧
      (s.feedStop.print, s.feedStop.raster, s.feedStop.led, s.feedStop.sramPair, s.feedStop.otp, s.feedStop.base) =
        (s.print, s.raster, s.led, s.sramPair, s.otp, s.base) := by
  by_cases h : s.feed.job = .none
  · rw [feedStop_still h]
    exact ⟨fun _ _ _ => rfl, rfl⟩
  · have hwork := feedStop_moving h
    exact ⟨fun f hf hap => (hwork.rd f hf).trans (State.rd_wr_apart _ _ _ _ hap), by rw [hwork.rest]; rfl⟩

/-- A tear under which FEED stops by its own rules. -/
theorem tear_false {s : State} {j : Job} (h : s.printing? = some j) (cause : Nat) : s.tear cause false = s.torn j cause :=
  (tear_eq h cause false).trans (if_neg Bool.false_ne_true)

theorem tear_true {s : State} {j : Job} (h : s.printing? = some j) (cause : Nat) : s.tear cause true = (s.torn j cause).feedStop :=
  (tear_eq h cause true).trans (if_pos rfl)

theorem tear_paper {s : State} {j : Job} {cause : Nat} (hj : s.printing? = some j) (hfeed : (s.torn j cause).feed = s.feed)
    (stop : Bool) : (stop = false → (s.tear cause stop).feed = s.feed) ∧
      (stop = true → s.feed.job ≠ .none →
        (s.tear cause stop).feed.job = .stop ∧ (s.tear cause stop).rd FEED.STAT_STATE = 2) := by
  refine ⟨?_, ?_⟩
  · rintro rfl
    rw [tear_false hj, hfeed]
  · rintro rfl hjob
    rw [← hfeed] at hjob
    rw [tear_true hj]
    have hwork := feedStop_moving hjob
    exact ⟨hwork.job, (hwork.rd _ (by decide)).trans (State.rd_wr _ FEED.STAT_STATE 2)⟩

/-- A stop of the paper, where a tear makes one, leaves alone what the tear has left. -/
theorem tear_frame {s : State} {j : Job} (hj : s.printing? = some j) (cause : Nat) (stop : Bool) :
    let x := s.tear cause stop
    let y := s.torn j cause
    (∀ f : Fld, f.addr < rodBlock .loop → FEED.STAT_STATE.apart f = true → x.rd f = y.rd f) ∧
      (x.print, x.raster, x.led, x.sramPair, x.otp, x.base) = (y.print, y.raster, y.led, y.sramPair, y.otp, y.base) := by
  cases stop with
  | false =>
    rw [tear_false hj]
    exact ⟨fun _ _ _ => rfl, rfl⟩
  | true =>
    rw [tear_true hj]
    exact feedStop_frame _

/-! ### Causes that arise together (R384) -/

theorem tear_of_none {s : State} (h : s.printing? = none) (cause : Nat) (stop : Bool) : s.tear cause stop = s.tearAlso cause := by
  simp only [State.tear, h]

theorem tearAlso_of_none {s : State} (h : ∀ j ∈ s.print.jobs, j.justTorn = false) (cause : Nat) : s.tearAlso cause = s := by
  have hnone : s.print.jobs.find? (·.justTorn) = none := List.find?_eq_none.mpr fun j hj => by simp [h j hj]
  simp only [State.tearAlso, hnone]

/-- A RECEIPT with another cause of its tear. -/
def Job.withCause (cause : Nat) (j : Job) : Job := { j with cause := cause }

theorem tearAlso_of_some {s : State} {j : Job} (h : s.print.jobs.find? (·.justTorn) = some j) (cause : Nat) :
    s.tearAlso cause =
      if cause < j.cause then (s.modJob j.tag (Job.withCause cause)).wr PRINT.TEAR_CAUSE cause else s := by
  simp only [State.tearAlso, h]
  rfl

/-- The cause of the RECEIPT that has just been torn takes the lower of two. -/
theorem job?_lowerCause {s : State} {j : Job} (h : j ∈ s.print.jobs) (cause : Nat) :
    ((s.modJob j.tag (Job.withCause cause)).job? j.tag).map (·.cause) = some cause := by
  rw [job?_modJob (f := Job.withCause cause) fun _ => rfl]
  cases hfind : s.job? j.tag with
  | none => simpa using List.find?_eq_none.mp hfind j h
  | some k => rfl

/-! ### The end of a RECEIPT (R97, R386) -/

/-- A RECEIPT has opened the torn-band record: it has left its rendering. -/
def State.hasOpened (s : State) (t : Nat) : Bool := ((s.job? t).map fun j => j.stage != .render).getD false

/-- The record that a RECEIPT has opened is DONE, and its bands are released. -/
def State.recordClosed (s : State) (t : Nat) : State :=
  let x := s.releaseBands t
  if s.hasOpened t then x.recPut 0 (leBytes 4 recDone) else x

/-- A RECEIPT off the jobs. -/
def Print.without (p : Print) (t now : Nat) : Print := { p with jobs := p.jobs.filter fun j => j.tag != t, lastReceipt := now }

/-- A RECEIPT has ended but for its completion. -/
def State.receiptEnded (s : State) (t : Nat) : State :=
  let busy := !s.print.jobs.isEmpty && (s.cmd? t).any fun c => c.rods.contains .raster
  let x := s.recordClosed t
  let x := if busy then x.wr RASTER.STAT_STATE 0 else x
  let x := (x.setPrint fun p => p.without t x.clock).bump CORE.BG_HEAD_SINCE
  if s.hasOpened t && x.rd PRINT.STAT_STATE ≤ 3 then x.wr PRINT.STAT_STATE (if x.print.jobs.isEmpty then 0 else 1)
  else if x.print.jobs.isEmpty && x.rd PRINT.STAT_STATE == 1 then x.wr PRINT.STAT_STATE 0 else x

theorem endReceipt_eq (s : State) (t status r0 r1 : Nat) : s.endReceipt t status r0 r1 = (s.receiptEnded t).complete t status r0 r1 :=
  rfl

theorem recordClosed_spec (s : State) (t : Nat) :
    let x := s.recordClosed t
    x.slotsOf t = [] ∧ (∀ f : Fld, (∀ g ∈ slotFlds, g.apart f = true) → x.rd f = s.rd f) ∧
      (s.hasOpened t = true → x.recState = recDone) ∧ (x.print, x.cmds, x.clock, x.sramPair) = (s.print, s.cmds, s.clock, s.sramPair) := by
  intro x
  have hbands := only_releaseBands s t
  have hsame := only_same hbands fun x => (x.print, x.cmds, x.clock, x.sramPair)
  have hslots := slotsOf_releaseBands s t
  simp only [x, State.recordClosed]
  generalize s.releaseBands t = y at hbands hsame hslots
  split
  next =>
    have hmem := memOnly_recPut y 0 (leBytes 4 recDone)
    have hrd := rd_recPut_state y recDone
    have hsram := sramPair_writeMem_keep y (recAt + 0) (leBytes 4 recDone)
    refine ⟨?_, fun f hf => (hrd f).trans (hbands.2.1 f hf), fun _ => recState_recPut y (by decide), ?_⟩
    · rw [slotsOf_congr t (by rw [hmem]) fun i => hrd (bandState i), hslots]
    · simp only [Prod.mk.injEq] at hsame ⊢
      obtain ⟨hprint, hcmds, hclock, hpair⟩ := hsame
      exact ⟨by rw [hmem, hprint], by rw [hmem, hcmds], by rw [hmem, hclock], hsram.trans hpair⟩
  next h => exact ⟨hslots, hbands.2.1, fun ho => absurd ho h, hsame⟩

theorem only_receiptEnded (s : State) (t : Nat) :
    Safety.only [RASTER.STAT_STATE, CORE.BG_HEAD_SINCE, PRINT.STAT_STATE]
      ((s.recordClosed t).setPrint fun p => p.without t (s.recordClosed t).clock) (s.receiptEnded t) := by
  unfold State.receiptEnded
  extract_lets busy x y z
  have hy : Safety.only [RASTER.STAT_STATE, CORE.BG_HEAD_SINCE, PRINT.STAT_STATE] x y :=
    only_ite (only_wr (only_refl [RASTER.STAT_STATE, CORE.BG_HEAD_SINCE, PRINT.STAT_STATE] x)) (only_refl _ x)
  have hz : Safety.only [RASTER.STAT_STATE, CORE.BG_HEAD_SINCE, PRINT.STAT_STATE] (x.setPrint fun p => p.without t x.clock) z := by
    have hprint : y.print.without t y.clock = x.print.without t x.clock := only_same hy fun x => x.print.without t x.clock
    refine only_bump ⟨?_, hy.2⟩
    rw [State.setPrint, State.setPrint, hprint, hy.1]
  exact only_ite (only_wr hz) (only_ite (only_wr hz) hz)

theorem receiptEnded_headSince (s : State) (t : Nat) :
    (s.receiptEnded t).rd CORE.BG_HEAD_SINCE = satAdd 255 (s.rd CORE.BG_HEAD_SINCE) 1 := by
  have hrecord : (s.recordClosed t).rd CORE.BG_HEAD_SINCE = s.rd CORE.BG_HEAD_SINCE := (recordClosed_spec s t).2.1 _ (by decide)
  unfold State.receiptEnded
  extract_lets busy x y z
  have hy : y.rd CORE.BG_HEAD_SINCE = s.rd CORE.BG_HEAD_SINCE := by
    simp only [y]
    split
    · exact (State.rd_wr_apart _ _ _ _ (by decide)).trans hrecord
    · exact hrecord
  have hz : z.rd CORE.BG_HEAD_SINCE = satAdd 255 (s.rd CORE.BG_HEAD_SINCE) 1 := by
    rw [← hy]
    exact rd_bump _ CORE.BG_HEAD_SINCE 1
  split
  · exact (State.rd_wr_apart _ _ _ _ (by decide)).trans hz
  · split
    · exact (State.rd_wr_apart _ _ _ _ (by decide)).trans hz
    · exact hz

theorem job?_without {s x : State} {t now : Nat} (h : x.print = s.print.without t now) (u : Nat) :
    x.job? u = if u = t then none else s.job? u := by
  simp only [State.job?, h, Print.without, List.find?_filter]
  split
  next hu =>
    subst hu
    exact List.find?_eq_none.mpr fun j _ => by simp
  next hu =>
    congr 1
    funext j
    by_cases hj : j.tag = u <;> simp [hj, hu]

theorem receiptEnded_spec (s : State) (t : Nat) :
    let x := s.receiptEnded t
    x.slotsOf t = [] ∧ x.print.lastReceipt = s.clock ∧ x.cmds = s.cmds ∧ (s.hasOpened t = true → x.recState = recDone) ∧
      (∀ u, x.job? u = if u = t then none else s.job? u) ∧ ∀ a, x.byte .sram a = s.byte .sram a := by
  intro x
  have honly := only_receiptEnded s t
  obtain ⟨hslots, -, hrecord, hsame⟩ := recordClosed_spec s t
  simp only [Prod.mk.injEq] at hsame
  obtain ⟨hprint, hcmds, hclock, hsram⟩ := hsame
  have hx : x.print = s.print.without t s.clock := by
    rw [← hprint, ← hclock]
    exact only_same honly State.print
  refine ⟨?_, by rw [hx]; rfl, (only_same honly State.cmds).trans hcmds, fun ho => ?_, job?_without hx, fun a => ?_⟩
  · rw [← hslots]
    exact slotsOf_congr t (only_same honly State.raster) fun i => honly.2.1 _ (by
      simp only [List.mem_cons, List.not_mem_nil, or_false, forall_eq_or_imp, forall_eq]
      exact ⟨bandState_apart (by decide) i, bandState_apart (by decide) i, bandState_apart (by decide) i⟩)
  · rw [← hrecord ho]
    exact only_same honly State.recState
  · exact (honly.2.2.1 .sram a).trans (byte_sram_of_sramPair hsram a)

/-! ### The statement -/

/-- Settles O30: a tear ends the firing, shows itself and counts before the paper stops, which touches nothing of that; a RECEIPT's end
is the end of its record and its bands, and then a completion. -/
theorem tearsAndEnds : Obligations.TearsAndEnds := by
  refine ⟨fun s cause stop h => ⟨fun hn => ?none, fun j hj => ⟨fun hle => ?higher, fun hlt hc => ?lower⟩⟩,
    fun s cause stop j h hj hc _ hp => ?tears, fun s t j hj => ?torn, fun s t st r0 r1 _ => ?ends⟩
  case none => rw [tear_of_none h, tearAlso_of_none hn]
  case higher => rw [tear_of_none h, tearAlso_of_some hj, if_neg (Nat.not_lt.mpr hle)]
  case lower =>
    rw [tear_of_none h, tearAlso_of_some hj, if_pos hlt]
    refine ⟨?_, job?_lowerCause (List.mem_of_find?_eq_some hj) cause, only_wr (only_refl _ _)⟩
    rw [State.rd_wr _ PRINT.TEAR_CAUSE]
    exact Nat.mod_eq_of_lt hc
  case tears =>
    intro x
    obtain ⟨⟨hcause, hband, hlines, hstate, hevt, hbacklog⟩, ⟨hfiring, hstrobes, hslots, hjob⟩, htotals, htorn, hrest⟩ := torn_spec hj hc hp
    simp only [Prod.mk.injEq] at hrest
    obtain ⟨hfeed, hsram, hotp, hbase⟩ := hrest
    obtain ⟨hrd, hsame⟩ := tear_frame h cause stop
    obtain ⟨hstill, hmoving⟩ := tear_paper h hfeed stop
    simp only [Prod.mk.injEq] at hsame
    obtain ⟨hprint', hraster', hled', hsram', hotp', hbase'⟩ := hsame
    have hslots' : x.slotsOf j.tag = (s.torn j cause).slotsOf j.tag := slotsOf_congr j.tag hraster' fun i =>
      hrd _ (bandState_below_loop i) (bandState_apart (by decide) i)
    have hjob' : x.job? j.tag = some (Job.torn cause (Job.withLine s.lineBegun j)) :=
      (job?_congr j.tag (congrArg Print.jobs hprint')).trans hjob
    refine ⟨(hrd _ (by decide) (by decide)).trans hcause, (hrd _ (by decide) (by decide)).trans hband,
      (hrd _ (by decide) (by decide)).trans hlines, (hrd _ (by decide) (by decide)).trans hstate,
      (hrd _ (by decide) (by decide)).trans hevt, (hrd _ (by decide) (by decide)).trans hbacklog,
      (congrArg Print.firing hprint').trans hfiring, (congrArg Print.strobes hprint').trans hstrobes, hslots'.trans hslots,
      by rw [hjob']; rfl, by rw [hjob']; rfl, by rw [hjob']; rfl, by rw [hjob']; rfl, hstill, hmoving,
      (congrArg Ledger.base hled').trans htotals, (congrArg (fun l : Ledger => Store.get 0 l.acc cntTorn) hled').trans htorn,
      byte_sram_of_sramPair (hsram'.trans hsram), hotp'.trans hotp, hbase'.trans hbase⟩
  case torn => simp only [State.endTorn, hj]
  case ends =>
    obtain ⟨hslots, hlast, hcmds, hrecord, hjob, hsram⟩ := receiptEnded_spec s t
    refine ⟨s.receiptEnded t, endReceipt_eq s t st r0 r1, (hjob t).trans (if_pos rfl), hslots, receiptEnded_headSince s t, hlast, hcmds, fun j hj hst => ?_,
      fun u hu => (hjob u).trans (if_neg hu), hsram⟩
    exact hrecord (by simp [State.hasOpened, hj, hst])

end Sys2Proof.Machine
end

section
/-! PROOFS. Device resets: the registers, the memories and the rest of the state after one, and which reset each event causes. -/

namespace Sys2Proof.Machine

/-! ### The copies that a reset interrupts (R78) -/

theorem interruptAll_frame (s : State) :
    s.interruptAll.otp = s.otp ∧ s.interruptAll.part = s.part ∧ s.interruptAll.clock = s.clock ∧ s.interruptAll.pending = s.pending := by
  have hview : s.interruptAll.imgView = s.imgView := imgView_foldl s (fun s k => imgView_interrupt s k) _
  obtain ⟨-, -, -, hotp, -, hclock, hpart⟩ := imgView_eq_iff.mp hview
  exact ⟨hotp, hpart, hclock, (State.interruptAll_keeps (H := False) .noFld (.refl s)).pending⟩

/-- The state that a reset of a kind meets: running copies have moved an open number of bursts, where the memory they write is kept. -/
def State.cutShort (s : State) (kind : Nat) : State := if s.fillsSram kind then s else s.interruptAll

theorem cutShort_frame (s : State) (kind : Nat) :
    let x := s.cutShort kind
    x.otp = s.otp ∧ x.part = s.part ∧ x.clock = s.clock ∧ x.pending = s.pending := by
  simp only [State.cutShort]
  split
  · exact ⟨rfl, rfl, rfl, rfl⟩
  · exact interruptAll_frame s

theorem fillsSram_por (s : State) : s.fillsSram kindPor = true := rfl

theorem cutShort_por (s : State) : s.cutShort kindPor = s := if_pos (fillsSram_por s)

/-! ### The state that a reset starts with -/

/-- What a reset leaves beside its registers, before the boot acts on the torn-band record. -/
def State.resetState (s : State) (kind : Nat) (fill bootSrc : Bool) : State :=
  let por := kind == kindPor
  let mask := s.brakeMask kind
  { part := s.part, clock := s.clock, otp := s.otp, flash := s.flash, free := s.free, pending := s.pending,
    sram := if fill then [] else s.sram, sramUe := if fill then [] else s.sramUe, sramCe := if fill then [] else s.sramCe,
    keep := if por then [] else s.keep, keepUe := if por then [] else s.keepUe, keepCe := if por then [] else s.keepCe,
    boot := { fill := fill, bootSrc := bootSrc && s.bank 0, brake := mask, strobesKnown := !por && s.boot.strobesKnown,
              strobeIdle := if por then 0 else s.boot.strobeIdle },
    led := { base := s.led.base, buf := if por then [] else s.led.buf, acc := if por then [] else s.led.acc,
             changed := !por && s.led.changed, onFrac := if por then 0 else s.led.onFrac,
             onUs := if por then 0 else s.led.onUs, resume := por || s.led.resume,
             erases := if por then List.replicate 16 0 else s.led.erases },
    clk := { frcEver := !por && s.clk.frcEver, lfTry := por || s.clk.lfTry, hbSince := s.clock },
    wake := { levels := s.wake.levels, idleSince := s.clock },
    bg := { keepPos := if por then 0 else s.bg.keepPos },
    feed := { hb := brakeHb mask 0 4, onBrake := mask % 16 != 0, encAB := s.feed.encAB },
    cut := { hb := brakeHb mask 4 2 } }

theorem deviceReset_eq (s : State) (kind : Nat) (b : Bool) : s.deviceReset kind b =
    ((((s.cutShort kind).resetState kind (s.fillsSram kind) b).resetRegs (s.cutShort kind) kind).bootRecord kind) := rfl

/-! ### The registers (R76 to R81, R95, R106, R107, R126) -/

theorem rd_keepFld (t s : State) (f : Fld) (h : f.lo + f.wid ≤ 32 := by decide) : (t.keepFld s f).rd f = s.rd f :=
  (State.rd_wr t f _ h).trans (Nat.mod_eq_of_lt (State.rd_lt s f))

theorem rd_keepFld_apart (t s : State) {f g : Fld} (h : f.apart g = true) : (t.keepFld s f).rd g = t.rd g := State.rd_wr_apart t f g _ h

theorem only_keepFld {w : List Fld} {r t : State} (s : State) {f : Fld} (h : Safety.only w r t) (hf : f ∈ w := by simp) :
    Safety.only w r (t.keepFld s f) := only_wr h hf

/-- The fields that every reset sets. -/
abbrev causeFlds : List Fld :=
  [CORE.RESET_CAUSE_KIND, CORE.RESET_CAUSE_COUNT, CORE.RESET_CAUSE_CUT_INTERRUPTED, SUPPLY.VH_STAT_DISCHARGING, CORE.IO_STAT_PRESENT,
    CORE.IO_STAT_CLASS33]

/-- The fields that every reset but a POR keeps. -/
abbrev alwaysOnFlds : List Fld :=
  [CORE.MODE_WAKE_SRC, CORE.CLK_STAT_LF_SRC, CORE.BG_CAL_FRC_TRIM, FEED.STAT_PAPER, FEED.STAT_NEAR_END, FEED.STAT_COVER, CUT.STAT_HOME,
    CUT.STAT_END, CORE.BG_SCRUB_POS_WORD, CORE.BG_SCRUB_POS_ACTIVE]

/-- The registers that every reset sets. -/
def State.causeRegs (t s : State) (kind : Nat) : State :=
  let t := ((t.wr CORE.RESET_CAUSE_KIND kind).keepFld s CORE.IO_STAT_PRESENT).keepFld s CORE.IO_STAT_CLASS33
  let t := t.wr CORE.RESET_CAUSE_COUNT (if kind == kindPor then 0 else satAdd 255 (s.rd CORE.RESET_CAUSE_COUNT) 1)
  let t := t.wrB CORE.RESET_CAUSE_CUT_INTERRUPTED (s.cutMoving || (s.boot.off && s.flag CORE.RESET_CAUSE_CUT_INTERRUPTED))
  t.vhSwitch true false

/-- The registers of the always-on domain and of the pins, which every reset but a POR keeps. -/
def State.alwaysOnRegs (t s : State) (kind : Nat) : State :=
  let t := ((t.keepFld s CORE.MODE_WAKE_SRC).keepFld s CORE.CLK_STAT_LF_SRC).keepFld s CORE.BG_CAL_FRC_TRIM
  let t := ((t.keepFld s FEED.STAT_PAPER).keepFld s FEED.STAT_NEAR_END).keepFld s FEED.STAT_COVER
  let t := (t.keepFld s CUT.STAT_HOME).keepFld s CUT.STAT_END
  if s.fillsSram kind then t else (t.keepFld s CORE.BG_SCRUB_POS_WORD).keepFld s CORE.BG_SCRUB_POS_ACTIVE

theorem resetRegs_eq (t s : State) (kind : Nat) :
    t.resetRegs s kind = if kind = kindPor then t.causeRegs s kind else (t.causeRegs s kind).alwaysOnRegs s kind := by
  simp only [State.resetRegs, State.causeRegs, State.alwaysOnRegs, beq_iff_eq]

theorem only_vhSwitch {w : List Fld} {r t : State} (empty high : Bool) (h : Safety.only w r t)
    (hf : SUPPLY.VH_STAT_DISCHARGING ∈ w := by simp) :
    Safety.only w { r with sup := { r.sup with vhEmpty := empty, vhOver := high } } (t.vhSwitch empty high) := by
  refine only_wrB ⟨?_, h.2⟩ hf
  rw [h.1]

theorem only_causeRegs (t s : State) (kind : Nat) :
    Safety.only causeFlds { t with sup := { t.sup with vhEmpty := true, vhOver := false } } (t.causeRegs s kind) :=
  only_vhSwitch true false (only_wrB (only_wr (only_keepFld s (only_keepFld s (only_wr (only_refl _ t))))))

theorem only_alwaysOnRegs (t s : State) (kind : Nat) : Safety.only alwaysOnFlds t (t.alwaysOnRegs s kind) := by
  unfold State.alwaysOnRegs
  extract_lets t1 t2 t3
  have h1 : Safety.only alwaysOnFlds t t1 := only_keepFld s (only_keepFld s (only_keepFld s (only_refl _ t)))
  have h2 : Safety.only alwaysOnFlds t t2 := only_keepFld s (only_keepFld s (only_keepFld s h1))
  have h3 : Safety.only alwaysOnFlds t t3 := only_keepFld s (only_keepFld s h2)
  exact only_ite h3 (only_keepFld s (only_keepFld s h3))

/-- A flag holds the truth value written. -/
theorem rd_wrB (s : State) {f : Fld} (b : Bool) (hw : 0 < f.wid := by decide) (hl : f.lo + f.wid ≤ 32 := by decide) :
    (s.wrB f b).rd f = bit b := by
  refine (State.rd_wr s f _ hl).trans (Nat.mod_eq_of_lt ?_)
  have h := Nat.pow_le_pow_right (n := 2) (by decide) hw
  cases b <;> exact Nat.lt_of_lt_of_le (by decide) h

theorem bit_eq_one {b : Bool} : bit b = 1 ↔ b = true := by cases b <;> decide

theorem rd_wrB_apart (s : State) {f g : Fld} (b : Bool) (h : f.apart g = true) : (s.wrB f b).rd g = s.rd g := State.rd_wr_apart s f g _ h

theorem rd_vhSwitch_apart (s : State) (empty high : Bool) {f : Fld} (h : SUPPLY.VH_STAT_DISCHARGING.apart f = true) :
    (s.vhSwitch empty high).rd f = s.rd f := State.rd_wr_apart _ _ _ _ h

theorem rd_vhSwitch (s : State) (empty high : Bool) :
    (s.vhSwitch empty high).rd SUPPLY.VH_STAT_DISCHARGING = bit (empty || high) :=
  rd_wrB _ (empty || high)

theorem causeRegs_fields (t s : State) {kind : Nat} (hk : kind < 8) :
    let x := t.causeRegs s kind
    x.rd CORE.RESET_CAUSE_KIND = kind ∧
      x.rd CORE.RESET_CAUSE_COUNT = (if kind = kindPor then 0 else satAdd 255 (s.rd CORE.RESET_CAUSE_COUNT) 1) ∧
      x.rd CORE.IO_STAT_PRESENT = s.rd CORE.IO_STAT_PRESENT ∧ x.rd CORE.IO_STAT_CLASS33 = s.rd CORE.IO_STAT_CLASS33 ∧
      x.rd SUPPLY.VH_STAT_DISCHARGING = 1 ∧
      (x.rd CORE.RESET_CAUSE_CUT_INTERRUPTED = 1 ↔
        s.cutMoving = true ∨ (s.boot.off = true ∧ s.rd CORE.RESET_CAUSE_CUT_INTERRUPTED ≠ 0)) := by
  have hcount : (if kind = kindPor then 0 else satAdd 255 (s.rd CORE.RESET_CAUSE_COUNT) 1) < 2 ^ CORE.RESET_CAUSE_COUNT.wid := by
    simp only [satAdd, CORE.RESET_CAUSE_COUNT]
    split <;> omega
  simp (disch := decide) only [State.causeRegs, rd_vhSwitch_apart, rd_vhSwitch, rd_wrB_apart, rd_wrB, State.rd_wr_apart, State.rd_wr,
    rd_keepFld_apart, rd_keepFld, beq_iff_eq, Nat.mod_eq_of_lt hcount]
  refine ⟨Nat.mod_eq_of_lt hk, trivial, trivial, trivial, rfl, ?_⟩
  simp only [bit_eq_one, Bool.or_eq_true, Bool.and_eq_true, State.flag, bne_iff_ne]

/-- What the always-on domain keeps, and the pins, read as before the reset. -/
theorem alwaysOnRegs_fields (t s : State) (kind : Nat) :
    let x := t.alwaysOnRegs s kind
    x.rd CORE.MODE_WAKE_SRC = s.rd CORE.MODE_WAKE_SRC ∧ x.rd CORE.CLK_STAT_LF_SRC = s.rd CORE.CLK_STAT_LF_SRC ∧
      x.rd CORE.BG_CAL_FRC_TRIM = s.rd CORE.BG_CAL_FRC_TRIM ∧ x.rd FEED.STAT_PAPER = s.rd FEED.STAT_PAPER ∧
      x.rd FEED.STAT_NEAR_END = s.rd FEED.STAT_NEAR_END ∧ x.rd FEED.STAT_COVER = s.rd FEED.STAT_COVER ∧
      x.rd CUT.STAT_HOME = s.rd CUT.STAT_HOME ∧ x.rd CUT.STAT_END = s.rd CUT.STAT_END := by
  have hscrub (y : State) {f : Fld} (hw : CORE.BG_SCRUB_POS_WORD.apart f = true) (ha : CORE.BG_SCRUB_POS_ACTIVE.apart f = true) :
      (if s.fillsSram kind then y else (y.keepFld s CORE.BG_SCRUB_POS_WORD).keepFld s CORE.BG_SCRUB_POS_ACTIVE).rd f = y.rd f := by
    split
    · rfl
    · rw [rd_keepFld_apart _ _ ha, rd_keepFld_apart _ _ hw]
  simp only [State.alwaysOnRegs]
  refine ⟨?_, ?_, ?_, ?_, ?_, ?_, ?_, ?_⟩
  all_goals
    rw [hscrub _ (by decide) (by decide)]
    simp (disch := decide) only [rd_keepFld_apart, rd_keepFld]

/-- The registers after a reset, before the boot acts on the record. -/
theorem only_resetRegs (t s : State) (kind : Nat) :
    Safety.only (causeFlds ++ if kind = kindPor then [] else alwaysOnFlds)
      { t with sup := { t.sup with vhEmpty := true, vhOver := false } } (t.resetRegs s kind) := by
  have hcause := only_causeRegs t s kind
  rw [resetRegs_eq]
  split
  · exact only_mono hcause fun _ => List.mem_append_left _
  · exact only_trans (only_mono hcause fun _ => List.mem_append_left _)
      (only_mono (only_alwaysOnRegs _ s kind) fun _ => List.mem_append_right _)

/-- A field of the reset's cause reads the same with what the always-on domain keeps. -/
theorem rd_resetRegs_cause (t s : State) (kind : Nat) {f : Fld} (h : ∀ g ∈ alwaysOnFlds, g.apart f = true) :
    (t.resetRegs s kind).rd f = (t.causeRegs s kind).rd f := by
  rw [resetRegs_eq]
  split
  · rfl
  · exact (only_alwaysOnRegs _ s kind).2.1 f h

/-! ### Step 4 of the boot (R98) -/

/-- What the boot does of the torn-band record with the state that it has read. -/
theorem bootRecord_eq (s : State) (kind : Nat) : s.bootRecord kind =
    let y := (s.readMem .keep recAt 4).1
    if s.recState = recOpen then ((y.recPut 0x14 [kind]).recPut 0 (leBytes 4 recTorn)).wr CORE.RESET_CAUSE_TORN_PENDING 1
    else if s.recState = recTorn then y.wr CORE.RESET_CAUSE_TORN_PENDING 1 else y := by
  simp only [State.bootRecord, beq_iff_eq]
  rfl

theorem only_readMem (s : State) (m : Ram) (a len : Nat) : Safety.only m.checkFlds s (s.readMem m a len).1 :=
  List.foldlRecOn (motive := fun t => Safety.only m.checkFlds s t) _ _ (only_refl _ s) fun t h w _ => only_trans h (only_checkWord t m w)

/-- From `s` to `x` the torn-band record, its mark and the counts of errors have changed. -/
structure RecordOnly (s x : State) : Prop where
  mem : MemOnly s x
  regs : Safety.regsBut (CORE.RESET_CAUSE_TORN_PENDING :: Ram.keep.checkFlds) s x
  sram : ∀ a, x.byte .sram a = s.byte .sram a
  keep : ∀ a, (a < 0x100 ∨ 0x120 ≤ a) → x.byte .keep a = s.byte .keep a

theorem RecordOnly.trans {s t u : State} (h : RecordOnly s t) (k : RecordOnly t u) : RecordOnly s u :=
  ⟨h.mem.trans k.mem, regsBut_trans h.regs k.regs, fun a => (k.sram a).trans (h.sram a), fun a ha => (k.keep a ha).trans (h.keep a ha)⟩

theorem RecordOnly.of_only {s x : State} (h : Safety.only (CORE.RESET_CAUSE_TORN_PENDING :: Ram.keep.checkFlds) s x) : RecordOnly s x := by
  refine ⟨?_, h.2.1, h.2.2.1 .sram, fun a _ => h.2.2.1 .keep a⟩
  rw [MemOnly, h.1]

theorem recordOnly_readMem (s : State) (a len : Nat) : RecordOnly s (s.readMem .keep a len).1 :=
  .of_only (only_mono (only_readMem s .keep a len) fun _ => List.mem_cons_of_mem _)

theorem recordOnly_recPut (s : State) {off : Nat} {bs : List Nat} (hl : off + bs.length ≤ 32) : RecordOnly s (s.recPut off bs) :=
  ⟨memOnly_recPut s off bs, fun f hf => regsBut_writeMem s .keep _ bs f fun g hg => hf g (List.mem_cons_of_mem _ hg),
    byte_sram_recPut s off bs, fun _ => byte_keep_recPut s hl⟩

theorem recordOnly_wr_pending (s : State) (v : Nat) : RecordOnly s (s.wr CORE.RESET_CAUSE_TORN_PENDING v) :=
  .of_only (only_wr (only_refl _ s))

/-- Beside the record, its mark and the counts of errors, the boot leaves everything. -/
theorem recordOnly_bootRecord (s : State) (kind : Nat) : RecordOnly s (s.bootRecord kind) := by
  have hread := recordOnly_readMem s recAt 4
  rw [bootRecord_eq]
  extract_lets y
  split
  · exact ((hread.trans (recordOnly_recPut y (Nat.le_of_ble_eq_true rfl))).trans
      (recordOnly_recPut _ (Nat.le_of_ble_eq_true rfl))).trans (recordOnly_wr_pending _ 1)
  · split
    · exact hread.trans (recordOnly_wr_pending y 1)
    · exact hread

/-- A record that is not OPEN is left as it is. -/
theorem byte_keep_bootRecord {s : State} (h : s.recState ≠ recOpen) (kind a : Nat) :
    (s.bootRecord kind).byte .keep a = s.byte .keep a := by
  have hread : (s.readMem .keep recAt 4).1.byte .keep a = s.byte .keep a := (only_readMem s .keep recAt 4).2.2.1 .keep a
  rw [bootRecord_eq]
  extract_lets y
  rw [if_neg h]
  split <;> exact hread

/-- After the boot a TORN record is pending, and no other. -/
theorem bootRecord_pending {s : State} (h : s.rd CORE.RESET_CAUSE_TORN_PENDING = 0) (kind : Nat) :
    (s.bootRecord kind).rd CORE.RESET_CAUSE_TORN_PENDING = 1 ↔ (s.bootRecord kind).recState = recTorn := by
  have honly := only_readMem s .keep recAt 4
  have hrec : (s.readMem .keep recAt 4).1.recState = s.recState := only_same honly State.recState
  have hpending : (s.readMem .keep recAt 4).1.rd CORE.RESET_CAUSE_TORN_PENDING = 0 := (honly.2.1 _ (by decide)).trans h
  have hmarked (x : State) : (x.wr CORE.RESET_CAUSE_TORN_PENDING 1).rd CORE.RESET_CAUSE_TORN_PENDING = 1 := State.rd_wr _ _ _
  have hshown (x : State) : (x.wr CORE.RESET_CAUSE_TORN_PENDING 1).recState = x.recState := rfl
  rw [bootRecord_eq]
  extract_lets y
  split
  next =>
    rw [hmarked, hshown, recState_recPut _ (by decide)]
    exact ⟨fun _ => rfl, fun _ => rfl⟩
  next =>
    split
    next ht =>
      rw [hmarked, hshown, hrec]
      exact ⟨fun _ => ht, fun _ => rfl⟩
    next ht => exact ⟨fun hp => by rw [hpending] at hp; omega, fun hr => absurd (hrec.symm.trans hr) ht⟩

/-! ### A device reset -/

/-- A field apart from those that the rules name holds its reset value. -/
theorem rd_deviceReset (s : State) (kind : Nat) (b : Bool) {f : Fld}
    (hf : ∀ g ∈ (CORE.RESET_CAUSE_TORN_PENDING :: Ram.keep.checkFlds) ++ causeFlds ++ (if kind = kindPor then [] else alwaysOnFlds),
      g.apart f = true) : (s.deviceReset kind b).rd f = State.reset.rd f := by
  simp only [List.forall_mem_append] at hf
  obtain ⟨⟨hrec, hcause⟩, hkept⟩ := hf
  rw [deviceReset_eq, (recordOnly_bootRecord _ kind).regs f hrec,
    (only_resetRegs _ (s.cutShort kind) kind).2.1 f (List.forall_mem_append.mpr ⟨hcause, hkept⟩)]
  rfl

/-- What is neither a register nor a memory follows the state that the reset starts with. -/
theorem deviceReset_same (s : State) (kind : Nat) (b : Bool) {α : Type} (f : State → α)
    (hf : ∀ (x : State) (regs : Store Word) (sup : Supply) (sram keep : Store Byte) (a b c d : List Nat),
      f { x with regs := regs, sup := sup, sram := sram, keep := keep, sramUe := a, sramCe := b, keepUe := c, keepCe := d } = f x := by
        intros; rfl) : f (s.deviceReset kind b) = f ((s.cutShort kind).resetState kind (s.fillsSram kind) b) := by
  have hboot (t : State) : f (t.bootRecord kind) = f t := by
    rw [(recordOnly_bootRecord t kind).mem]
    exact hf t _ t.sup _ _ _ _ _ _
  have hregs (t u : State) : f (t.resetRegs u kind) = f t := by
    rw [(only_resetRegs t u kind).1]
    exact hf t _ _ t.sram t.keep t.sramUe t.sramCe t.keepUe t.keepCe
  rw [deviceReset_eq, hboot, hregs]

/-- A field that the boot does not write reads as the reset has left it. -/
theorem rd_deviceReset_registers (s : State) (kind : Nat) (b : Bool) {f : Fld}
    (hf : ∀ g ∈ CORE.RESET_CAUSE_TORN_PENDING :: Ram.keep.checkFlds, g.apart f = true) : (s.deviceReset kind b).rd f =
      (((s.cutShort kind).resetState kind (s.fillsSram kind) b).resetRegs (s.cutShort kind) kind).rd f := by
  rw [deviceReset_eq, (recordOnly_bootRecord _ kind).regs f hf]

theorem rd_deviceReset_cause (s : State) (kind : Nat) (b : Bool) {f : Fld}
    (hf : ∀ g ∈ CORE.RESET_CAUSE_TORN_PENDING :: Ram.keep.checkFlds, g.apart f = true) (ha : ∀ g ∈ alwaysOnFlds, g.apart f = true) :
    (s.deviceReset kind b).rd f =
      (((s.cutShort kind).resetState kind (s.fillsSram kind) b).causeRegs (s.cutShort kind) kind).rd f := by
  rw [rd_deviceReset_registers s kind b hf, rd_resetRegs_cause _ _ _ ha]

theorem deviceReset_pending (s : State) (kind : Nat) (b : Bool) : (s.deviceReset kind b).rd CORE.RESET_CAUSE_TORN_PENDING = 1 ↔
    (s.deviceReset kind b).recState = recTorn := by
  have hreset : (((s.cutShort kind).resetState kind (s.fillsSram kind) b).resetRegs (s.cutShort kind) kind).rd
      CORE.RESET_CAUSE_TORN_PENDING = 0 := by
    have hzero : State.reset.rd CORE.RESET_CAUSE_TORN_PENDING = 0 := by decide +kernel
    refine ((only_resetRegs _ (s.cutShort kind) kind).2.1 _ ?_).trans hzero
    split <;> decide
  exact bootRecord_pending hreset kind

theorem deviceReset_alwaysOn (s : State) {kind : Nat} (b : Bool) (hk : kind ≠ kindPor) :
    let x := s.deviceReset kind b
    let s' := s.cutShort kind
    x.rd CORE.MODE_WAKE_SRC = s'.rd CORE.MODE_WAKE_SRC ∧ x.rd CORE.CLK_STAT_LF_SRC = s'.rd CORE.CLK_STAT_LF_SRC ∧
      x.rd CORE.BG_CAL_FRC_TRIM = s'.rd CORE.BG_CAL_FRC_TRIM ∧ x.rd FEED.STAT_PAPER = s'.rd FEED.STAT_PAPER ∧
      x.rd FEED.STAT_NEAR_END = s'.rd FEED.STAT_NEAR_END ∧ x.rd FEED.STAT_COVER = s'.rd FEED.STAT_COVER ∧
      x.rd CUT.STAT_HOME = s'.rd CUT.STAT_HOME ∧ x.rd CUT.STAT_END = s'.rd CUT.STAT_END := by
  intro x s'
  have hx {f : Fld} (hf : ∀ g ∈ CORE.RESET_CAUSE_TORN_PENDING :: Ram.keep.checkFlds, g.apart f = true) :
      x.rd f = (((s'.resetState kind (s.fillsSram kind) b).causeRegs s' kind).alwaysOnRegs s' kind).rd f := by
    rw [rd_deviceReset_registers s kind b hf, resetRegs_eq, if_neg hk]
  rw [hx (by decide), hx (by decide), hx (by decide), hx (by decide), hx (by decide), hx (by decide), hx (by decide), hx (by decide)]
  exact alwaysOnRegs_fields _ s' kind

/-! ### The memories after a reset (R78) -/

/-- A byte that the boot does not write is what the reset has left or filled. -/
theorem byte_resetRegs (t s : State) (kind : Nat) (m : Ram) (a : Nat) : (t.resetRegs s kind).byte m a = t.byte m a := by
  refine ((only_resetRegs t s kind).2.2.1 m a).trans ?_
  cases m <;> rfl

theorem byte_sram_deviceReset (s : State) (kind : Nat) (b : Bool) (a : Nat) :
    (s.deviceReset kind b).byte .sram a = if s.fillsSram kind then 0 else (s.cutShort kind).byte .sram a := by
  rw [deviceReset_eq, (recordOnly_bootRecord _ kind).sram, byte_resetRegs]
  simp only [State.byte, State.cells, State.resetState]
  split <;> rfl

theorem byte_keep_por (s : State) (b : Bool) (a : Nat) : (s.deviceReset kindPor b).byte .keep a = 0 := by
  have hzero (a : Nat) : ((s.resetState kindPor true b).resetRegs s kindPor).byte .keep a = 0 := byte_resetRegs _ s kindPor .keep a
  have hrec : ((s.resetState kindPor true b).resetRegs s kindPor).recState ≠ recOpen := by
    simp only [State.recState, State.bytes, hzero]
    decide
  rw [deviceReset_eq, cutShort_por, fillsSram_por, byte_keep_bootRecord hrec, hzero]

theorem byte_keep_deviceReset (s : State) {kind : Nat} (b : Bool) (hk : kind ≠ kindPor) {a : Nat} (ha : a < 0x100 ∨ 0x120 ≤ a) :
    (s.deviceReset kind b).byte .keep a = (s.cutShort kind).byte .keep a := by
  rw [deviceReset_eq, (recordOnly_bootRecord _ kind).keep a ha, byte_resetRegs]
  simp only [State.byte, State.cells, State.resetState, beq_false_of_ne hk, Bool.false_eq_true, if_false]

/-! ### The half-bridges after a reset (R83, R84) -/

theorem brakeHb_getElem? (mask lo : Nat) {n i : Nat} (hi : i < n) :
    (brakeHb mask lo n)[i]? = some (if mask.testBit (lo + i) then .low else .z) := by
  simp [brakeHb, hi]

/-- The half-bridges are in the hands of the brake path. -/
theorem deviceReset_bridges (s : State) (kind : Nat) (b : Bool) :
    let x := s.deviceReset kind b
    let mask := (s.cutShort kind).brakeMask kind
    x.boot.brake = mask ∧ x.feed.hb = brakeHb mask 0 4 ∧ x.cut.hb = brakeHb mask 4 2 :=
  ⟨deviceReset_same s kind b fun x => x.boot.brake, deviceReset_same s kind b fun x => x.feed.hb, deviceReset_same s kind b fun x => x.cut.hb⟩

/-! ### The statements -/

/-- Settles O9: the registers are their reset values but for those of the cause and those that the always-on domain keeps, and the boot
changes the record, its mark and the counts of errors alone. -/
theorem deviceReset : Obligations.DeviceReset := by
  refine ⟨fun s kind b hk => ?registers, fun s kind b => ?rest⟩
  case registers =>
    intro s' x kept named
    obtain ⟨hkind, hcount, hpresent, hclass, hdischarging, hcut⟩ :=
      causeRegs_fields (s'.resetState kind (s.fillsSram kind) b) s' hk
    have hx {f : Fld} (hf : ∀ g ∈ CORE.RESET_CAUSE_TORN_PENDING :: Ram.keep.checkFlds, g.apart f = true)
        (ha : ∀ g ∈ alwaysOnFlds, g.apart f = true) : x.rd f = ((s'.resetState kind (s.fillsSram kind) b).causeRegs s' kind).rd f :=
      rd_deviceReset_cause s kind b hf ha
    refine ⟨(hx (by decide) (by decide)).trans hkind, (hx (by decide) (by decide)).trans hcount,
      (hx (by decide) (by decide)).trans hpresent, (hx (by decide) (by decide)).trans hclass, deviceReset_pending s kind b,
      (hx (by decide) (by decide)).trans hdischarging, ?_, fun f hf => ?_, deviceReset_alwaysOn s b⟩
    · rw [hx (by decide) (by decide)]
      exact hcut
    · refine rd_deviceReset s kind b ?_
      simp only [List.forall_mem_append] at hf ⊢
      obtain ⟨hnamed, hkept⟩ := hf
      have hmem : ∀ g ∈ (CORE.RESET_CAUSE_TORN_PENDING :: Ram.keep.checkFlds) ++ causeFlds, g ∈ named := by decide
      exact ⟨List.forall_mem_append.mp fun g hg => hnamed g (hmem g hg), hkept⟩
  case rest =>
    intro s' x
    obtain ⟨hotp, hpart, hclock, hpending⟩ := cutShort_frame s kind
    obtain ⟨-, hfeed, hcut⟩ := deviceReset_bridges s kind b
    have hsram := byte_sram_deviceReset s kind b
    have hflash : x.flash = s'.flash := deviceReset_same s kind b State.flash
    refine ⟨deviceReset_same s kind b State.base, (deviceReset_same s kind b State.otp).trans hotp, fun a => ?_,
      (deviceReset_same s kind b State.part).trans hpart, (deviceReset_same s kind b State.clock).trans hclock,
      (deviceReset_same s kind b State.pending).trans hpending, deviceReset_same s kind b fun x => x.led.base,
      deviceReset_same s kind b State.cmds, deviceReset_same s kind b State.faults, deviceReset_same s kind b State.queues,
      deviceReset_same s kind b State.img, deviceReset_same s kind b fun x => x.boot.fill, fun h a => ?_, fun h a => ?_, ?_,
      fun hk a => byte_keep_deviceReset s b hk, fun i hi => ?_, fun i hi => ?_⟩
    · simp only [State.flashBytes, hflash]
    · exact (hsram a).trans (if_pos h)
    · exact (hsram a).trans (if_neg (by simp [h]))
    · rintro rfl
      exact byte_keep_por s b
    · rw [hfeed, brakeHb_getElem? _ _ hi, Nat.zero_add]
      rfl
    · rw [hcut, brakeHb_getElem? _ _ hi]
      rfl

/-- Settles O10: after a POR the brake path has no bridge. -/
theorem noBrakeAfterPor : Obligations.NoBrakeAfterPor := by
  intro b s
  obtain ⟨hbrake, hfeed, hcut⟩ := deviceReset_bridges s kindPor b
  have hmask : (s.cutShort kindPor).brakeMask kindPor = 0 := rfl
  rw [hmask] at hbrake hfeed hcut
  exact ⟨s.deviceReset kindPor b, rfl, hbrake, hfeed, hcut⟩

/-- Settles O11: each event of the row's condition resets the device; RESET_CTL is a host write of CORE. -/
theorem resetCauses : Obligations.ResetCauses := by
  refine ⟨fun b s => rfl, fun s => ⟨rfl, rd_vhSwitch _ false false⟩, fun s hr hb => ?pin, fun b s hl => if_pos hl,
    fun w s ht hgo hkey => ?go, fun w s ht hno => ?ignored, fun b s hr hd => ?soft, fun mv b s ha hlow => ?coreUv, fun b s ha => if_pos ha⟩
  case pin => exact if_neg (by simp [hr, hb])
  case go =>
    have hfield : field w 0 1 = 1 := by simpa [field] using hgo
    exact congrArg Host.Outcome.next ((hostReg_takes ht fun s => s.writeResetCtl w).trans (if_pos (by simp [hfield, hkey])))
  case ignored =>
    have hfield : field w 0 1 = w.toNat % 2 := by simp [field]
    refine congrArg Host.Outcome.next ((hostReg_takes ht fun s => s.writeResetCtl w).trans (if_neg ?_))
    rw [hfield, Bool.and_eq_true, beq_iff_eq, beq_iff_eq]
    omega
  case soft => exact if_pos (by simp [hr, hd])
  case coreUv => exact if_pos (by simpa [ha, State.coreLow] using hlow)

end Sys2Proof.Machine
end

section
/-! PROOFS. The ends of the brake hold and of the zero fill, the heartbeat, and the state after reset. -/

namespace Sys2Proof.Machine

/-! ### The brake hold (R83, R402) -/

/-- The brake path has let go of every half-bridge. -/
def State.bridgesFree (s : State) : State :=
  { s with boot := { s.boot with brake := 0 }, feed := { s.feed with hb := [.z, .z, .z, .z], aux := .off, onBrake := false },
           cut := { s.cut with hb := [.z, .z] } }

/-- The brake hold has ended, and FEED shows that it has its bridges again. -/
def State.brakeEnded (s : State) : State :=
  let x := s.bridgesFree
  if x.rd FEED.STAT_STATE == 6 then x.wr FEED.STAT_STATE (if x.feedMoving then 2 else 0) else x

theorem only_brakeEnded (s : State) : Safety.only [FEED.STAT_STATE] s.bridgesFree s.brakeEnded :=
  only_ite (only_wr (only_refl _ _)) (only_refl _ _)

/-- A flag of one bit is set where it reads 1. -/
theorem flag_eq_beq_one (s : State) {f : Fld} (hw : f.wid = 1) : s.flag f = (s.rd f == 1) := by
  have h := State.rd_lt s f
  rw [hw] at h
  rw [State.flag, Bool.eq_iff_iff, bne_iff_ne, beq_iff_eq]
  omega

theorem exec_brakeHoldEnd {s : State} (h : s.boot.brake ≠ 0) :
    let x := s.brakeEnded
    exec .brakeHoldEnd s = .next (if (x.awake && x.auxUsed && x.rd FEED.AUX_ON == 1) = true then x.auxPull else x).settle := by
  intro x
  rw [← flag_eq_beq_one x rfl]
  exact if_neg (by simpa using h)

theorem exec_zeroFillDone {s : State} (ha : s.awake = true) (hf : s.boot.fill = true) :
    exec .zeroFillDone s = .next (State.settle { s with boot := { s.boot with fill := false } }) :=
  if_pos (by simp [ha, hf])

/-! ### The heartbeat (R101 to R103) -/

theorem exec_hbPeriodWrite {s : State} (h : Safety.takes s .core) (w : Word) :
    exec (.hbPeriodWrite w) s = .next (s.idleRestart.writeHbPeriod w) :=
  congrArg Host.Outcome.next (hostReg_takes h fun s => s.writeHbPeriod w)

/-- The period that a write asks for: none, or 10 ms at the least. -/
def hbPeriod (w : Word) : Nat := if field w 0 16 = 0 then 0 else max 10 (field w 0 16)

theorem hbPeriod_lt (w : Word) : hbPeriod w < 2 ^ CORE.HB_PERIOD_PERIOD_MS.wid := by
  have h : field w 0 16 < 2 ^ 16 := field_lt w 0 16
  simp only [hbPeriod, CORE.HB_PERIOD_PERIOD_MS]
  split <;> omega

theorem only_hbRestart {w : List Fld} {s t : State} (h : Safety.only w s t) : Safety.only w s.hbRestart t.hbRestart := by
  refine ⟨?_, h.2⟩
  rw [State.hbRestart, State.hbRestart, State.setClk, h.1]
  rfl

theorem rd_hbRestart (s : State) (f : Fld) : s.hbRestart.rd f = s.rd f := rfl

theorem only_writeHbPeriod (s : State) (w : Word) :
    Safety.only [CORE.HB_PERIOD_PERIOD_MS, CORE.HB_PERIOD_EXPIRED] s.hbRestart (s.writeHbPeriod w) :=
  only_hbRestart (only_ite (only_wr (only_wr (only_refl _ s))) (only_wr (only_refl _ s)))

theorem writeHbPeriod_fields (s : State) (w : Word) :
    (s.writeHbPeriod w).rd CORE.HB_PERIOD_PERIOD_MS = hbPeriod w ∧
      (s.writeHbPeriod w).rd CORE.HB_PERIOD_EXPIRED = if field w 16 1 = 1 then 0 else s.rd CORE.HB_PERIOD_EXPIRED := by
  have hperiod : (s.wr CORE.HB_PERIOD_PERIOD_MS (hbPeriod w)).rd CORE.HB_PERIOD_PERIOD_MS = hbPeriod w :=
    (State.rd_wr s CORE.HB_PERIOD_PERIOD_MS _).trans (Nat.mod_eq_of_lt (hbPeriod_lt w))
  unfold State.writeHbPeriod
  simp only [rd_hbRestart, beq_iff_eq]
  split
  · exact ⟨(State.rd_wr_apart _ _ _ _ (by decide)).trans hperiod, State.rd_wr _ CORE.HB_PERIOD_EXPIRED 0⟩
  · exact ⟨hperiod, State.rd_wr_apart _ _ _ _ (by decide)⟩

/-- The heartbeat has expired: it shows so, and its count starts again. -/
def State.hbOver (s : State) : State := (s.wr CORE.HB_PERIOD_EXPIRED 1).hbRestart

theorem rd_hbOver_expired (s : State) : s.hbOver.rd CORE.HB_PERIOD_EXPIRED = 1 := by
  rw [State.hbOver, rd_hbRestart, State.rd_wr s CORE.HB_PERIOD_EXPIRED]
  rfl

theorem exec_hbExpired {s : State} (ha : s.awake = true) (hi : s.imageApplied = true) (hp : s.rd CORE.HB_PERIOD_PERIOD_MS ≠ 0) :
    exec .hbExpired s =
      .next (if s.base = .run then s.hbOver.raise 0x0001 0 (s.rd CORE.HB_PERIOD_PERIOD_MS) else s.hbOver).settle := by
  have hperiod : s.hbOver.rd CORE.HB_PERIOD_PERIOD_MS = s.rd CORE.HB_PERIOD_PERIOD_MS := by
    rw [State.hbOver, rd_hbRestart, State.rd_wr_apart _ _ _ _ (by decide)]
  have hdue : (s.awake && s.imageApplied && s.rd CORE.HB_PERIOD_PERIOD_MS != 0) = true := by simp [ha, hi, hp]
  have hbase : s.hbOver.base = s.base := by rw [State.hbOver, State.hbRestart, State.setClk_base, State.wr_base]
  change execHbExpired s = _
  simp only [State.hbOver] at hperiod hbase ⊢
  simp only [execHbExpired, hdue, if_true, hperiod, hbase, beq_iff_eq]

theorem exec_heartbeatKick {s : State} (h : Safety.takes s .core) (w : Word) :
    exec (.heartbeatKick w) s = .next (if field w 0 16 = 0x4842 then s.idleRestart.hbRestart else s.idleRestart) := by
  refine congrArg Host.Outcome.next ((hostReg_takes h fun s => s.writeHeartbeat w).trans ?_)
  simp only [State.writeHeartbeat, beq_iff_eq]

/-! ### The statements -/

/-- Settles O12: each clause is the equation of its event, with what its registers then show. -/
theorem holdsAndHeartbeat : Obligations.HoldsAndHeartbeat := by
  refine ⟨⟨fun s h => ?brake, fun s ha hf => exec_zeroFillDone ha hf⟩, fun w s ht => ?period, fun s ha hi hp => ?expired⟩
  case brake =>
    have honly := only_brakeEnded s
    exact ⟨s.brakeEnded, exec_brakeHoldEnd h, only_same honly fun x => x.boot.brake, only_same honly fun x => x.feed.hb,
      only_same honly fun x => x.cut.hb, honly⟩
  case period =>
    obtain ⟨hperiod, hexpired⟩ := writeHbPeriod_fields s.idleRestart w
    exact ⟨_, exec_hbPeriodWrite ht w, hperiod, hexpired, only_writeHbPeriod _ w⟩
  case expired => exact ⟨s.hbOver, exec_hbExpired ha hi hp, rd_hbOver_expired s, only_hbRestart (only_wr (only_refl _ s))⟩

/-- Settles O13: the kick with its key and a write of the period restart the count, which begins at the clock. -/
theorem heartbeatRestarts : Obligations.HeartbeatRestarts := by
  refine ⟨fun w s ht hw => ?_, fun w s ht hw => ?_, fun w s ht => ⟨_, exec_hbPeriodWrite ht w, ?_⟩⟩
  · rw [exec_heartbeatKick ht, if_pos hw]
    rfl
  · rw [exec_heartbeatKick ht, if_neg hw]
  · exact only_same (only_writeHbPeriod s.idleRestart w) fun x => x.clk.hbSince

/-- Settles O59: of the stores only the registers hold anything, and their table is canonical. -/
theorem resetIsCanonical : Obligations.ResetIsCanonical := by
  have hregs : Store.wf 0 resetWords = true := by decide +kernel
  exact ⟨⟨hregs, rfl, rfl, rfl, rfl, rfl⟩, rfl, rfl, rfl⟩

end Sys2Proof.Machine
end

section
/-! PROOFS. Commands that end early: the end of a ready-wait, ABORT, and the release of HELD. -/

namespace Sys2Proof.Machine

/-! ### The end of a ready-wait (R89, R214) -/

section
variable {tag : Fin 64} {s : State} {c : Cmd} (ha : s.awake = true) (hc : s.cmd? tag = some c)
include ha hc

theorem exec_readyWaitExpiry (hw : s.waits c = true) : exec (.readyWaitExpiry tag) s = .next (s.waitOver c).settle := by
  change execReadyWaitExpiry tag s = _
  simp only [execReadyWaitExpiry, hc, ha, hw, Bool.and_self, if_true]

end

theorem waitOver_other {s : State} {c : Cmd} (h : c.op ≠ 0x60 ∨ c.started = false) : s.waitOver c = s.endOpen c.tag stNotReady :=
  if_neg (by rcases h with h | h <;> simp [h])

/-- A check pass is over, and RASTER idles. -/
def State.checkOver (s : State) : State := ({ s with raster := { s.raster with begun := none } } : State).wr RASTER.STAT_STATE 0

theorem rd_checkOver (s : State) {f : Fld} (h : RASTER.STAT_STATE.apart f = true) : s.checkOver.rd f = s.rd f :=
  State.rd_wr_apart _ _ _ _ h

theorem rd_checkOver_state (s : State) : s.checkOver.rd RASTER.STAT_STATE = 0 := by
  rw [State.checkOver, State.rd_wr _ RASTER.STAT_STATE, Nat.zero_mod]

theorem only_checkOver {w : List Fld} {s t : State} (h : Safety.only w s t) (hf : RASTER.STAT_STATE ∈ w := by simp) :
    Safety.only w { s with raster := { s.raster with begun := none } } t.checkOver := by
  have hraster : t.raster = s.raster := only_same h State.raster
  refine only_wr (t := { t with raster := { t.raster with begun := none } }) ⟨?_, h.2⟩ hf
  rw [hraster, h.1]

theorem endCheck_eq (s : State) (t status : Nat) : s.endCheck t status = s.checkOver.complete t status 0 0 := rfl

section
variable {s : State} {c : Cmd} (hop : c.op = 0x60) (hst : c.started = true)
include hop hst

/-- What a started RECEIPT waits for is RASTER's flash, or its first line. -/
theorem waits_receipt : s.waits c = s.receiptWaits c := by
  simp [State.waits, hop, hst]

/-- A RECEIPT whose check pass waits for the flash store ends with FLASH_WAIT at the item that waits. -/
theorem waitOver_check (hj : s.job? c.tag = none) :
    s.waitOver c = (s.rasterErr s.raster.waitAt 11).checkOver.complete c.tag stNotReady 0 0 := by
  rw [← endCheck_eq]
  simp [State.waitOver, hop, hst, hj]

variable {j : Job} (hj : s.job? c.tag = some j)
include hj

theorem waitOver_render (hr : s.rd RASTER.STAT_STATE = 4) (hb : j.committed < j.bands) (hf : j.failed = none) :
    s.waitOver c = s.renderStop j s.raster.waitAt 11 := by
  simp [State.waitOver, hop, hst, hj, hr, hb, hf]

/-- The result words are free values. -/
theorem waitOver_firstLine (hr : s.rd RASTER.STAT_STATE ≠ 4) : s.waitOver c =
    ({ s with free := s.free + 2 } : State).endReceipt c.tag stNotReady (Config.openWord s.free) (Config.openWord (s.free + 1)) := by
  simp [State.waitOver, hop, hst, hj, hr, State.openWord, State.fresh]

end

theorem checkFailed_spec {s : State} {off cause : Nat} (ho : off < 2 ^ RASTER.ERR_OFFSET.wid) (hc : cause < 2 ^ RASTER.ERR_CAUSE.wid) :
    let x := (s.rasterErr off cause).checkOver
    x.rd RASTER.ERR_CAUSE = cause ∧ x.rd RASTER.ERR_OFFSET = off ∧ x.rd RASTER.STAT_STATE = 0 ∧
      Safety.only [RASTER.ERR_OFFSET, RASTER.ERR_CAUSE, RASTER.STAT_STATE] { s with raster := { s.raster with begun := none } } x := by
  have herr : Safety.only [RASTER.ERR_OFFSET, RASTER.ERR_CAUSE, RASTER.STAT_STATE] s (s.rasterErr off cause) :=
    only_wr (only_wr (only_refl _ s))
  have hcause : (s.rasterErr off cause).rd RASTER.ERR_CAUSE = cause := by
    rw [State.rasterErr, State.rd_wr _ RASTER.ERR_CAUSE, Nat.mod_eq_of_lt hc]
  have hoffset : (s.rasterErr off cause).rd RASTER.ERR_OFFSET = off := by
    rw [State.rasterErr, State.rd_wr_apart _ _ _ _ (by decide), State.rd_wr _ RASTER.ERR_OFFSET, Nat.mod_eq_of_lt ho]
  generalize s.rasterErr off cause = y at herr hcause hoffset
  exact ⟨(rd_checkOver y (by decide)).trans hcause, (rd_checkOver y (by decide)).trans hoffset, rd_checkOver_state y, only_checkOver herr⟩

/-! ### ABORT (R216, R217) -/

/-- The command that an ABORT names: the earliest-fetched one of its CMD_ID from its queue, but not itself. -/
def State.abortTarget (s : State) (c : Cmd) : Option Cmd :=
  s.cmds.find? fun x => x.cmdId == c.p0 % 65536 && x.queue == c.p0 / 65536 % 16 && x.tag != c.tag

section
variable {tag : Fin 64} {s : State} {c : Cmd} (ha : s.awake = true) (hc : s.cmd? tag = some c) (hop : c.op = 0x04)
  (hst : c.started = false)
include ha hc hop hst

theorem exec_abort_none (hv : s.abortTarget c = none) : exec (.abort tag) s = .next (s.endOpen c.tag stBadParam).settle := by
  rw [State.abortTarget] at hv
  change execAbort tag s = _
  simp only [execAbort, hc, hop, hst, ha, hv, beq_self_eq_true, Bool.not_false, Bool.and_self, if_true]

theorem exec_abort_some {v : Cmd} (hv : s.abortTarget c = some v) : exec (.abort tag) s =
    .next ((s.modCmd c.tag fun u => { u with started := true, abortOf := some v.tag }).cancel v).settle := by
  rw [State.abortTarget] at hv
  change execAbort tag s = _
  simp only [execAbort, hc, hop, hst, ha, hv, beq_self_eq_true, Bool.not_false, Bool.and_self, if_true]

end

theorem cancel_waiting {s : State} {v : Cmd} (h : v.started = false) :
    s.cancel v = (if v.op = 0x60 then s.dryAborted else s).endOpen v.tag stAborted := by
  simp [State.cancel, h]

theorem cancel_partialApply {s : State} {v : Cmd} (h : v.started = true) (hop : v.op = 0x01) : s.cancel v = s := by
  simp [State.cancel, h, hop]

/-! ### The release of HELD (R531 to R533) -/

/-- What the release of HELD changes beside its register. -/
def State.heldOver (s : State) : State :=
  { s with
    base := .run, faults := s.faults.filter fun f => !releaseCodes.contains f.code, clk := { s.clk with hbSince := s.clock },
    wake := { s.wake with idleSince := s.clock }, cut := { s.cut with needHome := true },
    boot := { s.boot with tested := s.boot.tested - (s.boot.tested &&& 2 ^ 8) } }

/-- What the release of HELD leaves before what may then start does. -/
def State.released (s : State) : State := s.heldOver.wr CORE.HELD_BLOCK 0

theorem leaveHeld_eq (s : State) : s.leaveHeld = s.released.settle := rfl

theorem released_spec (s : State) :
    let x := s.released
    x.base = .run ∧ x.rd CORE.HELD_BLOCK = 0 ∧ x.faults = s.faults.filter (fun f => !releaseCodes.contains f.code) ∧
      x.cut.needHome = true ∧ x.boot.tested.testBit 8 = false ∧ x.clk.hbSince = s.clock ∧
      Safety.only [CORE.HELD_BLOCK]
        { s with base := .run, faults := x.faults, clk := x.clk, wake := x.wake, cut := x.cut,
                 boot := { s.boot with tested := x.boot.tested } } x :=
  ⟨rfl, State.rd_wr s.heldOver CORE.HELD_BLOCK 0, rfl, rfl, testBit_sub_self s.boot.tested 8, rfl, only_wr (only_refl _ s.heldOver)⟩

section
variable {tag : Fin 64} {s : State} {c : Cmd} (vm : BitVec 16) (st : BitVec 8) (hc : s.cmd? tag = some c) (hop : c.op = 0x05)
  (hst : c.started = false) (ha : s.awake = true)
include hc hop hst ha

theorem exec_releaseHeld_run (hb : s.base = .run) :
    exec (.releaseHeld tag vm st) s = .next (s.complete tag stOK s.mode 0).settle := by
  have hne : (s.base != .held) = true := by simp [hb]
  change execReleaseHeld tag vm st s = _
  simp only [execReleaseHeld, hc, hop, hst, ha, hne, beq_self_eq_true, Bool.not_false, Bool.and_self, if_true]

variable (hb : s.base = .held)
include hb

theorem exec_releaseHeld_blocked {b : Nat} (hk : s.releaseBlock vm.toNat st.toNat = some b) :
    exec (.releaseHeld tag vm st) s = .next ((s.wr CORE.HELD_BLOCK b).complete tag stBusy 4 0).settle := by
  change execReleaseHeld tag vm st s = _
  simp only [execReleaseHeld, hc, hop, hst, ha, hb, hk, beq_self_eq_true, bne_self_eq_false, Bool.not_false, Bool.and_self, if_true,
    Bool.false_eq_true, if_false]

theorem exec_releaseHeld_released (hk : s.releaseBlock vm.toNat st.toNat = none) :
    exec (.releaseHeld tag vm st) s = .next (s.released.settle.complete tag stOK s.released.settle.mode 0).settle := by
  change execReleaseHeld tag vm st s = _
  simp only [execReleaseHeld, hc, hop, hst, ha, hb, hk, beq_self_eq_true, bne_self_eq_false, Bool.not_false, Bool.and_self, if_true,
    Bool.false_eq_true, if_false, leaveHeld_eq]

end

/-- Settles O20: a wait's end and an ABORT by the equation of their case, and HELD's release by what it leaves before it settles. -/
theorem endingAndReleasing : Obligations.EndingAndReleasing := by
  refine ⟨⟨fun tag s c ha hc hw hr => ?other, fun tag s c ha hc hop hst hj hr hlt => ?check,
    fun tag s c j ha hc hop hst hj hr hb hf => ?render, fun tag s c j ha hc hop hst hj hr hw => ?firstLine,
    fun tag s c ha hc hop hst hv => exec_abort_none ha hc hop hst hv, fun tag s c v ha hc hop hst hv => ?abort⟩,
    fun tag vm st s c hc hop hst ha => ?held⟩
  case other => rw [exec_readyWaitExpiry ha hc hw, waitOver_other hr]
  case check =>
    have hw : s.waits c = true := by simp [waits_receipt hop hst, State.receiptWaits, hj, hr]
    refine ⟨_, ?_, checkFailed_spec hlt (cause := 11) (by decide)⟩
    rw [exec_readyWaitExpiry ha hc hw, waitOver_check hop hst hj]
  case render =>
    have hw : s.waits c = true := by simp [waits_receipt hop hst, State.receiptWaits, hj, hr, hb, hf]
    rw [exec_readyWaitExpiry ha hc hw, waitOver_render hop hst hj hr hb hf]
  case firstLine =>
    refine ⟨Config.openWord s.free, Config.openWord (s.free + 1), ?_⟩
    rw [exec_readyWaitExpiry ha hc ((waits_receipt hop hst).trans hw), waitOver_firstLine hop hst hj hr]
  case abort =>
    intro y
    have hy : s.modCmd c.tag (fun u => { u with started := true, abortOf := some v.tag }) = y := by
      simp only [State.modCmd, beq_iff_eq, y]
    have hexec : exec (.abort tag) s = .next (y.cancel v).settle := hy ▸ exec_abort_some ha hc hop hst hv
    exact ⟨hexec, fun h => by rw [hexec, cancel_waiting h], fun h hp => by rw [hexec, cancel_partialApply h hp]⟩
  case held =>
    refine ⟨fun hb => exec_releaseHeld_run vm st hc hop hst ha hb, fun b hb hk hlt => ?_, fun hb hk => ?_⟩
    · exact ⟨_, exec_releaseHeld_blocked vm st hc hop hst ha hb hk, (State.rd_wr s CORE.HELD_BLOCK b).trans (Nat.mod_eq_of_lt hlt),
        only_wr (only_refl _ s)⟩
    · exact ⟨s.released, exec_releaseHeld_released vm st hc hop hst ha hb hk, released_spec s⟩

end Sys2Proof.Machine
end

section
/-! PROOFS. Clock sources: the low-frequency source, the grants and stops of a clock, and the failure of the HFXO. -/

namespace Sys2Proof.Machine

/-! ### Register fields and the idle count -/

/-- A field reads the value written to it where it fits. -/
theorem rd_wr_of_lt (s : State) {f : Fld} {v : Nat} (h : v < 2 ^ f.wid ∧ f.lo + f.wid ≤ 32) : (s.wr f v).rd f = v :=
  (State.rd_wr s f v h.2).trans (Nat.mod_eq_of_lt h.1)

theorem flag_of_rd_zero {s : State} {f : Fld} (h : s.rd f = 0) : s.flag f = false := by simp [State.flag, h]

theorem flag_of_rd_one {s : State} {f : Fld} (h : s.rd f = 1) : s.flag f = true := by simp [State.flag, h]

@[simp] theorem rd_idleRestart (s : State) (f : Fld) : s.idleRestart.rd f = s.rd f := rfl

theorem only_setClk {w : List Fld} {s t : State} (f : Clk → Clk) (h : Safety.only w s t) :
    Safety.only w (s.setClk f) (t.setClk f) := by
  refine ⟨?_, h.2⟩
  rw [State.setClk, State.setClk, h.1]

section
variable {w : List Fld} {s t : State}

theorem clkOnly_wr {f : Fld} {v : Nat} (h : Safety.only w { s with clk := t.clk } t) (hf : f ∈ w) :
    Safety.only w { s with clk := (t.wr f v).clk } (t.wr f v) := only_wr h hf

theorem clkOnly_setClk (f : Clk → Clk) (h : Safety.only w { s with clk := t.clk } t) :
    Safety.only w { s with clk := (t.setClk f).clk } (t.setClk f) := (only_setClk (fun _ => f t.clk) h :)

theorem clkOnly_setPll (f : Pll → Pll) (h : Safety.only w { s with clk := t.clk } t) :
    Safety.only w { s with clk := (t.setPll f).clk } (t.setPll f) := clkOnly_setClk _ h

end

/-! ### The low-frequency source (R107) -/

/-- The LFXO is not tried any more, and the LF source is the one of `code`. -/
def State.lfSource (s : State) (code : Nat) : State := (s.setClk fun c => { c with lfTry := false }).wr CORE.CLK_STAT_LF_SRC code

theorem only_lfSource (s : State) (code : Nat) :
    Safety.only [CORE.CLK_STAT_LF_SRC] { s with clk := { s.clk with lfTry := false } } (s.lfSource code) :=
  only_wr (only_refl _ _) (by simp)

theorem exec_lfxoStable {s : State} (hb : s.boot.off = false) (ht : s.clk.lfTry = true) :
    exec .lfxoStable s = .next (s.lfSource 0) := by
  change execLfxoStable s = _
  simp [execLfxoStable, State.lfSource, hb, ht]

theorem exec_lfxoLoss {s : State} (hb : s.boot.off = false) : exec .lfxoLoss s =
    .next (if s.rd CORE.CLK_STAT_LF_SRC = 0 then (s.lfSource 1).rodVec .core else s.lfSource 1) := by
  change execLfxoLoss s = _
  simp [execLfxoLoss, State.lfSource, State.flag, hb]

theorem exec_lfxoRetry {s : State} (hb : s.boot.off = false) (hl : s.rd CORE.CLK_STAT_LF_SRC = 1) :
    exec .lfxoRetry s = .next (s.setClk fun c => { c with lfTry := true }) := by
  change execLfxoRetry s = _
  simp [execLfxoRetry, hb, flag_of_rd_one hl]

/-! ### Grants and stops (R106, R109, R113) -/

/-- The HFXO runs: it is no longer being started, its status is set, a calibration of the FRC is due, and HFXO_FAIL is cleared. -/
def State.hfxoGranted (s : State) : State :=
  ((s.setClk fun c => { c with hfxoStart := false }).wr CORE.CLK_STAT_HFXO_OK 1).frcCalDue.clearFault 0x0004

theorem hfxoGranted_eq (s : State) : s.hfxoGranted = ({ s with
    clk := { s.clk with hfxoStart := false }, faults := s.faults.filter fun f => f.code != 0x0004,
    bg := { s.bg with frcDue := true } } : State).wr CORE.CLK_STAT_HFXO_OK 1 := by
  have hon (t : State) : (t.wr CORE.CLK_STAT_HFXO_OK 1).flag CORE.CLK_STAT_HFXO_OK = true := flag_of_rd_one (rd_wr_of_lt t (by decide))
  simp only [State.hfxoGranted, State.frcCalDue, hon, Bool.or_true]
  simp only [State.wr, State.setReg, State.clearFault, State.setClk]
  rfl

section
variable {s : State} (ha : s.awake = true)
include ha

theorem exec_clockGrant_frc : exec (.clockGrant .frc) s = .next (s.wr CORE.CLK_STAT_FRC_ON 1).settle := by
  change execClockGrant .frc s = _
  simp only [execClockGrant, ha, if_true]

theorem exec_clockGrant_hfxo (hh : s.clk.hfxoStart = true) : exec (.clockGrant .hfxo) s = .next s.hfxoGranted.settle := by
  change execClockGrant .hfxo s = _
  simp only [execClockGrant, ha, hh, if_true, State.hfxoGranted]

theorem exec_clockStop_pllv (hw : s.pllvWanted = false) : exec (.clockStop .pllv) s =
    .next ((s.wr CORE.CLK_STAT_PLLV_LOCK 0).wr CORE.CLK_STAT_PLLV_FALLBACK 0) := by
  change execClockStop .pllv s = _
  simp [execClockStop, ha, hw]

theorem exec_hfxoRetry (hh : s.rd CORE.CLK_STAT_HFXO_OK = 0) :
    exec .hfxoRetry s = .next (s.setClk fun c => { c with hfxoStart := true }) := by
  change execHfxoRetry s = _
  simp [execHfxoRetry, ha, flag_of_rd_zero hh]

end

/-- R109: a grant of a PLL is its lock. -/
theorem exec_clockGrant_pll (s : State) :
    exec (.clockGrant .plls) s = exec (.pllLock .s) s ∧ exec (.clockGrant .pllv) s = exec (.pllLock .v) s := ⟨rfl, rfl⟩

theorem exec_pllvWarmWrite {s : State} (h : Safety.takes s .core) (w : Word) :
    exec (.pllvWarmWrite w) s = .next (s.idleRestart.writeClkReq w) :=
  congrArg Host.Outcome.next (hostReg_takes h fun s => s.writeClkReq w)

theorem rd_writeClkReq (s : State) (w : Word) : (s.writeClkReq w).rd CORE.CLK_REQ_PLLV_WARM = w.toNat % 2 := by
  have hbit : field w 0 1 = w.toNat % 2 := by simp [field]
  rw [State.writeClkReq, rd_wr_of_lt s ⟨field_lt w 0 1, by decide⟩, hbit]

/-! ### The failure of the HFXO (R108) -/

/-- The output of PLL-S is gated, and its consumers are on the fallback clock. -/
def State.pllsGated (s : State) : State := (s.wr CORE.CLK_STAT_PLLS_LOCK 0).wr CORE.CLK_STAT_PLLS_FALLBACK 1

theorem pllsGated_fields (s : State) :
    s.pllsGated.rd CORE.CLK_STAT_PLLS_LOCK = 0 ∧ s.pllsGated.rd CORE.CLK_STAT_PLLS_FALLBACK = 1 :=
  ⟨(State.rd_wr_apart _ _ _ _ (by decide)).trans (rd_wr_of_lt s (by decide)), rd_wr_of_lt _ (by decide)⟩

theorem rd_pllsGated (s : State) {f : Fld} (hl : CORE.CLK_STAT_PLLS_LOCK.apart f = true)
    (hf : CORE.CLK_STAT_PLLS_FALLBACK.apart f = true) : s.pllsGated.rd f = s.rd f := by
  rw [State.pllsGated, State.rd_wr_apart _ _ _ _ hf, State.rd_wr_apart _ _ _ _ hl]

theorem only_pllsGated {w : List Fld} {s t : State} (h : Safety.only w s t) (hl : CORE.CLK_STAT_PLLS_LOCK ∈ w)
    (hf : CORE.CLK_STAT_PLLS_FALLBACK ∈ w) : Safety.only w s t.pllsGated :=
  only_wr (only_wr h hl) hf

/-- A relock of PLL-S gates it. -/
theorem relock_eq (s : State) (mhz : Nat) : s.relock mhz = (s.setPll fun _ =>
    { goal := mhz, prev := s.rd CORE.CLK_STAT_PLLS_MHZ, fails := 0, active := true,
      back := mhz == s.rd CORE.CLK_STAT_PLLS_MHZ }).pllsGated := rfl

/-- The HFXO has failed: it does not run, PLL-S, in the state `p`, is gated, and PLL-V has stopped. -/
def State.hfxoLost (s : State) (p : Pll) : State :=
  (((((s.setClk fun c => { c with hfxoStart := false }).wr CORE.CLK_STAT_HFXO_OK 0).setPll fun _ => p).pllsGated).setClk
    fun c => { c with pllvRelock := false }).wr CORE.CLK_STAT_PLLV_LOCK 0

theorem hfxoLost_fields (s : State) (p : Pll) :
    let x := s.hfxoLost p
    x.rd CORE.CLK_STAT_HFXO_OK = 0 ∧ x.rd CORE.CLK_STAT_PLLS_LOCK = 0 ∧ x.rd CORE.CLK_STAT_PLLS_FALLBACK = 1 ∧
      x.rd CORE.CLK_STAT_PLLV_LOCK = 0 := by
  simp (disch := decide) only [State.hfxoLost, State.pllsGated, State.setPll, State.setClk_rd, State.rd_wr_apart, rd_wr_of_lt, and_self]

theorem only_hfxoLost (s : State) (p : Pll) :
    Safety.only [CORE.CLK_STAT_HFXO_OK, CORE.CLK_STAT_PLLS_LOCK, CORE.CLK_STAT_PLLS_FALLBACK, CORE.CLK_STAT_PLLV_LOCK]
      { s with clk := (s.hfxoLost p).clk } (s.hfxoLost p) :=
  have hgated := clkOnly_wr (clkOnly_wr (clkOnly_setPll _ (clkOnly_wr (clkOnly_setClk _ (only_refl _ s)) (by simp))) (by simp)) (by simp)
  clkOnly_wr (clkOnly_setClk _ hgated) (by simp)

/-- PLL-S goes on with its relock, or starts one at its present frequency, and is gated. -/
theorem exists_pllsGated (s : State) :
    ∃ p, (if s.clk.plls.active then s.pllsGated else s.relock (s.rd CORE.CLK_STAT_PLLS_MHZ)) = (s.setPll fun _ => p).pllsGated := by
  split
  · exact ⟨s.clk.plls, rfl⟩
  · exact ⟨_, relock_eq s _⟩

theorem exec_hfxoFail {s : State} (ha : s.awake = true) (hh : s.rd CORE.CLK_STAT_HFXO_OK = 1) (hf : s.hasFault 0x0004 = false) :
    ∃ p, exec .hfxoFail s =
      .next (((s.hfxoLost p).encAbandon.wr CORE.CLK_STAT_PLLV_FALLBACK 0).raise 0x0004 0 0).settle := by
  have hdue : (s.awake && (s.flag CORE.CLK_STAT_HFXO_OK || s.clk.hfxoStart) && !s.hasFault 0x0004) = true := by
    simp [ha, hf, flag_of_rd_one hh]
  obtain ⟨p, hp⟩ := exists_pllsGated ((s.setClk fun c => { c with hfxoStart := false }).wr CORE.CLK_STAT_HFXO_OK 0)
  refine ⟨p, ?_⟩
  change execHfxoFail s = _
  rw [State.pllsGated] at hp
  simp only [execHfxoFail, hdue, if_true, hp]
  rfl

/-- Settles O4: each event and write by its equation, with what its registers then show. -/
theorem clockSources : Obligations.ClockSources := by
  refine ⟨⟨fun s hb ht => ?stable, fun s hb => ?loss, fun s hb hl => exec_lfxoRetry hb hl⟩,
    fun s ha => ?frc, fun s ha hh => ?hfxo, exec_clockGrant_pll, fun s ha hw => ?stop, fun w s h => ?warm,
    fun s ha hh hf => ?fail, fun s ha hh => exec_hfxoRetry ha hh⟩
  case stable => exact ⟨_, exec_lfxoStable hb ht, rd_wr_of_lt _ (by decide), only_lfSource s 0⟩
  case loss => exact ⟨s.lfSource 1, exec_lfxoLoss hb, rd_wr_of_lt _ (by decide), only_lfSource s 1⟩
  case frc => exact ⟨_, exec_clockGrant_frc ha, rd_wr_of_lt s (by decide), only_wr (only_refl _ s) (by simp)⟩
  case hfxo =>
    refine ⟨_, exec_clockGrant_hfxo ha hh, ?_⟩
    rw [hfxoGranted_eq]
    exact ⟨rd_wr_of_lt _ (by decide), only_wr (only_refl _ _) (by simp)⟩
  case stop =>
    exact ⟨_, exec_clockStop_pllv ha hw, (State.rd_wr_apart _ _ _ _ (by decide)).trans (rd_wr_of_lt s (by decide)), rd_wr_of_lt _ (by decide),
      only_wr (only_wr (only_refl _ s) (by simp)) (by simp)⟩
  case warm => exact ⟨_, exec_pllvWarmWrite h w, rd_writeClkReq _ w, only_wr (only_refl _ _) (by simp)⟩
  case fail =>
    obtain ⟨p, hexec⟩ := exec_hfxoFail ha hh hf
    obtain ⟨hhfxo, hlock, hfallback, hpllv⟩ := hfxoLost_fields s p
    exact ⟨s.hfxoLost p, _, hexec, hhfxo, hlock, hfallback, hpllv, only_hfxoLost s p, rfl,
      rd_wr_of_lt _ (by decide), only_wr (only_refl _ _) (by simp)⟩

end Sys2Proof.Machine
end

section
/-! PROOFS. What completions, and a fault that does not enter HELD, leave alone. -/

namespace Sys2Proof.Machine

/-- The fields that completions, their checks of main SRAM, and a fault that does not enter HELD may write. -/
def reportFlds : List Fld :=
  Ram.sram.checkFlds ++ fldsOf 16 [VEC.Q_CQ_IDX_TAIL, VEC.Q_CQ_IDX_PHASE] ++
    [LEDGER.LOSS_DROPPED, CORE.FAULT_LOG_SUPPRESSED, CORE.MODE_WAKE_SRC]

/-- From `s` to `t` commands have ended and faults have been recorded: the clocks, the codecs and the camera are as they were, and so is every
register field but those of the reports. -/
structure Reported (s t : State) : Prop where
  clk : t.clk = s.clk
  vid : t.vid = s.vid
  enc : t.enc = s.enc
  dec : t.dec = s.dec
  regs : Safety.regsBut reportFlds s t

namespace Reported

variable {r s t : State}

theorem refl (s : State) : Reported s s := ⟨rfl, rfl, rfl, rfl, fun _ _ => rfl⟩

theorem trans (h : Reported r s) (k : Reported s t) : Reported r t :=
  ⟨k.clk.trans h.clk, k.vid.trans h.vid, k.enc.trans h.enc, k.dec.trans h.dec, regsBut_trans h.regs k.regs⟩

theorem foldl {α : Type} {f : State → α → State} (hf : ∀ s x, Reported s (f s x)) (l : List α) (s : State) : Reported s (l.foldl f s) :=
  List.foldlRecOn (motive := Reported s) l f (refl s) fun _ h x _ => h.trans (hf _ x)

theorem of_only {w : List Fld} (h : Safety.only w s t) (hw : ∀ g ∈ w, g ∈ reportFlds) : Reported s t :=
  ⟨only_same h State.clk fun _ _ => rfl, only_same h State.vid fun _ _ => rfl,
    only_same h State.enc fun _ _ => rfl, only_same h State.dec fun _ _ => rfl, (only_mono h hw).2.1⟩

end Reported

variable (s : State)

theorem reported_wr {f : Fld} (v : Nat) (hf : f ∈ reportFlds) : Reported s (s.wr f v) :=
  .of_only (only_wr (only_refl [f] s) (by simp)) (by simpa using hf)

theorem reported_vec (v : Nat) : Reported s (s.vec v) :=
  .of_only (only_vec (w := [VEC.PENDING_PENDING]) (only_refl _ s) (by simp)) (by decide)

theorem reported_writeMem (a : Nat) (bs : List Nat) : Reported s (s.writeMem .sram a bs) := by
  have hmem := memOnly_writeMem s .sram a bs
  have hregs := regsBut_writeMem s .sram a bs
  refine ⟨(congrArg State.clk hmem :), (congrArg State.vid hmem :), (congrArg State.enc hmem :), (congrArg State.dec hmem :),
    fun f hf => hregs f fun g hg => hf g ?_⟩
  simp only [reportFlds, List.mem_append, hg, true_or]

theorem cqTail_mem_reportFlds (q : Nat) : VEC.Q_CQ_IDX_TAIL q ∈ reportFlds := by
  have h : VEC.Q_CQ_IDX_TAIL q ∈ fldsOf 16 [VEC.Q_CQ_IDX_TAIL, VEC.Q_CQ_IDX_PHASE] :=
    mem_fldsOf (f := VEC.Q_CQ_IDX_TAIL) (by simp) (fun i => by simp [VEC.Q_CQ_IDX_TAIL]) (by decide) q
  simp only [reportFlds, List.mem_append, h, true_or, or_true]

theorem cqPhase_mem_reportFlds (q : Nat) : VEC.Q_CQ_IDX_PHASE q ∈ reportFlds := by
  have h : VEC.Q_CQ_IDX_PHASE q ∈ fldsOf 16 [VEC.Q_CQ_IDX_TAIL, VEC.Q_CQ_IDX_PHASE] :=
    mem_fldsOf (f := VEC.Q_CQ_IDX_PHASE) (by simp) (fun i => by simp [VEC.Q_CQ_IDX_PHASE]) (by decide) q
  simp only [reportFlds, List.mem_append, h, true_or, or_true]

theorem reported_writeCompl (q : Nat) (c : Compl) : Reported s (s.writeCompl q c) := by
  have hphase (t : State) (b : Bool) (v : Nat) : Reported t (if b then t.wr (VEC.Q_CQ_IDX_PHASE q) v else t) := by
    split
    · exact reported_wr t v (cqPhase_mem_reportFlds q)
    · exact .refl t
  have hqueues (t : State) (l : List Queue) : Reported t { t with queues := l } := ⟨rfl, rfl, rfl, rfl, fun _ _ => rfl⟩
  unfold State.writeCompl
  extract_lets tail phase entry t1 wrap t2 t3 n
  have h : Reported s t3 := ((reported_writeMem s _ entry).trans (reported_wr t1 _ (cqTail_mem_reportFlds q))).trans (hphase t2 wrap _)
  split
  · exact (h.trans (reported_vec t3 q)).trans (hqueues _ _)
  · exact h.trans (hqueues _ _)

theorem reported_post (q : Nat) (c : Compl) : Reported s (s.post q c) := by
  unfold State.post
  split
  · exact .refl s
  · split
    · exact ⟨rfl, rfl, rfl, rfl, fun _ _ => rfl⟩
    · exact reported_writeCompl s q c

theorem reported_finish (t status r0 r1 : Nat) : Reported s (s.finish t status r0 r1) := by
  have hcmds (l : List Cmd) : Reported s { s with cmds := l } := ⟨rfl, rfl, rfl, rfl, fun _ _ => rfl⟩
  unfold State.finish
  split
  · exact .refl s
  · exact (hcmds _).trans (reported_post _ _ _)

theorem reported_endAborts (t status : Nat) : Reported s (s.endAborts t status) :=
  .foldl (fun x a => reported_finish x a stOK status 0) _ s

theorem reported_complete (t status r0 r1 : Nat) : Reported s (s.complete t status r0 r1) := by
  have hfinish := reported_finish s t status r0 r1
  unfold State.complete
  extract_lets x
  split
  · exact hfinish
  · exact hfinish.trans (reported_endAborts x t status)

theorem reported_endOpen (t status : Nat) : Reported s (s.endOpen t status) := by
  have hopen (x : State) : Reported x x.openWord.2 := ⟨rfl, rfl, rfl, rfl, fun _ _ => rfl⟩
  unfold State.endOpen
  split
  · exact reported_complete s t status 0 0
  · split
    · exact (hopen s).trans (reported_complete _ t status _ _)
    · exact ((hopen s).trans (hopen _)).trans (reported_complete _ t status _ _)

theorem reported_endAll (ts : List Nat) (status : Nat) : Reported s (s.endAll ts status) :=
  .foldl (fun x t => reported_endOpen x t status) ts s

theorem reported_recordFault (code p1 p2 : Nat) : Reported s (s.recordFault code p1 p2) := by
  have hbuffer (payload : List Nat) : Reported s (s.bufferRecord 3 payload) := by
    unfold State.bufferRecord
    split
    · exact ⟨rfl, rfl, rfl, rfl, fun _ _ => rfl⟩
    · exact reported_wr s _ (by decide)
  unfold State.recordFault
  split
  · exact reported_wr s _ (by decide)
  · exact (hbuffer _).trans ⟨rfl, rfl, rfl, rfl, fun _ _ => rfl⟩

theorem reported_addFault (code p1 p2 : Nat) : Reported s (s.addFault code p1 p2) := by
  have hpresent (t : State) (l : List FaultRec) : Reported t { t with faults := l } := ⟨rfl, rfl, rfl, rfl, fun _ _ => rfl⟩
  unfold State.addFault
  extract_lets t1 t2
  have h : Reported s t2 := by
    simp only [t2]
    split
    · exact reported_recordFault s code p1 p2
    · exact (reported_recordFault s code p1 p2).trans (hpresent _ _)
  exact h.trans (reported_vec t2 _)

/-- A fault whose response is not HELD leaves the clocks, the codecs and the camera alone (R525, R528). -/
theorem reported_raise {code : Nat} (h : heldCodes.contains code = false) (p1 p2 : Nat) : Reported s (s.raise code p1 p2) := by
  have hmark (t : State) : Reported t (t.faultMark code) := by
    unfold State.faultMark
    split
    · split
      · exact ⟨rfl, rfl, rfl, rfl, fun _ _ => rfl⟩
      · exact .refl t
    · exact .refl t
  have hadd := (reported_addFault s code p1 p2).trans (hmark _)
  unfold State.raise
  split
  case h_1 => exact .refl s
  case h_2 =>
    have hwake (x : State) (w : Wake) : Reported x { x with wake := w } := ⟨rfl, rfl, rfl, rfl, fun _ _ => rfl⟩
    extract_lets t
    split
    · exact hwake s _
    · exact (hwake s _).trans (reported_wr _ 9 (by decide))
  case h_3 => simpa only [h, Bool.false_eq_true, if_false] using hadd
  case h_4 => simpa only [contains_freeCodes h, Bool.false_eq_true, if_false] using hadd

end Sys2Proof.Machine
end

section
/-! PROOFS. The two PLLs: their locks, guard trips and failed attempts. -/

namespace Sys2Proof.Machine

/-! ### Locks (R111, R114) -/

/-- PLL-S has locked: its gate is open at the frequency that it was locked at. -/
def State.pllsLocked (s : State) : State :=
  (((s.setPll fun p => { p with active := false, fails := 0 }).wr CORE.CLK_STAT_PLLS_LOCK 1).wr
    CORE.CLK_STAT_PLLS_FALLBACK 0).wr CORE.CLK_STAT_PLLS_MHZ s.clk.plls.goal

theorem pllsLocked_fields {s : State} (hg : s.clk.plls.goal < 512) :
    let x := s.pllsLocked
    x.rd CORE.CLK_STAT_PLLS_LOCK = 1 ∧ x.rd CORE.CLK_STAT_PLLS_FALLBACK = 0 ∧ x.rd CORE.CLK_STAT_PLLS_MHZ = s.clk.plls.goal := by
  unfold State.pllsLocked
  refine ⟨?_, ?_, rd_wr_of_lt _ ⟨hg, by decide⟩⟩
  · rw [State.rd_wr_apart _ _ _ _ (by decide), State.rd_wr_apart _ _ _ _ (by decide), rd_wr_of_lt _ (by decide)]
  · rw [State.rd_wr_apart _ _ _ _ (by decide), rd_wr_of_lt _ (by decide)]

/-- A change of operating point in `phase` goes on at a lock of PLL-S; one that fell back to the previous frequency ends (R117, R120). -/
def State.dvfsGoesOn (s : State) (phase : DvfsPhase) (back : Bool) : State :=
  match phase with
  | .relockUp => (if back then s.dvfsIdle else s.dvfsDone).dvfsPending
  | .relockDown => (if back then s.dvfsIdle else s.dvfsVcore .fall).dvfsPending
  | _ => s

theorem lockS_eq {s : State} (hh : s.rd CORE.CLK_STAT_HFXO_OK = 1) (hp : s.clk.plls.active = true) :
    s.lockS = s.pllsLocked.dvfsGoesOn s.clk.dvfs s.clk.plls.back :=
  if_pos (by simp [flag_of_rd_one hh, hp])

/-- PLL-V has locked. -/
def State.pllvLocked (s : State) : State :=
  (((s.setClk fun c => { c with pllvFails := 0, pllvRelock := false }).wr CORE.CLK_STAT_PLLV_LOCK 1).wr
    CORE.CLK_STAT_PLLV_FALLBACK 0).clearFault 0x0003

theorem only_clearFault {w : List Fld} {s t : State} (code : Nat) (h : Safety.only w s t) :
    Safety.only w (s.clearFault code) (t.clearFault code) := by
  refine ⟨?_, h.2⟩
  rw [State.clearFault, State.clearFault, h.1]

theorem only_pllvLocked (s : State) : Safety.only [CORE.CLK_STAT_PLLV_LOCK, CORE.CLK_STAT_PLLV_FALLBACK]
    ((s.setClk fun c => { c with pllvFails := 0, pllvRelock := false }).clearFault 0x0003) s.pllvLocked :=
  only_clearFault 0x0003 (only_wr (only_wr (only_refl _ _) (by simp)) (by simp))

theorem pllvLocked_fields (s : State) :
    s.pllvLocked.rd CORE.CLK_STAT_PLLV_LOCK = 1 ∧ s.pllvLocked.rd CORE.CLK_STAT_PLLV_FALLBACK = 0 := by
  simp (disch := decide) only [State.pllvLocked, State.clearFault_rd, State.rd_wr_apart, rd_wr_of_lt, and_self]

theorem lockV_eq {s : State} (hh : s.rd CORE.CLK_STAT_HFXO_OK = 1) (hw : s.pllvWanted = true) (hl : s.rd CORE.CLK_STAT_PLLV_LOCK = 0)
    (hf : s.clk.pllvFailed = false) : s.lockV = s.pllvLocked := by
  simp only [State.lockV, flag_of_rd_one hh, flag_of_rd_zero hl, hw, hf, Bool.not_false, Bool.and_self, if_true, State.pllvLocked]

theorem exec_pllLock {s : State} (ha : s.awake = true) :
    exec (.pllLock .s) s = .next s.lockS.settle ∧ exec (.pllLock .v) s = .next s.lockV.settle :=
  ⟨if_pos ha, if_pos ha⟩

/-! ### Guard trips (R114, R115) -/

/-- A guard trip is counted, and asserts vector 16. -/
def State.tripped (s : State) : State := (s.bump CORE.CLK_STAT_GUARD_TRIPS).rodVec .core

theorem only_tripped {w : List Fld} (s : State) (ht : CORE.CLK_STAT_GUARD_TRIPS ∈ w)
    (hp : VEC.PENDING_PENDING ∈ w) : Safety.only w s s.tripped := only_rodVec (only_bump (only_refl w s) ht) hp

theorem tripped_fields (s : State) :
    s.tripped.rd CORE.CLK_STAT_GUARD_TRIPS = satAdd 15 (s.rd CORE.CLK_STAT_GUARD_TRIPS) 1 ∧
      s.tripped.rd VEC.PENDING_PENDING = (s.rodVec .core).rd VEC.PENDING_PENDING :=
  ⟨(rd_vec _ _ _ (by decide)).trans (rd_bump s _ 1 (by decide)),
    pending_vec_congr _ _ _ (rd_bump_apart _ _ _ _ (by decide)) (rd_bump_apart _ _ _ _ (by decide)) rfl⟩

theorem exec_guardTrip_s {s : State} (ha : s.awake = true) (hp : s.clk.plls.active = false) :
    exec (.guardTrip .s) s = .next (s.tripped.relock (s.rd CORE.CLK_STAT_PLLS_MHZ)).settle := by
  have honly := only_tripped (w := [CORE.CLK_STAT_GUARD_TRIPS, VEC.PENDING_PENDING]) s (by simp) (by simp)
  have hactive : s.tripped.clk.plls.active = false := (only_same honly (fun x => x.clk.plls.active) fun _ _ => rfl).trans hp
  have hmhz : s.tripped.rd CORE.CLK_STAT_PLLS_MHZ = s.rd CORE.CLK_STAT_PLLS_MHZ := honly.2.1 _ (by decide)
  change execGuardTrip .s s = _
  rw [State.tripped] at hactive hmhz ⊢
  simp only [execGuardTrip, ha, if_true, hactive, hmhz, Bool.false_eq_true, if_false]

/-- PLL-V relocks after a guard trip, with its consumers on the fallback clock. -/
def State.pllvTripped (s : State) : State :=
  ((s.tripped.setClk fun c => { c with pllvRelock := true, pllvFails := 0 }).wr CORE.CLK_STAT_PLLV_LOCK 0).wr CORE.CLK_STAT_PLLV_FALLBACK 1

theorem exec_guardTrip_v {s : State} (ha : s.awake = true) (hl : s.rd CORE.CLK_STAT_PLLV_LOCK = 1) :
    exec (.guardTrip .v) s = .next s.pllvTripped.settle := by
  have hlock : s.tripped.flag CORE.CLK_STAT_PLLV_LOCK = true :=
    flag_of_rd_one (((only_tripped (w := [CORE.CLK_STAT_GUARD_TRIPS, VEC.PENDING_PENDING]) s (by simp) (by simp)).2.1 _ (by decide)).trans hl)
  change execGuardTrip .v s = _
  rw [State.tripped] at hlock
  simp only [execGuardTrip, ha, hlock, if_true, State.pllvTripped, State.tripped]

theorem only_pllvTripped (s : State) :
    Safety.only [CORE.CLK_STAT_GUARD_TRIPS, VEC.PENDING_PENDING, CORE.CLK_STAT_PLLV_LOCK, CORE.CLK_STAT_PLLV_FALLBACK]
      { s with clk := { s.clk with pllvRelock := true, pllvFails := 0 } } s.pllvTripped :=
  only_wr (only_wr (only_setClk (fun c => { c with pllvRelock := true, pllvFails := 0 }) (only_tripped s (by simp) (by simp))) (by simp)) (by simp)

theorem pllvTripped_fields (s : State) :
    let x := s.pllvTripped
    x.rd CORE.CLK_STAT_GUARD_TRIPS = satAdd 15 (s.rd CORE.CLK_STAT_GUARD_TRIPS) 1 ∧
      x.rd VEC.PENDING_PENDING = (s.rodVec .core).rd VEC.PENDING_PENDING ∧
      x.rd CORE.CLK_STAT_PLLV_LOCK = 0 ∧ x.rd CORE.CLK_STAT_PLLV_FALLBACK = 1 := by
  obtain ⟨htrips, hpending⟩ := tripped_fields s
  have happart {f : Fld} (hl : CORE.CLK_STAT_PLLV_LOCK.apart f = true) (hf : CORE.CLK_STAT_PLLV_FALLBACK.apart f = true) :
      s.pllvTripped.rd f = s.tripped.rd f := by
    rw [State.pllvTripped, State.rd_wr_apart _ _ _ _ hf, State.rd_wr_apart _ _ _ _ hl, State.setClk_rd]
  exact ⟨(happart (by decide) (by decide)).trans htrips, (happart (by decide) (by decide)).trans hpending,
    (State.rd_wr_apart _ _ _ _ (by decide)).trans (rd_wr_of_lt _ (by decide)), rd_wr_of_lt _ (by decide)⟩

/-! ### Failed attempts of PLL-S (R117) -/

section
variable {s : State} (ha : s.awake = true) (hh : s.rd CORE.CLK_STAT_HFXO_OK = 1)
include ha hh

theorem exec_relockFail : exec (.relockFail .s) s = .next s.failS.settle ∧ exec (.relockFail .v) s = .next s.failV.settle := by
  have hdue : (s.awake && s.flag CORE.CLK_STAT_HFXO_OK) = true := by simp [ha, flag_of_rd_one hh]
  exact ⟨if_pos hdue, if_pos hdue⟩

end

section
variable {s : State} (hp : s.clk.plls.active = true)
include hp

theorem failS_again (hf : s.clk.plls.fails < 2) :
    s.failS = (s.setPll fun p => { p with fails := p.fails + 1 }).attempt := by
  simp only [State.failS, hp, hf, if_true, Bool.not_true, Bool.false_eq_true, if_false]

theorem failS_back (hf : 2 ≤ s.clk.plls.fails) (hb : s.clk.plls.back = false) :
    s.failS = (s.setPll fun p => { p with goal := p.prev, fails := 0, back := true }).attempt := by
  simp only [State.failS, hp, hb, Nat.not_lt.mpr hf, if_true, Bool.not_true, Bool.not_false, Bool.false_eq_true, if_false]

theorem failS_last (hf : 2 ≤ s.clk.plls.fails) (hb : s.clk.plls.back = true) (hup : s.clk.dvfs ≠ .relockUp)
    (hdown : s.clk.dvfs ≠ .relockDown) : s.failS =
      ((s.setPll fun p => { p with active := false, fails := 0 }).wr CORE.CLK_STAT_PLLS_FALLBACK 1).raise 0x0002 0 s.clk.plls.goal := by
  have hchange : (s.clk.dvfs == .relockUp || s.clk.dvfs == .relockDown) = false := by simp [hup, hdown]
  have hraise (x : State) (hx : x.clk.dvfs = s.clk.dvfs) :
      ((x.raise 0x0002 0 s.clk.plls.goal).clk.dvfs == .relockUp || (x.raise 0x0002 0 s.clk.plls.goal).clk.dvfs == .relockDown) = false := by
    rw [(reported_raise x (code := 0x0002) (by decide) 0 _).clk, hx, hchange]
  simp only [State.failS, hp, hb, Nat.not_lt.mpr hf, hchange, Bool.not_true, Bool.false_eq_true, if_false]
  exact if_neg (Bool.not_eq_true _ ▸ hraise _ rfl)

end

/-! ### Failed attempts of PLL-V (R111) -/

/-- PLL-V has failed for good: the fault is raised, and the commands that wait for PLL-V end. -/
def State.pllvGivenUp (s : State) : State :=
  ((s.setClk fun c => { c with pllvFails := 0, pllvFailed := true, pllvRelock := false }).raise
    0x0003 0 (s.rd CORE.PLLV_FREQ_MHZ)).endAll ((s.cmds.filter fun c => !c.started && needsPllv c.op).map (·.tag)) stTimeout

theorem reported_pllvGivenUp (s : State) :
    Reported (s.setClk fun c => { c with pllvFails := 0, pllvFailed := true, pllvRelock := false }) s.pllvGivenUp :=
  (reported_raise _ (by decide) 0 _).trans (reported_endAll _ _ _)

/-- A negotiation that waits for PLL-V, an encode stream and DEC's access units end with its failure (R512, R520). -/
def State.pllvWorkEnds (s : State) : State :=
  let s := match s.vid.renegTag with
    | some t => (s.setVid fun v => { v with renegTag := none }).complete t stTimeout 0 0
    | none => s
  let s := if s.flag ENC.STAT_STATE then s.encFinish stTimeout else s
  (s.dec.queue.map (·.1)).foldl (fun s t => s.complete t stTimeout 0 0) (s.setDec fun d => { d with queue := [], cur := none })

theorem pllvWorkEnds_idle {s : State} (he : s.rd ENC.STAT_STATE = 0) (hq : s.dec.queue = []) (hc : s.dec.cur = none)
    (hr : s.vid.renegTag = none) : s.pllvWorkEnds = s := by
  have hempty : ({ s.dec with queue := [], cur := none } : Dec) = s.dec := by rw [← hq, ← hc]
  have hsame : s.setDec (fun d => { d with queue := [], cur := none }) = s := congrArg (fun d => { s with dec := d }) hempty
  simp only [State.pllvWorkEnds, hr, flag_of_rd_zero he, Bool.false_eq_true, if_false, hq, List.map_nil, List.foldl_nil, hsame]

section
variable {s : State} (hl : s.rd CORE.CLK_STAT_PLLV_LOCK = 0) (hw : s.pllvWanted = true) (hf : s.clk.pllvFailed = false)
include hl hw hf

theorem failV_again (hn : s.clk.pllvFails < 2) : s.failV = s.setClk fun c => { c with pllvFails := c.pllvFails + 1 } := by
  simp only [State.failV, flag_of_rd_zero hl, hw, hf, hn, Bool.not_true, Bool.or_self, Bool.false_eq_true, if_false, if_true]

theorem failV_last (hn : 2 ≤ s.clk.pllvFails) : s.failV = s.pllvGivenUp.pllvWorkEnds := by
  simp only [State.failV, flag_of_rd_zero hl, hw, hf, Nat.not_lt.mpr hn, Bool.not_true, Bool.or_self, Bool.false_eq_true, if_false]
  rfl

end

theorem pllvGivenUp_idle {s : State} (he : s.rd ENC.STAT_STATE = 0) (hq : s.dec.queue = []) (hc : s.dec.cur = none)
    (hr : s.vid.renegTag = none) : s.pllvGivenUp.pllvWorkEnds = s.pllvGivenUp := by
  have hrep := reported_pllvGivenUp s
  exact pllvWorkEnds_idle ((hrep.regs ENC.STAT_STATE (by decide)).trans he) ((congrArg Dec.queue hrep.dec).trans hq)
    ((congrArg Dec.cur hrep.dec).trans hc) ((congrArg Vid.renegTag hrep.vid).trans hr)

end Sys2Proof.Machine
end

section
/-! PROOFS. Writes of CORE.DVFS, and with them the statement on the PLLs and the change of operating point. -/

namespace Sys2Proof.Machine

/-! ### The points' fields (R118) -/

/-- A field outside the four registers of the operating points shares no bit with them. -/
theorem apart_opp {f : Fld} (h : f.addr < CORE.OPP0_PLLS_MHZ.addr ∨ CORE.OPP0_PLLS_MHZ.addr + 16 ≤ f.addr) (p : Nat) :
    f.apart (oppMhz p) = true ∧ f.apart (oppMv p) = true := by
  have hmod : p % 4 < 4 := Nat.mod_lt _ (by decide)
  have hmhz : f.addr ≠ CORE.OPP0_PLLS_MHZ.addr + 4 * (p % 4) := by omega
  have hmv : f.addr ≠ CORE.OPP0_VCORE_10MV.addr + 4 * (p % 4) := hmhz
  exact ⟨by simp only [Fld.apart, oppMhz, bne_iff_ne.mpr hmhz, Bool.true_or], by simp only [Fld.apart, oppMv, bne_iff_ne.mpr hmv, Bool.true_or]⟩

theorem rd_opp_wr (s : State) {f : Fld} (v : Nat) (p : Nat)
    (h : f.addr < CORE.OPP0_PLLS_MHZ.addr ∨ CORE.OPP0_PLLS_MHZ.addr + 16 ≤ f.addr) :
    (s.wr f v).rd (oppMhz p) = s.rd (oppMhz p) ∧ (s.wr f v).rd (oppMv p) = s.rd (oppMv p) :=
  ⟨State.rd_wr_apart _ _ _ _ (apart_opp h p).1, State.rd_wr_apart _ _ _ _ (apart_opp h p).2⟩

/-! ### The start of a change (R120, R121) -/

/-- A change to point `p` is busy, with no attempt to relock yet. -/
def State.dvfsBegun (s : State) (p : Nat) : State :=
  ((s.setClk fun c => { c with point := p }).wr CORE.DVFS_STAT_BUSY 1).wr CORE.DVFS_STAT_ATTEMPTS 0

theorem dvfsStart_up {s : State} {p : Nat} (h : s.rd CORE.CLK_STAT_PLLS_MHZ < s.rd (oppMhz p)) :
    s.dvfsStart p = (s.dvfsBegun p).dvfsVcore .rise := if_pos h

theorem dvfsStart_down {s : State} {p : Nat} (h : s.rd (oppMhz p) < s.rd CORE.CLK_STAT_PLLS_MHZ) :
    s.dvfsStart p = (s.dvfsBegun p).dvfsRelock .relockDown := (if_neg (Nat.lt_asymm h)).trans (if_pos h)

theorem rd_dvfsBegun (s : State) (p : Nat) {f : Fld} (hb : CORE.DVFS_STAT_BUSY.apart f = true)
    (ha : CORE.DVFS_STAT_ATTEMPTS.apart f = true) : (s.dvfsBegun p).rd f = s.rd f := by
  rw [State.dvfsBegun, State.rd_wr_apart _ _ _ _ ha, State.rd_wr_apart _ _ _ _ hb, State.setClk_rd]

theorem dvfsBegun_fields (s : State) (p : Nat) :
    (s.dvfsBegun p).rd CORE.DVFS_STAT_BUSY = 1 ∧ (s.dvfsBegun p).rd CORE.DVFS_STAT_ATTEMPTS = 0 :=
  ⟨(State.rd_wr_apart _ _ _ _ (by decide)).trans (rd_wr_of_lt _ (by decide)), rd_wr_of_lt _ (by decide)⟩

theorem rd_opp_dvfsBegun (s : State) (p q : Nat) :
    (s.dvfsBegun p).rd (oppMhz q) = s.rd (oppMhz q) ∧ (s.dvfsBegun p).rd (oppMv q) = s.rd (oppMv q) :=
  ⟨(rd_opp_wr _ 0 q (by decide)).1.trans (rd_opp_wr _ 1 q (by decide)).1, (rd_opp_wr _ 0 q (by decide)).2.trans (rd_opp_wr _ 1 q (by decide)).2⟩

theorem dvfsPending_none {s : State} (h : s.rd CORE.DVFS_STAT_PENDING = 0) : s.dvfsPending = s :=
  if_neg (by simp [flag_of_rd_zero h])

/-- R133: VCORE is sent to a new level. -/
def State.vcoreSent (s : State) (lvl : Nat) : State := (s.wr SUPPLY.VCORE_TGT_LEVEL lvl).wr SUPPLY.VCORE_STAT_SETTLED 0

theorem vcoreTarget_new {s : State} {lvl : Nat} (h : s.rd SUPPLY.VCORE_TGT_LEVEL ≠ lvl) : s.vcoreTarget lvl = s.vcoreSent lvl :=
  if_neg (by simpa using h)

theorem vcoreSent_fields (s : State) {lvl : Nat} (h : lvl < 128) :
    (s.vcoreSent lvl).rd SUPPLY.VCORE_TGT_LEVEL = lvl ∧ (s.vcoreSent lvl).rd SUPPLY.VCORE_STAT_SETTLED = 0 :=
  ⟨(State.rd_wr_apart _ _ _ _ (by decide)).trans (rd_wr_of_lt s ⟨h, by decide⟩), rd_wr_of_lt _ (by decide)⟩

theorem rd_vcoreSent (s : State) (lvl : Nat) {f : Fld} (hl : SUPPLY.VCORE_TGT_LEVEL.apart f = true)
    (hs : SUPPLY.VCORE_STAT_SETTLED.apart f = true) : (s.vcoreSent lvl).rd f = s.rd f := by
  rw [State.vcoreSent, State.rd_wr_apart _ _ _ _ hs, State.rd_wr_apart _ _ _ _ hl]

theorem only_vcoreSent {w : List Fld} {s t : State} (lvl : Nat) (h : Safety.only w s t) (hl : SUPPLY.VCORE_TGT_LEVEL ∈ w)
    (hs : SUPPLY.VCORE_STAT_SETTLED ∈ w) : Safety.only w s (t.vcoreSent lvl) := only_wr (only_wr h hl) hs

/-- Where VCORE moves, the change waits for it. -/
theorem dvfsVcore_waits {s : State} {lvl : Nat} (ph : DvfsPhase) (hl : s.rd (oppMv s.clk.point) = lvl)
    (h : s.rd SUPPLY.VCORE_TGT_LEVEL ≠ lvl) : s.dvfsVcore ph = (s.phase ph).vcoreSent lvl := by
  have hmoves : (s.phase ph).vcoreTarget lvl = (s.phase ph).vcoreSent lvl := vcoreTarget_new h
  have hwaits : ((s.phase ph).vcoreSent lvl).flag SUPPLY.VCORE_STAT_SETTLED = false := flag_of_rd_zero (rd_wr_of_lt _ (by decide))
  rw [State.dvfsVcore, hl, hmoves, State.dvfsSettled, hwaits]
  exact if_neg Bool.false_ne_true

/-- PLL-S relocks at the point's frequency, and the attempt is counted. -/
theorem dvfsRelock_down {s : State} {mhz : Nat} (h : s.rd (oppMhz s.clk.point) = mhz) :
    s.dvfsRelock .relockDown = ((s.phase .relockDown).relock mhz).bump CORE.DVFS_STAT_ATTEMPTS := by
  rw [State.dvfsRelock, h]
  rfl

/-! ### Writes of CORE.DVFS -/

theorem exec_dvfsPointWrite {s : State} (h : Safety.takes s .core) (w : Word) :
    exec (.dvfsPointWrite w) s = .next (s.idleRestart.writeDvfs w).settle :=
  congrArg Host.Outcome.next (hostReg_takes h fun s => (s.writeDvfs w).settle)

/-- The field of CORE.DVFS holds what was written. -/
def State.pointStored (s : State) (w : Word) : State := s.wr CORE.DVFS_POINT (field w 0 2)

theorem rd_pointStored (s : State) (w : Word) : (s.pointStored w).rd CORE.DVFS_POINT = field w 0 2 := rd_wr_of_lt s ⟨field_lt w 0 2, by decide⟩

theorem rd_pointStored_apart (s : State) (w : Word) {f : Fld} (h : CORE.DVFS_POINT.apart f = true) : (s.pointStored w).rd f = s.rd f :=
  State.rd_wr_apart _ _ _ _ h

theorem rd_opp_pointStored (s : State) (w : Word) (p : Nat) :
    (s.pointStored w).rd (oppMhz p) = s.rd (oppMhz p) ∧ (s.pointStored w).rd (oppMv p) = s.rd (oppMv p) := rd_opp_wr s _ p (by decide)

theorem imageApplied_pointStored (s : State) (w : Word) : (s.pointStored w).imageApplied = s.imageApplied :=
  imageApplied_of_imgView (imgView_wr s (by decide))

/-- While a change is busy the point is noted. -/
def State.pointNoted (s : State) (w : Word) : State :=
  ((s.pointStored w).setClk fun c => { c with nextPoint := field w 0 2 }).wr CORE.DVFS_STAT_PENDING 1

section
variable {s : State} {w : Word} (hi : s.imageApplied = true)
include hi

theorem writeDvfs_busy (hb : s.rd CORE.DVFS_STAT_BUSY = 1) : s.writeDvfs w = s.pointNoted w := by
  have hbusy : (s.pointStored w).flag CORE.DVFS_STAT_BUSY = true := flag_of_rd_one ((rd_pointStored_apart s w (by decide)).trans hb)
  have himage := (imageApplied_pointStored s w).trans hi
  rw [State.pointStored] at hbusy himage
  simp only [State.writeDvfs, hbusy, himage, Bool.not_true, Bool.false_eq_true, if_false, if_true, State.pointNoted, State.pointStored]

theorem writeDvfs_starts (hb : s.rd CORE.DVFS_STAT_BUSY = 0)
    (hp : (s.clk.inForce && s.rd CORE.DVFS_STAT_CUR_POINT == field w 0 2) = false) :
    s.writeDvfs w = ((s.pointStored w).dvfsStart (field w 0 2)).dvfsPending := by
  have hbusy : (s.pointStored w).flag CORE.DVFS_STAT_BUSY = false := flag_of_rd_zero ((rd_pointStored_apart s w (by decide)).trans hb)
  have himage := (imageApplied_pointStored s w).trans hi
  have hpoint : ((s.pointStored w).clk.inForce && (s.pointStored w).rd CORE.DVFS_STAT_CUR_POINT == field w 0 2) = false := by
    rw [rd_pointStored_apart s w (by decide)]
    exact hp
  rw [State.pointStored] at hbusy himage hpoint
  simp only [State.writeDvfs, hbusy, himage, hpoint, Bool.not_true, Bool.false_eq_true, if_false, State.pointStored]

end

/-- The change to the point that was written is in its first phase. -/
def State.changeBegun (s : State) (w : Word) (ph : DvfsPhase) : State := ((s.pointStored w).dvfsBegun (field w 0 2)).phase ph

theorem only_changeBegun {ws : List Fld} (s : State) (w : Word) (ph : DvfsPhase) (hp : CORE.DVFS_POINT ∈ ws)
    (hb : CORE.DVFS_STAT_BUSY ∈ ws) (ha : CORE.DVFS_STAT_ATTEMPTS ∈ ws) :
    Safety.only ws (s.setClk fun c => { c with point := field w 0 2, dvfs := ph }) (s.changeBegun w ph) :=
  only_setClk (fun c => { c with dvfs := ph })
    (only_wr (only_wr (only_setClk (fun c => { c with point := field w 0 2 }) (only_wr (only_refl ws s) hp)) hb) ha)

theorem rd_changeBegun (s : State) (w : Word) (ph : DvfsPhase) {f : Fld} (hp : CORE.DVFS_POINT.apart f = true)
    (hb : CORE.DVFS_STAT_BUSY.apart f = true) (ha : CORE.DVFS_STAT_ATTEMPTS.apart f = true) : (s.changeBegun w ph).rd f = s.rd f :=
  (only_changeBegun (ws := [CORE.DVFS_POINT, CORE.DVFS_STAT_BUSY, CORE.DVFS_STAT_ATTEMPTS]) s w ph
    (by simp) (by simp) (by simp)).2.1 f (by simp [hp, hb, ha])

theorem changeBegun_fields (s : State) (w : Word) (ph : DvfsPhase) :
    (s.changeBegun w ph).rd CORE.DVFS_POINT = field w 0 2 ∧ (s.changeBegun w ph).rd CORE.DVFS_STAT_BUSY = 1 ∧
      (s.changeBegun w ph).rd CORE.DVFS_STAT_ATTEMPTS = 0 := by
  have hpoint : ((s.pointStored w).dvfsBegun (field w 0 2)).rd CORE.DVFS_POINT = field w 0 2 := by
    rw [rd_dvfsBegun _ _ (by decide) (by decide), rd_pointStored]
  simp only [State.changeBegun, State.phase, State.setClk_rd, hpoint, dvfsBegun_fields, and_self]

/-- PLL-S as it relocks on the way down, at `mhz`. -/
def State.pllDown (s : State) (mhz : Nat) : Pll :=
  { goal := mhz, prev := s.rd CORE.CLK_STAT_PLLS_MHZ, fails := 0, active := true, back := false }

/-- PLL-S relocks at `mhz` on the way down, and its first attempt is counted. -/
def State.changeDown (s : State) (w : Word) (mhz : Nat) : State :=
  (((s.changeBegun w .relockDown).setPll fun _ => s.pllDown mhz).pllsGated).bump CORE.DVFS_STAT_ATTEMPTS

theorem changeDown_eq {s : State} {mhz : Nat} (w : Word) (h : mhz < s.rd CORE.CLK_STAT_PLLS_MHZ) :
    ((s.changeBegun w .relockDown).relock mhz).bump CORE.DVFS_STAT_ATTEMPTS = s.changeDown w mhz := by
  have hback : (mhz == s.rd CORE.CLK_STAT_PLLS_MHZ) = false := beq_false_of_ne (Nat.ne_of_lt h)
  rw [relock_eq, rd_changeBegun s w _ (by decide) (by decide) (by decide), hback]
  rfl

theorem changeDown_fields (s : State) (w : Word) (mhz : Nat) :
    let x := s.changeDown w mhz
    x.rd CORE.DVFS_POINT = field w 0 2 ∧ x.rd CORE.DVFS_STAT_BUSY = 1 ∧ x.rd CORE.DVFS_STAT_ATTEMPTS = 1 ∧
      x.rd CORE.CLK_STAT_PLLS_LOCK = 0 ∧ x.rd CORE.CLK_STAT_PLLS_FALLBACK = 1 := by
  obtain ⟨hpoint, hbusy, hattempts⟩ := changeBegun_fields s w .relockDown
  obtain ⟨hlock, hfallback⟩ := pllsGated_fields ((s.changeBegun w .relockDown).setPll fun _ => s.pllDown mhz)
  have hsame {f : Fld} (hl : CORE.CLK_STAT_PLLS_LOCK.apart f = true) (hf : CORE.CLK_STAT_PLLS_FALLBACK.apart f = true) :
      ((s.changeBegun w .relockDown).setPll fun _ => s.pllDown mhz).pllsGated.rd f = (s.changeBegun w .relockDown).rd f := by
    rw [rd_pllsGated _ hl hf, State.setPll, State.setClk_rd]
  unfold State.changeDown
  refine ⟨?_, ?_, ?_, (rd_bump_apart _ _ _ _ (by decide)).trans hlock, (rd_bump_apart _ _ _ _ (by decide)).trans hfallback⟩
  · rw [rd_bump_apart _ _ _ _ (by decide), hsame (by decide) (by decide), hpoint]
  · rw [rd_bump_apart _ _ _ _ (by decide), hsame (by decide) (by decide), hbusy]
  · rw [rd_bump _ CORE.DVFS_STAT_ATTEMPTS 1 (by decide), hsame (by decide) (by decide), hattempts]
    rfl

theorem only_changeDown (s : State) (w : Word) (mhz : Nat) :
    Safety.only [CORE.DVFS_POINT, CORE.DVFS_STAT_BUSY, CORE.DVFS_STAT_ATTEMPTS, CORE.CLK_STAT_PLLS_LOCK, CORE.CLK_STAT_PLLS_FALLBACK]
      (s.setClk fun c => { c with point := field w 0 2, dvfs := .relockDown, plls := s.pllDown mhz }) (s.changeDown w mhz) :=
  only_bump (only_pllsGated (only_setClk (fun c => { c with plls := s.pllDown mhz })
    (only_changeBegun s w .relockDown (by simp) (by simp) (by simp))) (by simp) (by simp)) (by simp)

section
variable {s : State} {w : Word} (hi : s.imageApplied = true) (hb : s.rd CORE.DVFS_STAT_BUSY = 0)
  (hn : s.rd CORE.DVFS_STAT_PENDING = 0) (hp : (s.clk.inForce && s.rd CORE.DVFS_STAT_CUR_POINT == field w 0 2) = false)
include hi hb hn hp

/-- On the way up VCORE moves first. -/
theorem writeDvfs_up (hf : s.rd CORE.CLK_STAT_PLLS_MHZ < s.rd (oppMhz (field w 0 2)))
    (hl : s.rd SUPPLY.VCORE_TGT_LEVEL ≠ s.rd (oppMv (field w 0 2))) :
    s.writeDvfs w = (s.changeBegun w .rise).vcoreSent (s.rd (oppMv (field w 0 2))) := by
  obtain ⟨hmhz, hmv⟩ := rd_opp_pointStored s w (field w 0 2)
  have hup : (s.pointStored w).rd CORE.CLK_STAT_PLLS_MHZ < (s.pointStored w).rd (oppMhz (field w 0 2)) := by
    rw [rd_pointStored_apart s w (by decide), hmhz]
    exact hf
  have htarget : ((s.pointStored w).dvfsBegun (field w 0 2)).rd SUPPLY.VCORE_TGT_LEVEL = s.rd SUPPLY.VCORE_TGT_LEVEL := by
    rw [rd_dvfsBegun _ _ (by decide) (by decide), rd_pointStored_apart s w (by decide)]
  have hvcore : ((s.pointStored w).dvfsBegun (field w 0 2)).dvfsVcore .rise = (s.changeBegun w .rise).vcoreSent (s.rd (oppMv (field w 0 2))) :=
    dvfsVcore_waits .rise ((rd_opp_dvfsBegun _ _ _).2.trans hmv) (htarget.trans_ne hl)
  have hpending : ((s.changeBegun w .rise).vcoreSent (s.rd (oppMv (field w 0 2)))).rd CORE.DVFS_STAT_PENDING = 0 := by
    rw [rd_vcoreSent _ _ (by decide) (by decide), rd_changeBegun s w _ (by decide) (by decide) (by decide), hn]
  rw [writeDvfs_starts hi hb hp, dvfsStart_up hup, hvcore, dvfsPending_none hpending]

/-- On the way down PLL-S relocks first. -/
theorem writeDvfs_down (hf : s.rd (oppMhz (field w 0 2)) < s.rd CORE.CLK_STAT_PLLS_MHZ) :
    s.writeDvfs w = s.changeDown w (s.rd (oppMhz (field w 0 2))) := by
  obtain ⟨hmhz, -⟩ := rd_opp_pointStored s w (field w 0 2)
  have hdown : (s.pointStored w).rd (oppMhz (field w 0 2)) < (s.pointStored w).rd CORE.CLK_STAT_PLLS_MHZ := by
    rw [hmhz, rd_pointStored_apart s w (by decide)]
    exact hf
  have hrelock : ((s.pointStored w).dvfsBegun (field w 0 2)).dvfsRelock .relockDown = s.changeDown w (s.rd (oppMhz (field w 0 2))) :=
    (dvfsRelock_down ((rd_opp_dvfsBegun _ _ _).1.trans hmhz)).trans (changeDown_eq w hf)
  have hpending : (s.changeDown w (s.rd (oppMhz (field w 0 2)))).rd CORE.DVFS_STAT_PENDING = 0 :=
    ((only_changeDown s w _).2.1 _ (by decide)).trans hn
  rw [writeDvfs_starts hi hb hp, dvfsStart_down hdown, hrelock, dvfsPending_none hpending]

end

/-! ### The statement -/

/-- Settles O5: each lock, trip and failed attempt by the equation of its case, and a write of CORE.DVFS by the first phase of the
change that it starts. -/
theorem pllsAndOperatingPoint : Obligations.PllsAndOperatingPoint := by
  refine ⟨⟨fun s ha hh hp hg => ?lockS, fun s ha hh hw hl hf => ?lockV, fun s ha hp => ?tripS, fun mhz s => ?relock,
    fun s ha hl => ?tripV, fun s ha hh hp hf => ?failAgain, fun s ha hh hp hf hb => ?failBack,
    fun s ha hh hp hf hb hup hdown => ?failLast, fun s ha hh hl hw hf hn => ?failV,
    fun s ha hh hl hw hf hn he hq hc hr => ?failVLast⟩,
    fun w s h hi hb => ?busy, fun w s h hi hb hn hp hf hl hlt => ?up, fun w s h hi hb hn hp hf => ?down⟩
  case lockS =>
    obtain ⟨hlock, hfallback, hmhz⟩ := pllsLocked_fields hg
    refine ⟨s.pllsLocked, ?_, hlock, hfallback, hmhz, only_wr (only_wr (only_wr (only_refl _ _) (by simp)) (by simp)) (by simp)⟩
    rw [(exec_pllLock ha).1, lockS_eq hh hp]
    generalize s.pllsLocked = x
    cases s.clk.dvfs <;> cases s.clk.plls.back <;> simp only [State.dvfsGoesOn, Bool.false_eq_true, if_false, if_true]
  case lockV =>
    obtain ⟨hlock, hfallback⟩ := pllvLocked_fields s
    refine ⟨s.pllvLocked, ?_, hlock, hfallback, only_pllvLocked s⟩
    rw [(exec_pllLock ha).2, lockV_eq hh hw hl hf]
  case tripS => exact ⟨s.tripped, exec_guardTrip_s ha hp, (tripped_fields s).1, (tripped_fields s).2, only_tripped s (by simp) (by simp)⟩
  case relock =>
    obtain ⟨hlock, hfallback⟩ := pllsGated_fields (s.setPll fun _ =>
      { goal := mhz, prev := s.rd CORE.CLK_STAT_PLLS_MHZ, fails := 0, active := true, back := mhz == s.rd CORE.CLK_STAT_PLLS_MHZ })
    exact ⟨hlock, hfallback, only_pllsGated (only_refl _ _) (by simp) (by simp)⟩
  case tripV =>
    obtain ⟨htrips, hpending, hlock, hfallback⟩ := pllvTripped_fields s
    exact ⟨s.pllvTripped, exec_guardTrip_v ha hl, htrips, hpending, hlock, hfallback, only_pllvTripped s⟩
  case failAgain =>
    rw [(exec_relockFail ha hh).1, failS_again hp hf]
    rfl
  case failBack =>
    rw [(exec_relockFail ha hh).1, failS_back hp hf hb]
    rfl
  case failLast =>
    rw [(exec_relockFail ha hh).1, failS_last hp hf hb hup hdown]
    rfl
  case failV =>
    rw [(exec_relockFail ha hh).2, failV_again hl hw hf hn]
    rfl
  case failVLast =>
    rw [(exec_relockFail ha hh).2, failV_last hl hw hf hn, pllvGivenUp_idle he hq hc hr]
    rfl
  case busy =>
    refine ⟨s.idleRestart.pointNoted w, ?_, ?_, rd_wr_of_lt _ (by decide),
      only_wr (only_setClk (fun c => { c with nextPoint := field w 0 2 }) (only_wr (only_refl _ s.idleRestart) (by simp))) (by simp)⟩
    · rw [exec_dvfsPointWrite h, writeDvfs_busy (s := s.idleRestart) hi hb]
    · rw [State.pointNoted, State.rd_wr_apart _ _ _ _ (by decide), State.setClk_rd, rd_pointStored]
  case up =>
    obtain ⟨hpoint, hbusy, hattempts⟩ := changeBegun_fields s.idleRestart w .rise
    obtain ⟨hlevel, hsettled⟩ := vcoreSent_fields (s.idleRestart.changeBegun w .rise) hlt
    refine ⟨_, ?_, (rd_vcoreSent _ _ (by decide) (by decide)).trans hpoint, (rd_vcoreSent _ _ (by decide) (by decide)).trans hbusy,
      (rd_vcoreSent _ _ (by decide) (by decide)).trans hattempts, hlevel, hsettled,
      only_vcoreSent _ (only_changeBegun s.idleRestart w .rise (by simp) (by simp) (by simp)) (by simp) (by simp)⟩
    rw [exec_dvfsPointWrite h, writeDvfs_up (s := s.idleRestart) hi hb hn hp hf hl]
    rfl
  case down =>
    obtain ⟨hpoint, hbusy, hattempts, hlock, hfallback⟩ := changeDown_fields s.idleRestart w (s.rd (oppMhz (field w 0 2)))
    refine ⟨_, ?_, hpoint, hbusy, hattempts, hlock, hfallback, only_changeDown s.idleRestart w _⟩
    rw [exec_dvfsPointWrite h, writeDvfs_down (s := s.idleRestart) hi hb hn hp hf]
    rfl

end Sys2Proof.Machine
end

section
/-! PROOFS. Host writes of SUPPLY: the target of VCORE, VH, and the levels of VIN and VM. -/

namespace Sys2Proof.Machine

/-! ### The target of VCORE (R122, R133, R134, R139) -/

theorem exec_vcoreTgtWrite {s : State} (h : Safety.takes s .supply) (w : Word) :
    exec (.vcoreTgtWrite w) s = .next (s.idleRestart.writeVcoreTgt w) :=
  congrArg Host.Outcome.next (hostReg_takes h fun s => s.writeVcoreTgt w)

/-- The slew that a write of VCORE's target holds. -/
def State.slewStored (s : State) (w : Word) : State := s.wr SUPPLY.VCORE_TGT_SLEW (clampNat 1 10 (field w 8 4))

theorem rd_slewStored (s : State) (w : Word) : (s.slewStored w).rd SUPPLY.VCORE_TGT_SLEW = clampNat 1 10 (field w 8 4) := by
  have hle := (clampNat_mem (lo := 1) (hi := 10) (by decide) (field w 8 4)).2
  exact rd_wr_of_lt s ⟨Nat.lt_of_le_of_lt hle (by decide), by decide⟩

theorem rd_slewStored_apart (s : State) (w : Word) {f : Fld} (h : SUPPLY.VCORE_TGT_SLEW.apart f = true) :
    (s.slewStored w).rd f = s.rd f := State.rd_wr_apart _ _ _ _ h

/-- R122: the level lies below the point in force, with no change busy. -/
def State.vcoreLow (s : State) (lvl : Nat) : Bool :=
  !s.flag CORE.DVFS_STAT_BUSY && s.clk.inForce && lvl < s.rd (oppMv (s.rd CORE.DVFS_STAT_CUR_POINT))

/-- A new level is refused, and each reason for it is recorded. -/
def State.vcoreRefused (s : State) (lvl : Nat) : State :=
  let busy := s.flag CORE.DVFS_STAT_BUSY
  let low := s.vcoreLow lvl
  let s := if busy then s.wr SUPPLY.VCORE_STAT_BUSY_REFUSED 1 else s
  let s := if lvl < 70 || 95 < lvl then s.wr SUPPLY.VCORE_STAT_RANGE_REFUSED 1 else s
  if low then s.wr CORE.DVFS_STAT_LOW_REFUSED 1 else s

theorem only_vcoreRefused {ws : List Fld} {s t : State} (lvl : Nat) (h : Safety.only ws s t)
    (hb : SUPPLY.VCORE_STAT_BUSY_REFUSED ∈ ws) (hr : SUPPLY.VCORE_STAT_RANGE_REFUSED ∈ ws)
    (hl : CORE.DVFS_STAT_LOW_REFUSED ∈ ws) : Safety.only ws s (t.vcoreRefused lvl) := by
  have hbusy := only_ite (c := t.flag CORE.DVFS_STAT_BUSY) (only_wr (v := 1) h hb) h
  have hrange := only_ite (c := (lvl < 70 || 95 < lvl)) (only_wr (v := 1) hbusy hr) hbusy
  exact only_ite (only_wr hrange hl) hrange

theorem rd_vcoreRefused (s : State) (lvl : Nat) {f : Fld} (hb : SUPPLY.VCORE_STAT_BUSY_REFUSED.apart f = true)
    (hr : SUPPLY.VCORE_STAT_RANGE_REFUSED.apart f = true) (hl : CORE.DVFS_STAT_LOW_REFUSED.apart f = true) :
    (s.vcoreRefused lvl).rd f = s.rd f :=
  (only_vcoreRefused (ws := [SUPPLY.VCORE_STAT_BUSY_REFUSED, SUPPLY.VCORE_STAT_RANGE_REFUSED, CORE.DVFS_STAT_LOW_REFUSED]) lvl
    (only_refl _ s) (by simp) (by simp) (by simp)).2.1 f (by simp [hb, hr, hl])

theorem vcoreRefused_fields (s : State) (lvl : Nat) :
    (s.flag CORE.DVFS_STAT_BUSY = true → (s.vcoreRefused lvl).rd SUPPLY.VCORE_STAT_BUSY_REFUSED = 1) ∧
      (lvl < 70 ∨ 95 < lvl → (s.vcoreRefused lvl).rd SUPPLY.VCORE_STAT_RANGE_REFUSED = 1) ∧
      (s.vcoreLow lvl = true → (s.vcoreRefused lvl).rd CORE.DVFS_STAT_LOW_REFUSED = 1) := by
  have hkept (t : State) (c : Bool) {f g : Fld} (h : f.apart g = true) : (if c then t.wr f 1 else t).rd g = t.rd g := by
    split
    · exact State.rd_wr_apart _ _ _ _ h
    · rfl
  unfold State.vcoreRefused
  refine ⟨fun h => ?_, fun h => ?_, fun h => ?_⟩
  · simp only [h, if_true]
    rw [hkept _ _ (by decide), hkept _ _ (by decide), rd_wr_of_lt _ (by decide)]
  · have hrange : (decide (lvl < 70) || decide (95 < lvl)) = true := by simpa using h
    simp only [hrange, if_true]
    rw [hkept _ _ (by decide), rd_wr_of_lt _ (by decide)]
  · simp only [h, if_true]
    exact rd_wr_of_lt _ (by decide)

/-- A new level is refused. -/
def State.vcoreRefuses (s : State) (lvl : Nat) : Bool := s.flag CORE.DVFS_STAT_BUSY || (lvl < 70 || 95 < lvl) || s.vcoreLow lvl

theorem writeVcoreTgt_eq (s : State) (w : Word) : s.writeVcoreTgt w =
    if field w 0 7 == (s.slewStored w).rd SUPPLY.VCORE_TGT_LEVEL then s.slewStored w
    else if (s.slewStored w).vcoreRefuses (field w 0 7) then (s.slewStored w).vcoreRefused (field w 0 7)
    else ((s.slewStored w).vcoreRefused (field w 0 7)).vcoreTarget (field w 0 7) := rfl

theorem vcoreLow_slewStored (s : State) (w : Word) (lvl : Nat) : (s.slewStored w).vcoreLow lvl = s.vcoreLow lvl := by
  have hlevel (p : Nat) : (s.slewStored w).rd (oppMv p) = s.rd (oppMv p) := (rd_opp_wr s _ p (by decide)).2
  have hforce : (s.slewStored w).clk = s.clk := rfl
  simp only [State.vcoreLow, State.flag, rd_slewStored_apart s w (f := CORE.DVFS_STAT_BUSY) (by decide),
    rd_slewStored_apart s w (f := CORE.DVFS_STAT_CUR_POINT) (by decide), hlevel, hforce]

theorem vcoreRefuses_slewStored (s : State) (w : Word) (lvl : Nat) : (s.slewStored w).vcoreRefuses lvl = s.vcoreRefuses lvl := by
  simp only [State.vcoreRefuses, vcoreLow_slewStored, State.flag, rd_slewStored_apart s w (f := CORE.DVFS_STAT_BUSY) (by decide)]

/-- Nothing is recorded of a level that is not refused. -/
theorem vcoreRefused_of_taken {s : State} {lvl : Nat} (h : s.vcoreRefuses lvl = false) : s.vcoreRefused lvl = s := by
  simp only [State.vcoreRefuses, Bool.or_eq_false_iff] at h
  obtain ⟨⟨hbusy, hrange⟩, hlow⟩ := h
  simp only [State.vcoreRefused, hbusy, hrange, hlow, Bool.or_self, Bool.false_eq_true, if_false]

theorem writeVcoreTgt_present {s : State} {w : Word} (h : field w 0 7 = s.rd SUPPLY.VCORE_TGT_LEVEL) :
    s.writeVcoreTgt w = s.slewStored w := by
  rw [writeVcoreTgt_eq, rd_slewStored_apart s w (by decide)]
  exact if_pos (beq_iff_eq.mpr h)

section
variable {s : State} {w : Word} (hn : field w 0 7 ≠ s.rd SUPPLY.VCORE_TGT_LEVEL)
include hn

theorem writeVcoreTgt_refused (h : s.vcoreRefuses (field w 0 7) = true) :
    s.writeVcoreTgt w = (s.slewStored w).vcoreRefused (field w 0 7) := by
  rw [writeVcoreTgt_eq, rd_slewStored_apart s w (by decide), vcoreRefuses_slewStored]
  exact (if_neg (by simpa using hn)).trans (if_pos h)

theorem writeVcoreTgt_taken (h : s.vcoreRefuses (field w 0 7) = false) :
    s.writeVcoreTgt w = (s.slewStored w).vcoreSent (field w 0 7) := by
  have htarget : (s.slewStored w).rd SUPPLY.VCORE_TGT_LEVEL ≠ field w 0 7 := by
    rw [rd_slewStored_apart s w (by decide)]
    exact hn.symm
  have hrefuses : (s.slewStored w).vcoreRefuses (field w 0 7) = false := (vcoreRefuses_slewStored s w _).trans h
  rw [writeVcoreTgt_eq]
  simp only [hrefuses, vcoreRefused_of_taken hrefuses, vcoreTarget_new htarget, beq_false_of_ne htarget.symm, Bool.false_eq_true,
    if_false]

end

/-! ### VH (R141, R142, R144) -/

theorem exec_vhTgtWrite {s : State} (h : Safety.takes s .supply) (w : Word) :
    exec (.vhTgtWrite w) s = .next (s.idleRestart.writeVhTgt w) :=
  congrArg Host.Outcome.next (hostReg_takes h fun s => s.writeVhTgt w)

theorem exec_vhCtlWrite {s : State} (h : Safety.takes s .supply) (w : Word) :
    exec (.vhCtlWrite w) s = .next (s.idleRestart.writeVhCtl w).settle :=
  congrArg Host.Outcome.next (hostReg_takes h fun s => (s.writeVhCtl w).settle)

section
variable {s : State} {w : Word}

theorem writeVhTgt_above (h : s.vhMax < field w 0 8) : s.writeVhTgt w = s.wr SUPPLY.VH_STAT_REFUSED 1 := if_pos h

variable (h : field w 0 8 ≤ s.vhMax)
include h

theorem writeVhTgt_present (hc : field w 0 8 = s.rd SUPPLY.VH_TGT_CODE) : s.writeVhTgt w = s :=
  (if_neg (Nat.not_lt.mpr h)).trans (if_pos (beq_iff_eq.mpr hc))

theorem writeVhTgt_new (hc : field w 0 8 ≠ s.rd SUPPLY.VH_TGT_CODE) :
    s.writeVhTgt w = (s.wr SUPPLY.VH_TGT_CODE (field w 0 8)).wr SUPPLY.VH_STAT_SETTLED 0 :=
  (if_neg (Nat.not_lt.mpr h)).trans (if_neg (by simpa using hc))

end

theorem writeVhCtl_taken {s : State} {w : Word} (h : s.base = .run ∨ field w 0 1 = 0) :
    s.writeVhCtl w = s.wr SUPPLY.VH_CTL_EN (field w 0 1) :=
  if_neg (by rcases h with h | h <;> simp [h])

theorem writeVhCtl_held {s : State} {w : Word} (hb : s.base = .held) (he : field w 0 1 = 1) :
    s.writeVhCtl w = s.wr SUPPLY.VH_STAT_REFUSED 1 :=
  if_pos (by simp [hb, he])

/-! ### Levels (R146, R150) -/

section
variable {s : State} (h : Safety.takes s .supply) (w : Word)
include h

theorem exec_vinFloorWrite : exec (.vinFloorWrite w) s = .next (s.idleRestart.levelWrite SUPPLY.VIN_FLOOR_LEVEL 50 120 (field w 0 8)
    (s.rd SUPPLY.VIN_CRIT_LEVEL < field w 0 8)) :=
  congrArg Host.Outcome.next (hostReg_takes h fun s => s.writeVinFloor w)

theorem exec_vinCritWrite : exec (.vinCritWrite w) s = .next (s.idleRestart.levelWrite SUPPLY.VIN_CRIT_LEVEL 50 120 (field w 0 8)
    (field w 0 8 < s.rd SUPPLY.VIN_FLOOR_LEVEL)) :=
  congrArg Host.Outcome.next (hostReg_takes h fun s => s.writeVinCrit w)

theorem exec_vmCeilWrite : exec (.vmCeilWrite w) s = .next (s.idleRestart.levelWrite SUPPLY.VM_CEIL_LEVEL 60 180 (field w 0 8)
    (field w 0 8 < s.rd SUPPLY.VM_DUMP_LEVEL)) :=
  congrArg Host.Outcome.next (hostReg_takes h fun s => s.writeVmCeil w)

theorem exec_vmDumpWrite : exec (.vmDumpWrite w) s = .next (s.idleRestart.levelWrite SUPPLY.VM_DUMP_LEVEL 60 180 (field w 0 8)
    (s.rd SUPPLY.VM_CEIL_LEVEL < field w 0 8)) :=
  congrArg Host.Outcome.next (hostReg_takes h fun s => s.writeVmDump w)

end

section
variable {lo hi lvl : Nat} {order : Bool}

/-- A level in its range that keeps the order is stored. -/
theorem levelWrite_stored (s : State) {f : Fld} (hlo : lo ≤ lvl) (hhi : lvl ≤ hi) (ho : order = true) (hw : lvl < 2 ^ f.wid)
    (hf : f.lo + f.wid ≤ 32) :
    let x := s.levelWrite f lo hi lvl order
    x.rd f = lvl ∧ Safety.only [f] s x := by
  have hx : s.levelWrite f lo hi lvl order = s.wr f lvl := if_pos (by simp [hlo, hhi, ho])
  rw [hx]
  exact ⟨rd_wr_of_lt s ⟨hw, hf⟩, only_wr (only_refl _ s) (by simp)⟩

/-- Any other level only sets LEVEL_REFUSED. -/
theorem levelWrite_refused (s : State) (f : Fld) (h : lvl < lo ∨ hi < lvl ∨ order = false) :
    let x := s.idleRestart.levelWrite f lo hi lvl order
    Safety.event SUPPLY.EVT_LEVEL_REFUSED .supply s x ∧
      Safety.only [SUPPLY.EVT_LEVEL_REFUSED, VEC.PENDING_PENDING] s.idleRestart x := by
  have hno : ¬(lo ≤ lvl && lvl ≤ hi && order) = true := by
    simp only [Bool.and_eq_true, decide_eq_true_eq, not_and, Bool.not_eq_true]
    rintro ⟨hlo, hhi⟩
    rcases h with h | h | h
    · omega
    · omega
    · exact h
  have hx : s.idleRestart.levelWrite f lo hi lvl order = s.idleRestart.evt SUPPLY.EVT_LEVEL_REFUSED .supply := if_neg hno
  rw [hx]
  exact ⟨event_evt rfl rfl rfl rfl (by decide) (by decide) (by decide) (by decide) (by decide), only_evt (only_refl _ _) (by simp) (by simp)⟩

end

/-! ### The statement -/

/-- Settles O6: each register's write by the equation of its case, after the idle count. -/
theorem supplyRegisterWrites : Obligations.SupplyRegisterWrites := by
  refine ⟨⟨fun w s h hn hb hlo hhi hp => ?taken, fun w s h he => ?present, fun w s h hn hr => ?refused⟩,
    ⟨fun w s h hm hc => ?vhNew, fun w s h hm hc => ?vhPresent, fun w s h hm => ?vhAbove, fun w s h hb => ?vhCtl, fun w s h hb he => ?vhHeld⟩,
    fun w s h hlo hhi => ⟨fun ho => ?floor, fun ho => ?crit⟩, fun w s h hlo hhi => ⟨fun ho => ?ceil, fun ho => ?dump⟩,
    fun w s h => ⟨fun ho => ?floorRefused, fun ho => ?critRefused, fun ho => ?ceilRefused, fun ho => ?dumpRefused⟩⟩
  case taken =>
    have hrefuses : s.idleRestart.vcoreRefuses (field w 0 7) = false := by
      have hlow : s.idleRestart.vcoreLow (field w 0 7) = false := by
        rw [State.vcoreLow, Bool.and_assoc]
        exact (congrArg _ hp).trans (Bool.and_false _)
      simp [State.vcoreRefuses, hlow, State.flag, hb, hlo, hhi]
    obtain ⟨hlevel, hsettled⟩ := vcoreSent_fields (s.idleRestart.slewStored w) (lvl := field w 0 7) (by omega)
    refine ⟨_, exec_vcoreTgtWrite h w, ?_⟩
    rw [writeVcoreTgt_taken (s := s.idleRestart) hn hrefuses]
    exact ⟨hlevel, hsettled, (rd_vcoreSent _ _ (by decide) (by decide)).trans (rd_slewStored _ w),
      only_vcoreSent _ (only_wr (only_refl _ _) (by simp)) (by simp) (by simp)⟩
  case present =>
    refine ⟨_, exec_vcoreTgtWrite h w, ?_⟩
    rw [writeVcoreTgt_present (s := s.idleRestart) he]
    exact ⟨rd_slewStored _ w, only_wr (only_refl _ _) (by simp)⟩
  case refused =>
    have hrefuses : s.idleRestart.vcoreRefuses (field w 0 7) = true := by
      change s.vcoreRefuses (field w 0 7) = true
      cases hb : s.flag CORE.DVFS_STAT_BUSY
      case false => simpa [State.vcoreRefuses, State.vcoreLow, hb, or_assoc] using hr
      case true => simp [State.vcoreRefuses, hb]
    obtain ⟨hbusy, hrange, hlow⟩ := vcoreRefused_fields (s.idleRestart.slewStored w) (field w 0 7)
    have hkept {f : Fld} (hb : SUPPLY.VCORE_STAT_BUSY_REFUSED.apart f = true) (hr : SUPPLY.VCORE_STAT_RANGE_REFUSED.apart f = true)
        (hl : CORE.DVFS_STAT_LOW_REFUSED.apart f = true) := rd_vcoreRefused (s.idleRestart.slewStored w) (field w 0 7) hb hr hl
    refine ⟨_, exec_vcoreTgtWrite h w, ?_⟩
    rw [writeVcoreTgt_refused (s := s.idleRestart) hn hrefuses]
    refine ⟨?_, fun hb => hbusy ?_, hrange, fun hb hf hl => hlow ?_, ?_,
      only_vcoreRefused _ (only_wr (only_refl _ _) (by simp)) (by simp) (by simp) (by simp)⟩
    · rw [hkept (by decide) (by decide) (by decide), rd_slewStored_apart _ _ (by decide), rd_idleRestart]
    · exact flag_of_rd_one ((rd_slewStored_apart _ w (by decide)).trans hb)
    · have hlow : s.vcoreLow (field w 0 7) = true := by simp [State.vcoreLow, flag_of_rd_zero hb, hf, hl]
      exact (vcoreLow_slewStored s.idleRestart w _).trans hlow
    · rw [hkept (by decide) (by decide) (by decide), rd_slewStored]
  case vhNew =>
    refine ⟨_, exec_vhTgtWrite h w, ?_⟩
    rw [writeVhTgt_new (s := s.idleRestart) hm hc]
    exact ⟨(State.rd_wr_apart _ _ _ _ (by decide)).trans (rd_wr_of_lt _ ⟨field_lt w 0 8, by decide⟩), rd_wr_of_lt _ (by decide),
      only_wr (only_wr (only_refl _ _) (by simp)) (by simp)⟩
  case vhPresent => rw [exec_vhTgtWrite h w, writeVhTgt_present (s := s.idleRestart) hm hc]
  case vhAbove =>
    refine ⟨_, exec_vhTgtWrite h w, ?_⟩
    rw [writeVhTgt_above (s := s.idleRestart) hm]
    exact ⟨rd_wr_of_lt _ (by decide), only_wr (only_refl _ _) (by simp)⟩
  case vhCtl =>
    refine ⟨_, exec_vhCtlWrite h w, ?_⟩
    rw [writeVhCtl_taken (s := s.idleRestart) hb]
    exact ⟨rd_wr_of_lt _ ⟨field_lt w 0 1, by decide⟩, only_wr (only_refl _ _) (by simp)⟩
  case vhHeld =>
    refine ⟨_, exec_vhCtlWrite h w, ?_⟩
    rw [writeVhCtl_held (s := s.idleRestart) hb he]
    exact ⟨rd_wr_of_lt _ (by decide), only_wr (only_refl _ _) (by simp)⟩
  case floor => exact ⟨_, exec_vinFloorWrite h w, levelWrite_stored _ hlo hhi (decide_eq_true ho) (field_lt w 0 8) (by decide)⟩
  case crit => exact ⟨_, exec_vinCritWrite h w, levelWrite_stored _ hlo hhi (decide_eq_true ho) (field_lt w 0 8) (by decide)⟩
  case ceil => exact ⟨_, exec_vmCeilWrite h w, levelWrite_stored _ hlo hhi (decide_eq_true ho) (field_lt w 0 8) (by decide)⟩
  case dump => exact ⟨_, exec_vmDumpWrite h w, levelWrite_stored _ hlo hhi (decide_eq_true ho) (field_lt w 0 8) (by decide)⟩
  case floorRefused => exact ⟨_, exec_vinFloorWrite h w, levelWrite_refused s _ (by simpa using ho)⟩
  case critRefused => exact ⟨_, exec_vinCritWrite h w, levelWrite_refused s _ (by simpa using ho)⟩
  case ceilRefused => exact ⟨_, exec_vmCeilWrite h w, levelWrite_refused s _ (by simpa using ho)⟩
  case dumpRefused => exact ⟨_, exec_vmDumpWrite h w, levelWrite_refused s _ (by simpa using ho)⟩

end Sys2Proof.Machine
end

section
/-! PROOFS. The registers of the modes, the wake sources, and what each of them does in each mode. -/

namespace Sys2Proof.Machine

/-! ### The registers of the modes (R130) -/

theorem exec_modeAllowWrite {s : State} (h : Safety.takes s .core) (w : Word) :
    exec (.modeAllowWrite w) s = .next (s.idleRestart.writeModeAllow w) :=
  congrArg Host.Outcome.next (hostReg_takes h fun s => s.writeModeAllow w)

theorem exec_idleHoldWrite {s : State} (h : Safety.takes s .core) (w : Word) :
    exec (.idleHoldWrite w) s = .next (s.idleRestart.writeIdleHold w) :=
  congrArg Host.Outcome.next (hostReg_takes h fun s => s.writeIdleHold w)

theorem writeModeAllow_fields (s : State) (w : Word) :
    (s.writeModeAllow w).rd CORE.MODE_ALLOW_TALLY = field w 0 1 ∧ (s.writeModeAllow w).rd CORE.MODE_ALLOW_CLEARED = field w 1 1 := by
  rw [State.writeModeAllow, rd_idleRestart, rd_idleRestart]
  exact ⟨(State.rd_wr_apart _ _ _ _ (by decide)).trans (rd_wr_of_lt s ⟨field_lt w 0 1, by decide⟩),
    rd_wr_of_lt _ ⟨field_lt w 1 1, by decide⟩⟩

theorem writeIdleHold_fields (s : State) (w : Word) :
    (s.writeIdleHold w).rd CORE.IDLE_HOLD_TALLY_MS = field w 0 16 ∧ (s.writeIdleHold w).rd CORE.IDLE_HOLD_CLEARED_S = field w 16 16 := by
  rw [State.writeIdleHold, rd_idleRestart, rd_idleRestart]
  exact ⟨(State.rd_wr_apart _ _ _ _ (by decide)).trans (rd_wr_of_lt s ⟨field_lt w 0 16, by decide⟩),
    rd_wr_of_lt _ ⟨field_lt w 16 16, by decide⟩⟩

theorem only_idleRestart {ws : List Fld} {s t : State} (h : Safety.only ws s t) : Safety.only ws s.idleRestart t.idleRestart := by
  refine ⟨?_, h.2⟩
  rw [State.idleRestart, State.idleRestart, State.setWake, State.setWake, h.1]

/-! ### What a wake source does (R126, R128) -/

/-- The code of the wake source is recorded. -/
def State.wakeRecorded (s : State) (code : Nat) : State := s.wr CORE.MODE_WAKE_SRC code

theorem only_wakeRecorded {ws : List Fld} (s : State) (code : Nat) (h : CORE.MODE_WAKE_SRC ∈ ws) :
    Safety.only ws s (s.wakeRecorded code) := only_wr (only_refl _ s) h

theorem rd_wakeRecorded (s : State) {code : Nat} (h : code < 16) : (s.wakeRecorded code).rd CORE.MODE_WAKE_SRC = code :=
  rd_wr_of_lt s ⟨h, by decide⟩

theorem pending_rodVec_wakeRecorded (s : State) (code : Nat) (r : Rod) :
    ((s.wakeRecorded code).rodVec r).rd VEC.PENDING_PENDING = (s.rodVec r).rd VEC.PENDING_PENDING :=
  pending_vec_congr _ _ _ (State.rd_wr_apart _ _ _ _ (by decide)) (State.rd_wr_apart _ _ _ _ (by decide)) rfl

section
variable {s : State} (c : Nat) (b : Bool)

theorem wakeBy_awake (h : s.base = .run ∨ s.base = .held) : s.wakeBy c b = (s.wakeRecorded c).rodVec .core := by
  rcases h with h | h <;> simp only [State.wakeBy, State.wakeRecorded, State.wr_base, h]

theorem wakeBy_tally (h : s.base = .tally) (he : s.wake.entering = false) :
    s.wakeBy c b = (s.setWake fun w => { w with waking := true }).wakeRecorded c := by
  simp only [State.wakeBy, State.wr_base, h, State.wr_wake, he, Bool.false_eq_true, if_false]
  rfl

theorem wakeBy_entering (h : s.base = .tally) (he : s.wake.entering = true) : s.wakeBy c b = (s.wakeRecorded c).exitTally := by
  simp only [State.wakeBy, State.wakeRecorded, State.wr_base, h, State.wr_wake, he, if_true]

theorem wakeBy_cleared (h : s.base = .cleared) : s.wakeBy c b = (s.wakeRecorded c).deviceReset kindWake b := by
  simp only [State.wakeBy, State.wakeRecorded, State.wr_base, h]

end

/-! ### When a wake source fires (R126, R161) -/

/-- WAKEk reads the level that it went to. -/
theorem levels_pinLevel (s : State) (k : Nat) (l : Bool) : (s.pinLevel k l).wake.levels.testBit k = l := by
  have hset (n : Nat) : (n ||| 2 ^ k).testBit k = true := by simp
  cases l
  case false => exact testBit_sub_self s.wake.levels k
  case true => exact hset s.wake.levels

section
variable {s : State} (b : Bool) (hr : s.inReset = false)
include hr

theorem exec_wakePin {k : Fin 4} {l : Bool} (hb : s.bank 0 = true) (he : s.rdBit CORE.WAKE_CFG_PIN_EN k = true)
    (hp : s.rdBit CORE.WAKE_CFG_PIN_POL k = l) (hl : s.wake.levels.testBit k = !l) :
    exec (.wakePin k l b) s = .next ((s.pinLevel k l).wakeBy (k + 1) b) := by
  have hchange : (s.wake.levels.testBit k != l) = true := by simp [hl]
  have hreset : (s.pinLevel k l).inReset = false := hr
  have henabled : (s.pinLevel k l).wakeEnabled (.pin k) = true := (Bool.and_eq_true _ _).mpr ⟨hb, he⟩
  have hpolarity : (s.pinLevel k l).rdBit CORE.WAKE_CFG_PIN_POL k = l := hp
  have hactive : (s.pinLevel k l).pinActive k = true := by rw [State.pinActive, levels_pinLevel, hpolarity, beq_self_eq_true]
  change execWakePin k l b s = _
  simp only [execWakePin, hchange, hreset, henabled, hactive, Bool.not_false, Bool.and_self, if_true]

theorem exec_wakeTimer (ha : s.awake = false) (he : s.rd CORE.WAKE_CFG_TIMER_EN = 1) (hc : s.rd CORE.WAKE_TIMER_COUNT ≠ 0) :
    exec (.wakeTimer b) s = .next (s.wakeBy 5 b) := by
  change execWakeTimer b s = _
  simp [execWakeTimer, State.wakeEnabled, hr, ha, flag_of_rd_one he, hc]

theorem exec_vinComparator (he : s.rd CORE.WAKE_CFG_VIN_EN = 1) : exec (.vinComparator b) s = .next (s.wakeBy 6 b) := by
  change execVinComparator b s = _
  simp [execVinComparator, State.wakeEnabled, hr, flag_of_rd_one he]

theorem exec_hostWakePulse_enabled (hb : s.bank 0 = true) (he : s.rd CORE.WAKE_CFG_HOST_EN = 1) :
    exec (.hostWakePulse b) s = .next (s.wakeBy 7 b) := by
  change execHostWakePulse b s = _
  simp [execHostWakePulse, State.wakeEnabled, hr, hb, flag_of_rd_one he]

/-- The fall of HL_CS_N alone ends an entry into TALLY. -/
theorem exec_hostWakePulse_disabled (hb : s.bank 0 = true) (he : s.rd CORE.WAKE_CFG_HOST_EN = 0) :
    exec (.hostWakePulse b) s = .next (if (s.base == .tally && s.wake.entering) = true then s.exitTally else s) := by
  change execHostWakePulse b s = _
  simp [execHostWakePulse, State.wakeEnabled, State.csFall, hr, hb, flag_of_rd_zero he]

end

/-! ### The statement -/

/-- Settles O14: the writes by the fields that they store, a wake source by the equation of the mode that it meets, and each source's
event by what makes it fire. -/
theorem modesAndWakes : Obligations.ModesAndWakes := by
  refine ⟨⟨fun w s h => ?allow, fun w s h => ?hold⟩,
    fun s c b hc => ⟨fun h => ?awake, fun h he => ?tally, fun h he => ?entering, fun h => ?cleared⟩, fun k l b s hr hb he hp hl => ?pin,
    fun b s hr ha he hn => exec_wakeTimer b hr ha he hn, fun b s hr he => exec_vinComparator b hr he,
    fun b s hr hb he => exec_hostWakePulse_enabled b hr hb he, fun b s hr hb he => exec_hostWakePulse_disabled b hr hb he⟩
  case allow =>
    obtain ⟨htally, hcleared⟩ := writeModeAllow_fields s.idleRestart w
    exact ⟨_, exec_modeAllowWrite h w, htally, hcleared,
      only_idleRestart (s := s.idleRestart) (only_wr (only_wr (only_refl _ _) (by simp)) (by simp))⟩
  case hold =>
    obtain ⟨htally, hcleared⟩ := writeIdleHold_fields s.idleRestart w
    exact ⟨_, exec_idleHoldWrite h w, htally, hcleared,
      only_idleRestart (s := s.idleRestart) (only_wr (only_wr (only_refl _ _) (by simp)) (by simp))⟩
  case awake =>
    rw [wakeBy_awake c b h]
    exact ⟨(rd_vec _ _ _ (by decide)).trans (rd_wakeRecorded s hc), pending_rodVec_wakeRecorded s c .core,
      only_rodVec (only_wakeRecorded s c (by simp)) (by simp)⟩
  case tally =>
    rw [wakeBy_tally c b h he]
    exact ⟨rd_wakeRecorded _ hc, only_wakeRecorded _ c (by simp)⟩
  case entering => exact ⟨_, wakeBy_entering c b h he, rd_wakeRecorded s hc, only_wakeRecorded s c (by simp)⟩
  case cleared => exact ⟨_, wakeBy_cleared c b h, rd_wakeRecorded s hc, only_wakeRecorded s c (by simp)⟩
  case pin => exact ⟨_, exec_wakePin b hr hb he hp hl, levels_pinLevel s k l, rfl⟩

end Sys2Proof.Machine
end

section
/-! PROOFS. The entry into TALLY and CLEARED, and the return from TALLY. -/

namespace Sys2Proof.Machine

/-! ### What the entry into TALLY leaves alone -/

/-- The memories, OTP, the wakes, the commands with their queues, and the faults: what TALLY's entry does not touch on its way. -/
def State.keptView (s : State) := (s.sram, s.keep, s.flash, s.otp, s.wake, s.cmds, s.queues, s.faults, s.clock)

theorem keptView_vhStop (s : State) : s.vhStop.keptView = s.keptView := by
  unfold State.vhStop
  split
  · simp [State.keptView, State.vhSwitch]
  · rfl

theorem rd_vhStop (s : State) : s.vhStop.rd SUPPLY.VH_STAT_ON = 0 := by
  unfold State.vhStop
  split
  next =>
    rw [State.setPrint_rd, rd_vhSwitch_apart _ _ _ (by decide), State.rd_wr_apart _ _ _ _ (by decide),
      rd_wr_of_lt _ (by decide)]
  next h => simpa [State.flag] using h

/-- With FEED's loops off, the registers below LOOP's block read as before. -/
theorem loopWork_feedLoopsOff (s : State) : LoopWork s s.feedLoopsOff := by
  have hcurrent (t : State) : LoopWork t (t.setFeed fun f => { f with current := 0, corrUm := 0, windA := 0, windB := 0 }) :=
    ⟨rfl, rfl, fun _ _ => rfl⟩
  have hspeed := (loopWork_loopOff s s.speedLoop).trans (hcurrent _)
  unfold State.feedLoopsOff
  extract_lets t
  split
  · exact hspeed.trans (loopWork_loopOff t _)
  · exact hspeed

theorem only_setSpeed (s : State) (um : Int) :
    Safety.only [FEED.SPEED_SET, FEED.SPEED_MEAS] (s.setFeed fun f => { f with setUm := um }) (s.setSpeed um) :=
  only_ite (only_wrI (only_wrI (only_refl _ _) (by simp)) (by simp)) (only_wrI (only_refl _ _) (by simp))

/-- Every bridge is high-impedance, before FEED shows so. -/
theorem only_bridgesZ (s : State) : Safety.only [FEED.STAT_STATE, CORE.HELD_STAT_BRAKE] s.bridgesFree s.bridgesZ :=
  only_wr (only_ite (only_wr (only_refl _ _) (by simp)) (only_refl _ _)) (by simp)

/-- FEED has stopped with its bridges high-impedance. -/
def State.feedReleased (s : State) : State := (s.feedLoopsOff.setSpeed 0).bridgesZ

theorem only_tallyBridges (s : State) : Safety.only [FEED.STAT_STATE, SUPPLY.VM_DUMP_DUMP_ON] s.feedReleased s.tallyBridges :=
  only_wr (only_ite (only_wr (only_refl _ _) (by simp)) (only_refl _ _)) (by simp)

theorem keptView_setFeed (s : State) (f : Feed → Feed) : (s.setFeed f).keptView = s.keptView := rfl

theorem keptView_bridgesFree (s : State) : s.bridgesFree.keptView = s.keptView := rfl

theorem rd_bridgesFree (s : State) (f : Fld) : s.bridgesFree.rd f = s.rd f := rfl

theorem keptView_loopWork {s t : State} (h : LoopWork s t) : t.keptView = s.keptView := by rw [h.rest]; rfl

theorem keptView_tallyBridges (s : State) : s.tallyBridges.keptView = s.keptView :=
  calc s.tallyBridges.keptView
    _ = s.feedReleased.keptView := only_same (only_tallyBridges s) State.keptView fun _ _ => rfl
    _ = (s.feedLoopsOff.setSpeed 0).keptView := (only_same (only_bridgesZ _) State.keptView fun _ _ => rfl).trans (keptView_bridgesFree _)
    _ = s.feedLoopsOff.keptView := (only_same (only_setSpeed _ 0) State.keptView fun _ _ => rfl).trans (keptView_setFeed _ _)
    _ = s.keptView := keptView_loopWork (loopWork_feedLoopsOff s)

theorem bridgesZ_hb (s : State) : s.bridgesZ.feed.hb = [.z, .z, .z, .z] ∧ s.bridgesZ.cut.hb = [.z, .z] :=
  ⟨only_same (only_bridgesZ s) (fun x => x.feed.hb) fun _ _ => rfl, only_same (only_bridgesZ s) (fun x => x.cut.hb) fun _ _ => rfl⟩

theorem tallyBridges_hb (s : State) : s.tallyBridges.feed.hb = [.z, .z, .z, .z] ∧ s.tallyBridges.cut.hb = [.z, .z] := by
  obtain ⟨hfeed, hcut⟩ := bridgesZ_hb (s.feedLoopsOff.setSpeed 0)
  exact ⟨(only_same (only_tallyBridges s) (fun x => x.feed.hb) fun _ _ => rfl).trans hfeed,
    (only_same (only_tallyBridges s) (fun x => x.cut.hb) fun _ _ => rfl).trans hcut⟩

theorem rd_tallyBridges (s : State) : s.tallyBridges.rd SUPPLY.VH_STAT_ON = s.rd SUPPLY.VH_STAT_ON ∧
    s.tallyBridges.rd SUPPLY.VM_DUMP_DUMP_ON = 0 := by
  refine ⟨?_, rd_wr_of_lt _ (by decide)⟩
  calc s.tallyBridges.rd SUPPLY.VH_STAT_ON
    _ = s.feedReleased.rd SUPPLY.VH_STAT_ON := (only_tallyBridges s).2.1 _ (by decide)
    _ = (s.feedLoopsOff.setSpeed 0).rd SUPPLY.VH_STAT_ON := ((only_bridgesZ _).2.1 _ (by decide)).trans (rd_bridgesFree _ _)
    _ = s.feedLoopsOff.rd SUPPLY.VH_STAT_ON := ((only_setSpeed _ 0).2.1 _ (by decide)).trans (State.setFeed_rd _)
    _ = s.rd SUPPLY.VH_STAT_ON := (loopWork_feedLoopsOff s).rd _ (by decide)

/-! ### The clocks of TALLY (R125) -/

/-- The fields of the clocks that TALLY stops. -/
abbrev tallyClocks : List Fld := [CORE.CLK_STAT_HFXO_OK, CORE.CLK_STAT_FRC_ON, CORE.CLK_STAT_PLLS_LOCK, CORE.CLK_STAT_PLLS_FALLBACK,
  CORE.CLK_STAT_PLLV_LOCK, CORE.CLK_STAT_PLLV_FALLBACK]

theorem only_clocksOff (s : State) :
    Safety.only tallyClocks (s.setClk fun c => { c with hfxoStart := false, pllvRelock := false }) s.clocksOff :=
  only_setClk (fun c => { c with hfxoStart := false, pllvRelock := false })
    (only_wr (only_wr (only_wr (only_wr (only_wr (only_wr (only_refl tallyClocks s) (by simp)) (by simp)) (by simp)) (by simp)) (by simp)) (by simp))

theorem keptView_clocksOff (s : State) : s.clocksOff.keptView = s.keptView := only_same (only_clocksOff s) State.keptView fun _ _ => rfl

theorem clocksOff_bridges (s : State) : s.clocksOff.feed = s.feed ∧ s.clocksOff.cut = s.cut :=
  ⟨only_same (only_clocksOff s) State.feed fun _ _ => rfl, only_same (only_clocksOff s) State.cut fun _ _ => rfl⟩

theorem clocksOff_fields (s : State) :
    s.clocksOff.rd CORE.CLK_STAT_HFXO_OK = 0 ∧ s.clocksOff.rd CORE.CLK_STAT_FRC_ON = 0 ∧ s.clocksOff.rd CORE.CLK_STAT_PLLS_LOCK = 0 ∧
      s.clocksOff.rd CORE.CLK_STAT_PLLV_LOCK = 0 := by
  simp (disch := decide) only [State.clocksOff, State.setClk_rd, State.rd_wr_apart, rd_wr_of_lt, and_self]

theorem rd_clocksOff (s : State) {f : Fld} (h : ∀ g ∈ tallyClocks, g.apart f = true) : s.clocksOff.rd f = s.rd f :=
  ((only_clocksOff s).2.1 f h).trans (State.setClk_rd f)

/-! ### The entry into TALLY (R123 to R125) -/

/-- A change of PRINT's readiness changes its bit, its vector, and the mark of its reset. -/
theorem updateReady_print_frame (s : State) :
    let x := s.updateReady .print
    x = { s with regs := x.regs, boot := x.boot } ∧ Safety.regsBut [CORE.ROD_READY_READY, VEC.PENDING_PENDING] s x := by
  intro x
  by_cases h : s.ready .print = (s.ownReady .print && s.supplied .print)
  case pos =>
    have hx : x = s := updateReady_of_eq h
    rw [hx]
    exact ⟨rfl, fun _ _ => rfl⟩
  case neg =>
    have honly (now : Bool) := only_readyNow s .print now
    cases hn : s.ownReady .print && s.supplied .print
    case false =>
      have hx : x = s.readyNow .print false := updateReady_loss h hn
      rw [hx, (honly false).1]
      exact ⟨rfl, (honly false).2.1⟩
    case true =>
      have hx : x = (s.readyNow .print true).markReset .print false := updateReady_gain h hn
      rw [hx, State.markReset, (honly true).1]
      exact ⟨rfl, (honly true).2.1⟩

/-- The rails, the bridges and the clocks are off. -/
def State.stopped (s : State) : State := s.vhStop.tallyBridges.clocksOff

theorem stopped_fields (s : State) :
    s.stopped.rd CORE.CLK_STAT_HFXO_OK = 0 ∧ s.stopped.rd CORE.CLK_STAT_FRC_ON = 0 ∧ s.stopped.rd CORE.CLK_STAT_PLLS_LOCK = 0 ∧
      s.stopped.rd CORE.CLK_STAT_PLLV_LOCK = 0 ∧ s.stopped.rd SUPPLY.VH_STAT_ON = 0 ∧ s.stopped.rd SUPPLY.VM_DUMP_DUMP_ON = 0 := by
  obtain ⟨hhfxo, hfrc, hplls, hpllv⟩ := clocksOff_fields s.vhStop.tallyBridges
  obtain ⟨hvh, hdump⟩ := rd_tallyBridges s.vhStop
  refine ⟨hhfxo, hfrc, hplls, hpllv, ?_, ?_⟩
  · rw [State.stopped, rd_clocksOff _ (by decide), hvh, rd_vhStop]
  · rw [State.stopped, rd_clocksOff _ (by decide), hdump]

theorem keptView_stopped (s : State) : s.stopped.keptView = s.keptView := by
  rw [State.stopped, keptView_clocksOff, keptView_tallyBridges, keptView_vhStop]

theorem stopped_hb (s : State) : s.stopped.feed.hb = [.z, .z, .z, .z] ∧ s.stopped.cut.hb = [.z, .z] := by
  obtain ⟨hfeed, hcut⟩ := clocksOff_bridges s.vhStop.tallyBridges
  rw [State.stopped, hfeed, hcut]
  exact tallyBridges_hb s.vhStop

/-- The wakes at the entry into TALLY at the time `now`. -/
def Wake.entered (w : Wake) (now : Nat) : Wake := { w with waking := false, entering := true, faults := [], tallySince := now }

/-- TALLY is being entered, before PRINT's readiness follows. -/
def State.tallyBegun (s : State) : State :=
  ({ s with base := .tally, bg := { s.bg with bursts := 0 }, therm := { s.therm with mon := false } } : State).setWake fun w =>
    w.entered s.clock

theorem rd_tallyBegun (s : State) (f : Fld) : s.tallyBegun.rd f = s.rd f := rfl

theorem tallyBegun_same (s : State) :
    s.tallyBegun.base = .tally ∧ s.tallyBegun.wake = s.wake.entered s.clock ∧ s.tallyBegun.feed = s.feed ∧ s.tallyBegun.cut = s.cut :=
  ⟨rfl, rfl, rfl, rfl⟩

/-- The memories, OTP, the commands with their queues, and the faults. -/
def State.heldView (s : State) := (s.sram, s.keep, s.flash, s.otp, s.cmds, s.queues, s.faults)

theorem heldView_tallyBegun (s : State) : s.tallyBegun.heldView = s.heldView := rfl

/-- TALLY has been entered. -/
def State.tallyEntered (s : State) : State := s.stopped.tallyBegun.updateReady .print

/-- The entry into TALLY from the stopped state `a`, as the model writes it. -/
theorem tallyBegun_next {a x : State} (hx : a.tallyBegun.updateReady .print = x) :
    (let s : State := { a with base := .tally, bg := { a.bg with bursts := 0 }, therm := { a.therm with mon := false } }
     let s := (s.setWake fun w => { w with waking := false, entering := true, faults := [], tallySince := s.clock }).updateReady .print
     (.next (match s.levelWake with
      | some k => s.wakeBy (k + 1) false
      | none => s) : Host.Outcome State Fault Refusal)) =
    .next (match x.levelWake with
      | some k => x.wakeBy (k + 1) false
      | none => x) := by
  subst hx
  rfl

theorem exec_enterTally {s : State} (ha : s.rd CORE.MODE_ALLOW_TALLY = 1) (hi : s.idle = true) : exec .enterTally s =
    .next (match s.tallyEntered.levelWake with
      | some k => s.tallyEntered.wakeBy (k + 1) false
      | none => s.tallyEntered) := by
  have hdue : (s.flag CORE.MODE_ALLOW_TALLY && s.idle) = true := by simp [flag_of_rd_one ha, hi]
  change execEnterTally s = _
  rw [execEnterTally, if_pos hdue]
  exact tallyBegun_next rfl

theorem tallyEntered_fields (s : State) :
    let x := s.tallyEntered
    x.rd CORE.CLK_STAT_HFXO_OK = 0 ∧ x.rd CORE.CLK_STAT_FRC_ON = 0 ∧ x.rd CORE.CLK_STAT_PLLS_LOCK = 0 ∧
      x.rd CORE.CLK_STAT_PLLV_LOCK = 0 ∧ x.rd SUPPLY.VH_STAT_ON = 0 ∧ x.rd SUPPLY.VM_DUMP_DUMP_ON = 0 := by
  have hready {f : Fld} (hf : ∀ g ∈ [CORE.ROD_READY_READY, VEC.PENDING_PENDING], g.apart f = true) :
      s.tallyEntered.rd f = s.stopped.rd f := by
    rw [State.tallyEntered, (updateReady_print_frame s.stopped.tallyBegun).2 f hf, rd_tallyBegun]
  intro x
  rw [hready (by decide), hready (by decide), hready (by decide), hready (by decide), hready (by decide), hready (by decide)]
  exact stopped_fields s

/-- What is no register and no readiness is in TALLY what its entry begins with. -/
theorem tallyEntered_same (s : State) {α : Type} (f : State → α)
    (hf : ∀ (x : State) (r : Store Word) (b : Boot), f { x with regs := r, boot := b } = f x) :
    f s.tallyEntered = f s.stopped.tallyBegun := by
  rw [State.tallyEntered, (updateReady_print_frame s.stopped.tallyBegun).1]
  exact hf _ _ _

theorem stopped_wake (s : State) : s.stopped.wake = s.wake ∧ s.stopped.clock = s.clock := by
  have hkept := keptView_stopped s
  simp only [State.keptView, Prod.mk.injEq] at hkept
  obtain ⟨-, -, -, -, hwake, -, -, -, hclock⟩ := hkept
  exact ⟨hwake, hclock⟩

theorem heldView_tallyEntered (s : State) : s.tallyEntered.heldView = s.heldView := by
  have hkept := keptView_stopped s
  simp only [State.keptView, Prod.mk.injEq] at hkept
  rw [tallyEntered_same s State.heldView fun _ _ _ => rfl, heldView_tallyBegun]
  simp only [State.heldView, hkept]

theorem sameBytes_of_heldView {s t : State} (h : t.heldView = s.heldView) : Safety.sameBytes s t := by
  simp only [State.heldView, Prod.mk.injEq] at h
  obtain ⟨hsram, hkeep, hflash, -⟩ := h
  exact ⟨fun m a => byte_congr hsram hkeep, fun a => by simp only [State.flashBytes, hflash]⟩

/-- What TALLY's entry shows beside its registers: the mode, the wakes and the bridges. -/
theorem tallyEntered_spec (s : State) :
    s.tallyEntered.base = .tally ∧ s.tallyEntered.wake = s.wake.entered s.clock ∧
      s.tallyEntered.feed.hb = [.z, .z, .z, .z] ∧ s.tallyEntered.cut.hb = [.z, .z] := by
  obtain ⟨hbase, hwake, hfeed, hcut⟩ := tallyBegun_same s.stopped
  obtain ⟨hwake', hclock⟩ := stopped_wake s
  obtain ⟨hfeed', hcut'⟩ := stopped_hb s
  refine ⟨?_, ?_, ?_, ?_⟩
  · rw [tallyEntered_same s State.base fun _ _ _ => rfl, hbase]
  · rw [tallyEntered_same s State.wake fun _ _ _ => rfl, hwake, hwake', hclock]
  · rw [tallyEntered_same s State.feed fun _ _ _ => rfl, hfeed, hfeed']
  · rw [tallyEntered_same s State.cut fun _ _ _ => rfl, hcut, hcut']

/-! ### The entry into CLEARED (R30, R123) -/

/-- CLEARED has been entered, and main SRAM is lost. -/
def State.clearedEntered (s : State) : State :=
  { s with base := .cleared, sram := [], sramUe := [], sramCe := [], wake := { s.wake with entering := false } }

theorem exec_enterCleared {s : State} (b : Bool) (hr : s.inReset = false) (hb : s.base = .tally) (hw : s.wake.waking = false)
    (ht : s.rd CORE.MODE_ALLOW_TALLY = 1) (hc : s.rd CORE.MODE_ALLOW_CLEARED = 1) : exec (.enterCleared b) s =
    .next (match s.clearedEntered.levelWake with
      | some k => s.clearedEntered.wakeBy (k + 1) b
      | none => s.clearedEntered) := by
  have hdue : (!s.inReset && s.base == .tally && !s.wake.waking && s.flag CORE.MODE_ALLOW_TALLY &&
      s.flag CORE.MODE_ALLOW_CLEARED) = true := by
    simp [hr, hb, hw, flag_of_rd_one ht, flag_of_rd_one hc]
  exact if_pos hdue

/-! ### The return from TALLY (R101, R128) -/

theorem exec_tallyExitDone {s : State} (hr : s.inReset = false) (hb : s.base = .tally) (hw : s.wake.waking = true) :
    exec .tallyExitDone s = .next s.exitTally := if_pos (by simp [hr, hb, hw])

/-- The mode is RECKON, no wake is under way, and a calibration of the FRC is due where `due` says so. -/
def State.toReckon (s : State) (due : Bool) : State :=
  { s with base := .run, bg := { s.bg with frcDue := due }, wake := { s.wake with waking := false, entering := false, faults := [] } }

theorem only_toReckon {ws : List Fld} {s t : State} (due : Bool) (h : Safety.only ws s t) :
    Safety.only ws (s.toReckon due) (t.toReckon due) := by
  refine ⟨?_, h.2⟩
  rw [State.toReckon, State.toReckon, h.1]

/-- The device is in RECKON again, before the faults met in TALLY are raised. -/
def State.returned (s : State) : State :=
  ((((s.clocksOn.toReckon (s.clocksOn.bg.frcDue || s.clocksOn.flag CORE.CLK_STAT_HFXO_OK)).wr CORE.MODE_WOKE 1).rodVec
    .core).hbRestart).idleRestart

theorem toReckon_eq (s : State) :
    ({ s.frcCalDue.setWake (fun w => { w with waking := false, entering := false, faults := [] }) with base := .run } : State) =
      s.toReckon (s.bg.frcDue || s.flag CORE.CLK_STAT_HFXO_OK) := by
  rw [State.setWake, State.frcCalDue, State.toReckon]

theorem exitTally_eq (s : State) : s.exitTally =
    ((s.wake.faults.insertionSort fun a b => a.1 ≤ b.1).foldl (fun u f => u.raise f.1 f.2.1 f.2.2) s.returned).settle := by
  simp only [State.exitTally, toReckon_eq, State.returned]

/-- The fields that the return writes. -/
abbrev returnFlds : List Fld := [CORE.MODE_WOKE, CORE.CLK_STAT_FRC_ON, CORE.CLK_STAT_HFXO_OK, CORE.CLK_STAT_PLLS_LOCK,
  CORE.CLK_STAT_PLLS_FALLBACK, VEC.PENDING_PENDING]

theorem only_clocksOn (s : State) : Safety.only returnFlds { s with clk := s.clocksOn.clk } s.clocksOn := by
  unfold State.clocksOn
  extract_lets t
  have hon : Safety.only returnFlds { s with clk := t.clk } t := only_wr (only_refl _ s) (by simp)
  split
  · exact clkOnly_wr (clkOnly_wr (clkOnly_setPll _ hon) (by simp)) (by simp)
  · split
    · exact clkOnly_wr (clkOnly_wr hon (by simp)) (by simp)
    · exact clkOnly_wr (clkOnly_wr hon (by simp)) (by simp)

theorem rd_clocksOn (s : State) : s.clocksOn.rd CORE.CLK_STAT_FRC_ON = 1 := by
  have hon : (s.wr CORE.CLK_STAT_FRC_ON 1).rd CORE.CLK_STAT_FRC_ON = 1 := rd_wr_of_lt s (by decide)
  unfold State.clocksOn
  extract_lets t
  split
  · rw [relock_eq, rd_pllsGated _ (by decide) (by decide)]
    exact hon
  · split
    · rw [State.rd_wr_apart _ _ _ _ (by decide), State.rd_wr_apart _ _ _ _ (by decide), hon]
    · rw [State.rd_wr_apart _ _ _ _ (by decide), State.rd_wr_apart _ _ _ _ (by decide), hon]

/-- In RECKON again with the clocks `c`, the heartbeat's and the idle count restarted. -/
def State.reckonBegun (s : State) (c : Clk) (due : Bool) : State := (({ s with clk := c } : State).toReckon due).hbRestart.idleRestart

theorem returned_spec (s : State) : ∃ due, Safety.only returnFlds (s.reckonBegun s.clocksOn.clk due) s.returned :=
  ⟨_, only_idleRestart (only_hbRestart (only_rodVec (only_wr (only_toReckon _ (only_clocksOn s)) (by simp)) (by simp)))⟩

theorem returned_fields (s : State) : s.returned.rd CORE.MODE_WOKE = 1 ∧ s.returned.rd CORE.CLK_STAT_FRC_ON = 1 := by
  have hon (due : Bool) : (s.clocksOn.toReckon due).rd CORE.CLK_STAT_FRC_ON = 1 := rd_clocksOn s
  rw [State.returned, rd_idleRestart, rd_idleRestart, rd_hbRestart, rd_hbRestart, State.rodVec, rd_vec _ _ _ (by decide),
    rd_vec _ _ CORE.CLK_STAT_FRC_ON (by decide), State.rd_wr_apart _ _ CORE.CLK_STAT_FRC_ON _ (by decide)]
  exact ⟨rd_wr_of_lt _ (by decide), hon _⟩

/-! ### The statement -/

/-- Settles O15: TALLY's entry by its stages, CLEARED's by what it loses, and the return by what it leaves before the faults are raised. -/
theorem deeperModes : Obligations.DeeperModes := by
  refine ⟨fun s ha hi => ?tally, fun b s hr hb hw ht hc => exec_enterCleared b hr hb hw ht hc, fun s => ?back,
    fun s hr hb hw => exec_tallyExitDone hr hb hw⟩
  case tally =>
    obtain ⟨hhfxo, hfrc, hplls, hpllv, hvh, hdump⟩ := tallyEntered_fields s
    obtain ⟨hbase, hwake, hfeed, hcut⟩ := tallyEntered_spec s
    have hbytes := sameBytes_of_heldView (heldView_tallyEntered s)
    have hheld := heldView_tallyEntered s
    simp only [State.heldView, Prod.mk.injEq] at hheld
    obtain ⟨-, -, -, hotp, hcmds, hqueues, hfaults⟩ := hheld
    exact ⟨s.tallyEntered, exec_enterTally ha hi, hbase, hhfxo, hfrc, hplls, hpllv, hvh, hdump, hfeed, hcut, hwake, hotp, hcmds,
      hfaults, hqueues, hbytes⟩
  case back =>
    obtain ⟨due, honly⟩ := returned_spec s
    obtain ⟨hwoke, hfrc⟩ := returned_fields s
    have hbase : s.returned.base = .run := only_same honly State.base fun _ _ => rfl
    have hclk : s.returned.clk = { s.clocksOn.clk with hbSince := s.clock } := only_same honly State.clk fun _ _ => rfl
    have hwake : s.returned.wake = { s.wake with waking := false, entering := false, faults := [], idleSince := s.clock } :=
      only_same honly State.wake fun _ _ => rfl
    have hdue : s.returned.bg.frcDue = due := only_same honly (fun x => x.bg.frcDue) fun _ _ => rfl
    refine ⟨s.returned, exitTally_eq s, hbase, hwoke, hfrc, congrArg Clk.hbSince hclk, hwake, ?_⟩
    rw [hbase, hclk, hwake, hdue]
    exact honly

end Sys2Proof.Machine
end

section
/-! PROOFS. The rails of SUPPLY: what an event finds before it, how VCORE and VH settle, and the discharge of VH. -/

namespace Sys2Proof.Machine

/-! ### Frames of what is no register, and events seen from an earlier state -/

section
variable {w : List Fld} {s t : State}

theorem only_setSup (f : Supply → Supply) (h : Safety.only w s t) : Safety.only w (s.setSup f) (t.setSup f) := by
  refine ⟨?_, h.2⟩
  rw [State.setSup, State.setSup, h.1]

theorem only_setPrint (f : Print → Print) (h : Safety.only w s t) : Safety.only w (s.setPrint f) (t.setPrint f) := by
  refine ⟨?_, h.2⟩
  rw [State.setPrint, State.setPrint, h.1]

theorem only_count (k : Nat) (q : Rat) (h : Safety.only w s t) : Safety.only w (s.count k q) (t.count k q) := by
  refine ⟨?_, h.2⟩
  rw [State.count, State.count, h.1]

/-- An event on a state `t` whose registers are those of `s` but for fields that the event does not concern. -/
theorem event_of_regsBut {f : Fld} {r : Rod} (h : Safety.regsBut w s t) (hq : t.part = s.part)
    (hf : ∀ g ∈ w, g.apart f = true ∧ g.apart VEC.PENDING_PENDING = true ∧ g.apart VEC.ENABLE_ENABLE = true)
    (hl : f.lo + f.wid ≤ 32 := by decide) (hw : 1 % 2 ^ f.wid = 1 := by decide)
    (ha : VEC.PENDING_PENDING.apart f = true := by decide) (hb : f.apart VEC.PENDING_PENDING = true := by decide)
    (hc : f.apart VEC.ENABLE_ENABLE = true := by decide) : Safety.event f r s (t.evt f r) :=
  event_evt (h _ fun g hg => (hf g hg).2.2) (h _ fun g hg => (hf g hg).2.1) hq (h _ fun g hg => (hf g hg).1) hl hw ha hb hc

end

/-- A counter that advances after the event changes nothing of it. -/
theorem event_bump {f g : Fld} {r : Rod} {s x : State} {n : Nat} (h : Safety.event f r s x) (hf : g.apart f = true)
    (hp : g.apart VEC.PENDING_PENDING = true) : Safety.event f r s (x.bump g n) := by
  unfold Safety.event State.flag at h ⊢
  rwa [rd_bump_apart _ _ _ _ hf, rd_bump_apart _ _ _ _ hp]

/-! ### Settling (R135, R138) -/

theorem only_setVcore {w : List Fld} {s t : State} (uv : Nat) (h : Safety.only w s t) (hf : SUPPLY.VCORE_STAT_RAMP ∈ w := by simp) :
    Safety.only w (s.setSup fun p => { p with vcoreUv := uv }) (t.setVcore uv) := only_wr (only_setSup _ h) hf

theorem only_setVh {w : List Fld} {s t : State} (uv : Nat) (h : Safety.only w s t) (hf : SUPPLY.VH_STAT_RAMP ∈ w := by simp) :
    Safety.only w (s.setSup fun p => { p with vhUv := uv }) (t.setVh uv) := only_wr (only_setSup _ h) hf

/-- VCORE stands at its target and is shown settled, measured as `mv`. -/
def State.vcoreHeld (s : State) (mv : Nat) : State :=
  (((s.setVcore s.vcoreGoal).setSup fun p => { p with softStart := false }).wr SUPPLY.VCORE_STAT_SETTLED 1).wr SUPPLY.VCORE_STAT_MEAS_MV mv

theorem only_vcoreHeld (s : State) (mv : Nat) :
    Safety.only [SUPPLY.VCORE_STAT_SETTLED, SUPPLY.VCORE_STAT_MEAS_MV, SUPPLY.VCORE_STAT_RAMP]
      { s with sup := { s.sup with vcoreUv := s.vcoreGoal, softStart := false } } (s.vcoreHeld mv) :=
  only_wr (only_wr (only_setSup (fun p => { p with softStart := false }) (only_setVcore _ (only_refl _ s))))

theorem vcoreHeld_fields (s : State) (mv : Nat) :
    (s.vcoreHeld mv).rd SUPPLY.VCORE_STAT_SETTLED = 1 ∧ (s.vcoreHeld mv).rd SUPPLY.VCORE_STAT_MEAS_MV = mv % 1024 :=
  ⟨(State.rd_wr_apart _ _ _ _ (by decide)).trans (rd_wr_of_lt _ (by decide)), State.rd_wr _ SUPPLY.VCORE_STAT_MEAS_MV mv⟩

theorem exec_vcoreSettled {s : State} (mv : BitVec 16) (ha : s.awake = true) (hs : s.rd SUPPLY.VCORE_STAT_SETTLED = 0) :
    exec (.vcoreSettled mv) s =
      .next ((s.vcoreHeld mv.toNat).evt SUPPLY.EVT_VCORE_SETTLED .supply).dvfsSettled.dvfsPending.settle :=
  if_pos (by simp [ha, flag_of_rd_zero hs])

/-- VH stands at its target and is shown settled, with no current limit. -/
def State.vhHeld (s : State) : State := ((s.setVh s.vhGoal).wr SUPPLY.VH_STAT_SETTLED 1).wr SUPPLY.VH_STAT_ILIM 0

theorem only_vhHeld (s : State) :
    Safety.only [SUPPLY.VH_STAT_SETTLED, SUPPLY.VH_STAT_ILIM, SUPPLY.VH_STAT_RAMP]
      { s with sup := { s.sup with vhUv := s.vhGoal } } s.vhHeld :=
  only_wr (only_wr (only_setVh _ (only_refl _ s)))

theorem vhHeld_fields (s : State) : s.vhHeld.rd SUPPLY.VH_STAT_SETTLED = 1 ∧ s.vhHeld.rd SUPPLY.VH_STAT_ILIM = 0 :=
  ⟨(State.rd_wr_apart _ _ _ _ (by decide)).trans (rd_wr_of_lt _ (by decide)), rd_wr_of_lt _ (by decide)⟩

theorem exec_vhSettled {s : State} (ha : s.awake = true) (ho : s.rd SUPPLY.VH_STAT_ON = 1) (hs : s.rd SUPPLY.VH_STAT_SETTLED = 0) :
    exec .vhSettled s =
      .next ((s.vhHeld.evt SUPPLY.EVT_VH_SETTLED .supply).setPrint fun p => { p with vhSettled := true }).settle :=
  if_pos (by simp [ha, flag_of_rd_one ho, flag_of_rd_zero hs])

/-! ### The discharge switch and the measurement (R137, R141, R308) -/

theorem exec_vhDischarged {s : State} (h : s.rd SUPPLY.VH_STAT_DISCHARGING = 1) :
    exec .vhDischarged s = .next (s.vhSwitch false false) := if_pos (flag_of_rd_one h)

/-- The switch is on until VH is below 1.0 V, or where VH lies above its ramp setpoint by the part that R137 gives. -/
theorem vhWatch_discharging (s : State) (uv : Nat) : (s.vhWatch uv).rd SUPPLY.VH_STAT_DISCHARGING = 1 ↔
    s.sup.vhEmpty = true ∨ (if s.sup.vhOver then 101 else 102) * s.sup.vhUv < 100 * uv := by
  rw [State.vhWatch, rd_vhSwitch, bit_eq_one, Bool.or_eq_true, decide_eq_true_iff]

theorem only_vhWatch (s : State) (uv : Nat) :
    Safety.only [SUPPLY.VH_STAT_DISCHARGING] { s with sup := (s.vhWatch uv).sup } (s.vhWatch uv) :=
  only_vhSwitch _ _ (only_refl _ s)

theorem exec_supplyMeas {s : State} (vin vm : BitVec 16) (ha : s.awake = true) :
    exec (.supplyMeas vin vm) s = .next ((s.wr SUPPLY.MEAS_VIN_MV vin.toNat).wr SUPPLY.MEAS_VM_MV vm.toNat) := if_pos ha

/-! ### The statement -/

/-- Settles O7: a rail that settles by what it shows before its event, and the discharge switch by its two reasons. -/
theorem railsSettle : Obligations.RailsSettle := by
  refine ⟨fun mv s ha hs => ?vcore, fun s ha ho hs => ?vh, fun s hd => ?discharged,
    fun uv s => ⟨vhWatch_discharging s uv, only_vhWatch s uv⟩, fun vin vm s ha => ?measured⟩
  case vcore =>
    have honly := only_vcoreHeld s mv.toNat
    obtain ⟨hsettled, hmeas⟩ := vcoreHeld_fields s mv.toNat
    exact ⟨_, exec_vcoreSettled mv ha hs, (rd_evt_apart _ _ (by decide) (by decide)).trans hsettled,
      (rd_evt_apart _ _ (by decide) (by decide)).trans hmeas, event_of_regsBut honly.2.1 rfl (by decide),
      only_evt (only_mono honly (by simp))⟩
  case vh =>
    have honly := only_vhHeld s
    obtain ⟨hsettled, hilim⟩ := vhHeld_fields s
    have hevent : Safety.event SUPPLY.EVT_VH_SETTLED .supply s (s.vhHeld.evt SUPPLY.EVT_VH_SETTLED .supply) :=
      event_of_regsBut honly.2.1 rfl (by decide)
    exact ⟨_, exec_vhSettled ha ho hs, (rd_evt_apart _ _ (by decide) (by decide)).trans hsettled,
      (rd_evt_apart _ _ (by decide) (by decide)).trans hilim, hevent, only_setPrint _ (only_evt (only_mono honly (by simp)))⟩
  case discharged => exact ⟨_, exec_vhDischarged hd, rd_vhSwitch s false false, only_vhSwitch false false (only_refl _ s)⟩
  case measured =>
    exact ⟨_, exec_supplyMeas vin vm ha, (State.rd_wr_apart _ _ _ _ (by decide)).trans (rd_wr_of_lt s ⟨vin.isLt, by decide⟩),
      rd_wr_of_lt _ ⟨vm.isLt, by decide⟩, only_wr (only_wr (only_refl _ s))⟩

end Sys2Proof.Machine
end

section
/-! PROOFS. The comparators of VIN and VM, DUMP, and the faults of SUPPLY. -/

namespace Sys2Proof.Machine

/-! ### VIN (R147, R148) -/

/-- VIN is seen below its floor. -/
def State.floorSeen (s : State) : State := s.evt SUPPLY.EVT_VIN_FLOOR .supply

/-- The line counts as a floor line. -/
def State.floorCounted (s : State) : State := (s.setPrint fun p => { p with floorLine := true }).bump SUPPLY.COUNT_FLOOR_LINES

theorem event_floorSeen (s : State) : Safety.event SUPPLY.EVT_VIN_FLOOR .supply s s.floorSeen := event_evt rfl rfl rfl rfl

theorem only_floorSeen (s : State) : Safety.only [SUPPLY.EVT_VIN_FLOOR, VEC.PENDING_PENDING] s s.floorSeen := only_evt (only_refl _ s)

theorem only_floorCounted (s : State) :
    Safety.only [SUPPLY.COUNT_FLOOR_LINES] { s with print := { s.print with floorLine := true } } s.floorCounted :=
  only_bump (only_refl _ _)

theorem rd_floorCounted (s : State) : s.floorCounted.rd SUPPLY.COUNT_FLOOR_LINES = satAdd 65535 (s.rd SUPPLY.COUNT_FLOOR_LINES) 1 :=
  rd_bump _ _ _

theorem exec_vinFloor {s : State} (ha : s.awake = true) (hf : s.print.firing.isSome = true) : exec .vinFloor s =
    .next (if s.print.floorLine then s.floorSeen else s.floorSeen.floorCounted.evt PRINT.EVT_CAP_DOWN .print) := by
  have hprint : s.floorSeen.print = s.print := only_same (only_floorSeen s) State.print
  change execVinFloor s = _
  rw [← hprint, execVinFloor, if_pos (by simp [ha, hf])]
  exact (apply_ite Host.Outcome.next _ _ _).symm

/-- VIN has fallen below the critical level: the event and the count, which are all of it where no RECEIPT prints. -/
def State.critSeen (s : State) : State := (s.evt SUPPLY.EVT_VIN_CRIT .supply).bump SUPPLY.COUNT_CRIT_EVENTS

theorem only_critSeen (s : State) :
    Safety.only [SUPPLY.EVT_VIN_CRIT, SUPPLY.COUNT_CRIT_EVENTS, VEC.PENDING_PENDING] s s.critSeen :=
  only_bump (only_evt (only_refl _ s))

theorem critSeen_fields (s : State) : Safety.event SUPPLY.EVT_VIN_CRIT .supply s s.critSeen ∧
    s.critSeen.rd SUPPLY.COUNT_CRIT_EVENTS = satAdd 255 (s.rd SUPPLY.COUNT_CRIT_EVENTS) 1 := by
  refine ⟨event_bump (event_evt rfl rfl rfl rfl) (by decide) (by decide), ?_⟩
  rw [State.critSeen, rd_bump _ _ _ (by decide), rd_evt_apart _ _ (by decide) (by decide)]
  rfl

theorem exec_vinCrit {s : State} (ha : s.awake = true) : exec .vinCrit s =
    .next (if s.printing?.isSome then (s.critSeen.vec 21).tear 1 else s.critSeen).settle := by
  have hprinting : s.critSeen.printing? = s.printing? := only_same (only_critSeen s) State.printing?
  rw [← hprinting]
  exact if_pos ha

/-! ### VM and DUMP (R151, R152) -/

/-- The torque limit of R151, with what decides it. -/
def State.vmLimit (s : State) (on : Bool) : State := (s.setSup fun p => { p with vmHigh := on }).wrB FEED.STAT_VM_LIMIT on

theorem only_vmLimit (s : State) (on : Bool) :
    Safety.only [FEED.STAT_VM_LIMIT] { s with sup := { s.sup with vmHigh := on } } (s.vmLimit on) := only_wrB (only_refl _ _)

theorem rd_vmLimit (s : State) (on : Bool) : (s.vmLimit on).rd FEED.STAT_VM_LIMIT = bit on := rd_wrB _ on

theorem exec_vmCeil {s : State} (ha : s.awake = true) (hv : s.sup.vmHigh = false) :
    exec .vmCeil s = .next ((s.vmLimit true).evt SUPPLY.EVT_VM_CEIL .supply) := if_pos (by simp [ha, hv])

theorem exec_vmCeilClear (s : State) : exec .vmCeilClear s = .next (s.vmLimit false) := rfl

/-- DUMP is driven, and its activation counted. -/
def State.dumpDriven (s : State) : State := ((s.wr SUPPLY.VM_DUMP_DUMP_ON 1).bump SUPPLY.COUNT_DUMP_EVENTS).count cntDump

theorem only_dumpDriven (s : State) :
    Safety.only [SUPPLY.VM_DUMP_DUMP_ON, SUPPLY.COUNT_DUMP_EVENTS] (s.count cntDump) s.dumpDriven :=
  only_count _ _ (only_bump (only_wr (only_refl _ s)))

theorem regsBut_dumpDriven (s : State) : Safety.regsBut [SUPPLY.VM_DUMP_DUMP_ON, SUPPLY.COUNT_DUMP_EVENTS] s s.dumpDriven :=
  fun f hf => ((only_dumpDriven s).2.1 f hf).trans (State.count_rd f)

theorem dumpDriven_part (s : State) : s.dumpDriven.part = s.part := by
  rw [State.dumpDriven, State.count_part, State.bump_part, State.wr_part]

theorem dumpDriven_fields (s : State) : s.dumpDriven.rd SUPPLY.VM_DUMP_DUMP_ON = 1 ∧
    s.dumpDriven.rd SUPPLY.COUNT_DUMP_EVENTS = satAdd 255 (s.rd SUPPLY.COUNT_DUMP_EVENTS) 1 := by
  rw [State.dumpDriven, State.count_rd, State.count_rd, rd_bump _ _ _ (by decide), rd_bump_apart _ _ _ _ (by decide),
    State.rd_wr_apart _ _ SUPPLY.COUNT_DUMP_EVENTS _ (by decide)]
  exact ⟨rd_wr_of_lt s (by decide), rfl⟩

theorem exec_vmDump {s : State} (ha : s.awake = true) (hc : u8 s.dumpCfg 0 = 1) (hd : s.rd SUPPLY.VM_DUMP_DUMP_ON = 0)
    (hs : s.sup.dumpSpent = false) : exec .vmDump s = .next (s.dumpDriven.evt SUPPLY.EVT_VM_DUMP .supply) :=
  if_pos (by simp [ha, hc, flag_of_rd_zero hd, hs])

/-- DUMP is released; `spent` says whether it has timed out. -/
def State.dumpReleased (s : State) (spent : Bool) : State :=
  (s.wr SUPPLY.VM_DUMP_DUMP_ON 0).setSup fun p => { p with dumpSpent := spent }

theorem only_dumpReleased (s : State) (spent : Bool) : Safety.only [SUPPLY.VM_DUMP_DUMP_ON]
    { s with sup := { s.sup with dumpSpent := spent } } (s.dumpReleased spent) :=
  only_setSup (fun p => { p with dumpSpent := spent }) (only_wr (only_refl _ s))

theorem rd_dumpReleased (s : State) (spent : Bool) : (s.dumpReleased spent).rd SUPPLY.VM_DUMP_DUMP_ON = 0 := rd_wr_of_lt s (by decide)

theorem exec_dumpRelease (s : State) : exec .dumpRelease s = .next (s.dumpReleased false) := rfl

/-! ### The faults (R153 to R155) -/

theorem exec_vmTrip {s : State} (v : BitVec 16) (hr : s.inReset = false) :
    exec (.vmTrip v) s = .next (s.raise 0x0520 0 v.toNat).settle := if_neg (by simp [hr])

theorem exec_dumpOverrun {s : State} (v : BitVec 16) (ha : s.awake = true) (hd : s.rd SUPPLY.VM_DUMP_DUMP_ON = 1) :
    exec (.dumpOverrun v) s = .next ((s.dumpReleased true).raise 0x0521 0 v.toNat).settle :=
  if_pos (by simp [ha, flag_of_rd_one hd])

section
variable {s : State} (v : BitVec 16) (ha : s.awake = true) (ho : s.rd SUPPLY.VH_STAT_ON = 1)
include ha ho

theorem exec_vhOvp : exec (.vhOvp v) s = .next (s.raise 0x0501 0 v.toNat).settle := if_pos (by simp [ha, flag_of_rd_one ho])

theorem exec_vhOcp : exec (.vhOcp v) s = .next ((s.wr SUPPLY.VH_STAT_ILIM 1).raise 0x0502 0 v.toNat).settle :=
  if_pos (by simp [ha, flag_of_rd_one ho])

theorem exec_vhSettle (hs : s.rd SUPPLY.VH_STAT_SETTLED = 0) :
    exec (.vhSettle v) s = .next (s.raise 0x0503 0 v.toNat).settle :=
  if_pos (by simp [ha, flag_of_rd_one ho, flag_of_rd_zero hs])

end

/-! ### The statement -/

/-- Settles O8: each comparator by what it leaves before or after its event, and each fault by the state that raises it. -/
theorem supplyWatchAndFaults : Obligations.SupplyWatchAndFaults := by
  refine ⟨⟨fun s ha hf hl => ?floorFirst, fun s ha hf hl => ?floorAgain, fun s ha => ?crit, fun s ha hv => ?ceil, fun s => ?ceilClear,
    fun s ha hc hd hs => ?dump, fun s => ?release⟩, fun v s hr => exec_vmTrip v hr, fun v s ha hd => ?overrun,
    fun v s ha ho => ⟨exec_vhOvp v ha ho, ?ocp, exec_vhSettle v ha ho⟩⟩
  case floorFirst =>
    have honly := only_floorCounted s.floorSeen
    refine ⟨s.floorSeen, _, (exec_vinFloor ha hf).trans (by rw [hl]; rfl), event_floorSeen s, only_floorSeen s,
      event_of_regsBut honly.2.1 rfl (by decide), ?_, only_evt (only_mono honly (by simp))⟩
    rw [rd_evt_apart _ _ (by decide) (by decide), rd_floorCounted, State.floorSeen, rd_evt_apart _ _ (by decide) (by decide)]
  case floorAgain => exact ⟨s.floorSeen, (exec_vinFloor ha hf).trans (by rw [hl]; rfl), event_floorSeen s, only_floorSeen s⟩
  case crit =>
    obtain ⟨hevent, hcount⟩ := critSeen_fields s
    exact ⟨s.critSeen, exec_vinCrit ha, hevent, hcount, only_critSeen s⟩
  case ceil =>
    have honly := only_vmLimit s true
    exact ⟨_, exec_vmCeil ha hv, event_of_regsBut honly.2.1 rfl (by decide),
      (rd_evt_apart _ _ (by decide) (by decide)).trans (rd_vmLimit s true), only_evt (only_mono honly (by simp))⟩
  case ceilClear => exact ⟨_, exec_vmCeilClear s, rd_vmLimit s false, only_vmLimit s false⟩
  case dump =>
    obtain ⟨hon, hcount⟩ := dumpDriven_fields s
    exact ⟨_, exec_vmDump ha hc hd hs, (rd_evt_apart _ _ (by decide) (by decide)).trans hon,
      event_of_regsBut (regsBut_dumpDriven s) (dumpDriven_part s) (by decide),
      (rd_evt_apart _ _ (by decide) (by decide)).trans hcount, only_evt (only_mono (only_dumpDriven s) (by simp))⟩
  case release => exact ⟨_, exec_dumpRelease s, rd_dumpReleased s false, only_dumpReleased s false⟩
  case overrun => exact ⟨_, exec_dumpOverrun v ha hd, rd_dumpReleased s true, only_dumpReleased s true⟩
  case ocp => exact ⟨_, exec_vhOcp v ha ho, rd_wr_of_lt s (by decide), only_wr (only_refl _ s)⟩

end Sys2Proof.Machine
end

section
/-! PROOFS. The link's settings: the offer, the switch, the training and the return to the base settings. -/

namespace Sys2Proof.Machine

/-! ### Errors and the idle count -/

/-- The fields of LINK.ERR. -/
def linkErrFlds : List Fld :=
  [LINK.ERR_ALIGN, LINK.ERR_HCRC, LINK.ERR_FRAME, LINK.ERR_LEN, LINK.ERR_DCRC, LINK.ERR_SHORT, LINK.ERR_UNTRAINED,
   LINK.ERR_TRAIN_FAIL, LINK.ERR_RESYNC, LINK.ERR_TIMEOUT]

theorem only_linkErr {ws : List Fld} {s t : State} {f : Fld} (h : Safety.only ws s t) (hf : f ∈ ws := by simp)
    (hc : LINK.ERR_COUNT_COUNT ∈ ws := by simp) : Safety.only ws s (t.linkErr f) := only_bump (only_wr h hf) hc

theorem rd_linkErr_apart (s : State) {f g : Fld} (hf : f.apart g = true) (hc : LINK.ERR_COUNT_COUNT.apart g = true) :
    (s.linkErr f).rd g = s.rd g := (rd_bump_apart _ _ g 1 hc).trans (State.rd_wr_apart s f g 1 hf)

/-- What the host link needs of the fields of LINK.ERR: each is one bit, apart from the count. -/
theorem linkErrFlds_bits {f : Fld} (hf : f ∈ linkErrFlds) : f.wid = 1 ∧ f.lo + f.wid ≤ 32 ∧
    LINK.ERR_COUNT_COUNT.apart f = true ∧ f.apart LINK.ERR_COUNT_COUNT = true := by
  revert f
  decide

theorem rd_linkErr (s : State) {f : Fld} (hf : f ∈ linkErrFlds) : (s.linkErr f).rd f = 1 := by
  obtain ⟨hw, hl, hc, -⟩ := linkErrFlds_bits hf
  exact (rd_bump_apart _ _ _ 1 hc).trans (rd_wr_of_lt s ⟨by rw [hw]; decide, hl⟩)

theorem errCount_linkErr (s : State) {f : Fld} (hf : f ∈ linkErrFlds) :
    (s.linkErr f).rd LINK.ERR_COUNT_COUNT = satAdd 65535 (s.rd LINK.ERR_COUNT_COUNT) 1 := by
  obtain ⟨-, -, -, hc⟩ := linkErrFlds_bits hf
  exact (rd_bump _ _ 1 (by decide)).trans (by rw [State.rd_wr_apart s f _ 1 hc]; rfl)

@[simp] theorem linkOn_idleRestart (s : State) : s.idleRestart.linkOn = s.linkOn := rfl

@[simp] theorem untrained_idleRestart (s : State) : s.idleRestart.untrained = s.untrained := rfl

/-- A header is judged by the link's training alone, which the idle count does not touch. -/
@[simp] theorem headerErrs_idleRestart (s : State) (h : Header) : s.idleRestart.headerErrs h = s.headerErrs h := rfl

/-! ### The offer (R172) -/

theorem exec_linkOffer {s : State} (h : Safety.takes s .link) (w : Word) :
    exec (.linkOffer w) s = .next (s.idleRestart.writeOffer w) :=
  congrArg Host.Outcome.next (hostReg_takes h fun s => s.writeOffer w)

/-- The frequency that an offer stands for. -/
def offerMhz (w : Word) : Nat := if field w 8 8 = 0 then 25 else field w 8 8

/-- The widest lane count of a set of them. -/
def widestLanes (both : Nat) : Nat := if both.testBit 2 then 4 else if both.testBit 1 then 2 else 1

/-- The fields that an offer writes. -/
def offerFlds : List Fld :=
  [LINK.CAP_MAX_MHZ, LINK.CAP_LANES, LINK.CAP_DCRC, LINK.OFFER_LANES, LINK.OFFER_MHZ, LINK.OFFER_DCRC,
   LINK.AGREED_LANES, LINK.AGREED_MHZ, LINK.AGREED_DCRC, LINK.AGREED_STATE]

/-- What the MB7140 can do shows in LINK.CAP as the image's beads give it. -/
def State.capShown (s : State) : State :=
  ((s.wr LINK.CAP_MAX_MHZ (u8 (s.beadD 0x0180 [100]) 0)).wr LINK.CAP_LANES (u8 (s.beadD 0x0181 [7]) 0)).wr LINK.CAP_DCRC
    (u8 (s.beadD 0x0182 [1]) 0)

/-- The offer as the host made it. -/
def State.offerStored (s : State) (w : Word) : State :=
  ((s.wr LINK.OFFER_LANES (field w 0 3)).wr LINK.OFFER_MHZ (offerMhz w)).wr LINK.OFFER_DCRC (field w 16 1)

/-- The offer meets LINK.CAP. -/
def State.offerMet (s : State) (w : Word) : State :=
  (((s.wr LINK.AGREED_LANES (widestLanes (s.rd LINK.CAP_LANES &&& (s.rd LINK.OFFER_LANES ||| 1)))).wr LINK.AGREED_MHZ
    (min (s.rd LINK.CAP_MAX_MHZ) (offerMhz w))).wr LINK.AGREED_DCRC (s.rd LINK.CAP_DCRC &&& field w 16 1)).wr LINK.AGREED_STATE 1

theorem offerMhz_lt (w : Word) : offerMhz w < 256 := by
  have := field_lt w 8 8
  unfold offerMhz
  split <;> omega

theorem widestLanes_lt (both : Nat) : widestLanes both < 8 := by
  unfold widestLanes
  split_ifs <;> decide

theorem writeOffer_eq (s : State) (w : Word) : s.writeOffer w = (s.capShown.offerStored w).offerMet w := by
  unfold State.writeOffer State.offerMet offerMhz
  simp (disch := decide) only [State.capShown, State.offerStored, offerMhz, widestLanes, beq_iff_eq, State.rd_wr_apart]

/-- What an offer shows of the image, of itself and of the agreement. -/
theorem rd_writeOffer (s : State) (w : Word) :
    let cap := u8 (s.beadD 0x0181 [7]) 0 % 8
    let x := s.writeOffer w
    x.rd LINK.CAP_MAX_MHZ = u8 (s.beadD 0x0180 [100]) 0 % 256 ∧ x.rd LINK.CAP_LANES = cap ∧
    x.rd LINK.CAP_DCRC = u8 (s.beadD 0x0182 [1]) 0 % 2 ∧ x.rd LINK.OFFER_LANES = field w 0 3 ∧
    x.rd LINK.OFFER_MHZ = offerMhz w ∧ x.rd LINK.OFFER_DCRC = field w 16 1 ∧
    x.rd LINK.AGREED_LANES = widestLanes (cap &&& (field w 0 3 ||| 1)) ∧
    x.rd LINK.AGREED_MHZ = min (u8 (s.beadD 0x0180 [100]) 0 % 256) (offerMhz w) ∧
    x.rd LINK.AGREED_DCRC = (u8 (s.beadD 0x0182 [1]) 0 % 2) &&& field w 16 1 ∧ x.rd LINK.AGREED_STATE = 1 := by
  have hlanes : field w 0 3 % 2 ^ LINK.OFFER_LANES.wid = field w 0 3 := Nat.mod_eq_of_lt (field_lt w 0 3)
  simp (disch := decide) only [writeOffer_eq, State.offerMet, State.offerStored, State.capShown, State.rd_wr_apart, State.rd_wr,
    hlanes]
  exact ⟨rfl, rfl, rfl, trivial, Nat.mod_eq_of_lt (offerMhz_lt w), Nat.mod_eq_of_lt (field_lt w 16 1),
    Nat.mod_eq_of_lt (widestLanes_lt _), Nat.mod_eq_of_lt (Nat.lt_of_le_of_lt (Nat.min_le_right _ _) (offerMhz_lt w)),
    Nat.mod_eq_of_lt (Nat.lt_of_le_of_lt Nat.and_le_right (field_lt w 16 1)), rfl⟩

theorem only_writeOffer (s : State) (w : Word) : Safety.only offerFlds s (s.writeOffer w) := by
  rw [writeOffer_eq]
  have hcap : Safety.only offerFlds s s.capShown :=
    only_wr (only_wr (only_wr (only_refl _ s) (by decide)) (by decide)) (by decide)
  have hoffer : Safety.only offerFlds s (s.capShown.offerStored w) :=
    only_wr (only_wr (only_wr hcap (by decide)) (by decide)) (by decide)
  exact only_wr (only_wr (only_wr (only_wr hoffer (by decide)) (by decide)) (by decide)) (by decide)

/-! ### The switch (R173) -/

theorem exec_linkSwitch {s : State} (h : Safety.takes s .link) (w : Word) :
    exec (.linkSwitch w) s = .next (s.idleRestart.writeSwitch w) :=
  congrArg Host.Outcome.next (hostReg_takes h fun s => s.writeSwitch w)

/-- What was agreed is in force, and training begins. -/
def State.switched (s : State) : State :=
  ((((s.wr LINK.ACTIVE_LANES (s.rd LINK.AGREED_LANES)).wr LINK.ACTIVE_MHZ (s.rd LINK.AGREED_MHZ)).wr LINK.ACTIVE_DCRC
    (s.rd LINK.AGREED_DCRC)).wr LINK.AGREED_STATE 2).wr LINK.TRAIN_FAILS 0

theorem writeSwitch_agreed {s : State} {w : Word} (hk : field w 0 16 = 0x5357) (ha : s.rd LINK.AGREED_STATE = 1) :
    s.writeSwitch w = s.switched := by
  simp (disch := decide) [State.writeSwitch, hk, ha, State.switched]

theorem writeSwitch_refused {s : State} {w : Word} (h : field w 0 16 ≠ 0x5357 ∨ s.rd LINK.AGREED_STATE ≠ 1) :
    s.writeSwitch w = s :=
  if_neg (by simp only [Bool.and_eq_true, beq_iff_eq]; tauto)

theorem rd_switched (s : State) : s.switched.rd LINK.ACTIVE_LANES = s.rd LINK.AGREED_LANES ∧
    s.switched.rd LINK.ACTIVE_MHZ = s.rd LINK.AGREED_MHZ ∧ s.switched.rd LINK.ACTIVE_DCRC = s.rd LINK.AGREED_DCRC ∧
    s.switched.rd LINK.AGREED_STATE = 2 ∧ s.switched.rd LINK.TRAIN_FAILS = 0 := by
  have hlanes : s.rd LINK.AGREED_LANES < 2 ^ LINK.ACTIVE_LANES.wid := s.rd_lt LINK.AGREED_LANES
  have hmhz : s.rd LINK.AGREED_MHZ < 2 ^ LINK.ACTIVE_MHZ.wid := s.rd_lt LINK.AGREED_MHZ
  have hdcrc : s.rd LINK.AGREED_DCRC < 2 ^ LINK.ACTIVE_DCRC.wid := s.rd_lt LINK.AGREED_DCRC
  simp (disch := decide) only [State.switched, State.rd_wr_apart, State.rd_wr, Nat.mod_eq_of_lt hlanes, Nat.mod_eq_of_lt hmhz,
    Nat.mod_eq_of_lt hdcrc]
  decide

theorem only_switched (s : State) : Safety.only [LINK.ACTIVE_LANES, LINK.ACTIVE_MHZ, LINK.ACTIVE_DCRC, LINK.AGREED_STATE,
    LINK.TRAIN_FAILS] s s.switched :=
  only_wr (only_wr (only_wr (only_wr (only_wr (only_refl _ s) (by simp)) (by simp)) (by simp)) (by simp)) (by simp)

/-! ### The taps (R176) -/

/-- The taps from `a` up to but not with `b` all pass. -/
def AllPass (taps a b : Nat) : Prop := ∀ i, a ≤ i → i < b → taps.testBit i = true

theorem allPass_iff_width (taps a n : Nat) : AllPass taps a (a + n) ↔ ∀ i, i < n → taps.testBit (a + i) = true := by
  constructor
  · exact fun h i hi => h _ (by omega) (by omega)
  · intro h i ha hi
    have := h (i - a) (by omega)
    rwa [Nat.add_sub_cancel' ha] at this

theorem allPass_succ {taps a b : Nat} (hab : a ≤ b) : AllPass taps a (b + 1) ↔ AllPass taps a b ∧ taps.testBit b = true := by
  constructor
  · exact fun h => ⟨fun i ha hi => h i ha (by omega), h b hab (by omega)⟩
  · rintro ⟨h, hb⟩ i ha hi
    rcases Nat.lt_succ_iff_lt_or_eq.mp hi with hlt | rfl
    · exact h i ha hlt
    · exact hb

/-- What `widestRun` has found among the first `n` taps: the lowest of the widest runs, and the run that ends with the last of
them. -/
structure WidestRun (taps n first width last : Nat) : Prop where
  fits : first + width ≤ n
  passes : AllPass taps first (first + width)
  lastFits : last ≤ n
  lastPasses : AllPass taps (n - last) n
  lastWidest : ∀ a, a ≤ n → AllPass taps a n → n - a ≤ last
  widest : ∀ a b, a ≤ b → b ≤ n → AllPass taps a b → b - a ≤ width ∧ (b - a = width → a < b → first ≤ a)

theorem WidestRun.fail {taps n first width last : Nat} (h : WidestRun taps n first width last) (hn : taps.testBit n = false) :
    WidestRun taps (n + 1) first width 0 := by
  have hno {a : Nat} (ha : a ≤ n) : ¬AllPass taps a (n + 1) := fun hp => by
    simp [((allPass_succ ha).mp hp).2] at hn
  refine ⟨Nat.le_succ_of_le h.fits, h.passes, Nat.zero_le _, fun i _ _ => by omega, ?_, ?_⟩
  · intro a ha hp
    by_cases hle : a ≤ n
    · exact absurd hp (hno hle)
    · omega
  · intro a b hab hb hp
    by_cases hbn : b ≤ n
    · exact h.widest a b hab hbn hp
    · obtain rfl : b = n + 1 := by omega
      by_cases hle : a ≤ n
      · exact absurd hp (hno hle)
      · omega

theorem WidestRun.pass {taps n first width last : Nat} (h : WidestRun taps n first width last) (hn : taps.testBit n = true) :
    if width < last + 1 then WidestRun taps (n + 1) (n + 1 - (last + 1)) (last + 1) (last + 1)
    else WidestRun taps (n + 1) first width (last + 1) := by
  have hfits := h.fits
  have hlast := h.lastFits
  have hrun : AllPass taps (n + 1 - (last + 1)) (n + 1) := by
    rw [Nat.add_sub_add_right]
    exact (allPass_succ (Nat.sub_le _ _)).mpr ⟨h.lastPasses, hn⟩
  have hends {a : Nat} (ha : a ≤ n + 1) (hp : AllPass taps a (n + 1)) : n + 1 - a ≤ last + 1 := by
    by_cases hle : a ≤ n
    · have := h.lastWidest a hle ((allPass_succ hle).mp hp).1
      omega
    · omega
  split
  next hw =>
    refine ⟨by omega, ?_, by omega, hrun, fun a => hends, ?_⟩
    · rwa [Nat.sub_add_cancel (by omega)]
    · intro a b hab hb hp
      by_cases hbn : b ≤ n
      · have := (h.widest a b hab hbn hp).1
        omega
      · obtain rfl : b = n + 1 := by omega
        have := hends hab hp
        omega
  next hw =>
    refine ⟨by omega, h.passes, by omega, hrun, fun a => hends, ?_⟩
    intro a b hab hb hp
    by_cases hbn : b ≤ n
    · exact h.widest a b hab hbn hp
    · obtain rfl : b = n + 1 := by omega
      have := hends hab hp
      omega

theorem widestRun_spec (taps n : Nat) :
    WidestRun taps n (widestRun taps n).1 (widestRun taps n).2.1 (widestRun taps n).2.2 := by
  induction n with
  | zero =>
    exact ⟨Nat.le_refl _, fun i _ _ => by simp [widestRun] at *, Nat.le_refl _, fun i _ _ => by omega, fun a _ _ => by omega,
      fun a b _ _ _ => by omega⟩
  | succ n ih =>
    cases hn : taps.testBit n with
    | false => simpa [widestRun, hn] using ih.fail hn
    | true =>
      have hpass := ih.pass hn
      simp only [widestRun, hn, if_true]
      split at hpass
      next hw => simpa only [hw, if_true] using hpass
      next hw => simpa only [hw, if_false] using hpass

/-! ### Training (R174 to R177) -/

/-- The base settings, as R177 and R179 restore them. -/
theorem rd_linkBase (s : State) : let x := s.linkBase
    x.rd LINK.ACTIVE_LANES = 1 ∧ x.rd LINK.ACTIVE_MHZ = 25 ∧ x.rd LINK.ACTIVE_DCRC = 0 ∧ x.rd LINK.AGREED_TAP = 8 ∧
    x.rd LINK.AGREED_STATE = 0 ∧ x.rd LINK.ERR_RESYNC = 1 ∧
    x.rd LINK.ERR_COUNT_COUNT = satAdd 65535 (s.rd LINK.ERR_COUNT_COUNT) 1 := by
  simp (disch := decide) only [State.linkBase, rd_linkErr, errCount_linkErr, rd_linkErr_apart, State.rd_wr_apart, State.rd_wr]
  exact ⟨rfl, rfl, rfl, rfl, rfl, trivial, trivial⟩

theorem only_linkBase (s : State) : Safety.only [LINK.ACTIVE_LANES, LINK.ACTIVE_MHZ, LINK.ACTIVE_DCRC, LINK.AGREED_TAP,
    LINK.AGREED_STATE, LINK.ERR_RESYNC, LINK.ERR_COUNT_COUNT] s s.linkBase :=
  only_linkErr (only_wr (only_wr (only_wr (only_wr (only_wr (only_refl _ s) (by simp)) (by simp)) (by simp)) (by simp)) (by simp))

/-- Training has found the tap. -/
def State.tapFound (s : State) (taps tap : Nat) : State :=
  ((((s.wr LINK.TRAIN_PASS taps).wr LINK.AGREED_TAP tap).wr LINK.TRAIN_TAP tap).wr LINK.AGREED_STATE 3).wr LINK.TRAIN_FAILS 0

/-- Training has found no run of three taps. -/
def State.trainFailed (s : State) (taps : Nat) : State :=
  (((s.wr LINK.TRAIN_PASS taps).wr LINK.AGREED_STATE 4).wr LINK.TRAIN_FAILS (min 4 (s.rd LINK.TRAIN_FAILS + 1))).linkErr
    LINK.ERR_TRAIN_FAIL

theorem trained_good (s : State) {taps : Nat} (h : 3 ≤ (widestRun taps 16).2.1) :
    s.trained taps = (s.tapFound taps ((widestRun taps 16).1 + ((widestRun taps 16).2.1 - 1) / 2), stOK) := if_pos h

theorem trained_bad (s : State) {taps : Nat} (h : (widestRun taps 16).2.1 < 3) :
    s.trained taps =
      (if 3 ≤ s.rd LINK.TRAIN_FAILS then (s.trainFailed taps).linkBase else s.trainFailed taps, stAborted) := by
  have hfour : min 4 (s.rd LINK.TRAIN_FAILS + 1) = 4 ↔ 3 ≤ s.rd LINK.TRAIN_FAILS := by omega
  simp (disch := decide) only [State.trained, Nat.not_le.mpr h, if_false, State.rd_wr_apart, beq_iff_eq, hfour]
  rfl

theorem rd_tapFound (s : State) (taps : Nat) {tap : Nat} (ht : tap < 16) : let x := s.tapFound taps tap
    x.rd LINK.TRAIN_PASS = taps % 65536 ∧ x.rd LINK.AGREED_TAP = tap ∧ x.rd LINK.TRAIN_TAP = tap ∧
    x.rd LINK.AGREED_STATE = 3 ∧ x.rd LINK.TRAIN_FAILS = 0 := by
  simp (disch := decide) only [State.tapFound, State.rd_wr_apart, State.rd_wr]
  exact ⟨rfl, Nat.mod_eq_of_lt ht, Nat.mod_eq_of_lt ht, rfl, rfl⟩

theorem only_tapFound (s : State) (taps tap : Nat) :
    Safety.only [LINK.TRAIN_PASS, LINK.TRAIN_TAP, LINK.TRAIN_FAILS, LINK.AGREED_TAP, LINK.AGREED_STATE] s (s.tapFound taps tap) :=
  only_wr (only_wr (only_wr (only_wr (only_wr (only_refl _ s) (by simp)) (by simp)) (by simp)) (by simp)) (by simp)

theorem rd_trainFailed (s : State) (taps : Nat) : let x := s.trainFailed taps
    x.rd LINK.ERR_TRAIN_FAIL = 1 ∧ x.rd LINK.TRAIN_FAILS = min 4 (s.rd LINK.TRAIN_FAILS + 1) ∧ x.rd LINK.AGREED_STATE = 4 := by
  have hlt : min 4 (s.rd LINK.TRAIN_FAILS + 1) < 2 ^ LINK.TRAIN_FAILS.wid := by
    show _ < 8
    omega
  simp (disch := decide) only [State.trainFailed, rd_linkErr, rd_linkErr_apart, State.rd_wr_apart, State.rd_wr,
    Nat.mod_eq_of_lt hlt]
  decide

theorem only_trainFailed (s : State) (taps : Nat) : Safety.only [LINK.TRAIN_PASS, LINK.TRAIN_FAILS, LINK.AGREED_STATE,
    LINK.ERR_TRAIN_FAIL, LINK.ERR_COUNT_COUNT] s (s.trainFailed taps) :=
  only_linkErr (only_wr (only_wr (only_wr (only_refl _ s) (by simp)) (by simp)) (by simp))

/-- A return to the base settings leaves what the training has counted. -/
theorem rd_linkBase_train (s : State) : s.linkBase.rd LINK.ERR_TRAIN_FAIL = s.rd LINK.ERR_TRAIN_FAIL ∧
    s.linkBase.rd LINK.TRAIN_FAILS = s.rd LINK.TRAIN_FAILS :=
  ⟨(only_linkBase s).2.1 _ (by decide), (only_linkBase s).2.1 _ (by decide)⟩

theorem exec_train_seen {s : State} (hl : s.linkOn = true) (hu : s.untrained = true) (h : Header) (taps : BitVec 16) :
    exec (.train h true taps) s = .next ((s.linkBegin.trained taps.toNat).1.send (s.linkBegin.trained taps.toNat).2 pattern) := by
  show execTrain h true taps s = _
  simp [execTrain, linkBegin_of_on hl, hl, hu]

theorem exec_train_refused {s : State} (hl : s.linkOn = true) (hu : s.untrained = true) {h : Header} (he : s.headerErrs h ≠ [])
    (taps : BitVec 16) : exec (.train h false taps) s = .next (s.linkBegin.refuse h (s.headerErrs h)) := by
  show execTrain h false taps s = _
  simp only [execTrain, linkBegin_of_on hl, linkOn_idleRestart, hl, untrained_idleRestart, hu, headerErrs_idleRestart]
  cases hc : s.headerErrs h with
  | nil => exact absurd hc he
  | cons e l => rfl

theorem exec_train_trained {s : State} (hl : s.linkOn = true) (hu : s.untrained = false) {h : Header} (ho : otherOp h 4 = false)
    (he : s.headerErrs h = []) (b : Bool) (taps : BitVec 16) :
    exec (.train h b taps) s = .next (s.linkBegin.send stOK pattern) := by
  show execTrain h b taps s = _
  simp [execTrain, linkBegin_of_on hl, hl, hu, ho, he]

theorem exec_linkReset {s : State} (hl : s.linkOn = true) :
    exec .linkReset s = .next { s.idleRestart.linkBase with reply := [] } := by
  show execLinkReset s = _
  simp [execLinkReset, linkBegin_of_on hl, hl, State.silent]

/-! ### The statement -/

/-- Settles O50: each write, exchange and reset by its equation, with what its fields then read, and the widest run by induction on
the taps. -/
theorem linkSettings : Obligations.LinkSettings := by
  refine ⟨fun w s hs => ?offer, fun w s hs => ⟨fun hk ha => ?switch, fun h => ?keep⟩, fun h taps s hl => ?train,
    fun s taps => ⟨fun hr => ?found, fun hr => ?failed⟩, fun taps => ?run, fun s hl => exec_linkReset hl, fun s => ?base⟩
  case offer =>
    obtain ⟨h1, h2, h3, h4, h5, h6, h7, h8, h9, h10⟩ := rd_writeOffer s.idleRestart w
    exact ⟨_, exec_linkOffer hs w, h1, h2, h3, h4, h5, h6, h7, h8, h9, h10, only_writeOffer s.idleRestart w⟩
  case switch =>
    obtain ⟨h1, h2, h3, h4, h5⟩ := rd_switched s.idleRestart
    refine ⟨s.idleRestart.switched, ?_, h1, h2, h3, h4, h5, only_switched _⟩
    rw [exec_linkSwitch hs, writeSwitch_agreed (s := s.idleRestart) hk ha]
  case keep => rw [exec_linkSwitch hs, writeSwitch_refused (s := s.idleRestart) h]
  case train =>
    exact ⟨fun hu => ⟨exec_train_seen hl hu h taps, fun he => exec_train_refused hl hu he taps⟩,
      fun hu ho he b => exec_train_trained hl hu ho he b taps⟩
  case found =>
    have hfits := (widestRun_spec taps 16).fits
    obtain ⟨hpass, htap, htrain, hstate, hfails⟩ := rd_tapFound s taps
      (tap := (widestRun taps 16).1 + ((widestRun taps 16).2.1 - 1) / 2) (by omega)
    rw [trained_good s hr]
    exact ⟨rfl, hpass, htap, htrain, hstate, hfails, only_tapFound s taps _⟩
  case failed =>
    obtain ⟨herr, hfails, hstate⟩ := rd_trainFailed s taps
    obtain ⟨herrBase, hfailsBase⟩ := rd_linkBase_train (s.trainFailed taps)
    rw [trained_bad s hr]
    by_cases h3 : 3 ≤ s.rd LINK.TRAIN_FAILS
    · simp only [if_pos h3]
      exact ⟨trivial, herrBase.trans herr, hfailsBase.trans hfails, fun hlt => absurd hlt (Nat.not_lt.mpr h3),
        fun _ => ⟨_, rfl⟩⟩
    · simp only [if_neg h3]
      exact ⟨trivial, herr, hfails, fun _ => ⟨hstate, only_trainFailed s taps⟩, fun h => absurd h h3⟩
  case run =>
    have hspec := widestRun_spec taps 16
    refine ⟨hspec.fits, (allPass_iff_width _ _ _).mp hspec.passes, fun a n hn hp => ?_⟩
    obtain ⟨hle, hfirst⟩ := hspec.widest a (a + n) (Nat.le_add_right a n) hn ((allPass_iff_width _ _ _).mpr hp)
    rw [Nat.add_sub_cancel_left] at hle hfirst
    exact ⟨hle, fun he hpos => hfirst he (by omega)⟩
  case base =>
    obtain ⟨h1, h2, h3, h4, h5, h6, h7⟩ := rd_linkBase s
    exact ⟨h1, h2, h3, h4, h5, h6, h7, only_linkBase s⟩

end Sys2Proof.Machine
end

section
/-! PROOFS. Transactions of the host link: headers and what refuses them, memory space, and each transaction whole, cut short and
timed out. -/

namespace Sys2Proof.Machine

/-! ### The start of a transaction (R161, R174) -/

/-- HL_CS_N that falls with no entry into TALLY to return from changes nothing. -/
theorem csFall_of_not {s : State} (h : s.base ≠ .tally ∨ s.wake.entering = false ∨ s.inReset = true ∨ s.bank 0 = false) :
    s.csFall = s := by
  refine if_neg fun hc => ?_
  simp only [Bool.and_eq_true, beq_iff_eq, Bool.not_eq_true'] at hc
  obtain ⟨⟨⟨hb, he⟩, hr⟩, h0⟩ := hc
  simp [hb, he, hr, h0] at h

theorem csFall_of_entering {s : State} (hb : s.base = .tally) (he : s.wake.entering = true) (hr : s.inReset = false)
    (h0 : s.bank 0 = true) : s.csFall = s.exitTally := if_pos (by simp [hb, he, hr, h0])

theorem linkOn_linkBegin_of_csFall {s : State} (h : s.csFall = s) : s.linkBegin.linkOn = s.linkOn := by
  unfold State.linkBegin
  rw [h]
  dsimp only
  split <;> rfl

/-- With LINK not READY, or without its supply, every transaction is silent (R174). -/
theorem exec_silent {s : State} (hl : s.linkBegin.linkOn = false) (h : Header) (o : Option Header) (d : List (BitVec 8))
    (c : BitVec 16) (k : Option (BitVec 16)) (b : Bool) :
    let x : Host.Outcome State Fault Refusal := .next { s.linkBegin with reply := [] }
    exec (.read h) s = x ∧ exec (.write h d c) s = x ∧ exec (.poll h) s = x ∧ exec (.train h b c) s = x ∧ exec .linkReset s = x ∧
    exec (.shortTransaction o d k) s = x ∧ exec (.transactionTimeout h d c c) s = x := by
  have hoff : (!s.linkBegin.linkOn) = true := by simp [hl]
  refine ⟨if_pos hoff, if_pos hoff, if_pos hoff, if_pos hoff, ?_, if_pos hoff, if_pos hoff⟩
  exact if_neg (by simp [hl])

/-! ### Status bytes and refusals (R163 to R165, R193) -/

theorem rankStatus_singleton {c : Nat} (h : c ∈ statusOrder) : rankStatus [c] = c := by
  revert c
  decide

theorem refuse_singleton (s : State) (h : Header) {c : Nat} (hc : c ∈ statusOrder) (f : Fld) :
    s.refuse h [(c, f)] = (s.linkErr f).send c
      (if headerSync h && headerCrc h && headerOp h == 1 && 1 ≤ h.len.toNat && h.len.toNat ≤ 4096 then
        (s.linkErr f).withCrc (List.replicate h.len.toNat 0) else []) := by
  simp only [State.refuse, List.map_cons, List.map_nil, rankStatus_singleton hc]
  rfl

/-! ### Headers (R163, R169, R174, R180 to R182) -/

theorem rangeErrs_len {op a n : Nat} (ha : a < 0x40000000) (hn : n = 0 ∨ 4096 < n) :
    rangeErrs op a n = [(stBadParam, LINK.ERR_LEN)] := by
  have hspace : inRegSpace a = false := by simp [inRegSpace]; omega
  have hlen : (n == 0 || decide (4096 < n)) = true := by simpa using hn
  simp only [rangeErrs, hspace, hlen, if_true, Bool.false_and, Bool.false_eq_true, if_false, List.append_nil]

/-- Of a length in range, within one space, only the alignment is judged (R163, R180 to R182). -/
theorem rangeErrs_inside {op a n : Nat} (h1 : 1 ≤ n) (h2 : n ≤ 4096)
    (ha : a + n ≤ 0x40000000 ∨ 0x40000000 ≤ a ∧ a + n ≤ 0x60000000) : rangeErrs op a n =
      if inRegSpace a && (a % 4 != 0 || (4 < n && n % 4 != 0) || (op == 2 && 1 ≤ n && n < 4)) then [(stAlign, LINK.ERR_ALIGN)]
      else [] := by
  have hlen : (n == 0 || decide (4096 < n)) = false := by simp; omega
  have hspan : (decide (0x100000000 < a + n) || (decide (a < 0x40000000) && decide (0x40000000 < a + n)) ||
      (decide (a < 0x60000000) && decide (0x60000000 < a + n))) = false := by simp; omega
  simp only [rangeErrs, hlen, hspan, Bool.false_eq_true, if_false, List.nil_append]

theorem rangeErrs_memory {op a n : Nat} (h1 : 1 ≤ n) (h2 : n ≤ 4096) (ha : a + n ≤ 0x40000000) : rangeErrs op a n = [] := by
  have hspace : inRegSpace a = false := by simp [inRegSpace]; omega
  rw [rangeErrs_inside h1 h2 (.inl ha), hspace]
  rfl

theorem rangeErrs_words {op a n : Nat} (h1 : 1 ≤ n) (h2 : n ≤ 4096) (h4 : n % 4 = 0) (hlo : 0x40000000 ≤ a)
    (hhi : a + n ≤ 0x60000000) : rangeErrs op a n = if a % 4 = 0 then [] else [(stAlign, LINK.ERR_ALIGN)] := by
  have hspace : inRegSpace a = true := by simp [inRegSpace]; omega
  have hnarrow : (op == 2 && decide (1 ≤ n) && decide (n < 4)) = false := by simp; omega
  rw [rangeErrs_inside h1 h2 (.inr ⟨hlo, hhi⟩), hspace, hnarrow]
  by_cases ha : a % 4 = 0 <;> simp [ha, h4]

section
variable {h : Header} {s : State}

theorem headerErrs_sync (hs : headerSync h = false) : s.headerErrs h = [(stAborted, LINK.ERR_FRAME)] := if_pos (by simp [hs])

theorem headerErrs_crc (hs : headerSync h = true) (hc : headerCrc h = false) : s.headerErrs h = [(stAborted, LINK.ERR_HCRC)] := by
  simp [State.headerErrs, hs, hc]

theorem untrained_iff : s.untrained = true ↔ s.rd LINK.AGREED_STATE = 2 ∨ s.rd LINK.AGREED_STATE = 4 := by
  simp [State.untrained]

theorem headerErrs_untrained (hs : headerSync h = true) (hc : headerCrc h = true) (hu : s.untrained = true) :
    s.headerErrs h = [(stAborted, LINK.ERR_UNTRAINED)] := by
  simp [State.headerErrs, hs, hc, hu]

/-- A header whose codes are good, on a link that is trained, is judged by its opcode. -/
theorem headerErrs_good (hs : headerSync h = true) (hc : headerCrc h = true) (hu : s.untrained = false) :
    (headerOp h = 0 → s.headerErrs h = [(stUnsupported, LINK.ERR_FRAME)]) ∧ (headerOp h = 3 → s.headerErrs h = []) ∧
    (headerOp h = 4 → h.len = 32#16 → h.addr = 0#32 → s.headerErrs h = []) ∧
    (headerOp h = 1 ∨ headerOp h = 2 → s.headerErrs h = rangeErrs (headerOp h) h.addr.toNat h.len.toNat) := by
  refine ⟨fun ho => ?_, fun ho => ?_, fun ho hl ha => ?_, fun ho => ?_⟩
  · simp [State.headerErrs, hs, hc, hu, ho]
  · simp [State.headerErrs, hs, hc, hu, ho]
  · simp [State.headerErrs, hs, hc, hu, ho, hl, ha]
  · rcases ho with ho | ho <;> simp [State.headerErrs, hs, hc, hu, ho]

end

/-! ### Memory space (R189 to R191) -/

theorem words_zero (m : Ram) (a : Nat) : m.words a 0 = [] := if_pos rfl

theorem mem_words_sram {a n w : Nat} (h : w ∈ Ram.sram.words a n) : 16 * w < a + n ∧ a < 16 * w + 16 := by
  have hword : Ram.sram.word = 16 := rfl
  unfold Ram.words at h
  split at h
  · simp at h
  · obtain ⟨i, hi, rfl⟩ := List.mem_map.mp h
    rw [List.mem_range] at hi
    rw [hword] at hi ⊢
    omega

/-- A range of main SRAM lies in main SRAM as a whole, and in keep RAM with no byte. -/
theorem part_sram {a n : Nat} (h : a + n ≤ 0x600000) : Ram.sram.part a n = (a, n) := by
  simp [Ram.part, Ram.base, Ram.size]
  omega

theorem part_keep {a n : Nat} (h : a + n ≤ 0x600000) (o : Nat) : (Ram.keep.part a n o).2 = 0 := by
  simp only [Ram.part, Ram.base]
  omega

theorem anyByte_false {a n : Nat} {p : Nat → Bool} (h : ∀ x, a ≤ x → x < a + n → p x = false) : anyByte a n p = false := by
  simp only [anyByte, List.any_eq_false, List.mem_range, Bool.not_eq_true]
  exact fun i hi => h (a + i) (Nat.le_add_right a i) (by omega)

theorem bytes_eq_map (s : State) (m : Ram) (a n : Nat) : s.bytes m a n = (List.range n).map fun i => s.byte m (a + i) := by
  induction n generalizing a with
  | zero => rfl
  | succ n ih =>
    simp only [State.bytes, ih, List.range_succ_eq_map, List.map_cons, List.map_map, Nat.add_zero]
    congr 1
    exact List.map_congr_left fun i _ => by simp only [Function.comp, Nat.succ_eq_add_one]; congr 1; omega

theorem inWindow_sram {x : Nat} (h : x < 0x600000) : inWindow x = false := by simp [inWindow]; omega

theorem readHole_sram (s : State) {x : Nat} (h : x < 0x600000) : s.readHole x = false := by
  simp [State.readHole, inWindow_sram h, inRam, h]

theorem hostByte_sram {s : State} {x : Nat} (h : x < 0x600000) (hu : x / 16 ∉ s.sramUe) : s.hostByte x = s.byte .sram x := by
  simp [State.hostByte, inWindow_sram h, h, hu]

theorem inRegSpace_sram {a : Nat} (h : a < 0x600000) : inRegSpace a = false := by simp [inRegSpace]; omega

/-- A READ of main SRAM that touches no uncorrectable word returns its bytes (R189). -/
theorem access_sram {s : State} {a n : Nat} (hn : 1 ≤ n) (h : a + n ≤ 0x600000)
    (hu : ∀ w ∈ s.sramUe, n + a ≤ 16 * w ∨ 16 * w + 16 ≤ a) : (s.access a n).2 = (s.bytes .sram a n, stOK) := by
  have hwin : anyByte a n inWindow = false := anyByte_false fun x _ hx => inWindow_sram (by omega)
  have hneed : (anyByte a n fun x => inWindow x && !s.readHole x) = false :=
    anyByte_false fun x _ hx => by simp [inWindow_sram (show x < 0x600000 by omega)]
  have hhole : anyByte a n s.readHole = false := anyByte_false fun x _ hx => readHole_sram s (by omega)
  have hsram : s.badWord .sram a n = none := by
    refine List.find?_eq_none.mpr fun w hw => ?_
    have hin := mem_words_sram hw
    simp only [State.ue, List.contains_eq_mem, decide_eq_true_eq]
    intro hmem
    have := hu w hmem
    omega
  have hkeep : s.badWord .keep (Ram.keep.part a n).1 (Ram.keep.part a n).2 = none := by
    rw [part_keep h, State.badWord, words_zero]
    rfl
  have hdata : ((List.range n).map fun i => s.hostByte (a + i)) = s.bytes .sram a n := by
    rw [bytes_eq_map]
    refine List.map_congr_left fun i hi => hostByte_sram ?_ ?_
    · have := List.mem_range.mp hi
      omega
    · intro hmem
      have := hu _ hmem
      have := List.mem_range.mp hi
      omega
  rw [State.access, inRegSpace_sram (by omega), if_neg Bool.false_ne_true, State.memRead]
  simp only [hwin, hneed, hhole, part_sram h, hsram, hkeep, hdata, Bool.false_and, Bool.false_eq_true, if_false, Option.isSome_none,
    Bool.or_self, List.append_nil]
  rfl

/-- A WRITE of main SRAM outside protected memory stores its bytes (R189, R190). -/
theorem store_sram {s : State} {a : Nat} {l : List Nat} (hl : l ≠ []) (h : a + l.length ≤ 0x600000)
    (hp : s.isProtected a l.length = false) (hu : s.sramUe = []) : s.store a l = (s.writeMem .sram a l, stOK) := by
  have hlen := List.length_pos_iff.mpr hl
  have hhole : (anyByte a l.length fun x => !hostMay x) = false :=
    anyByte_false fun x _ hx => by simp [hostMay, show x < 0x600000 by omega]
  have hsram : s.writeBad .sram a l.length = false := by simp [State.writeBad, State.ue, hu]
  have hkeep (b : Nat) : s.writeBad .keep b 0 = false := by
    rw [State.writeBad, words_zero]
    rfl
  have hnone (t : State) (b : Nat) : t.writeMem .keep b [] = t := by
    rw [State.writeMem, List.length_nil, words_zero]
    rfl
  rw [State.store, inRegSpace_sram (by omega), if_neg Bool.false_ne_true, State.memWrite]
  simp only [hp, hhole, part_sram h, part_keep h, hsram, hkeep, hnone, Bool.false_eq_true, if_false, Bool.or_self, List.append_nil,
    Nat.sub_self, List.drop_zero, List.take_length, List.take_zero]
  rfl

/-! ### Whole transactions (R164 to R166, R170) -/

section
variable {s : State} {h : Header}

theorem badDcrc_eq_true {d : List Nat} {c : Nat} (hd : s.rd LINK.ACTIVE_DCRC = 1) (hc : crc16 d ≠ c) : s.badDcrc d c = true := by
  simp [State.badDcrc, flag_of_rd_one hd, hc]

theorem badDcrc_eq_false {d : List Nat} {c : Nat} (h : s.rd LINK.ACTIVE_DCRC = 0 ∨ crc16 d = c) : s.badDcrc d c = false := by
  rcases h with hd | hc
  · simp [State.badDcrc, flag_of_rd_zero hd]
  · simp [State.badDcrc, hc]

variable (hl : s.linkOn = true)
include hl

theorem exec_poll_good (ho : otherOp h 3 = false) (he : s.headerErrs h = []) :
    exec (.poll h) s = .next (s.linkBegin.send stOK []) := by
  show execPoll h s = _
  simp [execPoll, linkBegin_of_on hl, hl, ho, he]

theorem exec_read_good (ho : otherOp h 1 = false) (he : s.headerErrs h = []) :
    exec (.read h) s = .next (s.linkBegin.doRead h) := by
  show execRead h s = _
  simp [execRead, linkBegin_of_on hl, hl, ho, he]

theorem exec_write_good (ho : otherOp h 2 = false) (he : s.headerErrs h = []) (d : List (BitVec 8)) (c : BitVec 16) :
    let r := s.linkBegin.doWrite h (d.map (·.toNat)) c.toNat
    exec (.write h d c) s = .next (r.1.send r.2 []) := by
  show execWrite h d c s = _
  simp [execWrite, linkBegin_of_on hl, hl, ho, he]

/-- A header that is refused is answered alike in each of the three (R163, R193). -/
theorem exec_refused (he : s.headerErrs h ≠ []) (d : List (BitVec 8)) (c : BitVec 16) :
    let x : Host.Outcome State Fault Refusal := .next (s.linkBegin.refuse h (s.headerErrs h))
    (otherOp h 3 = false → exec (.poll h) s = x) ∧ (otherOp h 1 = false → exec (.read h) s = x) ∧
    (otherOp h 2 = false → exec (.write h d c) s = x) := by
  rw [linkBegin_of_on hl]
  cases hc : s.headerErrs h with
  | nil => exact absurd hc he
  | cons e l =>
    refine ⟨fun ho => ?_, fun ho => ?_, fun ho => ?_⟩
    · show execPoll h s = _
      simp [execPoll, linkBegin_of_on hl, hl, ho, hc]
    · show execRead h s = _
      simp [execRead, linkBegin_of_on hl, hl, ho, hc]
    · show execWrite h d c s = _
      simp [execWrite, linkBegin_of_on hl, hl, ho, hc]

end

/-! ### Transactions cut short (R167, R171) -/

/-- What a transaction with a whole header that is cut short leaves, its mark apart: the errors of its header, or its effect. -/
def State.leftShort (s : State) (h : Header) (d : List Nat) (k : Option Nat) : State :=
  if s.untrained && trainHeader h || (s.headerErrs h).isEmpty then s.shortAccess h d k else s.linkErrs ((s.headerErrs h).map (·.2))

section
variable {s : State} {h : Header}

theorem leftShort_refused (he : s.headerErrs h ≠ []) (ht : s.untrained = false ∨ trainHeader h = false) (d : List Nat)
    (k : Option Nat) : s.leftShort h d k = s.linkErrs ((s.headerErrs h).map (·.2)) := by
  have htrain : (s.untrained && trainHeader h) = false := Bool.and_eq_false_iff.mpr ht
  exact if_neg (by simp [htrain, he])

theorem leftShort_good (he : s.headerErrs h = []) (d : List Nat) (k : Option Nat) : s.leftShort h d k = s.shortAccess h d k :=
  if_pos (by simp [he])

theorem leftShort_train (hu : s.untrained = true) (ht : trainHeader h = true) (d : List Nat) (k : Option Nat) :
    s.leftShort h d k = s := by
  have hgood : s.leftShort h d k = s.shortAccess h d k := if_pos (by simp [hu, ht])
  simp only [trainHeader, Bool.and_eq_true, beq_iff_eq] at ht
  obtain ⟨⟨⟨-, hop⟩, -⟩, -⟩ := ht
  rw [hgood]
  simp [State.shortAccess, hop]

theorem exec_short_header (hl : s.linkOn = true) (d : List (BitVec 8)) (k : Option (BitVec 16)) :
    exec (.shortTransaction none d k) s = .next { s.linkBegin.linkErr LINK.ERR_SHORT with reply := [] } := by
  show execShortTransaction none d k s = _
  simp [execShortTransaction, linkBegin_of_on hl, hl, State.silent]

theorem exec_short (hl : s.linkOn = true) (d : List (BitVec 8)) (k : Option (BitVec 16)) :
    exec (.shortTransaction (some h) d k) s =
      .next { (s.linkBegin.leftShort h (d.map (·.toNat)) (k.map (·.toNat))).linkErr LINK.ERR_SHORT with reply := [] } := by
  show execShortTransaction (some h) d k s = _
  have hon : s.linkBegin.linkOn = true := by rw [linkBegin_of_on hl]; exact hl
  simp only [execShortTransaction, State.leftShort, hon, Bool.not_true, Bool.false_eq_true, if_false]
  cases s.linkBegin.untrained && trainHeader h <;> rfl

end

/-! ### Transactions that time out (R166, R190) -/

section
variable {s : State} {h : Header} (hl : s.linkOn = true) (he : s.headerErrs h = []) (d : List (BitVec 8)) (c : BitVec 16)
  {done : BitVec 16} (hd : done.toNat ≤ h.len.toNat)
include hl he hd

theorem exec_timeout_read (ho : headerOp h = 1) (h1 : 1 ≤ done.toNat) :
    let r := s.linkBegin.access h.addr.toNat done.toNat
    let x := r.1.linkErr LINK.ERR_TIMEOUT
    exec (.transactionTimeout h d c done) s = .next (x.send (rankStatus [r.2.2, stTimeout])
      (x.withCrc (r.2.1 ++ List.replicate (h.len.toNat - r.2.1.length) 0))) := by
  have h0 : done.toNat ≠ 0 := by omega
  show execTransactionTimeout h d c done s = _
  simp [execTransactionTimeout, linkBegin_of_on hl, hl, he, ho, Nat.min_eq_left hd, h0]

/-- A WRITE that times out with good data: protected memory refuses it, and else its first bytes are stored. -/
theorem exec_timeout_write (ho : headerOp h = 2) (hc : s.rd LINK.ACTIVE_DCRC = 0) :
    let r := s.linkBegin.store h.addr.toNat ((d.map (·.toNat)).take done.toNat)
    exec (.transactionTimeout h d c done) s = .next
      (if inRegSpace h.addr.toNat = false ∧ s.isProtected h.addr.toNat h.len.toNat = true then s.linkBegin.send stBusy []
        else (r.1.linkErr LINK.ERR_TIMEOUT).send (rankStatus [r.2, stTimeout]) []) := by
  have hcrc : s.linkBegin.badDcrc (d.map (·.toNat)) c.toNat = false := by
    rw [linkBegin_of_on hl]
    exact badDcrc_eq_false (.inl hc)
  have hon : s.linkBegin.linkOn = true := by rw [linkBegin_of_on hl]; exact hl
  have herr : s.linkBegin.headerErrs h = [] := by rw [linkBegin_of_on hl]; exact he
  have hprot : s.linkBegin.isProtected h.addr.toNat h.len.toNat = s.isProtected h.addr.toNat h.len.toNat := by
    rw [linkBegin_of_on hl]
    rfl
  show execTransactionTimeout h d c done s = _
  simp only [execTransactionTimeout, hon, herr, hcrc, hprot, ho, Nat.min_eq_left hd]
  cases inRegSpace h.addr.toNat <;> cases s.isProtected h.addr.toNat h.len.toNat <;> rfl

end

/-! ### The statement -/

/-- Settles O49: each clause is the equation of its transaction, of its header's errors, or of the access that it makes. -/
theorem linkTransactions : Obligations.LinkTransactions := by
  refine ⟨fun s => ⟨fun hb he hr h0 => csFall_of_entering hb he hr h0, fun h => ?quiet, linkBegin_of_on⟩,
    fun s hl h o d c k b => exec_silent hl h o d c k b, fun s n l => rfl, fun s f hf => ?errs,
    fun s h c f hc => refuse_singleton s h hc f, fun h s => ⟨headerErrs_sync, headerErrs_crc, ?untrained, ?good⟩,
    fun h s hl => ?whole, fun s a n hn h hu => access_sram hn h hu, fun s a l hl h hp hu => store_sram hl h hp hu,
    fun s hl d k => ⟨exec_short_header hl d k, fun h => ?short⟩, fun h d c done s hl he hd => ?timeout⟩
  case quiet => exact ⟨csFall_of_not h, linkOn_linkBegin_of_csFall (csFall_of_not h)⟩
  case errs => exact ⟨rd_linkErr s hf, errCount_linkErr s hf, only_linkErr (only_refl _ s)⟩
  case untrained => exact fun hs hc hu => headerErrs_untrained hs hc (untrained_iff.mpr hu)
  case good =>
    intro hs hc h2 h4
    have hu : s.untrained = false := by simp [State.untrained, h2, h4]
    obtain ⟨hnone, hpoll, htrain, hrange⟩ := headerErrs_good (s := s) hs hc hu
    refine ⟨hnone, hpoll, htrain, fun ho ha hn => ?_, fun ho h1 h2 ha => ?_, fun ho h1 h2 h4 hlo hhi => ?_⟩
    · rw [hrange (.inl ho), rangeErrs_len ha (hn.imp (fun h => by simp [h]) id)]
    · rw [hrange ho, rangeErrs_memory h1 h2 ha]
    · rw [hrange ho, rangeErrs_words h1 h2 h4 hlo hhi]
  case whole =>
    have hrefused (he : s.headerErrs h ≠ []) (d : List (BitVec 8)) (c : BitVec 16) := exec_refused hl he d c
    refine ⟨exec_poll_good hl, fun ho he => (hrefused he [] 0).1 ho, fun ho he => (hrefused he [] 0).2.1 ho, fun ho he => ?_,
      fun d c => ⟨fun ho he => (hrefused he d c).2.2 ho, fun ho he => ⟨fun hd hc => ?_, fun hc => ?_⟩⟩⟩
    · rw [exec_read_good hl ho he, State.doRead]
      simp only [beq_iff_eq]
      rfl
    · rw [exec_write_good hl ho he d c, State.doWrite, linkBegin_of_on hl, if_pos (badDcrc_eq_true (s := s.idleRestart) hd hc)]
    · rw [exec_write_good hl ho he d c, State.doWrite, linkBegin_of_on hl,
        if_neg (by rw [badDcrc_eq_false (s := s.idleRestart) hc]; exact Bool.false_ne_true)]
  case short =>
    refine ⟨_, exec_short hl d k, fun he ht => ?_, fun he hk ho => ?_, fun hu ht => ?_, fun he ho => ?_, fun c he ho hk => ?_⟩ <;>
      rw [linkBegin_of_on hl]
    · exact leftShort_refused (s := s.idleRestart) he ht _ _
    · rw [leftShort_good (s := s.idleRestart) he, State.shortAccess]
      by_cases h2 : headerOp h = 2
      · simp [h2, hk h2]
      · simp [h2, ho]
    · exact leftShort_train (s := s.idleRestart) hu ht _ _
    · rw [leftShort_good (s := s.idleRestart) he, State.shortAccess, if_pos (by simp [ho])]
    · rw [leftShort_good (s := s.idleRestart) he, State.shortAccess]
      simp [ho, hk]
  case timeout =>
    refine ⟨fun ho h1 => exec_timeout_read hl he d c hd ho h1, fun ho hc ha hp => ?_, fun ho hc ha => ?_⟩ <;>
      refine (exec_timeout_write hl he d c hd ho hc).trans (congrArg Host.Outcome.next ?_)
    · have hspace : inRegSpace h.addr.toNat = false := by simp [inRegSpace]; omega
      exact if_pos ⟨hspace, hp⟩
    · refine if_neg fun hcond => ?_
      simp [hcond] at ha

end Sys2Proof.Machine
end

section
/-! PROOFS. The resources of RASTER: the scan of the store, the commits of RES_WIN, and the check of a registration. -/

namespace Sys2Proof.Machine

/-! ### The result of a registration (R347) -/

theorem only_resResult (s : State) (r : Nat) : Safety.only [RASTER.RES_STAT_PENDING, RASTER.RES_STAT_RESULT, RASTER.RES_STAT_DONE,
    VEC.PENDING_PENDING] s (s.resResult r) :=
  only_rodVec (only_wr (only_wr (only_wr (only_refl _ s) (by simp)) (by simp)) (by simp)) (by simp)

theorem rd_resResult (s : State) {r : Nat} (hr : r < 16) : (s.resResult r).rd RASTER.RES_STAT_RESULT = r ∧
    (s.resResult r).rd RASTER.RES_STAT_DONE = 1 ∧ (s.resResult r).rd RASTER.RES_STAT_PENDING = 0 := by
  simp (disch := decide) only [State.resResult, State.rodVec, rd_vec, State.rd_wr_apart, State.rd_wr]
  exact ⟨Nat.mod_eq_of_lt hr, rfl, rfl⟩

/-! ### Commits of RES_WIN (R185, R347) -/

section
variable {s : State} {w : Word}

/-- The lanes written so far are taken by a commit. -/
def State.winTaken (s : State) : State := { s with raster := { s.raster with win := {} } }

/-- RES_WIN as a commit finds it. -/
def State.committed (s : State) (w : Word) : Window := { s.raster.win with mask := s.raster.win.mask ||| 8, w3 := w.toNat }

/-- A registration as its commit describes it; bits that must be 0 and are not show in `store`. -/
def Window.res (x : Window) : Res :=
  { ty := x.w0 / 65536 % 256, id := x.w0 % 65536, store := x.w0 / 2 ^ 24 != 0 || x.w3 != 0, addr := x.w1, len := x.w2 }

/-- Every bit of a removal that must be 0 is. -/
def Window.clean (x : Window) : Bool := x.w0 / 2 ^ 24 % 128 == 0 && x.w1 < 2 ^ 23 && x.w3 == 0

/-- The table without the entry of a TYPE and ID. -/
def State.tableBut (s : State) (ty id : Nat) : List Res := s.raster.table.filter fun r => !(r.ty == ty && r.id == id)

/-- The table is another, and STAT shows how many entries it has. -/
def State.withTable (s : State) (l : List Res) : State :=
  { s with raster := { s.raster with table := l } }.wr RASTER.STAT_RES_USED l.length

theorem writeResWin_commit (hp : s.rd RASTER.RES_STAT_PENDING = 0) :
    (s.writeResWin 3 w).1 =
      s.winTaken.resCommit (if s.raster.win.mask ||| 8 = 15 then some (s.committed w) else none) := by
  simp [State.writeResWin, flag_of_rd_zero hp, Window.put, State.winTaken, State.committed]

theorem writeResWin_busy (hp : s.rd RASTER.RES_STAT_PENDING = 1) : (s.writeResWin 3 w).1 = s := by
  simp [State.writeResWin, flag_of_rd_one hp]

theorem resCommit_register {x : Window} (h : x.w0 < 2 ^ 31) : s.resCommit (some x) =
    { s with raster := { s.raster with checking := some x.res } }.wr RASTER.RES_STAT_PENDING 1 :=
  if_neg (by simp only [beq_iff_eq]; omega)

theorem clean_committed (s : State) (w : Word) : (s.committed w).clean =
    (s.raster.win.w0 / 2 ^ 24 % 128 == 0 && s.raster.win.w1 < 2 ^ 23 && w == 0#32) := by
  have hw : (w.toNat == 0) = (w == 0#32) := by
    rw [Bool.eq_iff_iff, beq_iff_eq, beq_iff_eq]
    exact ⟨fun h => BitVec.eq_of_toNat_eq h, congrArg BitVec.toNat⟩
  exact congrArg (_ && ·) hw

theorem resCommit_remove {x : Window} (h : x.w0 / 2 ^ 31 = 1) : s.resCommit (some x) =
    let keep := s.tableBut (x.w0 / 65536 % 256) (x.w0 % 65536)
    if x.clean = false then s.resResult 2
    else if keep.length = s.raster.table.length then s.resResult 6
    else (s.withTable keep).resResult 0 := by
  have hhigh : (x.w1 / 2 ^ 23 != 0) = !decide (x.w1 < 2 ^ 23) := by
    rw [Bool.eq_iff_iff]
    simp
  have hclean : (x.w0 / 2 ^ 24 % 128 != 0 || x.w1 / 2 ^ 23 != 0 || x.w3 != 0) = !x.clean := by
    rw [hhigh, Window.clean, Bool.not_and, Bool.not_and]
    rfl
  simp only [State.resCommit, h, hclean, beq_self_eq_true, if_true, beq_iff_eq, Bool.not_eq_true']
  rfl

/-- Both commands write lane 3, each where RES_WIN0 names it, with the idle count restarted. -/
theorem exec_resCommand (hs : Safety.takes s .raster) :
    exec (.resRegister w) s = .next (if s.raster.win.w0 / 2 ^ 31 = 0 then (s.idleRestart.writeResWin 3 w).1 else s) ∧
    exec (.resRemove w) s = .next (if s.raster.win.w0 / 2 ^ 31 = 1 then (s.idleRestart.writeResWin 3 w).1 else s) := by
  have hwrite := hostReg_takes hs fun s => (s.writeResWin 3 w).1
  constructor
  · show execResRegister w s = _
    simp only [execResRegister, beq_iff_eq, hwrite, apply_ite Host.Outcome.next]
  · show execResRemove w s = _
    simp only [execResRemove, beq_iff_eq, hwrite, apply_ite Host.Outcome.next]

theorem commit_idleRestart (hp : s.rd RASTER.RES_STAT_PENDING = 0) : (s.idleRestart.writeResWin 3 w).1 =
    s.idleRestart.winTaken.resCommit (if s.raster.win.mask ||| 8 = 15 then some (s.committed w) else none) :=
  writeResWin_commit (s := s.idleRestart) hp

end

/-! ### What a check reads (R341 to R344) -/

/-- A resource is checked by its bytes alone, which no register write changes. -/
theorem checkRes_of_only {ws : List Fld} {s t : State} (h : Safety.only ws s t) (r : Res) : t.checkRes r = s.checkRes r := by
  have hview : t.resView r = s.resView r := by
    rw [h.1]
    rfl
  simp only [State.checkRes, hview]

theorem flashBytes_congr {s t : State} (h : t.flash = s.flash) (a n : Nat) : t.flashBytes a n = s.flashBytes a n := by
  induction n generalizing a with
  | zero => rfl
  | succ n ih => rw [State.flashBytes, State.flashBytes, h, ih]

theorem only_flashRead (s : State) : Safety.only [FLASH.SUSPENDS_COUNT] s s.flashRead :=
  only_ite (only_bump (only_refl _ s)) (only_refl _ s)

/-! ### The scan of the store (R344, R345) -/

/-- How many resources the store's directory names. -/
def State.dirCount (s : State) : Nat := leNat (s.flashBytes (s.storeBase + 4) 2)

/-- The entries of the store's directory, 16 bytes each. -/
def State.dirEntries (s : State) : List Nat := s.flashBytes (s.storeBase + 0x10) (16 * s.dirCount)

/-- The directory passes every check of its own. -/
def State.dirOk (s : State) : Bool :=
  let head := s.flashBytes s.storeBase 12
  leNat (head.take 4) == 0x4453424D && s.dirCount ≤ 255 && leNat ((head.drop 6).take 2) == 1 && leNat (head.drop 8) == 0 &&
    crc32 (head ++ s.dirEntries) == leNat (s.flashBytes (s.storeBase + 12) 4)

/-- Entry `k` of the directory, and the resource that it names. -/
def State.dirEntry (s : State) (k : Nat) : List Nat := (s.dirEntries.drop (16 * k)).take 16
def State.dirRes (s : State) (k : Nat) : Res :=
  { ty := u8 (s.dirEntry k) 0, id := u16 (s.dirEntry k) 2, store := true, addr := s.storeBase + u32 (s.dirEntry k) 4,
    len := u32 (s.dirEntry k) 8 }

/-- The resource of entry `k` passes every check. -/
def State.dirGood (s : State) (k : Nat) : Bool :=
  let r := s.dirRes k
  (r.ty == 1 || r.ty == 2) && u8 (s.dirEntry k) 1 == 0 && u32 (s.dirEntry k) 12 == 0 && r.addr + r.len ≤ s.storeEnd &&
    s.checkRes r == 0

/-- The resources that a scan keeps. -/
def State.storeKept (s : State) : List Res := ((List.range s.dirCount).filter s.dirGood).map s.dirRes

/-- STAT shows a scan's end, and the resources it kept are found from now on. -/
def State.storeShown (s : State) (kept : List Res) (st rejected : Nat) : State :=
  (({ s with raster := { s.raster with store := kept } }.wr RASTER.STAT_STORE st).wr RASTER.STAT_STORE_ENTRIES kept.length).wr
    RASTER.STAT_STORE_REJECTED rejected

/-- What a scan leaves before readiness is brought into step. -/
def State.storeScanned (s : State) : State :=
  if s.dirOk then s.flashRead.storeShown s.storeKept 2 (s.dirCount - s.storeKept.length) else s.flashRead.storeShown [] 3 0

theorem foldl_append_if {α β : Type} (p : α → Bool) (f : α → β) (l : List α) (acc : List β) :
    l.foldl (fun acc k => if p k then acc ++ [f k] else acc) acc = acc ++ (l.filter p).map f := by
  induction l generalizing acc with
  | nil => simp
  | cons a l ih => cases h : p a <;> simp [h, ih]

theorem length_storeKept_le (s : State) : s.storeKept.length ≤ s.dirCount := by
  have := List.length_filter_le s.dirGood (List.range s.dirCount)
  simpa [State.storeKept] using this

theorem mem_storeKept {s : State} {r : Res} (h : r ∈ s.storeKept) :
    (r.ty = 1 ∨ r.ty = 2) ∧ r.addr + r.len ≤ s.storeEnd ∧ s.checkRes r = 0 := by
  obtain ⟨k, hk, rfl⟩ := List.mem_map.mp h
  have hgood := (List.mem_filter.mp hk).2
  simp only [State.dirGood, Bool.and_eq_true, Bool.or_eq_true, beq_iff_eq, decide_eq_true_eq] at hgood
  obtain ⟨⟨⟨⟨hty, -⟩, -⟩, hend⟩, hcheck⟩ := hgood
  exact ⟨hty, hend, hcheck⟩

theorem dirCount_le_of_ok {s : State} (h : s.dirOk = true) : s.dirCount ≤ 255 := by
  simp only [State.dirOk, Bool.and_eq_true, decide_eq_true_eq] at h
  obtain ⟨⟨⟨⟨-, hcount⟩, -⟩, -⟩, -⟩ := h
  exact hcount

section
variable (s : State)

theorem storeBase_flashRead : s.flashRead.storeBase = s.storeBase := by
  rw [State.storeBase, State.flag, (only_flashRead s).2.1 FLASH.STAT_GEOM (by decide)]
  rfl

theorem storeEnd_flashRead : s.flashRead.storeEnd = s.storeEnd := by
  simp only [State.storeEnd, (only_flashRead s).2.1 FLASH.STAT_SIZE_MIB (by decide)]

theorem flashBytes_flashRead (a n : Nat) : s.flashRead.flashBytes a n = s.flashBytes a n :=
  flashBytes_congr (by rw [(only_flashRead s).1]) a n

end

theorem exec_storeScan {s : State} (ha : s.awake = true) (hf : s.ready .flash = true) (hi : s.imageApplied = true)
    (hh : s.flashHeld = false) : exec .storeScan s = .next s.storeScanned.settle := by
  show execStoreScan s = _
  have hkept : s.storeKept = (List.range s.dirCount).foldl (fun acc k => if s.dirGood k then acc ++ [s.dirRes k] else acc) [] :=
    (foldl_append_if s.dirGood s.dirRes _ []).symm
  simp only [execStoreScan, ha, hf, hi, hh, Bool.and_self, Bool.not_false, if_true, flashBytes_flashRead, storeBase_flashRead,
    storeEnd_flashRead, checkRes_of_only (only_flashRead s)]
  rw [State.storeScanned, hkept]
  cases hok : s.dirOk with
  | false => exact if_pos (congrArg (!·) hok)
  | true => exact if_neg fun hc => Bool.false_ne_true ((congrArg (!·) hok).symm.trans hc)

theorem only_storeShown (s : State) (kept : List Res) (st rejected : Nat) :
    Safety.only [RASTER.STAT_STORE, RASTER.STAT_STORE_ENTRIES, RASTER.STAT_STORE_REJECTED]
      { s with raster := { s.raster with store := kept } } (s.storeShown kept st rejected) :=
  only_wr (only_wr (only_wr (only_refl _ _) (by simp)) (by simp)) (by simp)

theorem rd_storeShown (s : State) {kept : List Res} {st rejected : Nat} (hst : st < 4) (hk : kept.length < 256)
    (hr : rejected < 256) : let x := s.storeShown kept st rejected
    x.rd RASTER.STAT_STORE = st ∧ x.rd RASTER.STAT_STORE_ENTRIES = kept.length ∧ x.rd RASTER.STAT_STORE_REJECTED = rejected := by
  simp (disch := decide) only [State.storeShown, State.rd_wr_apart, State.rd_wr]
  exact ⟨Nat.mod_eq_of_lt hst, Nat.mod_eq_of_lt hk, Nat.mod_eq_of_lt hr⟩

theorem raster_flashRead (s : State) : s.flashRead.raster = s.raster := by rw [(only_flashRead s).1]

theorem only_storeScanned (s : State) : Safety.only [RASTER.STAT_STORE, RASTER.STAT_STORE_ENTRIES, RASTER.STAT_STORE_REJECTED]
    { s.flashRead with raster := { s.raster with store := s.storeScanned.raster.store } } s.storeScanned := by
  rw [← raster_flashRead]
  unfold State.storeScanned
  split
  · exact only_storeShown s.flashRead s.storeKept 2 _
  · exact only_storeShown s.flashRead [] 3 0

/-! ### The end of a registration's check (R347) -/

section
variable {s : State} {r : Res}

theorem rd_withTable (s : State) {l : List Res} (h : l.length < 64) : (s.withTable l).rd RASTER.STAT_RES_USED = l.length :=
  rd_wr_of_lt _ ⟨h, by decide⟩

theorem only_withTable (s : State) (l : List Res) :
    Safety.only [RASTER.STAT_RES_USED] { s with raster := { s.raster with table := l } } (s.withTable l) :=
  only_wr (only_refl _ _) (by simp)

/-- No check of a registration runs any more. -/
def State.checkEnded (s : State) : State := { s with raster := { s.raster with checking := none } }

/-- The registration does not describe a resource in memory that RASTER may use. -/
def State.resMisplaced (s : State) (r : Res) : Bool :=
  r.store || !(r.ty == 1 || r.ty == 2) || r.addr % 4 != 0 || !s.rasterRange r.addr r.len

/-- The state in which the bytes of a registration have been read. -/
def State.resRead (s : State) (r : Res) : State := (s.checkEnded.readMem .sram r.addr r.len).1

/-- What the end of a registration's check leaves. -/
def State.registered (s : State) (r : Res) : State :=
  if s.resMisplaced r then s.checkEnded.resResult 2
  else if s.checkRes r != 0 then (s.resRead r).resResult (s.checkRes r)
  else if 32 ≤ (s.tableBut r.ty r.id).length then (s.resRead r).resResult 5
  else ((s.resRead r).withTable (s.tableBut r.ty r.id ++ [r])).resResult 0

theorem exec_registrationDone (h : s.raster.checking = some r) : exec .registrationDone s = .next (s.registered r) := by
  show execRegistrationDone s = _
  rw [execRegistrationDone, h, State.registered, apply_ite Host.Outcome.next, apply_ite Host.Outcome.next,
    apply_ite Host.Outcome.next]
  rfl

end

/-! ### The statement -/

/-- Settles O28: the scan, each commit and the end of a check by the equation of their case, with what STAT then shows. -/
theorem rasterResources : Obligations.RasterResources := by
  refine ⟨fun s ha hf hi hh => ?scan, fun s r hr => ?result, fun w s hs hp hw => ?register, fun w s hs hp hw hm => ?remove,
    fun w s hs hp => ?busy, fun s r hr => ?done⟩
  case scan =>
    refine ⟨s.storeScanned, exec_storeScan ha hf hi hh, fun hok => ?_, fun hok => ?_, only_storeScanned s⟩
    · obtain ⟨hst, hentries, hrejected⟩ := rd_storeShown s.flashRead (kept := []) (st := 3) (rejected := 0) (by decide)
        (by decide) (by decide)
      rw [State.storeScanned, if_neg (by rw [show s.dirOk = false from hok]; exact Bool.false_ne_true)]
      exact ⟨hst, hentries, hrejected, rfl⟩
    · have hn := dirCount_le_of_ok (s := s) hok
      have hle := length_storeKept_le s
      obtain ⟨hst, hentries, hrejected⟩ := rd_storeShown s.flashRead (kept := s.storeKept) (st := 2)
        (rejected := s.dirCount - s.storeKept.length) (by decide) (by omega) (by omega)
      rw [State.storeScanned, if_pos (show s.dirOk = true from hok)]
      refine ⟨hst, hentries, ?_, fun r => mem_storeKept⟩
      rw [hrejected]
      exact Nat.sub_add_cancel hle
  case result =>
    obtain ⟨hresult, hdone, hpending⟩ := rd_resResult s hr
    exact ⟨hresult, hdone, hpending, only_resResult s r⟩
  case register =>
    rw [(exec_resCommand hs).1, if_pos (Nat.div_eq_of_lt hw), commit_idleRestart hp]
    refine ⟨fun hm => ?_, fun hm => ?_⟩
    · rw [if_neg hm]
      rfl
    · rw [if_pos hm]
      exact ⟨_, congrArg Host.Outcome.next (resCommit_register hw), rd_wr_of_lt _ (by decide), rfl, only_wr (only_refl _ _)⟩
  case remove =>
    intro keep t clean
    have hclean : (s.committed w).clean = clean := clean_committed s w
    rw [(exec_resCommand hs).2, if_pos hw, commit_idleRestart hp, if_pos hm, resCommit_remove (x := s.committed w) hw, hclean]
    refine ⟨fun hc => ?_, fun hc hk => ?_, fun hc hk hlt => ?_⟩
    · rw [if_pos hc]
      rfl
    · simp only [if_neg (show ¬clean = false by simp [hc])]
      exact congrArg Host.Outcome.next (if_pos hk)
    · simp only [if_neg (show ¬clean = false by simp [hc])]
      exact ⟨t.withTable keep, congrArg Host.Outcome.next (if_neg hk), rd_withTable t hlt, only_withTable t keep⟩
  case busy =>
    have hsame : (s.idleRestart.writeResWin 3 w).1 = s.idleRestart := writeResWin_busy (s := s.idleRestart) hp
    rw [(exec_resCommand hs).1, (exec_resCommand hs).2, hsame]
    exact ⟨rfl, rfl⟩
  case done =>
    intro t others place
    have hplace : s.resMisplaced r = !place := (Bool.not_not _).symm
    rw [exec_registrationDone hr, State.registered, hplace]
    refine ⟨fun hp => ?_, fun hp hc => ?_, fun hp hc hl => ?_, fun hp hc hl => ?_⟩ <;> rw [hp]
    · rfl
    · rw [if_neg (by simp), if_pos (by simpa using hc)]
      rfl
    · rw [if_neg (by simp), if_neg (by simp [hc])]
      exact congrArg Host.Outcome.next (if_pos hl)
    · rw [if_neg (by simp), if_neg (by simp [hc])]
      have hlen : (others ++ [r]).length = others.length + 1 := by simp
      refine ⟨(s.resRead r).withTable (others ++ [r]), congrArg Host.Outcome.next (if_neg (Nat.not_le.mpr hl)), ?_,
        only_withTable _ _⟩
      rw [rd_withTable _ (by omega), hlen]

end Sys2Proof.Machine
end

section
/-! PROOFS. The registers of a queue pair, the entry of a completion in its ring, and what the end of a command leaves. -/

namespace Sys2Proof.Machine

-- In parallel these proofs take more memory than the check allows.
set_option Elab.async false

/-! ### The registers of a queue pair (R195) -/

theorem Fld.apart_comm (f g : Fld) : f.apart g = g.apart f := by
  simp only [Fld.apart, bne, Bool.beq_comm (a := f.addr), Bool.or_assoc, Bool.or_comm (decide (f.lo + f.wid ≤ g.lo))]

/-- Two fields of one pair lie apart where they are in different registers, or in different bits of one. -/
theorem apart_queue {a b lo wid lo' wid' i : Nat}
    (h : a ≠ b ∨ lo + wid ≤ lo' ∨ lo' + wid' ≤ lo := by decide) :
    Fld.apart ⟨a + 0x20 * (i % 16), lo, wid⟩ ⟨b + 0x20 * (i % 16), lo', wid'⟩ = true := by
  simpa [Fld.apart, or_assoc] using h

/-- The fields of one register of two pairs lie apart. -/
theorem apart_other_queue {a lo wid lo' wid' i j : Nat} (h : i % 16 ≠ j % 16) :
    Fld.apart ⟨a + 0x20 * (i % 16), lo, wid⟩ ⟨a + 0x20 * (j % 16), lo', wid'⟩ = true := by
  simp [Fld.apart, h]

/-- A register outside the blocks of the pairs lies apart from theirs. -/
theorem apart_of_not_queue {f : Fld} {a lo wid i : Nat} (hf : f.addr < 0x40100100 ∨ 0x40100300 ≤ f.addr := by decide)
    (ha : 0x40100100 ≤ a ∧ a < 0x40100120 := by decide) : f.apart ⟨a + 0x20 * (i % 16), lo, wid⟩ = true := by
  have hne : f.addr ≠ a + 0x20 * (i % 16) := by omega
  simp [Fld.apart, hne]

theorem queue_apart_of_not_queue {f : Fld} {a lo wid i : Nat} (hf : f.addr < 0x40100100 ∨ 0x40100300 ≤ f.addr := by decide)
    (ha : 0x40100100 ≤ a ∧ a < 0x40100120 := by decide) : Fld.apart ⟨a + 0x20 * (i % 16), lo, wid⟩ f = true :=
  (Fld.apart_comm _ _).trans (apart_of_not_queue hf ha)

/-- A field of a pair reads what was written to it where it fits. -/
theorem rd_wr_queue (s : State) {a lo wid i v : Nat} (h : v < 2 ^ wid) (hl : lo + wid ≤ 32 := by decide) :
    (s.wr ⟨a + 0x20 * (i % 16), lo, wid⟩ v).rd ⟨a + 0x20 * (i % 16), lo, wid⟩ = v :=
  rd_wr_of_lt s ⟨h, hl⟩

/-- A pair is enabled where Qq_CFG.EN reads 1. -/
theorem qEn_iff {s : State} {q : Nat} : s.qEn q = true ↔ s.rd (VEC.Q_CFG_EN q) = 1 := by
  rw [State.qEn, flag_eq_beq_one s rfl, beq_iff_eq]

theorem qEn_eq_false_iff {s : State} {q : Nat} : s.qEn q = false ↔ s.rd (VEC.Q_CFG_EN q) = 0 := by
  simp [State.qEn, State.flag]

theorem depth_lt (s : State) (q : Nat) : s.depth q < 512 := State.rd_lt s (VEC.Q_CFG_DEPTH q)

/-! ### The entry of a completion (R203) -/

/-- The bytes of a completion's entry in the ring of queue `q`. -/
def State.complEntry (s : State) (q : Nat) (c : Compl) : List Nat :=
  leBytes 2 c.cmdId ++ [c.status, s.rd (VEC.Q_CQ_IDX_PHASE q) + 16 * c.origin] ++ leBytes 2 (s.rd (VEC.Q_SQ_IDX_HEAD q)) ++ [0, 0] ++
    leBytes 4 c.r0 ++ leBytes 4 c.r1

/-- The protected word of main SRAM in which the next completion of queue `q` is written. -/
def State.complWord (s : State) (q : Nat) : Nat := 4 * s.rd (VEC.Q_CQ_BASE_ADDR q) + s.rd (VEC.Q_CQ_IDX_TAIL q)

theorem complWord_mul (s : State) (q : Nat) : 16 * s.complWord q = s.cqBase q + 16 * s.rd (VEC.Q_CQ_IDX_TAIL q) := by
  simp only [State.complWord, State.cqBase]
  omega

/-- An entry that fills one protected word stores it, with new check bits, and reads nothing (R252). -/
theorem writeMem_whole_word (s : State) (w : Nat) {bs : List Nat} (h : bs.length = 16) :
    s.writeMem .sram (16 * w) bs = (s.poke .sram (16 * w) bs).clearEcc .sram w := by
  have hlast : (16 * w + 15) / 16 = w := by omega
  have hwords : Ram.sram.words (16 * w) 16 = [w] := by simp [Ram.words, Ram.word, hlast]
  have hpart : bs.take 16 = bs := List.take_of_length_le (Nat.le_of_eq h)
  simp [State.writeMem, h, hwords, State.writeWord, Ram.word, hpart]

/-- The bytes stored without a check, each where it belongs. -/
theorem get_putBytes (c : Store Byte) (a : Nat) (bs : List Nat) (x : Nat) : (Store.get 0 (putBytes c a bs) x).toNat =
    if a ≤ x ∧ x < a + bs.length then bs.getD (x - a) 0 % 256 else (Store.get 0 c x).toNat := by
  induction bs generalizing c a with
  | nil => rw [if_neg (by simp), putBytes]
  | cons b bs ih =>
    rw [putBytes, ih, List.length_cons]
    by_cases hx : x = a
    · subst hx
      rw [if_neg (by omega), if_pos (by omega), Store.get_set_same, Nat.sub_self, List.getD_cons_zero, BitVec.toNat_ofNat]
    · rw [Store.get_set_ne _ _ _ hx]
      by_cases hin : a + 1 ≤ x ∧ x < a + 1 + bs.length
      · rw [if_pos hin, if_pos (by omega), show x - a = x - (a + 1) + 1 by omega, List.getD_cons_succ]
      · rw [if_neg hin, if_neg (by omega)]

/-- The entry of a completion stands in its ring. -/
def State.complStored (s : State) (q : Nat) (c : Compl) : State :=
  (s.poke .sram (16 * s.complWord q) (s.complEntry q c)).clearEcc .sram (s.complWord q)

theorem byte_complStored (s : State) (q : Nat) (c : Compl) (a : Nat) : (s.complStored q c).byte .sram a =
    if 16 * s.complWord q ≤ a ∧ a < 16 * s.complWord q + 16 then (s.complEntry q c).getD (a - 16 * s.complWord q) 0 % 256
    else s.byte .sram a :=
  get_putBytes s.sram _ (s.complEntry q c) a

/-! ### The completion tail and the count of R219 -/

/-- The completion tail of queue `q` advances; at the end of the ring it returns to 0 and the phase changes (R204). -/
def State.tailNext (s : State) (q : Nat) : State :=
  if s.rd (VEC.Q_CQ_IDX_TAIL q) + 1 = s.depth q then
    (s.wr (VEC.Q_CQ_IDX_TAIL q) 0).wr (VEC.Q_CQ_IDX_PHASE q) (1 - s.rd (VEC.Q_CQ_IDX_PHASE q))
  else s.wr (VEC.Q_CQ_IDX_TAIL q) (s.rd (VEC.Q_CQ_IDX_TAIL q) + 1)

theorem only_tailNext (s : State) (q : Nat) : Safety.only [VEC.Q_CQ_IDX_TAIL q, VEC.Q_CQ_IDX_PHASE q] s (s.tailNext q) :=
  only_ite (only_wr (only_wr (only_refl _ s))) (only_wr (only_refl _ s))

theorem rd_tailNext {s : State} {q : Nat} (h : s.rd (VEC.Q_CQ_IDX_TAIL q) < s.depth q) :
    (s.tailNext q).rd (VEC.Q_CQ_IDX_TAIL q) =
        (if s.rd (VEC.Q_CQ_IDX_TAIL q) + 1 = s.depth q then 0 else s.rd (VEC.Q_CQ_IDX_TAIL q) + 1) ∧
      (s.tailNext q).rd (VEC.Q_CQ_IDX_PHASE q) =
        if s.rd (VEC.Q_CQ_IDX_TAIL q) + 1 = s.depth q then 1 - s.rd (VEC.Q_CQ_IDX_PHASE q) else s.rd (VEC.Q_CQ_IDX_PHASE q) := by
  have hdepth := depth_lt s q
  unfold State.tailNext
  split
  · exact ⟨(State.rd_wr_apart _ _ _ _ apart_queue).trans (rd_wr_queue s (Nat.two_pow_pos _)),
      rd_wr_queue _ (show _ < 2 by omega)⟩
  · exact ⟨rd_wr_queue s (show _ < 512 by omega), State.rd_wr_apart _ _ _ _ apart_queue⟩

/-- The vector of a queue changes VEC.PENDING, and resets the queue's count. -/
theorem only_queueVec (s : State) (q : Nat) :
    Safety.only [VEC.PENDING_PENDING] { s with queues := (s.queueVec q).queues } (s.queueVec q) := by
  have h := only_vec (v := q) (only_refl [VEC.PENDING_PENDING] s)
  refine ⟨?_, h.2⟩
  rw [State.queueVec, h.1]

/-- The completions that queue `q` has counted, with the one that comes. -/
def State.complCount (s : State) (q : Nat) : Nat := (s.queues.getD q {}).count + 1

/-- A completion sets its queue's vector: enough have come, it is not OK, or it is to be told now (R219). -/
def State.complTold (s : State) (q : Nat) (c : Compl) : Bool :=
  s.complCount q ≥ max 1 (s.rd (VEC.Q_COAL_COUNT q)) || c.status != stOK || c.now

theorem complTold_iff {s : State} {q : Nat} {c : Compl} : s.complTold q c = true ↔
    max 1 (s.rd (VEC.Q_COAL_COUNT q)) ≤ s.complCount q ∨ c.status ≠ stOK ∨ c.now = true := by
  simp only [State.complTold, Bool.or_eq_true, decide_eq_true_eq, bne_iff_ne, or_assoc, ge_iff_le]

/-- A completion of queue `q` sets the queue's vector, or is counted towards it. -/
def State.complCounted (s : State) (q : Nat) (c : Compl) : State :=
  if s.complTold q c then s.queueVec q else s.modQueue q fun u => { u with count := s.complCount q }

theorem complCounted_spec (s : State) (q : Nat) (c : Compl) :
    Safety.only [VEC.PENDING_PENDING] { s with queues := (s.complCounted q c).queues } (s.complCounted q c) ∧
      (s.complCounted q c).rd VEC.PENDING_PENDING =
        if s.complTold q c then (s.vec q).rd VEC.PENDING_PENDING else s.rd VEC.PENDING_PENDING := by
  unfold State.complCounted
  cases s.complTold q c
  · exact ⟨only_refl _ _, rfl⟩
  · exact ⟨only_queueVec s q, rfl⟩

/-- R203, R204, R219: the entry is stored, the tail advances, and the completion is counted or told. -/
theorem writeCompl_eq (s : State) (q : Nat) (c : Compl) :
    s.writeCompl q c = ((s.complStored q c).tailNext q).complCounted q c := by
  have hstored : s.writeMem .sram (s.cqBase q + 16 * s.rd (VEC.Q_CQ_IDX_TAIL q)) (s.complEntry q c) = s.complStored q c := by
    rw [← complWord_mul, writeMem_whole_word _ _ (by simp [State.complEntry, leBytes])]
    rfl
  have hcount (t : State) : (t.queues[q]?.map (·.count)).getD 0 + 1 = t.complCount q := by
    rw [State.complCount, List.getD_eq_getElem?_getD]
    cases t.queues[q]? <;> rfl
  unfold State.writeCompl
  extract_lets tail phase entry t1 wrap t2 t3 n
  have ht1 : t1 = s.complStored q c := hstored
  clear_value t1
  subst ht1
  have htail : t3 = (s.complStored q c).tailNext q := by
    by_cases hw : tail + 1 = s.depth q
    · have hwrap : wrap = true := beq_iff_eq.mpr hw
      simp only [t3, t2, hwrap, if_true]
      exact (if_pos hw).symm
    · have hwrap : wrap = false := beq_eq_false_iff_ne.mpr hw
      simp only [t3, t2, hwrap, Bool.false_eq_true, if_false]
      exact (if_neg hw).symm
  have hn : n = t3.complCount q := hcount t3
  clear_value n t3
  subst htail hn
  rfl

end Sys2Proof.Machine
end

section
/-! PROOFS. The completion entry. -/

namespace Sys2Proof.Machine

-- In parallel these proofs take more memory than the check allows.
set_option Elab.async false

/-- Nothing differs between `s` and `t` but the registers, main SRAM with its marks of errors, and the queues. -/
def ComplOnly (s t : State) : Prop :=
  t = { s with regs := t.regs, sram := t.sram, sramUe := t.sramUe, sramCe := t.sramCe, queues := t.queues }

theorem ComplOnly.trans {s t u : State} (h : ComplOnly s t) (k : ComplOnly t u) : ComplOnly s u := by
  unfold ComplOnly at h k ⊢
  rw [h] at k
  exact k

theorem complOnly_tailNext (s : State) (q : Nat) : ComplOnly s (s.tailNext q) := by
  rw [ComplOnly, (only_tailNext s q).1]

theorem complOnly_complCounted (s : State) (q : Nat) (c : Compl) : ComplOnly s (s.complCounted q c) := by
  rw [ComplOnly, (complCounted_spec s q c).1.1]

theorem complOnly_writeCompl (s : State) (q : Nat) (c : Compl) : ComplOnly s (s.writeCompl q c) := by
  rw [writeCompl_eq]
  exact ((show ComplOnly s (s.complStored q c) from rfl).trans (complOnly_tailNext _ q)).trans (complOnly_complCounted _ q c)

theorem regsBut_writeCompl (s : State) (q : Nat) (c : Compl) :
    Safety.regsBut [VEC.Q_CQ_IDX_TAIL q, VEC.Q_CQ_IDX_PHASE q, VEC.PENDING_PENDING] s (s.writeCompl q c) := by
  rw [writeCompl_eq]
  have htail := (only_mono (only_tailNext (s.complStored q c) q) (w' := [VEC.Q_CQ_IDX_TAIL q, VEC.Q_CQ_IDX_PHASE q, VEC.PENDING_PENDING])
    (by simp)).2.1
  have hcount := (only_mono (complCounted_spec ((s.complStored q c).tailNext q) q c).1
    (w' := [VEC.Q_CQ_IDX_TAIL q, VEC.Q_CQ_IDX_PHASE q, VEC.PENDING_PENDING]) (by simp)).2.1
  exact regsBut_trans htail hcount

theorem byte_writeCompl (s : State) (q : Nat) (c : Compl) (a : Nat) :
    (s.writeCompl q c).byte .sram a = (s.complStored q c).byte .sram a := by
  rw [writeCompl_eq, (complCounted_spec _ q c).1.2.2.1 .sram a]
  exact (only_tailNext _ q).2.2.1 .sram a

/-- The completion tail and the phase after a completion (R204). -/
theorem rd_writeCompl (s : State) (q : Nat) (c : Compl) {f : Fld} (h : VEC.PENDING_PENDING.apart f = true) :
    (s.writeCompl q c).rd f = ((s.complStored q c).tailNext q).rd f := by
  rw [writeCompl_eq]
  exact (complCounted_spec _ q c).1.2.1 f (by simpa using h)

/-- What a completion does to VEC.PENDING (R219). -/
theorem pending_writeCompl (s : State) (q : Nat) (c : Compl) : (s.writeCompl q c).rd VEC.PENDING_PENDING =
    if s.complTold q c then (s.vec q).rd VEC.PENDING_PENDING else s.rd VEC.PENDING_PENDING := by
  have htail := only_tailNext (s.complStored q c) q
  have hrd {f : Fld} (ht : (VEC.Q_CQ_IDX_TAIL q).apart f = true) (hp : (VEC.Q_CQ_IDX_PHASE q).apart f = true) :
      ((s.complStored q c).tailNext q).rd f = s.rd f := htail.2.1 f (by simp [ht, hp])
  have hpending := hrd (f := VEC.PENDING_PENDING) queue_apart_of_not_queue queue_apart_of_not_queue
  have htold : ((s.complStored q c).tailNext q).complTold q c = s.complTold q c := by
    rw [State.complTold, hrd (f := VEC.Q_COAL_COUNT q) apart_queue apart_queue, State.complCount, only_same htail State.queues]
    rfl
  have hvec : (((s.complStored q c).tailNext q).vec q).rd VEC.PENDING_PENDING = (s.vec q).rd VEC.PENDING_PENDING :=
    pending_vec_congr s _ q (hrd queue_apart_of_not_queue queue_apart_of_not_queue) hpending (only_same htail State.part)
  rw [writeCompl_eq, (complCounted_spec _ q c).2, htold, hvec, hpending]

/-- Settles O52: the entry is one whole protected word of the ring, so no byte beside it changes; then the tail, the phase and the vector
follow. -/
theorem completionEntry : Obligations.CompletionEntry := by
  intro q c s hroom tail phase n entry x
  obtain ⟨htail, hphase⟩ := rd_tailNext (s := s.complStored q c) (q := q) hroom
  have hpending : x.rd VEC.PENDING_PENDING = _ := pending_writeCompl s q c
  refine ⟨fun a => ?entry, (rd_writeCompl s q c apart_of_not_queue).trans htail, (rd_writeCompl s q c apart_of_not_queue).trans hphase,
    fun h => ?told, fun hn hok hnow => ?counted, regsBut_writeCompl s q c, complOnly_writeCompl s q c⟩
  case entry =>
    rw [← complWord_mul]
    exact (byte_writeCompl s q c a).trans (byte_complStored s q c a)
  case told => exact hpending.trans (if_pos (complTold_iff.mpr h))
  case counted =>
    refine hpending.trans (if_neg fun h => ?_)
    rcases complTold_iff.mp h with h | h | h
    · exact absurd hn (Nat.not_lt.mpr h)
    · exact h hok
    · simp [hnow] at h

end Sys2Proof.Machine
end

section
/-! PROOFS. The end of a command: its completion, and the ABORT that waits for it. -/

namespace Sys2Proof.Machine

-- In parallel these proofs take more memory than the check allows.
set_option Elab.async false

/-! ### A completion that is ready (R205) -/

section
variable {q : Nat} {s : State}

theorem post_of_disabled (h : s.qEn q = false) (c : Compl) : s.post q c = s := by
  simp [State.post, h]

/-- Completions are held behind others, or while the queue is full. -/
theorem post_of_held (h : s.qEn q = true) (hheld : s.cqFull q = true ∨ (s.queues.getD q {}).held ≠ []) (c : Compl) :
    s.post q c = { s with queues := s.queues.modify q fun x => { x with held := x.held ++ [c] } } := by
  have hwait : (s.cqFull q || (s.queues[q]?.map (!·.held.isEmpty)).getD false) = true := by
    rw [List.getD_eq_getElem?_getD] at hheld
    cases hq : s.queues[q]? <;> simpa [hq] using hheld
  rw [State.post, if_neg (by simp [h]), if_pos hwait]

theorem post_of_room (h : s.qEn q = true) (hfull : s.cqFull q = false) (hheld : (s.queues.getD q {}).held = []) (c : Compl) :
    s.post q c = s.writeCompl q c := by
  have hroom : (s.cqFull q || (s.queues[q]?.map (!·.held.isEmpty)).getD false) = false := by
    rw [List.getD_eq_getElem?_getD] at hheld
    cases hq : s.queues[q]? with
    | none => simp [hfull]
    | some u => simpa [hq, hfull] using hheld
  rw [State.post, if_neg (by simp [h]), if_neg (by simp [hroom])]

end

theorem cmds_post (s : State) (q : Nat) (c : Compl) : (s.post q c).cmds = s.cmds := by
  unfold State.post
  split
  · rfl
  · split
    · rfl
    · exact (congrArg State.cmds (complOnly_writeCompl s q c) :)

/-! ### The commands in flight (R211) -/

/-- The commands in flight other than the one of tag `t`. -/
def State.cmdsBut (s : State) (t : Nat) : List Cmd := s.cmds.filter fun d => d.tag != t

theorem cmdsBut_of_none {s : State} {t : Nat} (h : s.cmd? t = none) : s.cmdsBut t = s.cmds := by
  simpa [State.cmdsBut, State.cmd?] using h

theorem finish_of_none {s : State} {t : Nat} (h : s.cmd? t = none) (st r0 r1 : Nat) : s.finish t st r0 r1 = s := by
  simp [State.finish, h]

theorem finish_of_some {s : State} {t : Nat} {c : Cmd} (h : s.cmd? t = some c) (st r0 r1 : Nat) :
    s.finish t st r0 r1 = ({ s with cmds := s.cmdsBut t } : State).post c.queue
      { tag := some t, cmdId := c.cmdId, status := st, origin := c.queue, now := c.now, r0 := r0 % 2 ^ 32, r1 := r1 % 2 ^ 32 } := by
  simp [State.finish, State.cmdsBut, h]

theorem cmds_finish (s : State) (t st r0 r1 : Nat) : (s.finish t st r0 r1).cmds = s.cmdsBut t := by
  cases h : s.cmd? t with
  | none => rw [finish_of_none h, cmdsBut_of_none h]
  | some c => rw [finish_of_some h, cmds_post]

theorem cmd?_finish (s : State) (t st r0 r1 : Nat) : (s.finish t st r0 r1).cmd? t = none := by
  simp [State.cmd?, cmds_finish, State.cmdsBut]

/-! ### ABORTs that wait for a completion (R217) -/

theorem endAborts_of_none {s : State} {t : Nat} (h : ∀ d ∈ s.cmds, d.abortOf ≠ some t) (st : Nat) : s.endAborts t st = s := by
  have hnone : (s.cmds.filter fun d => d.abortOf == some t) = [] := by simpa using h
  rw [State.endAborts, hnone, List.map_nil, List.foldl_nil]

theorem complete_of_no_abort {s : State} {t : Nat} (h : ∀ d ∈ s.cmds, d.abortOf ≠ some t) (st r0 r1 : Nat) :
    s.complete t st r0 r1 = s.finish t st r0 r1 := by
  have hbut : ∀ d ∈ (s.finish t st r0 r1).cmds, d.abortOf ≠ some t := by
    rw [cmds_finish]
    exact fun d hd => h d (List.mem_of_mem_filter hd)
  rw [State.complete, endAborts_of_none hbut, ite_self]

/-- The one ABORT of a command completes behind it; an ABORT that has left with the command does nothing more. -/
theorem endAborts_finish {s : State} {t : Nat} {a : Cmd} (h : (s.cmds.filter fun d => d.abortOf == some t) = [a]) (st r0 r1 : Nat) :
    (s.finish t st r0 r1).endAborts t st = (s.finish t st r0 r1).finish a.tag stOK st 0 := by
  have hleft : ((s.finish t st r0 r1).cmds.filter fun d => d.abortOf == some t) = [a].filter fun d => d.tag != t := by
    rw [cmds_finish, State.cmdsBut, ← h, List.filter_filter, List.filter_filter]
    simp only [Bool.and_comm]
  rw [State.endAborts, hleft]
  by_cases ha : a.tag = t
  · rw [ha, finish_of_none (cmd?_finish s t st r0 r1)]
    simp [ha]
  · simp [ha]

/-! ### The statement -/

theorem exec_nop {tag : Fin 64} {s : State} {c : Cmd} (ha : s.awake = true) (hc : s.cmd? tag = some c) (hop : c.op = 0) :
    exec (.nop tag) s = .next (s.complete tag stOK c.p0 c.p1).settle := by
  change execNop tag s = _
  simp only [execNop, hc, hop, ha, beq_self_eq_true, Bool.and_self, if_true]

/-- Settles O53: the end of a command takes it out of flight and posts its completion, and an ABORT is the only thing that follows. -/
theorem completionEndsTheCommand : Obligations.CompletionEndsTheCommand := by
  refine ⟨fun tag s c => exec_nop, fun s t st r0 r1 c hc h => ?ends, fun s t st r0 r1 a h => ?abort, fun s t st r0 r1 hn h => ?absent,
    fun q c s _ => ⟨fun h => ?disabled, fun h hw => ?held, fun h hf hw => ?room⟩⟩
  case ends => exact (complete_of_no_abort h st r0 r1).trans (finish_of_some hc st r0 r1)
  case abort => rw [State.complete, endAborts_finish h]
  case absent => exact (complete_of_no_abort h st r0 r1).trans (finish_of_none hn st r0 r1)
  case disabled => exact post_of_disabled (qEn_eq_false_iff.mpr h) c
  case held => exact post_of_held (qEn_iff.mpr h) hw c
  case room => exact post_of_room (qEn_iff.mpr h) hf hw c

end Sys2Proof.Machine
end

section
/-! PROOFS. Doorbells, and the coalescing timer. -/

namespace Sys2Proof.Machine

-- In parallel these proofs take more memory than the check allows.
set_option Elab.async false

/-! ### The checks (R207, R208) -/

theorem tailOk_iff {s : State} {q t : Nat} : s.tailOk q t = true ↔ s.rd (VEC.Q_CFG_EN q) = 1 ∧ t < s.depth q ∧
    (t + s.depth q - s.rd (VEC.Q_SQ_IDX_TAIL q)) % s.depth q ≤
      s.depth q - 1 - (s.rd (VEC.Q_SQ_IDX_TAIL q) + s.depth q - s.rd (VEC.Q_SQ_IDX_HEAD q)) % s.depth q := by
  simp only [State.tailOk, Bool.and_eq_true, decide_eq_true_eq, qEn_iff, and_assoc]

theorem headOk_iff {s : State} {q t : Nat} : s.headOk q t = true ↔ s.rd (VEC.Q_CFG_EN q) = 1 ∧ t < s.depth q ∧
    (t + s.depth q - s.rd (VEC.Q_CQ_IDX_HEAD q)) % s.depth q ≤
      (s.rd (VEC.Q_CQ_IDX_TAIL q) + s.depth q - s.rd (VEC.Q_CQ_IDX_HEAD q)) % s.depth q := by
  simp only [State.headOk, Bool.and_eq_true, decide_eq_true_eq, qEn_iff, and_assoc]

/-! ### Accepted and discarded writes (R205, R208, R209) -/

/-- A doorbell write that is discarded is counted. -/
def State.discarded (s : State) (q : Nat) : State := (s.wr (VEC.Q_STAT_QOVF q) 1).bump (VEC.Q_STAT_QOVF_COUNT q)

theorem discarded_spec (s : State) (q : Nat) : let x := s.discarded q
    x.rd (VEC.Q_STAT_QOVF q) = 1 ∧ x.rd (VEC.Q_STAT_QOVF_COUNT q) = satAdd 255 (s.rd (VEC.Q_STAT_QOVF_COUNT q)) 1 ∧
      Safety.only [VEC.Q_STAT_QOVF q, VEC.Q_STAT_QOVF_COUNT q] s x := by
  have hcount : (s.wr (VEC.Q_STAT_QOVF q) 1).rd (VEC.Q_STAT_QOVF_COUNT q) = s.rd (VEC.Q_STAT_QOVF_COUNT q) :=
    State.rd_wr_apart _ _ _ _ apart_queue
  refine ⟨(rd_bump_apart _ _ _ _ apart_queue).trans (rd_wr_queue s (by decide)), ?_, only_bump (only_wr (only_refl _ s))⟩
  rw [State.discarded, rd_bump _ _ _ (show 8 + 8 ≤ 32 by decide), hcount]
  rfl

/-- With no completion held, a new head frees room for none. -/
theorem writeHeld_of_none {s : State} {q : Nat} (h : (s.queues.getD q {}).held = []) (n : Nat) : s.writeHeld q n = s := by
  cases n with
  | zero => rfl
  | succ n => simp only [State.writeHeld, h]

section
variable {s : State} {q : Nat} {w : Word}

theorem ringTail_accepted (h : s.tailOk q (field w 0 9) = true) : (s.ringTail q w).1 = s.wr (VEC.Q_SQ_IDX_TAIL q) (field w 0 9) := by
  rw [State.ringTail, if_pos h]

theorem ringTail_discarded (h : s.tailOk q (field w 0 9) = false) : (s.ringTail q w).1 = (s.discarded q).queueVec q := by
  rw [State.ringTail, if_neg (Bool.eq_false_iff.mp h)]
  rfl

/-- The state in which a completion head that was accepted leaves the ring, with the held completions written that now fit (R205). -/
def State.headMoved (s : State) (q : Nat) (w : Word) : State := (s.wr (VEC.Q_CQ_IDX_HEAD q) (field w 0 9)).writeHeld q 64

theorem headMoved_of_none (h : (s.queues.getD q {}).held = []) : s.headMoved q w = s.wr (VEC.Q_CQ_IDX_HEAD q) (field w 0 9) := by
  have hnone : ((s.wr (VEC.Q_CQ_IDX_HEAD q) (field w 0 9)).queues.getD q {}).held = [] := by rwa [State.wr_queues]
  rw [State.headMoved, writeHeld_of_none hnone]

theorem ringHead_accepted (h : s.headOk q (field w 0 9) = true) : (s.ringHead q w).1 =
    if field w 0 9 != (s.headMoved q w).rd (VEC.Q_CQ_IDX_TAIL q) then (s.headMoved q w).queueVec q else s.headMoved q w := by
  rw [State.ringHead, if_pos h]
  rfl

theorem ringHead_discarded (h : s.headOk q (field w 0 9) = false) : (s.ringHead q w).1 = (s.discarded q).queueVec q := by
  rw [State.ringHead, if_neg (Bool.eq_false_iff.mp h)]
  rfl

end

section
variable {s : State} (hs : Safety.takes s .core) (q : Fin 16) (w : Word)
include hs

theorem exec_submissionTailDoorbell : exec (.submissionTailDoorbell q w) s = .next (s.idleRestart.ringTail q w).1 :=
  congrArg Host.Outcome.next (hostReg_takes hs fun s => (s.ringTail q w).1)

theorem exec_completionHeadDoorbell : exec (.completionHeadDoorbell q w) s = .next (s.idleRestart.ringHead q w).1 :=
  congrArg Host.Outcome.next (hostReg_takes hs fun s => (s.ringHead q w).1)

end

/-! ### The coalescing timer (R219) -/

theorem exec_qcoalTimer {s : State} {q : Fin 16} (ha : s.awake = true) (ht : s.rd (VEC.Q_COAL_TIME q) ≠ 0)
    (hc : (s.queues.getD q {}).count ≠ 0) : exec (.qcoalTimer q) s = .next (s.queueVec q) :=
  if_pos (by simp only [State.flag, Bool.and_eq_true, bne_iff_ne]; exact ⟨⟨ha, ht⟩, hc⟩)

/-- The vector of a queue resets its count, of a pair that the state holds or not. -/
theorem count_queueVec (s : State) (q : Nat) : ((s.queueVec q).queues.getD q {}).count = 0 := by
  rw [List.getD_eq_getElem?_getD, show (s.queueVec q).queues = s.queues.modify q fun u => { u with count := 0 } from rfl,
    List.getElem?_modify_eq]
  cases s.queues[q]? <;> rfl

/-- Settles O2: a doorbell reaches its pair after the idle count, and its check decides between the one index moved and the write
discarded. -/
theorem doorbells : Obligations.Doorbells := by
  refine ⟨fun q t s => ⟨tailOk_iff, headOk_iff⟩, fun q w s hs h => ?tail, fun q w s hs h => ?tailBad, fun q w s hs h => ?head,
    fun q w s hs h => ?headBad, fun q s ha ht hc => ?timer⟩
  case tail =>
    have hok : s.idleRestart.tailOk q (field w 0 9) = true := h
    rw [exec_submissionTailDoorbell hs, ringTail_accepted hok]
    exact ⟨_, rfl, rd_wr_queue _ (field_lt w 0 9), only_wr (only_refl _ _)⟩
  case tailBad =>
    have hbad : s.idleRestart.tailOk q (field w 0 9) = false := h
    rw [exec_submissionTailDoorbell hs, ringTail_discarded hbad]
    exact ⟨_, rfl, discarded_spec s.idleRestart q⟩
  case head =>
    have hok : s.idleRestart.headOk q (field w 0 9) = true := h
    rw [exec_completionHeadDoorbell hs, ringHead_accepted hok]
    exact ⟨s.idleRestart.wr (VEC.Q_CQ_IDX_HEAD q) (field w 0 9), s.idleRestart.headMoved q w, rfl, rfl,
      fun hn => headMoved_of_none (s := s.idleRestart) hn, rd_wr_queue _ (field_lt w 0 9), only_wr (only_refl _ _)⟩
  case headBad =>
    have hbad : s.idleRestart.headOk q (field w 0 9) = false := h
    rw [exec_completionHeadDoorbell hs, ringHead_discarded hbad]
    exact ⟨_, rfl, discarded_spec s.idleRestart q⟩
  case timer => exact ⟨_, exec_qcoalTimer ha ht hc, rfl, count_queueVec s q, only_queueVec s q⟩

end Sys2Proof.Machine
end

section
/-! PROOFS. Enabling and disabling a queue pair. -/

namespace Sys2Proof.Machine

-- In parallel these proofs take more memory than the check allows.
set_option Elab.async false

/-! ### Whole registers -/

/-- A register set is its one field of 32 bits written. -/
theorem setReg_eq_wr (s : State) (a : Nat) (w : Word) : s.setReg a w = s.wr ⟨a, 0, 32⟩ w.toNat := by
  have hput : putField (s.reg a) 0 32 w.toNat = w := by
    apply BitVec.eq_of_toNat_eq
    rw [putField_toNat]
    have := w.isLt
    have := (s.reg a).isLt
    simp only [pow_zero, one_mul, Nat.mod_one]
    omega
  rw [State.wr, hput]

theorem rd_setReg_same (s : State) {f : Fld} (w : Word) : (s.setReg f.addr w).rd f = field w f.lo f.wid := by
  rw [State.rd, State.reg_setReg, if_pos rfl]

/-- A register that is set leaves the fields of the others. -/
theorem rd_setReg_ne (s : State) {a : Nat} {f : Fld} (w : Word) (h : a ≠ f.addr) : (s.setReg a w).rd f = s.rd f := by
  rw [State.rd, State.rd, State.reg_setReg, if_neg h]

theorem queue_addr_ne {a b i : Nat} (h : a ≠ b := by decide) : a + 0x20 * (i % 16) ≠ b + 0x20 * (i % 16) := fun e =>
  h (Nat.add_right_cancel e)

/-! ### Banks (R26, R251) -/

/-- What holds of every bank of main SRAM decides a range of it. -/
theorem inSram_banks_congr {a len : Nat} {p p' : Nat → Bool} (h : ∀ n < 12, p n = p' n) :
    (inSram a len && (banksOf a len).all p) = (inSram a len && (banksOf a len).all p') := by
  rcases Nat.eq_zero_or_pos len with rfl | hpos
  · rfl
  · by_cases hin : a + len ≤ 0x600000
    · have hbank : ∀ n ∈ banksOf a len, n < 12 := fun n hn => by
        have hlast := ((mem_banksOf hpos).mp hn).2
        simp only [bankSize] at hlast
        omega
      rw [Bool.eq_iff_iff]
      simp only [Bool.and_eq_true, List.all_eq_true]
      exact and_congr_right fun _ => forall₂_congr fun n hn => by rw [h n (hbank n hn)]
    · rw [show inSram a len = false from decide_eq_false hin, Bool.false_and, Bool.false_and]

/-- The banks' owners follow from CORE.BANK_MAP and the part. -/
theorem bankOwner_congr {s t : State} {w : List Fld} (h : Safety.regsBut w s t) (hp : t.part = s.part)
    (hw : ∀ g ∈ w, g.addr < 0x40000310 ∨ 0x4000031C ≤ g.addr) {n : Nat} (hn : n < 12) : t.bankOwner n = s.bankOwner n := by
  have hbyte : t.bankByte n = s.bankByte n := h _ fun g hg => by
    have hne : g.addr ≠ 0x40000310 + 4 * (n / 4) := by
      have := hw g hg
      omega
    simp [Fld.apart, CORE.BANK_MAP0_OWNER_A, hne]
  have hhas : t.has = s.has := by
    funext r
    rw [State.has, State.has, hp]
  rw [State.bankOwner, State.bankOwner, hbyte, hhas]

theorem inShared_congr {s t : State} (h : ∀ n < 12, t.bankOwner n = s.bankOwner n) (a len : Nat) : t.inShared a len = s.inShared a len :=
  inSram_banks_congr fun n hn => by rw [h n hn]

/-! ### A write of Qq_CFG (R196, R198) -/

/-- Whether the pair may be enabled with the depth that is written (R196). -/
def State.enableOk (s : State) (q : Nat) (w : Word) : Bool :=
  8 ≤ field w 0 9 && field w 0 9 ≤ 256 && s.inShared (s.sqBase q) (32 * field w 0 9) && s.inShared (s.cqBase q) (16 * field w 0 9) &&
    if q = 0 then s.ready .core else s.imageApplied && !s.coreCause

/-- The pair with the depth that is written. -/
def State.depthStored (s : State) (q : Nat) (w : Word) : State := s.wr (VEC.Q_CFG_DEPTH q) (field w 0 9)

theorem rd_depthStored_far (s : State) (q : Nat) (w : Word) {f : Fld} (hf : f.addr < 0x40100100 ∨ 0x40100300 ≤ f.addr := by decide) :
    (s.depthStored q w).rd f = s.rd f :=
  State.rd_wr_apart _ _ _ _ (queue_apart_of_not_queue hf)

theorem mayEnable_depthStored (s : State) (q : Nat) (w : Word) : (s.depthStored q w).mayEnable q = s.enableOk q w := by
  have honly : Safety.only [VEC.Q_CFG_DEPTH q] s (s.depthStored q w) := only_wr (only_refl _ s)
  have hdepth : (s.depthStored q w).depth q = field w 0 9 := rd_wr_queue s (field_lt w 0 9)
  have hsq : (s.depthStored q w).sqBase q = s.sqBase q := congrArg (· * 64) (State.rd_wr_apart _ _ _ _ apart_queue)
  have hcq : (s.depthStored q w).cqBase q = s.cqBase q := congrArg (· * 64) (State.rd_wr_apart _ _ _ _ apart_queue)
  have hshared := inShared_congr fun n => bankOwner_congr (n := n) honly.2.1 rfl (by simp [VEC.Q_CFG_DEPTH]; omega)
  have hready : (s.depthStored q w).ready .core = s.ready .core := congrArg (Nat.testBit · _) (rd_depthStored_far s q w)
  have himage : (s.depthStored q w).imageApplied = s.imageApplied := by
    rw [State.imageApplied, rd_depthStored_far s q w, State.imageApplied]
  have hcause : (s.depthStored q w).coreCause = s.coreCause := rfl
  simp only [State.mayEnable, State.ringsShared, State.enableOk, hdepth, hsq, hcq, hshared, hready, himage, hcause, Bool.and_assoc]

/-- The pair enabled, before a TORN record is reported (R196). -/
def State.enabled (s : State) (q : Nat) (w : Word) : State :=
  (((((s.modQueue q fun _ => {}).depthStored q w).setReg (VEC.Q_SQ_IDX_HEAD q).addr 0).setReg (VEC.Q_CQ_IDX_TAIL q).addr 0x8000).wr
    (VEC.Q_CFG_EN q) 1).wr (VEC.Q_STAT_ERR q) 0

theorem only_enabled (s : State) (q : Nat) (w : Word) :
    Safety.only [VEC.Q_CFG_EN q, VEC.Q_CFG_DEPTH q, VEC.Q_STAT_ERR q, ⟨(VEC.Q_SQ_IDX_HEAD q).addr, 0, 32⟩,
      ⟨(VEC.Q_CQ_IDX_TAIL q).addr, 0, 32⟩] { s with queues := s.queues.modify q fun _ => {} } (s.enabled q w) := by
  rw [State.enabled, setReg_eq_wr, setReg_eq_wr]
  exact only_wr (only_wr (only_wr (only_wr (only_wr (only_refl _ (s.modQueue q fun _ => {}))))))

/-- What the pair's configuration reads once it is enabled. -/
theorem rd_enabled_cfg (s : State) (q : Nat) (w : Word) : let x := s.enabled q w
    x.rd (VEC.Q_CFG_EN q) = 1 ∧ x.rd (VEC.Q_CFG_DEPTH q) = field w 0 9 ∧ x.rd (VEC.Q_STAT_ERR q) = 0 := by
  refine ⟨?_, ?_, rd_wr_queue _ (by decide)⟩
  · exact (State.rd_wr_apart _ _ _ _ apart_queue).trans (rd_wr_queue _ (by decide))
  · refine ((State.rd_wr_apart _ _ _ _ apart_queue).trans (State.rd_wr_apart _ _ _ _ apart_queue)).trans ?_
    rw [rd_setReg_ne _ _ queue_addr_ne, rd_setReg_ne _ _ queue_addr_ne]
    exact rd_wr_queue _ (field_lt w 0 9)

/-- The indexes of a pair that is enabled are those of the words that were set. -/
theorem rd_enabled_idx (s : State) (q : Nat) (w : Word) (lo wid : Nat) : let x := s.enabled q w
    x.rd ⟨(VEC.Q_SQ_IDX_HEAD q).addr, lo, wid⟩ = field 0 lo wid ∧ x.rd ⟨(VEC.Q_CQ_IDX_TAIL q).addr, lo, wid⟩ = field 0x8000 lo wid := by
  constructor
  · refine ((State.rd_wr_apart _ _ _ _ (apart_queue (.inl (by decide)))).trans
      (State.rd_wr_apart _ _ _ _ (apart_queue (.inl (by decide))))).trans ?_
    rw [rd_setReg_ne _ _ queue_addr_ne]
    exact rd_setReg_same _ (f := ⟨(VEC.Q_SQ_IDX_HEAD q).addr, lo, wid⟩) 0
  · refine ((State.rd_wr_apart _ _ _ _ (apart_queue (.inl (by decide)))).trans
      (State.rd_wr_apart _ _ _ _ (apart_queue (.inl (by decide))))).trans ?_
    exact rd_setReg_same _ (f := ⟨(VEC.Q_CQ_IDX_TAIL q).addr, lo, wid⟩) 0x8000

section
variable {s : State} {q : Nat} {w : Word}

theorem writeQCfg_enable (he : s.qEn q = false) (hw : field w 16 1 = 1) (hok : s.enableOk q w = true) :
    s.writeQCfg q w = if q = 0 then (s.enabled q w).reportTorn else s.enabled q w := by
  have hmay : (s.depthStored q w).mayEnable q = true := (mayEnable_depthStored s q w).trans hok
  rw [State.depthStored] at hmay
  simp only [State.writeQCfg, he, hw, hmay]
  rfl

theorem writeQCfg_badCfg (he : s.qEn q = false) (hw : field w 16 1 = 1) (hok : s.enableOk q w = false) :
    s.writeQCfg q w = (s.depthStored q w).wr (VEC.Q_STAT_ERR q) 1 := by
  have hmay : (s.depthStored q w).mayEnable q = false := (mayEnable_depthStored s q w).trans hok
  rw [State.depthStored] at hmay
  simp only [State.writeQCfg, he, hw, hmay]
  rfl

/-- While the pair is enabled, a write with EN = 1 changes nothing. -/
theorem writeQCfg_enabled (he : s.qEn q = true) (hw : field w 16 1 = 1) : s.writeQCfg q w = s := by
  simp [State.writeQCfg, he, hw]

theorem writeQCfg_refused (he : s.qEn q = true) (hw : field w 16 1 = 0) (hb : s.queueBusy q = true) :
    s.writeQCfg q w = s.wr (VEC.Q_STAT_ERR q) 3 := by
  simp [State.writeQCfg, he, hw, hb]

theorem writeQCfg_disable (he : s.qEn q = true) (hw : field w 16 1 = 0) (hb : s.queueBusy q = false) :
    s.writeQCfg q w = s.disableQueue q 0 := by
  simp [State.writeQCfg, he, hw, hb]

end

theorem field_or_enable (w : Word) : field (w ||| 0x10000) 16 1 = 1 := by
  have hset : (0x10000 : Word).toNat.testBit (16 + 0) = true := by decide
  have hbit : (field (w ||| 0x10000) 16 1).testBit 0 = true := by
    rw [field_testBit, BitVec.toNat_or, Nat.testBit_or, hset, Bool.or_true]
    rfl
  have hodd : field (w ||| 0x10000) 16 1 % 2 = 1 := by simpa using hbit
  have hlt := field_lt (w ||| 0x10000) 16 1
  omega

/-! ### Disabling (R198) -/

theorem queueBusy_iff {s : State} {q : Nat} : s.queueBusy q = true ↔
    (∃ c ∈ s.cmds, c.queue = q) ∨ ∃ c ∈ (s.queues.getD q {}).held, c.tag ≠ none := by
  simp only [State.queueBusy, Bool.or_eq_true, List.any_eq_true, beq_iff_eq, Option.isSome_iff_ne_none]

/-- The pair disabled, its unfetched entries and held completions dropped. -/
def State.disabled (s : State) (q : Nat) : State :=
  (((s.modQueue q fun _ => {}).wr (VEC.Q_SQ_IDX_HEAD q) (s.rd (VEC.Q_SQ_IDX_TAIL q))).wr (VEC.Q_CFG_EN q) 0).wr (VEC.Q_STAT_ERR q) 0

/-- Where no held completion is a command's, no ABORT waits for one. -/
theorem disableQueue_eq {s : State} {q : Nat} (h : s.queueBusy q = false) : s.disableQueue q 0 = s.disabled q := by
  have hfree : ∀ c ∈ (s.queues.getD q {}).held, c.tag = none := fun c hc => by
    by_contra htag
    exact Bool.eq_false_iff.mp h (queueBusy_iff.mpr (.inr ⟨c, hc, htag⟩))
  have hfold : (s.queues.getD q {}).held.foldl (fun s c => c.tag.elim s fun t => s.endAborts t c.status) (s.modQueue q fun _ => {}) =
      s.modQueue q fun _ => {} := by
    refine List.foldlRecOn (motive := fun x => x = s.modQueue q fun _ => {}) _ _ rfl fun x hx c hc => ?_
    rw [hx, hfree c hc, Option.elim_none]
  rw [State.disableQueue, hfold]
  rfl

theorem disabled_spec (s : State) (q : Nat) : let x := s.disabled q
    x.rd (VEC.Q_CFG_EN q) = 0 ∧ x.rd (VEC.Q_STAT_ERR q) = 0 ∧ x.rd (VEC.Q_SQ_IDX_HEAD q) = s.rd (VEC.Q_SQ_IDX_TAIL q) ∧
      Safety.only [VEC.Q_CFG_EN q, VEC.Q_STAT_ERR q, VEC.Q_SQ_IDX_HEAD q] { s with queues := s.queues.modify q fun _ => {} } x := by
  refine ⟨(State.rd_wr_apart _ _ _ _ apart_queue).trans (rd_wr_queue _ (by decide)), rd_wr_queue _ (by decide), ?_,
    only_wr (only_wr (only_wr (only_refl _ _)))⟩
  refine ((State.rd_wr_apart _ _ _ _ apart_queue).trans (State.rd_wr_apart _ _ _ _ apart_queue)).trans ?_
  exact rd_wr_queue _ (State.rd_lt s (VEC.Q_SQ_IDX_TAIL q))

/-! ### The statement -/

section
variable {s : State} (hs : Safety.takes s .core) {q : Fin 16} {w : Word}
include hs

theorem exec_queueEnable (hw : field w 16 1 = 1) : exec (.queueEnable q w) s = .next (s.idleRestart.writeQCfg q w) :=
  (if_pos (beq_iff_eq.mpr hw)).trans (congrArg Host.Outcome.next (hostReg_takes hs fun s => s.writeQCfg q w))

theorem exec_queueDisable (hw : field w 16 1 = 0) : exec (.queueDisable q w) s = .next (s.idleRestart.writeQCfg q w) :=
  (if_pos (beq_iff_eq.mpr hw)).trans (congrArg Host.Outcome.next (hostReg_takes hs fun s => s.writeQCfg q w))

end

/-- Settles O1: a write of Qq_CFG reaches the pair after the idle count; whether it is enabled, and whether it is busy, decide which of the
five effects it has. -/
theorem queuePairs : Obligations.QueuePairs := by
  refine ⟨⟨fun q w s hs he hw hlo hhi hsq hcq hcond => ?enable, fun q w s hs he hw hbad => ?badCfg, fun q w s he => ?same⟩,
    fun q w s hs he hw hb => ?disable, fun q s => queueBusy_iff, fun q w s hs he hw hb => ?refused⟩
  case enable =>
    have hok : s.idleRestart.enableOk q w = true := by
      simp only [State.enableOk, Bool.and_eq_true, decide_eq_true_eq]
      exact ⟨⟨⟨⟨hlo, hhi⟩, hsq⟩, hcq⟩, hcond⟩
    have hidx := rd_enabled_idx s.idleRestart q w
    obtain ⟨hen, hdepth, herr⟩ := rd_enabled_cfg s.idleRestart q w
    exact ⟨_, (exec_queueEnable hs hw).trans (congrArg Host.Outcome.next (writeQCfg_enable he hw hok)), hen, hdepth, herr,
      (hidx 0 9).1, (hidx 16 9).1, (hidx 16 9).2, (hidx 0 9).2, (hidx 15 1).2, only_enabled s.idleRestart q w⟩
  case badCfg =>
    refine ⟨_, (exec_queueEnable hs hw).trans (congrArg Host.Outcome.next (writeQCfg_badCfg he hw hbad)), ?_, rd_wr_queue _ (by decide), ?_,
      only_wr (only_wr (only_refl _ _))⟩
    · exact ((State.rd_wr_apart _ _ _ _ apart_queue).trans (State.rd_wr_apart _ _ _ _ apart_queue)).trans (qEn_eq_false_iff.mp he)
    · exact (State.rd_wr_apart _ _ _ _ apart_queue).trans (rd_wr_queue _ (field_lt w 0 9))
  case same =>
    have hidle : s.idleRestart.qEn q = true := he
    refine ⟨fun hs hw => ?_, if_pos he, if_pos he, writeQCfg_enabled he (field_or_enable w)⟩
    rw [exec_queueEnable hs hw, writeQCfg_enabled hidle hw]
  case disable =>
    have hidle : s.idleRestart.qEn q = true := he
    have hfree : s.idleRestart.queueBusy q = false := hb
    refine ⟨s.idleRestart.disabled q, ?_, disabled_spec s.idleRestart q⟩
    rw [exec_queueDisable hs hw, writeQCfg_disable hidle hw hfree, disableQueue_eq hfree]
  case refused =>
    exact ⟨_, (exec_queueDisable hs hw).trans (congrArg Host.Outcome.next (writeQCfg_refused he hw hb)), rd_wr_queue _ (by decide),
      only_wr (only_refl _ _)⟩

end Sys2Proof.Machine
end

section
/-! PROOFS. The fetch of a submission entry. -/

namespace Sys2Proof.Machine

-- In parallel these proofs take more memory than the check allows.
set_option Elab.async false

/-! ### A queue that is blocked for want of a tag (R211) -/

/-- A queue counts that no tag is free, once until its next fetch. -/
def State.stallCounted (s : State) (q : Nat) : State :=
  (s.bump (VEC.Q_STAT_TAG_STALL q)).modQueue q fun x => { x with stalled := true }

theorem tagStall_eq (s : State) : s.tagStall =
    ((List.range 16).filter fun q => s.hasEntry q && !(s.queues.getD q {}).stalled).foldl State.stallCounted s := rfl

theorem rd_stallCounted_same (s : State) (q : Nat) :
    (s.stallCounted q).rd (VEC.Q_STAT_TAG_STALL q) = satAdd 255 (s.rd (VEC.Q_STAT_TAG_STALL q)) 1 :=
  rd_bump s _ _ (show 0 + 8 ≤ 32 by decide)

theorem rd_stallCounted_other (s : State) {p q : Nat} (hp : p < 16) (hq : q < 16) (h : q ≠ p) :
    (s.stallCounted q).rd (VEC.Q_STAT_TAG_STALL p) = s.rd (VEC.Q_STAT_TAG_STALL p) :=
  rd_bump_apart s _ _ _ (apart_other_queue (by omega))

/-- Of the queues in a list each counts once. -/
theorem rd_foldl_stallCounted {p : Nat} (hp : p < 16) {l : List Nat} (hl : ∀ q ∈ l, q < 16) (hnd : l.Nodup) (s : State) :
    (l.foldl State.stallCounted s).rd (VEC.Q_STAT_TAG_STALL p) =
      satAdd 255 (s.rd (VEC.Q_STAT_TAG_STALL p)) (if p ∈ l then 1 else 0) := by
  induction l generalizing s with
  | nil =>
    have hlt : s.rd (VEC.Q_STAT_TAG_STALL p) < 256 := State.rd_lt s (VEC.Q_STAT_TAG_STALL p)
    simp only [List.foldl_nil, List.not_mem_nil, if_false, satAdd]
    omega
  | cons q l ih =>
    obtain ⟨hq, hl⟩ := List.forall_mem_cons.mp hl
    obtain ⟨hnot, hnd⟩ := List.nodup_cons.mp hnd
    rw [List.foldl_cons, ih hl hnd]
    by_cases h : q = p
    · subst h
      rw [rd_stallCounted_same, if_neg hnot, if_pos List.mem_cons_self]
      simp only [satAdd]
      omega
    · rw [rd_stallCounted_other s hp hq h]
      simp only [List.mem_cons, Ne.symm h, false_or]

theorem rd_tagStall (s : State) {p : Nat} (hp : p < 16) : s.tagStall.rd (VEC.Q_STAT_TAG_STALL p) =
    satAdd 255 (s.rd (VEC.Q_STAT_TAG_STALL p)) (if s.hasEntry p && !(s.queues.getD p {}).stalled then 1 else 0) := by
  rw [tagStall_eq, rd_foldl_stallCounted hp (fun q hq => List.mem_range.mp (List.mem_of_mem_filter hq))
    (List.nodup_range.filter _)]
  simp only [List.mem_filter, List.mem_range, hp, true_and]

theorem cmds_tagStall (s : State) : s.tagStall.cmds = s.cmds :=
  List.foldlRecOn (motive := fun t : State => t.cmds = s.cmds) _ _ rfl fun _ h _ _ => h

/-! ### The entry that is fetched (R200, R206, R210) -/

/-- The order of service advances past queue `q`, which is blocked no more. -/
def State.served (s : State) (q : Nat) : State :=
  { s with queues := s.queues.modify q fun u => { u with stalled := false },
           fetchNext := if q = 0 then s.fetchNext else q % 15 + 1 }

theorem only_served {w : List Fld} {s t : State} (q : Nat) (h : Safety.only w s t) : Safety.only w (s.served q) (t.served q) := by
  refine ⟨?_, h.2⟩
  rw [State.served, State.served, h.1]

/-- The head entry of queue `q` has been read, and the head stands behind it. -/
def State.fetched (s : State) (q : Nat) : State :=
  let idx := s.rd (VEC.Q_SQ_IDX_HEAD q)
  let y := (s.readMem .sram (s.sqBase q + 32 * idx) 32).1.modQueue q fun x => { x with stalled := false }
  let z := y.wr (VEC.Q_SQ_IDX_HEAD q) ((idx + 1) % y.depth q)
  { z with fetchNext := if q = 0 then z.fetchNext else q % 15 + 1 }

/-- The checked read moves neither the ring's depth nor the order of service. -/
theorem fetched_eq (s : State) (q : Nat) : s.fetched q =
    ((s.readMem .sram (s.sqBase q + 32 * s.rd (VEC.Q_SQ_IDX_HEAD q)) 32).1.served q).wr (VEC.Q_SQ_IDX_HEAD q)
      ((s.rd (VEC.Q_SQ_IDX_HEAD q) + 1) % s.depth q) := by
  unfold State.fetched
  extract_lets idx y z
  have hread : Safety.regsBut Ram.sram.checkFlds s y := (only_readMem s .sram _ 32).2.1
  have hdepth : y.depth q = s.depth q := hread (VEC.Q_CFG_DEPTH q) (by
    simpa [Ram.checkFlds] using ⟨apart_of_not_queue, apart_of_not_queue, apart_of_not_queue, apart_of_not_queue⟩)
  rw [← hdepth]
  rfl

theorem only_fetched (s : State) (q : Nat) :
    Safety.only [VEC.Q_SQ_IDX_HEAD q, CORE.ECC_CE_SRAM, CORE.ECC_UE_SRAM, CORE.ECC_LAST_ADDR, VEC.PENDING_PENDING]
      (s.served q) (s.fetched q) := by
  rw [fetched_eq]
  exact only_wr (only_served q (only_mono (only_readMem s .sram _ 32) (by simp [Ram.checkFlds, Ram.ueFld, Ram.ceFld])))

theorem head_fetched {s : State} {q : Nat} (h : 0 < s.depth q) :
    (s.fetched q).rd (VEC.Q_SQ_IDX_HEAD q) = (s.rd (VEC.Q_SQ_IDX_HEAD q) + 1) % s.depth q := by
  rw [fetched_eq]
  exact rd_wr_queue _ ((Nat.mod_lt _ h).trans (depth_lt s q))

/-- The entry at an index is what its 32 bytes, its ring's place and the default wait make it. -/
theorem entryAt_congr {s t : State} {q : Nat} (hb : t.sqBase q = s.sqBase q) (hm : ∀ a, t.byte .sram a = s.byte .sram a)
    (hw : t.rd CORE.READY_WAIT_DEFAULT_MS = s.rd CORE.READY_WAIT_DEFAULT_MS) (idx tag : Nat) :
    t.entryAt q idx tag = s.entryAt q idx tag := by
  have hbytes (a n : Nat) : t.bytes .sram a n = s.bytes .sram a n := by simp only [bytes_eq_map, hm]
  simp only [State.entryAt, hb, hbytes, hw]

theorem entryAt_fetched (s : State) (q idx tag : Nat) : (s.fetched q).entryAt q idx tag = s.entryAt q idx tag := by
  have honly := only_fetched s q
  have hbase : (s.fetched q).sqBase q = s.sqBase q := congrArg (· * 64) (honly.2.1 (VEC.Q_SQ_BASE_ADDR q) (by
    simpa using ⟨apart_queue, apart_of_not_queue, apart_of_not_queue, apart_of_not_queue, apart_of_not_queue⟩))
  exact entryAt_congr hbase (honly.2.2.1 .sram) (honly.2.1 _ (by simpa using ⟨queue_apart_of_not_queue, by decide⟩)) idx tag

/-! ### What ENTRY_FETCH does -/

section
variable {s : State} (ha : s.awake = true)
include ha

theorem exec_entryFetch_none (hq : s.nextQueue = none) : exec .entryFetch s = .next s := by
  change execEntryFetch s = _
  simp only [execEntryFetch, ha, hq, Bool.not_true, Bool.false_eq_true, if_false]

theorem exec_entryFetch_stall {q : Nat} (hq : s.nextQueue = some q) (ht : s.freeTag? = none) :
    exec .entryFetch s = .next s.tagStall := by
  change execEntryFetch s = _
  simp only [execEntryFetch, ha, hq, ht, Bool.not_true, Bool.false_eq_true, if_false]

variable {q t : Nat} (hq : s.nextQueue = some q) (ht : s.freeTag? = some t)
include hq ht

theorem exec_entryFetch_entry : exec .entryFetch s =
    if (s.badWord .sram (s.sqBase q + 32 * s.rd (VEC.Q_SQ_IDX_HEAD q)) 32).isSome then
      .next (((s.fetched q).wr VEC.TAGS_PEAK (max ((s.fetched q).rd VEC.TAGS_PEAK) ((s.fetched q).tagsHeld.length + 1))).post q
        { tag := some t, cmdId := 0xFFFF, status := stEcc, origin := q, now := false, r0 := s.rd (VEC.Q_SQ_IDX_HEAD q), r1 := 0 }).settle
    else .next ((s.fetched q).accept ((s.fetched q).entryAt q (s.rd (VEC.Q_SQ_IDX_HEAD q)) t)).settle := by
  change execEntryFetch s = _
  unfold execEntryFetch
  rw [ha, hq, ht]
  rfl

end

end Sys2Proof.Machine
end

section
/-! PROOFS. The checks of a fetched entry, and its place among the commands in flight. -/

namespace Sys2Proof.Machine

-- In parallel these proofs take more memory than the check allows.
set_option Elab.async false

/-! ### What the checks of R201 rest on -/

theorem mayWrite_congr {s t : State} (h : ∀ n < 12, t.bankOwner n = s.bankOwner n) (r : Rod) (a len : Nat) :
    t.mayWrite r a len = s.mayWrite r a len :=
  inSram_banks_congr fun n hn => by rw [h n hn]

theorem scriptPlace_congr {s t : State} (h : ∀ n < 12, t.bankOwner n = s.bankOwner n)
    (hb : ∀ i, t.rd (bandBank i) = s.rd (bandBank i)) (a len : Nat) : t.scriptPlace a len = s.scriptPlace a len := by
  rw [State.scriptPlace, State.scriptPlace, Bool.and_assoc, Bool.and_assoc]
  exact congrArg (a % 4 == 0 && ·) (inSram_banks_congr fun n hn => by simp only [h n hn, hb])

/-- The fields that the end of a head recheck may write (R293). -/
def recheckFlds : List Fld := [PRINT.STAT_STATE, CORE.BG_HEAD_ABANDONED, VEC.PENDING_PENDING]

section
variable {s t : State} (h : Safety.regsBut recheckFlds s t) (himg : t.img = s.img) (hpart : t.part = s.part)
include h himg

theorem sensor_congr : t.sensor = s.sensor := by
  rw [State.sensor, h VIDIN.STAT_DESC (by decide)]
  simp only [State.sensor?, State.bead?, himg, State.sensor]

theorem captureChecks_congr (c : Cmd) : t.captureChecks c = s.captureChecks c := by
  have hsensor := sensor_congr h himg
  have hcapture : t.captureOf c = s.captureOf c := by rw [State.captureOf, State.captureOf, hsensor]
  rw [State.captureChecks, State.captureChecks, hsensor, hcapture, h VIDIN.RING_E_COUNT (by decide), h VIDIN.RING_S_COUNT (by decide)]

include hpart

theorem paramsOk_congr (c : Cmd) : t.paramsOk c = s.paramsOk c := by
  have howner : ∀ n < 12, t.bankOwner n = s.bankOwner n := fun n => bankOwner_congr h hpart (by decide)
  have hband : ∀ i, t.rd (bandBank i) = s.rd (bandBank i) := fun i => h _ (by
    simp [recheckFlds, Fld.apart, bandBank, RASTER.BAND_CFG_BAND_MAX, PRINT.STAT_STATE, CORE.BG_HEAD_ABANDONED, VEC.PENDING_PENDING])
  have hsample : t.sampleOk c = s.sampleOk c := by
    simp only [State.sampleOk, State.thmUsed, State.thmDesc, State.beadD, State.bead?, himg]
  simp only [State.paramsOk, inShared_congr howner, mayWrite_congr howner, scriptPlace_congr howner hband, hsample, State.rdBit,
    h MOVER.CFG_UPPER (by decide)]

/-- The end of a head recheck changes nothing that the checks of a fetch look at. -/
theorem fetchCodes_congr (hbase : t.base = s.base) (e : Entry) : t.fetchCodes e = s.fetchCodes e := by
  have hhas : t.has = s.has := by
    funext r
    rw [State.has, State.has, hpart]
  have hserves : t.serves e.cmd.queue e.rod = s.serves e.cmd.queue e.rod := by
    rw [State.serves, State.serves, State.beadD, State.beadD, State.bead?, State.bead?, himg]
  have hlocked : t.encLocked = s.encLocked := congrArg (· != 0) (h PRINT.CFG_PACING (by decide))
  rw [State.fetchCodes, State.fetchCodes, hbase, hhas, hserves, hlocked, h FEED.CFG_FB_TYPE (by decide), paramsOk_congr h himg hpart,
    captureChecks_congr h himg]

end

/-! ### A head recheck that a PRINT command ends (R293) -/

theorem only_abandonRecheck (s : State) :
    Safety.only recheckFlds { s with print := s.abandonRecheck.print } s.abandonRecheck := by
  unfold State.abandonRecheck
  split
  · have hdue : Safety.only recheckFlds (s.setPrint fun p => { p with recheckDue := true, recheck := false })
        ((s.setPrint fun p => { p with recheckDue := true, recheck := false }).printIdle.evt CORE.BG_HEAD_ABANDONED .core) :=
      only_evt (only_wr (only_refl _ _) (by decide)) (by decide) (by decide)
    rw [only_same hdue State.print]
    exact hdue
  · exact only_refl _ s

/-- The state in which the checks of an entry find it: a PRINT command has ended a head recheck. -/
def State.cleared (s : State) (e : Entry) : State :=
  if e.opcodeOk && e.cmd.rods.contains .print then s.abandonRecheck else s

theorem only_cleared (s : State) (e : Entry) : Safety.only recheckFlds { s with print := (s.cleared e).print } (s.cleared e) := by
  unfold State.cleared
  split
  · exact only_abandonRecheck s
  · exact only_refl _ s

theorem fetchCodes_cleared (s : State) (e : Entry) : (s.cleared e).fetchCodes e = s.fetchCodes e :=
  have honly := only_cleared s e
  fetchCodes_congr (s := s) honly.2.1 (only_same honly State.img) (only_same honly State.part) (only_same honly State.base) e

/-! ### The place of a command (R201, R211) -/

/-- The command of an entry is in flight, and its tag is held. -/
def State.placed (s : State) (e : Entry) : State :=
  let t : State := { s with cmds := s.cmds ++ [e.cmd] }
  t.wr VEC.TAGS_PEAK (max (t.rd VEC.TAGS_PEAK) t.tagsHeld.length)

theorem length_tagsHeld_append (s : State) (c : Cmd) :
    ({ s with cmds := s.cmds ++ [c] } : State).tagsHeld.length = s.tagsHeld.length + 1 := by
  simp only [State.tagsHeld, List.map_append, List.length_append, List.map_cons, List.map_nil, List.length_cons, List.length_nil]
  omega

theorem accept_of_none {s : State} {e : Entry} (h : firstCode (s.fetchCodes e) = none) : s.accept e = (s.cleared e).placed e := by
  have hcode : firstCode ((s.cleared e).fetchCodes e) = none := by rw [fetchCodes_cleared, h]
  rw [State.cleared] at hcode
  simp only [State.accept, hcode]
  rfl

theorem accept_of_code {s : State} {e : Entry} {code : Nat} (h : firstCode (s.fetchCodes e) = some code) (hop : e.cmd.op ≠ 0x60) :
    s.accept e = ((s.cleared e).placed e).endOpen e.cmd.tag code := by
  have hcode : firstCode ((s.cleared e).fetchCodes e) = some code := by rw [fetchCodes_cleared, h]
  have hno : (e.cmd.op == 0x60) = false := beq_eq_false_iff_ne.mpr hop
  rw [State.cleared] at hcode
  simp only [State.accept, hcode, hno, Bool.and_false, Bool.false_and, Bool.false_eq_true, if_false]
  rfl

/-- A tag that is taken shows in the most that were held. -/
theorem peak_lt {s : State} (h : s.tagsHeld.length < 64) : max (s.rd VEC.TAGS_PEAK) (s.tagsHeld.length + 1) < 128 := by
  have hlt : s.rd VEC.TAGS_PEAK < 128 := State.rd_lt s VEC.TAGS_PEAK
  omega

theorem peak_placed {s : State} (e : Entry) (h : s.tagsHeld.length < 64) :
    (s.placed e).rd VEC.TAGS_PEAK = max (s.rd VEC.TAGS_PEAK) (s.tagsHeld.length + 1) := by
  rw [State.placed, length_tagsHeld_append]
  exact rd_wr_of_lt _ ⟨peak_lt h, by decide⟩

theorem only_placed (s : State) (e : Entry) : Safety.only [VEC.TAGS_PEAK] { s with cmds := s.cmds ++ [e.cmd] } (s.placed e) :=
  only_wr (only_refl _ _)

/-- A change of a queue that leaves its held completions alone keeps the tags that they hold. -/
theorem tagsHeld_modQueue {s : State} {q : Nat} {f : Queue → Queue} (h : ∀ x, (f x).held = x.held) :
    (s.modQueue q f).tagsHeld = s.tagsHeld := by
  have hmap : (s.queues.modify q f).map Queue.held = s.queues.map Queue.held := by
    refine List.ext_getElem? fun i => ?_
    rw [List.getElem?_map, List.getElem?_map, List.getElem?_modify]
    cases s.queues[i]? with
    | none => rfl
    | some x => by_cases hi : q = i <;> simp [hi, h]
  have htags (l : List Queue) : (l.flatMap fun x => x.held.filterMap (·.tag)) = ((l.map Queue.held).map (·.filterMap (·.tag))).flatten := by
    rw [List.map_map, List.flatMap_def]
    rfl
  rw [State.tagsHeld, State.tagsHeld, htags, htags, State.modQueue_queues, hmap, State.modQueue_cmds]

/-- A fetch releases no tag. -/
theorem tagsHeld_fetched (s : State) (q : Nat) : (s.fetched q).tagsHeld = s.tagsHeld :=
  (only_same (only_fetched s q) State.tagsHeld).trans (tagsHeld_modQueue (s := s) (f := fun u => { u with stalled := false }) fun _ => rfl)

/-! ### The statement -/

/-- Settles O19: what is fetched is the entry at the head with the state behind it, and the checks, which a head recheck that ends does not
disturb, say what becomes of it. -/
theorem entryFetch : Obligations.EntryFetch := by
  refine ⟨fun s => exec_entryFetch_none, fun s q ha hq ht => ⟨exec_entryFetch_stall ha hq ht, cmds_tagStall s, fun p hp _ => rd_tagStall s hp⟩,
    fun s q t ha hq ht hd => ?fetch, fun s e hroom => ?accept⟩
  case fetch =>
    have hexec := exec_entryFetch_entry ha hq ht
    refine ⟨s.fetched q, ⟨head_fetched hd, only_fetched s q⟩, fun hgood => ?_, fun hbad hroom => ?_⟩
    · rw [hexec, hgood, entryAt_fetched]
      rfl
    · have htags : (s.fetched q).tagsHeld = s.tagsHeld := tagsHeld_fetched s q
      rw [hexec, if_pos hbad]
      exact ⟨_, rfl, rd_wr_of_lt _ ⟨peak_lt (by rw [htags]; exact hroom), by decide⟩, only_wr (only_refl _ _)⟩
  case accept =>
    have honly := only_cleared s e
    have hcmds : (s.cleared e).cmds = s.cmds := only_same honly State.cmds
    have htags : (s.cleared e).tagsHeld = s.tagsHeld := only_same honly State.tagsHeld
    have hpeak : (s.cleared e).rd VEC.TAGS_PEAK = s.rd VEC.TAGS_PEAK := honly.2.1 VEC.TAGS_PEAK (by decide)
    refine ⟨(s.cleared e).placed e, ?_, ?_, accept_of_none, fun code => accept_of_code⟩
    · rw [peak_placed e (by rw [htags]; exact hroom), hpeak, htags]
    · have hplaced := only_placed (s.cleared e) e
      rw [hcmds] at hplaced
      simpa [State.cleared] using hplaced

end Sys2Proof.Machine
end

section
/-! PROOFS. What a transfer of MOVER copies, and what it leaves alone. -/

namespace Sys2Proof.Machine

-- In parallel these proofs take more memory than the check allows.
set_option Elab.async false

/-! ### The pieces of a line (R229, R232, R235) -/

/-- The pieces `ps`, each an offset and a number of bytes, cover the offsets from `k` up to `m` in order. -/
def tiles : Nat → List (Nat × Nat) → Nat → Prop
  | k, [], m => k = m
  | k, p :: ps, m => p.1 = k ∧ tiles (k + p.2) ps m

theorem tiles_append_iff {l₁ l₂ : List (Nat × Nat)} {k e : Nat} :
    tiles k (l₁ ++ l₂) e ↔ ∃ m, tiles k l₁ m ∧ tiles m l₂ e := by
  induction l₁ generalizing k with
  | nil => simp [tiles]
  | cons p l₁ ih => simp [tiles, ih, and_assoc]

theorem tiles_sum {ps : List (Nat × Nat)} {k m : Nat} (h : tiles k ps m) (z : Nat) :
    (ps.map (·.2)).foldl (· + ·) z + k = z + m := by
  induction ps generalizing k z with
  | nil => exact congrArg (z + ·) h
  | cons p ps ih =>
    have := ih h.2 (z + p.2)
    simp only [List.map_cons, List.foldl_cons]
    omega

/-- Pieces that each end where the next begins cover all from the first's beginning to the last's end. -/
theorem tiles_map_range {b : Nat → Nat} {f : Nat → Nat × Nat} (n : Nat)
    (h : ∀ j < n, (f j).1 = b j ∧ b j + (f j).2 = b (j + 1)) : tiles (b 0) ((List.range n).map f) (b n) := by
  induction n with
  | zero => rfl
  | succ n ih =>
    rw [List.range_succ, List.map_append, tiles_append_iff]
    exact ⟨b n, ih fun j hj => h j (Nat.lt_succ_of_lt hj), h n (Nat.lt_succ_self n)⟩

/-- The offset in a line of `len` bytes at `dst` at which the line's word number `j` begins, held to the line. -/
def lineCut (dst len j : Nat) : Nat := min (dst + len) (max dst (16 * (dst / 16 + j))) - dst

/-- The piece of a line of `len` bytes at `dst` that lies in word `w` of main SRAM. -/
def linePiece (dst len w : Nat) : Nat × Nat :=
  (max dst (16 * w) - dst, min (dst + len) (16 * w + 16) - max dst (16 * w))

theorem linePieces_eq (dst len : Nat) : linePieces dst len = (Ram.sram.words dst len).map (linePiece dst len) := rfl

/-- The pieces of a line cover it from its first byte to its last. -/
theorem tiles_linePieces (dst len : Nat) : tiles 0 (linePieces dst len) len := by
  rw [linePieces_eq]
  by_cases hlen : len = 0
  · simp [hlen, words_zero, tiles]
  · have hfirst : lineCut dst len 0 = 0 := by simp only [lineCut]; omega
    have hlast : lineCut dst len ((dst + len - 1) / 16 - dst / 16 + 1) = len := by simp only [lineCut]; omega
    have htiles := tiles_map_range (b := lineCut dst len) (f := linePiece dst len ∘ (· + dst / 16))
      ((dst + len - 1) / 16 - dst / 16 + 1) fun j hj => by simp only [Function.comp, linePiece, lineCut]; omega
    rw [hfirst, hlast] at htiles
    simpa [Ram.words, Ram.word, hlen] using htiles

/-- A piece holds at least one byte, within its line and within one word of main SRAM. -/
theorem mem_linePieces {dst len : Nat} {p : Nat × Nat} (h : p ∈ linePieces dst len) :
    0 < p.2 ∧ p.1 + p.2 ≤ len ∧ dst + p.1 + p.2 ≤ 16 * ((dst + p.1) / 16) + 16 := by
  rw [linePieces_eq] at h
  obtain ⟨w, hw, rfl⟩ := List.mem_map.mp h
  obtain ⟨hlo, hhi⟩ := mem_words_sram hw
  have hlen : len ≠ 0 := fun h => by simp [h, words_zero] at hw
  simp only [linePiece]
  omega

theorem groups4_flatten {α : Type} (l : List α) : (groups4 l).flatten = l := by
  fun_induction groups4 l with
  | case1 a b c d l ih => simp [ih]
  | case2 => rfl
  | case3 l => simp

theorem ne_nil_of_mem_groups4 {α : Type} {l g : List α} (h : g ∈ groups4 l) : g ≠ [] := by
  fun_induction groups4 l with
  | case1 a b c d l ih =>
    rcases List.mem_cons.mp h with rfl | h
    · simp
    · exact ih h
  | case2 => simp at h
  | case3 l _ hnil =>
    rw [List.mem_singleton.mp h]
    exact hnil

/-! ### What a transfer may change -/

/-- The register fields that a transfer may write: the counts of errors and of poisoned words, and of suspended flash operations. -/
def copyFlds : List Fld := Ram.sram.checkFlds ++ Ram.keep.checkFlds ++ [MOVER.ECC_STAT_POISONED, FLASH.SUSPENDS_COUNT]

/-- A transfer that may write the bytes `W` of main SRAM has taken `s` to `t`. -/
structure CopyOnly (W : Nat → Prop) (s t : State) : Prop where
  img : t.img = s.img
  cmds : t.cmds = s.cmds
  flash : t.flash = s.flash
  keep : t.keep = s.keep
  regs : Safety.regsBut copyFlds s t
  sram : ∀ a, ¬W a → t.byte .sram a = s.byte .sram a

section
variable {W V : Nat → Prop} {s t u : State}

theorem CopyOnly.refl (W : Nat → Prop) (s : State) : CopyOnly W s s := ⟨rfl, rfl, rfl, rfl, fun _ _ => rfl, fun _ _ => rfl⟩

theorem CopyOnly.trans (h : CopyOnly W s t) (k : CopyOnly W t u) : CopyOnly W s u :=
  ⟨k.img.trans h.img, k.cmds.trans h.cmds, k.flash.trans h.flash, k.keep.trans h.keep, regsBut_trans h.regs k.regs,
    fun a ha => (k.sram a ha).trans (h.sram a ha)⟩

theorem CopyOnly.mono (h : CopyOnly V s t) (hW : ∀ a, V a → W a) : CopyOnly W s t :=
  { h with sram := fun a ha => h.sram a fun hV => ha (hW a hV) }

theorem CopyOnly.of_only {w : List Fld} (h : Safety.only w s t) (hw : ∀ f ∈ w, f ∈ copyFlds) : CopyOnly W s t :=
  ⟨only_same h State.img, only_same h State.cmds, only_same h State.flash, only_same h State.keep,
    fun f hf => h.2.1 f fun g hg => hf g (hw g hg), fun a _ => h.2.2.1 .sram a⟩

/-- A chain of changes over a list. -/
theorem CopyOnly.foldl {α : Type} {x : Xfer} {f : Xfer → α → Xfer} (l : List α)
    (hf : ∀ (y : Xfer), ∀ b ∈ l, CopyOnly W y.s (f y b).s) : CopyOnly W x.s (l.foldl f x).s :=
  List.foldlRecOn (motive := fun y : Xfer => CopyOnly W x.s y.s) _ _ (.refl W x.s) fun y h b hb => h.trans (hf y b hb)

end

/-! ### Words that are read, written and poisoned (R248, R252, R253) -/

section
variable (s : State)

theorem only_checkWords (m : Ram) (l : List Nat) : Safety.only m.checkFlds s (l.foldl (fun s w => s.checkWord m w) s) :=
  List.foldlRecOn (motive := fun t => Safety.only m.checkFlds s t) _ _ (only_refl _ s) fun t h w _ => only_trans h (only_checkWord t m w)

theorem checkFlds_sub_copyFlds (m : Ram) : ∀ f ∈ m.checkFlds, f ∈ copyFlds := by
  cases m <;> simp +contextual [copyFlds]

theorem copyOnly_checkWord (W : Nat → Prop) (m : Ram) (w : Nat) : CopyOnly W s (s.checkWord m w) :=
  .of_only (only_checkWord s m w) (checkFlds_sub_copyFlds m)

theorem copyOnly_poisonWord (W : Nat → Prop) (w : Nat) : CopyOnly W s (s.poisonWord w) := by
  unfold State.poisonWord
  extract_lets t
  have hmark : CopyOnly W s t := by
    unfold t
    split
    · exact .refl W s
    · exact ⟨rfl, rfl, rfl, rfl, fun _ _ => rfl, fun _ _ => rfl⟩
  exact hmark.trans (.of_only (only_bump (w := [MOVER.ECC_STAT_POISONED]) (only_refl _ t)) (by simp [copyFlds]))

theorem keep_writeWord_sram (a : Nat) (bs : List Nat) (w : Nat) : (s.writeWord .sram a bs w).keep = s.keep := by
  have hcheck : (s.checkWord .sram w).keep = s.keep := only_same (only_checkWord s .sram w) State.keep
  unfold State.writeWord
  extract_lets lo hi part
  split
  · rfl
  · split
    · exact hcheck
    · exact hcheck

/-- The write of one word's part of `bs` reaches no byte beyond them. -/
theorem byte_writeWord_outside {a : Nat} {bs : List Nat} (w : Nat) {x : Nat} (hx : ¬(a ≤ x ∧ x < a + bs.length)) :
    (s.writeWord .sram a bs w).byte .sram x = s.byte .sram x := by
  have hsram : (s.writeWord .sram a bs w).sram = (sramWord a bs s.sramPair w).1 := congrArg Prod.fst (sramPair_writeWord s a bs w)
  refine congrArg BitVec.toNat (show Store.get 0 (s.writeWord .sram a bs w).sram x = Store.get 0 s.sram x from ?_)
  rw [hsram]
  unfold sramWord
  extract_lets lo hi
  split
  · rfl
  · refine putBytes_get _ _ _ _ ?_
    simp only [List.length_take, List.length_drop, lo, hi]
    omega

theorem copyOnly_writeWord (a : Nat) (bs : List Nat) (w : Nat) :
    CopyOnly (fun x => a ≤ x ∧ x < a + bs.length) s (s.writeWord .sram a bs w) :=
  have hmem : MemOnly s (s.writeWord .sram a bs w) := MemOnly.writeWord (show MemOnly s s from rfl) .sram a bs w
  ⟨(congrArg State.img hmem :), (congrArg State.cmds hmem :), (congrArg State.flash hmem :), keep_writeWord_sram s a bs w,
    fun f hf => regsBut_writeWord s .sram a bs w f fun g hg => hf g (checkFlds_sub_copyFlds .sram g hg),
    fun _ hx => byte_writeWord_outside s w hx⟩

end

/-! ### The frame of a transfer (R229, R230) -/

/-- What a piece of `n` bytes at offset `o` of its line reads: the state after the reads, the bytes, and the address of an
uncorrectable source word. -/
def Xfer.pieceRead (x : Xfer) (d : Desc) (src o n : Nat) : State × List Nat × Option Nat :=
  match d.fill, srcSpace src with
  | true, _ => (x.s, (List.range n).map fun i => d.src / 256 ^ ((o + i) % 4) % 256, none)
  | false, (none, base) => (x.s, x.s.flashBytes (src + o - base) n, none)
  | false, (some m, base) =>
    let at_ := src + o - base
    ((newWords m at_ o n).foldl (fun s w => s.checkWord m w) { x.s with free := x.s.free + 1 }, x.s.seenBytes m at_ n,
      (x.s.badWord m at_ n).map fun w => m.base + m.word * w)

theorem length_flashBytes (s : State) (a n : Nat) : (s.flashBytes a n).length = n := by
  induction n generalizing a with
  | zero => rfl
  | succ n ih => rw [State.flashBytes, List.length_cons, ih]

theorem length_seenBytes (s : State) (m : Ram) (a n : Nat) : (s.seenBytes m a n).length = n := by
  cases m <;> simp [State.seenBytes, bytes_eq_map]

/-- A piece reads as many bytes as it holds, and its reads change no memory. -/
theorem pieceRead_spec (x : Xfer) (d : Desc) (W : Nat → Prop) (src o n : Nat) :
    CopyOnly W x.s (x.pieceRead d src o n).1 ∧ (x.pieceRead d src o n).2.1.length = n := by
  unfold Xfer.pieceRead
  split
  · exact ⟨.refl W x.s, by simp⟩
  · exact ⟨.refl W x.s, length_flashBytes _ _ _⟩
  · refine ⟨CopyOnly.trans (t := { x.s with free := x.s.free + 1 }) ?_ (.of_only (only_checkWords _ _ _) (checkFlds_sub_copyFlds _)),
      length_seenBytes _ _ _ _⟩
    exact ⟨rfl, rfl, rfl, rfl, fun _ _ => rfl, fun _ _ => rfl⟩

theorem copyOnly_piece (x : Xfer) (d : Desc) (poison : Bool) (src dst : Nat) (p : Nat × Nat) :
    CopyOnly (fun a => dst + p.1 ≤ a ∧ a < dst + p.1 + p.2) x.s (x.piece d poison src dst p).s := by
  obtain ⟨o, n⟩ := p
  unfold Xfer.piece
  split
  · exact .refl _ _
  · obtain ⟨hread, hlen⟩ := pieceRead_spec x d (fun a => dst + o ≤ a ∧ a < dst + o + n) src o n
    extract_lets y
    dsimp -zeta only
    extract_lets a found w dstBad checked stored
    have hfound : found = x.pieceRead d src o n := rfl
    rw [← hfound] at hread hlen
    have hchecked : CopyOnly (fun a => dst + o ≤ a ∧ a < dst + o + n) x.s checked := hread.trans (copyOnly_checkWord _ _ .sram w)
    have hstored : CopyOnly (fun a => dst + o ≤ a ∧ a < dst + o + n) x.s stored := by
      have h := copyOnly_writeWord found.1 a found.2.1 w
      rw [hlen] at h
      exact hread.trans h
    split
    · exact hread
    · split <;> split
      · exact hchecked.trans (copyOnly_poisonWord _ _ w)
      · exact hchecked
      · exact hstored.trans (copyOnly_poisonWord _ _ w)
      · exact hstored

theorem copyOnly_burst (x : Xfer) (d : Desc) (poison : Bool) (line src dst : Nat) {ps : List (Nat × Nat)} {len : Nat}
    (hps : ∀ p ∈ ps, p.1 + p.2 ≤ len) :
    CopyOnly (fun a => dst ≤ a ∧ a < dst + len) x.s (x.burst d poison line src dst ps).s := by
  unfold Xfer.burst
  split
  · exact .refl _ _
  · extract_lets y o n z
    have hz : CopyOnly (fun a => dst ≤ a ∧ a < dst + len) x.s z.s := by
      unfold z
      split
      · exact .of_only (only_flashRead x.s) (by simp [copyFlds])
      · exact .refl _ _
    split
    · exact .refl _ _
    · split
      · exact .refl _ _
      · refine hz.trans (.foldl ps fun y p hp => (copyOnly_piece y d poison src dst p).mono fun a ha => ?_)
        have := hps p hp
        omega

/-- The byte `a` lies in line `i` of the descriptor's destination. -/
def Desc.inLine (d : Desc) (i a : Nat) : Prop :=
  (d.dst + i * d.dstStride).toNat ≤ a ∧ a < (d.dst + i * d.dstStride).toNat + d.len

theorem copyOnly_copyLine (x : Xfer) (d : Desc) (poison : Bool) (i : Nat) :
    CopyOnly (d.inLine i) x.s (x.copyLine d poison i).s := by
  refine .foldl _ fun y ps hps => copyOnly_burst y d poison i _ _ fun p hp => ?_
  have hmem : p ∈ (groups4 (linePieces (d.dst + i * d.dstStride).toNat d.len)).flatten := List.mem_flatten.mpr ⟨ps, hps, hp⟩
  rw [groups4_flatten] at hmem
  exact (mem_linePieces hmem).2.1

/-- A transfer writes the lines of its destination, and nothing of flash or keep RAM. -/
theorem copyOnly_transfer (s : State) (d : Desc) (poison : Bool) (n : Nat) :
    CopyOnly (fun a => ∃ i < d.count, d.inLine i a) s (s.transfer d poison n).s :=
  .foldl (x := { s := s, left := n }) _ fun y i hi => (copyOnly_copyLine y d poison i).mono fun _ ha => ⟨i, List.mem_range.mp hi, ha⟩

/-! ### Ranges that stay unprotected (R190) -/

theorem isProtected_mono {s : State} {a n b m : Nat} (h : s.isProtected a n = false) (hlo : a ≤ b) (hhi : b + m ≤ a + n) :
    s.isProtected b m = false := by
  simp only [State.isProtected, List.any_eq_false, Bool.and_eq_true, decide_eq_true_eq] at h ⊢
  intro p hp hb
  exact h p hp (by omega)

theorem word32_congr {s t : State} {m : Ram} {a : Nat} (h : ∀ i < 4, t.byte m (a + i) = s.byte m (a + i)) :
    t.word32 m a = s.word32 m a := by
  rw [State.word32, State.word32, bytes_eq_map, bytes_eq_map]
  exact congrArg leNat (List.map_congr_left fun i hi => h i (List.mem_range.mp hi))

section
variable {s t : State} {dst len : Nat}

/-- The length in an image's header is not written where the image is not. -/
theorem imageSpan_eq {a : Nat} (h : CopyOnly (fun x => dst ≤ x ∧ x < dst + len) s t)
    (ha : ¬(dst < a + s.imageSpan a ∧ a < dst + len)) : t.imageSpan a = s.imageSpan a := by
  unfold State.imageSpan at ha ⊢
  by_cases hend : 0x600000 - a ≤ 0x180
  · omega
  · rw [word32_congr fun i hi => h.sram (a + 8 + i) fun hx => ha (by omega)]

theorem bandState_apart_copyFlds (i : Nat) : ∀ g ∈ copyFlds, g.apart (bandState i) = true := by
  have hmod : bandState i = bandState (i % 3) := by simp only [bandState, Nat.mod_mod]
  have hall : ∀ j < 3, ∀ g ∈ copyFlds, g.apart (bandState j) = true := by decide
  rw [hmod]
  exact hall _ (Nat.mod_lt i (by decide))

theorem bandBank_apart_copyFlds (i : Nat) : ∀ g ∈ copyFlds, g.apart (bandBank i) = true := by
  have hmod : bandBank i = bandBank (i % 3) := by simp only [bandBank, Nat.mod_mod]
  have hall : ∀ j < 3, ∀ g ∈ copyFlds, g.apart (bandBank j) = true := by decide
  rw [hmod]
  exact hall _ (Nat.mod_lt i (by decide))

/-- Writes to an unprotected range protect nothing and release nothing. -/
theorem protectedRanges_eq (h : CopyOnly (fun x => dst ≤ x ∧ x < dst + len) s t) (hp : s.isProtected dst len = false) :
    t.protectedRanges = s.protectedRanges := by
  have hspan (a : Nat) (ha : s.img.verify = .push a) : t.imageSpan a = s.imageSpan a := by
    refine imageSpan_eq h ?_
    have hmem : (a, s.imageSpan a) ∈ s.protectedRanges := by simp [State.protectedRanges, ha]
    simpa using List.any_eq_false.mp hp _ hmem
  simp only [State.protectedRanges, h.cmds, h.img, h.regs _ (bandState_apart_copyFlds _), h.regs _ (bandBank_apart_copyFlds _)]
  cases hv : s.img.verify with
  | push a => simp only [hspan a hv]
  | none | slot | partialImg => rfl

theorem isProtected_eq (h : CopyOnly (fun x => dst ≤ x ∧ x < dst + len) s t) (hp : s.isProtected dst len = false) :
    t.isProtected dst len = false := by
  rw [State.isProtected, protectedRanges_eq h hp]
  exact hp

end

/-! ### A copy from main SRAM to main SRAM that nothing stops -/

/-- The words of a piece of a line at `src` are read. -/
def State.pieceSeen (s : State) (src o n : Nat) : State :=
  (newWords .sram (src + o) o n).foldl (fun y w => y.checkWord .sram w) { s with free := s.free + 1 }

/-- A piece of a line is read at `src` and written at `dst`. -/
def State.pieceMoved (s : State) (src dst o n : Nat) : State :=
  (s.pieceSeen src o n).writeWord .sram (dst + o) (s.bytes .sram (src + o) n) ((dst + o) / 16)

theorem only_pieceSeen (s : State) (src o n : Nat) :
    Safety.only Ram.sram.checkFlds { s with free := s.free + 1 } (s.pieceSeen src o n) := only_checkWords _ .sram _

theorem pieceRead_sram {x : Xfer} {d : Desc} {src : Nat} (o n : Nat) (hue : x.s.sramUe = []) (hfill : d.fill = false)
    (hsrc : src < 0x08000000) : x.pieceRead d src o n = (x.s.pieceSeen src o n, x.s.bytes .sram (src + o) n, none) := by
  have hspace : srcSpace src = (some .sram, 0) := if_pos hsrc
  have hbad : x.s.badWord .sram (src + o) n = none := by simp [State.badWord, State.ue, hue]
  simp [Xfer.pieceRead, State.pieceSeen, State.seenBytes, hfill, hspace, hbad]

/-- With no uncorrectable word in main SRAM, a piece that is read there moves. -/
theorem piece_eq_pieceMoved {x : Xfer} {d : Desc} (poison : Bool) {src : Nat} (dst : Nat) (p : Nat × Nat) (hstop : x.stop = none)
    (hue : x.s.sramUe = []) (hfill : d.fill = false) (hsrc : src < 0x08000000) :
    x.piece d poison src dst p = { x with s := x.s.pieceMoved src dst p.1 p.2, wrote := true } := by
  obtain ⟨o, n⟩ := p
  have hseen : (x.s.pieceSeen src o n).sramUe = [] := (only_same (only_pieceSeen x.s src o n) State.sramUe).trans hue
  unfold Xfer.piece
  rw [if_neg (by simp [hstop])]
  extract_lets y
  dsimp -zeta only
  extract_lets a found w dstBad checked stored
  have hfound : found = (x.s.pieceSeen src o n, x.s.bytes .sram (src + o) n, none) := pieceRead_sram o n hue hfill hsrc
  have hdst : dstBad = false := by simp [dstBad, hfound, hseen]
  have hstored : stored = x.s.pieceMoved src dst o n := by simp only [stored, hfound, State.pieceMoved, a, w]
  split
  next e hbad =>
    rw [hfound] at hbad
    contradiction
  next =>
    rw [if_neg (by simp [hdst]), if_neg (by simp [hfound]), hstored]

theorem length_bytes (s : State) (m : Ram) (a n : Nat) : (s.bytes m a n).length = n := by simp [bytes_eq_map]

theorem getD_bytes (s : State) (m : Ram) (a : Nat) {n i : Nat} (h : i < n) : (s.bytes m a n).getD i 0 = s.byte m (a + i) := by
  simp [bytes_eq_map, h]

theorem byte_lt (s : State) (m : Ram) (a : Nat) : s.byte m a < 256 := BitVec.isLt _

/-- A part of a word that holds no error is stored whole. -/
theorem sramWord_clean {c : Store Byte} {a w : Nat} {bs : List Nat} (hlo : 16 * w ≤ a) (hhi : a + bs.length ≤ 16 * w + 16) :
    sramWord a bs (c, []) w = (putBytes c a bs, []) := by
  have hstart : max a (16 * w) = a := Nat.max_eq_left hlo
  have hend : min (a + bs.length) (16 * w + 16) = a + bs.length := Nat.min_eq_left hhi
  simp [sramWord, Ram.word, hstart, hend]

/-- What a move of a piece leaves in main SRAM. -/
theorem pieceMoved_spec {s : State} {src dst o n : Nat} (hue : s.sramUe = []) (hw : dst + o + n ≤ 16 * ((dst + o) / 16) + 16) :
    (s.pieceMoved src dst o n).sramUe = [] ∧ ∀ x, (s.pieceMoved src dst o n).byte .sram x =
      if dst + o ≤ x ∧ x < dst + o + n then s.byte .sram (src + (x - dst)) else s.byte .sram x := by
  have hpair : (s.pieceMoved src dst o n).sramPair = (putBytes s.sram (dst + o) (s.bytes .sram (src + o) n), []) := by
    have hlen := length_bytes s .sram (src + o) n
    have hbefore : (s.pieceSeen src o n).sramPair = (s.sram, []) := 
      (only_same (only_pieceSeen s src o n) State.sramPair).trans (congrArg (s.sram, ·) hue)
    rw [State.pieceMoved, sramPair_writeWord, hbefore, sramWord_clean (by omega) (by omega)]
  refine ⟨congrArg Prod.snd hpair, fun x => ?_⟩
  have hsram : (s.pieceMoved src dst o n).sram = _ := congrArg Prod.fst hpair
  show (Store.get 0 (s.pieceMoved src dst o n).sram x).toNat = _
  rw [hsram, get_putBytes, length_bytes]
  refine if_ctx_congr Iff.rfl (fun hx => ?_) fun _ => rfl
  rw [getD_bytes _ _ _ (by omega), Nat.mod_eq_of_lt (byte_lt _ _ _)]
  congr 1
  omega

/-- From `s`, the first `k` bytes of the one line of descriptor `d` have been copied, and nothing has stopped the transfer. -/
structure Copied (s : State) (d : Desc) (k : Nat) (x : Xfer) : Prop where
  going : x.stop = none
  clean : x.s.sramUe = []
  only : CopyOnly (fun a => d.dst ≤ a ∧ a < d.dst + d.len) s x.s
  here : ∀ i < k, x.s.byte .sram (d.dst + i) = s.byte .sram (d.src + i)

/-- A descriptor of one line from main SRAM to main SRAM, its bytes apart and its destination unprotected. -/
structure PlainCopy (s : State) (d : Desc) : Prop where
  count : d.count = 1
  fill : d.fill = false
  src : d.src + d.len ≤ 0x600000
  apart : d.dst + d.len ≤ d.src ∨ d.src + d.len ≤ d.dst
  unprotected : s.isProtected d.dst d.len = false

section
variable {s : State} {d : Desc} {x : Xfer} {k m : Nat} (poison : Bool)

theorem Copied.piece {p : Nat × Nat} (hd : PlainCopy s d) (h : Copied s d p.1 x) (hp : p ∈ linePieces d.dst d.len) :
    Copied s d (p.1 + p.2) (x.piece d poison d.src d.dst p) ∧ (x.piece d poison d.src d.dst p).left = x.left := by
  obtain ⟨-, hin, hword⟩ := mem_linePieces hp
  have heq := piece_eq_pieceMoved poison d.dst p h.going h.clean hd.fill (Nat.lt_of_le_of_lt (Nat.le_of_add_right_le hd.src) (by decide))
  have honly := h.only.trans ((copyOnly_piece x d poison d.src d.dst p).mono fun a ha => by omega)
  obtain ⟨hclean, hbyte⟩ := pieceMoved_spec (src := d.src) h.clean hword
  rw [heq] at honly ⊢
  refine ⟨⟨h.going, hclean, honly, fun i hi => (hbyte _).trans ?_⟩, rfl⟩
  split
  · rw [h.only.sram _ (by have := hd.apart; omega), Nat.add_sub_cancel_left]
  · exact h.here i (by omega)

theorem Copied.pieces {ps : List (Nat × Nat)} (hd : PlainCopy s d) (h : Copied s d k x) (ht : tiles k ps m)
    (hps : ∀ p ∈ ps, p ∈ linePieces d.dst d.len) :
    Copied s d m (ps.foldl (fun x p => x.piece d poison d.src d.dst p) x) ∧
      (ps.foldl (fun x p => x.piece d poison d.src d.dst p) x).left = x.left := by
  induction ps generalizing k x with
  | nil =>
    obtain rfl : k = m := ht
    exact ⟨h, rfl⟩
  | cons p ps ih =>
    obtain ⟨rfl, ht⟩ := ht
    obtain ⟨hp, hps⟩ := List.forall_mem_cons.mp hps
    obtain ⟨hcopied, hleft⟩ := h.piece poison hd hp
    obtain ⟨hall, hsame⟩ := ih hcopied ht hps
    exact ⟨hall, hsame.trans hleft⟩

theorem tiles_le {ps : List (Nat × Nat)} {len : Nat} (ht : tiles k ps m) (hk : k ≤ len) (hps : ∀ p ∈ ps, p.1 + p.2 ≤ len) :
    m ≤ len := by
  induction ps generalizing k with
  | nil => exact (show k = m from ht) ▸ hk
  | cons p ps ih =>
    obtain ⟨hp, hps⟩ := List.forall_mem_cons.mp hps
    obtain ⟨rfl, ht⟩ := ht
    exact ih ht hp hps

theorem Copied.burst {ps : List (Nat × Nat)} (line : Nat) (hd : PlainCopy s d) (h : Copied s d k x) (ht : tiles k ps m) (hne : ps ≠ [])
    (hps : ∀ p ∈ ps, p ∈ linePieces d.dst d.len) (hleft : x.left ≠ 0) :
    Copied s d m (x.burst d poison line d.src d.dst ps) ∧ (x.burst d poison line d.src d.dst ps).left = x.left - 1 := by
  have hflash : d.fromFlash = false := by
    have hspace : srcSpace d.src = (some .sram, 0) := if_pos (Nat.lt_of_le_of_lt (Nat.le_of_add_right_le hd.src) (by decide))
    simp [Desc.fromFlash, hspace]
  have hfree := isProtected_eq h.only hd.unprotected
  have hgroup : x.s.isProtected (d.dst + (ps.head?.map (·.1)).getD 0) ((ps.map (·.2)).foldl (· + ·) 0) = false := by
    have hin : ∀ p ∈ ps, p.1 + p.2 ≤ d.len := fun p hp => (mem_linePieces (hps p hp)).2.1
    obtain ⟨p, rest, rfl⟩ := List.exists_cons_of_ne_nil hne
    have hfirst : p.1 = k := ht.1
    have hsum := tiles_sum ht 0
    have hm := tiles_le ht (Nat.le_of_add_right_le (hfirst ▸ hin p List.mem_cons_self)) hin
    refine isProtected_mono hfree (Nat.le_add_right _ _) ?_
    simp only [List.head?_cons, Option.map_some, Option.getD_some]
    omega
  unfold Xfer.burst
  rw [if_neg (by simp [h.going, hleft])]
  extract_lets y o n z
  rw [if_neg (by simp [hflash]), if_neg (ne_true_of_eq_false hgroup)]
  have hz : z = y := by simp [z, hflash]
  rw [hz]
  exact Copied.pieces poison hd (x := y) ⟨h.going, h.clean, h.only, h.here⟩ ht hps

theorem Copied.bursts {gs : List (List (Nat × Nat))} (line : Nat) (hd : PlainCopy s d) (h : Copied s d k x) (ht : tiles k gs.flatten m)
    (hne : ∀ ps ∈ gs, ps ≠ []) (hps : ∀ p ∈ gs.flatten, p ∈ linePieces d.dst d.len) (hleft : gs.length ≤ x.left) :
    Copied s d m (gs.foldl (fun x ps => x.burst d poison line d.src d.dst ps) x) := by
  induction gs generalizing k x with
  | nil =>
    obtain rfl : k = m := ht
    exact h
  | cons ps gs ih =>
    obtain ⟨hfirst, hne⟩ := List.forall_mem_cons.mp hne
    obtain ⟨e, hhead, htail⟩ := tiles_append_iff.mp (List.flatten_cons ▸ ht)
    rw [List.flatten_cons, List.forall_mem_append] at hps
    rw [List.length_cons] at hleft
    obtain ⟨hcopied, hsame⟩ := h.burst poison line hd hhead hfirst hps.1 (by omega)
    have hrest : gs.length ≤ (x.burst d poison line d.src d.dst ps).left := by omega
    exact ih hcopied htail hne hps.2 hrest

/-- A plain copy that has bursts enough copies its line. -/
theorem copied_transfer {n : Nat} (hd : PlainCopy s d) (hue : s.sramUe = []) (hn : d.bursts ≤ n) :
    Copied s d d.len (s.transfer d poison n) := by
  have hfirst : (d.dst + ((0 : Nat) : Int) * d.dstStride).toNat = d.dst ∧
      (d.src + ((0 : Nat) : Int) * d.srcStride).toNat = d.src := by simp
  have hgroups : (groups4 (linePieces d.dst d.len)).length ≤ n := by simpa [Desc.bursts, hd.count] using hn
  simp only [State.transfer, hd.count, List.range_one, List.foldl_cons, List.foldl_nil, Xfer.copyLine, hfirst]
  refine Copied.bursts (x := { s := s, left := n }) poison 0 hd ⟨rfl, hue, .refl _ s, fun i hi => absurd hi (Nat.not_lt_zero i)⟩ ?_
    (fun ps hps => ne_nil_of_mem_groups4 hps) ?_ hgroups
  · rw [groups4_flatten]
    exact tiles_linePieces d.dst d.len
  · rw [groups4_flatten]
    exact fun p hp => hp

end

/-! ### The statement -/

/-- Settles O27: a plain copy is followed burst by burst, and every step of any transfer writes inside the lines of its destination. -/
theorem transferCopies : Obligations.TransferCopies := by
  refine ⟨fun s d p n hcount hfill hsrc _ hapart hue hfree hn => ?_, fun s d p n hlines => ?_⟩
  · have h := copied_transfer p ⟨hcount, hfill, hsrc, hapart, hfree⟩ hue hn
    exact ⟨h.going, h.here⟩
  · have h := copyOnly_transfer s d p n
    refine ⟨fun a => flashBytes_congr h.flash a 1, fun a => ?_, fun a hout => h.sram a ?_⟩
    · simp only [State.byte, State.cells, h.keep]
    · rintro ⟨i, hi, hlo, hhi⟩
      have := hlines i hi
      rcases hout i hi with h | h <;> omega

end Sys2Proof.Machine
end

section
/-! PROOFS. MOVER's channels: how a channel's work ends, the writes of CHn_CTRL and CHn_APPEND, MOVE, and descriptors. -/

namespace Sys2Proof.Machine

-- In parallel these proofs take more memory than the check allows.
set_option Elab.async false

/-! ### Channels and their registers -/

/-- A register outside the blocks of the channels lies apart from theirs. -/
theorem apart_chan_of_outside {f : Fld} {a lo wid i : Nat} (hf : f.addr < 0x40030100 ∨ 0x40030300 ≤ f.addr := by decide)
    (ha : 0x40030100 ≤ a ∧ a < 0x40030120 := by decide) : f.apart ⟨a + 0x20 * (i % 16), lo, wid⟩ = true := by
  have hne : f.addr ≠ a + 0x20 * (i % 16) := by omega
  simp [Fld.apart, hne]

theorem chan_apart_of_outside {f : Fld} {a lo wid i : Nat} (hf : f.addr < 0x40030100 ∨ 0x40030300 ≤ f.addr := by decide)
    (ha : 0x40030100 ≤ a ∧ a < 0x40030120 := by decide) : Fld.apart ⟨a + 0x20 * (i % 16), lo, wid⟩ f = true :=
  (Fld.apart_comm _ _).trans (apart_chan_of_outside hf ha)

section
variable {w : List Fld} {s t : State} {k : Nat}

theorem only_modChan (k : Nat) (f : Chan → Chan) (h : Safety.only w s t) : Safety.only w (s.modChan k f) (t.modChan k f) := by
  refine ⟨?_, h.2⟩
  rw [State.modChan, State.modChan, h.1]

theorem chan_modChan (f : Chan → Chan) (hk : k < s.chans.length) : (s.modChan k f).chan k = f (s.chan k) := by
  simp [State.chan, hk]

theorem rd_evtBit_apart {f g : Fld} (i : Nat) (r : Rod) (hf : f.apart g = true) (hp : VEC.PENDING_PENDING.apart g = true) :
    (s.evtBit f i r).rd g = s.rd g :=
  (only_evtBit (w := [f, VEC.PENDING_PENDING]) (only_refl _ s)).2.1 g (by simp [hf, hp])

/-- The bit of an event is set after it. -/
theorem rdBit_evtBit {f : Fld} {i : Nat} (r : Rod) (hi : i < f.wid) (hl : f.lo + f.wid ≤ 32 := by decide)
    (hp : VEC.PENDING_PENDING.apart f = true := by decide) : (s.evtBit f i r).rdBit f i = true := by
  unfold State.evtBit
  split
  next h => exact h
  next =>
    have hbit := rdBit_wrBit_true s f i hi hl
    rw [State.rdBit, State.rodVec, rd_vec _ _ _ hp, ← State.rdBit, hbit]
    simp

end

/-- A counter of a channel after it was advanced. -/
theorem rd_bump_chan (s : State) {a lo wid i : Nat} (hl : lo + wid ≤ 32 := by decide) :
    (s.bump ⟨a + 0x20 * (i % 16), lo, wid⟩).rd ⟨a + 0x20 * (i % 16), lo, wid⟩ =
      satAdd (2 ^ wid - 1) (s.rd ⟨a + 0x20 * (i % 16), lo, wid⟩) 1 := rd_bump s _ 1 hl

/-! ### What ends a channel's work (R236, R237, R240, R247) -/

section
variable (s : State) (k : Nat)

theorem chanIdle_spec : (s.chanIdle k).rd (MOVER.CH_STATE_STATE k) = chIdle ∧ (s.chanIdle k).rd (MOVER.CH_STATE_OWNER k) = 0 ∧
    Safety.only [MOVER.CH_STATE_STATE k, MOVER.CH_STATE_OWNER k] (s.modChan k fun _ => {}) (s.chanIdle k) := by
  have hrd (f : Fld) : (s.chanIdle k).rd f = ((s.wr (MOVER.CH_STATE_STATE k) chIdle).wr (MOVER.CH_STATE_OWNER k) 0).rd f :=
    State.modChan_rd f
  refine ⟨?_, ?_, only_modChan k _ (only_wr (only_wr (only_refl _ s)))⟩
  · exact (hrd _).trans ((State.rd_wr_apart _ _ _ _ apart_queue).trans (rd_wr_queue s (by decide)))
  · exact (hrd _).trans (rd_wr_queue _ (by decide))

/-- The cause, its address and the descriptor of an error are shown. -/
def State.errorShown (cause d a : Nat) : State :=
  ((s.wr (MOVER.CH_STATE_CAUSE k) cause).wr (MOVER.CH_ERR_ADDR_ADDR k) a).wr (MOVER.CH_CUR_ADDR k) d

theorem rd_errorShown {cause d a : Nat} (hc : cause < 16) (hd : d < 2 ^ 32) (ha : a < 2 ^ 32) :
    let x := s.errorShown k cause d a
    x.rd (MOVER.CH_STATE_CAUSE k) = cause ∧ x.rd (MOVER.CH_ERR_ADDR_ADDR k) = a ∧ x.rd (MOVER.CH_CUR_ADDR k) = d :=
  ⟨((State.rd_wr_apart _ _ _ _ apart_queue).trans (State.rd_wr_apart _ _ _ _ apart_queue)).trans (rd_wr_queue s hc),
    (State.rd_wr_apart _ _ _ _ apart_queue).trans (rd_wr_queue _ ha), rd_wr_queue _ hd⟩

theorem only_errorShown (cause d a : Nat) :
    Safety.only [MOVER.CH_STATE_CAUSE k, MOVER.CH_ERR_ADDR_ADDR k, MOVER.CH_CUR_ADDR k] s (s.errorShown k cause d a) :=
  only_wr (only_wr (only_wr (only_refl _ s)))

variable {s k}

theorem chanError_command {t : Nat} (cause d a : Nat) (ht : (s.chan k).tag = some t) : s.chanError k cause d a =
    ((s.errorShown k cause d a).chanIdle k).complete t (if (s.chan k).wrote then stTorn else moveStatus cause) (s.chan k).ended
      (moveResult cause d) := by
  have htag : ((s.errorShown k cause d a).chan k).tag = some t := ht
  unfold State.errorShown at htag ⊢
  simp only [State.chanError, htag]
  rfl

theorem chanError_register (cause d a : Nat) (ht : (s.chan k).tag = none) : s.chanError k cause d a =
    ((s.errorShown k cause d a).wr (MOVER.CH_STATE_STATE k) chError).evtBit MOVER.EVT_ERR_CH k .mover := by
  have htag : ((s.errorShown k cause d a).chan k).tag = none := ht
  unfold State.errorShown at htag ⊢
  simp only [State.chanError, htag]

theorem chainEnd_ok {t : Nat} (ht : (s.chan k).tag = some t) (hp : (s.chan k).poisonAt = none) :
    s.chainEnd k = (s.chanIdle k).complete t stOK (s.chan k).ended 0 := by
  simp only [State.chainEnd, ht, hp]

theorem chainEnd_poisoned {t d : Nat} (ht : (s.chan k).tag = some t) (hp : (s.chan k).poisonAt = some d) :
    s.chainEnd k = (s.chanIdle k).complete t stEcc (s.chan k).ended (moveResult cPoisoned d) := by
  simp only [State.chainEnd, ht, hp]

/-- A register-owned channel parks, with the event of R238 where PARK_EV asks for it. -/
theorem chainEnd_register (ht : (s.chan k).tag = none) : s.chainEnd k =
    let x := s.wr (MOVER.CH_STATE_STATE k) chParked
    if s.rd (MOVER.CH_CTRL_PARK_EV k) ≠ 0 then x.evtBit MOVER.EVT_PARK_CH k .mover else x := by
  have hev : (s.wr (MOVER.CH_STATE_STATE k) chParked).flag (MOVER.CH_CTRL_PARK_EV k) = (s.rd (MOVER.CH_CTRL_PARK_EV k) != 0) :=
    congrArg (· != 0) (State.rd_wr_apart _ _ _ _ apart_queue)
  simp only [State.chainEnd, ht, hev, bne_iff_ne]

end

/-- A channel's event leaves the state that the channel has come to. -/
theorem rd_state_evtBit (s : State) (k : Nat) {f : Fld} {v : Nat} (hv : v < 4) (hf : f.addr < 0x40030100 := by decide) :
    ((s.wr (MOVER.CH_STATE_STATE k) v).evtBit f k .mover).rd (MOVER.CH_STATE_STATE k) = v :=
  (rd_evtBit_apart k .mover (apart_chan_of_outside (.inl hf)) apart_chan_of_outside).trans (rd_wr_queue s hv)

theorem only_stateEvt (s : State) (k v : Nat) (f : Fld) : Safety.only [MOVER.CH_STATE_STATE k, f, VEC.PENDING_PENDING] s
    ((s.wr (MOVER.CH_STATE_STATE k) v).evtBit f k .mover) := only_evtBit (only_wr (only_refl _ s))

/-! ### Writes of CHn_CTRL and CHn_APPEND (R237, R243, R244) -/

section
variable (s : State) (k : Nat) (w : Word)

/-- The fields of CHn_CTRL are stored. -/
def State.ctrlStored : State :=
  ((s.wr (MOVER.CH_CTRL_WEIGHT k) (max 1 (min 8 (field w 4 4)))).wr (MOVER.CH_CTRL_ECC_MODE k) (field w 8 1)).wr
    (MOVER.CH_CTRL_PARK_EV k) (field w 9 1)

theorem rd_ctrlStored : let x := s.ctrlStored k w
    x.rd (MOVER.CH_CTRL_WEIGHT k) = max 1 (min 8 (field w 4 4)) ∧ x.rd (MOVER.CH_CTRL_ECC_MODE k) = field w 8 1 ∧
      x.rd (MOVER.CH_CTRL_PARK_EV k) = field w 9 1 :=
  ⟨((State.rd_wr_apart _ _ _ _ apart_queue).trans (State.rd_wr_apart _ _ _ _ apart_queue)).trans
      (rd_wr_queue s (show _ < 16 by omega)),
    (State.rd_wr_apart _ _ _ _ apart_queue).trans (rd_wr_queue _ (field_lt w 8 1)), rd_wr_queue _ (field_lt w 9 1)⟩

theorem only_ctrlStored : Safety.only [MOVER.CH_CTRL_WEIGHT k, MOVER.CH_CTRL_ECC_MODE k, MOVER.CH_CTRL_PARK_EV k] s (s.ctrlStored k w) :=
  only_wr (only_wr (only_wr (only_refl _ s)))

/-- A write of CHn_CTRL stores the fields, then performs GO, STOP and CLEAR in this order. -/
theorem writeChCtrl_eq : s.writeChCtrl k w =
    let g := if field w 0 1 = 1 then (s.ctrlStored k w).chanGo k else s.ctrlStored k w
    let p := if field w 1 1 = 1 then g.chanStop k else g
    if field w 2 1 = 1 then p.chanClear k else p := by
  simp only [State.writeChCtrl, beq_iff_eq]
  rfl

end

theorem exec_append {s : State} (h : Safety.takes s .mover) (k : Fin 16) : exec (.append k) s = .next (s.idleRestart.append k).settle :=
  congrArg Host.Outcome.next (hostReg_takes h fun s => (s.append k).settle)

/-- A command that stands for a write of CHn_CTRL with bit `b` set does nothing for a word without it. -/
theorem ctrl_takes {s : State} (h : Safety.takes s .mover) (k : Nat) (w : Word) (b : Nat) :
    (if field w b 1 == 1 then .next (s.hostReg .mover fun s => (s.writeChCtrl k w).settle) else .next s :
        Host.Outcome State Fault Refusal) =
      .next (if field w b 1 = 1 then (s.idleRestart.writeChCtrl k w).settle else s) := by
  by_cases hb : field w b 1 = 1 <;> simp [hb, hostReg_takes h]

section
variable {s : State} {k : Nat}

theorem chanGo_idle (hi : s.chState k = chIdle) (hr : s.ready .mover = true) :
    s.chanGo k = s.startChain k (32 * s.rd (MOVER.CH_HEAD_ADDR k)) 1 {} := by simp [State.chanGo, hi, hr]

theorem chanGo_ignored (h : s.chState k ≠ chIdle ∨ s.ready .mover = false) : s.chanGo k = s := by
  rcases h with h | h <;> simp [State.chanGo, h]

theorem chanStop_run (ho : s.rd (MOVER.CH_STATE_OWNER k) ≠ 2) (hs : s.chState k = chRun) :
    s.chanStop k = (s.interrupt k).chanIdle k := by simp [State.chanStop, ho, hs]

theorem chanStop_parked (ho : s.rd (MOVER.CH_STATE_OWNER k) ≠ 2) (hs : s.chState k = chParked) : s.chanStop k = s.chanIdle k := by
  simp [State.chanStop, ho, hs, chParked, chRun]

theorem chanStop_ignored (h : s.rd (MOVER.CH_STATE_OWNER k) = 2 ∨ s.chState k = chIdle ∨ s.chState k = chError) :
    s.chanStop k = s := by
  rcases h with h | h | h <;> simp [State.chanStop, h, chIdle, chError, chRun, chParked]

theorem append_ignored (h : s.rd (MOVER.CH_STATE_OWNER k) = 2 ∨ s.chState k = chIdle ∨ s.chState k = chError) :
    s.append k = s.wr (MOVER.CH_STATE_APPEND_IGNORED k) 1 := by
  rcases h with h | h | h <;> simp [State.append, h]

theorem append_run (ho : s.rd (MOVER.CH_STATE_OWNER k) ≠ 2) (hs : s.chState k = chRun) :
    s.append k = s.bump (MOVER.CH_STATE_APPEND_COUNT k) := by
  simp [State.append, ho, hs, chRun, chIdle, chError]

/-- Where no word of the memory holds an error, a read counts nothing. -/
theorem readMem_clean {m : Ram} (hu : s.ue m = []) (hc : s.ce m = []) (a len : Nat) : (s.readMem m a len).1 = s := by
  refine List.foldlRecOn (motive := fun t => t = s) _ _ rfl fun t h w _ => ?_
  rw [h]
  simp [State.checkWord, hu, hc]

theorem badWord_clean {m : Ram} (hu : s.ue m = []) (a len : Nat) : s.badWord m a len = none := by simp [State.badWord, hu]

/-- A channel whose LINK names another descriptor starts it. -/
theorem readLink_follows {l : Nat} (n : Nat) (hu : s.sramUe = []) (hc : s.sramCe = [])
    (hl : s.word32 .sram (s.rd (MOVER.CH_CUR_ADDR k) + 0x1C) = l) (halign : l % 32 = 0) (hlt : l < 2 ^ 23) :
    s.readLink k (n + 1) = s.startDesc k l := by
  have hread := readMem_clean (m := .sram) hu hc (s.rd (MOVER.CH_CUR_ADDR k) + 0x1C) 4
  have hbad := badWord_clean (m := .sram) hu (s.rd (MOVER.CH_CUR_ADDR k) + 0x1C) 4
  have hfields : ¬((l / 2 % 16 != 0 || decide (2 ^ 23 ≤ l)) = true) := by
    simp only [bne_iff_ne, Bool.or_eq_true, decide_eq_true_eq]
    omega
  have hend : (l % 2 == 0) = true := beq_iff_eq.mpr (by omega)
  simp only [State.readLink, hread, hbad, hl]
  rw [if_neg hfields, if_pos hend]

theorem append_parked {l : Nat} (ho : s.rd (MOVER.CH_STATE_OWNER k) ≠ 2) (hs : s.chState k = chParked) (hu : s.sramUe = [])
    (hc : s.sramCe = []) (hl : s.word32 .sram (s.rd (MOVER.CH_CUR_ADDR k) + 0x1C) = l) (halign : l % 32 = 0) (hlt : l < 2 ^ 23) :
    s.append k = (s.bump (MOVER.CH_REREADS_COUNT k)).startDesc k l := by
  have hcur : (s.bump (MOVER.CH_REREADS_COUNT k)).rd (MOVER.CH_CUR_ADDR k) = s.rd (MOVER.CH_CUR_ADDR k) :=
    State.rd_wr_apart _ _ _ _ apart_queue
  have hfollow : (s.bump (MOVER.CH_REREADS_COUNT k)).readLink k 1 = (s.bump (MOVER.CH_REREADS_COUNT k)).startDesc k l :=
    readLink_follows 0 hu hc (by rw [hcur]; exact hl) halign hlt
  have hend : l % 2 = 0 := by omega
  simp [State.append, ho, hs, hl, hend, hfollow, chParked, chRun, chIdle, chError]

end

/-! ### Descriptors and MOVE (R228, R239) -/

section
variable {s : State} {k : Nat}

/-- Where main SRAM holds no uncorrectable word, a read of it counts correctable errors alone. -/
theorem only_readMem_correctable (hu : s.sramUe = []) (a len : Nat) :
    Safety.only [CORE.ECC_CE_SRAM] s (s.readMem .sram a len).1 := by
  refine List.foldlRecOn (motive := fun t => Safety.only [CORE.ECC_CE_SRAM] s t) _ _ (only_refl _ s) fun t h w _ => ?_
  have hue : t.ue .sram = [] := (only_same h State.sramUe).trans hu
  unfold State.checkWord
  rw [if_neg (by simp [hue])]
  exact only_ite (only_bump h (by simp [Ram.ceFld])) h

/-- Channel `k` shows the descriptor at `a` as its own, at line 0, and has read it. -/
def State.descRead (s : State) (k a : Nat) : State :=
  ((((s.wr (MOVER.CH_CUR_ADDR k) a).wr (MOVER.CH_PROGRESS_LINE k) 0).wr (MOVER.CH_STATE_STATE k) chRun).readMem .sram a 28).1

theorem only_descRead (hu : s.sramUe = []) (a : Nat) :
    Safety.only [MOVER.CH_CUR_ADDR k, MOVER.CH_PROGRESS_LINE k, MOVER.CH_STATE_STATE k, CORE.ECC_CE_SRAM] s (s.descRead k a) :=
  only_trans (only_wr (only_wr (only_wr (only_refl _ s)))) (only_mono (only_readMem_correctable (by exact hu) a 28) (by simp))

theorem rd_descRead (hu : s.sramUe = []) {a : Nat} (ha : a < 2 ^ 32) :
    (s.descRead k a).rd (MOVER.CH_CUR_ADDR k) = a ∧ (s.descRead k a).rd (MOVER.CH_PROGRESS_LINE k) = 0 ∧
      (s.descRead k a).rd (MOVER.CH_STATE_STATE k) = chRun := by
  have hread {f : Fld} (hf : CORE.ECC_CE_SRAM.apart f = true) : (s.descRead k a).rd f =
      (((s.wr (MOVER.CH_CUR_ADDR k) a).wr (MOVER.CH_PROGRESS_LINE k) 0).wr (MOVER.CH_STATE_STATE k) chRun).rd f :=
    (only_readMem_correctable (by exact hu) a 28).2.1 f (by simpa using hf)
  refine ⟨(hread apart_chan_of_outside).trans ?_, (hread apart_chan_of_outside).trans ?_,
    (hread apart_chan_of_outside).trans (rd_wr_queue _ (by decide))⟩
  · exact ((State.rd_wr_apart _ _ _ _ apart_queue).trans (State.rd_wr_apart _ _ _ _ apart_queue)).trans (rd_wr_queue s ha)
  · exact (State.rd_wr_apart _ _ _ _ apart_queue).trans (rd_wr_queue _ (by decide))

theorem flashHeld_descRead (hu : s.sramUe = []) (a : Nat) : (s.descRead k a).flashHeld = s.flashHeld := by
  have hregs := (only_descRead (k := k) hu a).2.1
  have hfld {f : Fld} (hf : f.addr < 0x40030100) (hc : CORE.ECC_CE_SRAM.apart f = true) : (s.descRead k a).rd f = s.rd f :=
    hregs f (by simpa [hc] using ⟨chan_apart_of_outside (.inl hf), chan_apart_of_outside (.inl hf), chan_apart_of_outside (.inl hf)⟩)
  simp only [State.flashHeld, State.flag, hfld (f := FLASH.STAT_BUSY) (by decide) (by decide),
    hfld (f := FLASH.STAT_SUSPEND) (by decide) (by decide)]

/-- The descriptor `d` is the one in progress, and `held` says whether the flash makes reads wait as it starts. -/
def Chan.begun (d : Desc) (held : Bool) (c : Chan) : Chan := { c with desc := d, stuck := d.fromFlash && held }

/-- A descriptor that passes its check is taken. -/
theorem startDesc_good {a : Nat} (halign : a % 32 = 0) (hin : inSram a 32 = true) (hu : s.sramUe = []) (hc : s.descCause a = none) :
    s.startDesc k a = (s.descRead k a).modChan k (Chan.begun (s.descAt a) s.flashHeld) := by
  have honly := only_descRead (k := k) hu a
  have hcause : (s.descRead k a).descCause a = none := (only_same honly (State.descCause · a)).trans hc
  have hdesc : (s.descRead k a).descAt a = s.descAt a := only_same honly (State.descAt · a)
  have hheld := flashHeld_descRead (k := k) hu a
  unfold State.startDesc
  rw [if_neg (by simp [halign, hin])]
  extract_lets y bad z
  have hbad : bad = none := badWord_clean (m := .sram) (s := y) hu a 28
  have hz : z = s.descRead k a := rfl
  rw [hbad, hz, hcause, hdesc, hheld]
  rfl

theorem startDesc_badAddr {a : Nat} (h : a % 32 ≠ 0 ∨ inSram a 32 = false) : s.startDesc k a = s.chanError k cDescAddr a a :=
  if_pos (by simpa using h)

end

theorem exec_move {tag : Fin 64} {s : State} {c : Cmd} {k : Nat} (hc : s.cmd? tag = some c) (hop : c.op = 0x30) (ha : s.awake = true)
    (hr : s.ready .mover = true) (hn : s.nextMove = some tag.val) (hk : s.moveChan c = some k) : exec (.move tag) s =
      .next ((s.start tag).startChain k c.p0 2 { tag := some tag.val, poison := c.p1.testBit 9 }).settle := by
  show execMove tag s = _
  simp [execMove, hc, hop, ha, hr, hn, hk]

section
variable {k : Fin 16} {s : State} (ha : s.awake = true) (hs : s.chState k = chRun) (hf : s.flashWaits (s.chan k).desc = false)
include ha hs hf

/-- A channel in RUN that moves all of its descriptor reads LINK. -/
theorem exec_descriptorEnd_moved (hr : (s.runBursts k (s.chan k).desc.bursts).2 = none) : exec (.descriptorEnd k) s =
    .next (((s.runBursts k (s.chan k).desc.bursts).1.descEnded k).readLink k 2).settle := by
  show execDescriptorEnd k s = _
  simp [execDescriptorEnd, ha, hs, hf, hr]

/-- A channel in RUN that meets an error in its descriptor shows it. -/
theorem exec_descriptorEnd_error {e : Nat × Nat} (hr : (s.runBursts k (s.chan k).desc.bursts).2 = some e) :
    let t := (s.runBursts k (s.chan k).desc.bursts).1
    exec (.descriptorEnd k) s = .next (t.chanError k e.1 (t.rd (MOVER.CH_CUR_ADDR k)) e.2).settle := by
  show execDescriptorEnd k s = _
  simp [execDescriptorEnd, ha, hs, hf, hr]

end

/-! ### The statement -/

/-- Settles O26: each write and each end of a channel's work is one rule of the channels. -/
theorem channels : Obligations.Channels := by
  refine ⟨⟨fun s k => chanIdle_spec s k, fun s k cause d a hc hd ha => ?error,
      fun s k => ⟨fun t => chainEnd_ok, fun t d => chainEnd_poisoned, ?parked⟩⟩,
    fun k w s h => ?ctrl, fun k s => ⟨chanGo_idle, chanGo_ignored, chanStop_run, chanStop_parked, chanStop_ignored, ?clear⟩,
    fun k s h => ⟨fun hi => ?ignored, fun ho hr => ?counted, fun ho hp hu hce halign hlt => ?linked⟩,
    fun tag s c k => exec_move, fun k a s halign hin hu hc hk => ?desc, fun k a s => startDesc_badAddr, fun k s ha hs hf => ?ended⟩
  case error =>
    obtain ⟨hcause, haddr, hcur⟩ := rd_errorShown s k hc hd ha
    refine ⟨s.errorShown k cause d a, hcause, haddr, hcur, only_errorShown s k cause d a, fun t => chanError_command cause d a,
      fun ht => ?_⟩
    rw [chanError_register cause d a ht]
    exact ⟨rd_state_evtBit _ k (by decide), rdBit_evtBit .mover k.isLt, only_stateEvt _ k chError _⟩
  case parked =>
    intro ht
    rw [chainEnd_register ht]
    refine ⟨?_, only_ite (only_stateEvt s k chParked _) (only_wr (only_refl _ s)), fun he => ?_⟩
    · dsimp only
      split
      · exact rd_state_evtBit s k (by decide)
      · exact rd_wr_queue s (by decide)
    · rw [if_pos (by simp [he])]
      exact rdBit_evtBit .mover k.isLt
  case ctrl =>
    obtain ⟨hweight, hmode, hpark⟩ := rd_ctrlStored s.idleRestart k w
    have hexec := ctrl_takes h k w
    rw [writeChCtrl_eq] at hexec
    exact ⟨s.idleRestart.ctrlStored k w, hweight, hmode, hpark, only_ctrlStored _ k w, hexec 0, hexec 1, hexec 2⟩
  case clear => simp only [State.chanClear, beq_iff_eq]
  case ignored =>
    refine ⟨s.idleRestart.wr (MOVER.CH_STATE_APPEND_IGNORED k) 1, ?_, rd_wr_queue _ (by decide), only_wr (only_refl _ _)⟩
    rw [exec_append h, append_ignored (s := s.idleRestart) hi]
  case counted =>
    refine ⟨s.idleRestart.bump (MOVER.CH_STATE_APPEND_COUNT k), ?_, rd_bump_chan _, only_bump (only_refl _ _)⟩
    rw [exec_append h, append_run (s := s.idleRestart) ho hr]
  case linked =>
    refine ⟨s.idleRestart.bump (MOVER.CH_REREADS_COUNT k), ?_, rd_bump_chan _, only_bump (only_refl _ _)⟩
    rw [exec_append h, append_parked (s := s.idleRestart) ho hp hu hce rfl halign hlt]
    rfl
  case desc =>
    have ha : a < 2 ^ 32 := by have := inSram_iff.mp hin; omega
    obtain ⟨hcur, hline, hstate⟩ := rd_descRead (k := k) hu ha
    have honly := only_descRead (k := k) hu a
    have hlen : k.val < (s.descRead k a).chans.length := (congrArg List.length (only_same honly State.chans)).symm ▸ hk
    rw [startDesc_good halign hin hu hc]
    refine ⟨hcur, hline, hstate, ?_, only_modChan k _ honly⟩
    rw [chan_modChan _ hlen]
    rfl
  case ended => exact ⟨exec_descriptorEnd_moved ha hs hf, fun e => exec_descriptorEnd_error ha hs hf⟩

end Sys2Proof.Machine
end

section
/-! PROOFS. Memory byte by byte: checked writes and reads, and what programming and erasing leave in flash. -/

namespace Sys2Proof.Machine

-- In parallel these proofs take more memory than the check allows.
set_option Elab.async false

/-! ### Checked writes (R252) -/

section
variable (s : State) (m : Ram) (a w x : Nat) (bs : List Nat)

theorem byte_poke : (s.poke m a bs).byte m x = if a ≤ x ∧ x < a + bs.length then bs.getD (x - a) 0 % 256 else s.byte m x := by
  cases m <;> exact get_putBytes _ a bs x

theorem byte_clearEcc : (s.clearEcc m w).byte m x = s.byte m x := by cases m <;> rfl

theorem ue_checkWord (n : Ram) : (s.checkWord n w).ue m = s.ue m := by
  exact only_same (only_checkWord s n w) (fun x => x.ue m) fun _ _ => by cases m <;> rfl

theorem ue_store : ((s.poke m a bs).clearEcc m w).ue m = (s.ue m).filter (· != w) := by cases m <;> rfl

end

theorem div_word_eq_iff (m : Ram) {x w : Nat} : x / m.word = w ↔ m.word * w ≤ x ∧ x < m.word * w + m.word := by
  cases m <;> simp only [Ram.word] <;> omega

/-- The protected words that a range touches are those of its bytes. -/
theorem div_word_mem_words (m : Ram) {a n x : Nat} (hlo : a ≤ x) (hhi : x < a + n) : x / m.word ∈ m.words a n := by
  have hfirst : a / m.word ≤ x / m.word := Nat.div_le_div_right hlo
  have hlast : x / m.word ≤ (a + n - 1) / m.word := Nat.div_le_div_right (by omega)
  rw [Ram.words, if_neg (by omega)]
  exact List.mem_map.mpr ⟨x / m.word - a / m.word, List.mem_range.mpr (by omega), by omega⟩

theorem nodup_words (m : Ram) (a n : Nat) : (m.words a n).Nodup := by
  unfold Ram.words
  split
  · exact List.nodup_nil
  · exact List.nodup_range.map fun i j h => Nat.add_right_cancel h

/-- A write of `n` bytes at `a` leaves word `w` as it was: the word holds an uncorrectable error, and the write covers it in part. -/
def State.wordKept (s : State) (m : Ram) (a n w : Nat) : Bool :=
  (s.ue m).contains w && !(decide (a ≤ m.word * w) && decide (m.word * w + m.word ≤ a + n))

theorem wordKept_eq_false_iff {s : State} {m : Ram} {a n w : Nat} :
    s.wordKept m a n w = false ↔ w ∉ s.ue m ∨ a ≤ m.word * w ∧ m.word * w + m.word ≤ a + n := by
  simp only [State.wordKept, Bool.and_eq_false_iff, Bool.not_eq_false', Bool.and_eq_true, decide_eq_true_eq, List.contains_eq_mem,
    decide_eq_false_iff_not]

/-- What the write of one word's part of `bs` stores. -/
theorem byte_writeWord (s : State) (m : Ram) (a : Nat) (bs : List Nat) (w x : Nat) : (s.writeWord m a bs w).byte m x =
    if (a ≤ x ∧ x < a + bs.length) ∧ x / m.word = w ∧ s.wordKept m a bs.length w = false then bs.getD (x - a) 0 % 256
    else s.byte m x := by
  unfold State.writeWord
  extract_lets lo hi part
  have hstored (t : State) (ht : t.byte m x = s.byte m x) : ((t.poke m lo part).clearEcc m w).byte m x =
      if (a ≤ x ∧ x < a + bs.length) ∧ x / m.word = w then bs.getD (x - a) 0 % 256 else s.byte m x := by
    have hlen : part.length = min (hi - lo) (bs.length - (lo - a)) := by simp [part]
    have hin := div_word_eq_iff m (x := x) (w := w)
    rw [byte_clearEcc, byte_poke, ht]
    refine if_ctx_congr (by omega) (fun hx => ?_) fun _ => rfl
    have hat : x - lo < hi - lo := by omega
    simp only [part, List.getD_eq_getElem?_getD, List.getElem?_take, if_pos hat, List.getElem?_drop]
    rw [show lo - a + (x - lo) = x - a by omega]
  have hwhole : hi - lo = m.word ↔ a ≤ m.word * w ∧ m.word * w + m.word ≤ a + bs.length := by
    have : 0 < m.word := by cases m <;> decide
    omega
  have hchecked := (only_checkWord s m w).2.2.1 m x
  simp only [wordKept_eq_false_iff, ← hwhole, List.contains_iff_mem]
  by_cases h : hi - lo = m.word
  · simpa [h] using hstored s rfl
  · by_cases hbad : w ∈ s.ue m
    · simpa [h, hbad] using hchecked
    · simpa [h, hbad] using hstored _ hchecked

/-- The write of a word decides nothing about another one. -/
theorem wordKept_writeWord (s : State) (m : Ram) (a : Nat) (bs : List Nat) {w v : Nat} (h : v ≠ w) (n : Nat) :
    (s.writeWord m a bs w).wordKept m a n v = s.wordKept m a n v := by
  have hcontains (l : List Nat) : (l.filter (· != w)).contains v = l.contains v := by
    rw [Bool.eq_iff_iff]
    simp [h]
  have hcontains : ((s.writeWord m a bs w).ue m).contains v = (s.ue m).contains v := by
    unfold State.writeWord
    extract_lets lo hi part
    split
    · rw [ue_store, hcontains]
    · split
      · rw [ue_checkWord]
      · rw [ue_store, ue_checkWord, hcontains]
  rw [State.wordKept, hcontains, State.wordKept]

theorem byte_foldl_writeWord (m : Ram) (a : Nat) (bs : List Nat) (x : Nat) {l : List Nat} (hl : l.Nodup) (s : State) :
    (l.foldl (fun s w => s.writeWord m a bs w) s).byte m x =
      if (a ≤ x ∧ x < a + bs.length) ∧ x / m.word ∈ l ∧ s.wordKept m a bs.length (x / m.word) = false then bs.getD (x - a) 0 % 256
      else s.byte m x := by
  induction l generalizing s with
  | nil => simp
  | cons w l ih =>
    obtain ⟨hw, hl⟩ := List.nodup_cons.mp hl
    rw [List.foldl_cons, ih hl, byte_writeWord]
    by_cases h : x / m.word = w
    · subst h
      simp [hw]
    · simp [h, wordKept_writeWord s m a bs h]

/-- A checked write stores each of its bytes but those of the words that it must leave. -/
theorem byte_writeMem (s : State) (m : Ram) (a : Nat) (bs : List Nat) (x : Nat) : (s.writeMem m a bs).byte m x =
    if a ≤ x ∧ x < a + bs.length ∧ s.wordKept m a bs.length (x / m.word) = false then bs.getD (x - a) 0 % 256 else s.byte m x := by
  rw [State.writeMem, byte_foldl_writeWord m a bs x (nodup_words m a _)]
  exact if_congr ⟨fun ⟨⟨hlo, hhi⟩, _, hk⟩ => ⟨hlo, hhi, hk⟩, fun ⟨hlo, hhi, hk⟩ => ⟨⟨hlo, hhi⟩, div_word_mem_words m hlo hhi, hk⟩⟩
    rfl rfl

/-! ### Checked reads (R253) -/

section
variable {s : State} {m : Ram} {w : Nat}

theorem checkWord_uncorrectable (h : w ∈ s.ue m) :
    s.checkWord m w = ((s.bump m.ueFld).wr CORE.ECC_LAST_ADDR (m.base + m.word * w)).rodVec .core :=
  if_pos (List.contains_iff_mem.mpr h)

theorem checkWord_correctable (hu : w ∉ s.ue m) (hc : w ∈ s.ce m) : s.checkWord m w = s.bump m.ceFld := by
  simp [State.checkWord, hu, hc]

theorem checkWord_clean (hu : w ∉ s.ue m) (hc : w ∉ s.ce m) : s.checkWord m w = s := by
  simp [State.checkWord, hu, hc]

/-- An uncorrectable word is counted, its address stands in ECC_LAST, and vector 16 is asserted. -/
theorem rd_checkWord_uncorrectable (h : w ∈ s.ue m) :
    (s.checkWord m w).rd m.ueFld = satAdd 65535 (s.rd m.ueFld) 1 ∧
      (s.checkWord m w).rd CORE.ECC_LAST_ADDR = (m.base + m.word * w) % 2 ^ 32 ∧
      (s.checkWord m w).rd VEC.PENDING_PENDING = (s.vec 16).rd VEC.PENDING_PENDING := by
  rw [checkWord_uncorrectable h, State.rodVec]
  refine ⟨?count, ?address, pending_vec_congr s _ 16 ?enable ?pending rfl⟩
  case count => cases m <;> rw [rd_vec _ _ _ (by decide), State.rd_wr_apart _ _ _ _ (by decide), rd_bump _ _ _ (by decide)] <;> rfl
  case address => rw [rd_vec _ _ _ (by decide), State.rd_wr _ _ _ (by decide)]; rfl
  all_goals cases m <;> rw [State.rd_wr_apart _ _ _ _ (by decide), rd_bump_apart _ _ _ _ (by decide)]

theorem rd_checkWord_correctable (hu : w ∉ s.ue m) (hc : w ∈ s.ce m) :
    (s.checkWord m w).rd m.ceFld = satAdd 65535 (s.rd m.ceFld) 1 := by
  rw [checkWord_correctable hu hc]
  cases m <;> exact rd_bump s _ 1

end

/-! ### Flash (R265) -/

/-- Programming clears bits of the bytes that it is given, and leaves every other byte. -/
theorem get_flashProgram (s : State) (a : Nat) (bs : List Nat) (x : Nat) : (Store.get 0xFF (s.flashProgram a bs).flash x).toNat =
    if a ≤ x ∧ x < a + bs.length then (Store.get 0xFF s.flash x).toNat &&& bs.getD (x - a) 0 else (Store.get 0xFF s.flash x).toNat := by
  induction bs generalizing s a with
  | nil => simp [State.flashProgram]
  | cons b bs ih =>
    rw [State.flashProgram, ih]
    by_cases hx : x = a
    · subst hx
      have hold : (Store.get 0xFF s.flash x).toNat &&& b < 2 ^ 8 := Nat.lt_of_le_of_lt Nat.and_le_left (BitVec.isLt _)
      rw [if_neg (by omega), if_pos (by simp), Store.get_set_same, BitVec.toNat_ofNat, Nat.mod_eq_of_lt hold, Nat.sub_self,
        List.getD_cons_zero]
    · dsimp only
      rw [Store.get_set_ne _ _ _ hx]
      by_cases hin : a + 1 ≤ x ∧ x < a + 1 + bs.length
      · rw [if_pos hin, if_pos (by simp only [List.length_cons]; omega), show x - a = x - (a + 1) + 1 by omega, List.getD_cons_succ]
      · rw [if_neg hin, if_neg (by simp only [List.length_cons]; omega)]

theorem Store.get_of_not_mem {α : Type} (d : α) {m : Store α} {k : Nat} (h : ∀ p ∈ m, p.1 ≠ k) : Store.get d m k = d := by
  induction m with
  | nil => rfl
  | cons p m ih =>
    obtain ⟨hp, hm⟩ := List.forall_mem_cons.mp h
    rw [Store.get, if_neg hp, ih hm]

/-- An erased byte reads FFH, and every other byte as before. -/
theorem get_flashErase (s : State) (a n x : Nat) :
    Store.get 0xFF (s.flashErase a n).flash x = if a ≤ x ∧ x < a + n then 0xFF else Store.get 0xFF s.flash x := by
  split
  next h =>
    refine Store.get_of_not_mem _ fun p hp hx => ?_
    have hout := (List.mem_filter.mp hp).2
    simp only [Bool.or_eq_true, decide_eq_true_eq] at hout
    omega
  next h =>
    refine Store.get_filter _ _ _ _ fun v => ?_
    simp only [Bool.or_eq_true, decide_eq_true_eq]
    omega

/-! ### The statement -/

/-- Settles O51: a write is followed word by word, and programming byte by byte; a read only checks its words, and an erase drops its range
from the store. -/
theorem memoryAccess : Obligations.MemoryAccess := by
  refine ⟨fun m a bs s => byte_writeMem s m a bs, fun m a n s => ⟨rfl, length_bytes s m a n, only_mono (only_readMem s m a n) ?checks⟩,
    fun m w s => ⟨rd_checkWord_uncorrectable, fun hu hc => ⟨rd_checkWord_correctable hu hc, ?counted⟩, checkWord_clean⟩,
    fun s a bs x => ?program, fun s a n x _ => ?erase⟩
  case checks => cases m <;> simp [Ram.ueFld, Ram.ceFld]
  case counted =>
    rw [checkWord_correctable hu hc]
    exact only_bump (only_refl _ s)
  case program =>
    have hand (v : BitVec 8) (b : Nat) : v.toNat &&& b = v.toNat &&& b % 256 := by
      rw [← Nat.and_two_pow_sub_one_eq_mod b 8, Nat.and_comm b, ← Nat.and_assoc, Nat.and_two_pow_sub_one_eq_mod, Nat.mod_eq_of_lt v.isLt]
    rw [get_flashProgram]
    simp only [hand _ (bs.getD (x - a) 0)]
  case erase =>
    rw [get_flashErase, apply_ite BitVec.toNat]
    rfl

end Sys2Proof.Machine
end

section
/-! PROOFS. Scrubbing of main SRAM and keep RAM: a range of words, and the passes that are made of ranges. -/

namespace Sys2Proof.Machine

-- In parallel these proofs take more memory than the check allows.
set_option Elab.async false

theorem satAdd_satAdd (top a n k : Nat) : satAdd top (satAdd top a n) k = satAdd top a (n + k) := by
  unfold satAdd
  omega

/-- A vector that is set a second time changes nothing more of VEC.PENDING. -/
theorem pending_vec_vec (s : State) {v : Nat} (hv : v < 32) :
    ((s.vec v).vec v).rd VEC.PENDING_PENDING = (s.vec v).rd VEC.PENDING_PENDING := by
  have henable : (s.vec v).rdBit VEC.ENABLE_ENABLE v = s.rdBit VEC.ENABLE_ENABLE v := by
    rw [State.rdBit, rd_vec s v _ (by decide), State.rdBit]
  have hpart : (s.vec v).part = s.part := only_same (only_vec (w := [VEC.PENDING_PENDING]) (only_refl _ s)) State.part
  refine Nat.eq_of_testBit_eq fun u => ?_
  show ((s.vec v).vec v).rdBit VEC.PENDING_PENDING u = (s.vec v).rdBit VEC.PENDING_PENDING u
  rw [rdBit_vec (s.vec v) hv, rdBit_vec s hv, henable, hpart, Bool.or_assoc, Bool.or_self]

/-! ### Correctable errors that are repaired (R285) -/

/-- Nothing differs between `s` and `t` but the register fields `w` and which words hold correctable errors. -/
def CeOnly (w : List Fld) (s t : State) : Prop := Safety.only w { s with sramCe := t.sramCe, keepCe := t.keepCe } t

section
variable {w : List Fld} {s t u : State}

theorem CeOnly.refl (w : List Fld) (s : State) : CeOnly w s s := only_refl w s

theorem CeOnly.of_only (h : Safety.only w s t) : CeOnly w s t := by
  refine ⟨?_, h.2⟩
  rw [h.1]

theorem CeOnly.trans (h : CeOnly w s t) (k : CeOnly w t u) : CeOnly w s u := by
  refine ⟨?_, regsBut_trans h.2.1 k.2.1, fun m a => (k.2.2.1 m a).trans (h.2.2.1 m a), fun a => (k.2.2.2 a).trans (h.2.2.2 a)⟩
  rw [k.1, h.1]

theorem CeOnly.mono {w' : List Fld} (h : CeOnly w s t) (hw : ∀ g ∈ w, g ∈ w') : CeOnly w' s t := only_mono h hw

theorem CeOnly.rd (h : CeOnly w s t) (f : Fld) (hf : ∀ g ∈ w, g.apart f = true) : t.rd f = s.rd f := h.2.1 f hf

theorem CeOnly.ue (h : CeOnly w s t) (m : Ram) : t.ue m = s.ue m :=
  only_same h (fun x => x.ue m) (fun _ _ => by cases m <;> rfl) |>.trans (by cases m <;> rfl)

end

section
variable {s : State} {m : Ram}

/-- A word without an uncorrectable error is stored afresh, which leaves the marks of uncorrectable errors as they are. -/
theorem ceOnly_clearEcc {v : Nat} (h : v ∉ s.ue m) : CeOnly [] s (s.clearEcc m v) := by
  have hsame : (s.ue m).filter (· != v) = s.ue m :=
    List.filter_eq_self.mpr fun u hu => bne_iff_ne.mpr fun e => h (e ▸ hu)
  cases m
  · refine ⟨?_, fun _ _ => rfl, fun n a => by cases n <;> rfl, fun _ => rfl⟩
    exact congrArg (fun l => { s with sramUe := l, sramCe := s.sramCe.filter (· != v) }) hsame
  · refine ⟨?_, fun _ _ => rfl, fun n a => by cases n <;> rfl, fun _ => rfl⟩
    exact congrArg (fun l => { s with keepUe := l, keepCe := s.keepCe.filter (· != v) }) hsame

theorem ce_clearEcc (s : State) (m n : Ram) (v : Nat) :
    (s.clearEcc m v).ce n = if n = m then (s.ce n).filter (· != v) else s.ce n := by
  cases m <;> cases n <;> rfl

/-- Correctable errors are counted and their words stored afresh. -/
def State.repaired (s : State) (m : Ram) (l : List Nat) : State := l.foldl (fun s w => (s.bump m.ceFld).clearEcc m w) s

theorem ce_bump (f : Fld) (k : Nat) (n : Ram) : (s.bump f k).ce n = s.ce n := by cases n <;> rfl

theorem ue_bump (f : Fld) (k : Nat) (n : Ram) : (s.bump f k).ue n = s.ue n := by cases n <;> rfl

theorem rd_bump_ceFld (k : Nat) : (s.bump m.ceFld k).rd m.ceFld = satAdd 65535 (s.rd m.ceFld) k := by cases m <;> exact rd_bump s _ k

theorem rd_clearEcc (v : Nat) (f : Fld) : (s.clearEcc m v).rd f = s.rd f := by cases m <;> rfl

theorem ceOnly_repaired {l : List Nat} (h : ∀ v ∈ l, v ∉ s.ue m) : CeOnly [m.ceFld] s (s.repaired m l) := by
  refine List.foldlRecOn (motive := fun t => CeOnly [m.ceFld] s t) _ _ (.refl _ s) fun t ht v hv => ?_
  have hclean : v ∉ (t.bump m.ceFld).ue m := by
    rw [ue_bump, ht.ue m]
    exact h v hv
  exact ht.trans ((CeOnly.of_only (only_bump (only_refl _ t))).trans ((ceOnly_clearEcc hclean).mono (by simp)))

theorem mem_ce_repaired (l : List Nat) (v : Nat) : v ∈ (s.repaired m l).ce m ↔ v ∈ s.ce m ∧ v ∉ l := by
  unfold State.repaired
  induction l generalizing s with
  | nil => simp
  | cons u l ih => simp [ih, ce_clearEcc, ce_bump, and_assoc]

theorem ce_repaired_other {n : Ram} (hn : n ≠ m) (l : List Nat) : (s.repaired m l).ce n = s.ce n :=
  List.foldlRecOn (motive := fun t : State => t.ce n = s.ce n) _ _ rfl fun t ht v _ => by
    rw [ce_clearEcc, if_neg hn, ce_bump, ht]

theorem rd_ce_repaired (l : List Nat) : (s.repaired m l).rd m.ceFld = satAdd 65535 (s.rd m.ceFld) l.length := by
  have hlt : s.rd m.ceFld ≤ 65535 := by
    have := State.rd_lt s m.ceFld
    cases m <;> exact Nat.le_of_lt_succ this
  unfold State.repaired
  induction l using List.reverseRecOn with
  | nil => simp [satAdd, hlt]
  | append_singleton l v ih =>
    rw [List.foldl_concat, rd_clearEcc, rd_bump_ceFld, ih, satAdd_satAdd, List.length_append, List.length_singleton]

/-! ### Uncorrectable errors that are found (R285) -/

/-- Words are read and checked. -/
def State.checked (s : State) (m : Ram) (l : List Nat) : State := l.foldl (fun s w => s.checkWord m w) s

theorem only_checked {l : List Nat} (h : ∀ v ∈ l, v ∈ s.ue m) :
    Safety.only [m.ueFld, CORE.ECC_LAST_ADDR, VEC.PENDING_PENDING] s (s.checked m l) := by
  refine List.foldlRecOn (motive := fun t => Safety.only _ s t) _ _ (only_refl _ s) fun t ht v hv => ?_
  have hue : v ∈ t.ue m := by
    rw [(CeOnly.of_only ht).ue m]
    exact h v hv
  rw [checkWord_uncorrectable hue]
  exact only_rodVec (only_wr (only_bump ht))

theorem ue_checked (l : List Nat) : (s.checked m l).ue m = s.ue m :=
  List.foldlRecOn (motive := fun t : State => t.ue m = s.ue m) _ _ rfl fun t ht v _ => (ue_checkWord t m v m).trans ht

theorem ce_checked (l : List Nat) (n : Ram) : (s.checked m l).ce n = s.ce n :=
  only_same (only_checkWords s m l) (fun x => x.ce n) fun _ _ => by cases n <;> rfl

theorem rd_ue_checked {l : List Nat} (h : ∀ v ∈ l, v ∈ s.ue m) :
    (s.checked m l).rd m.ueFld = satAdd 65535 (s.rd m.ueFld) l.length := by
  have hlt : s.rd m.ueFld ≤ 65535 := by
    have := State.rd_lt s m.ueFld
    cases m <;> exact Nat.le_of_lt_succ this
  induction l using List.reverseRecOn with
  | nil => simp [State.checked, satAdd, hlt]
  | append_singleton l v ih =>
    have hv : v ∈ (s.checked m l).ue m := by simpa [ue_checked] using h v (by simp)
    have hlast : s.checked m (l ++ [v]) = (s.checked m l).checkWord m v := List.foldl_concat ..
    rw [hlast, (rd_checkWord_uncorrectable hv).1, ih fun u hu => h u (by simp [hu]), satAdd_satAdd, List.length_append,
      List.length_singleton]

/-- However many uncorrectable words are found, vector 16 is asserted as by one. -/
theorem pending_checked {l : List Nat} (h : ∀ v ∈ l, v ∈ s.ue m) (hne : l ≠ []) :
    (s.checked m l).rd VEC.PENDING_PENDING = (s.rodVec .core).rd VEC.PENDING_PENDING := by
  induction l using List.reverseRecOn with
  | nil => exact absurd rfl hne
  | append_singleton l v ih =>
    have hv : v ∈ (s.checked m l).ue m := by simpa [ue_checked] using h v (by simp)
    have hlast : s.checked m (l ++ [v]) = (s.checked m l).checkWord m v := List.foldl_concat ..
    have honly := only_checked (l := l) fun u hu => h u (by simp [hu])
    have henable : (s.checked m l).rd VEC.ENABLE_ENABLE = s.rd VEC.ENABLE_ENABLE :=
      honly.2.1 _ (by cases m <;> decide)
    have hpart : (s.checked m l).part = s.part := only_same honly State.part
    rw [hlast, (rd_checkWord_uncorrectable hv).2.2]
    by_cases hl : l = []
    · subst hl
      rfl
    · have hvec : (s.rodVec .core).rd VEC.ENABLE_ENABLE = s.rd VEC.ENABLE_ENABLE ∧ (s.rodVec .core).part = s.part :=
        ⟨rd_vec s 16 _ (by decide), only_same (only_rodVec (w := [VEC.PENDING_PENDING]) (only_refl _ s)) State.part⟩
      rw [pending_vec_congr (s.rodVec .core) _ 16 (henable.trans hvec.1.symm) (ih (fun u hu => h u (by simp [hu])) hl)
        (hpart.trans hvec.2.symm)]
      exact pending_vec_vec s (by decide)

end

/-! ### A range of words (R253, R285, R286) -/

section
variable (s : State) (m : Ram) (lo hi : Nat)

/-- The words of the range whose errors a scrub repairs, and those that it finds uncorrectable. -/
def State.scrubCes : List Nat := (s.ce m).filter fun w => (decide (lo ≤ w) && decide (w < hi)) && !(s.ue m).contains w
def State.scrubUes : List Nat := (s.ue m).filter fun w => decide (lo ≤ w) && decide (w < hi)

/-- The errors of the range have been counted, and the correctable ones repaired. -/
def State.scrubFound : State := (s.repaired m (s.scrubCes m lo hi)).checked m (s.scrubUes m lo hi)

theorem scrub_eq : s.scrub m lo hi = if s.scrubUes m lo hi = [] then s.scrubFound m lo hi
    else (s.scrubFound m lo hi).wr CORE.ECC_LAST_ADDR (m.base + m.word * (s.scrubUes m lo hi).foldl max 0) := by
  have hces : ((s.ce m).filter fun w => decide (lo ≤ w) && decide (w < hi)).filter (fun w => !(s.ue m).contains w) =
      s.scrubCes m lo hi := by
    rw [List.filter_filter]
    exact List.filter_congr fun w _ => Bool.and_comm _ _
  unfold State.scrub
  extract_lets hit ces ues t u
  have hfound : u = s.scrubFound m lo hi := congrArg (fun l => (s.repaired m l).checked m ues) hces
  rw [← hfound]
  exact if_congr List.isEmpty_iff rfl rfl

theorem scrubCes_clean : ∀ v ∈ s.scrubCes m lo hi, v ∉ s.ue m := by
  simp +contextual [State.scrubCes]

theorem repaired_ue : (s.repaired m (s.scrubCes m lo hi)).ue m = s.ue m := (ceOnly_repaired (scrubCes_clean s m lo hi)).ue m

theorem scrubUes_marked : ∀ v ∈ s.scrubUes m lo hi, v ∈ (s.repaired m (s.scrubCes m lo hi)).ue m := fun _ hv =>
  (repaired_ue s m lo hi).symm ▸ List.mem_of_mem_filter hv

/-- The fields that a scrub of a memory may change. -/
abbrev Ram.scrubFlds : List Fld := [m.ceFld, m.ueFld, CORE.ECC_LAST_ADDR, VEC.PENDING_PENDING]

theorem ceOnly_scrubFound : CeOnly m.scrubFlds s (s.scrubFound m lo hi) :=
  ((ceOnly_repaired (scrubCes_clean s m lo hi)).mono (by simp)).trans
    ((CeOnly.of_only (only_checked (scrubUes_marked s m lo hi))).mono (by simp +contextual))

theorem ceOnly_scrub : CeOnly m.scrubFlds s (s.scrub m lo hi) := by
  have hfound := ceOnly_scrubFound s m lo hi
  rw [scrub_eq]
  split
  · exact hfound
  · exact hfound.trans (.of_only (only_wr (only_refl _ _)))

theorem ce_scrub (n : Ram) : (s.scrub m lo hi).ce n = (s.repaired m (s.scrubCes m lo hi)).ce n := by
  have hfound : (s.scrubFound m lo hi).ce n = _ := ce_checked _ n
  rw [scrub_eq, ← hfound]
  split
  · rfl
  · cases n <;> rfl

/-- A word keeps its correctable error where the scrub does not come, or where an uncorrectable one stands beside it. -/
theorem mem_ce_scrub (v : Nat) : v ∈ (s.scrub m lo hi).ce m ↔ v ∈ s.ce m ∧ (lo ≤ v → v < hi → v ∈ s.ue m) := by
  rw [ce_scrub, mem_ce_repaired]
  simp only [State.scrubCes, List.mem_filter, Bool.and_eq_true, decide_eq_true_eq, Bool.not_eq_true', List.contains_eq_mem,
    decide_eq_false_iff_not]
  tauto

theorem ce_scrub_other {n : Ram} (hn : n ≠ m) : (s.scrub m lo hi).ce n = s.ce n := (ce_scrub s m lo hi n).trans (ce_repaired_other hn _)

/-- Where ECC_LAST stands does not concern a field apart from it. -/
theorem rd_scrub_apart {f : Fld} (h : CORE.ECC_LAST_ADDR.apart f = true) : (s.scrub m lo hi).rd f = (s.scrubFound m lo hi).rd f := by
  rw [scrub_eq]
  split
  · rfl
  · exact State.rd_wr_apart _ _ _ _ h

theorem rd_ceFld_scrub : (s.scrub m lo hi).rd m.ceFld = satAdd 65535 (s.rd m.ceFld) (s.scrubCes m lo hi).length := by
  rw [rd_scrub_apart _ _ _ _ (by cases m <;> decide), ← rd_ce_repaired]
  exact (only_checked (scrubUes_marked s m lo hi)).2.1 _ (by cases m <;> decide)

theorem rd_ueFld_scrub : (s.scrub m lo hi).rd m.ueFld = satAdd 65535 (s.rd m.ueFld) (s.scrubUes m lo hi).length := by
  have hrepaired : (s.repaired m (s.scrubCes m lo hi)).rd m.ueFld = s.rd m.ueFld :=
    (ceOnly_repaired (scrubCes_clean s m lo hi)).2.1 _ (by cases m <;> decide)
  rw [rd_scrub_apart _ _ _ _ (by cases m <;> decide), ← hrepaired]
  exact rd_ue_checked (scrubUes_marked s m lo hi)

/-- The registers that a repair leaves alone. -/
theorem rd_repaired {f : Fld} (h : m.ceFld.apart f = true) : (s.repaired m (s.scrubCes m lo hi)).rd f = s.rd f :=
  (ceOnly_repaired (scrubCes_clean s m lo hi)).2.1 f (by simpa using h)

theorem pending_scrub (h : s.scrubUes m lo hi ≠ []) :
    (s.scrub m lo hi).rd VEC.PENDING_PENDING = (s.rodVec .core).rd VEC.PENDING_PENDING := by
  rw [rd_scrub_apart _ _ _ _ (by decide)]
  refine (pending_checked (scrubUes_marked s m lo hi) h).trans (pending_vec_congr s _ 16 ?_ ?_ ?_)
  · exact rd_repaired s m lo hi (by cases m <;> decide)
  · exact rd_repaired s m lo hi (by cases m <;> decide)
  · exact only_same (ceOnly_repaired (scrubCes_clean s m lo hi)) State.part

theorem rd_scrub_correctable (h : s.scrubUes m lo hi = []) {f : Fld} (hf : m.ceFld.apart f = true) :
    (s.scrub m lo hi).rd f = s.rd f := by
  rw [scrub_eq, if_pos h, State.scrubFound, h]
  exact rd_repaired s m lo hi hf

end

theorem foldl_max_eq {l : List Nat} {w : Nat} (hw : w ∈ l) (hmax : ∀ u ∈ l, u ≤ w) : l.foldl max 0 = w := by
  rw [List.foldl_eq_foldr]
  exact le_antisymm (List.max_le_of_forall_le l w hmax) (List.le_max_of_le hw le_rfl)

/-- The highest uncorrectable word of the range stands in ECC_LAST. -/
theorem eccLast_scrub (s : State) {m : Ram} {lo hi w : Nat} (hhi : hi ≤ m.size) (hw : w ∈ s.scrubUes m lo hi)
    (hmax : ∀ u ∈ s.scrubUes m lo hi, u ≤ w) : (s.scrub m lo hi).rd CORE.ECC_LAST_ADDR = m.base + m.word * w := by
  have hlt : w < hi := by
    have := (List.mem_filter.mp hw).2
    simp only [Bool.and_eq_true, decide_eq_true_eq] at this
    exact this.2
  rw [scrub_eq, if_neg (List.ne_nil_of_mem hw), foldl_max_eq hw hmax]
  refine rd_wr_of_lt _ ⟨?_, by decide⟩
  cases m <;> simp only [Ram.size, Ram.base, Ram.word, CORE.ECC_LAST_ADDR] at hhi ⊢ <;> omega

/-! ### Passes (R282, R285 to R287, R301) -/

/-- The fields that a pass through both memories may change. -/
abbrev scrubPassFlds : List Fld := [CORE.BG_SHARE_PEAK, CORE.BG_SCRUB_POS_WORD, CORE.BG_SCRUB_POS_ACTIVE, CORE.BG_SCRUB_PASSES,
  CORE.ECC_CE_SRAM, CORE.ECC_CE_KEEP, CORE.ECC_UE_SRAM, CORE.ECC_UE_KEEP, CORE.ECC_LAST_ADDR, VEC.PENDING_PENDING]

theorem scrubFlds_sub_passFlds (m : Ram) : ∀ g ∈ m.scrubFlds, g ∈ scrubPassFlds := by
  cases m <;> simp [Ram.ceFld, Ram.ueFld]

/-- The pass through main SRAM is counted, and the scrubber stands at word 0. -/
def State.passCounted (s : State) : State :=
  ((s.wr CORE.BG_SCRUB_POS_WORD 0).wr CORE.BG_SCRUB_POS_ACTIVE 0).bump CORE.BG_SCRUB_PASSES

theorem only_passCounted (s : State) :
    Safety.only [CORE.BG_SCRUB_POS_WORD, CORE.BG_SCRUB_POS_ACTIVE, CORE.BG_SCRUB_PASSES] s s.passCounted :=
  only_bump (only_wr (only_wr (only_refl _ s)))

theorem ce_passCounted (s : State) (n : Ram) : s.passCounted.ce n = s.ce n :=
  only_same (only_passCounted s) (fun x => x.ce n) fun _ _ => by cases n <;> rfl

theorem passCounted_fields (s : State) : s.passCounted.rd CORE.BG_SCRUB_POS_WORD = 0 ∧ s.passCounted.rd CORE.BG_SCRUB_POS_ACTIVE = 0 ∧
    s.passCounted.rd CORE.BG_SCRUB_PASSES = satAdd 65535 (s.rd CORE.BG_SCRUB_PASSES) 1 := by
  refine ⟨?_, ?_, ?_⟩
  · rw [State.passCounted, rd_bump_apart _ _ _ _ (by decide), State.rd_wr_apart _ _ _ _ (by decide)]
    exact rd_wr_of_lt s (by decide)
  · rw [State.passCounted, rd_bump_apart _ _ _ _ (by decide)]
    exact rd_wr_of_lt _ (by decide)
  · rw [State.passCounted, rd_bump _ CORE.BG_SCRUB_PASSES, State.rd_wr_apart _ _ _ _ (by decide), State.rd_wr_apart _ _ _ _ (by decide)]
    rfl

theorem only_beamShare (s : State) : Safety.only [CORE.BG_SHARE_PEAK] { s with free := s.free + 1 } s.beamShare :=
  only_wr (only_refl _ _)

theorem peak_beamShare (s : State) : s.rd CORE.BG_SHARE_PEAK ≤ s.beamShare.rd CORE.BG_SHARE_PEAK ∧
    s.beamShare.rd CORE.BG_SHARE_PEAK ≤ max (s.rd CORE.BG_SHARE_PEAK) 30 := by
  have hold : s.rd CORE.BG_SHARE_PEAK < 32 := State.rd_lt s CORE.BG_SHARE_PEAK
  have hpeak : s.beamShare.rd CORE.BG_SHARE_PEAK = max (s.rd CORE.BG_SHARE_PEAK) (min 30 (Config.beamShare s.free)) :=
    rd_wr_of_lt _ ⟨show max (s.rd CORE.BG_SHARE_PEAK) (min 30 (Config.beamShare s.free)) < 32 by omega, by decide⟩
  omega

/-- Main SRAM has been scrubbed to its end, and then keep RAM from its beginning. -/
def State.mainPassed (s : State) : State := (s.beamShare.scrub .sram (s.rd CORE.BG_SCRUB_POS_WORD) sramWords).passCounted
def State.bothPassed (s : State) : State := s.mainPassed.scrub .keep 0 keepWords

theorem scrubPass_eq (s : State) : s.scrubPass = s.bothPassed.setBg fun b => { b with keepPos := 0 } := by
  have hpos : s.beamShare.rd CORE.BG_SCRUB_POS_WORD = s.rd CORE.BG_SCRUB_POS_WORD :=
    (only_beamShare s).2.1 _ (by decide)
  have hmain : s.beamShare.scrubMain sramWords = s.mainPassed := by
    rw [State.scrubMain, hpos]
    exact if_neg (Nat.lt_irrefl _)
  rw [State.scrubPass, hmain]
  rfl

theorem ce_setBg (s : State) (k : Bg → Bg) (n : Ram) : (s.setBg k).ce n = s.ce n := by cases n <;> rfl

theorem ce_scrubPass (s : State) (n : Ram) : s.scrubPass.ce n = s.bothPassed.ce n := by rw [scrubPass_eq, ce_setBg]

theorem ceOnly_mainPassed (s : State) : CeOnly scrubPassFlds { s with free := s.free + 1 } s.mainPassed :=
  ((CeOnly.of_only (only_beamShare s)).mono (by simp)).trans
    (((ceOnly_scrub _ _ _ _).mono (scrubFlds_sub_passFlds _)).trans ((CeOnly.of_only (only_passCounted _)).mono (by simp)))

theorem ceOnly_bothPassed (s : State) : CeOnly scrubPassFlds { s with free := s.free + 1 } s.bothPassed :=
  (ceOnly_mainPassed s).trans ((ceOnly_scrub _ _ _ _).mono (scrubFlds_sub_passFlds _))

theorem only_scrubPass (s : State) : Safety.only scrubPassFlds
    { s with bg := { s.bg with keepPos := 0 }, free := s.free + 1, sramCe := s.scrubPass.sramCe, keepCe := s.scrubPass.keepCe }
    s.scrubPass := by
  have h := ceOnly_bothPassed s
  rw [scrubPass_eq]
  refine ⟨?_, h.2⟩
  rw [State.setBg, h.1]

/-- A field that the passes do not count with keeps its value through the two scrubs. -/
theorem rd_scrubPass (s : State) {f : Fld} (h : ∀ g ∈ Ram.keep.scrubFlds, g.apart f = true) : s.scrubPass.rd f = s.mainPassed.rd f := by
  rw [scrubPass_eq, State.setBg_rd]
  exact (ceOnly_scrub s.mainPassed .keep 0 keepWords).rd f h

theorem rd_mainPassed (s : State) {f : Fld} (hs : ∀ g ∈ Ram.sram.scrubFlds, g.apart f = true)
    (hp : ∀ g ∈ [CORE.BG_SCRUB_POS_WORD, CORE.BG_SCRUB_POS_ACTIVE, CORE.BG_SCRUB_PASSES], g.apart f = true) :
    s.mainPassed.rd f = s.beamShare.rd f :=
  ((only_passCounted _).2.1 f hp).trans ((ceOnly_scrub _ _ _ _).rd f hs)

theorem scrubPass_fields (s : State) : s.scrubPass.rd CORE.BG_SCRUB_POS_WORD = 0 ∧ s.scrubPass.rd CORE.BG_SCRUB_POS_ACTIVE = 0 ∧
    s.scrubPass.rd CORE.BG_SCRUB_PASSES = satAdd 65535 (s.rd CORE.BG_SCRUB_PASSES) 1 ∧
    s.scrubPass.rd CORE.BG_SHARE_PEAK = s.beamShare.rd CORE.BG_SHARE_PEAK := by
  obtain ⟨hpos, hactive, hpasses⟩ := passCounted_fields (s.beamShare.scrub .sram (s.rd CORE.BG_SCRUB_POS_WORD) sramWords)
  refine ⟨(rd_scrubPass s (by decide)).trans hpos, (rd_scrubPass s (by decide)).trans hactive,
    (rd_scrubPass s (by decide)).trans (hpasses.trans ?_),
    (rd_scrubPass s (by decide)).trans (rd_mainPassed s (by decide) (by decide))⟩
  have hpasses : s.beamShare.rd CORE.BG_SCRUB_PASSES = s.rd CORE.BG_SCRUB_PASSES := (only_beamShare s).2.1 _ (by decide)
  rw [(ceOnly_scrub s.beamShare .sram _ _).rd _ (by decide), hpasses]

/-- After a pass, main SRAM holds correctable errors only before the place where it began, or beside uncorrectable ones. -/
theorem sramCe_scrubPass (s : State) : ∀ v ∈ s.scrubPass.sramCe, v < s.rd CORE.BG_SCRUB_POS_WORD ∨ sramWords ≤ v ∨ v ∈ s.sramUe := by
  have hue : s.beamShare.ue .sram = s.sramUe := (CeOnly.of_only (only_beamShare s)).ue .sram
  intro v hv
  have hmain : v ∈ s.scrubPass.ce .sram := hv
  rw [ce_scrubPass, State.bothPassed, ce_scrub_other _ _ _ _ (by decide), State.mainPassed, ce_passCounted, mem_ce_scrub, hue] at hmain
  rcases Nat.lt_or_ge v (s.rd CORE.BG_SCRUB_POS_WORD) with hlo | hlo
  · exact .inl hlo
  · exact .inr ((Nat.lt_or_ge v sramWords).elim (fun hhi => .inr (hmain.2 hlo hhi)) .inl)

theorem keepCe_scrubPass (s : State) : ∀ v ∈ s.scrubPass.keepCe, keepWords ≤ v ∨ v ∈ s.keepUe := by
  have hue : s.mainPassed.ue .keep = s.keepUe := (ceOnly_mainPassed s).ue .keep
  intro v hv
  have hboth : v ∈ s.scrubPass.ce .keep := hv
  rw [ce_scrubPass, State.bothPassed, mem_ce_scrub, hue] at hboth
  exact (Nat.lt_or_ge v keepWords).elim (fun hhi => .inr (hboth.2 (Nat.zero_le v) hhi)) .inl

/-! ### The commands -/

theorem exec_scrubPass {s : State} (ha : s.awake = true) (he : s.rd CORE.BG_CTL_SCRUB_EN = 1) : exec .scrubPass s = .next s.scrubPass :=
  if_pos (by simp [ha, flag_of_rd_one he])

theorem exec_scrubNow {s : State} (h : Safety.takes s .core) : exec .scrubNow s = .next s.idleRestart.scrubNow :=
  congrArg Host.Outcome.next (hostReg_takes h fun s => s.scrubNow)

theorem scrubNow_starts {s : State} (he : s.rd CORE.BG_CTL_SCRUB_EN = 1) (ha : s.rd CORE.BG_SCRUB_POS_ACTIVE = 0) :
    s.scrubNow = (s.wr CORE.BG_SCRUB_POS_WORD 0).scrubPass := if_pos (by simp [flag_of_rd_one he, flag_of_rd_zero ha])

theorem scrubNow_ignored {s : State} (h : s.rd CORE.BG_CTL_SCRUB_EN = 0 ∨ s.rd CORE.BG_SCRUB_POS_ACTIVE = 1) : s.scrubNow = s := by
  refine if_neg ?_
  rcases h with h | h
  · simp [flag_of_rd_zero h]
  · simp [flag_of_rd_one h]

theorem awake_of_takes {s : State} {r : Rod} (h : Safety.takes s r) : s.awake = true := by
  have hlink := h.1
  simp only [State.linkOn, Bool.and_eq_true] at hlink
  exact hlink.1.1

/-- R287: in CLEARED one word of keep RAM is scrubbed. -/
theorem exec_keepRamScrub {s : State} (hr : s.inReset = false) (hb : s.base = .cleared) : exec .keepRamScrub s = .next { s with
    bg := { s.bg with keepPos := (s.bg.keepPos + 1) % keepWords },
    keepCe := if s.bg.keepPos ∈ s.keepUe then s.keepCe else s.keepCe.filter fun w => w != s.bg.keepPos } := by
  refine (if_pos (by simp [hr, hb])).trans (congrArg Host.Outcome.next ?_)
  by_cases h : s.bg.keepPos ∈ s.keepUe
  · simp only [List.contains_iff_mem, if_pos h, State.setBg]
  · simp only [List.contains_iff_mem, if_neg h, State.setBg]
    rw [(ceOnly_clearEcc (m := .keep) h).1]
    rfl

/-- Settles O16: a range is scrubbed by repairing and then checking its words, and a pass is two ranges with the count of it between. -/
theorem scrubPasses : Obligations.ScrubPasses := by
  refine ⟨fun m lo hi s => ⟨(ceOnly_scrub s m lo hi).ue m, fun v => ?repaired, rd_ceFld_scrub s m lo hi, rd_ueFld_scrub s m lo hi,
      fun w hhi hw hmax => eccLast_scrub s hhi hw hmax, fun h => ?clean, pending_scrub s m lo hi, ceOnly_scrub s m lo hi⟩,
    fun s ha he => ?pass, fun s h he hi => ?now, fun s h hno => ?ignored, fun s => exec_keepRamScrub⟩
  case repaired => simp [mem_ce_scrub]
  case clean =>
    exact ⟨rd_scrub_correctable s m lo hi h (by cases m <;> decide), rd_scrub_correctable s m lo hi h (by cases m <;> decide)⟩
  case pass =>
    obtain ⟨hpos, hactive, hpasses, hpeak⟩ := scrubPass_fields s
    obtain ⟨hlo, hhi⟩ := peak_beamShare s
    exact ⟨s.scrubPass, exec_scrubPass ha he, hpos, hactive, hpasses, hpeak ▸ hlo, hpeak ▸ hhi, sramCe_scrubPass s, keepCe_scrubPass s,
      only_scrubPass s⟩
  case now =>
    have hstart : (s.idleRestart.wr CORE.BG_SCRUB_POS_WORD 0).rd CORE.BG_SCRUB_POS_WORD = 0 := rd_wr_of_lt _ (by decide)
    refine ⟨(s.idleRestart.wr CORE.BG_SCRUB_POS_WORD 0).scrubPass, ?_, exec_scrubPass (show s.awake = true from awake_of_takes h) ?_, fun v hv => ?_⟩
    · rw [exec_scrubNow h, scrubNow_starts (s := s.idleRestart) he hi]
    · exact (State.rd_wr_apart _ _ _ _ (by decide)).trans he
    · have := sramCe_scrubPass _ v hv
      rw [hstart] at this
      exact this.resolve_left (Nat.not_lt_zero v)
  case ignored => rw [exec_scrubNow h, scrubNow_ignored (s := s.idleRestart) hno]

end Sys2Proof.Machine
end

section
/-! PROOFS. Flash byte by byte, the state of FLASH that a slot command leaves, and writes of main SRAM that meet no uncorrectable word. -/

namespace Sys2Proof.Machine

-- In parallel these proofs take more memory than the check allows.
set_option Elab.async false

/-! ### Bytes of flash (R265) -/

section
variable (s : State) (a : Nat) (bs : List Nat)

theorem flashBytes_eq_map (n : Nat) : s.flashBytes a n = (List.range n).map fun i => (Store.get 0xFF s.flash (a + i)).toNat := by
  induction n generalizing a with
  | zero => rfl
  | succ n ih =>
    rw [State.flashBytes, ih, List.range_succ_eq_map, List.map_cons, List.map_map]
    exact congrArg _ (List.map_congr_left fun i _ => by simp only [Function.comp, Nat.succ_eq_add_one, Nat.add_assoc, Nat.add_comm 1])

theorem getD_flashBytes {n i : Nat} (h : i < n) : (s.flashBytes a n).getD i 0 = (s.flashBytes (a + i) 1).getD 0 0 := by
  simp [flashBytes_eq_map, h]

theorem flashProgram_frame : s.flashProgram a bs = { s with flash := (s.flashProgram a bs).flash } := by
  induction bs generalizing s a with
  | nil => rfl
  | cons b bs ih => exact ih _ _

theorem regs_flashProgram : (s.flashProgram a bs).regs = s.regs := by rw [flashProgram_frame]

theorem regsBut_mono {w w' : List Fld} {s t : State} (h : Safety.regsBut w s t) (hw : ∀ g ∈ w, g ∈ w') : Safety.regsBut w' s t :=
  fun f hf => h f fun g hg => hf g (hw g hg)

/-- A byte that is programmed keeps the bits that the data keeps. -/
theorem flashBytes_program_inside {i : Nat} (h : i < bs.length) :
    (s.flashProgram a bs).flashBytes (a + i) 1 = [((s.flashBytes (a + i) 1).getD 0 0) &&& bs.getD i 0] := by
  refine congrArg (· :: []) ?_
  rw [get_flashProgram, if_pos (by omega), Nat.add_sub_cancel_left]
  rfl

theorem flashBytes_program_outside {b : Nat} (h : b < a ∨ a + bs.length ≤ b) :
    (s.flashProgram a bs).flashBytes b 1 = s.flashBytes b 1 := by
  refine congrArg (· :: []) ?_
  rw [get_flashProgram, if_neg (by omega)]

theorem flashBytes_erase (n b : Nat) :
    (s.flashErase a n).flashBytes b 1 = if a ≤ b ∧ b < a + n then [0xFF] else s.flashBytes b 1 := by
  simp only [State.flashBytes, get_flashErase]
  split <;> rfl

theorem flashBytes_erase_outside {n b : Nat} (h : b < a ∨ a + n ≤ b) : (s.flashErase a n).flashBytes b 1 = s.flashBytes b 1 := by
  rw [flashBytes_erase, if_neg (by omega)]

theorem flashLeft_frame : s.flashLeft a bs = { s with flash := (s.flashLeft a bs).flash } := by
  induction bs generalizing s a with
  | nil => rfl
  | cons b bs ih => exact ih _ _

/-- A failed program leaves what lies beyond its page as it was. -/
theorem flashBytes_left_outside {b : Nat} (h : b < a ∨ a + bs.length ≤ b) : (s.flashLeft a bs).flashBytes b 1 = s.flashBytes b 1 := by
  induction bs generalizing s a with
  | nil => rfl
  | cons c bs ih =>
    rw [List.length_cons] at h
    rw [State.flashLeft, ih _ _ (by omega)]
    exact congrArg (fun v : Byte => [v.toNat]) (Store.get_set_ne _ _ _ (by omega))

end

/-- Nothing differs between `s` and `t` but the registers and flash. -/
def RegsFlash (s t : State) : Prop := t = { s with regs := t.regs, flash := t.flash }

theorem RegsFlash.of_flash {s t : State} (h : t = { s with flash := t.flash }) : RegsFlash s t := by
  rw [RegsFlash, h]

theorem RegsFlash.wr {s t : State} {f : Fld} {v : Nat} (h : RegsFlash s t) : RegsFlash s (t.wr f v) := by
  unfold RegsFlash at h ⊢
  rw [h]
  rfl

/-! ### Reads of flash (R261) -/

section
variable {s : State}

theorem rd_flashRead {f : Fld} (h : FLASH.SUSPENDS_COUNT.apart f = true) : s.flashRead.rd f = s.rd f :=
  (only_flashRead s).2.1 f (by simpa using h)

theorem flashRead_busy (h : (s.flag FLASH.STAT_BUSY && s.flag FLASH.STAT_SUSPEND) = true) :
    s.flashRead = s.bump FLASH.SUSPENDS_COUNT := if_pos h

theorem flashRead_idle (h : (s.flag FLASH.STAT_BUSY && s.flag FLASH.STAT_SUSPEND) = false) : s.flashRead = s := if_neg (by simp [h])

theorem flashHeld_congr {t : State} (hb : t.rd FLASH.STAT_BUSY = s.rd FLASH.STAT_BUSY)
    (hp : t.rd FLASH.STAT_SUSPEND = s.rd FLASH.STAT_SUSPEND) : t.flashHeld = s.flashHeld := by
  simp only [State.flashHeld, State.flag, hb, hp]

end

/-! ### FLASH.STAT.BUSY (R268) -/

/-- The channels that are held up by the flash go on once reads need not wait. -/
def State.chansFreed (s : State) (held : Bool) : List Chan := if held then s.chans else s.chans.map fun c => { c with stuck := false }

section
variable {w : List Fld} {s t : State}

/-- BUSY is shown. -/
def State.busyShown (s : State) : State := s.wrB FLASH.STAT_BUSY (s.fl.job.isSome || s.led.compact.isSome)

theorem flashBusy_eq (s : State) : s.flashBusy = { s.busyShown with chans := s.chansFreed s.busyShown.flashHeld } := by
  show (if s.busyShown.flashHeld then s.busyShown else _) = _
  unfold State.chansFreed
  split <;> rfl

theorem flashHeld_flashBusy (s : State) : s.flashBusy.flashHeld = s.busyShown.flashHeld := by rw [flashBusy_eq]; rfl

theorem chans_flashBusy (s : State) : s.flashBusy.chans = s.chansFreed s.flashBusy.flashHeld := by
  rw [flashHeld_flashBusy, flashBusy_eq]

theorem only_flashBusy (h : Safety.only w s t) (hb : FLASH.STAT_BUSY ∈ w := by simp) :
    Safety.only w { s with chans := t.flashBusy.chans } t.flashBusy := by
  have hshown : Safety.only w s t.busyShown := only_wrB h hb
  rw [flashBusy_eq]
  refine ⟨?_, hshown.2⟩
  rw [hshown.1]

theorem rd_flashBusy (s : State) : s.flashBusy.rd FLASH.STAT_BUSY = bit (s.fl.job.isSome || s.led.compact.isSome) := by
  rw [flashBusy_eq]
  exact rd_wrB s _

theorem rd_flashBusy_apart (s : State) {f : Fld} (h : FLASH.STAT_BUSY.apart f = true) : s.flashBusy.rd f = s.rd f :=
  (only_flashBusy (w := [FLASH.STAT_BUSY]) (only_refl _ s)).2.1 f (by simpa using h)

theorem flashBusy_frame (s : State) : s.flashBusy = { s with regs := s.flashBusy.regs, chans := s.flashBusy.chans } :=
  (only_flashBusy (w := [FLASH.STAT_BUSY]) (only_refl _ s)).1

end

/-! ### Writes of main SRAM without an uncorrectable word (R252) -/

/-- Nothing differs between `s` and `t` but the count of correctable errors, and main SRAM with its marks of them. -/
structure SramStored (s t : State) : Prop where
  rest : t = { s with regs := t.regs, sram := t.sram, sramCe := t.sramCe }
  regs : Safety.regsBut [CORE.ECC_CE_SRAM] s t

theorem SramStored.trans {s t u : State} (h : SramStored s t) (k : SramStored t u) : SramStored s u := by
  refine ⟨?_, regsBut_trans h.regs k.regs⟩
  rw [k.rest, h.rest]

theorem SramStored.clean {s t : State} (h : SramStored s t) (hu : s.sramUe = []) : t.sramUe = [] := by
  rw [h.rest]
  exact hu

theorem SramStored.rest_of_flashRead {s t : State} (h : SramStored s.flashRead t) :
    t = { s with regs := t.regs, sram := t.sram, sramCe := t.sramCe } := by
  have hrest := h.rest
  rw [(only_flashRead s).1] at hrest
  exact hrest

theorem sramStored_writeWord {s : State} (hu : s.sramUe = []) (a : Nat) (bs : List Nat) (w : Nat) :
    SramStored s (s.writeWord .sram a bs w) := by
  have hstore (t : State) (ht : t.sramUe = []) (b : Nat) (l : List Nat) : SramStored t ((t.poke .sram b l).clearEcc .sram w) := by
    have hkept : t.sramUe.filter (· != w) = t.sramUe := by rw [ht]; rfl
    exact ⟨congrArg (fun l => ({ t with sram := _, sramUe := l, sramCe := _ } : State)) hkept, fun _ _ => rfl⟩
  have hmark : w ∉ s.ue .sram := by simp [State.ue, hu]
  have hcheck : SramStored s (s.checkWord .sram w) := by
    by_cases hc : w ∈ s.ce .sram
    · rw [checkWord_correctable hmark hc]
      exact ⟨rfl, (only_bump (f := CORE.ECC_CE_SRAM) (only_refl _ s)).2.1⟩
    · rw [checkWord_clean hmark hc]
      exact ⟨rfl, fun _ _ => rfl⟩
  unfold State.writeWord
  extract_lets lo hi part
  split
  · exact hstore s hu _ _
  · rw [if_neg (by simpa using hmark)]
    exact hcheck.trans (hstore _ (hcheck.clean hu) _ _)

theorem sramStored_writeMem {s : State} (hu : s.sramUe = []) (a : Nat) (bs : List Nat) : SramStored s (s.writeMem .sram a bs) :=
  List.foldlRecOn (motive := fun t => SramStored s t) _ _ ⟨rfl, fun _ _ => rfl⟩ fun _ h w _ =>
    h.trans (sramStored_writeWord (h.clean hu) a bs w)

/-- Without an uncorrectable word every byte of the write is stored. -/
theorem byte_writeMem_clean {s : State} (hu : s.sramUe = []) (a : Nat) (bs : List Nat) (x : Nat) :
    (s.writeMem .sram a bs).byte .sram x = if a ≤ x ∧ x < a + bs.length then bs.getD (x - a) 0 % 256 else s.byte .sram x := by
  have hkept : s.wordKept .sram a bs.length (x / 16) = false := wordKept_eq_false_iff.mpr (.inl (by simp [State.ue, hu]))
  rw [byte_writeMem]
  exact if_congr ⟨fun h => ⟨h.1, h.2.1⟩, fun h => ⟨h.1, h.2, hkept⟩⟩ rfl rfl

theorem byte_writeMem_inside {s : State} (hu : s.sramUe = []) (a : Nat) {bs : List Nat} {i : Nat} (h : i < bs.length) :
    (s.writeMem .sram a bs).byte .sram (a + i) = bs.getD i 0 % 256 := by
  rw [byte_writeMem_clean hu, if_pos (by omega), Nat.add_sub_cancel_left]

theorem byte_writeMem_outside {s : State} (hu : s.sramUe = []) {a : Nat} {bs : List Nat} {x : Nat} (h : x < a ∨ a + bs.length ≤ x) :
    (s.writeMem .sram a bs).byte .sram x = s.byte .sram x := by
  rw [byte_writeMem_clean hu, if_neg (by omega)]

theorem writeBad_clean {s : State} (hu : s.sramUe = []) (a n : Nat) : s.writeBad .sram a n = false := by
  simp [State.writeBad, State.ue, hu]

end Sys2Proof.Machine
end

section
/-! PROOFS. The slots: their erase and programming, their verification, the journal, and copies of flash to main SRAM. -/

namespace Sys2Proof.Machine

-- In parallel these proofs take more memory than the check allows.
set_option Elab.async false

/-! ### The state of a slot (R266) -/

theorem slotFld_cases (k : Nat) : slotFld k = FLASH.SLOTS_A_STATE ∨ slotFld k = FLASH.SLOTS_B_STATE := by
  unfold slotFld
  split
  · exact .inl rfl
  · exact .inr rfl

theorem slotFld_apart {g : Fld} (k : Nat) (h : FLASH.SLOTS_A_STATE.apart g = true ∧ FLASH.SLOTS_B_STATE.apart g = true := by decide) :
    (slotFld k).apart g = true := by
  rcases slotFld_cases k with e | e <;> rw [e]
  · exact h.1
  · exact h.2

theorem rd_wr_slotFld (s : State) (k : Nat) {v : Nat} (h : v < 16) : (s.wr (slotFld k) v).rd (slotFld k) = v := by
  rcases slotFld_cases k with e | e <;> rw [e]
  · exact rd_wr_of_lt s ⟨h, by decide⟩
  · exact rd_wr_of_lt s ⟨h, by decide⟩

theorem apart_slotFld {g : Fld} (k : Nat) (h : FLASH.SLOTS_A_STATE.apart g = true ∧ FLASH.SLOTS_B_STATE.apart g = true := by decide) :
    g.apart (slotFld k) = true := (Fld.apart_comm _ _).trans (slotFld_apart k h)

/-- The state of a slot is shown, and with it whether the flash is busy. -/
def State.slotShown (s : State) (k v : Nat) : State := (s.wr (slotFld k) v).flashBusy

theorem only_slotShown (s : State) (k v : Nat) :
    Safety.only [slotFld k, FLASH.STAT_BUSY] { s with chans := (s.slotShown k v).chans } (s.slotShown k v) :=
  only_flashBusy (only_wr (only_refl _ s))

theorem slotShown_fields (s : State) (k : Nat) {v : Nat} (h : v < 16) : (s.slotShown k v).rd (slotFld k) = v ∧
    (s.slotShown k v).rd FLASH.STAT_BUSY = bit (s.fl.job.isSome || s.led.compact.isSome) ∧
    (s.slotShown k v).chans = s.chansFreed (s.slotShown k v).flashHeld :=
  ⟨(rd_flashBusy_apart _ (apart_slotFld k)).trans (rd_wr_slotFld s k h), rd_flashBusy _, chans_flashBusy _⟩

/-! ### The end of a slot command -/

/-- The slot command in progress is over, with its slot in state `v`. -/
def State.slotOver (s : State) (k v : Nat) : State := (s.setFl fun f => { f with job := none }).slotShown k v

theorem slotEnd_eq (s : State) (j : SlotJob) (st v : Nat) :
    s.slotEnd j st v = ((s.slotOver j.slot v).complete j.tag st j.did 0).settle := rfl

theorem fl_slotOver (s : State) (k v : Nat) : (s.slotOver k v).fl = { s.fl with job := none } :=
  only_same (only_slotShown (s.setFl fun f => { f with job := none }) k v) State.fl

/-! ### The erase of a slot -/

section
variable {tag : Fin 64} {s : State} {c : Cmd} (hc : s.cmd? tag = some c)
include hc

theorem exec_slotErase_active (hf : s.flashFree c 0x20 = true) (ha : s.slotActive c.p0 = true) :
    exec (.slotErase tag) s = .next (s.endOpen tag stBadParam).settle := by
  show execSlotErase tag s = _
  simp [execSlotErase, hc, hf, ha]

/-- The erase of a slot has begun. -/
def State.eraseBegun (s : State) (tag k : Nat) : State :=
  (((s.start tag).setFl fun f => { f with
    job := some { tag := tag, slot := k, erase := true, did := 0 }, broken := if f.broken == k then 0 else f.broken }).slotShown k
      slotErasing).wr FLASH.PROGRESS_BYTES 0

theorem exec_slotErase (hf : s.flashFree c 0x20 = true) (ha : s.slotActive c.p0 = false) :
    exec (.slotErase tag) s = .next (s.eraseBegun tag c.p0) := by
  show execSlotErase tag s = _
  simp [execSlotErase, hc, hf, ha, State.eraseBegun, State.slotShown]

theorem exec_slotWrite_refused (hf : s.flashFree c 0x21 = true) (ha : (s.slotActive c.p0 || !s.slotWriteOk c) = true) :
    exec (.slotWrite tag) s = .next (s.endOpen tag stBadParam).settle := by
  show execSlotWrite tag s = _
  simp only [execSlotWrite, hc, hf, ha, if_true]

/-- The programming of a slot has begun. -/
def State.writeBegun (s : State) (tag k : Nat) : State :=
  ((s.start tag).setFl fun f => { f with job := some { tag := tag, slot := k, erase := false, did := 0 } }).slotShown k slotWriting

theorem exec_slotWrite (hf : s.flashFree c 0x21 = true) (ha : s.slotActive c.p0 = false) (ho : s.slotWriteOk c = true) :
    exec (.slotWrite tag) s = .next (s.writeBegun tag c.p0) := by
  show execSlotWrite tag s = _
  simp [execSlotWrite, hc, hf, ha, ho, State.writeBegun, State.slotShown]

end

theorem eraseBegun_fields (s : State) (tag k : Nat) : let x := s.eraseBegun tag k
    x.rd (slotFld k) = slotErasing ∧ x.rd FLASH.STAT_BUSY = 1 ∧ x.rd FLASH.PROGRESS_BYTES = 0 ∧
      x.chans = s.chansFreed x.flashHeld := by
  intro x
  let y := (s.start tag).setFl fun f => { f with
    job := some { tag := tag, slot := k, erase := true, did := 0 }, broken := if f.broken == k then 0 else f.broken }
  obtain ⟨hslot, hbusy, hchans⟩ := slotShown_fields y k (v := slotErasing) (by decide)
  have hheld : x.flashHeld = (y.slotShown k slotErasing).flashHeld :=
    flashHeld_congr (State.rd_wr_apart _ _ _ _ (by decide)) (State.rd_wr_apart _ _ _ _ (by decide))
  refine ⟨(State.rd_wr_apart _ _ _ _ (apart_slotFld k)).trans hslot, (State.rd_wr_apart _ _ _ _ (by decide)).trans hbusy,
    rd_wr_of_lt _ (by decide), ?_⟩
  rw [hheld]
  exact hchans

theorem only_eraseBegun (s : State) (tag k : Nat) : Safety.only [slotFld k, FLASH.STAT_BUSY, FLASH.PROGRESS_BYTES]
    { s.start tag with chans := (s.eraseBegun tag k).chans, fl := { s.fl with
      job := some { tag := tag, slot := k, erase := true, did := 0 }, broken := if s.fl.broken == k then 0 else s.fl.broken } }
    (s.eraseBegun tag k) :=
  only_wr (only_mono (only_slotShown _ k slotErasing) (by simp))

theorem fl_eraseBegun (s : State) (tag k : Nat) : (s.eraseBegun tag k).fl = { s.fl with
    job := some { tag := tag, slot := k, erase := true, did := 0 }, broken := if s.fl.broken == k then 0 else s.fl.broken } :=
  only_same (only_eraseBegun s tag k) State.fl

/-- A sector of the slot has been erased. -/
def State.sectorErased (s : State) (j : SlotJob) : State :=
  let a := s.slotBase j.slot + 0x10000 * j.did
  (s.flashErase a 0x10000).setFl fun f => { f with
    job := some { j with did := j.did + 1 }, pages := f.pages.filter fun p => p * 256 < a || a + 0x10000 ≤ p * 256 }

section
variable {s : State} {j : SlotJob} (hl : s.led.compact = none) (hj : s.fl.job = some j) (he : j.erase = true)
include hl hj he

theorem exec_sectorEraseDone_slot : exec .sectorEraseDone s =
    .next (if 0x10000 * (j.did + 1) < s.slotSize then s.sectorErased j
      else (s.sectorErased j).slotEnd { j with did := j.did + 1 } stOK slotErased) := by
  show execSectorEraseDone s = _
  simp only [execSectorEraseDone, hl, State.slotSectorDone, hj]
  rw [if_pos he]
  rfl

theorem exec_eraseTimeExceeded : exec .eraseTimeExceeded s = .next (s.slotEnd j stTimeout slotFailed) := by
  show execEraseTimeExceeded s = _
  simp [execEraseTimeExceeded, hl, hj, he]

end

theorem flashBytes_sectorErased (s : State) (j : SlotJob) (b : Nat) : (s.sectorErased j).flashBytes b 1 =
    if s.slotBase j.slot + 0x10000 * j.did ≤ b ∧ b < s.slotBase j.slot + 0x10000 * j.did + 0x10000 then [0xFF]
    else s.flashBytes b 1 := flashBytes_erase s _ _ b

/-! ### The programming of a slot -/

section
variable (s : State) (j : SlotJob) (c : Cmd)

/-- The bytes of the next page of a SLOT_WRITE: how many, where they go, and what they are. -/
def pageLen : Nat := min 256 (c.p3 - j.did)
def State.pageAt : Nat := s.slotBase j.slot + c.p1 + j.did
def State.pageSource : List Nat := s.bytes .sram (c.p2 + j.did) (pageLen j c)

/-- The source of the page has been read, and its page is one of those programmed. -/
def State.pageRead : State := (s.readMem .sram (c.p2 + j.did) (pageLen j c)).1
def State.pageTaken : State := (s.pageRead j c).setFl fun f => { f with pages := s.pageAt j c / 256 :: f.pages }

/-- The page holds `t`'s flash, and the command goes on behind it. -/
def State.pageCounted (t : State) : State :=
  (t.bump FLASH.PROGRESS_BYTES (pageLen j c)).setFl fun f => { f with job := some { j with did := j.did + pageLen j c } }

/-- The page has been programmed. -/
def State.pageDone : State := ((s.pageTaken j c).flashProgram (s.pageAt j c) (s.pageSource j c)).pageCounted j c

/-- The flash holds at the page what a failed program left there. -/
def State.pageFailed (l : List (BitVec 8)) : State := (s.pageTaken j c).flashLeft (s.pageAt j c) ((l.map (·.toNat)).take (pageLen j c))

end

section
variable {s : State} {j : SlotJob} {c : Cmd} (hj : s.fl.job = some j) (he : j.erase = false) (hc : s.cmd? j.tag = some c)
include hj he hc

theorem exec_pageProgramDone_ecc (hb : (s.badWord .sram (c.p2 + j.did) (pageLen j c)).isSome = true) (l : Option (List (BitVec 8))) :
    exec (.pageProgramDone l) s = .next ((s.pageRead j c).slotEnd j stEcc slotWriting) := by
  unfold pageLen at hb
  show execPageProgramDone l s = _
  simp [execPageProgramDone, hj, he, hc, hb, State.pageRead, pageLen]

theorem exec_pageProgramDone_good (hb : s.badWord .sram (c.p2 + j.did) (pageLen j c) = none) :
    exec (.pageProgramDone none) s = .next (if j.did + pageLen j c < c.p3 then s.pageDone j c
      else (s.pageDone j c).slotEnd { j with did := j.did + pageLen j c } stOK slotWriting) := by
  unfold pageLen at hb
  show execPageProgramDone none s = _
  simp only [execPageProgramDone, hj, hc, hb, Option.isSome_none, Bool.false_eq_true, if_false]
  rw [if_neg (ne_true_of_eq_false he)]
  rfl

theorem exec_pageProgramDone_torn (hb : s.badWord .sram (c.p2 + j.did) (pageLen j c) = none) {l : List (BitVec 8)}
    (hl : (l.map (·.toNat)).take (pageLen j c) ≠ s.pageSource j c) :
    exec (.pageProgramDone (some l)) s = .next ((s.pageFailed j c l).slotEnd j stTorn slotFailed) := by
  unfold pageLen at hb
  show execPageProgramDone (some l) s = _
  simp only [execPageProgramDone, hj, hc, hb, Option.isSome_none, Bool.false_eq_true, if_false]
  rw [if_neg (ne_true_of_eq_false he)]
  exact if_neg fun h => hl (beq_iff_eq.mp h)

end

section
variable (s : State) (j : SlotJob) (c : Cmd)

theorem only_pageRead : Safety.only [CORE.ECC_CE_SRAM, CORE.ECC_UE_SRAM, CORE.ECC_LAST_ADDR, VEC.PENDING_PENDING] s (s.pageRead j c) :=
  only_mono (only_readMem s .sram _ _) (by simp [Ram.ceFld, Ram.ueFld])

theorem pageTaken_flash : (s.pageTaken j c).flash = s.flash := only_same (only_pageRead s j c) State.flash

theorem pageTaken_frame : s.pageTaken j c = { s with regs := (s.pageTaken j c).regs, fl := (s.pageTaken j c).fl } := by
  rw [State.pageTaken, (only_pageRead s j c).1]
  rfl

theorem pageFailed_frame (l : List (BitVec 8)) :
    s.pageFailed j c l = { s with
      regs := (s.pageFailed j c l).regs, fl := (s.pageFailed j c l).fl, flash := (s.pageFailed j c l).flash } := by
  rw [State.pageFailed, flashLeft_frame, pageTaken_frame]

theorem pageDone_frame :
    s.pageDone j c = { s with regs := (s.pageDone j c).regs, fl := (s.pageDone j c).fl, flash := (s.pageDone j c).flash } := by
  rw [State.pageDone, flashProgram_frame, pageTaken_frame]
  rfl

theorem pageDone_job : (s.pageDone j c).fl.job = some { j with did := j.did + pageLen j c } := rfl

theorem regsBut_pageCounted (t : State) : Safety.regsBut [FLASH.PROGRESS_BYTES] t (t.pageCounted j c) := fun f hf =>
  rd_bump_apart t _ f _ (hf _ (by simp))

theorem regsBut_pageDone : Safety.regsBut [FLASH.PROGRESS_BYTES, CORE.ECC_CE_SRAM, CORE.ECC_UE_SRAM, CORE.ECC_LAST_ADDR,
    VEC.PENDING_PENDING] s (s.pageDone j c) :=
  regsBut_trans (regsBut_mono (only_pageRead s j c).2.1 (by simp +contextual))
    (regsBut_trans (regsBut_of_regs (regs_flashProgram (s.pageTaken j c) (s.pageAt j c) (s.pageSource j c)))
      (regsBut_mono (regsBut_pageCounted j c _) (by simp)))

theorem flashBytes_pageTaken (b : Nat) : (s.pageTaken j c).flashBytes b 1 = s.flashBytes b 1 := flashBytes_congr (pageTaken_flash s j c) b 1

theorem length_pageSource : (s.pageSource j c).length = pageLen j c := length_bytes s .sram _ _

theorem flashBytes_pageDone_inside {i : Nat} (h : i < pageLen j c) : (s.pageDone j c).flashBytes (s.pageAt j c + i) 1 =
    [((s.flashBytes (s.pageAt j c + i) 1).getD 0 0) &&& (s.pageSource j c).getD i 0] := by
  have hinside := flashBytes_program_inside (s.pageTaken j c) (s.pageAt j c) (s.pageSource j c) (i := i)
    ((length_pageSource s j c).symm ▸ h)
  rw [flashBytes_pageTaken] at hinside
  exact hinside

theorem flashBytes_pageDone_outside {b : Nat} (h : b < s.pageAt j c ∨ s.pageAt j c + pageLen j c ≤ b) :
    (s.pageDone j c).flashBytes b 1 = s.flashBytes b 1 :=
  (flashBytes_program_outside (s.pageTaken j c) _ (s.pageSource j c) ((length_pageSource s j c).symm ▸ h)).trans
    (flashBytes_pageTaken s j c b)

theorem flashBytes_pageFailed_outside (l : List (BitVec 8)) {b : Nat} (h : b < s.pageAt j c ∨ s.pageAt j c + l.length ≤ b) :
    (s.pageFailed j c l).flashBytes b 1 = s.flashBytes b 1 := by
  have hlen : ((l.map (·.toNat)).take (pageLen j c)).length ≤ l.length := by simp
  exact (flashBytes_left_outside (s.pageTaken j c) _ _ (by omega)).trans (flashBytes_pageTaken s j c b)

end

/-! ### The verification of a slot (R264 to R268) -/

theorem slotSize_flashRead (s : State) : s.flashRead.slotSize = s.slotSize := by
  have hgeom : s.flashRead.rd FLASH.STAT_GEOM = s.rd FLASH.STAT_GEOM := rd_flashRead (by decide)
  have hflag : s.flashRead.flag FLASH.STAT_GEOM = s.flag FLASH.STAT_GEOM := by rw [State.flag, State.flag, hgeom]
  rw [State.slotSize, State.slotSize, hflag]

theorem slotBytes_flashRead (s : State) (k : Nat) : s.flashRead.slotBytes k = s.slotBytes k := by
  rw [State.slotBytes, State.slotBase, slotSize_flashRead, flashBytes_flashRead]
  rfl

theorem slotStep_flashRead (s : State) (k : Nat) : s.flashRead.slotStep k = s.slotStep k := by
  have hotp : s.flashRead.otp = s.otp := only_same (only_flashRead s) State.otp
  rw [State.slotStep, slotBytes_flashRead, slotSize_flashRead, hotp]
  rfl

/-- A slot has been found to fail at step `n`. -/
def State.slotFailedAt (s : State) (k n : Nat) : State := (s.failStep n).wr (slotFld k) slotFailed

theorem slotFailedAt_fields (s : State) (k : Nat) {n : Nat} (h : n < 256) :
    (s.slotFailedAt k n).rd (slotFld k) = slotFailed ∧ (s.slotFailedAt k n).rd CORE.IMG_STAT_FAIL_STEP = n :=
  ⟨rd_wr_slotFld _ k (by decide), (State.rd_wr_apart _ _ _ _ (slotFld_apart k)).trans (rd_wr_of_lt s ⟨h, by decide⟩)⟩

theorem only_slotFailedAt (s : State) (k n : Nat) : Safety.only [slotFld k, CORE.IMG_STAT_FAIL_STEP] s (s.slotFailedAt k n) :=
  only_wr (only_wr (only_refl _ s))

section
variable {tag : Fin 64} {s : State} {c : Cmd} (hc : s.cmd? tag = some c)
include hc

theorem exec_slotVerify_good (hf : s.flashFree c 0x22 = true) (hh : s.flashHeld = false) (hn : s.slotStep c.p0 = 0) :
    exec (.slotVerify tag) s = .next ((s.flashRead.wr (slotFld c.p0) slotVerified).complete tag stOK (hdrSerial (s.slotBytes c.p0)) 0).settle := by
  show execSlotVerify tag s = _
  simp [execSlotVerify, hc, hf, hh, slotStep_flashRead, slotBytes_flashRead, hn]

theorem exec_slotVerify_bad (hf : s.flashFree c 0x22 = true) (hh : s.flashHeld = false) (hn : s.slotStep c.p0 ≠ 0) :
    exec (.slotVerify tag) s = .next ((s.flashRead.slotFailedAt c.p0 (s.slotStep c.p0)).complete tag stAuth
      (hdrSerial (s.slotBytes c.p0)) (s.slotStep c.p0)).settle := by
  show execSlotVerify tag s = _
  simp [execSlotVerify, hc, hf, hh, slotStep_flashRead, slotBytes_flashRead, hn, State.slotFailedAt]

end

/-! ### The journal (R265) -/

section
variable (s : State) (active len serial : Nat)

/-- The SEQ of the next journal record, and the record. -/
def State.journalNext : Nat := ((s.lastJournal.map fun l => l.2.1).getD 0 + 1) % 2 ^ 32
def State.journalBody : List Nat :=
  leBytes 4 0x524A424D ++ leBytes 4 s.journalNext ++ [active, s.rd FLASH.STAT_GEOM, 0, 0] ++ leBytes 4 len ++ leBytes 4 serial ++
    List.replicate 8 0
def State.journalRecord : List Nat := s.journalBody active len serial ++ leBytes 4 (crc32 (s.journalBody active len serial))

/-- The sector of the last journal record, the place behind that record, and how far the first erased place lies from there. -/
def State.journalSector : Nat := (s.lastJournal.map fun l => l.1).getD 0 / 2048
def State.journalFrom : Nat := (s.lastJournal.map fun l => l.1 + 1).getD 0
def State.journalPlace : Option Nat := (List.range (2048 * (s.journalSector + 1) - s.journalFrom)).find? fun i =>
  (s.flashBytes (32 * (s.journalFrom + i)) 32).all (· == 0xFF)

/-- The journal record is in flash: behind the last one, or at the start of the other sector. -/
def State.journalStored (r : List Nat) : State :=
  s.journalPlace.elim ((s.flashErase (0x10000 * (1 - s.journalSector)) 0x10000).flashProgram (0x10000 * (1 - s.journalSector)) r)
    fun i => s.flashProgram (32 * (s.journalFrom + i)) r

theorem writeJournal_eq : s.writeJournal active len serial =
    ((s.journalStored (s.journalRecord active len serial)).wr FLASH.SLOTS_ACTIVE active).wr FLASH.JOURNAL_SEQ s.journalNext := by
  unfold State.writeJournal State.journalStored State.journalPlace State.journalFrom State.journalSector State.journalRecord
    State.journalBody State.journalNext
  dsimp only
  generalize List.find? _ _ = place
  cases place with
  | none => rw [Option.elim_none]
  | some i => rw [Option.elim_some]

theorem length_journalRecord : (s.journalRecord active len serial).length = 32 := by
  simp [State.journalRecord, State.journalBody, length_leBytes]

end

/-- The last journal record lies in the journal's 4096 places. -/
theorem lastJournal_lt {s : State} {l : Nat × Nat × Nat} (h : s.lastJournal = some l) : l.1 < 4096 := by
  refine List.foldlRecOn (motive := fun best : Option (Nat × Nat × Nat) => ∀ b, best = some b → b.1 < 4096) _ _
    (fun b hb => absurd hb (by simp)) (fun best hbest i hi => ?_) l h
  have hlt := List.mem_range.mp hi
  intro b hb
  split at hb
  · exact hbest b hb
  · split at hb
    · obtain rfl := Option.some.inj hb
      exact hlt
    · exact hbest b hb

theorem journalSector_le (s : State) : s.journalSector ≤ 1 := by
  unfold State.journalSector
  cases h : s.lastJournal with
  | none => simp
  | some l =>
    have := lastJournal_lt h
    simp only [Option.map_some, Option.getD_some]
    omega

theorem journalStored_frame (s : State) (r : List Nat) : s.journalStored r = { s with flash := (s.journalStored r).flash } := by
  unfold State.journalStored
  cases s.journalPlace with
  | some i => exact flashProgram_frame _ _ _
  | none =>
    rw [Option.elim_none, flashProgram_frame]
    rfl

/-- A journal record touches the journal's two sectors alone. -/
theorem flashBytes_journalStored (s : State) {r : List Nat} (hr : r.length = 32) {b : Nat} (hb : 0x20000 ≤ b) :
    (s.journalStored r).flashBytes b 1 = s.flashBytes b 1 := by
  have hsector := journalSector_le s
  unfold State.journalStored
  cases hi : s.journalPlace with
  | some i =>
    have hplace := List.mem_range.mp (List.mem_of_find?_eq_some hi)
    exact flashBytes_program_outside s _ r (by omega)
  | none => rw [Option.elim_none, flashBytes_program_outside _ _ r (by omega), flashBytes_erase_outside s _ (by omega)]

section
variable {tag : Fin 64} {s : State} {c : Cmd} (hc : s.cmd? tag = some c) (hf : s.flashFree c 0x23 = true) (hl : s.led.compact = none)
include hc hf hl

theorem exec_slotSwitch_refused (h : c.p1 ≠ 0x5357 ∨ s.rd (slotFld c.p0) ≠ slotVerified) :
    exec (.slotSwitch tag) s = .next (s.endOpen tag stBadParam).settle := by
  show execSlotSwitch tag s = _
  simp [execSlotSwitch, hc, hf, hl, h]

theorem exec_slotSwitch_present (hk : c.p1 = 0x5357) (hv : s.rd (slotFld c.p0) = slotVerified) (ha : s.slotActive c.p0 = true) :
    exec (.slotSwitch tag) s = .next (s.openWord.2.complete tag stOK s.openWord.1 0).settle := by
  show execSlotSwitch tag s = _
  simp [execSlotSwitch, hc, hf, hl, hk, hv, ha]

/-- The journal record of a switch to slot `k` has been written. -/
def State.switchedTo (s : State) (k : Nat) : State :=
  s.writeJournal k (hdrLen (s.flashBytes (s.slotBase k) 0x180)) (hdrSerial (s.flashBytes (s.slotBase k) 0x180))

theorem exec_slotSwitch (hk : c.p1 = 0x5357) (hv : s.rd (slotFld c.p0) = slotVerified) (ha : s.slotActive c.p0 = false) :
    exec (.slotSwitch tag) s =
      .next ((s.switchedTo c.p0).complete tag stOK ((s.switchedTo c.p0).rd FLASH.JOURNAL_SEQ) 0).settle := by
  show execSlotSwitch tag s = _
  simp [execSlotSwitch, hc, hf, hl, hk, hv, ha, State.switchedTo]

end

theorem switchedTo_fields (s : State) {k : Nat} (h : k < 4) : (s.switchedTo k).rd FLASH.SLOTS_ACTIVE = k ∧
    (s.switchedTo k).rd FLASH.JOURNAL_SEQ = s.journalNext := by
  rw [State.switchedTo, writeJournal_eq]
  refine ⟨(State.rd_wr_apart _ _ _ _ (by decide)).trans (rd_wr_of_lt _ ⟨h, by decide⟩), rd_wr_of_lt _ ⟨?_, by decide⟩⟩
  exact Nat.mod_lt _ (by decide)

theorem switchedTo_frame (s : State) (k : Nat) :
    s.switchedTo k = { s with regs := (s.switchedTo k).regs, flash := (s.switchedTo k).flash } := by
  have hstored : RegsFlash s (s.switchedTo k) := by
    rw [State.switchedTo, writeJournal_eq]
    exact RegsFlash.wr (RegsFlash.wr (RegsFlash.of_flash (journalStored_frame s _)))
  exact hstored

theorem regsBut_switchedTo (s : State) (k : Nat) : Safety.regsBut [FLASH.SLOTS_ACTIVE, FLASH.JOURNAL_SEQ] s (s.switchedTo k) := by
  rw [State.switchedTo, writeJournal_eq]
  refine regsBut_trans (regsBut_of_regs ?_) (only_wr (only_wr (only_refl _ _))).2.1
  rw [journalStored_frame]

theorem flashBytes_switchedTo (s : State) (k : Nat) {b : Nat} (hb : 0x20000 ≤ b) : (s.switchedTo k).flashBytes b 1 = s.flashBytes b 1 := by
  rw [State.switchedTo, writeJournal_eq]
  exact (flashBytes_congr State.wr_flash b 1).trans ((flashBytes_congr State.wr_flash b 1).trans
    (flashBytes_journalStored s (length_journalRecord s _ _ _) hb))

/-! ### READ_TO_SRAM (R267) -/

section
variable {tag : Fin 64} {s : State} {c : Cmd} (hc : s.cmd? tag = some c) (hf : s.flashFree c 0x24 = true) (hh : s.flashHeld = false)
include hc hf hh

theorem exec_readToSram_refused (h : s.rd FLASH.STAT_SIZE_MIB * 0x100000 < c.p0 + c.p2) :
    exec (.readToSram tag) s = .next (s.flashRead.endOpen tag stBadParam).settle := by
  have hsize : s.flashRead.rd FLASH.STAT_SIZE_MIB = s.rd FLASH.STAT_SIZE_MIB := rd_flashRead (by decide)
  show execReadToSram tag s = _
  simp [execReadToSram, hc, hf, hh, hsize, h]

/-- A range of flash has been copied to main SRAM. -/
def State.flashCopied (s : State) (c : Cmd) : State := s.flashRead.writeMem .sram c.p1 (s.flashBytes c.p0 c.p2)

theorem exec_readToSram (h : c.p0 + c.p2 ≤ s.rd FLASH.STAT_SIZE_MIB * 0x100000) (hu : s.flashRead.sramUe = []) :
    exec (.readToSram tag) s = .next ((s.flashCopied c).complete tag stOK c.p2 0).settle := by
  have hsize : s.flashRead.rd FLASH.STAT_SIZE_MIB = s.rd FLASH.STAT_SIZE_MIB := rd_flashRead (by decide)
  show execReadToSram tag s = _
  simp [execReadToSram, hc, hf, hh, hsize, Nat.not_lt.mpr h, hu, State.flashCopied, flashBytes_flashRead]

end

theorem sramUe_flashRead (s : State) : s.flashRead.sramUe = s.sramUe := only_same (only_flashRead s) State.sramUe

/-! ### The statement -/

/-- Settles O24: each command and each event by the equation of its case, with what the state that it leaves shows. -/
theorem slotCommands : Obligations.SlotCommands := by
  refine ⟨⟨fun j st state s h => ?slotEnd, fun tag s c hc hf => ⟨exec_slotErase_active hc hf, fun ha => ?erase⟩,
      fun s j hl hj he => ?sector, fun s j => exec_eraseTimeExceeded,
      fun tag s c hc hf => ⟨exec_slotWrite_refused hc hf, fun ha ho => ?write⟩, fun s j c hj he hc => ?page⟩,
    fun tag s c hc hf hh => ⟨fun hn => ?verified, fun n hn h0 hlt => ?failed⟩,
    fun tag s c hc hf hl => ⟨exec_slotSwitch_refused hc hf hl, fun hk hv ha => ?present, fun hk hv ha hp => ?switch⟩,
    fun s h => ?suspends, fun s => flashRead_idle,
    fun tag s c hc hf hh => ⟨exec_readToSram_refused hc hf hh, fun h hu => ?copy⟩⟩
  case slotEnd =>
    obtain ⟨hslot, hbusy, hchans⟩ := slotShown_fields (s.setFl fun f => { f with job := none }) j.slot h
    exact ⟨s.slotOver j.slot state, slotEnd_eq s j st state, congrArg Flash.job (fl_slotOver s j.slot state), hslot, hbusy, hchans,
      only_slotShown _ _ _⟩
  case erase =>
    obtain ⟨hslot, hbusy, hbytes, hchans⟩ := eraseBegun_fields s tag c.p0
    have hfl := fl_eraseBegun s tag c.p0
    simp only [beq_iff_eq] at hfl
    refine ⟨s.eraseBegun tag c.p0, exec_slotErase hc hf ha, hslot, hbusy, hbytes, congrArg Flash.job hfl, congrArg Flash.broken hfl, hchans, ?_⟩
    have honly := only_eraseBegun s tag c.p0
    rw [hfl]
    simpa only [beq_iff_eq] using honly
  case sector => exact ⟨s.sectorErased j, exec_sectorEraseDone_slot hl hj he, rfl, flashBytes_sectorErased s j, rfl⟩
  case write =>
    obtain ⟨hslot, hbusy, hchans⟩ := slotShown_fields
      ((s.start tag).setFl fun f => { f with job := some { tag := tag, slot := c.p0, erase := false, did := 0 } }) c.p0
      (v := slotWriting) (by decide)
    exact ⟨s.writeBegun tag c.p0, exec_slotWrite hc hf ha ho, hslot, hbusy, hchans, only_slotShown _ _ _⟩
  case page =>
    exact ⟨fun hb l => ⟨s.pageRead j c, exec_pageProgramDone_ecc hj he hc hb l, only_pageRead s j c⟩,
      fun hb => ⟨s.pageDone j c, exec_pageProgramDone_good hj he hc hb, pageDone_job s j c, fun i => flashBytes_pageDone_inside s j c,
        fun b => flashBytes_pageDone_outside s j c, regsBut_pageDone s j c, pageDone_frame s j c⟩,
      fun l hb hl => ⟨s.pageFailed j c l, exec_pageProgramDone_torn hj he hc hb hl, fun b => flashBytes_pageFailed_outside s j c l,
        pageFailed_frame s j c l⟩⟩
  case verified =>
    exact ⟨_, exec_slotVerify_good hc hf hh hn, rd_wr_slotFld _ _ (by decide), only_wr (only_refl _ _)⟩
  case failed =>
    subst hn
    obtain ⟨hslot, hstep⟩ := slotFailedAt_fields s.flashRead c.p0 hlt
    exact ⟨_, exec_slotVerify_bad hc hf hh h0, hslot, hstep, only_slotFailedAt _ _ _⟩
  case present => exact ⟨_, exec_slotSwitch_present hc hf hl hk hv ha⟩
  case switch =>
    obtain ⟨hactive, hseq⟩ := switchedTo_fields s hp
    exact ⟨s.switchedTo c.p0, exec_slotSwitch hc hf hl hk hv ha, hactive, hseq, fun a => flashBytes_switchedTo s c.p0,
      regsBut_switchedTo s c.p0, switchedTo_frame s c.p0⟩
  case suspends =>
    refine ⟨?_, only_flashRead s⟩
    rw [flashRead_busy h]
    exact rd_bump s FLASH.SUSPENDS_COUNT 1
  case copy =>
    have hclean : s.flashRead.sramUe = [] := (sramUe_flashRead s).trans hu
    have hstored := sramStored_writeMem hclean c.p1 (s.flashBytes c.p0 c.p2)
    have hlen := length_flashBytes s c.p0 c.p2
    refine ⟨s.flashCopied c, exec_readToSram hc hf hh h hclean, fun i hi => ?_, fun a ha => ?_, hstored.regs, ?_⟩
    · refine (byte_writeMem_inside hclean c.p1 (hlen.symm ▸ hi)).trans ?_
      rw [getD_flashBytes s c.p0 hi]
      exact Nat.mod_eq_of_lt (BitVec.isLt _)
    · exact (byte_writeMem_outside hclean (hlen.symm ▸ ha)).trans ((only_flashRead s).2.2.1 .sram a)
    · exact hstored.rest_of_flashRead

end Sys2Proof.Machine
end

section
/-! PROOFS. LEDGER's records and sectors, its commands, and compaction. -/

namespace Sys2Proof.Machine

-- In parallel these proofs take more memory than the check allows.
set_option Elab.async false

/-! ### What the commit of records leaves as it was -/

/-- The fields that show how far records and sectors have come. -/
abbrev recordFlds : List Fld := [CORE.BG_LEDGER_SPREAD, LEDGER.SEQ_SEQ, LEDGER.OLDEST_SEQ, LEDGER.STAT_FREE_SECTORS]

/-- Records have been committed between `s` and `t`: beside LEDGER's own state and the fields that show it, only flash from the
ledger's region on has changed, and every counter reads as before. -/
structure RecordsWritten (s t : State) : Prop where
  rest : t = { s with regs := t.regs, led := t.led, flash := t.flash }
  regs : Safety.regsBut recordFlds s t
  below : ∀ a, a < s.ledgerBase → t.flashBytes a 1 = s.flashBytes a 1
  counters : ∀ k, k < 32 → t.counter k = s.counter k

theorem ledgerBase_congr {s t : State} (h : t.rd FLASH.STAT_SIZE_MIB = s.rd FLASH.STAT_SIZE_MIB) : t.ledgerBase = s.ledgerBase := by
  rw [State.ledgerBase, h, State.ledgerBase]

theorem sectorBase_congr {s t : State} (h : t.rd FLASH.STAT_SIZE_MIB = s.rd FLASH.STAT_SIZE_MIB) (k : Nat) :
    t.sectorBase k = s.sectorBase k := by
  rw [State.sectorBase, ledgerBase_congr h, State.sectorBase]

theorem counter_congr {s t : State} (ha : t.led.acc = s.led.acc) (hb : t.led.base = s.led.base) (k : Nat) : t.counter k = s.counter k := by
  rw [State.counter, ha, hb, State.counter]

namespace RecordsWritten

variable {s t u : State}

theorem refl (s : State) : RecordsWritten s s := ⟨rfl, fun _ _ => rfl, fun _ _ => rfl, fun _ _ => rfl⟩

theorem ledgerBase_eq (h : RecordsWritten s t) : t.ledgerBase = s.ledgerBase := ledgerBase_congr (h.regs FLASH.STAT_SIZE_MIB (by decide))

theorem trans (h : RecordsWritten s t) (k : RecordsWritten t u) : RecordsWritten s u where
  rest := by
    have hrest := k.rest
    rw [h.rest] at hrest
    exact hrest
  regs := regsBut_trans h.regs k.regs
  below a ha := (k.below a (by rwa [h.ledgerBase_eq])).trans (h.below a ha)
  counters n hn := (k.counters n hn).trans (h.counters n hn)

theorem of_setLed (s : State) (f : Ledger → Ledger) (h : ∀ k, k < 32 → (s.setLed f).counter k = s.counter k) :
    RecordsWritten s (s.setLed f) := ⟨rfl, fun _ _ => rfl, fun _ _ => rfl, h⟩


theorem of_only (h : Safety.only recordFlds s t) : RecordsWritten s t where
  rest := by rw [h.1]
  regs := h.2.1
  below a _ := h.2.2.2 a
  counters k _ := only_same h (·.counter k)

theorem setLed {f : Ledger → Ledger} (h : RecordsWritten s t) (ha : ∀ l, (f l).acc = l.acc := by intros; rfl)
    (hb : ∀ l, (f l).base = l.base := by intros; rfl) : RecordsWritten s (t.setLed f) :=
  h.trans (.of_setLed t f fun k _ => counter_congr (ha t.led) (hb t.led) k)

theorem flashProgram (s : State) {a : Nat} (h : s.ledgerBase ≤ a) (bs : List Nat) : RecordsWritten s (s.flashProgram a bs) where
  rest := by rw [flashProgram_frame]
  regs := regsBut_of_regs (regs_flashProgram s a bs)
  below b hb := flashBytes_program_outside s a bs (.inl (by omega))
  counters k _ := by rw [flashProgram_frame]; rfl

end RecordsWritten

theorem ledgerBase_le_sectorBase (s : State) (k : Nat) : s.ledgerBase ≤ s.sectorBase k := Nat.le_add_right _ _

/-! ### One record (R272) -/

theorem only_showSectors (s : State) : Safety.only [CORE.BG_LEDGER_SPREAD, LEDGER.STAT_FREE_SECTORS] s s.showSectors :=
  only_wr (only_wr (only_refl _ s))

theorem length_mkRecord (ty seq on : Nat) (payload : List Nat) : (mkRecord ty seq on payload).length = payload.length + 20 := by
  simp [mkRecord, length_leBytes]
  omega

/-- The SEQ of a record is shown, and as OLDEST where it is the first. -/
def State.seqShown (s : State) (seq : Nat) : State :=
  if (s.wr LEDGER.SEQ_SEQ seq).rd LEDGER.OLDEST_SEQ == 0 then (s.wr LEDGER.SEQ_SEQ seq).wr LEDGER.OLDEST_SEQ seq
  else s.wr LEDGER.SEQ_SEQ seq

theorem only_seqShown (s : State) (seq : Nat) : Safety.only [LEDGER.SEQ_SEQ, LEDGER.OLDEST_SEQ] s (s.seqShown seq) :=
  only_ite (only_wr (only_wr (only_refl _ s))) (only_wr (only_refl _ s))

theorem rd_seqShown (s : State) (seq : Nat) : (s.seqShown seq).rd LEDGER.SEQ_SEQ = seq % 2 ^ 32 := by
  unfold State.seqShown
  split
  · exact (State.rd_wr_apart _ _ _ _ (by decide)).trans (State.rd_wr s LEDGER.SEQ_SEQ seq)
  · exact State.rd_wr s LEDGER.SEQ_SEQ seq

/-- The bytes of the next record are behind the last one. -/
def State.recordStored (s : State) (ty on : Nat) (payload : List Nat) : State :=
  (s.flashProgram (s.sectorBase (s.led.sector.getD 0) + s.led.off) (mkRecord ty (s.rd LEDGER.SEQ_SEQ + 1) on payload)).setLed
    fun l => { l with off := l.off + payload.length + 20 }

/-- The next record is in the open sector. -/
def State.recordAdded (s : State) (ty on : Nat) (payload : List Nat) : State :=
  (s.recordStored ty on payload).seqShown (s.rd LEDGER.SEQ_SEQ + 1)

theorem commitRecord_eq (s : State) (ty on : Nat) (payload : List Nat) :
    s.commitRecord ty on payload = (s.roomFor (payload.length + 20)).map fun s => s.recordAdded ty on payload := by
  unfold State.commitRecord State.recordAdded State.seqShown State.recordStored
  rfl

section
variable (s : State) (ty on : Nat) (payload : List Nat)

theorem led_recordStored : (s.recordStored ty on payload).led = { s.led with off := s.led.off + payload.length + 20 } := by
  rw [State.recordStored, flashProgram_frame]
  rfl

theorem led_recordAdded : (s.recordAdded ty on payload).led = { s.led with off := s.led.off + payload.length + 20 } :=
  (only_same (only_seqShown _ _) State.led).trans (led_recordStored s ty on payload)

theorem flashBytes_recordAdded (b : Nat) : (s.recordAdded ty on payload).flashBytes b 1 =
    (s.flashProgram (s.sectorBase (s.led.sector.getD 0) + s.led.off)
      (mkRecord ty (s.rd LEDGER.SEQ_SEQ + 1) on payload)).flashBytes b 1 :=
  ((only_seqShown (s.recordStored ty on payload) (s.rd LEDGER.SEQ_SEQ + 1)).2.2.2 b).trans (flashBytes_congr State.setLed_flash b 1)

theorem regsBut_recordAdded : Safety.regsBut [LEDGER.SEQ_SEQ, LEDGER.OLDEST_SEQ] s (s.recordAdded ty on payload) :=
  regsBut_trans (t := s.recordStored ty on payload) (regsBut_of_regs (State.setLed_regs.trans (regs_flashProgram s _ _))) (only_seqShown _ _).2.1

theorem recordsWritten_recordAdded : RecordsWritten s (s.recordAdded ty on payload) := by
  have hstored : RecordsWritten s (s.recordStored ty on payload) :=
    .setLed (.flashProgram s ((ledgerBase_le_sectorBase s _).trans (Nat.le_add_right _ _)) _)
  exact hstored.trans (.of_only (only_mono (only_seqShown _ _) (by decide)))

end

theorem roomFor_open {s : State} {k len : Nat} (hs : s.led.sector = some k) (hl : s.led.off + len ≤ 0x10000) : s.roomFor len = some s := by
  simp [State.roomFor, hs, hl]

/-- The header of a sector that is opened, with its SSEQ and erase count (R271). -/
def sectorHeader (sseq erases : Nat) : List Nat :=
  let h := leBytes 4 sectorMagic ++ leBytes 4 sseq ++ leBytes 4 erases
  h ++ leBytes 4 (crc32 h)

/-- Sector `k` is open, and its header is written. -/
def State.sectorOpened (s : State) (k : Nat) : State :=
  (s.flashProgram (s.sectorBase k) (sectorHeader (s.led.sseq + 1) (s.led.erases.getD k 0))).setLed
    fun l => { l with sector := some k, sseq := s.led.sseq + 1, off := 16 }

theorem openSector_eq (s : State) : s.openSector = s.nextSector.map fun k => (s.sectorOpened k).showSectors := by
  unfold State.openSector State.sectorOpened sectorHeader
  rfl

theorem recordsWritten_openSector {s x : State} (h : s.openSector = some x) : RecordsWritten s x ∧
    x.led = { s.led with sector := x.led.sector, sseq := x.led.sseq, off := x.led.off } := by
  rw [openSector_eq] at h
  obtain ⟨k, -, rfl⟩ := Option.map_eq_some_iff.mp h
  have hopened : RecordsWritten s (s.sectorOpened k) := .setLed (.flashProgram s (ledgerBase_le_sectorBase s k) _)
  refine ⟨hopened.trans (.of_only (only_mono (only_showSectors _) (by decide))), ?_⟩
  rw [only_same (only_showSectors _) State.led, State.sectorOpened, flashProgram_frame]
  rfl

/-- A committed record changes nothing of LEDGER's state but where the next one goes. -/
theorem recordsWritten_commitRecord {s x : State} {ty on : Nat} {payload : List Nat} (h : s.commitRecord ty on payload = some x) :
    RecordsWritten s x ∧ x.led = { s.led with sector := x.led.sector, sseq := x.led.sseq, off := x.led.off } := by
  rw [commitRecord_eq] at h
  obtain ⟨y, hy, rfl⟩ := Option.map_eq_some_iff.mp h
  have hroom : RecordsWritten s y ∧ y.led = { s.led with sector := y.led.sector, sseq := y.led.sseq, off := y.led.off } := by
    unfold State.roomFor at hy
    split at hy
    · obtain rfl := Option.some.inj hy
      exact ⟨.refl s, rfl⟩
    · exact recordsWritten_openSector hy
  refine ⟨hroom.1.trans (recordsWritten_recordAdded y ty on payload), ?_⟩
  rw [led_recordAdded, hroom.2]

/-! ### The append buffer (R277) -/

theorem commitFirst_cons {s x : State} {r : LedBuf} {rest : List LedBuf} (hb : s.led.buf = r :: rest)
    (hx : s.commitRecord r.ty r.on r.payload = some x) : s.commitFirst = ({ x with led := { x.led with buf := rest } }, true) := by
  simp only [State.commitFirst, hb, hx]
  rfl

theorem commitFirst_full {s : State} {r : LedBuf} {rest : List LedBuf} (hb : s.led.buf = r :: rest)
    (hx : s.commitRecord r.ty r.on r.payload = none) : s.commitFirst = (s, false) := by
  simp only [State.commitFirst, hb, hx]

theorem recordsWritten_commitFirst (s : State) : RecordsWritten s s.commitFirst.1 := by
  cases hb : s.led.buf with
  | nil =>
    have hnone : s.commitFirst = (s, false) := by simp only [State.commitFirst, hb]
    rw [hnone]
    exact .refl s
  | cons r rest =>
    cases hx : s.commitRecord r.ty r.on r.payload with
    | none =>
      rw [commitFirst_full hb hx]
      exact .refl s
    | some x =>
      rw [commitFirst_cons hb hx]
      exact .setLed (f := fun l => { l with buf := rest }) (recordsWritten_commitRecord hx).1

theorem recordsWritten_commitBuffer (s : State) (n : Nat) : RecordsWritten s (s.commitBuffer n).1 := by
  induction n generalizing s with
  | zero => exact .refl s
  | succ n ih =>
    have hfirst := recordsWritten_commitFirst s
    rw [State.commitBuffer]
    generalize s.commitFirst = p at hfirst
    obtain ⟨y, b⟩ := p
    cases b with
    | false => exact hfirst
    | true => exact hfirst.trans (ih y)

/-! ### DELTA records (R276) -/

/-- `n` units of counter `k` go from its accumulator to its total. -/
def Ledger.unitsMoved (l : Ledger) (n : Nat → Nat) (k : Nat) : Ledger :=
  { l with acc := Store.set 0 l.acc k (Store.get 0 l.acc k - (n k : Rat)), base := Store.set 0 l.base k (Store.get 0 l.base k + n k) }

/-- Units of the first `m` counters go from their accumulators to their totals. -/
def Ledger.deltaMoved (l : Ledger) (n : Nat → Nat) (m : Nat) : Ledger := (List.range m).foldl (fun l k => l.unitsMoved n k) l

theorem deltaMoved_succ (l : Ledger) (n : Nat → Nat) (m : Nat) : l.deltaMoved n (m + 1) = (l.deltaMoved n m).unitsMoved n m := by
  simp [Ledger.deltaMoved, List.range_succ]

theorem get_deltaMoved_ge (l : Ledger) (n : Nat → Nat) {m k : Nat} (h : m ≤ k) :
    Store.get 0 (l.deltaMoved n m).base k = Store.get 0 l.base k ∧ Store.get 0 (l.deltaMoved n m).acc k = Store.get 0 l.acc k := by
  induction m with
  | zero => exact ⟨rfl, rfl⟩
  | succ m ih =>
    obtain ⟨hbase, hacc⟩ := ih (by omega)
    rw [deltaMoved_succ, Ledger.unitsMoved, Store.get_set_ne _ _ _ (by omega), Store.get_set_ne _ _ _ (by omega)]
    exact ⟨hbase, hacc⟩

theorem get_deltaMoved_lt (l : Ledger) (n : Nat → Nat) {m k : Nat} (h : k < m) :
    Store.get 0 (l.deltaMoved n m).base k = Store.get 0 l.base k + n k ∧
      Store.get 0 (l.deltaMoved n m).acc k = Store.get 0 l.acc k - (n k : Rat) := by
  induction m with
  | zero => omega
  | succ m ih =>
    rw [deltaMoved_succ, Ledger.unitsMoved]
    rcases Nat.lt_succ_iff_lt_or_eq.mp h with hlt | rfl
    · rw [Store.get_set_ne _ _ _ (by omega), Store.get_set_ne _ _ _ (by omega)]
      exact ih hlt
    · obtain ⟨hbase, hacc⟩ := get_deltaMoved_ge l n (Nat.le_refl k)
      rw [Store.get_set_same, Store.get_set_same, hbase, hacc]
      exact ⟨rfl, rfl⟩

/-- What a DELTA record written now holds of counter `k`. -/
def State.deltaUnits (s : State) (k : Nat) : Nat := ((List.range 32).map s.deltaOf).getD k 0

theorem deltaUnits_eq (s : State) {k : Nat} (h : k < 32) : s.deltaUnits k = s.deltaOf k := by simp [State.deltaUnits, h]

theorem foldl_setLed (s : State) (n : Nat → Nat) (m : Nat) :
    (List.range m).foldl (fun (s : State) k => s.setLed fun l => l.unitsMoved n k) s = s.setLed fun l => l.deltaMoved n m := by
  induction m with
  | zero => rfl
  | succ m ih =>
    rw [List.range_succ, List.foldl_append, ih]
    simp only [List.foldl_cons, List.foldl_nil, State.setLed, deltaMoved_succ]

/-- Whole units that move from an accumulator to its total leave the counter as it was. -/
theorem counter_unitsMoved {b n : Nat} {q : Rat} (h : n ≤ q.floor.toNat) : b + n + (q - (n : Rat)).floor.toNat = b + q.floor.toNat := by
  have hfloor : (q - (n : Rat)).floor = q.floor - n := Int.floor_sub_natCast q n
  rw [hfloor]
  omega

theorem counter_deltaMoved (l : Ledger) (n : Nat → Nat) {m k : Nat} (h : k < m) (hn : n k ≤ (Store.get 0 l.acc k).floor.toNat) :
    Store.get 0 (l.deltaMoved n m).base k + (Store.get 0 (l.deltaMoved n m).acc k).floor.toNat =
      Store.get 0 l.base k + (Store.get 0 l.acc k).floor.toNat := by
  obtain ⟨hbase, hacc⟩ := get_deltaMoved_lt l n h
  rw [hbase, hacc]
  exact counter_unitsMoved hn

/-- The DELTA record is committed, and what it holds counts among the totals. -/
theorem commitDelta_some {s x : State} (h : s.commitRecord 1 s.onSeconds (counterSet s.deltaUnits) = some x) :
    s.commitDelta = ((x.setLed fun l => { l with changed := false }).setLed fun l => l.deltaMoved s.deltaUnits 32, true) := by
  rw [← foldl_setLed]
  unfold State.deltaUnits at h ⊢
  simp only [State.commitDelta, h]
  rfl

theorem commitDelta_none {s : State} (h : s.commitRecord 1 s.onSeconds (counterSet s.deltaUnits) = none) :
    s.commitDelta = (s, false) := by
  unfold State.deltaUnits at h
  simp only [State.commitDelta, h]

/-- A DELTA record leaves every counter as it was, and adds what it holds to the totals. -/
theorem commitDelta_spec (s : State) : RecordsWritten s s.commitDelta.1 ∧ (s.commitDelta.2 = true → ∀ k, k < 32 →
    Store.get 0 s.commitDelta.1.led.base k = Store.get 0 s.led.base k + s.deltaOf k) := by
  cases h : s.commitRecord 1 s.onSeconds (counterSet s.deltaUnits) with
  | none =>
    rw [commitDelta_none h]
    exact ⟨.refl s, nofun⟩
  | some x =>
    obtain ⟨hwritten, hled⟩ := recordsWritten_commitRecord h
    have hacc : x.led.acc = s.led.acc := by rw [hled]
    have hbase : x.led.base = s.led.base := by rw [hled]
    rw [commitDelta_some h]
    dsimp only
    refine ⟨(hwritten.setLed (f := fun l => { l with changed := false })).trans (.of_setLed _ _ fun k hk => ?_), fun _ k hk => ?_⟩
    · refine counter_deltaMoved { x.led with changed := false } _ hk ?_
      rw [deltaUnits_eq s hk, hacc]
      exact Nat.min_le_left _ _
    · rw [← deltaUnits_eq s hk, ← hbase]
      exact (get_deltaMoved_lt { x.led with changed := false } _ hk).1

end Sys2Proof.Machine
end

section
/-! PROOFS. LEDGER's commands, the commits that fall due, and compaction. -/

namespace Sys2Proof.Machine

-- In parallel these proofs take more memory than the check allows.
set_option Elab.async false

/-! ### READ_COUNTERS and EXPORT (R279) -/

theorem length_counterSet (f : Nat → Nat) : (counterSet f).length = 128 := by
  have hlengths : ((List.range 32).map fun k => (counterAt k).2).sum + 18 = 128 := by decide
  simpa [counterSet, List.length_flatMap, length_leBytes] using hlengths

theorem length_takeWhole_le (n : Nat) (l : List (List Nat)) : (takeWhole n l).flatten.length ≤ n := by
  induction l generalizing n with
  | nil => exact Nat.zero_le n
  | cons r rs ih =>
    rw [takeWhole]
    split
    · have := ih (n - r.length)
      rw [List.flatten_cons, List.length_append]
      omega
    · exact Nat.zero_le n

/-! What the records of the region rest on is flash and its size. -/
section
variable {s t : State} (hf : t.flash = s.flash) (hr : t.rd FLASH.STAT_SIZE_MIB = s.rd FLASH.STAT_SIZE_MIB)
include hf

theorem walkSector_congr (b n off : Nat) (acc : List (List Nat)) : t.walkSector b n off acc = s.walkSector b n off acc := by
  induction n generalizing off acc with
  | zero => rfl
  | succ n ih => simp only [State.walkSector, flashBytes_congr hf, ih]

include hr

theorem sectorHead_congr (k : Nat) : t.sectorHead k = s.sectorHead k := by
  simp only [State.sectorHead, sectorBase_congr hr, flashBytes_congr hf]

theorem ledgerRecords_congr : t.ledgerRecords = s.ledgerRecords := by
  simp only [State.ledgerRecords, State.usedSectors, State.sectorRecords, sectorHead_congr hf hr, walkSector_congr hf,
    sectorBase_congr hr]

end

theorem ledgerRecords_flashRead (s : State) : s.flashRead.ledgerRecords = s.ledgerRecords :=
  ledgerRecords_congr (only_same (only_flashRead s) State.flash) (rd_flashRead (by decide))

theorem mayWrite_flashRead (s : State) (r : Rod) (a n : Nat) : s.flashRead.mayWrite r a n = s.mayWrite r a n :=
  mayWrite_congr (fun _ hn => bankOwner_congr (only_flashRead s).2.1 (only_same (only_flashRead s) State.part)
    (by decide) hn) r a n

/-- The records that an EXPORT asks for, and those of them that fit. -/
def State.exportWanted (s : State) (c : Cmd) : List (List Nat) := s.ledgerRecords.filter fun r => c.p0 ≤ u32 r 4
def State.exportTaken (s : State) (c : Cmd) : List (List Nat) := takeWhole c.p2 (s.exportWanted c)

section
variable {tag : Fin 64} {s : State} {c : Cmd} (hc : s.cmd? tag = some c) (hu : s.sramUe = [])
include hc hu

theorem exec_readCounters (hs : s.mayStart c 0xF0 .ledger = true) (hw : s.mayWrite .ledger c.p0 128 = true) :
    exec (.readCounters tag) s = .next
      ((s.writeMem .sram c.p0 (counterSet s.counter)).complete tag stOK s.onSeconds (s.rd LEDGER.SEQ_SEQ)).settle := by
  have hstored := sramStored_writeMem hu c.p0 (counterSet s.counter)
  have hon : (s.writeMem .sram c.p0 (counterSet s.counter)).onSeconds = s.onSeconds := by
    rw [hstored.rest]
    rfl
  have hseq := hstored.regs LEDGER.SEQ_SEQ (by decide)
  show execReadCounters tag s = _
  simp [execReadCounters, hc, hs, hw, writeBad_clean hu, hon, hseq]

theorem exec_exportRecords (hs : s.mayStart c 0xF2 .ledger = true) (hh : s.flashHeld = false)
    (hw : s.mayWrite .ledger c.p1 (s.exportTaken c).flatten.length = true) :
    exec (.exportRecords tag) s = .next ((s.flashRead.writeMem .sram c.p1 (s.exportTaken c).flatten).complete tag stOK
      (s.exportTaken c).flatten.length
      ((((s.exportWanted c).drop (s.exportTaken c).length).head?.map fun r => u32 r 4).getD 0)).settle := by
  have hclean : s.flashRead.sramUe = [] := (sramUe_flashRead s).trans hu
  unfold State.exportTaken State.exportWanted at hw ⊢
  show execExportRecords tag s = _
  simp only [execExportRecords, hc, hs, hh, ledgerRecords_flashRead, mayWrite_flashRead, hw, writeBad_clean hclean, Bool.not_false,
    Bool.and_self, Bool.not_true, Bool.false_eq_true, if_true, if_false]

end

/-! ### The commits that are asked for and those that fall due (R277, R279, R297) -/

/-- The append buffer is committed, and then the accumulators where one has changed. -/
def State.allCommitted (s : State) : State :=
  let y := (s.commitBuffer (appendRoom + 1)).1
  if y.led.changed then y.commitDelta.1 else y

theorem recordsWritten_allCommitted (s : State) : RecordsWritten s s.allCommitted := by
  have hbuffer := recordsWritten_commitBuffer s (appendRoom + 1)
  unfold State.allCommitted
  dsimp only
  split
  · exact hbuffer.trans (commitDelta_spec _).1
  · exact hbuffer

theorem exec_commitNow {tag : Fin 64} {s : State} {c : Cmd} (hc : s.cmd? tag = some c) (hs : s.mayStart c 0xF1 .ledger = true)
    (hn : s.led.compact = none) :
    let y := (s.commitBuffer (appendRoom + 1)).1
    exec (.commitNow tag) s = .next (s.allCommitted.complete tag stOK
      ((s.commitBuffer (appendRoom + 1)).2 + bit (y.led.changed && y.commitDelta.2)) (s.allCommitted.rd LEDGER.SEQ_SEQ)).settle := by
  intro y
  show execCommitNow tag s = _
  cases hy : y.led.changed <;> simp [execCommitNow, State.allCommitted, hc, hs, hn, hy, y]

section
variable {s : State} (ho : s.ledgerOn = true)
include ho

theorem exec_ledgerCommit (hn : s.led.compact = none) : exec .ledgerCommit s = .next s.commitFirst.1 := by
  show execLedgerCommit s = _
  cases hb : s.led.buf with
  | nil => simp [execLedgerCommit, State.commitFirst, hb]
  | cons r rest => simp [execLedgerCommit, ho, hn, hb]

theorem exec_ledgerCommit_compacting (hb : s.led.buf ≠ []) (hn : s.led.compact ≠ none) :
    exec .ledgerCommit s = .next (if s.flashHeld then s else s.flashRead.commitFirst.1) := by
  show execLedgerCommit s = _
  simp only [execLedgerCommit, ho, List.isEmpty_eq_false_iff.mpr hb, Option.isNone_eq_false_iff.mpr (Option.isSome_iff_ne_none.mpr hn),
    Bool.not_false, Bool.and_self, Bool.false_eq_true, if_true, if_false]
  split <;> rfl

theorem exec_deltaCommit (hc : s.led.changed = true) (hn : s.led.compact = none) : exec .deltaCommit s = .next s.commitDelta.1 := by
  show execDeltaCommit s = _
  simp [execDeltaCommit, ho, hc, hn]

omit ho in
theorem exec_deltaCommit_idle (h : s.led.changed = false ∨ s.led.compact ≠ none) : exec .deltaCommit s = .next s := by
  show execDeltaCommit s = _
  rcases h with h | h <;> simp [execDeltaCommit, h]

/-- The buffer is committed before a compaction, and then a SNAPSHOT of the totals. -/
def State.snapshotTaken (s : State) : State :=
  let y := (s.commitBuffer (appendRoom + 1)).1
  (y.commitRecord 2 y.onSeconds (counterSet fun k => Store.get 0 y.led.base k)).getD y

theorem exec_ledgerCompaction (hm : s.rd LEDGER.STAT_MOUNTED = 1) (hf : s.freeSectors.length ≤ 2) (hn : s.led.compact = none) :
    exec .ledgerCompaction s = .next (s.snapshotTaken.compactNext false) := by
  show execLedgerCompaction s = _
  simp [execLedgerCompaction, State.snapshotTaken, ho, flag_of_rd_one hm, hf, hn]

end

theorem recordsWritten_snapshotTaken (s : State) : RecordsWritten s s.snapshotTaken := by
  have hbuffer := recordsWritten_commitBuffer s (appendRoom + 1)
  unfold State.snapshotTaken
  dsimp only
  generalize (s.commitBuffer (appendRoom + 1)).1 = y at hbuffer
  cases hx : y.commitRecord 2 y.onSeconds (counterSet fun k => Store.get 0 y.led.base k) with
  | none => exact hbuffer
  | some x => exact hbuffer.trans (recordsWritten_commitRecord hx).1

/-! ### The erase of a sector ends (R295, R296) -/

/-- A sector of LEDGER has been erased and counted. -/
def State.ledgerErased (s : State) (k : Nat) : State :=
  ((s.flashErase (s.sectorBase k) 0x10000).setLed fun l => { l with erases := l.erases.modify k (· + 1) }).showSectors

theorem exec_sectorEraseDone_ledger {s : State} {v : Compaction} (h : s.led.compact = some v) :
    exec .sectorEraseDone s = .next ((s.ledgerErased v.sector).compactNext v.oldest) := by
  show execSectorEraseDone s = _
  simp only [execSectorEraseDone, h]
  rfl

theorem only_ledgerErased (s : State) (k : Nat) : Safety.only [CORE.BG_LEDGER_SPREAD, LEDGER.STAT_FREE_SECTORS]
    ((s.flashErase (s.sectorBase k) 0x10000).setLed fun l => { l with erases := l.erases.modify k (· + 1) }) (s.ledgerErased k) :=
  only_showSectors _

theorem flashBytes_ledgerErased (s : State) (k b : Nat) : (s.ledgerErased k).flashBytes b 1 =
    if s.sectorBase k ≤ b ∧ b < s.sectorBase k + 0x10000 then [0xFF] else s.flashBytes b 1 :=
  ((only_ledgerErased s k).2.2.2 b).trans ((flashBytes_congr State.setLed_flash b 1).trans (flashBytes_erase s _ _ b))

theorem led_ledgerErased (s : State) (k : Nat) : (s.ledgerErased k).led = { s.led with erases := s.led.erases.modify k (· + 1) } :=
  only_same (only_ledgerErased s k) State.led

theorem ledgerErased_frame (s : State) (k : Nat) : s.ledgerErased k =
    { s with regs := (s.ledgerErased k).regs, led := (s.ledgerErased k).led, flash := (s.ledgerErased k).flash } := by
  rw [(only_ledgerErased s k).1]
  rfl

/-! ### The next erase of a compaction (R295) -/

/-- The first sector with an invalid header that is not free. -/
def State.brokenSector (s : State) : Option Nat := (List.range 16).find? fun k => (s.sectorHead k).isNone && !s.sectorFree k

/-- The erase that comes next: of a broken sector, or of the oldest one but the open one. -/
def State.nextErase (s : State) (oldest : Bool) : Option Compaction :=
  match s.brokenSector with
  | some k => some { sector := k, oldest := oldest }
  | none => if oldest && 4 ≤ s.freeSectors.length then none
    else (s.usedSectors.filter fun p => some p.2 != s.led.sector).head?.map fun p => { sector := p.2, oldest := true }

/-- The compaction is over. -/
def State.compactEnded (s : State) : State :=
  (s.setLed fun l => { l with compact := none }).flashBusy.bump CORE.BG_LEDGER_COMPACTIONS

/-- OLDEST follows where an oldest sector is taken. -/
def State.oldestShown (s : State) (k : Nat) : State :=
  if s.brokenSector.isSome then s else
    s.wr LEDGER.OLDEST_SEQ
      ((((s.usedSectors.filter fun p => p.2 != k).flatMap fun p => s.sectorRecords p.2).head?.map fun r => u32 r 4).getD 0)

/-- The header of sector `k` is gone. -/
def State.headerCleared (s : State) (k : Nat) : State := s.flashProgram (s.sectorBase k) (List.replicate 16 0)

/-- An erase of the compaction has begun. -/
def State.eraseStarted (s : State) (v : Compaction) : State :=
  (((s.oldestShown v.sector).headerCleared v.sector).setLed fun l => { l with compact := some v }).flashBusy

theorem compactNext_eq (s : State) (o : Bool) : s.compactNext o = (s.nextErase o).elim s.compactEnded s.eraseStarted := by
  unfold State.compactNext State.nextErase State.compactEnded State.eraseStarted State.headerCleared State.oldestShown State.brokenSector
  dsimp only
  generalize List.find? _ _ = broken
  cases broken with
  | some k => rfl
  | none =>
    dsimp only
    split
    next h =>
      rw [h]
      rfl
    next v h =>
      rw [h]
      rfl

theorem usedSectors_lt {s : State} {p : Nat × Nat} (h : p ∈ s.usedSectors) : p.2 < 16 := by
  obtain ⟨k, hk, hp⟩ := List.mem_filterMap.mp ((List.mergeSort_perm _ _).mem_iff.mp h)
  obtain ⟨q, -, rfl⟩ := Option.map_eq_some_iff.mp hp
  exact List.mem_range.mp hk

theorem brokenSector_some {s : State} {k : Nat} (h : s.brokenSector = some k) :
    k < 16 ∧ s.sectorHead k = none ∧ s.sectorFree k = false := by
  refine ⟨List.mem_range.mp (List.mem_of_find?_eq_some h), ?_⟩
  simpa using List.find?_some h

/-- Once an oldest sector has been erased and four are free, only broken sectors are left to erase. -/
theorem nextErase_some {s : State} {o : Bool} {v : Compaction} (h : s.nextErase o = some v) : v.sector < 16 ∧
    (o = true → 4 ≤ s.freeSectors.length → s.sectorHead v.sector = none ∧ s.sectorFree v.sector = false) := by
  unfold State.nextErase at h
  split at h
  next k hk =>
    obtain ⟨hlt, hbroken⟩ := brokenSector_some hk
    obtain rfl := Option.some.inj h
    exact ⟨hlt, fun _ _ => hbroken⟩
  next =>
    split at h
    · exact absurd h (by simp)
    next hmore =>
      obtain ⟨p, hp, rfl⟩ := Option.map_eq_some_iff.mp h
      exact ⟨usedSectors_lt (List.mem_filter.mp (List.mem_of_mem_head? hp)).1, fun ho hfree => absurd (by simp [ho, hfree]) hmore⟩

theorem led_flashBusy (s : State) : s.flashBusy.led = s.led := by rw [flashBusy_frame]

theorem flash_flashBusy (s : State) : s.flashBusy.flash = s.flash := by rw [flashBusy_frame]

theorem regsBut_flashBusy (s : State) (f : Ledger → Ledger) : Safety.regsBut [FLASH.STAT_BUSY] s (s.setLed f).flashBusy :=
  (only_flashBusy (w := [FLASH.STAT_BUSY]) (only_refl _ (s.setLed f))).2.1

theorem RegsFlash.flashBusy_setLed {s t : State} (h : RegsFlash s t) (f : Ledger → Ledger) : (t.setLed f).flashBusy = { s with
    regs := (t.setLed f).flashBusy.regs, led := (t.setLed f).flashBusy.led, flash := (t.setLed f).flashBusy.flash,
    chans := (t.setLed f).flashBusy.chans } := by
  have hled : t.setLed f = { s with regs := t.regs, led := (t.setLed f).led, flash := t.flash } := by
    rw [RegsFlash] at h
    rw [h]
    rfl
  have hbusy := flashBusy_frame (t.setLed f)
  generalize (t.setLed f).flashBusy = x at hbusy ⊢
  rw [hled] at hbusy
  rw [hbusy]

/-! The end of a compaction. -/
section
variable (s : State)

theorem led_compactEnded : s.compactEnded.led = { s.led with compact := none } := led_flashBusy _

theorem rd_compactEnded : s.compactEnded.rd CORE.BG_LEDGER_COMPACTIONS = satAdd 65535 (s.rd CORE.BG_LEDGER_COMPACTIONS) 1 ∧
    s.compactEnded.rd FLASH.STAT_BUSY = bit s.fl.job.isSome := by
  constructor
  · refine (rd_bump _ CORE.BG_LEDGER_COMPACTIONS 1).trans ?_
    rw [rd_flashBusy_apart _ (by decide)]
    rfl
  · refine (rd_bump_apart _ _ _ _ (by decide)).trans ((rd_flashBusy _).trans ?_)
    exact congrArg bit (Bool.or_false _)

theorem only_compactEnded : Safety.only [CORE.BG_LEDGER_COMPACTIONS, FLASH.STAT_BUSY]
    { s with led := s.compactEnded.led, chans := s.compactEnded.chans } s.compactEnded := by
  have honly : Safety.only [CORE.BG_LEDGER_COMPACTIONS, FLASH.STAT_BUSY] _ s.compactEnded :=
    only_bump (only_flashBusy (only_refl _ (s.setLed fun l => { l with compact := none })))
  rw [led_compactEnded]
  exact honly

end

/-! The start of an erase. -/
section
variable (s : State) (v : Compaction)

theorem only_oldestShown (k : Nat) : Safety.only [LEDGER.OLDEST_SEQ] s (s.oldestShown k) := only_ite (only_refl _ s) (only_wr (only_refl _ s))

/-- A sector whose header is cleared has no valid header. -/
theorem sectorHead_headerCleared (k : Nat) : (s.headerCleared k).sectorHead k = none := by
  have hbase : (s.headerCleared k).sectorBase k = s.sectorBase k :=
    sectorBase_congr (regsBut_of_regs (w := []) (regs_flashProgram s _ _) FLASH.STAT_SIZE_MIB (by simp)) k
  have hzero : (s.headerCleared k).flashBytes (s.sectorBase k) 16 = List.replicate 16 0 := by
    refine List.eq_replicate_iff.mpr ⟨length_flashBytes _ _ _, fun b hb => ?_⟩
    rw [flashBytes_eq_map] at hb
    obtain ⟨i, hi, rfl⟩ := List.mem_map.mp hb
    have hlt : i < 16 := List.mem_range.mp hi
    have hbyte := flashBytes_program_inside s (s.sectorBase k) (List.replicate 16 0) (i := i) (by simpa using hlt)
    rw [List.getD_replicate _ hlt, Nat.and_zero] at hbyte
    exact List.head_eq_of_cons_eq hbyte
  simp only [State.sectorHead, hbase, hzero]
  rw [if_neg (by decide)]

theorem led_eraseStarted : (s.eraseStarted v).led = { s.led with compact := some v } := by
  rw [State.eraseStarted, led_flashBusy, State.setLed, State.headerCleared, flashProgram_frame]
  rw [only_same (only_oldestShown s v.sector) State.led]

theorem flash_eraseStarted : (s.eraseStarted v).flash = ((s.oldestShown v.sector).headerCleared v.sector).flash :=
  (flash_flashBusy _).trans State.setLed_flash

theorem rd_eraseStarted : (s.eraseStarted v).rd FLASH.STAT_BUSY = 1 := by
  refine (rd_flashBusy _).trans ?_
  exact congrArg bit (Bool.or_true _)

theorem sectorHead_eraseStarted : (s.eraseStarted v).sectorHead v.sector = none :=
  (sectorHead_congr (flash_eraseStarted s v) (regsBut_flashBusy _ _ FLASH.STAT_SIZE_MIB (by decide)) v.sector).trans (sectorHead_headerCleared _ _)

theorem flashBytes_eraseStarted {b : Nat} (h : b < s.sectorBase v.sector ∨ s.sectorBase v.sector + 16 ≤ b) :
    (s.eraseStarted v).flashBytes b 1 = s.flashBytes b 1 := by
  have hbase : (s.oldestShown v.sector).sectorBase v.sector = s.sectorBase v.sector :=
    sectorBase_congr ((only_oldestShown s v.sector).2.1 _ (by decide)) v.sector
  rw [flashBytes_congr (flash_eraseStarted s v), State.headerCleared, hbase]
  exact (flashBytes_program_outside _ _ _ h).trans ((only_oldestShown s v.sector).2.2.2 b)

theorem regsFlash_headerCleared (k : Nat) : RegsFlash s ((s.oldestShown k).headerCleared k) := by
  have hshown := (only_oldestShown s k).1
  have hcleared := flashProgram_frame (s.oldestShown k) ((s.oldestShown k).sectorBase k) (List.replicate 16 0)
  unfold RegsFlash State.headerCleared
  rw [hshown] at hcleared ⊢
  exact hcleared

theorem regsBut_eraseStarted : Safety.regsBut [LEDGER.OLDEST_SEQ, FLASH.STAT_BUSY] s (s.eraseStarted v) := by
  have hshown : Safety.regsBut [LEDGER.OLDEST_SEQ, FLASH.STAT_BUSY] s (s.oldestShown v.sector) :=
    regsBut_mono (only_oldestShown s v.sector).2.1 (by simp)
  have hcleared := regsBut_trans hshown (regsBut_of_regs (regs_flashProgram _ ((s.oldestShown v.sector).sectorBase v.sector) (List.replicate 16 0)))
  exact regsBut_trans hcleared (regsBut_mono (regsBut_flashBusy _ _) (by simp))

theorem eraseStarted_frame : s.eraseStarted v = { s with
    regs := (s.eraseStarted v).regs, led := (s.eraseStarted v).led, flash := (s.eraseStarted v).flash,
    chans := (s.eraseStarted v).chans } := (regsFlash_headerCleared s v.sector).flashBusy_setLed _

end

/-! ### The statement -/

/-- A record that fits in the open sector takes the next SEQ and the bytes behind the last record (R272). -/
theorem commitRecord_open {s : State} {k : Nat} {payload : List Nat} (ty on : Nat) (hs : s.led.sector = some k)
    (hl : s.led.off + payload.length + 20 ≤ 0x10000) :
    s.commitRecord ty on payload = some (s.recordAdded ty on payload) := by
  rw [commitRecord_eq, roomFor_open hs (by omega), Option.map_some]

theorem flashBytes_recordAdded_open {s : State} {k : Nat} (ty on : Nat) (payload : List Nat) (hs : s.led.sector = some k) (b : Nat) :
    (s.recordAdded ty on payload).flashBytes b 1 =
      (s.flashProgram (s.sectorBase k + s.led.off) (mkRecord ty (s.rd LEDGER.SEQ_SEQ + 1) on payload)).flashBytes b 1 := by
  rw [flashBytes_recordAdded, hs, Option.getD_some]

theorem recordAdded_frame (s : State) (ty on : Nat) (payload : List Nat) : s.recordAdded ty on payload =
    { s with regs := (s.recordAdded ty on payload).regs, led := (s.recordAdded ty on payload).led,
             flash := (s.recordAdded ty on payload).flash } := (recordsWritten_recordAdded s ty on payload).rest

/-- Settles O25: each command and each event by the equation of its case; that records change no counter and nothing below the
region is `RecordsWritten`, kept by every commit. -/
theorem ledger : Obligations.Ledger := by
  refine ⟨⟨fun s ty on k payload hs hl => ?record, fun s hd k hk => ?delta⟩,
    fun tag s c hc hs hw hu => ?readCounters, fun tag s c hc hs hh hu => ?exportRecords, fun tag s c hc hs hn => ?commitNow,
    fun s => exec_ledgerCommit, fun s => exec_ledgerCommit_compacting, fun s x r rest => commitFirst_cons,
    fun s ho => ⟨exec_deltaCommit ho, exec_deltaCommit_idle⟩, fun s ho hm hf hn => ?compaction, fun s v hv => ?erased,
    fun s o => ⟨s.compactNext o, rfl, ?next⟩⟩
  case record =>
    intro r a
    refine ⟨s.recordAdded ty on payload, commitRecord_open ty on hs hl, rd_seqShown _ _, led_recordAdded s ty on payload,
      length_mkRecord ty _ on payload, fun i hi => ?_, fun b hb => ?_, regsBut_recordAdded s ty on payload, recordAdded_frame s ty on payload⟩
    · exact (flashBytes_recordAdded_open ty on payload hs _).trans (flashBytes_program_inside s a r hi)
    · exact (flashBytes_recordAdded_open ty on payload hs b).trans (flashBytes_program_outside s a r hb)
  case delta =>
    obtain ⟨hwritten, hbase⟩ := commitDelta_spec s
    exact ⟨hwritten.counters k hk, hbase hd k hk⟩
  case readCounters =>
    have hstored := sramStored_writeMem hu c.p0 (counterSet s.counter)
    have hlen := length_counterSet s.counter
    exact ⟨_, exec_readCounters hc hu hs hw, fun i hi => byte_writeMem_inside hu c.p0 (by omega),
      fun a ha => byte_writeMem_outside hu (by omega), hstored.regs, hstored.rest⟩
  case exportRecords =>
    intro want out hw
    have hclean : s.flashRead.sramUe = [] := (sramUe_flashRead s).trans hu
    have hstored := sramStored_writeMem hclean c.p1 out.flatten
    exact ⟨_, exec_exportRecords hc hu hs hh hw, length_takeWhole_le _ _, fun i => byte_writeMem_inside hclean c.p1,
      fun a ha => (byte_writeMem_outside hclean ha).trans ((only_flashRead s).2.2.1 .sram a), hstored.regs, hstored.rest_of_flashRead⟩
  case commitNow =>
    have hwritten := recordsWritten_allCommitted s
    exact ⟨exec_commitNow hc hs hn, hwritten.counters, hwritten.below⟩
  case compaction =>
    have hwritten := recordsWritten_snapshotTaken s
    exact ⟨exec_ledgerCompaction ho hm hf hn, hwritten.counters, hwritten.below, hwritten.regs, hwritten.rest⟩
  case erased =>
    refine ⟨s.ledgerErased v.sector, exec_sectorEraseDone_ledger hv, flashBytes_ledgerErased s v.sector, led_ledgerErased s v.sector,
      ?_, ledgerErased_frame s v.sector⟩
    exact regsBut_trans (t := (s.flashErase (s.sectorBase v.sector) 0x10000).setLed _) (fun _ _ => rfl) (only_ledgerErased s v.sector).2.1
  case next =>
    rw [compactNext_eq]
    cases hnext : s.nextErase o with
    | none =>
      rw [Option.elim_none]
      obtain ⟨hcount, hbusy⟩ := rd_compactEnded s
      have hled := led_compactEnded s
      exact ⟨by rw [hled], fun _ => ⟨hcount, hbusy, only_compactEnded s⟩, fun v hv => absurd hv (by simp [hled])⟩
    | some u =>
      rw [Option.elim_some]
      obtain ⟨hlt, hbroken⟩ := nextErase_some hnext
      have hled := led_eraseStarted s u
      refine ⟨by rw [hled], fun hnone => absurd hnone (by simp [hled]), fun v hv => ?_⟩
      rw [hled] at hv
      obtain rfl := Option.some.inj hv
      exact ⟨hlt, sectorHead_eraseStarted s u, rd_eraseStarted s u, hbroken, fun b => flashBytes_eraseStarted s u,
        regsBut_eraseStarted s u, eraseStarted_frame s u⟩

end Sys2Proof.Machine
end

section
/-! PROOFS. Calibration of the FRC and of the ADC, its doorbells, and the floor of background work. -/

namespace Sys2Proof.Machine

-- In parallel these proofs take more memory than the check allows.
set_option Elab.async false

/-! ### Signed fields -/

theorem ofBits_toBits {w : Nat} {i : Int} (hlo : -(2 ^ w : Int) ≤ 2 * i) (hhi : 2 * i < 2 ^ w) : ofBits w (toBits w i) = i := by
  have hpos : (0 : Int) < 2 ^ w := by positivity
  have hnat : (toBits w i : Int) = i % 2 ^ w := Int.toNat_of_nonneg (Int.emod_nonneg _ hpos.ne')
  have hlt : toBits w i < 2 ^ w := by
    have := Int.emod_lt_of_pos i hpos
    zify
    omega
  unfold ofBits
  rw [Nat.mod_eq_of_lt hlt]
  have hcast : ((2 ^ w : Nat) : Int) = 2 ^ w := by push_cast; rfl
  rcases Int.le_total 0 i with h | h
  · rw [Int.emod_eq_of_lt h (by omega)] at hnat
    rw [if_pos (by omega), hnat]
  · rcases Int.lt_or_eq_of_le h with h | rfl
    · have hmod : i % 2 ^ w = i + 2 ^ w := by
        rw [← Int.add_emod_right, Int.emod_eq_of_lt (by omega) (by omega)]
      rw [if_neg (by omega), hnat, hmod]
      omega
    · simp [toBits]

/-- A signed field reads the value written to it where it fits. -/
theorem rdI_wrI (s : State) {f : Fld} {v : Int} (hlo : -(2 ^ f.wid : Int) ≤ 2 * v) (hhi : 2 * v < 2 ^ f.wid)
    (h : f.lo + f.wid ≤ 32 := by decide) : (s.wrI f v).rdI f = v := by
  have hbits : (s.wrI f v).rd f = toBits f.wid v % 2 ^ f.wid := State.rd_wr s f _ h
  have hmod : ofBits f.wid (toBits f.wid v % 2 ^ f.wid) = ofBits f.wid (toBits f.wid v) := by
    simp only [ofBits, Nat.mod_mod]
  rw [State.rdI, hbits, hmod, ofBits_toBits hlo hhi]

theorem rdI_congr {s t : State} {f : Fld} (h : t.rd f = s.rd f) : t.rdI f = s.rdI f := by rw [State.rdI, State.rdI, h]

theorem clampInt_bounds {lo hi : Int} (h : lo ≤ hi) (v : Int) : lo ≤ clampInt lo hi v ∧ clampInt lo hi v ≤ hi := by
  unfold clampInt
  omega

theorem clampInt_eq {lo hi v : Int} (hlo : lo ≤ v) (hhi : v ≤ hi) : clampInt lo hi v = v := by
  unfold clampInt
  omega

theorem only_setBg {w : List Fld} {s t : State} (f : Bg → Bg) (h : Safety.only w s t) : Safety.only w (s.setBg f) (t.setBg f) := by
  refine ⟨?_, h.2⟩
  rw [State.setBg, State.setBg, h.1]

/-! ### The trim of the FRC (R283, R288) -/

theorem only_trimFrc (s : State) : Safety.only [CORE.BG_CAL_FRC_TRIM] { s with bg := { s.bg with trimStep := 0 } } s.trimFrc :=
  only_wrI (only_refl _ _)

theorem rdI_trimFrc (s : State) :
    s.trimFrc.rdI CORE.BG_CAL_FRC_TRIM = clampInt (-128) 127 (s.rdI CORE.BG_CAL_FRC_TRIM + s.bg.trimStep) := by
  obtain ⟨hlo, hhi⟩ := clampInt_bounds (lo := -128) (hi := 127) (by decide) (s.rdI CORE.BG_CAL_FRC_TRIM + s.bg.trimStep)
  exact rdI_wrI _ (f := CORE.BG_CAL_FRC_TRIM) (by show -(2 ^ 8 : Int) ≤ _; omega) (by show _ < (2 ^ 8 : Int); omega)

/-- The error in ppm of a count of FRC cycles, and the step of the trim against it (R288). -/
def frcPpm (n : BitVec 32) : Rat := ((n.toNat : Int) - 64000 : Int) * 1000000 / 64000
def frcStep (n : BitVec 32) : Int := if 500 < frcPpm n then -1 else if frcPpm n < -500 then 1 else 0

theorem frcPpm_eq (n : BitVec 32) : frcPpm n = ((125 * ((n.toNat : Int) - 64000) : Int) : Rat) / 8 := by
  unfold frcPpm
  push_cast
  ring

theorem lt_frcPpm (n : BitVec 32) (q : Int) : (q : Rat) < frcPpm n ↔ 8 * q < 125 * ((n.toNat : Int) - 64000) := by
  rw [frcPpm_eq, lt_div_iff₀ (by norm_num)]
  norm_cast
  rw [mul_comm]

theorem frcPpm_lt (n : BitVec 32) (q : Int) : frcPpm n < (q : Rat) ↔ 125 * ((n.toNat : Int) - 64000) < 8 * q := by
  rw [frcPpm_eq, div_lt_iff₀ (by norm_num)]
  norm_cast
  rw [mul_comm q]

theorem frcStep_eq (n : BitVec 32) : frcStep n = if 64032 < n.toNat then -1 else if n.toNat < 63968 then 1 else 0 := by
  have hhigh : (500 < frcPpm n) ↔ 64032 < n.toNat := by
    have h := lt_frcPpm n 500
    push_cast at h
    rw [h]
    omega
  have hlow : (frcPpm n < -500) ↔ n.toNat < 63968 := by
    have h := frcPpm_lt n (-500)
    push_cast at h
    rw [h]
    omega
  simp only [frcStep, hhigh, hlow]

/-- The error is above 2,000 ppm (R288). -/
def frcFar (n : BitVec 32) : Bool := decide (2000 < frcPpm n) || decide (frcPpm n < -2000)

theorem frcFar_iff (n : BitVec 32) : frcFar n = true ↔ n.toNat < 63872 ∨ 64128 < n.toNat := by
  have hhigh := lt_frcPpm n 2000
  have hlow := frcPpm_lt n (-2000)
  push_cast at hhigh hlow
  rw [frcFar, Bool.or_eq_true, decide_eq_true_eq, decide_eq_true_eq, hhigh, hlow]
  omega

theorem roundInt_frcPpm {n : BitVec 32} (h : frcFar n = false) :
    clampInt (-32768) 32767 (roundInt (frcPpm n)) = roundInt (frcPpm n) := by
  simp only [frcFar, Bool.or_eq_false_iff, decide_eq_false_iff_not, not_lt] at h
  obtain ⟨hhi, hlo⟩ := h
  refine clampInt_eq (Rat.le_floor_iff.mpr ?_) (Int.lt_add_one_iff.mp (Rat.floor_lt_iff.mpr ?_)) <;> push_cast <;> linarith

/-- The error stands in its register, and the step of the trim waits for the next boundary between lines. -/
def State.frcCounted (s : State) (n : BitVec 32) : State :=
  (s.wrI CORE.BG_CAL_FRC_ERR_PPM (clampInt (-32768) 32767 (roundInt (frcPpm n)))).setBg fun b =>
    { b with frcDue := frcFar n, frcAt := s.clock, frcDie := s.srcTemp 0, trimStep := frcStep n }

/-- Between lines the step is taken at once. -/
def State.frcMeasured (s : State) (n : BitVec 32) : State :=
  if s.print.firing.isSome then s.frcCounted n else (s.frcCounted n).trimFrc

section
variable (s : State) (n : BitVec 32)

theorem only_frcMeasured : Safety.only [CORE.BG_CAL_FRC_ERR_PPM, CORE.BG_CAL_FRC_TRIM]
    { s with bg := { s.bg with frcDue := frcFar n, frcAt := s.clock, frcDie := s.srcTemp 0,
                               trimStep := if s.print.firing.isSome then frcStep n else 0 } } (s.frcMeasured n) := by
  have hcounted (w : List Fld) (hw : CORE.BG_CAL_FRC_ERR_PPM ∈ w) : Safety.only w (s.setBg _) (s.frcCounted n) :=
    only_setBg _ (only_wrI (only_refl w s) hw)
  unfold State.frcMeasured
  split
  · exact hcounted _ (by simp)
  · exact only_trans (only_setBg (fun b => { b with trimStep := 0 }) (hcounted _ (by simp))) (only_mono (only_trimFrc _) (by simp))

theorem frcPpm_frcMeasured :
    (s.frcMeasured n).rdI CORE.BG_CAL_FRC_ERR_PPM = clampInt (-32768) 32767 (roundInt (frcPpm n)) := by
  have hcounted : (s.frcCounted n).rdI CORE.BG_CAL_FRC_ERR_PPM = clampInt (-32768) 32767 (roundInt (frcPpm n)) := by
    obtain ⟨hlo, hhi⟩ := clampInt_bounds (lo := -32768) (hi := 32767) (by decide) (roundInt (frcPpm n))
    exact rdI_wrI s (f := CORE.BG_CAL_FRC_ERR_PPM) (by show -(2 ^ 16 : Int) ≤ _; omega) (by show _ < (2 ^ 16 : Int); omega)
  unfold State.frcMeasured
  split
  · exact hcounted
  · exact (rdI_congr ((only_trimFrc _).2.1 _ (by decide))).trans hcounted

theorem frcTrim_frcMeasured : (s.frcMeasured n).rdI CORE.BG_CAL_FRC_TRIM =
    if s.print.firing.isSome then s.rdI CORE.BG_CAL_FRC_TRIM
    else clampInt (-128) 127 (s.rdI CORE.BG_CAL_FRC_TRIM + frcStep n) := by
  have hcounted : (s.frcCounted n).rdI CORE.BG_CAL_FRC_TRIM = s.rdI CORE.BG_CAL_FRC_TRIM :=
    rdI_congr (State.rd_wr_apart s CORE.BG_CAL_FRC_ERR_PPM _ _ (by decide))
  unfold State.frcMeasured
  split
  · exact hcounted
  · rw [rdI_trimFrc, hcounted]
    rfl

theorem exec_frcCalibration {s : State} (ha : s.awake = true) (hh : s.rd CORE.CLK_STAT_HFXO_OK = 1)
    (hf : s.rd CORE.CLK_STAT_FRC_ON = 1) (hd : s.frcIsDue = true) : exec (.frcCalibration n) s =
      if frcFar n then .next ((s.frcMeasured n).wr CORE.CLK_STAT_FRC_CAL 0)
      else .next (((s.frcMeasured n).wr CORE.CLK_STAT_FRC_CAL 1).setClk fun c => { c with frcEver := true }).settle :=
  if_pos (by simp [ha, hd, flag_of_rd_one hh, flag_of_rd_one hf])

end

/-! ### The offset and gain of the ADC (R289) -/

theorem srcTemp_congr {s t : State} (h : t.therm = s.therm) (k : Nat) : t.srcTemp k = s.srcTemp k := by
  simp only [State.srcTemp, State.thermSrc, h]

/-- The gain that takes the bandgap to its nominal code; a free value where the bandgap's codes are not above the ground's. -/
def State.adcGain (s : State) (r : AdcReading) : Rat :=
  if mkRat r.ground.toNat 16 < mkRat r.bandgap.toNat 16 then
    bandgapCode / (mkRat r.bandgap.toNat 16 - mkRat r.ground.toNat 16)
  else (s.openWord.1 : Rat)

/-- ADC_OK is set, and the conversions that were pre-empted are counted. -/
def State.adcShown (s : State) (r : AdcReading) : State :=
  (s.openWord.2.wr CORE.BG_CAL_ADC_OK 1).bump THERM.ADC_STAT_PREEMPTS r.preempted.toNat

section
variable (s : State) (r : AdcReading)

theorem adcCalibrated_eq : s.adcCalibrated r = (s.adcShown r).setBg fun b =>
    { b with adcDue := false, adcAt := s.clock, adcDie := s.srcTemp 0, adcOffset := mkRat r.ground.toNat 16,
             adcGain := s.adcGain r } := by
  have hdie : (s.adcShown r).srcTemp 0 = s.srcTemp 0 := srcTemp_congr (State.bump_therm.trans State.wr_therm) 0
  have hclock : (s.adcShown r).clock = s.clock := State.bump_clock.trans State.wr_clock
  rw [← hdie, ← hclock]
  rfl

/-- The offset and gain with which the ground reads 0 and the bandgap its nominal code. -/
theorem adcCalibrated_codes (h : r.ground.toNat < r.bandgap.toNat) :
    (mkRat r.ground.toNat 16 - (s.adcCalibrated r).bg.adcOffset) * (s.adcCalibrated r).bg.adcGain = 0 ∧
    (mkRat r.bandgap.toNat 16 - (s.adcCalibrated r).bg.adcOffset) * (s.adcCalibrated r).bg.adcGain = bandgapCode := by
  have hlt : mkRat r.ground.toNat 16 < mkRat r.bandgap.toNat 16 := by
    rw [Rat.mkRat_eq_div, Rat.mkRat_eq_div]
    exact div_lt_div_of_pos_right (by exact_mod_cast h) (by norm_num)
  have hgain : s.adcGain r = bandgapCode / (mkRat r.bandgap.toNat 16 - mkRat r.ground.toNat 16) := if_pos hlt
  simp only [adcCalibrated_eq, State.setBg_bg, hgain, sub_self, zero_mul, true_and]
  exact mul_div_cancel₀ _ (sub_pos.mpr hlt).ne'

theorem only_adcCalibrated : Safety.only [CORE.BG_CAL_ADC_OK, THERM.ADC_STAT_PREEMPTS]
    { s with free := s.free + 1, bg := { s.bg with adcDue := false, adcAt := s.clock, adcDie := s.srcTemp 0,
                                                   adcOffset := (s.adcCalibrated r).bg.adcOffset,
                                                   adcGain := (s.adcCalibrated r).bg.adcGain } } (s.adcCalibrated r) := by
  simp only [adcCalibrated_eq, State.setBg_bg]
  exact only_setBg _ (only_bump (only_wr (only_refl _ s.openWord.2)))

theorem adcCalibrated_fields : (s.adcCalibrated r).rd CORE.BG_CAL_ADC_OK = 1 ∧
    (s.adcCalibrated r).rd THERM.ADC_STAT_PREEMPTS = satAdd 65535 (s.rd THERM.ADC_STAT_PREEMPTS) r.preempted.toNat := by
  rw [adcCalibrated_eq, State.setBg_rd, State.setBg_rd, State.adcShown]
  refine ⟨(rd_bump_apart _ _ _ _ (by decide)).trans (rd_wr_of_lt _ (by decide)), ?_⟩
  rw [rd_bump _ THERM.ADC_STAT_PREEMPTS, State.rd_wr_apart _ _ _ _ (by decide)]
  rfl

variable {s}

theorem exec_adcCalibration (ha : s.awake = true) (hd : s.adcIsDue = true) :
    exec (.adcCalibration r) s = .next (s.adcCalibrated r) :=
  if_pos (by simp [ha, hd])

end

/-! ### Doorbells and the floor (R284, R301) -/

theorem exec_headchkNow {s : State} (h : Safety.takes s .core) (he : s.rd CORE.BG_CTL_HEADCHK_EN = 1) (hr : s.print.recheck = false) :
    exec .headchkNow s = .next { s.idleRestart with print := { s.print with recheckDue := true } } := by
  have henabled : (s.idleRestart.flag CORE.BG_CTL_HEADCHK_EN && !s.idleRestart.print.recheck) = true := by
    rw [Bool.and_eq_true, Bool.not_eq_true']
    exact ⟨flag_of_rd_one he, hr⟩
  exact congrArg Host.Outcome.next ((hostReg_takes h fun s => s.headchkNow).trans (if_pos henabled))

/-- A cycle of the floor is counted, and stands in PEAK. -/
def State.floorTaken (s : State) : State :=
  (s.bump CORE.BG_SHARE_FLOOR_GRANTS).wr CORE.BG_SHARE_PEAK (max 1 (s.rd CORE.BG_SHARE_PEAK))

theorem exec_floorGrant {s : State} (ha : s.awake = true) : exec .floorGrant s = .next s.floorTaken := by
  have hpeak : (s.bump CORE.BG_SHARE_FLOOR_GRANTS).rd CORE.BG_SHARE_PEAK = s.rd CORE.BG_SHARE_PEAK :=
    rd_bump_apart s _ _ _ (by decide)
  refine (if_pos ha).trans ?_
  rw [State.floorTaken, ← hpeak]

theorem floorTaken_fields (s : State) :
    s.floorTaken.rd CORE.BG_SHARE_FLOOR_GRANTS = satAdd 65535 (s.rd CORE.BG_SHARE_FLOOR_GRANTS) 1 ∧
    s.floorTaken.rd CORE.BG_SHARE_PEAK = max 1 (s.rd CORE.BG_SHARE_PEAK) := by
  have hlt : s.rd CORE.BG_SHARE_PEAK < 2 ^ 5 := State.rd_lt s CORE.BG_SHARE_PEAK
  refine ⟨(State.rd_wr_apart _ _ _ _ (by decide)).trans (rd_bump s CORE.BG_SHARE_FLOOR_GRANTS 1), rd_wr_of_lt _ ⟨?_, by decide⟩⟩
  show max 1 _ < 2 ^ 5
  omega

/-- Settles O17: an FRC calibration is its measurement with FRC_CAL written behind it, and the other activities are one operation each. -/
theorem calibrationAndFloor : Obligations.CalibrationAndFloor := by
  refine ⟨fun n s ha hh hf hd hlo hhi => ?near, fun n s ha hh hf hd hn => ?far, fun r s ha hd hr => ?adc,
    fun s h => congrArg Host.Outcome.next (hostReg_takes h fun s => s.calNow), fun s h he hr => exec_headchkNow h he hr,
    fun s ha => ⟨s.floorTaken, exec_floorGrant ha, (floorTaken_fields s).1, (floorTaken_fields s).2,
      only_wr (only_bump (only_refl _ s))⟩⟩
  case near =>
    intro step
    have hstep : frcStep n = step := frcStep_eq n
    have hnear : frcFar n = false := Bool.eq_false_iff.mpr fun h => by
      have := (frcFar_iff n).mp h
      omega
    have honly := only_frcMeasured s n
    refine ⟨((s.frcMeasured n).wr CORE.CLK_STAT_FRC_CAL 1).setClk fun c => { c with frcEver := true }, ?_, ?_, ?_, ?_, ?_⟩
    · rw [exec_frcCalibration n ha hh hf hd, hnear]
      exact if_neg Bool.false_ne_true
    · rw [State.setClk_rd]
      exact rd_wr_of_lt _ (by decide)
    · rw [State.rdI, State.setClk_rd, State.rd_wr_apart _ _ _ _ (by decide)]
      exact (frcPpm_frcMeasured s n).trans (roundInt_frcPpm hnear)
    · rw [State.rdI, State.setClk_rd, State.rd_wr_apart _ _ _ _ (by decide), ← hstep]
      exact frcTrim_frcMeasured s n
    · rw [hnear, hstep] at honly
      exact only_setClk _ (only_wr (only_mono honly (by simp)))
  case far =>
    intro step
    have hfar : frcFar n = true := (frcFar_iff n).mpr hn
    have hstep : frcStep n = step := by
      rw [frcStep_eq]
      rcases hn with h | h
      · rw [if_neg (by omega), if_pos (by omega), show step = 1 from if_neg (by omega)]
      · rw [if_pos (by omega), show step = -1 from if_pos h]
    have honly := only_frcMeasured s n
    refine ⟨(s.frcMeasured n).wr CORE.CLK_STAT_FRC_CAL 0, ?_, rd_wr_of_lt _ (by decide), ?_, ?_, ?_⟩
    · rw [exec_frcCalibration n ha hh hf hd, hfar]
      exact if_pos rfl
    · exact (rdI_congr (State.rd_wr_apart _ _ _ _ (by decide))).trans (frcPpm_frcMeasured s n)
    · exact (rdI_congr (State.rd_wr_apart _ _ _ _ (by decide))).trans (hstep ▸ frcTrim_frcMeasured s n)
    · rw [hfar, hstep] at honly
      exact only_wr (only_mono honly (by simp))
  case adc =>
    obtain ⟨hok, hpreempts⟩ := adcCalibrated_fields s r
    obtain ⟨hground, hbandgap⟩ := adcCalibrated_codes s r hr
    exact ⟨s.adcCalibrated r, exec_adcCalibration r ha hd, hok, hpreempts, hground, hbandgap,
      only_adcCalibrated s r⟩

end Sys2Proof.Machine
end

section
/-! PROOFS. The head: its identification and probe, and its leakage, by which it is found wet or dry. -/

namespace Sys2Proof.Machine

-- In parallel these proofs take more memory than the check allows.
set_option Elab.async false

/-! ### What the settings of the head rest on -/

theorem wetBead_congr {s t : State} (h : t.img = s.img) : t.wetBead = s.wetBead := by
  simp only [State.wetBead, State.beadD, State.bead?, h]

theorem headEntry_congr {s t : State} (hr : t.rd PRINT.HEAD_ENTRY = s.rd PRINT.HEAD_ENTRY) (hi : t.img = s.img) :
    t.headEntry = s.headEntry := by
  simp only [State.headEntry, State.beadD, State.bead?, hr, hi]

theorem leakOf_congr {s t : State} (h : t.print.baseline = s.print.baseline) (raw : Nat) : t.leakOf raw = s.leakOf raw := by
  rw [State.leakOf, State.leakOf, h]

theorem only_printIdle {w : List Fld} {s t : State} (h : Safety.only w s t) (hf : PRINT.STAT_STATE ∈ w := by simp) :
    Safety.only w s t.printIdle := only_wr h hf

/-- What the frame says of registers, seen from a state with the same registers. -/
theorem regsBut_of_only {w : List Fld} {s t u : State} (h : Safety.only w u t) (hu : u.regs = s.regs) : Safety.regsBut w s t :=
  regsBut_trans (regsBut_of_regs hu) h.2.1

theorem hasFault_clearFaults (s : State) {code : Nat} {codes : List Nat} (h : code ∈ codes) : (s.clearFaults codes).hasFault code = false := by
  simp only [State.hasFault, State.clearFaults, List.any_eq_false, List.mem_filter]
  rintro f ⟨-, hf⟩ hcode
  simp [beq_iff_eq.mp hcode, h] at hf

theorem hasFault_clearFault (s : State) (code : Nat) : (s.clearFault code).hasFault code = false := by
  simp [State.hasFault, State.clearFault]

/-! ### The probe (R388, R389, R391, R393) -/

/-- MEAN_DOHM and GROUP_LOW show what a probe has measured. -/
def State.probeShown (s : State) (r : Nat) (low : List Nat) : State :=
  (s.wr CORE.BG_HEAD_MEAN_DOHM r).wr PRINT.PROBE_GROUP_LOW ((low.map fun g => 2 ^ g).foldl (· + ·) 0)

/-- The fault that a probe tells: of the first group that draws too little, or of a mean outside the head's limits. -/
def State.probeFault (s : State) (m : HeadMeas) (r : Nat) (low : List Nat) : Option (Nat × Nat × Nat) :=
  match low.head? with
  | some g => some (0x0601, 1 + g, m.idMv.toNat)
  | none => if r < u16 s.headEntry 4 ∨ u16 s.headEntry 6 < r then some (0x0601, 9, m.idMv.toNat) else none

theorem only_probeShown (s : State) (r : Nat) (low : List Nat) :
    Safety.only [CORE.BG_HEAD_MEAN_DOHM, PRINT.PROBE_GROUP_LOW] s (s.probeShown r low) :=
  only_wr (only_wr (only_refl _ s))

theorem mean_probeShown (s : State) {r : Nat} (h : r < 65536) (low : List Nat) :
    (s.probeShown r low).rd CORE.BG_HEAD_MEAN_DOHM = r :=
  (State.rd_wr_apart _ _ _ _ (by decide)).trans (rd_wr_of_lt _ ⟨h, by decide⟩)

theorem probeResult_lt {s : State} {m : HeadMeas} {r : Nat} (h : (s.probeResult m).1 = some r) : r < 65536 := by
  revert h
  unfold State.probeResult
  extract_lets
  dsimp only
  split
  · exact fun h => absurd h (by simp)
  · intro h
    have := Option.some.inj h
    omega

/-- A head that is identified, and of which every group draws some current. -/
theorem probeHead_measured {s : State} {m : HeadMeas} {r : Nat} {low : List Nat} (hid : (s.identify m.idMv.toNat).2 = none)
    (hp : (s.identify m.idMv.toNat).1.probeResult m = (some r, low)) :
    s.probeHead m = ((s.identify m.idMv.toNat).1.probeShown r low, (s.identify m.idMv.toNat).1.probeFault m r low) := by
  unfold State.probeHead
  generalize s.identify m.idMv.toNat = x at hid hp ⊢
  obtain ⟨t, f⟩ := x
  subst hid
  have hentry : (t.probeShown r low).headEntry = t.headEntry :=
    headEntry_congr ((only_probeShown t r low).2.1 _ (by decide)) (only_same (only_probeShown t r low) State.img)
  simp only [hp, Option.getD_some, Option.isNone_some, Bool.false_eq_true, if_false]
  rw [← State.probeShown, hentry, State.probeFault]
  cases low.head? with
  | some g => rfl
  | none =>
    simp only [Bool.or_eq_true, decide_eq_true_eq]
    split <;> rfl

theorem only_identify (s : State) (mv : Nat) :
    Safety.only [PRINT.HEAD_ID_OHM, PRINT.HEAD_ENTRY, PRINT.HEAD_IDENTIFIED] s (s.identify mv).1 := by
  unfold State.identify
  split
  · exact only_refl _ s
  · dsimp only
    split
    · exact only_wr (only_wr (only_wr (only_refl _ s)))
    · exact only_wr (only_wr (only_refl _ s))

theorem probeHead_print (s : State) (m : HeadMeas) : (s.probeHead m).1.print = s.print := by
  have hid := only_same (only_identify s m.idMv.toNat) State.print
  unfold State.probeHead
  generalize s.identify m.idMv.toNat = x at hid ⊢
  obtain ⟨t, _ | f⟩ := x
  · dsimp only at hid ⊢
    generalize t.probeResult m = p
    obtain ⟨mean, low⟩ := p
    have hopen : (if mean.isNone then t.openWord.2 else t).print = s.print := by split <;> exact hid
    have hshown : ((if mean.isNone then t.openWord.2 else t).probeShown (mean.getD (t.openWord.1 % 65536)) low).print = s.print :=
      (only_same (only_probeShown _ _ low) State.print).trans hopen
    cases low.head? with
    | some g => exact hshown
    | none =>
      dsimp only
      rw [apply_ite Prod.fst, ite_self]
      exact hshown
  · exact hid

section
variable {s : State} {tag : Fin 64} {m : HeadMeas} {c : Cmd}

/-- A HEAD_PROBE waits for its leakage. -/
def State.probeWaits (s : State) (t : Nat) : State :=
  ((s.start t).setPrint fun p => { p with probe := some t }).wr PRINT.STAT_STATE 4

theorem exec_headProbe (hc : s.cmd? tag = some c) (ho : c.op = 0x61) (hs : c.started = false) (hm : s.mayProbe c = true) :
    exec (.headProbe tag m) s = match (s.probeHead m).2 with
      | some f => .next (((s.probeHead m).1.headFault f).complete tag stNotReady f.1 f.2.1).settle
      | none => .next ((s.probeHead m).1.probeWaits tag).settle := by
  change execHeadProbe tag m s = _
  have hstarts : (c.op == 0x61 && !c.started && s.mayProbe c) = true := by simp [ho, hs, hm]
  simp only [execHeadProbe, hc, hstarts, if_true]
  generalize s.probeHead m = x
  obtain ⟨t, _ | f⟩ := x <;> rfl

theorem probeWaits_spec (s : State) (m : HeadMeas) (t : Nat) :
    let x := (s.probeHead m).1.probeWaits t
    x.print.probe = some t ∧ x.rd PRINT.STAT_STATE = 4 ∧
      Safety.only [PRINT.STAT_STATE] { (s.probeHead m).1.start t with print := { s.print with probe := some t } } x := by
  have hprint : ((s.probeHead m).1.start t).print = s.print := probeHead_print s m
  refine ⟨rfl, rd_wr_of_lt _ (by decide), ?_⟩
  rw [← hprint]
  exact only_wr (only_refl _ _)

end

/-! ### A head that is found wet or dry (R394) -/

theorem only_withHead {w : List Fld} {s t : State} (p : Print) (l : Ledger) (h : Safety.only w s t) :
    Safety.only w { s with print := p, led := l } { t with print := p, led := l } := by
  refine ⟨?_, h.2⟩
  rw [h.1]

theorem count_led_congr {s t : State} (h : t.led = s.led) (k : Nat) (q : Rat) : (t.count k q).led = (s.count k q).led := by
  simp only [State.count, h]

/-- The head is found wet, or dry. -/
def State.headFound (s : State) (wet : Bool) : State := if wet then s.foundWet else s.foundDry

theorem only_foundWet (s : State) : Safety.only [PRINT.STAT_WET, PRINT.EVT_WET, VEC.PENDING_PENDING]
    { s with print := { s.print with dryHead := false }, led := (s.count cntWet).led } s.foundWet :=
  only_count cntWet 1 (only_setPrint _ (only_evt (only_wr (only_refl _ s))))

theorem only_foundDry (s : State) : Safety.only [PRINT.STAT_WET] { s with print := { s.print with dryHead := true } } s.foundDry :=
  only_setPrint _ (only_wr (only_refl _ s))

section
variable (s : State) (wet : Bool)

theorem print_headFound : (s.headFound wet).print = { s.print with dryHead := !wet } := by
  cases wet
  · exact only_same (only_foundDry s) State.print
  · exact only_same (only_foundWet s) State.print

theorem led_headFound : (s.headFound wet).led = if wet then (s.count cntWet).led else s.led := by
  cases wet
  · exact only_same (only_foundDry s) State.led
  · exact only_same (only_foundWet s) State.led

theorem only_headFound : Safety.only [PRINT.STAT_WET, PRINT.EVT_WET, VEC.PENDING_PENDING]
    { s with print := (s.headFound wet).print, led := (s.headFound wet).led } (s.headFound wet) := by
  rw [print_headFound, led_headFound]
  cases wet
  · exact only_mono (only_foundDry s) (by simp)
  · exact only_foundWet s

theorem regsBut_headFound : Safety.regsBut [PRINT.STAT_WET, PRINT.EVT_WET, VEC.PENDING_PENDING] s (s.headFound wet) :=
  regsBut_of_only (only_headFound s wet) rfl

theorem rd_foundWet {f : Fld} : s.foundWet.rd f = ((s.wr PRINT.STAT_WET 1).evt PRINT.EVT_WET .print).rd f := by
  rw [State.foundWet, State.count_rd, State.setPrint_rd]

theorem wet_headFound : (s.headFound wet).rd PRINT.STAT_WET = bit wet := by
  cases wet
  · show s.foundDry.rd PRINT.STAT_WET = 0
    rw [State.foundDry, State.setPrint_rd]
    exact rd_wr_of_lt _ (by decide)
  · show s.foundWet.rd PRINT.STAT_WET = 1
    rw [rd_foundWet, rd_evt_apart _ _ (by decide) (by decide)]
    exact rd_wr_of_lt _ (by decide)

end

theorem headFound_setPrint (t : State) (wet : Bool) (leak : Nat) :
    (if wet then t.foundWet else t.foundDry.setPrint fun p => { p with baseline := leak }) =
      (t.headFound wet).setPrint fun p => { p with baseline := if wet then p.baseline else leak } := by
  cases wet
  · exact if_neg Bool.false_ne_true
  · exact if_pos rfl

/-- The event of a wet head, seen from an earlier state of which only the measured leakage differs. -/
theorem event_foundWet {s t : State} (h : Safety.regsBut [PRINT.PROBE_LEAK] s t) (hq : t.part = s.part) :
    Safety.event PRINT.EVT_WET .print s t.foundWet := by
  have hshown : Safety.regsBut [PRINT.PROBE_LEAK, PRINT.STAT_WET] s (t.wr PRINT.STAT_WET 1) :=
    regsBut_trans (regsBut_mono h (by simp)) (only_wr (only_refl _ t)).2.1
  have hevent := event_of_regsBut (f := PRINT.EVT_WET) (r := .print) hshown hq (by decide)
  rwa [Safety.event, State.flag, rd_foundWet, rd_foundWet, ← State.flag]

/-! ### The leakage (R394) -/

/-- The measured leakage stands in its register. -/
def State.leakShown (s : State) (leak : Nat) : State := s.wr PRINT.PROBE_LEAK (s.leakOf leak)

/-- A measurement finds the head wet. -/
def State.leakWet (s : State) (leak : Nat) : Bool := decide (u16 s.wetBead 0 < s.leakOf leak)

section
variable (s : State) (leak : Nat)

theorem only_leakShown : Safety.only [PRINT.PROBE_LEAK] s (s.leakShown leak) := only_wr (only_refl _ s)

variable {leak} in
theorem leakOf_lt (h : leak < 65536) : s.leakOf leak < 65536 := Nat.lt_of_le_of_lt (Nat.sub_le _ _) h

variable {leak} in
theorem rd_leakShown (h : leak < 65536) : (s.leakShown leak).rd PRINT.PROBE_LEAK = s.leakOf leak :=
  rd_wr_of_lt s ⟨leakOf_lt s h, by decide⟩

theorem leakSeen_if : s.leakSeen leak = if s.leakWet leak then (s.leakShown leak).foundWet
    else (s.leakShown leak).foundDry.setPrint fun p => { p with baseline := leak } := by
  have hbead : (s.wr PRINT.PROBE_LEAK (s.leakOf leak)).wetBead = s.wetBead := wetBead_congr State.wr_img
  unfold State.leakSeen State.leakWet
  dsimp only
  rw [hbead]
  exact if_congr decide_eq_true_iff.symm rfl rfl

theorem leakSeen_eq : s.leakSeen leak = ((s.leakShown leak).headFound (s.leakWet leak)).setPrint fun p =>
    { p with baseline := if s.leakWet leak then p.baseline else leak } := by
  rw [leakSeen_if]
  exact headFound_setPrint _ _ leak

theorem print_leakSeen : (s.leakSeen leak).print =
    { s.print with dryHead := !s.leakWet leak, baseline := if s.leakWet leak then s.print.baseline else leak } := by
  rw [leakSeen_eq, State.setPrint_print, print_headFound, State.leakShown, State.wr_print]

theorem led_leakSeen : (s.leakSeen leak).led = if s.leakWet leak then (s.count cntWet).led else s.led := by
  have hled : (s.leakShown leak).led = s.led := State.wr_led
  rw [leakSeen_eq, State.setPrint_led, led_headFound, count_led_congr hled, hled]

theorem only_leakSeen : Safety.only [PRINT.PROBE_LEAK, PRINT.STAT_WET, PRINT.EVT_WET, VEC.PENDING_PENDING]
    { s with print := (s.leakSeen leak).print, led := (s.leakSeen leak).led } (s.leakSeen leak) := by
  have hfound := only_headFound (s.leakShown leak) (s.leakWet leak)
  rw [leakSeen_eq]
  exact only_setPrint _ (only_trans (only_withHead _ _ (only_mono (only_leakShown s leak) (by simp))) (only_mono hfound (by simp)))

variable {leak} in
theorem leakSeen_fields (h : leak < 65536) :
    (s.leakSeen leak).rd PRINT.PROBE_LEAK = s.leakOf leak ∧ (s.leakSeen leak).rd PRINT.STAT_WET = bit (s.leakWet leak) := by
  rw [leakSeen_eq, State.setPrint_rd, State.setPrint_rd, wet_headFound, regsBut_headFound _ _ _ (by decide), rd_leakShown s h]
  exact ⟨rfl, rfl⟩

variable {s leak} in
theorem event_leakSeen (h : s.leakWet leak = true) : Safety.event PRINT.EVT_WET .print s (s.leakSeen leak) := by
  rw [leakSeen_if, if_pos h]
  exact event_foundWet (only_leakShown s leak).2.1 State.wr_part

end

end Sys2Proof.Machine
end

section
/-! PROOFS. The events and commands of the head, with what each leaves as it was. -/

namespace Sys2Proof.Machine

-- In parallel these proofs take more memory than the check allows.
set_option Elab.async false

/-- A frame that names what has changed beside the registers by the state after the change. -/
theorem only_frame {w : List Fld} {u x : State} (h : Safety.only w u x) (F : State → State) (hu : F u = u)
    (hF : ∀ (y : State) (r : Store Word), F { y with regs := r } = F y := by intros; rfl) : Safety.only w (F x) x := by
  rw [only_same h F hF, hu]
  exact h

theorem only_clearFaults {w : List Fld} {s t : State} (codes : List Nat) (h : Safety.only w s t) :
    Safety.only w (s.clearFaults codes) (t.clearFaults codes) := by
  refine ⟨?_, h.2⟩
  rw [State.clearFaults, State.clearFaults, h.1]

/-! ### LEAKAGE_MEASURED (R383, R391, R394, R395) -/

/-- The faults of the head that a good HEAD_PROBE clears (R391, R393). -/
def probeClears (wet : Bool) : List Nat := if wet then [0x0601, 0x0602] else [0x0601, 0x0602, 0x0610]

/-- The probe has ended. -/
def Print.probeOver (p : Print) : Print := { p with probe := none, probed := true }

/-- The leakage of a HEAD_PROBE has been measured, and the faults that it disproves are cleared. -/
def State.leakProbed (s : State) (leak : Nat) : State :=
  ((s.setPrint Print.probeOver).leakSeen leak).clearFaults (probeClears (s.leakWet leak))

section
variable (s : State) (leak : Nat)

theorem leakWet_probeOver : (s.setPrint Print.probeOver).leakWet leak = s.leakWet leak := by
  have hleak : (s.setPrint Print.probeOver).leakOf leak = s.leakOf leak := leakOf_congr rfl leak
  rw [State.leakWet, wetBead_congr (State.setPrint_img (s := s)), hleak, State.leakWet]

theorem print_leakProbed : (s.leakProbed leak).print =
    { s.print with probe := none, probed := true, dryHead := !s.leakWet leak,
                   baseline := if s.leakWet leak then s.print.baseline else leak } := by
  rw [State.leakProbed, State.clearFaults_print, print_leakSeen, leakWet_probeOver, State.setPrint_print]
  rfl

theorem regsBut_leakProbed : Safety.regsBut [PRINT.PROBE_LEAK, PRINT.STAT_WET, PRINT.EVT_WET, VEC.PENDING_PENDING] s (s.leakProbed leak) :=
  fun f hf => (State.clearFaults_rd f).trans (regsBut_of_only (s := s) (only_leakSeen (s.setPrint Print.probeOver) leak) rfl f hf)

variable {leak} in
theorem leakProbed_fields (h : leak < 65536) :
    (s.leakProbed leak).rd PRINT.PROBE_LEAK = s.leakOf leak ∧ (s.leakProbed leak).rd PRINT.STAT_WET = bit (s.leakWet leak) := by
  obtain ⟨hleak, hwet⟩ := leakSeen_fields (s.setPrint Print.probeOver) h
  rw [State.leakProbed, State.clearFaults_rd, State.clearFaults_rd, hleak, hwet, leakWet_probeOver]
  exact ⟨leakOf_congr rfl leak, rfl⟩

theorem only_leakProbed : Safety.only [PRINT.PROBE_LEAK, PRINT.STAT_WET, PRINT.EVT_WET, PRINT.STAT_STATE, VEC.PENDING_PENDING]
    { s with print := (s.leakProbed leak).printIdle.print, faults := (s.leakProbed leak).printIdle.faults,
             led := (s.leakProbed leak).printIdle.led } (s.leakProbed leak).printIdle := by
  have hseen := only_clearFaults (probeClears (s.leakWet leak)) (only_leakSeen (s.setPrint Print.probeOver) leak)
  exact only_frame (only_printIdle (only_mono hseen (by simp)))
    (fun y => { s with print := y.print, faults := y.faults, led := y.led }) rfl

variable {s leak} in
theorem hasFault_leakProbed {code : Nat} (h : code ∈ probeClears (s.leakWet leak)) :
    (s.leakProbed leak).printIdle.hasFault code = false := by
  rw [State.hasFault, State.printIdle, State.wr_faults]
  exact hasFault_clearFaults _ h

theorem mem_probeClears {wet : Bool} {code : Nat} (h : code ∈ probeClears true) : code ∈ probeClears wet := by
  cases wet
  · exact List.mem_append_left [0x0610] h
  · exact h

end

theorem exec_leakageMeasured_probe {s : State} {t : Nat} (hp : s.print.probe = some t) (leak : BitVec 16) :
    exec (.leakageMeasured leak) s = .next ((s.leakProbed leak.toNat).printIdle.complete t stOK (s.rd CORE.BG_HEAD_MEAN_DOHM)
      (min 65535 (s.leakOf leak.toNat) + s.rd PRINT.HEAD_ENTRY * 65536 +
        (if u16 s.wetBead 0 < s.leakOf leak.toNat then 2 ^ 20 else 0))).settle := by
  have hclears : probeClears (s.leakWet leak.toNat) =
      if u16 s.wetBead 0 < s.leakOf leak.toNat then [0x0601, 0x0602] else [0x0601, 0x0602, 0x0610] := by
    simp only [probeClears, State.leakWet, decide_eq_true_eq]
  have hregs := regsBut_leakProbed s leak.toNat
  rw [← hregs CORE.BG_HEAD_MEAN_DOHM (by decide), ← hregs PRINT.HEAD_ENTRY (by decide), State.leakProbed, hclears]
  change execLeakageMeasured leak s = _
  unfold execLeakageMeasured
  simp only [hp]
  rfl

/-- A RECEIPT that knows its head's leakage. -/
def Job.leakKnown (wet : Bool) (j : Job) : Job := { j with leakOk := true, wet := wet }

/-- The leakage that step 2 of a RECEIPT needs has been measured. -/
def State.leakTold (s : State) (t leak : Nat) : State :=
  ((s.leakShown leak).modJob t (Job.leakKnown (s.leakWet leak))).headFound (s.leakWet leak)

theorem only_modJob_headFound (s : State) (t : Nat) (f : Job → Job) (wet : Bool) :
    Safety.only [PRINT.STAT_WET, PRINT.EVT_WET, VEC.PENDING_PENDING]
      { s with print := ((s.modJob t f).headFound wet).print, led := ((s.modJob t f).headFound wet).led } ((s.modJob t f).headFound wet) :=
  only_headFound (s.modJob t f) wet

section
variable (s : State) (t leak : Nat)

theorem only_leakTold : Safety.only [PRINT.PROBE_LEAK, PRINT.STAT_WET, PRINT.EVT_WET, VEC.PENDING_PENDING]
    { s with print := (s.leakTold t leak).print, led := (s.leakTold t leak).led } (s.leakTold t leak) :=
  only_trans (only_withHead _ _ (only_mono (only_leakShown s leak) (by simp)))
    (only_mono (only_modJob_headFound (s.leakShown leak) t _ (s.leakWet leak)) (by simp))

variable {leak} in
theorem leakTold_fields (h : leak < 65536) : (s.leakTold t leak).rd PRINT.PROBE_LEAK = s.leakOf leak ∧
    (s.leakTold t leak).rd PRINT.STAT_WET = bit (s.leakWet leak) ∧ (s.leakTold t leak).print.dryHead = !s.leakWet leak := by
  refine ⟨?_, wet_headFound _ _, by rw [State.leakTold, print_headFound]⟩
  rw [State.leakTold, regsBut_headFound _ _ _ (by decide), State.modJob, State.setPrint_rd, rd_leakShown s h]

variable {s t} in
theorem job?_leakTold {j : Job} (h : s.job? t = some j) :
    (s.leakTold t leak).job? t = some (j.leakKnown (s.leakWet leak)) := by
  have hshown : (s.leakShown leak).job? t = some j := (job?_congr t (congrArg Print.jobs State.wr_print)).trans h
  have hjobs : (s.leakTold t leak).print.jobs = ((s.leakShown leak).modJob t (Job.leakKnown (s.leakWet leak))).print.jobs := by
    rw [State.leakTold, print_headFound]
  rw [job?_congr t hjobs, job?_modJob (f := Job.leakKnown _) (fun _ => rfl), hshown, Option.map_some]

end

theorem exec_leakageMeasured_job {s : State} {j : Job} (hp : s.print.probe = none) (hf : s.print.firing = none)
    (hj : (s.print.jobs.find? fun j => j.stage == .render && !j.leakOk) = some j) (leak : BitVec 16) :
    exec (.leakageMeasured leak) s = .next (s.leakTold j.tag leak.toNat).autoDry.settle := by
  change execLeakageMeasured leak s = _
  unfold execLeakageMeasured
  dsimp only
  rw [hp, hj, hf]
  dsimp only [Option.isSome_none, Bool.false_eq_true]
  rw [if_neg Bool.false_ne_true]
  unfold State.leakTold State.headFound State.leakWet
  simp only [decide_eq_true_eq]
  rfl

/-! ### The dry-out (R394, R396, R397) -/

theorem dryStart_spec (s : State) (tag : Option Nat) (maxS : Nat) :
    let x := s.dryStart tag maxS
    x.rd PRINT.DRY_ELAPSED_S = 0 ∧ x.rd PRINT.STAT_STATE = 5 ∧
      x.print = { s.print with dry := some { tag := tag, maxS := maxS, since := s.clock } } ∧
      Safety.only [PRINT.DRY_ELAPSED_S, PRINT.STAT_STATE] { s with print := x.print } x := by
  intro x
  have honly : Safety.only [PRINT.DRY_ELAPSED_S, PRINT.STAT_STATE]
      { s with print := { s.print with dry := some { tag := tag, maxS := maxS, since := s.clock } } } x :=
    only_wr (only_wr (only_refl _ _))
  refine ⟨?_, rd_wr_of_lt _ (by decide), only_same honly State.print, only_frame honly (fun y => { s with print := y.print }) rfl⟩
  exact (State.rd_wr_apart _ _ _ _ (by decide)).trans (rd_wr_of_lt _ (by decide))

section
variable {s : State} {tag : Fin 64} {c : Cmd}

theorem exec_dryHead (hc : s.cmd? tag = some c) (ho : c.op = 0x62) (hs : c.started = false) (hm : s.mayProbe c = true) :
    exec (.dryHead tag) s = if 600 < c.p0 then .next (s.endOpen tag stBadParam).settle
      else .next ((s.start tag).dryStart (some tag) (if c.p0 = 0 then u16 s.wetBead 4 else c.p0)).settle := by
  change execDryHead tag s = _
  have hstarts : (c.op == 0x62 && !c.started && s.mayProbe c) = true := by simp [ho, hs, hm]
  simp only [execDryHead, hc, hstarts, if_true, beq_iff_eq]

end

theorem addEnergy_frame (s : State) (p : Pass) (ticks : Nat → Nat) : s.addEnergy p ticks = { s with led := (s.addEnergy p ticks).led } :=
  List.foldlRecOn (motive := fun x : State => x = { s with led := x.led }) _ _ rfl fun x hx e _ => by
    rw [hx]
    rfl

/-- A dry-out fires every dot, unless the head is too hot for it or its supply too low. -/
def State.dryFired (s : State) (m : LineSample) : State :=
  if s.print.dry == none || s.headConv m.headCode > u8 s.wetBead 6 * 10 then s
  else
    let e : Rat := mkRat (s.rd PRINT.DRY_DRY_PCT * s.rd PRINT.ENERGY_E_BASE) 1000
    let c := s.calcLine (mkRat m.vhMv.toNat 1000) (fun dot => decide (dot < s.dots)) fun dot => e * s.rMean / s.rDot dot
    if c.low then s
    else c.passes.foldl (fun s p => s.addEnergy p fun k => p.ends.getD k 0)
      ((s.bump PRINT.COUNT_CLAMPED c.clamped).bump PRINT.COUNT_OVERCAP c.overcap)

theorem only_dryFired (s : State) (m : LineSample) :
    Safety.only [PRINT.COUNT_CLAMPED, PRINT.COUNT_OVERCAP] { s with led := (s.dryFired m).led } (s.dryFired m) := by
  have hfire (l : List Pass) (t : State) (ht : Safety.only [PRINT.COUNT_CLAMPED, PRINT.COUNT_OVERCAP] { s with led := t.led } t) :
      let x := l.foldl (fun s p => s.addEnergy p fun k => p.ends.getD k 0) t
      Safety.only [PRINT.COUNT_CLAMPED, PRINT.COUNT_OVERCAP] { s with led := x.led } x :=
    List.foldlRecOn (motive := fun x : State => Safety.only _ { s with led := x.led } x) _ _ ht fun x hx p _ => by
      rw [addEnergy_frame]
      exact ⟨by rw [hx.1], hx.2⟩
  unfold State.dryFired
  split
  · exact only_refl _ s
  · extract_lets e c
    split
    · exact only_refl _ s
    · exact hfire _ _ (only_frame (only_bump (only_bump (only_refl _ s))) (fun y => { s with led := y.led }) rfl)

/-- The time since the dry-out began stands in its register. -/
def State.dryTimed (s : State) (d : Dry) : State := s.wr PRINT.DRY_ELAPSED_S (min 65535 ((s.clock - d.since) / 1000000))

theorem rd_dryTimed (s : State) (d : Dry) : (s.dryTimed d).rd PRINT.DRY_ELAPSED_S = min 65535 ((s.clock - d.since) / 1000000) :=
  rd_wr_of_lt s ⟨show min 65535 _ < 65536 by omega, by decide⟩

theorem exec_dryPulse {s : State} {d : Dry} (hd : s.print.dry = some d) (m : LineSample) :
    exec (.dryPulse m) s = .next (((s.dryTimed d).takeHead m.headCode.toNat).dryFired m).settle := by
  change execDryPulse m s = _
  unfold execDryPulse
  rw [hd]
  dsimp only
  rw [← State.dryTimed, State.dryFired]
  split
  · rfl
  · dsimp only
    split <;> rfl

theorem dryFired_rest {s : State} {m : LineSample} (h : s.print.dry = none ∨ s.headConv m.headCode > u8 s.wetBead 6 * 10) :
    s.dryFired m = s :=
  if_pos (by simpa using h)

section
variable {s : State} {d : Dry} {leak : Nat}

theorem regsBut_dryWet : Safety.regsBut [PRINT.STAT_WET, PRINT.EVT_WET, VEC.PENDING_PENDING] (s.leakShown leak) (s.dryWet leak) := by
  unfold State.dryWet State.stillWet
  rw [← State.leakShown]
  split
  · exact regsBut_headFound _ true
  · exact fun _ _ => rfl

theorem dryWet_known (h : s.print.dryHead = false) : s.dryWet leak = s.leakShown leak :=
  if_neg (by rw [State.wr_print, h]; exact Bool.false_ne_true)

theorem dryWet_found (h : s.print.dryHead = true) : s.dryWet leak = (s.leakShown leak).headFound true :=
  if_pos (by rw [State.wr_print, h])

theorem print_dryWet : (s.dryWet leak).print = { s.print with dryHead := false } := by
  have hshown : (s.leakShown leak).print = s.print := State.wr_print
  by_cases h : s.print.dryHead = true
  · rw [dryWet_found h, print_headFound, hshown]
    rfl
  · rw [Bool.not_eq_true] at h
    rw [dryWet_known h, hshown, ← h]

theorem only_dryWet : Safety.only [PRINT.PROBE_LEAK, PRINT.STAT_WET, PRINT.EVT_WET, VEC.PENDING_PENDING]
    { s with print := { s.print with dryHead := false }, led := (s.dryWet leak).led } (s.dryWet leak) := by
  have hshown := only_leakShown s leak
  rw [← print_dryWet (leak := leak)]
  by_cases h : s.print.dryHead = true
  · rw [dryWet_found h]
    exact only_trans (only_withHead _ _ (only_mono hshown (by simp))) (only_mono (only_headFound _ true) (by simp))
  · rw [Bool.not_eq_true] at h
    rw [dryWet_known h]
    exact only_frame (only_mono hshown (by simp)) (fun y => { s with print := y.print, led := y.led }) rfl

theorem rd_leak_dryWet (h : leak < 65536) : (s.dryWet leak).rd PRINT.PROBE_LEAK = s.leakOf leak :=
  (regsBut_dryWet _ (by decide)).trans (rd_leakShown s h)

/-- The head has been found dry by a dry-out, which a passing DRY_HEAD tells of its fault too (R397). -/
def State.dryFound (s : State) (d : Dry) (leak : Nat) : State :=
  let x := ((s.leakShown leak).foundDry).evt PRINT.EVT_DRY_DONE .print
  if d.tag.isSome then x.clearFault 0x0610 else x

theorem rd_dryFound (f : Fld) : (s.dryFound d leak).rd f = (((s.leakShown leak).foundDry).evt PRINT.EVT_DRY_DONE .print).rd f := by
  unfold State.dryFound
  dsimp only
  split
  · exact State.clearFault_rd f
  · rfl

theorem regsBut_foundDry (t : State) : Safety.regsBut [PRINT.STAT_WET] t t.foundDry := regsBut_of_only (only_foundDry t) rfl

theorem dryFound_fields (h : leak < 65536) :
    (s.dryFound d leak).rd PRINT.PROBE_LEAK = s.leakOf leak ∧ (s.dryFound d leak).rd PRINT.STAT_WET = 0 := by
  rw [rd_dryFound, rd_dryFound, rd_evt_apart _ _ (by decide) (by decide), rd_evt_apart _ _ (by decide) (by decide)]
  exact ⟨(regsBut_foundDry _ _ (by decide)).trans (rd_leakShown s h),
    wet_headFound (s.leakShown leak) false⟩

theorem event_dryFound : Safety.event PRINT.EVT_DRY_DONE .print s (s.dryFound d leak) := by
  have hpart : (s.leakShown leak).foundDry.part = s.part :=
    (only_same (only_foundDry (s.leakShown leak)) State.part).trans (only_same (only_leakShown s leak) State.part)
  have hregs : Safety.regsBut [PRINT.PROBE_LEAK, PRINT.STAT_WET] s (s.leakShown leak).foundDry :=
    regsBut_trans (regsBut_mono (only_leakShown s leak).2.1 (by simp)) (regsBut_mono (regsBut_foundDry _) (by simp))
  have hevent := event_of_regsBut (f := PRINT.EVT_DRY_DONE) (r := .print) hregs hpart (by decide)
  rwa [Safety.event, State.flag, rd_dryFound, rd_dryFound, ← State.flag]

theorem only_dryFound : Safety.only [PRINT.PROBE_LEAK, PRINT.STAT_WET, PRINT.EVT_DRY_DONE, VEC.PENDING_PENDING]
    { s with print := { s.print with dryHead := true }, faults := (s.dryFound d leak).faults } (s.dryFound d leak) := by
  have hshown : Safety.only [PRINT.PROBE_LEAK, PRINT.STAT_WET, PRINT.EVT_DRY_DONE, VEC.PENDING_PENDING]
      { s with print := { s.print with dryHead := true } } (((s.leakShown leak).foundDry).evt PRINT.EVT_DRY_DONE .print) :=
    only_evt (only_setPrint (fun p => { p with dryHead := true }) (only_wr (only_mono (only_leakShown s leak) (by simp))))
  unfold State.dryFound
  dsimp only
  split
  · exact only_frame (only_clearFault 0x0610 hshown) (fun y => { s with print := { s.print with dryHead := true }, faults := y.faults }) rfl
  · exact only_frame hshown (fun y => { s with print := { s.print with dryHead := true }, faults := y.faults }) rfl

end

/-- PRINT's dry-out is over, and shows how long it took. -/
def State.dryStopped (s : State) (d : Dry) : State :=
  ((s.setPrint fun p => { p with dry := none }).printIdle).wr PRINT.DRY_ELAPSED_S (min 65535 ((s.clock - d.since) / 1000000))

section
variable (s : State) (d : Dry)

theorem only_dryStopped : Safety.only [PRINT.STAT_STATE, PRINT.DRY_ELAPSED_S] { s with print := { s.print with dry := none } } (s.dryStopped d) :=
  only_wr (only_printIdle (only_refl _ (s.setPrint fun p => { p with dry := none })))

theorem dryEnd_eq (status leak : Nat) : s.dryEnd d status leak = match d.tag with
    | some t => (s.dryStopped d).complete t status ((s.clock - d.since) / 1000) leak
    | none => s.dryStopped d := by
  have hclock : (s.dryStopped d).clock = s.clock := only_same (only_dryStopped s d) State.clock
  rw [← hclock]
  rfl

end

theorem exec_dryMeasure {s : State} {d : Dry} (hd : s.print.dry = some d) (leak : BitVec 16) : exec (.dryMeasure leak) s =
    .next (if u16 s.wetBead 0 < s.leakOf leak.toNat then s.dryWet leak.toNat
      else (s.dryFound d leak.toNat).dryEnd d stOK (s.leakOf leak.toNat)).settle := by
  change execDryMeasure leak s = _
  unfold execDryMeasure
  rw [hd]
  rfl

theorem exec_wetHead {s : State} {d : Dry} (hd : s.print.dry = some d) (leak : BitVec 16) : exec (.wetHead leak) s =
    .next (if u16 s.wetBead 0 < s.leakOf leak.toNat then
        ((s.dryWet leak.toNat).raise 0x0610 0 (s.leakOf leak.toNat)).dryEnd d stTimeout (s.leakOf leak.toNat)
      else (s.dryFound d leak.toNat).dryEnd d stOK (s.leakOf leak.toNat)).settle := by
  change execWetHead leak s = _
  unfold execWetHead
  rw [hd]
  rfl

/-! ### The recheck (R291 to R294) and the strobes (R368) -/

/-- A recheck runs. -/
def State.recheckBegun (s : State) : State :=
  (s.setPrint fun p => { p with recheck := true, recheckDue := true }).wr PRINT.STAT_STATE 4

/-- A recheck is over, and RECEIPTs are counted again. -/
def State.recheckOver (s : State) : State :=
  ((s.setPrint fun p => { p with recheck := false, recheckDue := false }).wr CORE.BG_HEAD_SINCE 0).printIdle

/-- A mean that has shifted by more than 3 % is told (R294). -/
def State.shiftTold (s : State) (old new : Nat) : State :=
  if 3 * old < 100 * (max old new - min old new) then (s.wr CORE.BG_HEAD_SHIFT 1).rodVec .core else s

section
variable {s : State}

theorem exec_headRecheck (hd : s.recheckIsDue = true) (hr : s.running = true) (hready : s.ready .print = true)
    (hq : s.queuedFor [.print] = false) (hj : s.print.jobs = []) (hv : s.rd SUPPLY.VH_STAT_SETTLED = 1)
    (hl : s.print.lastReceipt + 100000 ≤ s.clock) (hn : s.print.recheck = false) : exec .headRecheck s = .next s.recheckBegun :=
  if_pos (by simp [hd, hr, hready, hq, hj, flag_of_rd_one hv, hl, hn])

theorem recheckOver_spec (s : State) : s.recheckOver.rd CORE.BG_HEAD_SINCE = 0 ∧
    s.recheckOver.print = { s.print with recheck := false, recheckDue := false } ∧
    Safety.only [CORE.BG_HEAD_SINCE, PRINT.STAT_STATE] { s with print := s.recheckOver.print } s.recheckOver := by
  have honly : Safety.only [CORE.BG_HEAD_SINCE, PRINT.STAT_STATE]
      (s.setPrint fun p => { p with recheck := false, recheckDue := false }) s.recheckOver :=
    only_printIdle (only_wr (only_refl _ _))
  refine ⟨?_, only_same honly State.print, only_frame honly (fun y => { s with print := y.print }) rfl⟩
  exact (State.rd_wr_apart _ _ _ _ (by decide)).trans (rd_wr_of_lt _ (by decide))

theorem exec_headRecheckDone (hr : s.print.recheck = true) (m : HeadMeas) (leak : BitVec 16) :
    exec (.headRecheckDone m leak) s = match (s.recheckOver.probeHead m).2 with
      | some f => .next ((s.recheckOver.probeHead m).1.headFault f).settle
      | none => .next ((((s.recheckOver.probeHead m).1.leakSeen leak.toNat).autoDry).shiftTold (s.rd CORE.BG_HEAD_MEAN_DOHM)
          ((s.recheckOver.probeHead m).1.rd CORE.BG_HEAD_MEAN_DOHM)).settle := by
  change execHeadRecheckDone m leak s = _
  unfold execHeadRecheckDone
  rw [if_pos hr]
  dsimp only
  rw [← State.recheckOver]
  generalize s.recheckOver.probeHead m = x
  obtain ⟨t, _ | f⟩ := x <;> rfl

theorem shiftTold_spec (w : State) (old new : Nat) :
    (3 * old < 100 * (max old new - min old new) → (w.shiftTold old new).rd CORE.BG_HEAD_SHIFT = 1 ∧
      Safety.only [CORE.BG_HEAD_SHIFT, VEC.PENDING_PENDING] w (w.shiftTold old new)) ∧
    (100 * (max old new - min old new) ≤ 3 * old → w.shiftTold old new = w) := by
  refine ⟨fun h => ?_, fun h => if_neg (Nat.not_lt.mpr h)⟩
  rw [State.shiftTold, if_pos h]
  exact ⟨(rd_vec _ _ _ (by decide)).trans (rd_wr_of_lt _ (by decide)), only_rodVec (only_wr (only_refl _ w))⟩

theorem exec_strobeFault (ha : s.awake = true) (hk : s.boot.strobesKnown = true) {l : BitVec 8} (hl : l.toNat ≠ s.strobeLevels) :
    exec (.strobeFault l) s = .next ((s.raise 0x0630 0 l.toNat).quiet).settle :=
  if_pos (by simp [ha, hk, hl])

theorem autoDry_eq (s : State) : s.autoDry =
    if s.print.dryHead = false ∧ u8 s.wetBead 2 = 1 ∧ s.print.dry = none ∧ s.base = .run then s.dryStart none (u16 s.wetBead 4)
    else s := by
  refine if_congr ?_ rfl rfl
  simp [and_assoc]

end

/-- Settles O33: each event and command of the head is one operation, of which its section says what it shows and leaves alone. -/
theorem headWork : Obligations.HeadWork := by
  refine ⟨fun s m r low hid hp => ?probe, fun tag m s c hc ho hs hm => ?headProbe, fun s f => rfl, fun s leak hleak => ?leak, autoDry_eq,
    fun leak s t hp => ?probed, fun leak s j hp hf hj => ?told, fun tag s c hc ho hs hm => ?dryHead, fun m s d hd => ?pulse,
    fun leak s d hd => ?measure, fun s d st leak => ?dryEnd,
    fun s hd hr hready hq hj hv hl hn => ⟨s.recheckBegun, exec_headRecheck hd hr hready hq hj hv hl hn, rd_wr_of_lt _ (by decide),
      only_wr (only_refl _ _)⟩,
    fun m leak s hr => ?recheck, fun l s ha hk hl => exec_strobeFault ha hk hl⟩
  case probe =>
    intro t
    rw [probeHead_measured hid hp]
    refine ⟨mean_probeShown t (probeResult_lt (congrArg Prod.fst hp)) low, only_probeShown t r low, fun g hg => ?_, fun hl => ?_⟩
    · rw [State.probeFault, hg]
    · rw [hl]
      rfl
  case headProbe =>
    have hexec := exec_headProbe (m := m) hc ho hs hm
    refine ⟨fun f hf => ?_, fun hn => ⟨_, ?_, probeWaits_spec s m tag⟩⟩
    · rw [hexec, hf]
    · rw [hexec, hn]
  case leak =>
    intro l x
    obtain ⟨hl, hwet⟩ := leakSeen_fields s hleak
    have hprint := print_leakSeen s leak
    have hled := led_leakSeen s leak
    refine ⟨hl, hwet, fun hw => ?_, fun hd => ?_, only_leakSeen s leak⟩
    · have hw : s.leakWet leak = true := decide_eq_true hw
      rw [hw] at hprint hled
      refine ⟨hprint, event_leakSeen hw, ?_⟩
      rw [hled]
      exact Store.get_set_same _ _ _ _
    · have hw : s.leakWet leak = false := decide_eq_false (Nat.not_lt.mpr hd)
      rw [hw] at hprint hled
      exact ⟨hprint, hled⟩
  case probed =>
    intro l wet
    obtain ⟨hl, hwet⟩ := leakProbed_fields s leak.isLt
    refine ⟨_, exec_leakageMeasured_probe hp leak, ?_, ?_, ?_, hasFault_leakProbed (mem_probeClears (by decide)),
      hasFault_leakProbed (mem_probeClears (by decide)), fun hd => hasFault_leakProbed ?_, only_leakProbed s leak.toNat⟩
    · exact (State.rd_wr_apart _ _ _ _ (by decide)).trans hl
    · exact (State.rd_wr_apart _ _ _ _ (by decide)).trans hwet
    · rw [State.printIdle, State.wr_print, print_leakProbed, State.leakWet]
      simp only [decide_eq_true_eq]
      rfl
    · rw [show s.leakWet leak.toNat = false from decide_eq_false hd]
      decide
  case told =>
    intro l
    obtain ⟨hl, hwet, hdry⟩ := leakTold_fields s j.tag leak.isLt
    obtain ⟨i, hi⟩ : ∃ i, s.job? j.tag = some i := Option.isSome_iff_exists.mp
      (List.find?_isSome.mpr ⟨j, List.mem_of_find?_eq_some hj, beq_self_eq_true _⟩)
    have hjob := job?_leakTold leak.toNat hi
    refine ⟨_, exec_leakageMeasured_job hp hf hj leak, hl, hwet, hdry, ?_, ?_, only_leakTold s j.tag leak.toNat⟩
    · rw [hjob]
      rfl
    · rw [hjob]
      rfl
  case dryHead =>
    have hexec := exec_dryHead hc ho hs hm
    refine ⟨fun hp => hexec.trans (if_pos hp), fun hp => ?_⟩
    obtain ⟨hsince, hstate, hprint, honly⟩ := dryStart_spec (s.start tag) (some tag) (if c.p0 = 0 then u16 s.wetBead 4 else c.p0)
    exact ⟨_, hexec.trans (if_neg (Nat.not_lt.mpr hp)), hsince, hstate, hprint, honly⟩
  case pulse =>
    exact ⟨s.dryTimed d, _, rd_dryTimed s d, only_wr (only_refl _ s), exec_dryPulse hd m, dryFired_rest, only_dryFired _ m⟩
  case measure =>
    intro l
    have hmeasure := exec_dryMeasure hd leak
    have hlast := exec_wetHead hd leak
    refine ⟨fun hw => ?_, fun hw => ?_⟩
    · refine ⟨s.dryWet leak.toNat, rd_leak_dryWet leak.isLt, congrArg Print.dryHead print_dryWet, fun hk => ?_, fun hk => ?_, only_dryWet,
        hmeasure.trans (by rw [if_pos hw]), hlast.trans (by rw [if_pos hw])⟩
      · rw [dryWet_known hk]
        exact only_leakShown s leak.toNat
      · rw [dryWet_found hk]
        exact ⟨wet_headFound _ true, event_foundWet (only_leakShown s leak.toNat).2.1 State.wr_part⟩
    · have hw := Nat.not_lt.mpr hw
      obtain ⟨hleak, hdry⟩ := dryFound_fields (d := d) leak.isLt
      refine ⟨s.dryFound d leak.toNat, hmeasure.trans (by rw [if_neg hw]), hlast.trans (by rw [if_neg hw]), hleak, hdry, event_dryFound,
        fun ht => ?_, only_dryFound⟩
      rw [State.dryFound, if_pos ht]
      exact hasFault_clearFault _ _
  case dryEnd =>
    refine ⟨s.dryStopped d, only_same (only_dryStopped s d) fun y => y.print.dry, rd_wr_of_lt _ ⟨?_, by decide⟩, only_dryStopped s d, ?_⟩
    · show min 65535 _ < 65536
      omega
    · refine (dryEnd_eq s d st leak).trans ?_
      cases d.tag <;> rfl
  case recheck =>
    obtain ⟨hsince, hprint, honly⟩ := recheckOver_spec s
    have hexec := exec_headRecheckDone hr m leak
    refine ⟨s.recheckOver, hsince, hprint, honly, fun f hf => ?_, fun hn => ?_⟩
    · rw [hexec, hf]
    · intro old new w
      obtain ⟨htold, hquiet⟩ := shiftTold_spec w old new
      refine ⟨w.shiftTold old new, ?_, htold, hquiet⟩
      rw [hexec, hn]

end Sys2Proof.Machine
end

section
/-! PROOFS. THERM's sources and their marks, its table of thresholds, and the temperatures that are taken. -/

namespace Sys2Proof.Machine

-- In parallel these proofs take more memory than the check allows.
set_option Elab.async false

/-! ### Sources and their marks (R304) -/

theorem getD_modify {α : Type} (l : List α) {i : Nat} (f : α → α) (d : α) (h : i < l.length) :
    (l.modify i f).getD i d = f (l.getD i d) := by
  simp [List.getD_eq_getElem?_getD, h]

theorem thermSrc_modSrc {s : State} {i : Nat} (f : ThermSrc → ThermSrc) (h : i < s.therm.srcs.length) :
    (s.modSrc i f).thermSrc i = f (s.thermSrc i) := getD_modify _ f _ h

theorem marked_congr {s t : State} (h : ∀ f : Fld, t.rd f = s.rd f) (src : Nat) : t.marked src = s.marked src := by
  simp only [State.marked, State.rdBit, h]

/-- The register field of the mark that a code out of range sets. -/
def markFld (code : Nat) : Fld := if 4060 < code then THERM.SENSOR_OPEN else THERM.SENSOR_SHORT

/-- A source is marked for a code out of range, and its good conversions count from none. -/
def State.sourceMarked (s : State) (src code : Nat) : State :=
  (s.modSrc src fun x => { x with good := 0 }).wrBit (markFld code) src true

theorem markSource_out {s : State} {src code : Nat} (h : 4060 < code ∨ code < 35) : s.markSource src code =
    if s.rdBit (markFld code) src then s.sourceMarked src code
    else if src = 5 then ((s.sourceMarked src code).raise 0x0401 0 (src + code * 65536)).headThermOpen
    else (s.sourceMarked src code).raise 0x0401 0 (src + code * 65536) := by
  refine (if_pos (by simpa using h)).trans ?_
  simp only [beq_iff_eq]
  rfl

theorem sourceMarked_bits {s : State} {src code : Nat} (hs : src < 6) (h : 4060 < code ∨ code < 35) :
    (s.sourceMarked src code).rdBit THERM.SENSOR_OPEN src = (s.rdBit THERM.SENSOR_OPEN src || decide (4060 < code)) ∧
    (s.sourceMarked src code).rdBit THERM.SENSOR_SHORT src = (s.rdBit THERM.SENSOR_SHORT src || decide (code < 35)) := by
  have hset (f : Fld) (hw : src < f.wid) (hl : f.lo + f.wid ≤ 32) (t : State) : (t.wrBit f src true).rdBit f src = true := by
    rw [rdBit_wrBit t f true src hw hl, if_pos rfl]
  have hkept (f g : Fld) (ha : f.apart g = true) (t : State) : (t.wrBit f src true).rdBit g src = t.rdBit g src := by
    rw [State.rdBit, State.wrBit, State.rd_wr_apart _ _ _ _ ha, State.rdBit]
  unfold State.sourceMarked markFld
  by_cases hopen : 4060 < code
  · have hshort : ¬code < 35 := by omega
    rw [if_pos hopen, hset _ hs (by decide), hkept _ _ (by decide), decide_eq_true hopen, decide_eq_false hshort, Bool.or_true,
      Bool.or_false]
    exact ⟨rfl, rfl⟩
  · rw [if_neg hopen, hset _ hs (by decide), hkept _ _ (by decide), decide_eq_false hopen, decide_eq_true (h.resolve_left hopen),
      Bool.or_true, Bool.or_false]
    exact ⟨rfl, rfl⟩

theorem only_sourceMarked (s : State) (src code : Nat) : Safety.only [THERM.SENSOR_OPEN, THERM.SENSOR_SHORT]
    { s with therm := { s.therm with srcs := (s.sourceMarked src code).therm.srcs } } (s.sourceMarked src code) := by
  refine only_wrBit (only_refl _ (s.modSrc src fun x => { x with good := 0 })) ?_
  unfold markFld
  split <;> simp

section
variable {s : State} {src code : Nat} (hlo : 35 ≤ code) (hhi : code ≤ 4060) (hm : s.marked src = true)
include hlo hhi hm

theorem markSource_counts (h : (s.thermSrc src).good < 7) :
    s.markSource src code = s.modSrc src fun x => { x with good := (s.thermSrc src).good + 1 } := by
  refine (if_neg (by simpa using ⟨hhi, hlo⟩)).trans ((if_pos hm).trans ?_)
  exact if_pos (Nat.succ_lt_succ h)

/-- The eighth good conversion in a row clears the marks. -/
theorem marked_markSource_eighth (hs : src < 6) (h : (s.thermSrc src).good = 7) : (s.markSource src code).marked src = false := by
  have hclear (t : State) : ((t.wrBit THERM.SENSOR_OPEN src false).wrBit THERM.SENSOR_SHORT src false).marked src = false := by
    rw [State.marked, rdBit_wrBit _ THERM.SENSOR_SHORT false src hs (by decide), if_pos rfl, State.rdBit, State.wrBit,
      State.rd_wr_apart _ _ _ _ (by decide), ← State.rdBit, rdBit_wrBit _ THERM.SENSOR_OPEN false src hs (by decide), if_pos rfl,
      Bool.or_false]
  have heighth : s.markSource src code = _ :=
    (if_neg (by simpa using ⟨hhi, hlo⟩)).trans ((if_pos hm).trans (if_neg (by rw [h]; decide)))
  rw [heighth]
  dsimp only
  split
  · exact (marked_congr (fun f => State.clearFault_rd f) src).trans (hclear _)
  · exact hclear _

end

/-! ### Thresholds (R311, R312) -/

/-- What entry `k` of the table is after it was evaluated. -/
def State.entryNext (s : State) (k : Nat) : ThermEntry :=
  let st := s.therm.entries.getD k {}
  if !st.crossed then (if s.entryHot (s.thermEntry k) then { crossed := true, since := s.clock } else st)
  else if s.entryCool (s.thermEntry k) && st.since + u8 (s.beadD 0x0482 [10]) 0 * 1000000 ≤ s.clock then { st with crossed := false }
  else st

theorem getD_evalEntry {s : State} {k : Nat} (hk : k < 16) (h : s.therm.entries.length = 16) (j : Nat) :
    (s.evalEntry k).therm.entries.getD j {} = if j = k then s.entryNext k else s.therm.entries.getD j {} := by
  have hentries : (s.evalEntry k).therm.entries = s.therm.entries.set k (s.entryNext k) := by
    have hfull : s.therm.entries ++ List.replicate (16 - s.therm.entries.length) ({} : ThermEntry) = s.therm.entries := by simp [h]
    exact congrArg (fun l => l.set k (s.entryNext k)) hfull
  rw [hentries, List.getD_eq_getElem?_getD, List.getElem?_set]
  by_cases hj : j = k
  · simp [hj, h, hk]
  · simp [hj, Ne.symm hj]

section
variable {s : State} {k : Nat}

theorem entryNext_idle (hc : (s.therm.entries.getD k {}).crossed = false) :
    s.entryNext k = if s.entryHot (s.thermEntry k) then { crossed := true, since := s.clock } else s.therm.entries.getD k {} :=
  if_pos (by rw [hc]; rfl)

theorem entryNext_crossed (hc : (s.therm.entries.getD k {}).crossed = true) : s.entryNext k =
    if s.entryCool (s.thermEntry k) = true ∧
        (s.therm.entries.getD k {}).since + u8 (s.beadD 0x0482 [10]) 0 * 1000000 ≤ s.clock then
      { s.therm.entries.getD k {} with crossed := false }
    else s.therm.entries.getD k {} :=
  (if_neg (by rw [hc]; exact Bool.false_ne_true)).trans (if_congr (by simp) rfl rfl)

end

/-! ### Temperatures (R281, R306) -/

theorem tempFld_wide {src : Nat} (h : src < 6) : (tempFld src).lo + (tempFld src).wid ≤ 32 ∧ (tempFld src).wid = 16 := by
  revert src
  decide

/-- Beside the source and its register, a temperature of the die alone is seen elsewhere. -/
theorem takeTemp_eq (s : State) (src : Nat) (t : Int) : s.takeTemp src t =
    { (s.wrI (tempFld src) t).pushTemp src t with bg := if src = 0 then (s.dieSeen t).bg else s.bg } := by
  unfold State.takeTemp
  by_cases h : src = 0
  · simp only [h, beq_self_eq_true, if_true]
    rfl
  · simp only [beq_iff_eq, h, if_false]
    rfl

theorem rd_takeTemp (s : State) (src : Nat) (t : Int) (f : Fld) : (s.takeTemp src t).rd f = (s.wrI (tempFld src) t).rd f := by
  rw [takeTemp_eq]
  rfl

theorem only_takeTemp (s : State) (src : Nat) (t : Int) : Safety.only [tempFld src]
    { s with therm := { s.therm with srcs := (s.takeTemp src t).therm.srcs }, bg := (s.takeTemp src t).bg } (s.takeTemp src t) := by
  refine ⟨?_, fun f hf => ?_, fun m a => ?_, fun a => ?_⟩
  · rw [takeTemp_eq]
    rfl
  · rw [rd_takeTemp]
    exact State.rd_wr_apart _ _ _ _ (hf _ (List.mem_singleton_self _))
  · rw [takeTemp_eq]
    cases m <;> rfl
  · rw [takeTemp_eq]
    rfl

theorem rdI_takeTemp (s : State) {src : Nat} {t : Int} (hs : src < 6) (hlo : -32768 ≤ t) (hhi : t < 32768) :
    (s.takeTemp src t).rdI (tempFld src) = t := by
  obtain ⟨hin, hwid⟩ := tempFld_wide hs
  rw [State.rdI, rd_takeTemp, ← State.rdI]
  refine rdI_wrI s ?_ ?_ hin
  · rw [hwid]
    omega
  · rw [hwid]
    omega

theorem srcTemp_takeTemp {s : State} {src : Nat} (t : Int) (h : src < s.therm.srcs.length) :
    (s.takeTemp src t).srcTemp src = some t := by
  rw [takeTemp_eq]
  have hsrc : ((s.wrI (tempFld src) t).pushTemp src t).thermSrc src = _ := thermSrc_modSrc (s := s.wrI (tempFld src) t) _ h
  show ((((s.wrI (tempFld src) t).pushTemp src t).thermSrc src).samples.head?).map (·.2) = some t
  rw [hsrc]
  rfl

theorem bg_takeTemp_other (s : State) {src : Nat} (t : Int) (h : src ≠ 0) : (s.takeTemp src t).bg = s.bg := by
  rw [takeTemp_eq, if_neg h]

theorem bg_takeTemp_die (s : State) (t : Int) : (s.takeTemp 0 t).bg = (s.dieSeen t).bg := by
  rw [takeTemp_eq, if_pos rfl]

/-- R281: a die 5 °C from the one at the last calibrations. -/
theorem dieSeen_due {s : State} {t d : Int} (hf : s.bg.frcDie = some d) (ha : s.bg.adcDie = some d) :
    ((s.dieSeen t).bg.frcDue = true ↔ s.bg.frcDue = true ∨ 50 ≤ (t - d).natAbs) ∧
    ((s.dieSeen t).bg.adcDue = true ↔ s.bg.adcDue = true ∨ 50 ≤ (t - d).natAbs) := by
  simp [State.dieSeen, hf, ha]

end Sys2Proof.Machine
end

section
/-! PROOFS. The telemetry ring, and the words that SAMPLE writes. -/

namespace Sys2Proof.Machine

-- In parallel these proofs take more memory than the check allows.
set_option Elab.async false

/-! ### Writes of whole words of keep RAM (R252, R254) -/

/-- Nothing differs between `s` and `t` but keep RAM and its marks of errors, of which none is new. -/
structure KeepStored (s t : State) : Prop where
  rest : t = { s with keep := t.keep, keepUe := t.keepUe, keepCe := t.keepCe }
  ue : ∀ w ∈ t.keepUe, w ∈ s.keepUe

theorem KeepStored.trans {s t u : State} (h : KeepStored s t) (k : KeepStored t u) : KeepStored s u := by
  refine ⟨?_, fun w hw => h.ue w (k.ue w hw)⟩
  rw [k.rest, h.rest]

/-- The words that a range of whole words touches lie in it. -/
theorem words_whole {m : Ram} {a n w : Nat} (ha : m.word ∣ a) (hn : m.word ∣ n) (hw : w ∈ m.words a n) :
    a ≤ m.word * w ∧ m.word * w + m.word ≤ a + n := by
  obtain ⟨i, rfl⟩ := ha
  obtain ⟨k, rfl⟩ := hn
  have hpos : 0 < m.word := by cases m <;> decide
  unfold Ram.words at hw
  split at hw
  · exact absurd hw List.not_mem_nil
  · next hne =>
    obtain ⟨j, hj, rfl⟩ := List.mem_map.mp hw
    have hk : 0 < k := Nat.pos_of_ne_zero fun h => hne (by rw [h, Nat.mul_zero])
    have hlast : (m.word * i + m.word * k - 1) / m.word = i + k - 1 := by
      rw [← Nat.mul_add, Nat.div_eq_iff hpos]
      cases m <;> simp only [Ram.word] <;> omega
    rw [hlast, Nat.mul_div_cancel_left _ hpos, List.mem_range] at hj
    rw [Nat.mul_div_cancel_left _ hpos]
    cases m <;> simp only [Ram.word] <;> omega

theorem keepStored_writeMem (s : State) {a : Nat} {bs : List Nat} (ha : 4 ∣ a) (hn : 4 ∣ bs.length) :
    KeepStored s (s.writeMem .keep a bs) := by
  refine List.foldlRecOn (motive := fun t => KeepStored s t) _ _ ⟨rfl, fun _ h => h⟩ fun t ht w hw => ht.trans ?_
  obtain ⟨hlo, hhi⟩ := words_whole (m := .keep) ha hn hw
  have hwhole : min (a + bs.length) (Ram.keep.word * w + Ram.keep.word) - max a (Ram.keep.word * w) = Ram.keep.word := by omega
  unfold State.writeWord
  extract_lets lo hi part
  rw [if_pos hwhole]
  exact ⟨rfl, fun _ h => List.mem_of_mem_filter h⟩

/-! ### The telemetry ring (R298, R299) -/

/-- The entry of a telemetry sample. -/
def State.telemEntry (s : State) (vin : Nat) (m : TempSample) : List Nat :=
  let thm (n code : Nat) : List Nat := leBytes 2 (if s.thmUsed n then toBits 16 (s.thmTemp n (s.adcCode code)) else 0x8000)
  leBytes 4 s.onSeconds ++ leBytes 2 vin ++ leBytes 2 m.die.toNat ++ thm 0 m.thm0.toNat ++ thm 1 m.thm1.toNat ++
    thm 2 m.thm2.toNat ++ thm 3 m.thm3.toNat

section
variable (s : State) (vin : Nat) (m : TempSample)

theorem length_telemEntry : (s.telemEntry vin m).length = 16 := by
  simp only [State.telemEntry, List.length_append, length_leBytes]

theorem telemetry_eq : s.telemetry vin m =
    (s.writeMem .keep (0x200 + 16 * s.rd CORE.BG_TELEM_NEXT) (s.telemEntry vin m)).wr CORE.BG_TELEM_NEXT
      ((s.rd CORE.BG_TELEM_NEXT + 1) % 64) := rfl

theorem keepStored_telemetry :
    KeepStored s (s.writeMem .keep (0x200 + 16 * s.rd CORE.BG_TELEM_NEXT) (s.telemEntry vin m)) :=
  keepStored_writeMem s (by omega) (by rw [length_telemEntry]; decide)

theorem next_telemetry : (s.telemetry vin m).rd CORE.BG_TELEM_NEXT = (s.rd CORE.BG_TELEM_NEXT + 1) % 64 :=
  rd_wr_of_lt _ ⟨Nat.mod_lt _ (by decide), by decide⟩

theorem regsBut_telemetry : Safety.regsBut [CORE.BG_TELEM_NEXT] s (s.telemetry vin m) := by
  have hstored := keepStored_telemetry s vin m
  have hregs : (s.writeMem .keep (0x200 + 16 * s.rd CORE.BG_TELEM_NEXT) (s.telemEntry vin m)).regs = s.regs := by rw [hstored.rest]
  exact regsBut_trans (regsBut_of_regs hregs) (only_wr (only_refl _ _)).2.1

/-- Beside the registers a telemetry sample changes keep RAM and its marks of errors alone. -/
theorem telemetry_same {α : Type} (f : State → α)
    (hf : ∀ (x : State) (r : Store Word) (k : Store Byte) (ue ce : List Nat),
      f { x with regs := r, keep := k, keepUe := ue, keepCe := ce } = f x := by intros; rfl) : f (s.telemetry vin m) = f s := by
  have hstored := (keepStored_telemetry s vin m).rest
  rw [telemetry_eq, State.wr, State.setReg, hstored]
  exact hf s _ _ _ _

variable {s} in
theorem telemetry_rest (hu : s.keepUe = []) : s.telemetry vin m =
    { s with regs := (s.telemetry vin m).regs, keep := (s.telemetry vin m).keep, keepCe := (s.telemetry vin m).keepCe } := by
  obtain ⟨hrest, hue⟩ := keepStored_telemetry s vin m
  rw [telemetry_eq]
  generalize s.writeMem .keep (0x200 + 16 * s.rd CORE.BG_TELEM_NEXT) (s.telemEntry vin m) = t at hrest hue ⊢
  have hclean : t.keepUe = s.keepUe := by
    rw [hu]
    exact List.eq_nil_iff_forall_not_mem.mpr fun w hw => List.not_mem_nil (hu ▸ hue w hw)
  rw [hclean] at hrest
  rw [State.wr, State.setReg]
  rw [hrest]

variable {s} in
theorem byte_telemetry (hu : s.keepUe = []) (x : Nat) : (s.telemetry vin m).byte .keep x =
    if 0x200 + 16 * s.rd CORE.BG_TELEM_NEXT ≤ x ∧ x < 0x210 + 16 * s.rd CORE.BG_TELEM_NEXT then
      (s.telemEntry vin m).getD (x - (0x200 + 16 * s.rd CORE.BG_TELEM_NEXT)) 0 % 256
    else s.byte .keep x := by
  have hkept (w : Nat) : s.wordKept .keep (0x200 + 16 * s.rd CORE.BG_TELEM_NEXT) (s.telemEntry vin m).length w = false :=
    wordKept_eq_false_iff.mpr (.inl (by simp [State.ue, hu]))
  have hbyte := byte_writeMem s .keep (0x200 + 16 * s.rd CORE.BG_TELEM_NEXT) (s.telemEntry vin m) x
  rw [hkept, length_telemEntry] at hbyte
  rw [telemetry_eq]
  refine hbyte.trans (if_congr ?_ rfl rfl)
  rw [eq_self, and_true]
  omega

theorem take_telemEntry :
    (s.telemEntry vin m).take 8 = leBytes 4 s.onSeconds ++ leBytes 2 vin ++ leBytes 2 m.die.toNat := by
  have hlen : (leBytes 4 s.onSeconds ++ leBytes 2 vin ++ leBytes 2 m.die.toNat).length = 8 := by
    simp only [List.length_append, length_leBytes]
  rw [State.telemEntry, List.append_assoc _ _ (leBytes 2 _), List.append_assoc _ _ (_ ++ _), List.append_assoc _ _ (_ ++ _)]
  exact List.take_left' hlen

theorem telemEntry_lt {b : Nat} (h : b ∈ s.telemEntry vin m) : b < 256 := by
  simp only [State.telemEntry, List.mem_append] at h
  rcases h with (((((h | h) | h) | h) | h) | h) | h <;> exact leBytes_lt h

variable {s} in
/-- The time, VIN and the die stand at the start of the entry. -/
theorem bytes_telemetry (hu : s.keepUe = []) : (s.telemetry vin m).bytes .keep (0x200 + 16 * s.rd CORE.BG_TELEM_NEXT) 8 =
    leBytes 4 s.onSeconds ++ leBytes 2 vin ++ leBytes 2 m.die.toNat := by
  have hlen := length_telemEntry s vin m
  rw [← take_telemEntry, bytes_eq_map]
  refine List.ext_getElem (by simp [hlen]) fun i hi _ => ?_
  have hi : i < 8 := by simpa using hi
  have hin : i < (s.telemEntry vin m).length := by omega
  have hbyte := byte_telemetry vin m hu (0x200 + 16 * s.rd CORE.BG_TELEM_NEXT + i)
  rw [if_pos (by omega), Nat.add_sub_cancel_left, List.getD_eq_getElem _ _ hin,
    Nat.mod_eq_of_lt (telemEntry_lt s vin m (List.getElem_mem hin))] at hbyte
  rw [List.getElem_map, List.getElem_range, List.getElem_take, hbyte]

end

/-! ### The compensation (R290, R322) -/

theorem only_lfxoComp (s : State) (die : Int) : Safety.only [THERM.LFXO_PPM_CORR]
    { s with bg := { s.bg with corr := (s.lfxoComp die).bg.corr, gapDie := some die } } (s.lfxoComp die) :=
  only_wr (only_refl _ _)

theorem regsBut_lfxoComp (s : State) (die : Int) : Safety.regsBut [THERM.LFXO_PPM_CORR] s (s.lfxoComp die) :=
  regsBut_of_only (only_lfxoComp s die) rfl

/-! ### TELEMETRY_SAMPLE (R298 to R301) -/

/-- The compensation follows the die, and an entry of the ring is written. -/
def State.telemetered (s : State) (vin : BitVec 16) (m : TempSample) : State :=
  (s.lfxoComp m.die.toInt).beamShare.telemetry vin.toNat m

/-- Before the entry is written, the compensation and the share of the beam have changed. -/
theorem compensated_rest (s : State) (die : Int) : (s.lfxoComp die).beamShare =
    { s with regs := (s.lfxoComp die).beamShare.regs, free := s.free + 1,
             bg := { s.bg with corr := (s.lfxoComp die).beamShare.bg.corr, gapDie := some die } } := by
  have hcorr : (s.lfxoComp die).beamShare.bg.corr = (s.lfxoComp die).bg.corr :=
    only_same (only_beamShare (s.lfxoComp die)) fun x => x.bg.corr
  have hshare := (only_beamShare (s.lfxoComp die)).1
  rw [(only_lfxoComp s die).1] at hshare
  rw [hcorr]
  exact hshare

theorem regsBut_compensated (s : State) (die : Int) :
    Safety.regsBut [CORE.BG_SHARE_PEAK, THERM.LFXO_PPM_CORR] s (s.lfxoComp die).beamShare :=
  regsBut_trans (regsBut_mono (regsBut_lfxoComp s die) (by simp))
    (regsBut_mono (regsBut_of_only (only_beamShare (s.lfxoComp die)) rfl) (by simp))

theorem regsBut_telemetered (s : State) (v : BitVec 16) (m : TempSample) : Safety.regsBut
    [CORE.BG_SHARE_PEAK, CORE.BG_TELEM_NEXT, THERM.LFXO_PPM_CORR, CORE.ECC_CE_KEEP] s (s.telemetered v m) :=
  regsBut_trans (regsBut_mono (regsBut_compensated s m.die.toInt) (by simp)) (regsBut_mono (regsBut_telemetry _ v.toNat m) (by simp))

section
variable {s : State} (v : BitVec 16) (m : TempSample) (hu : s.keepUe = [])
include hu

theorem telemetered_rest : s.telemetered v m =
    { s with regs := (s.telemetered v m).regs, keep := (s.telemetered v m).keep, keepCe := (s.telemetered v m).keepCe,
             free := s.free + 1, bg := { s.bg with corr := (s.telemetered v m).bg.corr, gapDie := some m.die.toInt } } := by
  have hcomp := compensated_rest s m.die.toInt
  unfold State.telemetered
  generalize (s.lfxoComp m.die.toInt).beamShare = t at hcomp ⊢
  have hclean : t.keepUe = [] := (congrArg State.keepUe hcomp).trans hu
  have hcorr : (t.telemetry v.toNat m).bg.corr = t.bg.corr := telemetry_same t _ m fun x => x.bg.corr
  rw [hcorr]
  exact (telemetry_rest v.toNat m hclean).trans (congrArg (fun x : State => { x with
    regs := (t.telemetry v.toNat m).regs, keep := (t.telemetry v.toNat m).keep, keepCe := (t.telemetry v.toNat m).keepCe }) hcomp)

theorem telemetered_ring : (s.telemetered v m).rd CORE.BG_TELEM_NEXT = (s.rd CORE.BG_TELEM_NEXT + 1) % 64 ∧
    (s.telemetered v m).bytes .keep (0x200 + 16 * s.rd CORE.BG_TELEM_NEXT) 8 =
      leBytes 4 s.onSeconds ++ leBytes 2 v.toNat ++ leBytes 2 m.die.toNat ∧
    ∀ a : Nat, (a < 0x200 + 16 * s.rd CORE.BG_TELEM_NEXT ∨ 0x210 + 16 * s.rd CORE.BG_TELEM_NEXT ≤ a) →
      (s.telemetered v m).byte .keep a = s.byte .keep a := by
  have hcomp := compensated_rest s m.die.toInt
  have hnext := regsBut_compensated s m.die.toInt CORE.BG_TELEM_NEXT (by decide)
  unfold State.telemetered
  generalize (s.lfxoComp m.die.toInt).beamShare = t at hcomp hnext ⊢
  have hclean : t.keepUe = [] := (congrArg State.keepUe hcomp).trans hu
  have hon : t.onSeconds = s.onSeconds := (congrArg State.onSeconds hcomp :)
  have hbyte (a : Nat) : t.byte .keep a = s.byte .keep a := (congrArg (fun x => x.byte .keep a) hcomp :)
  rw [← hnext]
  refine ⟨next_telemetry t _ m, hon ▸ bytes_telemetry v.toNat m hclean, fun a ha => ?_⟩
  rw [byte_telemetry v.toNat m hclean, if_neg (by omega), hbyte]

end

section
variable {s : State} (v : BitVec 16) (m : TempSample) (ha : s.awake = true)
include ha

theorem exec_telemetrySample_on (ht : s.rd CORE.BG_CTL_TELEM_EN = 1) : exec (.telemetrySample v m) s =
    .next (((s.telemetered v m).takeTelemetry m).thermNow fun _ => true).settle := by
  have hflag : (s.lfxoComp m.die.toInt).flag CORE.BG_CTL_TELEM_EN = true :=
    flag_of_rd_one ((regsBut_lfxoComp s _ _ (by decide)).trans ht)
  exact (if_pos ha).trans (if_pos hflag)

theorem exec_telemetrySample_off (ht : s.rd CORE.BG_CTL_TELEM_EN = 0) :
    exec (.telemetrySample v m) s = .next (s.lfxoComp m.die.toInt) := by
  have hflag : (s.lfxoComp m.die.toInt).flag CORE.BG_CTL_TELEM_EN = false :=
    flag_of_rd_zero ((regsBut_lfxoComp s _ _ (by decide)).trans ht)
  exact (if_pos ha).trans (if_neg (by rw [hflag]; exact Bool.false_ne_true))

end

/-! ### SAMPLE (R309) -/

section
variable {tag : Fin 64} {s : State} {c : Cmd} (hc : s.cmd? tag = some c) (ho : c.op = 0x40) (hs : c.started = false)
  (ha : s.awake = true) (hr : s.ready .therm = true) (hf : s.firstIn tag .therm = true) (codes : List (BitVec 16))
include hc ho hs ha hr hf

theorem exec_sample_ok (hk : s.sampleOk c = true) (hw : s.mayWrite .therm c.p1 c.sampleLen = true) :
    let cs := codes.map fun x => s.adcCode x.toNat 16
    exec (.sample tag codes) s = .next (((s.writeMem .sram c.p1 (s.sampleWords c.p0 cs)).sampleMarks c.p0 cs).complete tag stOK
      (((List.range 32).filter fun k => c.p0.testBit k).length) 0).settle := by
  show execSample tag codes s = _
  simp [execSample, hc, ho, hs, ha, hr, hf, hk, hw]

theorem exec_sample_bad (hk : s.sampleOk c = false) : exec (.sample tag codes) s = .next (s.endOpen tag stBadParam).settle := by
  show execSample tag codes s = _
  simp [execSample, hc, ho, hs, ha, hr, hf, hk]

end

end Sys2Proof.Machine
end

section
/-! PROOFS. The steps of the TALLY burst, and what each of them leaves as it was. -/

namespace Sys2Proof.Machine

-- In parallel these proofs take more memory than the check allows.
set_option Elab.async false

/-! ### What a burst leaves as it was -/

/-- State beside the registers that no step of a burst touches, with the count of bursts, which its first step advances. -/
abbrev State.burstRest (s : State) := (s.wake.entering, s.cmds, s.queues, s.otp, s.sram, s.bg.bursts)

/-- Steps of a burst lead from `s` to `t`: TALLY is not left, a wake that has begun stays, and nothing of `burstRest` and no register
field apart from `w` has changed. -/
structure InBurst (w : List Fld) (s t : State) : Prop where
  regs : Safety.regsBut w s t
  rest : t.burstRest = s.burstRest
  base : t.base = .tally
  waking : s.wake.waking = true → t.wake.waking = true

namespace InBurst
variable {w : List Fld} {s t u : State}

theorem refl (w : List Fld) (h : s.base = .tally) : InBurst w s s := ⟨fun _ _ => rfl, rfl, h, id⟩

theorem trans (h : InBurst w s t) (k : InBurst w t u) : InBurst w s u :=
  ⟨regsBut_trans h.regs k.regs, k.rest.trans h.rest, k.base, fun hw => k.waking (h.waking hw)⟩

theorem mono {w' : List Fld} (h : InBurst w s t) (hw : ∀ g ∈ w, g ∈ w') : InBurst w' s t :=
  ⟨regsBut_mono h.regs hw, h.rest, h.base, h.waking⟩

/-- A change that lies elsewhere. -/
theorem same (h : InBurst w s t) (hregs : u.regs = t.regs) (hrest : (u.burstRest, u.base, u.wake) = (t.burstRest, t.base, t.wake)) :
    InBurst w s u := by
  have hwake : u.wake = t.wake := congrArg (fun x => x.2.2) hrest
  exact ⟨regsBut_trans h.regs (regsBut_of_regs hregs), (congrArg Prod.fst hrest).trans h.rest,
    (congrArg (fun x => x.2.1) hrest).trans h.base, fun hw => by rw [hwake]; exact h.waking hw⟩

theorem ofOnly (h : InBurst w s t) (k : Safety.only w t u) : InBurst w s u := by
  have hwake : u.wake = t.wake := only_same k State.wake
  exact ⟨regsBut_trans h.regs k.2.1, (only_same k State.burstRest).trans h.rest, (only_same k State.base).trans h.base,
    fun hw => by rw [hwake]; exact h.waking hw⟩

theorem wr (h : InBurst w s t) {f : Fld} (v : Nat) (hf : f ∈ w) : InBurst w s (t.wr f v) := h.ofOnly (only_wr (only_refl w t) hf)

theorem entering (h : InBurst w s t) : t.wake.entering = s.wake.entering := congrArg Prod.fst h.rest

theorem foldl {α : Type} {f : State → α → State} (l : List α) (h : InBurst w s t)
    (hf : ∀ x a, InBurst w s x → a ∈ l → InBurst w s (f x a)) : InBurst w s (l.foldl f t) :=
  List.foldlRecOn (motive := fun x => InBurst w s x) _ _ h fun x hx a ha => hf x a hx ha

theorem ofCeOnly (hb : s.base = .tally) (h : CeOnly w s t) : InBurst w s t :=
  ((refl w hb).same (u := { s with sramCe := t.sramCe, keepCe := t.keepCe }) rfl rfl).ofOnly h

/-- The device begins to wake. -/
theorem woken (h : InBurst w s t) : InBurst w s (t.setWake fun x => { x with waking := true }) :=
  ⟨h.regs, h.rest, h.base, fun _ => rfl⟩

end InBurst

/-! ### Samples in TALLY (R300, R304, R314) -/

/-- The fields that the conversions of a burst and their evaluation may change. -/
abbrev burstFlds : List Fld := (List.range 5).map tempFld ++
  [THERM.SENSOR_OPEN, THERM.SENSOR_SHORT, CORE.MODE_WAKE_SRC, THERM.LFXO_PPM_CORR, THERM.STAT_CROSSED, LEDGER.LOSS_DROPPED]

/-- A fault in TALLY waits for the wake. -/
def State.faultWaits (s : State) (code p1 p2 : Nat) : State := s.setWake fun w => { w with faults := w.faults ++ [(code, p1, p2)] }

theorem raise_tally {s : State} (hb : s.base = .tally) (code p1 p2 : Nat) : s.raise code p1 p2 =
    if s.wake.waking then s.faultWaits code p1 p2
    else ((s.faultWaits code p1 p2).setWake fun w => { w with waking := true }).wr CORE.MODE_WAKE_SRC 9 := by
  unfold State.raise
  split
  next h => exact absurd (hb.symm.trans h) (by decide)
  next => rfl
  next h => exact absurd (hb.symm.trans h) (by decide)
  next h => exact absurd (hb.symm.trans h) (by decide)

/-- The entries that a burst evaluates have been evaluated. -/
def State.tallyEntries (s : State) : State :=
  ((List.range s.thermCount).filter fun k => tallyEntry (s.thermEntry k)).foldl (fun s k => s.evalEntry k) s

theorem tallyEval_fst (s : State) : s.tallyEval.1 =
    (List.range 6).foldl (fun s src => s.episode src) (s.tallyEntries.wr THERM.STAT_CROSSED s.tallyEntries.crossedMask) := by
  simp only [State.tallyEval, State.tallyEntries]

section
variable {s t : State} (h : InBurst burstFlds s t)
include h

theorem InBurst.raise (code p1 p2 : Nat) : InBurst burstFlds s (t.raise code p1 p2) := by
  have hwaits : InBurst burstFlds s (t.faultWaits code p1 p2) := ⟨h.regs, h.rest, h.base, h.waking⟩
  rw [raise_tally h.base]
  split
  · exact hwaits
  · exact hwaits.woken.wr _ (by simp)

theorem InBurst.modSrc (i : Nat) (f : ThermSrc → ThermSrc) : InBurst burstFlds s (t.modSrc i f) := h.same rfl rfl

theorem InBurst.markSource {src : Nat} (hs : src ≠ 5) (code : Nat) : InBurst burstFlds s (t.markSource src code) := by
  by_cases hout : 4060 < code ∨ code < 35
  · have hmarked : InBurst burstFlds s (t.sourceMarked src code) := by
      refine (h.modSrc src fun x => { x with good := 0 }).wr _ ?_
      unfold markFld
      split <;> simp
    rw [markSource_out hout, if_neg hs]
    split
    · exact hmarked
    · exact hmarked.raise _ _ _
  · unfold State.markSource
    rw [if_neg (by simpa using hout)]
    split
    · dsimp only
      split
      · exact h.modSrc src _
      · have hcleared : InBurst burstFlds s (((t.modSrc src fun x => { x with good := 0 }).wrBit THERM.SENSOR_OPEN src false).wrBit
            THERM.SENSOR_SHORT src false) := ((h.modSrc src _).wr _ (by simp)).wr _ (by simp)
        split
        · exact hcleared.same rfl rfl
        · exact hcleared
    · exact h

theorem InBurst.takeTemp {src : Nat} (hs : src < 5) (x : Int) : InBurst burstFlds s (t.takeTemp src x) := by
  have hfld : tempFld src ∈ burstFlds := List.mem_append_left _ (List.mem_map_of_mem (List.mem_range.mpr hs))
  have hpushed : InBurst burstFlds s ((t.wrI (tempFld src) x).pushTemp src x) := (h.wr _ hfld).modSrc src _
  unfold State.takeTemp
  dsimp only
  split
  · exact hpushed.same rfl rfl
  · exact hpushed

theorem InBurst.takeThm {n : Nat} (hn : n < 4) (code : Nat) : InBurst burstFlds s (t.takeThm n code) := by
  unfold State.takeThm
  dsimp only
  split
  · exact (h.markSource (by omega) _).takeTemp (by omega) _
  · exact h.wr _ (List.mem_append_left _ (List.mem_map_of_mem (List.mem_range.mpr (by omega))))

theorem InBurst.takeTelemetry (m : TempSample) : InBurst burstFlds s (t.takeTelemetry m) :=
  ((((h.takeTemp (src := 0) (by decide) m.die.toInt).takeThm (n := 0) (by decide) m.thm0.toNat).takeThm (n := 1) (by decide)
    m.thm1.toNat).takeThm (n := 2) (by decide) m.thm2.toNat).takeThm (n := 3) (by decide) m.thm3.toNat

theorem InBurst.lfxoComp (die : Int) : InBurst burstFlds s (t.lfxoComp die) :=
  (h.same (u := { t with bg := { t.bg with corr := (t.lfxoComp die).bg.corr, gapDie := some die } }) rfl rfl).ofOnly
    (only_mono (only_lfxoComp t die) (by simp))

theorem InBurst.bufferRecord (ty : Nat) (payload : List Nat) : InBurst burstFlds s (t.bufferRecord ty payload) := by
  unfold State.bufferRecord
  split
  · exact h.same rfl rfl
  · exact h.wr _ (by simp)

theorem InBurst.episode (src : Nat) : InBurst burstFlds s (t.episode src) := by
  unfold State.episode
  dsimp only
  split
  · split
    · exact h
    · exact h.modSrc src _
  · split
    · exact (h.bufferRecord _ _).modSrc src _
    · exact h.modSrc src _

theorem InBurst.tallyEval : InBurst burstFlds s t.tallyEval.1 := by
  have hentries : InBurst burstFlds s t.tallyEntries := h.foldl _ fun x k hx _ => hx.same rfl rfl
  rw [tallyEval_fst]
  exact (hentries.wr _ (by simp)).foldl _ fun x src hx _ => hx.episode src

end

/-! ### The steps of a burst (R300) -/

theorem InBurst.wakeBy {w : List Fld} {s t : State} (h : InBurst w s t) (he : t.wake.entering = false)
    (hf : CORE.MODE_WAKE_SRC ∈ w) (code : Nat) (bootSrc : Bool) : InBurst w s (t.wakeBy code bootSrc) := by
  rw [wakeBy_tally code bootSrc h.base he]
  exact h.woken.wr code hf

/-- Step 4 of the first burst and of every 60th calibrates the ADC. -/
def State.burstBegun (s : State) (last : Nat) (adc : AdcReading) : State :=
  if 4 ≤ last && s.bg.bursts % 60 == 0 then (s.setBg fun b => { b with bursts := b.bursts + 1 }).adcCalibrated adc
  else s.setBg fun b => { b with bursts := b.bursts + 1 }

section
variable (s : State) (last : Nat) (m : TempSample) (adc : AdcReading)

/-- What the start of a burst leaves as it was. -/
theorem burstBegun_same {α : Type} (f : State → α)
    (hf : ∀ (x : State) (r : Store Word) (b : Bg) (n : Nat), f { x with regs := r, bg := b, free := n } = f x := by intros; rfl) :
    f (s.burstBegun last adc) = f s := by
  unfold State.burstBegun
  split
  · rw [(only_adcCalibrated _ adc).1]
    exact hf s _ _ _
  · exact hf s s.regs _ s.free

theorem bursts_burstBegun : (s.burstBegun last adc).bg.bursts = s.bg.bursts + 1 := by
  unfold State.burstBegun
  split
  · rw [adcCalibrated_eq]
    rfl
  · rfl

theorem regsBut_burstBegun : Safety.regsBut [CORE.BG_CAL_ADC_OK, THERM.ADC_STAT_PREEMPTS] s (s.burstBegun last adc) := by
  unfold State.burstBegun
  split
  · exact regsBut_of_only (only_adcCalibrated _ adc) rfl
  · exact fun _ _ => rfl

variable {s last} in
theorem adcOk_burstBegun (hl : 4 ≤ last) (h : s.bg.bursts % 60 = 0) : (s.burstBegun last adc).rd CORE.BG_CAL_ADC_OK = 1 := by
  rw [State.burstBegun, if_pos (by simp [hl, h])]
  exact (adcCalibrated_fields _ adc).1

/-- The conversions of a burst have been evaluated, and whether a threshold wakes the device. -/
def State.burstEval (s : State) (m : TempSample) : State × Bool := ((s.lfxoComp m.die.toInt).takeTelemetry m).tallyEval

theorem InBurst.burstEval {s t : State} (h : InBurst burstFlds s t) : InBurst burstFlds s (t.burstEval m).1 :=
  ((h.lfxoComp _).takeTelemetry m).tallyEval

theorem burstSamples_eq : s.burstSamples last m adc =
    if 6 ≤ last then
      (if ((s.burstBegun last adc).burstEval m).2 then ((s.burstBegun last adc).burstEval m).1.wakeBy 8 false
       else ((s.burstBegun last adc).burstEval m).1)
    else s.burstBegun last adc := by
  unfold State.burstSamples
  dsimp only
  rw [← State.burstBegun, ← State.burstEval]
  generalize (s.burstBegun last adc).burstEval m = x
  obtain ⟨t, _ | _⟩ := x <;> rfl

variable {s} in
theorem inBurst_burstSamples (hb : s.base = .tally) (he : s.wake.entering = false) :
    InBurst burstFlds (s.burstBegun last adc) (s.burstSamples last m adc) := by
  have hbegun : (s.burstBegun last adc).base = .tally := (burstBegun_same s last adc State.base).trans hb
  have hentering : (s.burstBegun last adc).wake.entering = false :=
    (burstBegun_same s last adc fun x => x.wake.entering).trans he
  have heval : InBurst burstFlds (s.burstBegun last adc) ((s.burstBegun last adc).burstEval m).1 :=
    (InBurst.refl _ hbegun).burstEval m
  rw [burstSamples_eq]
  split
  · split
    · exact heval.wakeBy (heval.entering.trans hentering) (by simp) _ _
    · exact heval
  · exact InBurst.refl _ hbegun

end

/-! The scrub chunk of a burst. -/

theorem CeOnly.same {α : Type} {w : List Fld} {s t : State} (h : CeOnly w s t) (f : State → α)
    (hf : ∀ (x : State) (r : Store Word) (a b : List Nat), f { x with regs := r, sramCe := a, keepCe := b } = f x := by intros; rfl) :
    f t = f s := by
  rw [h.1]
  exact hf s _ _ _

section
variable (s : State)

theorem ceOnly_scrubMain (hi : Nat) : CeOnly scrubPassFlds s (s.scrubMain hi) := by
  have hscrub := (ceOnly_scrub s .sram (s.rd CORE.BG_SCRUB_POS_WORD) hi).mono (scrubFlds_sub_passFlds _)
  unfold State.scrubMain
  dsimp only
  split
  · exact hscrub.trans (.of_only (only_wr (only_wr (only_refl _ _))))
  · exact hscrub.trans ((CeOnly.of_only (only_passCounted _)).mono (by simp))

theorem ceOnly_scrubChunk (n : Nat) : CeOnly scrubPassFlds s (s.scrubChunk n) := by
  unfold State.scrubChunk
  dsimp only
  split
  · exact (ceOnly_scrubMain s _).trans (ceOnly_scrubMain _ _)
  · exact ceOnly_scrubMain s _

variable {s} in
theorem inBurst_scrubKeep (hb : s.base = .tally) (n : Nat) : InBurst scrubPassFlds s (s.scrubKeep n) ∧ (s.scrubKeep n).wake = s.wake := by
  have hkeep := ((ceOnly_scrub s .keep s.bg.keepPos (min keepWords (s.bg.keepPos + n))).trans
    (ceOnly_scrub _ .keep 0 (s.bg.keepPos + n - keepWords))).mono (scrubFlds_sub_passFlds _)
  exact ⟨(InBurst.ofCeOnly hb hkeep).same rfl rfl, hkeep.same State.wake⟩

/-- A chunk of the scrubber leaves nothing of a burst changed, nor the wake. -/
theorem inBurst_burstScrub (last : Nat) (hb : s.base = .tally) :
    InBurst scrubPassFlds s (s.burstScrub last) ∧ (s.burstScrub last).wake = s.wake := by
  have hchunk (n : Nat) : InBurst scrubPassFlds s (s.scrubChunk n) := .ofCeOnly hb (ceOnly_scrubChunk s n)
  have hwake (n : Nat) : (s.scrubChunk n).wake = s.wake := (ceOnly_scrubChunk s n).same State.wake
  unfold State.burstScrub
  split
  · exact ⟨.refl _ hb, rfl⟩
  · split
    · exact ⟨hchunk _, hwake _⟩
    · obtain ⟨hkeep, hsame⟩ := inBurst_scrubKeep (hchunk 8192).base 1024
      exact ⟨(hchunk _).trans hkeep, hsame.trans (hwake _)⟩

end

theorem inBurst_telemetry {s : State} (hb : s.base = .tally) (vin : Nat) (m : TempSample) :
    InBurst [CORE.BG_TELEM_NEXT] s (s.telemetry vin m) := by
  have hwake : (s.telemetry vin m).wake = s.wake := telemetry_same s vin m State.wake
  exact ⟨regsBut_telemetry s vin m, telemetry_same s vin m State.burstRest, (telemetry_same s vin m State.base).trans hb,
    fun hw => by rw [hwake]; exact hw⟩

/-! ### TALLY_BURST (R300) -/

/-- The wake source that ends a burst, where it is enabled, and the last step that the burst then takes. -/
def State.burstFires (s : State) (wake : Option (Fin 9 × WakeSource)) : Option (Fin 9 × WakeSource) :=
  wake.filter fun w => s.wakeEnabled w.2
def burstLast (fires : Option (Fin 9 × WakeSource)) : Nat := (fires.map fun w => w.1.val + 1).getD 9

/-- The level of a wake pin that fires is seen. -/
def State.pinSeen (s : State) (wake : Option (Fin 9 × WakeSource)) : State :=
  match wake with
  | some (_, .pin k) => s.pinLevel k.val (s.rdBit CORE.WAKE_CFG_PIN_POL k.val)
  | _ => s

/-- The last step of a burst whose samples have led to `t`: step 6 ends it by waking the device. -/
def burstStop (t : State) (last : Nat) : Nat := if t.wake.waking then 6 else last

/-- The samples and the scrub chunk of a burst. -/
def State.burstScrubbed (s : State) (last : Nat) (m : TempSample) (adc : AdcReading) : State :=
  (s.burstSamples last m adc).burstScrub (burstStop (s.burstSamples last m adc) last)

/-- The steps of a burst up to its end. -/
def State.burstRun (s : State) (last vin : Nat) (m : TempSample) (adc : AdcReading) : State :=
  if 8 ≤ burstStop (s.burstSamples last m adc) last && (s.burstScrubbed last m adc).flag CORE.BG_CTL_TELEM_EN then
    (s.burstScrubbed last m adc).telemetry vin m
  else s.burstScrubbed last m adc

/-- A wake source that ends the burst wakes the device, unless step 6 has. -/
def State.wakeAfter (s : State) (fires : Option (Fin 9 × WakeSource)) : State :=
  match fires with
  | some w => if s.wake.waking then s else s.wakeBy (wakeCode w.2) false
  | none => s

theorem pinSeen_eq (s : State) (wake : Option (Fin 9 × WakeSource)) :
    s.pinSeen wake = { s with wake := { s.wake with levels := (s.pinSeen wake).wake.levels } } := by
  unfold State.pinSeen
  split <;> rfl

theorem pinSeen_same (s : State) (wake : Option (Fin 9 × WakeSource)) {α : Type} (f : State → α)
    (hf : ∀ (x : State) (l : Nat), f { x with wake := { x.wake with levels := l } } = f x := by intros; rfl) :
    f (s.pinSeen wake) = f s := by
  rw [pinSeen_eq]
  exact hf s _

theorem wakeEnabled_pinSeen (s : State) (wake : Option (Fin 9 × WakeSource)) (w : WakeSource) :
    (s.pinSeen wake).wakeEnabled w = s.wakeEnabled w :=
  pinSeen_same s wake (fun x => x.wakeEnabled w) fun _ _ => by cases w <;> rfl

theorem exec_tallyBurst {s : State} (hr : s.inReset = false) (hb : s.base = .tally) (hw : s.wake.waking = false) (v : BitVec 16)
    (m : TempSample) (adc : AdcReading) (wake : Option (Fin 9 × WakeSource)) : exec (.tallyBurst v m adc wake) s =
      .next (((s.pinSeen wake).burstRun (burstLast (s.burstFires wake)) v.toNat m adc).wakeAfter (s.burstFires wake)) := by
  have hfires : (s.pinSeen wake).burstFires wake = s.burstFires wake := by
    simp only [State.burstFires, wakeEnabled_pinSeen]
  rw [← hfires]
  exact if_pos (by simp [hr, hb, hw])

section
variable {s : State} (hb : s.base = .tally) (he : s.wake.entering = false) (last vin : Nat) (m : TempSample) (adc : AdcReading)
include hb he

theorem inBurst_burstScrubbed : InBurst (burstFlds ++ scrubPassFlds) (s.burstBegun last adc) (s.burstScrubbed last m adc) ∧
    (s.burstScrubbed last m adc).wake = (s.burstSamples last m adc).wake := by
  have hsampled := inBurst_burstSamples last m adc hb he
  obtain ⟨hscrubbed, hwake⟩ := inBurst_burstScrub (s.burstSamples last m adc) (burstStop (s.burstSamples last m adc) last) hsampled.base
  exact ⟨(hsampled.mono fun g => List.mem_append_left _).trans (hscrubbed.mono fun g => List.mem_append_right _), hwake⟩

theorem inBurst_burstRun : InBurst (burstFlds ++ scrubPassFlds ++ [CORE.BG_TELEM_NEXT]) (s.burstBegun last adc) (s.burstRun last vin m adc) ∧
    (s.burstRun last vin m adc).wake = (s.burstSamples last m adc).wake := by
  obtain ⟨hscrubbed, hwake⟩ := inBurst_burstScrubbed hb he last m adc
  have hscrubbed' := hscrubbed.mono fun g => List.mem_append_left (bs := [CORE.BG_TELEM_NEXT])
  unfold State.burstRun
  split
  · exact ⟨hscrubbed'.trans ((inBurst_telemetry hscrubbed.base vin m).mono fun g => List.mem_append_right _),
      (telemetry_same _ vin m State.wake).trans hwake⟩
  · exact ⟨hscrubbed', hwake⟩

/-- The ring moves on in step 8 alone, and only while TELEM_EN is 1. -/
theorem next_burstRun : (s.burstRun last vin m adc).rd CORE.BG_TELEM_NEXT =
    if 8 ≤ burstStop (s.burstRun last vin m adc) last ∧ s.rd CORE.BG_CTL_TELEM_EN = 1 then (s.rd CORE.BG_TELEM_NEXT + 1) % 64
    else s.rd CORE.BG_TELEM_NEXT := by
  obtain ⟨hscrubbed, -⟩ := inBurst_burstScrubbed hb he last m adc
  have hstop : burstStop (s.burstRun last vin m adc) last = burstStop (s.burstSamples last m adc) last := by
    rw [burstStop, (inBurst_burstRun hb he last vin m adc).2, burstStop]
  have hnext : (s.burstScrubbed last m adc).rd CORE.BG_TELEM_NEXT = s.rd CORE.BG_TELEM_NEXT :=
    (hscrubbed.regs _ (by decide)).trans (regsBut_burstBegun s last adc _ (by decide))
  have hen : (s.burstScrubbed last m adc).rd CORE.BG_CTL_TELEM_EN = s.rd CORE.BG_CTL_TELEM_EN :=
    (hscrubbed.regs _ (by decide)).trans (regsBut_burstBegun s last adc _ (by decide))
  have hflag : (s.burstScrubbed last m adc).flag CORE.BG_CTL_TELEM_EN = true ↔ s.rd CORE.BG_CTL_TELEM_EN = 1 := by
    have hlt : s.rd CORE.BG_CTL_TELEM_EN < 2 := State.rd_lt s CORE.BG_CTL_TELEM_EN
    rw [State.flag, hen, bne_iff_ne]
    omega
  rw [hstop, State.burstRun]
  simp only [Bool.and_eq_true, decide_eq_true_eq, hflag]
  split
  · rw [next_telemetry, hnext]
  · exact hnext

end

theorem burstStop_waking (t : State) (last : Nat) (h : t.wake.waking = true) : burstStop t last = 6 := if_pos h

theorem inBurst_wakeAfter {s : State} (hb : s.base = .tally) (he : s.wake.entering = false) (fires : Option (Fin 9 × WakeSource)) :
    InBurst [CORE.MODE_WAKE_SRC] s (s.wakeAfter fires) := by
  unfold State.wakeAfter
  split
  · split
    · exact .refl _ hb
    · exact (InBurst.refl _ hb).wakeBy he (by simp) _ _
  · exact .refl _ hb

theorem waking_wakeAfter {s : State} (hb : s.base = .tally) (he : s.wake.entering = false) (w : Fin 9 × WakeSource) :
    (s.wakeAfter (some w)).wake.waking = true := by
  unfold State.wakeAfter
  dsimp only
  split
  · assumption
  · rw [wakeBy_tally _ _ hb he]
    rfl

end Sys2Proof.Machine
end

section
/-! PROOFS. A whole TALLY burst, and with it the statement on THERM. -/

namespace Sys2Proof.Machine

-- In parallel these proofs take more memory than the check allows.
set_option Elab.async false

/-! ### A whole burst (R300) -/

section
variable {s : State} (hb : s.base = .tally) (he : s.wake.entering = false) (v : BitVec 16) (m : TempSample) (adc : AdcReading)
  (wake : Option (Fin 9 × WakeSource))

/-- The burst, and the wake that ends it. -/
def State.burstEnded (s : State) (v : BitVec 16) (m : TempSample) (adc : AdcReading) (wake : Option (Fin 9 × WakeSource)) : State :=
  ((s.pinSeen wake).burstRun (burstLast (s.burstFires wake)) v.toNat m adc).wakeAfter (s.burstFires wake)

include hb he

theorem pinSeen_run : (s.pinSeen wake).base = .tally ∧ (s.pinSeen wake).wake.entering = false :=
  ⟨(pinSeen_same s wake State.base).trans hb, (pinSeen_same s wake fun x => x.wake.entering).trans he⟩

theorem burstRun_pinSeen (last : Nat) : ((s.pinSeen wake).burstRun last v.toNat m adc).base = .tally ∧
    ((s.pinSeen wake).burstRun last v.toNat m adc).wake.entering = false := by
  obtain ⟨hbase, hentering⟩ := pinSeen_run hb he wake
  obtain ⟨hrun, -⟩ := inBurst_burstRun hbase hentering last v.toNat m adc
  exact ⟨hrun.base, hrun.entering.trans ((burstBegun_same _ last adc fun x => x.wake.entering).trans hentering)⟩

theorem inBurst_burstEnded : InBurst (burstFlds ++ scrubPassFlds ++ [CORE.BG_TELEM_NEXT])
    ((s.pinSeen wake).burstBegun (burstLast (s.burstFires wake)) adc) (s.burstEnded v m adc wake) := by
  obtain ⟨hbase, hentering⟩ := pinSeen_run hb he wake
  obtain ⟨hrunBase, hrunEntering⟩ := burstRun_pinSeen hb he v m adc wake (burstLast (s.burstFires wake))
  exact (inBurst_burstRun hbase hentering _ v.toNat m adc).1.trans
    ((inBurst_wakeAfter hrunBase hrunEntering _).mono (by simp))

/-- A field that no step of a burst changes. -/
theorem rd_burstEnded {f : Fld} (hf : ∀ g ∈ burstFlds ++ scrubPassFlds ++ [CORE.BG_TELEM_NEXT], g.apart f = true)
    (hc : ∀ g ∈ [CORE.BG_CAL_ADC_OK, THERM.ADC_STAT_PREEMPTS], g.apart f = true) : (s.burstEnded v m adc wake).rd f = s.rd f :=
  ((inBurst_burstEnded hb he v m adc wake).regs f hf).trans
    ((regsBut_burstBegun _ _ adc f hc).trans (pinSeen_same s wake fun x => x.rd f))

/-- Of the state beside the registers a burst changes the count of bursts alone. -/
theorem rest_burstEnded : (s.burstEnded v m adc wake).burstRest = (false, s.cmds, s.queues, s.otp, s.sram, s.bg.bursts + 1) := by
  have hbegun {α : Type} (f : State → α)
      (hf : ∀ (x : State) (r : Store Word) (b : Bg) (n : Nat), f { x with regs := r, bg := b, free := n } = f x)
      (hl : ∀ (x : State) (l : Nat), f { x with wake := { x.wake with levels := l } } = f x) :
      f ((s.pinSeen wake).burstBegun (burstLast (s.burstFires wake)) adc) = f s :=
    (burstBegun_same _ _ adc f hf).trans (pinSeen_same s wake f hl)
  rw [(inBurst_burstEnded hb he v m adc wake).rest, State.burstRest, bursts_burstBegun,
    hbegun (fun x => x.wake.entering) (by intros; rfl) (by intros; rfl), he, hbegun State.cmds (by intros; rfl) (by intros; rfl),
    hbegun State.queues (by intros; rfl) (by intros; rfl), hbegun State.otp (by intros; rfl) (by intros; rfl),
    hbegun State.sram (by intros; rfl) (by intros; rfl), pinSeen_same s wake fun x => x.bg.bursts]

/-- A wake source that fires in a burst wakes the device. -/
theorem waking_burstEnded {w : Fin 9 × WakeSource} (h : s.burstFires wake = some w) : (s.burstEnded v m adc wake).wake.waking = true := by
  obtain ⟨hrunBase, hrunEntering⟩ := burstRun_pinSeen hb he v m adc wake (burstLast (some w))
  rw [State.burstEnded, h]
  exact waking_wakeAfter hrunBase hrunEntering w

/-- Where the ring stands after a burst. -/
theorem next_burstEnded : (s.burstEnded v m adc wake).rd CORE.BG_TELEM_NEXT =
    if 8 ≤ burstStop ((s.pinSeen wake).burstRun (burstLast (s.burstFires wake)) v.toNat m adc) (burstLast (s.burstFires wake)) ∧
        s.rd CORE.BG_CTL_TELEM_EN = 1 then
      (s.rd CORE.BG_TELEM_NEXT + 1) % 64
    else s.rd CORE.BG_TELEM_NEXT := by
  obtain ⟨hbase, hentering⟩ := pinSeen_run hb he wake
  obtain ⟨hrunBase, hrunEntering⟩ := burstRun_pinSeen hb he v m adc wake (burstLast (s.burstFires wake))
  have hpin (f : Fld) : (s.pinSeen wake).rd f = s.rd f := pinSeen_same s wake fun x => x.rd f
  rw [State.burstEnded, (inBurst_wakeAfter hrunBase hrunEntering _).regs _ (by decide), next_burstRun hbase hentering, hpin, hpin]

end

/-- Settles O18: marks and thresholds by their case, a monitor sample and the telemetry by what they take, a burst by `InBurst`, which
each of its steps keeps, and SAMPLE by the write of its words. -/
theorem thermalMonitor : Obligations.ThermalMonitor := by
  refine ⟨⟨fun s src code hs hc hout => ?out, fun s src code hs hlo hhi hm hl => ?good, fun s k hk hlen => ?entry⟩,
    ⟨fun m s ha hr => ?monitor, fun s src t hs hl hlo hhi => ?temp, fun s t d hf ha => bg_takeTemp_die s t ▸ dieSeen_due hf ha,
      fun v m s ha ht hu => ?telemetry, fun v m s ha ht => ?compensation, fun v m r wake s hr hb hw he => ?burst,
      fun t s hr hb => if_neg (by simp [hr, hb]), fun s j js ha hp hj hstage => ?pause⟩,
    fun tag codes s c hc ho hs ha hr hf hk hw hu => ?sample,
    fun tag codes s c hc ho hs ha hr hf hk => exec_sample_bad hc ho hs ha hr hf codes hk⟩
  case out =>
    obtain ⟨hopen, hshort⟩ := sourceMarked_bits hs hout
    exact ⟨s.sourceMarked src code, markSource_out hout, hopen, hshort, only_sourceMarked s src code⟩
  case good =>
    refine ⟨fun h => ?_, marked_markSource_eighth hlo hhi hm hs⟩
    rw [markSource_counts hlo hhi hm h]
    exact ⟨(marked_congr (fun _ => rfl) src).trans hm, congrArg ThermSrc.good (thermSrc_modSrc _ hl)⟩
  case entry =>
    intro e st st'
    have hnext : st' = s.entryNext k := (getD_evalEntry hk hlen k).trans (if_pos rfl)
    refine ⟨fun hc hh => ?_, fun hc hh => ?_, fun hc hh hold => ?_, fun hc hh => ?_, fun j hj => (getD_evalEntry hk hlen j).trans (if_neg hj)⟩
    · rw [hnext, entryNext_idle hc, if_pos hh]
    · rw [hnext, entryNext_idle hc, if_neg (by rw [hh]; exact Bool.false_ne_true)]
    · rw [hnext, entryNext_crossed hc, if_pos ⟨hh, hold⟩]
    · rw [hnext, entryNext_crossed hc, if_neg]
      rintro ⟨hcool, hold⟩
      rcases hh with h | h
      · exact Bool.false_ne_true (h.symm.trans hcool)
      · exact absurd hold (Nat.not_le.mpr h)
  case monitor =>
    intro x
    exact if_pos (by rw [ha, hr]; rfl)
  case temp =>
    exact ⟨rdI_takeTemp s hs hlo hhi, srcTemp_takeTemp t hl, bg_takeTemp_other s t, only_takeTemp s src t⟩
  case telemetry =>
    obtain ⟨hnext, hhead, hbytes⟩ := telemetered_ring v m hu
    exact ⟨s.telemetered v m, exec_telemetrySample_on v m ha ht, hnext, hhead, hbytes, regsBut_telemetered s v m, telemetered_rest v m hu⟩
  case compensation => exact ⟨_, exec_telemetrySample_off v m ha ht, only_lfxoComp s _⟩
  case burst =>
    have hrest := rest_burstEnded hb he v m r wake
    have hnext := next_burstEnded hb he v m r wake
    refine ⟨s.burstEnded v m r wake, exec_tallyBurst hr hb hw v m r wake, congrArg (fun x => x.2.2.2.2.2) hrest,
      (inBurst_burstEnded hb he v m r wake).base, rd_burstEnded hb he v m r wake (by decide) (by decide),
      congrArg (fun x => x.2.1) hrest, congrArg (fun x => x.2.2.1) hrest, congrArg (fun x => x.2.2.2.1) hrest, ?_, ?_, ?_, ?_, ?_, ?_⟩
    · rintro rfl hfirst
      exact ((inBurst_burstEnded hb he v m r none).regs _ (by decide)).trans (adcOk_burstBegun r (show 4 ≤ 9 by decide) hfirst)
    · rintro k w rfl hen
      exact waking_burstEnded hb he v m r _ (Option.filter_some_pos hen)
    · rintro rfl hwaking
      rw [hnext, if_neg]
      rintro ⟨hstop, -⟩
      exact absurd (hstop.trans_eq (burstStop_waking _ _ hwaking)) (by decide)
    · intro hoff
      rw [hnext, if_neg]
      rintro ⟨-, hon⟩
      exact absurd (hoff.symm.trans hon) (by decide)
    · intro hwaking hon
      cases hfires : s.burstFires wake with
      | some w => exact absurd (hwaking.symm.trans (waking_burstEnded hb he v m r wake hfires)) Bool.false_ne_true
      | none =>
        rw [State.burstEnded, hfires] at hwaking
        have hstop : burstStop ((s.pinSeen wake).burstRun (burstLast none) v.toNat m r) 9 = 9 :=
          if_neg fun h => Bool.false_ne_true (hwaking.symm.trans h)
        rw [hfires] at hnext
        exact hnext.trans (if_pos ⟨(show 8 ≤ 9 by decide).trans_eq hstop.symm, hon⟩)
    · have hsram : (s.burstEnded v m r wake).sram = s.sram := congrArg (fun x => x.2.2.2.2.1) hrest
      intro a
      simp only [State.byte, State.cells, hsram]
  case pause =>
    show execPauseTimeout s = _
    simp [execPauseTimeout, ha, hp, hj, hstage]
  case sample =>
    intro cs w
    have hstored := sramStored_writeMem hu c.p1 w
    exact ⟨s.writeMem .sram c.p1 w, exec_sample_ok hc ho hs ha hr hf codes hk hw, fun i => byte_writeMem_inside hu c.p1,
      fun a => byte_writeMem_outside hu, hstored.regs, hstored.rest⟩

end Sys2Proof.Machine
end
